-- ==== Sys2Proof/Word.lean ====
section
/-!
DEFINITION. The words the block is built from: register words, bytes, a register field's place (R5, R28), and the
small closed vocabularies the whole manual uses (paths, severities, requesters).
-/
namespace Sys2Proof

/-- One 32-bit BAR0 register word ("Register tables", chapter 00). -/
abbrev Word := BitVec 32

/-- One byte of a frame, an image, a message or a serial line. -/
abbrev Byte := BitVec 8

/-- The place of one register field: BAR0 offset of the register (its LO half where it is 64 bits wide, R47), lowest
bit, and width. -/
structure Fld where
  addr : Nat
  lo   : Nat
  w    : Nat
  deriving DecidableEq, Repr

/-- The two fibre paths ("Hub, terminal and paths", chapter 00). -/
inductive Path where
  | a | b
  deriving DecidableEq, Repr

/-- Event severities, highest first (R431). -/
inductive Sev where
  | black | crimson | amber | grey
  deriving DecidableEq, Repr

/-- Who makes an access into BAR0 (R386): one of 16 PCIe functions (0 is the PF), one of the eight policy cores, or
the warden. -/
inductive Requester where
  | fn (i : Fin 16)
  | core (c : Fin 8)
  | warden
  deriving DecidableEq, Repr

/-- A line lane pair: 0 to 63 are LA_00 to LA_63, 64 to 127 are LB_00 to LB_63 (R12). -/
abbrev Lane := Fin 128

/-- A packet region, 0 to 3 (R14). -/
abbrev PktRegion := Fin 4

end Sys2Proof
end

