-- ==== Sys2Proof/Wire.lean ====
section
/-!
DEFINITION. What the commands of the block carry: the downstream frame as a lane's decoder hands it on, the frames of
the client lanes, descriptors of the host rings, and the small selections a command names.
Everything measured or drawn outside the block (powers, temperatures, random draws, outcomes of the host link, of the
optics, of a memory) is an operand of its command.
-/
namespace Sys2Proof

/-- One downstream frame of one channel after RS decoding (R109 to R112). `syncErr` counts the bits of the 120 sync bits
that differ from R111; `hdr` is bits 120 to 407 of codeword 0 as 36 bytes; `uncorr` lists the uncorrectable codewords in
rising order and `corrected` counts the corrected symbols; `grants` holds the 48-bit entries of grant-map codewords 1,
2, …; `lcm` the 64-byte slots of codewords 25 to 32, ten to a codeword; `mgt` the 641-byte blocks of codewords 33 to 36;
`payload` the bytes of the payload area from byte 0 (the rest of the area is zeros); `tribs` the bytes of the channel's
containers by container index, from byte 0 (R123; what a list leaves out at its end is idle fill). `offset` is the channel's own timing against its path's reference channel in 1/16 symbols (R175). -/
structure DsFrame where
  syncErr   : Nat
  hdr       : List Byte
  uncorr    : List Nat
  corrected : Nat
  grants    : List (List Nat)
  lcm       : List (List Byte)
  mgt       : List (List Byte)
  payload   : List Byte
  tribs     : List (Nat × List Byte)
  offset    : Int
  deriving DecidableEq, Repr

/-- A transmit descriptor of a host ring as HIF reads it, with the frame it points to (R396, R397): host address,
length, the frame's bytes, and whether the PCIe read of the frame failed or returned poisoned data. -/
structure TxDesc where
  addr  : Nat
  len   : Nat
  bytes : List Byte
  bad   : Bool
  deriving DecidableEq, Repr

/-- A posted receive descriptor as HIF reads it (R399): buffer address and size, and whether the PCIe write into the
buffer fails. -/
structure RxPost where
  addr   : Nat
  bufLen : Nat
  bad    : Bool
  deriving DecidableEq, Repr

/-- What the PCS of a client lane found while a frame of a transparent port came (R256, R266): an error of its own, and the FEC
codewords that it corrected and could not correct. -/
structure LaneErr where
  pcs    : Bool
  corr   : Nat
  uncorr : Nat
  deriving DecidableEq, Repr

/-- What MEM finds on a memory channel (R336): a multiplexed-rank DIMM or a registered one, its rate in MT/s, its size in
GiB, and whether its training succeeds. -/
structure Dimm where
  mr   : Bool
  rate : Nat
  gib  : Nat
  ok   : Bool
  deriving DecidableEq, Repr

/-- The four codes of a temperature sensor (R423, PWR_TEMP): the die sensors, the HBM stacks and the engines. -/
inductive Sensor where
  | die (k : Fin 4)
  | hbm (n : Fin 4)
  | engine (e : Fin 8)
  deriving DecidableEq, Repr

/-- The two kinds of host ring (R395). -/
inductive RingKind where
  | tx | rx
  deriving DecidableEq, Repr

/-- A source of a coalesced ring interrupt (R404): a transmit or a receive ring. -/
structure RingId where
  kind : RingKind
  idx  : Fin 64
  deriving DecidableEq, Repr

/-- The units that ramp under the power-peak token (R422). -/
inductive Ramp where
  | region (n : Fin 4)
  | line
  | control
  | engine (e : Fin 8)
  deriving DecidableEq, Repr

/-- A failed event-log memory (R443): the flash or the RAM ring, and the failing address. -/
structure StoreFail where
  flash : Bool
  addr : BitVec 32
  deriving DecidableEq, Repr

/-- A resource of a structural scope (R52): client lane, packet region, line channel. -/
inductive ScopeRes where
  | clientLane (k : Fin 128)
  | region (n : PktRegion)
  | chan (l : Lane)
  deriving DecidableEq, Repr

end Sys2Proof
end

