-- ==== Sys2Proof/Syntax.lean ====
section
/-!
DEFINITION. The commands of the block: one constructor per row of spec/opcode_table.json, in the table's order (those without
operands last, which the compiler needs of so large a type), with the
operands the row's rule gives it. Measurements, random draws and the content of frames and messages are operands.
-/
namespace Sys2Proof

/-- A command or event of the GZ6425 (spec/opcode_table.json). -/
inductive Instr where
  /-- RESET_N_LOW (R412): RESET_N is held low for at least 10 µs, giving a module reset that restarts at S0 without a ramp. -/
  | resetNLow (bad : Option StoreFail)
  /-- ALARM_ARM (R43): A write of LTU_ALM_CTRL.arm arms an alarm, or refuses it with CLASS, RANGE, LATE_ARM, NO_TIME or PATH_DOWN. -/
  | alarmArm (r : Requester) (k : Fin 256) (ctrl : Word)
  /-- ALARM_DISARM (R43): A write of LTU_ALM_STATUS.disarm disarms an alarm, or returns LOCKED. -/
  | alarmDisarm (r : Requester) (k : Fin 256)
  /-- ALARM_LOCK (R43): Two codewords before its time an armed alarm locks against disarm and re-arm. -/
  | alarmLock (k : Fin 256)
  /-- ALARM_FIRE (R43): An armed alarm reaches its codeword and fires in the dispatch order of R44; a periodic alarm re-arms itself. -/
  | alarmFire (k : Fin 256) (uw : BitVec 16)
  /-- READ_LO_64 (R47): A read of a LO half copies the HI half into the requester's read shadow. -/
  | readLo64 (r : Requester) (a : BitVec 28)
  /-- WRITE_LO_64 (R47): A write of a LO half is held in the requester's write shadow. -/
  | writeLo64 (r : Requester) (a : BitVec 28) (v : Word)
  /-- WRITE_HI_64 (R47): A write of a HI half writes both halves at once, from the shadow or with the current low half. -/
  | writeHi64 (r : Requester) (a : BitVec 28) (v : Word)
  /-- DOWNSTREAM_FRAME (R113): A lane processes one downstream frame: delineation, header check, lock, overhead and payload. -/
  | downstreamFrame (l : Lane) (f : DsFrame) (posts : List RxPost)
  /-- LOS_ASSERT (R94): Receive power falls below the assert threshold and LOS asserts within 2 µs. -/
  | losAssert (l : Lane) (pwr : Int)
  /-- LOS_CLEAR (R94): Receive power stays above threshold plus hysteresis for 10 µs and LOS clears. -/
  | losClear (l : Lane) (pwr : Int)
  /-- LOL_ASSERT (R94): A cycle slip or low equaliser SNR asserts LOL. -/
  | lolAssert (l : Lane) (slip : Bool) (snr : Nat)
  /-- LOL_CLEAR (R94): Lock is regained with SNR above threshold for 50 µs and LOL clears. -/
  | lolClear (l : Lane) (snr : Nat)
  /-- LANE_ESTABLISHED (R106): An ACTIVE receive lane that stays free of LOS, LOL and LOF for 50 µs becomes established. -/
  | laneEstablished (l : Lane)
  /-- CLOCK_LOCK (R93): A receive lane locks its clock on light. -/
  | clockLock (l : Lane)
  /-- ADAPTATION_COMPLETE (R93): The lane's equaliser finishes adapting and adapted becomes 1. -/
  | adaptationComplete (l : Lane) (snr : Nat)
  /-- WAVELENGTH_FAULT (R98): A wavelength error above 0.3 nm for 100 µs darkens the lane and sets wave_fault. -/
  | wavelengthFault (l : Lane) (err : Int)
  /-- WAVELENGTH_RECOVER (R98): The error returns within 0.2 nm and the lane is no longer dark. -/
  | wavelengthRecover (l : Lane) (err : Int)
  /-- LANE_TARGET_WRITE (R100): A write of LNK_LANE_PWR.target requests a new lane power state, which may be refused. -/
  | laneTargetWrite (r : Requester) (l : Lane) (target : Fin 8)
  /-- LANE_TRANSITION_DONE (R99): A lane reaches the next state on its way to its target. -/
  | laneTransitionDone (l : Lane)
  /-- LANE_REFUSE_CLEARED (R100): The last refusal reason clears and the lane leaves ACTIVE towards its target. -/
  | laneRefuseCleared (l : Lane)
  /-- ENGINE_POWERED (R101): An engine's supplies settle after its ramp, and the lane's exit from OFF begins. -/
  | enginePowered (e : Fin 8)
  /-- TRIM_RECOMPUTE (R102): Every 1 ms the LNK recomputes the temperature-dependent trims. -/
  | trimRecompute (e : Fin 8) (temp : Int)
  /-- RX_OFFSET_CAL (R102): A write of cal_run self-calibrates a lane's receiver offset. -/
  | rxOffsetCal (r : Requester) (l : Lane) (offset : Int)
  /-- SAF_BURST_PRESENT (R104): A burst presented to the SAF is admitted and charged, or held whole. -/
  | safBurstPresent (l : Lane)
  /-- SAF_CEIL_WRITE (R105): A P0 write lowers a fibre's ceiling; a higher value is discarded. -/
  | safCeilWrite (r : Requester) (q : Path) (ceil : BitVec 16)
  /-- FUSE_COMPARATOR_TRIP (R105): Total launch power above +23.0 dBm darkens the fibre and latches its fuse. -/
  | fuseComparatorTrip (q : Path)
  /-- SAF_FUSE_CLR (R105): A P0 write releases a fuse latch. -/
  | safFuseClr (r : Requester) (clrA : Bool) (clrB : Bool)
  /-- SAF_KILL (R107): A write of SAF_CTRL.kill darkens or releases a fibre's transmitters. -/
  | safKill (r : Requester) (killA : Bool) (killB : Bool)
  /-- REASSEMBLY_TIMEOUT (R120): A fragment context with no last fragment within reasm_to frames is discarded. -/
  | reassemblyTimeout (bonded : Bool) (q : Path) (n : Fin 64) (sid : BitVec 20)
  /-- MCH_UART_FRAME_RX (R135): A byte-stuffed frame received on the sink is checked and queued upstream. -/
  | mchUartFrameRx (bytes : List Byte)
  /-- SPI_WRITE (R136): The SPI command 0x02 takes a message for upstream. -/
  | spiWrite (msg : List Byte)
  /-- PATH_PARAMS (R140): PATH_PARAMS updates the guard and preamble table and, with discovery open, moves T1 to T2. -/
  | pathParams (q : Path)
  /-- TIME_ANNOUNCE (R33): A TIME_ANNOUNCE is handed to the LTU and TSU as the path's latest second announcement. -/
  | timeAnnounce (q : Path)
  /-- DISCOVERY (R148): In T2 the terminal answers a discovery window with a random-offset ANNOUNCE, or skips it for backoff. -/
  | discovery (q : Path) (draw : Nat)
  /-- ANNOUNCE_UNANSWERED (R148): No ASSIGN_TID by the end of the following frame increases n and draws a skip. -/
  | announceUnanswered (q : Path) (draw : Nat)
  /-- ASSIGN_TID (R149): ASSIGN_TID gives the TID, management AID and home channel, moving T2 to T3. -/
  | assignTid (q : Path)
  /-- RANGE_WINDOW (R150): A ranging burst is scheduled inside the named window, or range_fit is set. -/
  | rangeWindow (q : Path)
  /-- EQ_DELAY (R151): An equalisation delay is accepted from apply_fn, or refused, and EQD_ACK is queued. -/
  | eqDelay (q : Path)
  /-- CERT_REQ (R153): The terminal answers with its device certificate in CERT fragments. -/
  | certReq (q : Path)
  /-- AUTH_CHALLENGE (R153): A complete challenge starts hub signature checking and the warden's key agreement. -/
  | authChallenge (q : Path)
  /-- AUTH_RESPONSE_READY (R153): The warden finishes its computation and the terminal sends AUTH_RESPONSE. -/
  | authResponseReady (q : Path)
  /-- KEY_CONFIRM (R153): The confirmation tag is checked; the root slots are written and CONFIRM sent, or registration fails. -/
  | keyConfirm (q : Path)
  /-- REGISTERED (R140): REGISTERED moves T3 to T4, writes ACT_REG_FN and sets the key epochs. -/
  | registered (q : Path)
  /-- HOME_ASSIGN (R155): HOME_ASSIGN names a new home channel to apply at apply_fn. -/
  | homeAssign (q : Path)
  /-- HOME_ASSIGN_APPLY (R155): At apply_fn:0 the home channel changes and home_fallback clears. -/
  | homeAssignApply (q : Path)
  /-- TRIB_ASSIGN (R157): A downstream container assignment is checked, or refused with TRIB_NACK. -/
  | tribAssign (q : Path)
  /-- TRIB_ASSIGN_APPLY (R157): At apply_fn:0 ACT writes or clears DFR_TRIB_CFG. -/
  | tribAssignApply (q : Path) (t : Fin 256)
  /-- DEACTIVATE (R140): DEACTIVATE with the terminal's LSI returns the path to T1. -/
  | deactivate (q : Path)
  /-- HOLD (R158): HOLD darkens the path within 10 µs and stores the held state persistently. -/
  | hold (q : Path)
  /-- RELEASE (R158): RELEASE clears the hold and moves the path to T1 or T0. -/
  | release (q : Path)
  /-- RESUME (R140): RESUME in T6 returns the path to T4 with its TID, delays and keys kept. -/
  | resume (q : Path)
  /-- ACT_HOLD_CLR (R158): A P0 write of ACT_HOLD.clr releases a held path. -/
  | actHoldClr (r : Requester) (q : Path)
  /-- LCM_FRAGMENT_TIMEOUT (R146): A fragmented message still incomplete after frag_to frames is discarded. -/
  | lcmFragmentTimeout (q : Path)
  /-- TO3_EXPIRE (R140): Ranging timer to3 expires and the path returns to T1. -/
  | to3Expire (q : Path)
  /-- TO6_EXPIRE (R140): Lost timer to6 expires and the path goes to T1 or T0. -/
  | to6Expire (q : Path)
  /-- HOME_FALLBACK (R155): After home_to frames of defect, LCM reception moves to a fallback channel and HOME_LOST is queued. -/
  | homeFallback (q : Path)
  /-- GRANT_MAP_DECODE (R162): The UPB decodes a channel's grant map and checks the terminal's entries. -/
  | grantMapDecode (l : Lane)
  /-- WINDOW_FILL (R181): At the fill point the filler fixes the window contents from the AID's eligible frames. -/
  | windowFill (l : Lane) (start : Nat) (mismatch : Bool)
  /-- FRAG_ABANDON (R182): A fragment remainder with no window of the AID within frag_to frames is discarded. -/
  | fragAbandon (aid : Fin 512)
  /-- UP_TRIB_ASSIGN (R186): An upstream standing window is assigned, or refused with UP_TRIB_NACK. -/
  | upTribAssign (q : Path)
  /-- STANDING_BURST (R186): A standing tributary burst is built and launched in each upstream frame while the path is in T4. -/
  | standingBurst (t : Fin 32) (excess : Nat) (deficit : Nat)
  /-- LCY_SEGMENT (R247): A downstream segment entering its cipher engine is decided, decrypted and authenticated. -/
  | lcySegment (q : Path) (chan : Fin 64) (mismatch : Bool)
  /-- BND_GAP_SKIP (R194): A gap still open 2 × skew_max after its oldest buffered arrival is skipped. -/
  | bndGapSkip (q : Path) (g : Fin 32)
  /-- MERGE_WINDOW_SKIP (R214): A merge gap closes by a skip when every path has passed it or win expires. -/
  | mergeWindowSkip (g : Fin 1024)
  /-- PATH_ACK (R223): PATH_ACK advances AIDs' acknowledged values and releases retained segments. -/
  | pathAck (q : Path)
  /-- PATH_SWITCH_MSG (R225): The hub orders a switch of the working path at apply_fn. -/
  | pathSwitchMsg (q : Path)
  /-- PTH_FORCE (R225): A write of force_a or force_b switches the working path at once without resend. -/
  | pthForce (r : Requester) (q : Path)
  /-- PTH_LOCKOUT (R225): A write of PTH_CTRL.lockout sets or clears the lockout of switching. -/
  | pthLockout (r : Requester) (on : Bool)
  /-- PTH_CLEAR (R225): A write of PTH_CTRL.clear clears lockout and force. -/
  | pthClear (r : Requester)
  /-- RETENTION_EXPIRE (R222): A segment retained for ret_win is released and counted as expired. -/
  | retentionExpire (aid : Fin 512)
  /-- ENGINE_RETEST (R234): A write of LCY_ENG_CTRL.retest starts a known-answer test on a failed engine. -/
  | engineRetest (r : Requester) (e : Fin 128)
  /-- RETEST_DONE (R234): The 50 µs test completes, and the engine returns to service if it passed. -/
  | retestDone (e : Fin 128) (pass : Bool)
  /-- REKEY (R244): REKEY sets a key index's next epoch, or is refused, and REKEY_ACK is queued. -/
  | rekey (q : Path)
  /-- REKEY_EPOCH_START (R244): At epoch_fn:0 the new epoch applies and the upstream sending index may change. -/
  | rekeyEpochStart (q : Path) (up : Bool) (i : Fin 4)
  /-- REKEY_REQ_REPEAT (R243): REKEY_REQ is repeated every 15,625 frames until the index is rekeyed. -/
  | rekeyReqRepeat (q : Path) (up : Bool) (i : Fin 4)
  /-- KST_WRITE (R245): The KST write command loads KST_KEY into a slot and increments its generation. -/
  | kstWrite (r : Requester)
  /-- KST_ERASE (R245): The KST erase command empties a slot. -/
  | kstErase (r : Requester)
  /-- KEY_SLOT_DRAINED (R246): The last segment using the old key leaves, the old material is zeroised and slot_idle returns to 1. -/
  | keySlotDrained (slot : Fin 256)
  /-- CLIENT_FRAME_RX (R260): An Ethernet port checks a received frame and passes it to PRS or drops it. -/
  | clientFrameRx (n : PktRegion) (l : Fin 32) (bs : List Byte) (pcs : Bool) (corr : Nat) (uncorr : Nat)
  /-- CLIENT_FRAME_TX (R261): The MAC pads, appends the FCS and transmits or drops a frame taken from TMG. -/
  | clientFrameTx (n : PktRegion) (l : Fin 32)
  /-- SIGNAL_DETECT (R258): Signal on every lane moves a port from DOWN to ADAPT. -/
  | signalDetect (n : PktRegion) (l : Fin 32)
  /-- LANE_ADAPT_DONE (R258): Clock recovery and adaptation complete on every lane and the port moves to ALIGN. -/
  | laneAdaptDone (n : PktRegion) (l : Fin 32) (snr : BitVec 16)
  /-- ALIGN_LOCK (R258): Alignment markers lock, the lanes deskew and the port goes UP. -/
  | alignLock (n : PktRegion) (l : Fin 32)
  /-- ALIGN_LOSS (R258): Alignment is lost and the port returns to ALIGN. -/
  | alignLoss (n : PktRegion) (l : Fin 32)
  /-- SIGNAL_LOSS (R258): Signal lost on any lane takes the port to DOWN. -/
  | signalLoss (n : PktRegion) (l : Fin 32)
  /-- FAULT_ORDERED_SET_RX (R258): Local or remote fault ordered sets move an UP port to FAULT. -/
  | faultOrderedSetRx (n : PktRegion) (l : Fin 32) (d : BitVec 24)
  /-- FAULT_CLEAR_TIMEOUT (R258): Fault ordered sets absent for 128 µs return the port to UP. -/
  | faultClearTimeout (n : PktRegion) (l : Fin 32)
  /-- PAUSE_EXPIRE (R263): A peer pause's quanta run out and transmission resumes. -/
  | pauseExpire (n : PktRegion) (l : Fin 32) (p : Fin 8)
  /-- PAUSE_WATCHDOG (R264): A pause held longer than pw_limit is released and pause is ignored for a time. -/
  | pauseWatchdog (n : PktRegion) (l : Fin 32) (p : Fin 8)
  /-- PAUSE_REFRESH (R265): A standing backpressure request repeats its PAUSE or PFC frame every tx_refresh quanta. -/
  | pauseRefresh (n : PktRegion) (l : Fin 32)
  /-- TRANSPARENT_FRAME_RX (R256): A transparent port maps a received frame into a frame record in its container stream. -/
  | transparentFrameRx (n : PktRegion) (l : Fin 32) (bs : List Byte) (err : LaneErr)
  /-- ORDERED_SET_REPEAT (R256): The mapper repeats the ordered-set record every 16 µs while it persists. -/
  | orderedSetRepeat (n : PktRegion) (l : Fin 32)
  /-- DEMAP_RECORD (R257): The demapper transmits a downstream record on the transparent port. -/
  | demapRecord (n : PktRegion) (l : Fin 32)
  /-- ORDERED_SET_TIMEOUT (R257): A standing ordered set not repeated for 64 µs is no longer sent. -/
  | orderedSetTimeout (n : PktRegion) (l : Fin 32)
  /-- PRS_PASS (R273): A packet makes one pass of parse, lookups, action and POL modifiers. -/
  | prsPass (n : PktRegion) (k : Fin 8)
  /-- ALLOC_RETRY (R330): A pipeline request that received EMPTY retries each cycle up to retry_ns, then drops. -/
  | allocRetry (n : PktRegion)
  /-- TA_READ (R295): Table access READ copies a table entry of the chosen bank into the window. -/
  | taRead (r : Requester) (n : PktRegion) (staged : Bool)
  /-- TA_WRITE (R295): Table access WRITE writes a ternary entry into the chosen bank. -/
  | taWrite (r : Requester) (n : PktRegion) (staged : Bool)
  /-- TA_INSERT (R281): Table access INSERT places an exact-match entry, with cuckoo moves, or returns FULL. -/
  | taInsert (r : Requester) (n : PktRegion) (staged : Bool)
  /-- TA_DELETE (R295): Table access DELETE removes an entry from the chosen bank. -/
  | taDelete (r : Requester) (n : PktRegion) (staged : Bool)
  /-- TA_LOOKUP (R295): Table access LOOKUP searches a key and returns the entry and slot. -/
  | taLookup (r : Requester) (n : PktRegion) (staged : Bool)
  /-- TA_ACT_READ (R295): Table access ACT_READ copies an action entry into the window. -/
  | taActRead (r : Requester) (n : PktRegion) (staged : Bool)
  /-- TA_ACT_WRITE (R295): Table access ACT_WRITE writes an action entry of the chosen bank. -/
  | taActWrite (r : Requester) (n : PktRegion) (staged : Bool)
  /-- DEQUEUE (R305): A port or host root selects and dequeues a frame through the scheduler tree, charging meters. -/
  | dequeue (n : PktRegion) (m : Fin 4096) (post : RxPost)
  /-- METER_REFILL (R309): At a refill instant a meter adds its credit up to its burst. -/
  | meterRefill (n : PktRegion) (policer : Bool) (i : Fin 65536)
  /-- WHEEL_RELEASE (R312): An entity waiting on the timing wheel becomes eligible at its time. -/
  | wheelRelease (n : PktRegion) (node : Bool) (i : Fin 16384)
  /-- POL_ACC_DONE (R314): A write of POL_ACC_DONE marks the readable accounting bank as consumed. -/
  | polAccDone (r : Requester) (n : PktRegion)
  /-- DEMOTION_SCAN (R332): BPM scans queues and demotes aged frames to a lower tier. -/
  | demotionScan (n : PktRegion)
  /-- PROMOTION_DONE (R333): A frame's promotion to tier 0 completes and it becomes eligible. -/
  | promotionDone (n : PktRegion) (q : Fin 16384)
  /-- HOP_FREE (R331): A FREE handle operation releases a reference, or is refused and counted. -/
  | hopFree (r : Requester) (n : PktRegion)
  /-- HOP_ADDREF (R324): An ADDREF handle operation takes one more reference on a tier-0 buffer. -/
  | hopAddref (r : Requester) (n : PktRegion)
  /-- HOP_READ (R323): A READ handle operation copies a 256-byte chunk into BPM_HOP_DATA. -/
  | hopRead (r : Requester) (n : PktRegion) (chunk : BitVec 8)
  /-- OWNER_RESTORE (R331): A write of BPM_OWN_RESTORE lifts an owner's suspension and zeroes its counter. -/
  | ownerRestore (r : Requester) (n : PktRegion) (o : Fin 1024)
  /-- PATROL_SCRUB (R337): A patrol scrub reads and corrects memory. -/
  | patrolScrub (n : PktRegion) (t : Fin 3) (c : Fin 4) (ce : Nat) (bad : Option Nat) (pct : Fin 101) (pass : Bool)
  /-- MEMORY_TRAINING_DONE (R336): MEM finishes training and sets the tier-2 size. -/
  | memoryTrainingDone (n : PktRegion) (dimms : List (Option Dimm))
  /-- TSU_RATE_WRITE (R348): A write of TSU_D_RATE sets a new rate without a step and opens a segment. -/
  | tsuRateWrite (r : Requester) (d : Fin 3) (rho : Word)
  /-- TSU_STEP_WRITE (R348): A write of TSU_D_STEP steps a domain's offset. -/
  | tsuStepWrite (r : Requester) (d : Fin 3) (ns : Word)
  /-- TSU_SET (R348): TSU_D_SET_NS.go sets a domain to a given value. -/
  | tsuSet (r : Requester) (d : Fin 3) (v : Word)
  /-- DOMAIN_HOLDOVER (R349): A tracking domain without a measurement for its limit enters HOLDOVER. -/
  | domainHoldover (d : Fin 3)
  /-- PPS_IN_EDGE (R353): A PPS_IN rising edge is captured, and LOCAL's phase is measured when it is selected. -/
  | ppsInEdge (k : Fin 2)
  /-- TSU_CONVERT (R354): A raw value written for conversion is converted to a domain time, marked stale where applicable. -/
  | tsuConvert (r : Requester) (raw : BitVec 64) (d : Fin 4)
  /-- TSU_LATCH (R347): TSU_LATCH.go captures all domains at one tick for the requester. -/
  | tsuLatch (r : Requester)
  /-- RESID_CLR (R355): A write of resid_clr sets the served residual to 0 as a step. -/
  | residClr (r : Requester)
  /-- PPS_OUT_EDGE (R361): A PPS output gives its edge at the whole second of its domain. -/
  | ppsOutEdge (k : Fin 2)
  /-- TSQ_POP (R360): A write to TSU_TSQ_POP removes the oldest timestamp record. -/
  | tsqPop (r : Requester) (n : PktRegion)
  /-- POLICY_WRITE (R371): The warden checks a policy image and writes it into a flash slot as trial. -/
  | policyWrite (r : Requester) (slot : Bool) (img : List Byte)
  /-- POLICY_WRITE_DONE (R371): The slot write and read-back finish with OK or FLASH_FAIL. -/
  | policyWriteDone (ok : Bool)
  /-- WARDEN_WRITE (R373): A P0 command writes a warden image slot. -/
  | wardenWrite (r : Requester) (slot : Bool) (img : List Byte)
  /-- KEY_ADD (R370): A P0 command adds a policy-signing key to an empty index. -/
  | keyAdd (r : Requester) (k : Fin 4) (key : List Byte)
  /-- KEY_REVOKE (R370): A P0 command revokes a policy key index permanently. -/
  | keyRevoke (r : Requester) (k : Fin 4)
  /-- SET_PREF (R372): The warden command SET_PREF sets the policy slot for the next start. -/
  | setPref (r : Requester) (slot : Bool)
  /-- CLUSTER_RESTART (R372): A write of CPL_CTRL.restart starts or restarts the policy cluster. -/
  | clusterRestart (r : Requester)
  /-- CLUSTER_HALT (R381): A write of CPL_CTRL.halt halts the cluster; the hardware carries on. -/
  | clusterHalt (r : Requester)
  /-- TRIAL_CONFIRM (R373): A write of CPL_CTRL.confirm confirms the trial slot and raises WRD_MIN_SVN. -/
  | trialConfirm (r : Requester)
  /-- WDT_KICK (R380): A core writes its bit of CPL_WDT_KICK to restart its watchdog. -/
  | wdtKick (r : Requester) (v : BitVec 8)
  /-- CLUSTER_WDT_EXPIRE (R380): A core misses its kick; the warden resets the cluster, and repeated misses mark it FAILED. -/
  | clusterWdtExpire (c : Fin 8)
  /-- MBX_POST (R375): The host posts a FREE mailbox slot. -/
  | mbxPost (r : Requester) (k : Fin 64)
  /-- MBX_CLAIM (R375): Firmware claims a POSTED slot, which becomes TAKEN. -/
  | mbxClaim (k : Fin 64)
  /-- MBX_COMPLETE (R375): Firmware completes a slot, which becomes DONE and raises its vector. -/
  | mbxComplete (k : Fin 64)
  /-- MBX_ACK (R375): The host acknowledges a DONE slot, which becomes FREE. -/
  | mbxAck (r : Requester) (k : Fin 64)
  /-- MBX_TIMEOUT (R376): A slot POSTED for mbx_to is set DONE with NO_FW. -/
  | mbxTimeout (k : Fin 64)
  /-- INJECT_DESCRIPTOR (R378): An injection descriptor is consumed and its frame enters PRS, or is discarded as FW_INJECT_BAD. -/
  | injectDescriptor (i : Fin 16) (desc : List Byte) (frame : List Byte)
  /-- P0_CHALLENGE (R387): HIF_P0_CTRL.challenge has the warden write a fresh nonce, or returns LOCKED. -/
  | p0Challenge (r : Requester)
  /-- P0_RESPOND (R387): HIF_P0_CTRL.respond submits the signature for the warden to verify. -/
  | p0Respond (r : Requester)
  /-- P0_DROP (R388): HIF_P0_CTRL.drop returns the PF to P1. -/
  | p0Drop (r : Requester)
  /-- FLR (R403): A function-level reset stops the function's rings and releases held references. -/
  | flr (fn : Fin 16)
  /-- FLR_COMPLETE (R403): The FLR completes and the function's ring registers are usable again. -/
  | flrComplete (fn : Fin 16)
  /-- RING_DISABLE (R403): Clearing a ring's en stops it as an FLR would. -/
  | ringDisable (r : Requester) (id : RingId)
  /-- TX_DESCRIPTOR (R397): HIF checks a transmit descriptor and injects its frame, or refuses it. -/
  | txDescriptor (t : Fin 64) (d : TxDesc)
  /-- WRITEBACK_TIMEOUT (R398): wb_to after injection writes the descriptor back with timed_out. -/
  | writebackTimeout (t : Fin 64) (i : Fin 65536)
  /-- RX_RELEASE (R400): A write of HIF_RX_REL releases a held receive reference. -/
  | rxRelease (r : Requester) (t : Fin 64) (i : Fin 65536)
  /-- INTERRUPT_COALESCE_TIMEOUT (R405): coal_us after an unsignalled write-back, the ring's vector is raised. -/
  | interruptCoalesceTimeout (id : RingId)
  /-- PWR_REQUEST (R414): A PWR_REQ write requests a region power state, or wakes a region in transition. -/
  | pwrRequest (r : Requester) (n : PktRegion) (target : Fin 4)
  /-- ENTRY_STEP_DONE (R416): An entry step E1 to E5 completes, and PWR checks for a wake before the next one. -/
  | entryStepDone (n : PktRegion)
  /-- ENTRY_DRAIN_TIMEOUT (R416): E1 not drained in 20 µs aborts the entry with DRAIN. -/
  | entryDrainTimeout (n : PktRegion)
  /-- EXIT_STEP_DONE (R418): An exit step X1 to X5 of a wake from DIM or OFF completes. -/
  | exitStepDone (n : PktRegion)
  /-- PAD_RELEASE (R419): A write of PAD_RELEASE releases the region's latched pads. -/
  | padRelease (r : Requester) (n : PktRegion)
  /-- TEMP_WARNING (R423): A sensor reaching 100 °C raises an Amber event and pulls ALERT_N low. -/
  | tempWarning (x : Sensor) (t : Int)
  /-- TEMP_THROTTLE (R423): A sensor reaching 105 °C applies the throttle actions. -/
  | tempThrottle (x : Sensor) (t : Int)
  /-- TEMP_CLEAR (R423): A sensor falling below the clear level ends the warning or throttle. -/
  | tempClear (x : Sensor) (t : Int)
  /-- THERMAL_TRIP (R423): A sensor reaching 115 °C drives THERM_TRIP_N low and enters the safe state. -/
  | thermalTrip (x : Sensor) (t : Int)
  /-- INPUT_COLLAPSE (R425): VHOLD or PWR_GOOD stays low for 2 µs; the lasers go dark and ASH takes over. -/
  | inputCollapse (good : Bool)
  /-- ASH_GASP_GIVEUP (R425): ASH gives up on a path with no reachable window 3 ms after the collapse. -/
  | ashGaspGiveup (q : Path)
  /-- POWER_GOOD_RESTORED (R425): PWR_GOOD high for 100 ms after a collapse makes the warden issue a module reset. -/
  | powerGoodRestored (bad : Option StoreFail)
  /-- EVR_FLUSH_TICK (R436): EVR flushes admitted records from the RAM ring to flash within their deadlines. -/
  | evrFlushTick (fail : Option StoreFail)
  /-- EVR_FLUSH (R436): A write of EVR_CTRL.flush flushes every unflushed record now. -/
  | evrFlush (r : Requester)
  /-- EVR_CURSOR_WRITE (R440): A write of EVR_CURSOR starts a copy of up to 64 records into the requester's window. -/
  | evrCursorWrite (r : Requester) (c : Word)
  /-- WINDOW_COPY_DONE (R440): The window copy completes with n, gap and EVR_WIN_GEN. -/
  | windowCopyDone (r : Requester)
  /-- EVR_CLR_CHALLENGE (R441): EVR_CLR_CTRL.challenge has the warden write a clear nonce. -/
  | evrClrChallenge (r : Requester)
  /-- EVR_CLR_RESPOND (R441): EVR_CLR_CTRL.respond submits the clear signature for verification. -/
  | evrClrRespond (r : Requester)
  /-- EVR_RL_CFG_WRITE (R439): A write of EVR_RL_CFG sets a code's limit within the floor and refills its bucket. -/
  | evrRlCfgWrite (r : Requester) (w : Word)
  /-- COUNTER_WRITE (R447): A write to a monitor counter presets it while en is 0, or is discarded. -/
  | counterWrite (r : Requester) (c : Fin 192) (v : BitVec 64)
  /-- PMON_FREEZE (R446): PMON_CTRL.freeze stops or restarts all 192 counters in one cycle. -/
  | pmonFreeze (r : Requester) (on : Bool)
  /-- GROUP_MEMBER_WRITE (R80): A write to an agreement-group member records a pending value and makes the group HELD. -/
  | groupMemberWrite (r : Requester) (a : BitVec 28) (v : Word)
  /-- SEAL (R81): A write of SEAL.seal starts the check of the pending values, or returns NOT_HELD, PRIV or EPOCH_BUSY. -/
  | seal (r : Requester) (a : BitVec 28)
  /-- SEAL_ABANDON (R81): A write of SEAL.abandon discards the pending values. -/
  | sealAbandon (r : Requester) (a : BitVec 28)
  /-- SEAL_CHECK_DONE (R81): The seal check ends: the values take effect together, or are discarded with DISAGREE or RANGE. -/
  | sealCheckDone (a : BitVec 28)
  /-- GROUP_HOLD_TIMEOUT (R82): A group HELD longer than EPC_HOLD_LIMIT is abandoned with TIMEOUT. -/
  | groupHoldTimeout (a : BitVec 28)
  /-- EPC_OPEN (R60): EPC_CTRL.open enters STAGING and starts the seed copy. -/
  | epcOpen (r : Requester)
  /-- EPC_LOAD (R55): EPC_LOAD.go starts reading an image over the host link. -/
  | epcLoad (r : Requester)
  /-- IMAGE_LOAD_DONE (R56): The EPC checks the loaded image and stages its sections, or refuses it. -/
  | imageLoadDone (b : List Byte)
  /-- STAGED_WRITE (R61): A write to an ST field goes into the staged bank, or is discarded outside STAGING. -/
  | stagedWrite (r : Requester) (a : BitVec 28) (v : Word)
  /-- EPC_ARM (R63): EPC_CTRL.arm starts the arm check over the staged bank. -/
  | epcArm (r : Requester)
  /-- EPC_CANCEL (R65): EPC_CTRL.cancel returns an ARMED commit to STAGING, or returns LOCKED. -/
  | epcCancel (r : Requester)
  /-- EPC_ABANDON (R59): EPC_CTRL.abandon discards the staged bank and returns to IDLE. -/
  | epcAbandon (r : Requester)
  /-- EPC_ACK (R59): EPC_CTRL.ack moves DONE to IDLE. -/
  | epcAck (r : Requester)
  /-- EPC_NOW (R77): EPC_CTRL.now starts an immediate commit check while module line time is invalid. -/
  | epcNow (r : Requester)
  /-- LINE_BANK_SWITCH (R67): A path's line blocks switch banks at that path's commit frame boundary, or at its next lock. -/
  | lineBankSwitch (q : Path)
  /-- SCOPE_READY (R75): A quiesced scope resource reports ready and resumes. -/
  | scopeReady (x : ScopeRes)
  /-- FAULT_REPORT (R451): A block reports an uncontained error to FLT, which classifies it and starts its handling. -/
  | faultReport (region : Fin 7) (kind : Fin 9) (block : BitVec 8) (cell : BitVec 16)
  /-- REGION_STEP_DONE (R455): A region-fault step F1, F2 or F3 completes and the next step begins, or the region is held. -/
  | regionStepDone (r : Fin 6)
  /-- HANG_DETECT (R452): A block with waiting work that completes nothing for hang_us is declared hung. -/
  | hangDetect (region : Fin 6) (block : BitVec 8) (cell : BitVec 16)
  /-- FLT_REGION_RESET (R456): A P1 write of FLT_R_CTRL.reset runs F2 and F3 on a held region. -/
  | fltRegionReset (r : Requester) (n : Fin 6)
  /-- SCOPE_LANE_RETRY_TIMEOUT (R454): A retried line lane still not ready after scope_timeout is held OFF and reported CONTAINED. -/
  | scopeLaneRetryTimeout (l : Lane)
  /-- CONSOLE_JET_READ (R461): The console command JET_READ returns one Jet record. -/
  | consoleJetRead (j : BitVec 8)
  /-- CONSOLE_LOG_READ (R461): The console command LOG_READ returns up to 8 log records from a seq. -/
  | consoleLogRead (seq : BitVec 32)
  /-- CONSOLE_LASER_OFF (R461): The console command LASER_OFF sets the SAF kill bits. -/
  | consoleLaserOff (mask : BitVec 8)
  /-- CONSOLE_REGION_RESET (R461): The ctl console command REGION_RESET resets a region. -/
  | consoleRegionReset (r : BitVec 8)
  /-- CONSOLE_MODULE_RESET (R461): The ctl console command MODULE_RESET replies and then resets the module. -/
  | consoleModuleReset (bad : Option StoreFail)
  /-- CAL_UNLOCK (R466): The warden command CAL_UNLOCK unlocks the store for 10 s, or returns LOCKED. -/
  | calUnlock (r : Requester)
  /-- CAL_WRITE (R466): The warden command CAL_WRITE checks and writes a new CAL file. -/
  | calWrite (r : Requester) (file : List Byte)
  /-- CAL_SAVE_RX (R466): The warden command CAL_SAVE_RX saves the current receiver offsets into the CAL file. -/
  | calSaveRx (r : Requester)
  /-- CAL_READ (R466): The warden command CAL_READ copies the stored file to host memory. -/
  | calRead (r : Requester)
  /-- I2C_COMMAND (R481): A write of GLB_I2C_CMD.go starts one I2C transaction, or returns BUSY. -/
  | i2cCommand (r : Requester) (b : Fin 4) (v : Word)
  /-- I2C_DONE (R482): The I2C transaction ends with OK, NACK, TIMEOUT or ARB_LOST. -/
  | i2cDone (b : Fin 4) (code : Fin 5) (at_ : Fin 256) (bs : List Byte)
  /-- GPIO_EDGE (R483): An enabled edge on a GPIO pin sets its event bit. -/
  | gpioEdge (k : Fin 32) (level : Bool)
  /-- EXTEST (R480): The JTAG instruction EXTEST drives the boundary register while reset and lasers are held. -/
  | extest (resetLow : Bool)
  /-- SAMPLE_PRELOAD (R480): The JTAG instruction SAMPLE/PRELOAD samples or preloads the boundary register. -/
  | samplePreload (vals : List Bool)
  /-- CLAMP (R480): The JTAG instruction CLAMP holds the outputs while selecting bypass. -/
  | clamp (resetLow : Bool)
  /-- HIGHZ (R480): The JTAG instruction HIGHZ puts the outputs in high impedance. -/
  | highz (resetLow : Bool)
  /-- EXTEST_PULSE (R480): The JTAG instruction EXTEST_PULSE runs the 1149.6 pulse test on the AC lanes. -/
  | extestPulse (resetLow : Bool)
  /-- EXTEST_TRAIN (R480): The JTAG instruction EXTEST_TRAIN runs the 1149.6 train test on the AC lanes. -/
  | extestTrain (resetLow : Bool)
  /-- REGISTER_WRITE (R389): A write to a register without its own row is checked by ACW and applied per its access code. -/
  | registerWrite (r : Requester) (a : BitVec 28) (v : Word)
  /-- REGISTER_READ (R7): A register read is checked by ACW and served with its own effects: RC fields clear, denied and unmapped reads are counted, and an IDLE region's clock gate opens. -/
  | registerRead (r : Requester) (a : BitVec 28)
  /-- PAUSE_IGNORE_END (R264): After a watchdog release, 1 ms without a frame carrying non-zero quanta for the priority makes the port honour pause again. -/
  | pauseIgnoreEnd (n : PktRegion) (l : Fin 32) (p : Fin 8)
  /-- WARDEN_WRITE_DONE (R373): The write and read-back of a warden image slot finish with OK or FLASH_FAIL. -/
  | wardenWriteDone (ok : Bool)
  /-- CAL_WRITE_DONE (R466): The erase, write and read-back of the CAL partition for CAL_WRITE or CAL_SAVE_RX finish with OK or FLASH_FAIL and relock the store. -/
  | calWriteDone (ok : Bool)
  /-- PCIE_LINK_TRAINED (R383): The PCIe link finishes training at its speed and width, after power-up, PERST_N or a control region restart, and HIF_LINK shows the result. -/
  | pcieLinkTrained (speed : Fin 7) (width : Fin 17)
  /-- THERMAL_HOLD_RELEASE (R412): After a thermal trip, every sensor reads below 100 °C, and PWR stops holding the module in reset. -/
  | thermalHoldRelease (bad : Option StoreFail)
  /-- POWER_ON (R412): VAON rises; everything except flash is cleared and start-up begins at S0. -/
  | powerOn
  /-- START_STEP (R409): A start-up step S0 to S7 begins once its preconditions hold, and its rails ramp in turn. -/
  | startStep
  /-- STEP_SETTLED (R409): A start-up step ends 5 ms after its last ramp completes and its supply has settled. -/
  | stepSettled
  /-- STEP_SETTLE_TIMEOUT (R410): A domain that has not settled within 10 ms fails its step; a failure at S0 to S2 enters the safe state, a later failure leaves the unit OFF. -/
  | stepSettleTimeout
  /-- TOKEN_GRANT (R19): The power-peak token is granted to the next waiting ramp in request order. -/
  | tokenGrant
  /-- TOKEN_TIMEOUT (R422): A holder still ramping at 10 ms loses the token and finishes its ramp without it. -/
  | tokenTimeout
  /-- MODULE_FRAME_BOUNDARY (R37): Module line time reaches a frame boundary, and the frame is lengthened or shortened while a slew runs. -/
  | moduleFrameBoundary
  /-- SEC_OFFSET_CHANGE (R34): A new second offset takes effect at the first frame boundary that satisfies it. -/
  | secOffsetChange
  /-- SNAPSHOT_COMPLETE (R45): When every copy has finished, the new bank becomes readable and LTU_SNAP_SEQ increments. -/
  | snapshotComplete
  /-- FREEZE_END (R39): Frozen module line time resumes once the received time reaches it. -/
  | freezeEnd
  /-- LEAD_PATH_CHANGE (R36): At the new path's next frame boundary the lead path changes, and module line time slews towards it. -/
  | leadPathChange
  /-- LEAD_REVERT (R36): The lead path reverts after the preferred path has held lock for 15,625 frames. -/
  | leadRevert
  /-- LASER_EN_LOW (R107): LASER_EN going low darkens every transmitter within 2 µs and cuts bursts in flight. -/
  | laserEnLow
  /-- LASER_EN_HIGH (R107): LASER_EN returning high lets transmitters fire at the next admitted burst. -/
  | laserEnHigh
  /-- SPI_STATUS (R136): The SPI command 0x05 returns the next receive length and the free upstream buffer. -/
  | spiStatus
  /-- SPI_READ (R136): The SPI command 0x0B returns and removes the next message. -/
  | spiRead
  /-- SKEW_REPORT (R156): SKEW_REPORT is sent each skew_period, or when the skew moves by more than skew_thr. -/
  | skewReport
  /-- KEY_DERIVATION_DONE (R240): A traffic key derivation completes and fills the cache, releasing the waiting segments. -/
  | keyDerivationDone
  /-- PATH_SWITCH_APPLY (R226): The working path changes at codeword S, PATH_STATE is queued and resend begins. -/
  | pathSwitchApply
  /-- HOLDOFF_EXPIRE (R225): The hold-off ends with the fail condition still present, and the working path switches with resend. -/
  | holdoffExpire
  /-- WTR_EXPIRE (R225): The wait to restore ends and the working path reverts to A without resend. -/
  | wtrExpire
  /-- DOMAIN_REBASE (R347): Every 2^36 ns each domain's anchor and offset are re-based. -/
  | domainRebase
  /-- TOD_MESSAGE (R364): TOD_UART sends its 16-byte message 10 ms after each PPS_OUT_0 edge. -/
  | todMessage
  /-- TRIAL_TIMEOUT (R373): An unconfirmed trial after 60 s is abandoned and the cluster reverts to the other slot. -/
  | trialTimeout
  /-- WARDEN_WDT_EXPIRE (R380): The warden's 2 s watchdog resets the warden core while the AON hardware runs on. -/
  | wardenWdtExpire
  /-- PERST_N_ASSERT (R385): PERST_N low resets HIF and the PCIe functions, drops P0 and stops the rings. -/
  | perstNAssert
  /-- P0_VERIFY_DONE (R387): The warden writes the verification result, granting P0 or counting a failure. -/
  | p0VerifyDone
  /-- P0_LOCKOUT_EXPIRE (R387): The 60 s challenge lockout after 3 failures ends. -/
  | p0LockoutExpire
  /-- LOG_CLOSE (R425): The AON writes INPUT_LOST, flushes and closes the log. -/
  | logClose
  /-- BANK_DISCHARGE (R426): After the gasp or 50 ms, the module discharges the hold-up bank. -/
  | bankDischarge
  /-- CLR_VERIFY_DONE (R441): A verified clear removes records up to EVR_CLR_UPTO and writes LOG_CLEARED. -/
  | clrVerifyDone
  /-- RATE_LIMIT_REFILL (R438): Every 1 ms each code's bucket gains r/1,000 tokens. -/
  | rateLimitRefill
  /-- OP_TIME_TICK (R433): Each second with VAON present increments op_time. -/
  | opTimeTick
  /-- OP_TIME_SAVE (R433): Every 60 s op_time is saved to non-volatile storage. -/
  | opTimeSave
  /-- SEED_COPY_DONE (R60): The seed copy of the active bank into the staged bank finishes. -/
  | seedCopyDone
  /-- ARM_CHECK_DONE (R63): The arm check completes and the commit alarms are armed, or the result is returned. -/
  | armCheckDone
  /-- NOW_CHECK_DONE (R77): The now check passes and every block switches in that cycle. -/
  | nowCheckDone
  /-- NOW_DRAIN_BOUND (R77): 20 µs of LFC after an immediate commit, the drain bound is applied. -/
  | nowDrainBound
  /-- NOW_RESTART_BOUND (R77): scope_timeout × 64 µs after an immediate commit, the restart bound is applied. -/
  | nowRestartBound
  /-- COMMIT_ACKNOWLEDGED (R59): Every powered block acknowledges the switch and COMMITTING becomes DRAINING. -/
  | commitAcknowledged
  /-- DRAIN_DONE (R73): No old-tag packet remains in any pipeline and the EPC enters DONE. -/
  | drainDone
  /-- HEARTBEAT_MISS (R457): No FLT heartbeat for 1 ms resets the control and line regions together. -/
  | heartbeatMiss
  /-- AON_INTEGRITY_LOSS (R457): VAON out of range for 1 µs, or a sequencer memory error, enters the safe state. -/
  | aonIntegrityLoss
  /-- CONSOLE_IDENT (R461): The console command IDENT returns the part, step, LSI, op_time and cycles. -/
  | consoleIdent
  /-- CONSOLE_STATUS (R461): The console command STATUS returns GLB_SAFE, FLT_STATUS and PWR_STATUS. -/
  | consoleStatus
  /-- CONSOLE_SAFE_ENTER (R461): The console command SAFE_ENTER puts the module in the safe state. -/
  | consoleSafeEnter
  /-- CAL_UNLOCK_EXPIRE (R466): The 10 s unlock of the calibration store ends. -/
  | calUnlockExpire
  /-- IDCODE (R480): The JTAG instruction IDCODE reads 0x2642_5B47. -/
  | idcode
  /-- BYPASS (R480): The JTAG instruction BYPASS, and every unlisted opcode, selects the bypass register. -/
  | bypass
  /-- CLR_LOCKOUT_EXPIRE (R441): The 60 s lockout of log-clear challenges after three failed responses ends. -/
  | clrLockoutExpire
  /-- CLUSTER_CORES_RELEASED (R372): The warden finishes verifying and loading the policy image and releases the eight cores, moving the cluster from BOOTING to RUNNING. -/
  | clusterCoresReleased
  /-- WARDEN_RESTART_DONE (R380): The warden image runs again after a watchdog reset, and the queued KST, registration and WRD commands proceed. -/
  | wardenRestartDone
  /-- SERVED_SLEW_END (R355): The served residual r slews down to 0 and TSU_STATUS.slewing clears. -/
  | servedSlewEnd
  deriving DecidableEq, Repr

end Sys2Proof
end

