-- ==== Sys2Proof/Decode.lean ====
section
/-!
DEFINITION. The commands that a word of spec/opcode_table.json spells. The table gives no row any bits: the block's commands are
not encoded in words, so no word spells one.
-/
namespace Sys2Proof

/-- The command that the `nbits`-bit word `w` spells by the table: none, for the table gives no row a bit pattern. [DESIGN CHOICE: log 2] -/
def decodeTableWord (_nbits _w : Nat) : Option Instr := none

end Sys2Proof
end

