-- ==== Sys2Proof/Config.lean ====
section
/-!
DEFINITION. The values the manual leaves open and the published functions it cites, as constants without a body: no
proof can see what they are, so a statement about them holds whatever they are. Each is named in the assumption log.
-/
namespace Sys2Proof

/-- A value the manual leaves open, drawn afresh at each use: applied to the counter `free` of State, which the step that
draws it advances. Used for nonces (R387, R441), the ephemeral keys of R153, arg2 and arg3 of a record (R434).
[DEDUCED, DESIGN CHOICE: log 6, 130] -/
opaque Config.freeNat : Nat → Nat

/-- SHA-384 (R53, R153, R387). [DESIGN CHOICE: log 7] -/
opaque Config.sha384 : List Byte → List Byte

/-- HMAC-SHA-384 of key and message (R153). [DESIGN CHOICE: log 7] -/
opaque Config.hmacSha384 : List Byte → List Byte → List Byte

/-- AES-256-CMAC of key and message, 16 bytes (R153, R240). [DESIGN CHOICE: log 7] -/
opaque Config.cmac256 : List Byte → List Byte → List Byte

/-- AES-256-GCM encryption: key, IV, additional data, plaintext; ciphertext and 16-byte tag (R236). [DESIGN CHOICE: log 7] -/
opaque Config.gcmSeal : List Byte → List Byte → List Byte → List Byte → List Byte × List Byte

/-- AES-256-GCM decryption: key, IV, additional data, ciphertext, tag; plaintext where the tag checks (R236, R247). [DESIGN CHOICE: log 7] -/
opaque Config.gcmOpen : List Byte → List Byte → List Byte → List Byte → List Byte → Option (List Byte)

/-- Verification of an ECDSA P-384 signature: public key, hash, r ‖ s (R53, R153, R387). [DESIGN CHOICE: log 7] -/
opaque Config.ecdsaVerify : List Byte → List Byte → List Byte → Bool

/-- The 96-byte signature r ‖ s of the terminal's device key over a hash, with the signature's own random value (R153). [DESIGN CHOICE: log 7] -/
opaque Config.ecdsaSign : Nat → List Byte → List Byte

/-- The 97-byte public key of the ephemeral key pair drawn as this free value (R153). [DESIGN CHOICE: log 7] -/
opaque Config.ephPublic : Nat → List Byte

/-- The 48-byte shared secret of the ephemeral key drawn as this free value and the hub's key (R153). [DESIGN CHOICE: log 7] -/
opaque Config.ecdhSecret : Nat → List Byte → List Byte

/-- What CAL class defaults hold for a lane's trim (R465): quantity number and engine; the class tables are part of the
warden image and the manual does not print them. [DESIGN CHOICE: log 9] -/
opaque Config.classNominal : Nat → Nat → Nat

/-- Measured static delays of a timestamp point that the manual gives only as accuracies (R357). [DESIGN CHOICE: log 10] -/
opaque Config.pointDelay : Nat → Nat

/-- The source address of a port's own MAC control frames, which the manual does not state (R265). [DESIGN CHOICE: log 11] -/
opaque Config.portMac : Nat → Nat

end Sys2Proof
end

