-- ==== Sys2Proof/Machine/Bits.lean ====
section
/-!
DEFINITION. Bit fields, byte orders and checksums used throughout: little-endian images (R48), most-significant-first
line fields (R10), CRC-32C of images and records (R49, R431).
-/
namespace Sys2Proof.Machine

/-- Bits `lo` to `lo + w − 1` of `v`. -/
def bits (v lo w : Nat) : Nat := v / 2 ^ lo % 2 ^ w

/-- `v` with bits `lo` to `lo + w − 1` replaced by `x`. -/
def setBits (v lo w x : Nat) : Nat := v % 2 ^ lo + 2 ^ lo * (x % 2 ^ w) + 2 ^ (lo + w) * (v / 2 ^ (lo + w))

/-- Bit `i` of `v`. -/
def bit (v i : Nat) : Bool := v / 2 ^ i % 2 = 1

/-- `true` as 1, `false` as 0. -/
def b2n (b : Bool) : Nat := if b then 1 else 0

/-- The Nat a little-endian byte string spells (R48). -/
def leNat (bs : List Byte) : Nat :=
  match bs with
  | [] => 0
  | b :: rest => b.toNat + 256 * leNat rest

/-- The Nat a most-significant-first byte string spells (R10). -/
def beNat (bs : List Byte) : Nat := bs.foldl (fun a b => a * 256 + b.toNat) 0

/-- `n` little-endian bytes of `v` (R48). -/
def leBytes (n v : Nat) : List Byte :=
  match n with
  | 0 => []
  | k + 1 => BitVec.ofNat 8 v :: leBytes k (v / 256)

/-- `n` bytes of `v`, most significant first (R10). -/
def beBytes (n v : Nat) : List Byte := (leBytes n v).reverse

/-- `n` bytes of `bs` starting at byte `off`. -/
def sub (bs : List Byte) (off n : Nat) : List Byte := (bs.drop off).take n

/-- The little-endian field of `n` bytes at byte `off` (R48). -/
def le (bs : List Byte) (off n : Nat) : Nat := leNat (sub bs off n)

/-- The most-significant-first field of `n` bytes at byte `off` (R10). -/
def be (bs : List Byte) (off n : Nat) : Nat := beNat (sub bs off n)

/-- One bit of CRC-32C in its reflected form. -/
def crcBit (c : Nat) : Nat := if c % 2 = 1 then (c / 2) ^^^ 0x82F63B78 else c / 2

/-- One byte of CRC-32C. -/
def crcByte (c : Nat) (b : Byte) : Nat :=
  let x := c ^^^ b.toNat
  crcBit (crcBit (crcBit (crcBit (crcBit (crcBit (crcBit (crcBit x)))))))

/-- CRC-32C of a byte string (R49, R50, R431). -/
def crc32c (bs : List Byte) : Nat := (bs.foldl crcByte 0xFFFFFFFF) ^^^ 0xFFFFFFFF

/-- A signed value of `w` bits as a Nat field (two's complement). -/
def ofSigned (w : Nat) (i : Int) : Nat := (i % (2 ^ w : Int)).toNat

/-- The signed value of a `w`-bit field. -/
def toSigned (w v : Nat) : Int := if v < 2 ^ (w - 1) then (v : Int) else (v : Int) - (2 ^ w : Int)

/-- `v` limited to `m`: a counter that saturates. -/
def sat (m v : Nat) : Nat := if v ≤ m then v else m

/-- How many bits of the low `n` bits of `v` are 1. -/
def popcount (n v : Nat) : Nat :=
  match n with
  | 0 => 0
  | k + 1 => v % 2 + popcount k (v / 2)

/-- The numbers below `n` whose bit of `v` is 1, in rising order. -/
def bitsSet (n v : Nat) : List Nat := (List.range n).filter (fun i => bit v i)

/-- Element `i` of a list, if there is one. -/
def nth {α : Type} (l : List α) (i : Nat) : Option α := l[i]?

/-- `l` with element `i` replaced by `x` (unchanged where there is none). -/
def setNth {α : Type} (l : List α) (i : Nat) (x : α) : List α := l.set i x

end Sys2Proof.Machine
end

