-- ==== Sys2Proof/Machine/RegsControl.lean ====
section
/-!
DEFINITION. Where the registers of the control region and AON lie in BAR0 (R28) and where each field stands in its register,
by the register tables of the block chapters. `R.X` is a register's BAR0 offset, `F.X_f` the place of its field `f`;
a packet-region register takes its region `n` first.
-/
namespace Sys2Proof.Machine

/-- LTU_CTRL: Lead preference and reversion (02_line_time). -/
def R.LTU_CTRL : Nat := 0x10000
@[inherit_doc R.LTU_CTRL] def F.LTU_CTRL_lead_pref : Fld := ⟨R.LTU_CTRL, 0, 2⟩
@[inherit_doc R.LTU_CTRL] def F.LTU_CTRL_revert : Fld := ⟨R.LTU_CTRL, 2, 1⟩
/-- LTU_STATUS: Lead path, locks, slew and freeze (02_line_time). -/
def R.LTU_STATUS : Nat := 0x10004
@[inherit_doc R.LTU_STATUS] def F.LTU_STATUS_lead : Fld := ⟨R.LTU_STATUS, 0, 3⟩
@[inherit_doc R.LTU_STATUS] def F.LTU_STATUS_lock_a : Fld := ⟨R.LTU_STATUS, 3, 1⟩
@[inherit_doc R.LTU_STATUS] def F.LTU_STATUS_lock_b : Fld := ⟨R.LTU_STATUS, 4, 1⟩
@[inherit_doc R.LTU_STATUS] def F.LTU_STATUS_sec_valid : Fld := ⟨R.LTU_STATUS, 5, 1⟩
@[inherit_doc R.LTU_STATUS] def F.LTU_STATUS_slewing : Fld := ⟨R.LTU_STATUS, 6, 1⟩
@[inherit_doc R.LTU_STATUS] def F.LTU_STATUS_frozen : Fld := ⟨R.LTU_STATUS, 7, 1⟩
@[inherit_doc R.LTU_STATUS] def F.LTU_STATUS_ref_ch : Fld := ⟨R.LTU_STATUS, 8, 6⟩
/-- LTU_FN: Module line time FN[31:0] (02_line_time). -/
def R.LTU_FN : Nat := 0x10008
@[inherit_doc R.LTU_FN] def F.LTU_FN_fn : Fld := ⟨R.LTU_FN, 0, 48⟩
/-- LTU_CW: Current CW (02_line_time). -/
def R.LTU_CW : Nat := 0x10010
@[inherit_doc R.LTU_CW] def F.LTU_CW_cw : Fld := ⟨R.LTU_CW, 0, 13⟩
/-- LTU_SEC_OFFSET: Second offset in use (02_line_time). -/
def R.LTU_SEC_OFFSET : Nat := 0x10014
@[inherit_doc R.LTU_SEC_OFFSET] def F.LTU_SEC_OFFSET_offset : Fld := ⟨R.LTU_SEC_OFFSET, 0, 14⟩
/-- LTU_SEC_FN: FN of the last second announcement (02_line_time). -/
def R.LTU_SEC_FN : Nat := 0x10018
@[inherit_doc R.LTU_SEC_FN] def F.LTU_SEC_FN_fn : Fld := ⟨R.LTU_SEC_FN, 0, 48⟩
/-- LTU_SEC_TAI: TAI second of that announcement (02_line_time). -/
def R.LTU_SEC_TAI : Nat := 0x10020
@[inherit_doc R.LTU_SEC_TAI] def F.LTU_SEC_TAI_sec : Fld := ⟨R.LTU_SEC_TAI, 0, 48⟩
/-- LTU_SLEW: Codewords of slew remaining (02_line_time). -/
def R.LTU_SLEW : Nat := 0x10028
@[inherit_doc R.LTU_SLEW] def F.LTU_SLEW_remain : Fld := ⟨R.LTU_SLEW, 0, 16⟩
/-- LTU_PATH_OFFSET_A: Path A time against module line time (02_line_time). -/
def R.LTU_PATH_OFFSET_A : Nat := 0x1002c
@[inherit_doc R.LTU_PATH_OFFSET_A] def F.LTU_PATH_OFFSET_A_offset : Fld := ⟨R.LTU_PATH_OFFSET_A, 0, 32⟩
/-- LTU_PATH_OFFSET_B: Path B time against module line time (02_line_time). -/
def R.LTU_PATH_OFFSET_B : Nat := 0x10030
@[inherit_doc R.LTU_PATH_OFFSET_B] def F.LTU_PATH_OFFSET_B_offset : Fld := ⟨R.LTU_PATH_OFFSET_B, 0, 32⟩
/-- LTU_HOLD_TIME: Frames in the current or last holdover (02_line_time). -/
def R.LTU_HOLD_TIME : Nat := 0x10034
@[inherit_doc R.LTU_HOLD_TIME] def F.LTU_HOLD_TIME_frames : Fld := ⟨R.LTU_HOLD_TIME, 0, 32⟩
/-- LTU_FB_LFC: LFC at the last module frame boundary (02_line_time). -/
def R.LTU_FB_LFC : Nat := 0x10038
@[inherit_doc R.LTU_FB_LFC] def F.LTU_FB_LFC_lfc : Fld := ⟨R.LTU_FB_LFC, 0, 64⟩
/-- LTU_SNAP_SEQ: Snapshot sequence (02_line_time). -/
def R.LTU_SNAP_SEQ : Nat := 0x10040
@[inherit_doc R.LTU_SNAP_SEQ] def F.LTU_SNAP_SEQ_seq : Fld := ⟨R.LTU_SNAP_SEQ, 0, 32⟩
/-- LTU_SNAP_SKIP: Skipped programmable latches (02_line_time). -/
def R.LTU_SNAP_SKIP : Nat := 0x10044
@[inherit_doc R.LTU_SNAP_SKIP] def F.LTU_SNAP_SKIP_count : Fld := ⟨R.LTU_SNAP_SKIP, 0, 32⟩
/-- LTU_SNAP_FN: FN of the readable snapshot (02_line_time). -/
def R.LTU_SNAP_FN : Nat := 0x10048
@[inherit_doc R.LTU_SNAP_FN] def F.LTU_SNAP_FN_fn : Fld := ⟨R.LTU_SNAP_FN, 0, 48⟩
/-- LTU_EVENT: Sticky events (02_line_time). -/
def R.LTU_EVENT : Nat := 0x10050
@[inherit_doc R.LTU_EVENT] def F.LTU_EVENT_lead_change : Fld := ⟨R.LTU_EVENT, 0, 1⟩
@[inherit_doc R.LTU_EVENT] def F.LTU_EVENT_hold_enter : Fld := ⟨R.LTU_EVENT, 1, 1⟩
@[inherit_doc R.LTU_EVENT] def F.LTU_EVENT_hold_exit : Fld := ⟨R.LTU_EVENT, 2, 1⟩
@[inherit_doc R.LTU_EVENT] def F.LTU_EVENT_step_fwd : Fld := ⟨R.LTU_EVENT, 3, 1⟩
@[inherit_doc R.LTU_EVENT] def F.LTU_EVENT_freeze : Fld := ⟨R.LTU_EVENT, 4, 1⟩
@[inherit_doc R.LTU_EVENT] def F.LTU_EVENT_renumbered : Fld := ⟨R.LTU_EVENT, 5, 1⟩
@[inherit_doc R.LTU_EVENT] def F.LTU_EVENT_sec_change : Fld := ⟨R.LTU_EVENT, 6, 1⟩
@[inherit_doc R.LTU_EVENT] def F.LTU_EVENT_sec_mismatch : Fld := ⟨R.LTU_EVENT, 7, 1⟩
/-- LTU_INT_EN: Interrupt enables for LTU_EVENT (02_line_time). -/
def R.LTU_INT_EN : Nat := 0x10054
@[inherit_doc R.LTU_INT_EN] def F.LTU_INT_EN_enable : Fld := ⟨R.LTU_INT_EN, 0, 8⟩
/-- LTU_ALM_FN: Alarm k time, FN[31:0] (02_line_time). -/
def R.LTU_ALM_FN (k : Nat) : Nat := 0x11000 + 16 * k
@[inherit_doc R.LTU_ALM_FN] def F.LTU_ALM_FN_fn (k : Nat) : Fld := ⟨R.LTU_ALM_FN k, 0, 48⟩
/-- LTU_ALM_CTRL: CW, timebase, arm, period (02_line_time). -/
def R.LTU_ALM_CTRL (k : Nat) : Nat := 0x11008 + 16 * k
@[inherit_doc R.LTU_ALM_CTRL] def F.LTU_ALM_CTRL_cw (k : Nat) : Fld := ⟨R.LTU_ALM_CTRL k, 0, 13⟩
@[inherit_doc R.LTU_ALM_CTRL] def F.LTU_ALM_CTRL_timebase (k : Nat) : Fld := ⟨R.LTU_ALM_CTRL k, 13, 2⟩
@[inherit_doc R.LTU_ALM_CTRL] def F.LTU_ALM_CTRL_arm (k : Nat) : Fld := ⟨R.LTU_ALM_CTRL k, 15, 1⟩
@[inherit_doc R.LTU_ALM_CTRL] def F.LTU_ALM_CTRL_period (k : Nat) : Fld := ⟨R.LTU_ALM_CTRL k, 16, 16⟩
/-- LTU_ALM_STATUS: State, result, disarm (02_line_time). -/
def R.LTU_ALM_STATUS (k : Nat) : Nat := 0x1100c + 16 * k
@[inherit_doc R.LTU_ALM_STATUS] def F.LTU_ALM_STATUS_state (k : Nat) : Fld := ⟨R.LTU_ALM_STATUS k, 0, 2⟩
@[inherit_doc R.LTU_ALM_STATUS] def F.LTU_ALM_STATUS_result (k : Nat) : Fld := ⟨R.LTU_ALM_STATUS k, 4, 3⟩
@[inherit_doc R.LTU_ALM_STATUS] def F.LTU_ALM_STATUS_late (k : Nat) : Fld := ⟨R.LTU_ALM_STATUS k, 8, 1⟩
@[inherit_doc R.LTU_ALM_STATUS] def F.LTU_ALM_STATUS_disarm (k : Nat) : Fld := ⟨R.LTU_ALM_STATUS k, 31, 1⟩
/-- EPC_CTRL: Commands and signature policy (03_structure_image). -/
def R.EPC_CTRL : Nat := 0x20000
@[inherit_doc R.EPC_CTRL] def F.EPC_CTRL_open : Fld := ⟨R.EPC_CTRL, 0, 1⟩
@[inherit_doc R.EPC_CTRL] def F.EPC_CTRL_arm : Fld := ⟨R.EPC_CTRL, 1, 1⟩
@[inherit_doc R.EPC_CTRL] def F.EPC_CTRL_cancel : Fld := ⟨R.EPC_CTRL, 2, 1⟩
@[inherit_doc R.EPC_CTRL] def F.EPC_CTRL_abandon : Fld := ⟨R.EPC_CTRL, 3, 1⟩
@[inherit_doc R.EPC_CTRL] def F.EPC_CTRL_ack : Fld := ⟨R.EPC_CTRL, 4, 1⟩
@[inherit_doc R.EPC_CTRL] def F.EPC_CTRL_now : Fld := ⟨R.EPC_CTRL, 5, 1⟩
@[inherit_doc R.EPC_CTRL] def F.EPC_CTRL_require_sig : Fld := ⟨R.EPC_CTRL, 8, 1⟩
/-- EPC_STATUS: State, active bank, seeding, boot result (03_structure_image). -/
def R.EPC_STATUS : Nat := 0x20004
@[inherit_doc R.EPC_STATUS] def F.EPC_STATUS_state : Fld := ⟨R.EPC_STATUS, 0, 3⟩
@[inherit_doc R.EPC_STATUS] def F.EPC_STATUS_active_bank : Fld := ⟨R.EPC_STATUS, 3, 1⟩
@[inherit_doc R.EPC_STATUS] def F.EPC_STATUS_seeding : Fld := ⟨R.EPC_STATUS, 4, 1⟩
@[inherit_doc R.EPC_STATUS] def F.EPC_STATUS_load_busy : Fld := ⟨R.EPC_STATUS, 5, 1⟩
@[inherit_doc R.EPC_STATUS] def F.EPC_STATUS_quiesce : Fld := ⟨R.EPC_STATUS, 6, 1⟩
@[inherit_doc R.EPC_STATUS] def F.EPC_STATUS_checking : Fld := ⟨R.EPC_STATUS, 7, 1⟩
@[inherit_doc R.EPC_STATUS] def F.EPC_STATUS_boot_result : Fld := ⟨R.EPC_STATUS, 8, 5⟩
/-- EPC_RESULT: Result of the last command (03_structure_image). -/
def R.EPC_RESULT : Nat := 0x20008
@[inherit_doc R.EPC_RESULT] def F.EPC_RESULT_code : Fld := ⟨R.EPC_RESULT, 0, 5⟩
@[inherit_doc R.EPC_RESULT] def F.EPC_RESULT_detail : Fld := ⟨R.EPC_RESULT, 16, 16⟩
/-- EPC_ARM_FN: Commit FN[31:0] (03_structure_image). -/
def R.EPC_ARM_FN : Nat := 0x2000c
@[inherit_doc R.EPC_ARM_FN] def F.EPC_ARM_FN_fn : Fld := ⟨R.EPC_ARM_FN, 0, 48⟩
/-- EPC_ARM_CTRL: Quiesce lead and restart bound (03_structure_image). -/
def R.EPC_ARM_CTRL : Nat := 0x20014
@[inherit_doc R.EPC_ARM_CTRL] def F.EPC_ARM_CTRL_q_lead : Fld := ⟨R.EPC_ARM_CTRL, 0, 8⟩
@[inherit_doc R.EPC_ARM_CTRL] def F.EPC_ARM_CTRL_scope_timeout : Fld := ⟨R.EPC_ARM_CTRL, 8, 16⟩
/-- EPC_LOADED: Sections loaded in the staged bank (03_structure_image). -/
def R.EPC_LOADED : Nat := 0x20018
@[inherit_doc R.EPC_LOADED] def F.EPC_LOADED_sections : Fld := ⟨R.EPC_LOADED, 1, 18⟩
/-- EPC_STRUCT: Loaded sections that are structural (03_structure_image). -/
def R.EPC_STRUCT : Nat := 0x2001c
@[inherit_doc R.EPC_STRUCT] def F.EPC_STRUCT_sections : Fld := ⟨R.EPC_STRUCT, 1, 18⟩
/-- EPC_IMG_ADDR: Host address of the image (03_structure_image). -/
def R.EPC_IMG_ADDR : Nat := 0x20020
@[inherit_doc R.EPC_IMG_ADDR] def F.EPC_IMG_ADDR_addr : Fld := ⟨R.EPC_IMG_ADDR, 0, 64⟩
/-- EPC_IMG_LEN: Image length in bytes (03_structure_image). -/
def R.EPC_IMG_LEN : Nat := 0x20028
@[inherit_doc R.EPC_IMG_LEN] def F.EPC_IMG_LEN_len : Fld := ⟨R.EPC_IMG_LEN, 0, 23⟩
/-- EPC_LOAD: Start a load (03_structure_image). -/
def R.EPC_LOAD : Nat := 0x2002c
@[inherit_doc R.EPC_LOAD] def F.EPC_LOAD_go : Fld := ⟨R.EPC_LOAD, 0, 1⟩
/-- EPC_GEN_ACTIVE: Generation of the active bank (03_structure_image). -/
def R.EPC_GEN_ACTIVE : Nat := 0x20030
@[inherit_doc R.EPC_GEN_ACTIVE] def F.EPC_GEN_ACTIVE_gen : Fld := ⟨R.EPC_GEN_ACTIVE, 0, 32⟩
/-- EPC_GEN_STAGED: Generation of the staged bank (03_structure_image). -/
def R.EPC_GEN_STAGED : Nat := 0x20034
@[inherit_doc R.EPC_GEN_STAGED] def F.EPC_GEN_STAGED_gen : Fld := ⟨R.EPC_GEN_STAGED, 0, 32⟩
/-- EPC_COMMIT_FN: FN of the last commit (03_structure_image). -/
def R.EPC_COMMIT_FN : Nat := 0x20038
@[inherit_doc R.EPC_COMMIT_FN] def F.EPC_COMMIT_FN_fn : Fld := ⟨R.EPC_COMMIT_FN, 0, 48⟩
/-- EPC_DRAIN_TIME: Length of the last drain (03_structure_image). -/
def R.EPC_DRAIN_TIME : Nat := 0x20040
@[inherit_doc R.EPC_DRAIN_TIME] def F.EPC_DRAIN_TIME_cw : Fld := ⟨R.EPC_DRAIN_TIME, 0, 16⟩
/-- EPC_DRAIN_MAX: Longest drain since reset (03_structure_image). -/
def R.EPC_DRAIN_MAX : Nat := 0x20044
@[inherit_doc R.EPC_DRAIN_MAX] def F.EPC_DRAIN_MAX_cw : Fld := ⟨R.EPC_DRAIN_MAX, 0, 16⟩
/-- EPC_COMMIT_COUNT: Commits since reset (03_structure_image). -/
def R.EPC_COMMIT_COUNT : Nat := 0x20048
@[inherit_doc R.EPC_COMMIT_COUNT] def F.EPC_COMMIT_COUNT_count : Fld := ⟨R.EPC_COMMIT_COUNT, 0, 32⟩
/-- EPC_QDROP: Discards in quiesced scopes (03_structure_image). -/
def R.EPC_QDROP : Nat := 0x2004c
@[inherit_doc R.EPC_QDROP] def F.EPC_QDROP_count : Fld := ⟨R.EPC_QDROP, 0, 64⟩
/-- EPC_HOLD_LIMIT: Hold limit of agreement groups (03_structure_image). -/
def R.EPC_HOLD_LIMIT : Nat := 0x20054
@[inherit_doc R.EPC_HOLD_LIMIT] def F.EPC_HOLD_LIMIT_ms : Fld := ⟨R.EPC_HOLD_LIMIT, 0, 16⟩
/-- EPC_HELD_COUNT: Groups currently HELD (03_structure_image). -/
def R.EPC_HELD_COUNT : Nat := 0x20058
@[inherit_doc R.EPC_HELD_COUNT] def F.EPC_HELD_COUNT_count : Fld := ⟨R.EPC_HELD_COUNT, 0, 16⟩
/-- EPC_SEAL_FAIL: Failed seals (03_structure_image). -/
def R.EPC_SEAL_FAIL : Nat := 0x2005c
@[inherit_doc R.EPC_SEAL_FAIL] def F.EPC_SEAL_FAIL_count : Fld := ⟨R.EPC_SEAL_FAIL, 0, 32⟩
/-- EPC_ST_DISCARD: Staged writes discarded (03_structure_image). -/
def R.EPC_ST_DISCARD : Nat := 0x20060
@[inherit_doc R.EPC_ST_DISCARD] def F.EPC_ST_DISCARD_count : Fld := ⟨R.EPC_ST_DISCARD, 0, 32⟩
/-- EPC_EVENT: Sticky events (03_structure_image). -/
def R.EPC_EVENT : Nat := 0x20064
@[inherit_doc R.EPC_EVENT] def F.EPC_EVENT_done : Fld := ⟨R.EPC_EVENT, 0, 1⟩
@[inherit_doc R.EPC_EVENT] def F.EPC_EVENT_drain_overrun : Fld := ⟨R.EPC_EVENT, 1, 1⟩
@[inherit_doc R.EPC_EVENT] def F.EPC_EVENT_scope_timeout : Fld := ⟨R.EPC_EVENT, 2, 1⟩
@[inherit_doc R.EPC_EVENT] def F.EPC_EVENT_load_fail : Fld := ⟨R.EPC_EVENT, 3, 1⟩
@[inherit_doc R.EPC_EVENT] def F.EPC_EVENT_arm_fail : Fld := ⟨R.EPC_EVENT, 4, 1⟩
@[inherit_doc R.EPC_EVENT] def F.EPC_EVENT_hold_timeout : Fld := ⟨R.EPC_EVENT, 5, 1⟩
@[inherit_doc R.EPC_EVENT] def F.EPC_EVENT_returned : Fld := ⟨R.EPC_EVENT, 6, 1⟩
/-- EPC_INT_EN: Interrupt enables for EPC_EVENT (03_structure_image). -/
def R.EPC_INT_EN : Nat := 0x20068
@[inherit_doc R.EPC_INT_EN] def F.EPC_INT_EN_enable : Fld := ⟨R.EPC_INT_EN, 0, 7⟩
/-- TSU_CTRL: Selections and flags (15_network_time). -/
def R.TSU_CTRL : Nat := 0x80000
@[inherit_doc R.TSU_CTRL] def F.TSU_CTRL_serve : Fld := ⟨R.TSU_CTRL, 0, 2⟩
@[inherit_doc R.TSU_CTRL] def F.TSU_CTRL_slew : Fld := ⟨R.TSU_CTRL, 4, 4⟩
@[inherit_doc R.TSU_CTRL] def F.TSU_CTRL_desc_dom : Fld := ⟨R.TSU_CTRL, 8, 2⟩
@[inherit_doc R.TSU_CTRL] def F.TSU_CTRL_local_src : Fld := ⟨R.TSU_CTRL, 10, 2⟩
@[inherit_doc R.TSU_CTRL] def F.TSU_CTRL_ptp_class : Fld := ⟨R.TSU_CTRL, 16, 5⟩
@[inherit_doc R.TSU_CTRL] def F.TSU_CTRL_tc_line : Fld := ⟨R.TSU_CTRL, 24, 1⟩
@[inherit_doc R.TSU_CTRL] def F.TSU_CTRL_tod_en : Fld := ⟨R.TSU_CTRL, 25, 1⟩
@[inherit_doc R.TSU_CTRL] def F.TSU_CTRL_auto_set : Fld := ⟨R.TSU_CTRL, 26, 1⟩
@[inherit_doc R.TSU_CTRL] def F.TSU_CTRL_resid_clr : Fld := ⟨R.TSU_CTRL, 31, 1⟩
/-- TSU_STATUS: Base and domain states (15_network_time). -/
def R.TSU_STATUS : Nat := 0x80004
@[inherit_doc R.TSU_STATUS] def F.TSU_STATUS_base : Fld := ⟨R.TSU_STATUS, 0, 2⟩
@[inherit_doc R.TSU_STATUS] def F.TSU_STATUS_st_a : Fld := ⟨R.TSU_STATUS, 4, 2⟩
@[inherit_doc R.TSU_STATUS] def F.TSU_STATUS_st_b : Fld := ⟨R.TSU_STATUS, 6, 2⟩
@[inherit_doc R.TSU_STATUS] def F.TSU_STATUS_st_l : Fld := ⟨R.TSU_STATUS, 8, 2⟩
@[inherit_doc R.TSU_STATUS] def F.TSU_STATUS_slewing : Fld := ⟨R.TSU_STATUS, 12, 1⟩
@[inherit_doc R.TSU_STATUS] def F.TSU_STATUS_base_pending : Fld := ⟨R.TSU_STATUS, 13, 1⟩
/-- TSU_RESID: Residual r (15_network_time). -/
def R.TSU_RESID : Nat := 0x80008
@[inherit_doc R.TSU_RESID] def F.TSU_RESID_r : Fld := ⟨R.TSU_RESID, 0, 64⟩
/-- TSU_UTC_OFF: UTC offset (15_network_time). -/
def R.TSU_UTC_OFF : Nat := 0x80010
@[inherit_doc R.TSU_UTC_OFF] def F.TSU_UTC_OFF_off : Fld := ⟨R.TSU_UTC_OFF, 0, 16⟩
/-- TSU_LATCH: Latch all domains (15_network_time). -/
def R.TSU_LATCH : Nat := 0x80014
@[inherit_doc R.TSU_LATCH] def F.TSU_LATCH_go : Fld := ⟨R.TSU_LATCH, 0, 1⟩
/-- TSU_LAT_LFC: Raw instant of the latch (15_network_time). -/
def R.TSU_LAT_LFC : Nat := 0x80018
@[inherit_doc R.TSU_LAT_LFC] def F.TSU_LAT_LFC_raw : Fld := ⟨R.TSU_LAT_LFC, 0, 64⟩
/-- TSU_LAT_SEC: Seconds at the latch (15_network_time). -/
def R.TSU_LAT_SEC (d : Nat) : Nat := 0x80020 + 16 * d
@[inherit_doc R.TSU_LAT_SEC] def F.TSU_LAT_SEC_sec (d : Nat) : Fld := ⟨R.TSU_LAT_SEC d, 0, 48⟩
/-- TSU_LAT_NS: Nanoseconds (15_network_time). -/
def R.TSU_LAT_NS (d : Nat) : Nat := 0x80028 + 16 * d
@[inherit_doc R.TSU_LAT_NS] def F.TSU_LAT_NS_ns (d : Nat) : Fld := ⟨R.TSU_LAT_NS d, 0, 30⟩
@[inherit_doc R.TSU_LAT_NS] def F.TSU_LAT_NS_unset (d : Nat) : Fld := ⟨R.TSU_LAT_NS d, 31, 1⟩
/-- TSU_LAT_FRAC: Fraction (15_network_time). -/
def R.TSU_LAT_FRAC (d : Nat) : Nat := 0x8002c + 16 * d
@[inherit_doc R.TSU_LAT_FRAC] def F.TSU_LAT_FRAC_frac (d : Nat) : Fld := ⟨R.TSU_LAT_FRAC d, 0, 32⟩
/-- TSU_EVENT: Sticky events (15_network_time). -/
def R.TSU_EVENT : Nat := 0x80060
@[inherit_doc R.TSU_EVENT] def F.TSU_EVENT_base_change : Fld := ⟨R.TSU_EVENT, 0, 1⟩
@[inherit_doc R.TSU_EVENT] def F.TSU_EVENT_base_pending : Fld := ⟨R.TSU_EVENT, 1, 1⟩
@[inherit_doc R.TSU_EVENT] def F.TSU_EVENT_hold_a : Fld := ⟨R.TSU_EVENT, 2, 1⟩
@[inherit_doc R.TSU_EVENT] def F.TSU_EVENT_hold_b : Fld := ⟨R.TSU_EVENT, 3, 1⟩
@[inherit_doc R.TSU_EVENT] def F.TSU_EVENT_hold_l : Fld := ⟨R.TSU_EVENT, 4, 1⟩
@[inherit_doc R.TSU_EVENT] def F.TSU_EVENT_track_a : Fld := ⟨R.TSU_EVENT, 5, 1⟩
@[inherit_doc R.TSU_EVENT] def F.TSU_EVENT_track_b : Fld := ⟨R.TSU_EVENT, 6, 1⟩
@[inherit_doc R.TSU_EVENT] def F.TSU_EVENT_track_l : Fld := ⟨R.TSU_EVENT, 7, 1⟩
@[inherit_doc R.TSU_EVENT] def F.TSU_EVENT_tsq_ovf : Fld := ⟨R.TSU_EVENT, 8, 1⟩
@[inherit_doc R.TSU_EVENT] def F.TSU_EVENT_tc_miss : Fld := ⟨R.TSU_EVENT, 9, 1⟩
@[inherit_doc R.TSU_EVENT] def F.TSU_EVENT_ppsin_0 : Fld := ⟨R.TSU_EVENT, 10, 1⟩
@[inherit_doc R.TSU_EVENT] def F.TSU_EVENT_ppsin_1 : Fld := ⟨R.TSU_EVENT, 11, 1⟩
/-- TSU_INT_EN: Interrupt enables (15_network_time). -/
def R.TSU_INT_EN : Nat := 0x80064
@[inherit_doc R.TSU_INT_EN] def F.TSU_INT_EN_enable : Fld := ⟨R.TSU_INT_EN, 0, 12⟩
/-- TSU_TC_COUNT: Frames corrected (15_network_time). -/
def R.TSU_TC_COUNT : Nat := 0x80068
@[inherit_doc R.TSU_TC_COUNT] def F.TSU_TC_COUNT_count : Fld := ⟨R.TSU_TC_COUNT, 0, 64⟩
/-- TSU_TC_MISS: Frames not corrected (15_network_time). -/
def R.TSU_TC_MISS : Nat := 0x80070
@[inherit_doc R.TSU_TC_MISS] def F.TSU_TC_MISS_count : Fld := ⟨R.TSU_TC_MISS, 0, 32⟩
/-- TSU_D_STATE: State (15_network_time). -/
def R.TSU_D_STATE (d : Nat) : Nat := 0x80100 + 64 * d
@[inherit_doc R.TSU_D_STATE] def F.TSU_D_STATE_state (d : Nat) : Fld := ⟨R.TSU_D_STATE d, 0, 2⟩
@[inherit_doc R.TSU_D_STATE] def F.TSU_D_STATE_meas_ok (d : Nat) : Fld := ⟨R.TSU_D_STATE d, 2, 1⟩
@[inherit_doc R.TSU_D_STATE] def F.TSU_D_STATE_wait_ann (d : Nat) : Fld := ⟨R.TSU_D_STATE d, 3, 1⟩
/-- TSU_D_RATE: ρ (15_network_time). -/
def R.TSU_D_RATE (d : Nat) : Nat := 0x80104 + 64 * d
@[inherit_doc R.TSU_D_RATE] def F.TSU_D_RATE_rho (d : Nat) : Fld := ⟨R.TSU_D_RATE d, 0, 32⟩
/-- TSU_D_STEP: Phase step (15_network_time). -/
def R.TSU_D_STEP (d : Nat) : Nat := 0x80108 + 64 * d
@[inherit_doc R.TSU_D_STEP] def F.TSU_D_STEP_ns (d : Nat) : Fld := ⟨R.TSU_D_STEP d, 0, 32⟩
/-- TSU_D_SET_SEC: Set value, seconds (15_network_time). -/
def R.TSU_D_SET_SEC (d : Nat) : Nat := 0x8010c + 64 * d
@[inherit_doc R.TSU_D_SET_SEC] def F.TSU_D_SET_SEC_sec (d : Nat) : Fld := ⟨R.TSU_D_SET_SEC d, 0, 48⟩
/-- TSU_D_SET_NS: Set value, nanoseconds (15_network_time). -/
def R.TSU_D_SET_NS (d : Nat) : Nat := 0x80114 + 64 * d
@[inherit_doc R.TSU_D_SET_NS] def F.TSU_D_SET_NS_ns (d : Nat) : Fld := ⟨R.TSU_D_SET_NS d, 0, 30⟩
@[inherit_doc R.TSU_D_SET_NS] def F.TSU_D_SET_NS_go (d : Nat) : Fld := ⟨R.TSU_D_SET_NS d, 31, 1⟩
/-- TSU_D_PHASE: Last phase (15_network_time). -/
def R.TSU_D_PHASE (d : Nat) : Nat := 0x80118 + 64 * d
@[inherit_doc R.TSU_D_PHASE] def F.TSU_D_PHASE_phase (d : Nat) : Fld := ⟨R.TSU_D_PHASE d, 0, 32⟩
/-- TSU_D_PHASE_MF: Mean phase (15_network_time). -/
def R.TSU_D_PHASE_MF (d : Nat) : Nat := 0x8011c + 64 * d
@[inherit_doc R.TSU_D_PHASE_MF] def F.TSU_D_PHASE_MF_phase (d : Nat) : Fld := ⟨R.TSU_D_PHASE_MF d, 0, 32⟩
/-- TSU_D_MEAS: Measurements (15_network_time). -/
def R.TSU_D_MEAS (d : Nat) : Nat := 0x80120 + 64 * d
@[inherit_doc R.TSU_D_MEAS] def F.TSU_D_MEAS_count (d : Nat) : Fld := ⟨R.TSU_D_MEAS d, 0, 32⟩
/-- TSU_D_DDN: d_dn in use (15_network_time). -/
def R.TSU_D_DDN (d : Nat) : Nat := 0x80124 + 64 * d
@[inherit_doc R.TSU_D_DDN] def F.TSU_D_DDN_ddn (d : Nat) : Fld := ⟨R.TSU_D_DDN d, 0, 32⟩
/-- TSU_D_TEQ: teq (15_network_time). -/
def R.TSU_D_TEQ (d : Nat) : Nat := 0x80128 + 64 * d
@[inherit_doc R.TSU_D_TEQ] def F.TSU_D_TEQ_teq (d : Nat) : Fld := ⟨R.TSU_D_TEQ d, 0, 32⟩
/-- TSU_D_FASYM: a_fibre (15_network_time). -/
def R.TSU_D_FASYM (d : Nat) : Nat := 0x8012c + 64 * d
@[inherit_doc R.TSU_D_FASYM] def F.TSU_D_FASYM_asym (d : Nat) : Fld := ⟨R.TSU_D_FASYM d, 0, 32⟩
/-- TSU_PPS_CFG: PPS_OUT_k (15_network_time). -/
def R.TSU_PPS_CFG (k : Nat) : Nat := 0x80300 + 16 * k
@[inherit_doc R.TSU_PPS_CFG] def F.TSU_PPS_CFG_dom (k : Nat) : Fld := ⟨R.TSU_PPS_CFG k, 0, 2⟩
@[inherit_doc R.TSU_PPS_CFG] def F.TSU_PPS_CFG_en (k : Nat) : Fld := ⟨R.TSU_PPS_CFG k, 4, 1⟩
@[inherit_doc R.TSU_PPS_CFG] def F.TSU_PPS_CFG_invert (k : Nat) : Fld := ⟨R.TSU_PPS_CFG k, 5, 1⟩
@[inherit_doc R.TSU_PPS_CFG] def F.TSU_PPS_CFG_squelch (k : Nat) : Fld := ⟨R.TSU_PPS_CFG k, 6, 1⟩
@[inherit_doc R.TSU_PPS_CFG] def F.TSU_PPS_CFG_width (k : Nat) : Fld := ⟨R.TSU_PPS_CFG k, 16, 9⟩
/-- TSU_PPS_DELAY: Edge advance (15_network_time). -/
def R.TSU_PPS_DELAY (k : Nat) : Nat := 0x80304 + 16 * k
@[inherit_doc R.TSU_PPS_DELAY] def F.TSU_PPS_DELAY_delay (k : Nat) : Fld := ⟨R.TSU_PPS_DELAY k, 0, 32⟩
/-- TSU_REF_CFG: REF10M_OUT (15_network_time). -/
def R.TSU_REF_CFG : Nat := 0x80320
@[inherit_doc R.TSU_REF_CFG] def F.TSU_REF_CFG_dom : Fld := ⟨R.TSU_REF_CFG, 0, 2⟩
@[inherit_doc R.TSU_REF_CFG] def F.TSU_REF_CFG_en : Fld := ⟨R.TSU_REF_CFG, 4, 1⟩
/-- TSU_PPSIN_LFC: Last PPS_IN_k edge (15_network_time). -/
def R.TSU_PPSIN_LFC (k : Nat) : Nat := 0x80330 + 16 * k
@[inherit_doc R.TSU_PPSIN_LFC] def F.TSU_PPSIN_LFC_raw (k : Nat) : Fld := ⟨R.TSU_PPSIN_LFC k, 0, 64⟩
/-- TSU_PPSIN_COUNT: Edges (15_network_time). -/
def R.TSU_PPSIN_COUNT (k : Nat) : Nat := 0x80338 + 16 * k
@[inherit_doc R.TSU_PPSIN_COUNT] def F.TSU_PPSIN_COUNT_count (k : Nat) : Fld := ⟨R.TSU_PPSIN_COUNT k, 0, 32⟩
/-- TSU_CONV_IN: Raw value to convert (15_network_time). -/
def R.TSU_CONV_IN : Nat := 0x80400
@[inherit_doc R.TSU_CONV_IN] def F.TSU_CONV_IN_raw : Fld := ⟨R.TSU_CONV_IN, 0, 64⟩
/-- TSU_CONV_DOM: Domain and status (15_network_time). -/
def R.TSU_CONV_DOM : Nat := 0x80408
@[inherit_doc R.TSU_CONV_DOM] def F.TSU_CONV_DOM_dom : Fld := ⟨R.TSU_CONV_DOM, 0, 2⟩
@[inherit_doc R.TSU_CONV_DOM] def F.TSU_CONV_DOM_stale : Fld := ⟨R.TSU_CONV_DOM, 8, 1⟩
/-- TSU_CONV_SEC: Result, seconds (15_network_time). -/
def R.TSU_CONV_SEC : Nat := 0x8040c
@[inherit_doc R.TSU_CONV_SEC] def F.TSU_CONV_SEC_sec : Fld := ⟨R.TSU_CONV_SEC, 0, 48⟩
/-- TSU_CONV_NS: Result, nanoseconds (15_network_time). -/
def R.TSU_CONV_NS : Nat := 0x80414
@[inherit_doc R.TSU_CONV_NS] def F.TSU_CONV_NS_ns : Fld := ⟨R.TSU_CONV_NS, 0, 30⟩
/-- TSU_CONV_FRAC: Result, fraction (15_network_time). -/
def R.TSU_CONV_FRAC : Nat := 0x80418
@[inherit_doc R.TSU_CONV_FRAC] def F.TSU_CONV_FRAC_frac : Fld := ⟨R.TSU_CONV_FRAC, 0, 32⟩
/-- TSU_PORT_CFG: Port p (15_network_time). -/
def R.TSU_PORT_CFG (p : Nat) : Nat := 0x81000 + 16 * p
@[inherit_doc R.TSU_PORT_CFG] def F.TSU_PORT_CFG_tc_en (p : Nat) : Fld := ⟨R.TSU_PORT_CFG p, 0, 1⟩
/-- TSU_PORT_RX: Receive constants (15_network_time). -/
def R.TSU_PORT_RX (p : Nat) : Nat := 0x81004 + 16 * p
@[inherit_doc R.TSU_PORT_RX] def F.TSU_PORT_RX_board (p : Nat) : Fld := ⟨R.TSU_PORT_RX p, 0, 16⟩
@[inherit_doc R.TSU_PORT_RX] def F.TSU_PORT_RX_cal (p : Nat) : Fld := ⟨R.TSU_PORT_RX p, 16, 16⟩
/-- TSU_PORT_TX: Transmit constants (15_network_time). -/
def R.TSU_PORT_TX (p : Nat) : Nat := 0x81008 + 16 * p
@[inherit_doc R.TSU_PORT_TX] def F.TSU_PORT_TX_board (p : Nat) : Fld := ⟨R.TSU_PORT_TX p, 0, 16⟩
@[inherit_doc R.TSU_PORT_TX] def F.TSU_PORT_TX_cal (p : Nat) : Fld := ⟨R.TSU_PORT_TX p, 16, 16⟩
/-- TSU_LINE_ASYM: a_line of CH_n, path q (15_network_time). -/
def R.TSU_LINE_ASYM (q n : Nat) : Nat := 0x82000 + 256 * q + 4 * n
@[inherit_doc R.TSU_LINE_ASYM] def F.TSU_LINE_ASYM_asym (q n : Nat) : Fld := ⟨R.TSU_LINE_ASYM q n, 0, 16⟩
/-- TSU_TSQ_LEVEL: Queue of packet region r (15_network_time). -/
def R.TSU_TSQ_LEVEL (r : Nat) : Nat := 0x84000 + 256 * r
@[inherit_doc R.TSU_TSQ_LEVEL] def F.TSU_TSQ_LEVEL_level (r : Nat) : Fld := ⟨R.TSU_TSQ_LEVEL r, 0, 11⟩
/-- TSU_TSQ_OVF: Records discarded (15_network_time). -/
def R.TSU_TSQ_OVF (r : Nat) : Nat := 0x84004 + 256 * r
@[inherit_doc R.TSU_TSQ_OVF] def F.TSU_TSQ_OVF_count (r : Nat) : Fld := ⟨R.TSU_TSQ_OVF r, 0, 32⟩
/-- TSU_TSQ_POP: Remove oldest (15_network_time). -/
def R.TSU_TSQ_POP (r : Nat) : Nat := 0x84008 + 256 * r
@[inherit_doc R.TSU_TSQ_POP] def F.TSU_TSQ_POP_pop (r : Nat) : Fld := ⟨R.TSU_TSQ_POP r, 0, 1⟩
/-- TSU_TSQ_REC: Oldest record, word w (15_network_time). -/
def R.TSU_TSQ_REC (r w : Nat) : Nat := 0x84020 + 256 * r + 4 * w
@[inherit_doc R.TSU_TSQ_REC] def F.TSU_TSQ_REC_bits (r w : Nat) : Fld := ⟨R.TSU_TSQ_REC r w, 0, 32⟩
/-- CPL_CTRL: Restart, halt, confirm (16_policy_firmware). -/
def R.CPL_CTRL : Nat := 0xa00000
@[inherit_doc R.CPL_CTRL] def F.CPL_CTRL_restart : Fld := ⟨R.CPL_CTRL, 0, 1⟩
@[inherit_doc R.CPL_CTRL] def F.CPL_CTRL_halt : Fld := ⟨R.CPL_CTRL, 1, 1⟩
@[inherit_doc R.CPL_CTRL] def F.CPL_CTRL_confirm : Fld := ⟨R.CPL_CTRL, 2, 1⟩
/-- CPL_STATUS: Cluster state and slot (16_policy_firmware). -/
def R.CPL_STATUS : Nat := 0xa00004
@[inherit_doc R.CPL_STATUS] def F.CPL_STATUS_state : Fld := ⟨R.CPL_STATUS, 0, 3⟩
@[inherit_doc R.CPL_STATUS] def F.CPL_STATUS_slot : Fld := ⟨R.CPL_STATUS, 4, 1⟩
@[inherit_doc R.CPL_STATUS] def F.CPL_STATUS_trial : Fld := ⟨R.CPL_STATUS, 5, 1⟩
@[inherit_doc R.CPL_STATUS] def F.CPL_STATUS_cores_up : Fld := ⟨R.CPL_STATUS, 8, 8⟩
/-- CPL_IMG_VER: version of slot s, s = 0 (A), 1 (B) (16_policy_firmware). -/
def R.CPL_IMG_VER (s : Nat) : Nat := 0xa00008 + 8 * s
@[inherit_doc R.CPL_IMG_VER] def F.CPL_IMG_VER_value (s : Nat) : Fld := ⟨R.CPL_IMG_VER s, 0, 32⟩
/-- CPL_IMG_SVN: svn of slot s (16_policy_firmware). -/
def R.CPL_IMG_SVN (s : Nat) : Nat := 0xa0000c + 8 * s
@[inherit_doc R.CPL_IMG_SVN] def F.CPL_IMG_SVN_value (s : Nat) : Fld := ⟨R.CPL_IMG_SVN s, 0, 32⟩
/-- CPL_WDT: Watchdog (16_policy_firmware). -/
def R.CPL_WDT : Nat := 0xa00018
@[inherit_doc R.CPL_WDT] def F.CPL_WDT_period : Fld := ⟨R.CPL_WDT, 0, 14⟩
@[inherit_doc R.CPL_WDT] def F.CPL_WDT_core_mask : Fld := ⟨R.CPL_WDT, 16, 8⟩
/-- CPL_WDT_KICK: Kicks (16_policy_firmware). -/
def R.CPL_WDT_KICK : Nat := 0xa0001c
@[inherit_doc R.CPL_WDT_KICK] def F.CPL_WDT_KICK_kick : Fld := ⟨R.CPL_WDT_KICK, 0, 8⟩
/-- CPL_RESETS: Cluster resets (16_policy_firmware). -/
def R.CPL_RESETS : Nat := 0xa00020
@[inherit_doc R.CPL_RESETS] def F.CPL_RESETS_count : Fld := ⟨R.CPL_RESETS, 0, 16⟩
@[inherit_doc R.CPL_RESETS] def F.CPL_RESETS_cause : Fld := ⟨R.CPL_RESETS, 16, 4⟩
/-- CPL_MBX_TO: Mailbox timeout (16_policy_firmware). -/
def R.CPL_MBX_TO : Nat := 0xa00024
@[inherit_doc R.CPL_MBX_TO] def F.CPL_MBX_TO_ms : Fld := ⟨R.CPL_MBX_TO, 0, 14⟩
/-- CPL_MBX_POST: Post a slot (16_policy_firmware). -/
def R.CPL_MBX_POST : Nat := 0xa00028
@[inherit_doc R.CPL_MBX_POST] def F.CPL_MBX_POST_slot : Fld := ⟨R.CPL_MBX_POST, 0, 6⟩
/-- CPL_MBX_ACK: Free a slot (16_policy_firmware). -/
def R.CPL_MBX_ACK : Nat := 0xa0002c
@[inherit_doc R.CPL_MBX_ACK] def F.CPL_MBX_ACK_slot : Fld := ⟨R.CPL_MBX_ACK, 0, 6⟩
/-- CPL_MBX_DROP: Discarded mailbox writes (16_policy_firmware). -/
def R.CPL_MBX_DROP : Nat := 0xa00030
@[inherit_doc R.CPL_MBX_DROP] def F.CPL_MBX_DROP_count : Fld := ⟨R.CPL_MBX_DROP, 0, 32⟩
/-- CPL_FW_DISP: Firmware discard report (16_policy_firmware). -/
def R.CPL_FW_DISP : Nat := 0xa00034
@[inherit_doc R.CPL_FW_DISP] def F.CPL_FW_DISP_code : Fld := ⟨R.CPL_FW_DISP, 0, 8⟩
/-- CPL_EVENT: Sticky events (16_policy_firmware). -/
def R.CPL_EVENT : Nat := 0xa00038
@[inherit_doc R.CPL_EVENT] def F.CPL_EVENT_wdt : Fld := ⟨R.CPL_EVENT, 0, 1⟩
@[inherit_doc R.CPL_EVENT] def F.CPL_EVENT_failed : Fld := ⟨R.CPL_EVENT, 1, 1⟩
@[inherit_doc R.CPL_EVENT] def F.CPL_EVENT_trial_revert : Fld := ⟨R.CPL_EVENT, 2, 1⟩
@[inherit_doc R.CPL_EVENT] def F.CPL_EVENT_mbx_timeout : Fld := ⟨R.CPL_EVENT, 3, 1⟩
@[inherit_doc R.CPL_EVENT] def F.CPL_EVENT_sp_full : Fld := ⟨R.CPL_EVENT, 4, 1⟩
@[inherit_doc R.CPL_EVENT] def F.CPL_EVENT_inj_bad : Fld := ⟨R.CPL_EVENT, 5, 1⟩
/-- CPL_INT_EN: Interrupt enables (16_policy_firmware). -/
def R.CPL_INT_EN : Nat := 0xa0003c
@[inherit_doc R.CPL_INT_EN] def F.CPL_INT_EN_enable : Fld := ⟨R.CPL_INT_EN, 0, 6⟩
/-- CPL_DISC: Discards with code 0x70 + k, k = 0, 1 (16_policy_firmware). -/
def R.CPL_DISC (k : Nat) : Nat := 0xa00040 + 8 * k
@[inherit_doc R.CPL_DISC] def F.CPL_DISC_count (k : Nat) : Fld := ⟨R.CPL_DISC k, 0, 64⟩
/-- CPL_SP_HEAD: Slow-path ring head, region r (16_policy_firmware). -/
def R.CPL_SP_HEAD (r : Nat) : Nat := 0xa00080 + 16 * r
@[inherit_doc R.CPL_SP_HEAD] def F.CPL_SP_HEAD_index (r : Nat) : Fld := ⟨R.CPL_SP_HEAD r, 0, 13⟩
/-- CPL_SP_TAIL: Slow-path ring tail (16_policy_firmware). -/
def R.CPL_SP_TAIL (r : Nat) : Nat := 0xa00084 + 16 * r
@[inherit_doc R.CPL_SP_TAIL] def F.CPL_SP_TAIL_index (r : Nat) : Fld := ⟨R.CPL_SP_TAIL r, 0, 13⟩
/-- CPL_INJ_HEAD: Injection ring head (16_policy_firmware). -/
def R.CPL_INJ_HEAD (i : Nat) : Nat := 0xa00100 + 8 * i
@[inherit_doc R.CPL_INJ_HEAD] def F.CPL_INJ_HEAD_index (i : Nat) : Fld := ⟨R.CPL_INJ_HEAD i, 0, 10⟩
/-- CPL_INJ_TAIL: Injection ring tail (16_policy_firmware). -/
def R.CPL_INJ_TAIL (i : Nat) : Nat := 0xa00104 + 8 * i
@[inherit_doc R.CPL_INJ_TAIL] def F.CPL_INJ_TAIL_index (i : Nat) : Fld := ⟨R.CPL_INJ_TAIL i, 0, 10⟩
/-- CPL_MBX_STATE: Slot s state (16_policy_firmware). -/
def R.CPL_MBX_STATE (s : Nat) : Nat := 0xa00200 + 4 * s
@[inherit_doc R.CPL_MBX_STATE] def F.CPL_MBX_STATE_state (s : Nat) : Fld := ⟨R.CPL_MBX_STATE s, 0, 2⟩
@[inherit_doc R.CPL_MBX_STATE] def F.CPL_MBX_STATE_result (s : Nat) : Fld := ⟨R.CPL_MBX_STATE s, 8, 8⟩
/-- CPL_MBX_SLOT: Slot s body (16_policy_firmware). -/
def R.CPL_MBX_SLOT (s : Nat) : Nat := 0xa10000 + 128 * s
/-- WRD_STATUS: Warden state (16_policy_firmware). -/
def R.WRD_STATUS : Nat := 0xa0000
@[inherit_doc R.WRD_STATUS] def F.WRD_STATUS_running : Fld := ⟨R.WRD_STATUS, 0, 1⟩
@[inherit_doc R.WRD_STATUS] def F.WRD_STATUS_wslot : Fld := ⟨R.WRD_STATUS, 1, 1⟩
@[inherit_doc R.WRD_STATUS] def F.WRD_STATUS_boot_pref : Fld := ⟨R.WRD_STATUS, 2, 1⟩
/-- WRD_CMD: Command (16_policy_firmware). -/
def R.WRD_CMD : Nat := 0xa0004
@[inherit_doc R.WRD_CMD] def F.WRD_CMD_op : Fld := ⟨R.WRD_CMD, 0, 4⟩
@[inherit_doc R.WRD_CMD] def F.WRD_CMD_slot : Fld := ⟨R.WRD_CMD, 8, 1⟩
@[inherit_doc R.WRD_CMD] def F.WRD_CMD_key : Fld := ⟨R.WRD_CMD, 12, 2⟩
@[inherit_doc R.WRD_CMD] def F.WRD_CMD_go : Fld := ⟨R.WRD_CMD, 31, 1⟩
/-- WRD_ADDR: Host address of the image (16_policy_firmware). -/
def R.WRD_ADDR : Nat := 0xa0008
@[inherit_doc R.WRD_ADDR] def F.WRD_ADDR_addr : Fld := ⟨R.WRD_ADDR, 0, 64⟩
/-- WRD_LEN: Image length (16_policy_firmware). -/
def R.WRD_LEN : Nat := 0xa0010
@[inherit_doc R.WRD_LEN] def F.WRD_LEN_len : Fld := ⟨R.WRD_LEN, 0, 24⟩
/-- WRD_RESULT: Result and progress (16_policy_firmware). -/
def R.WRD_RESULT : Nat := 0xa0014
@[inherit_doc R.WRD_RESULT] def F.WRD_RESULT_code : Fld := ⟨R.WRD_RESULT, 0, 4⟩
@[inherit_doc R.WRD_RESULT] def F.WRD_RESULT_busy : Fld := ⟨R.WRD_RESULT, 4, 1⟩
@[inherit_doc R.WRD_RESULT] def F.WRD_RESULT_pct : Fld := ⟨R.WRD_RESULT, 8, 7⟩
/-- WRD_MIN_SVN: Policy rollback floor (16_policy_firmware). -/
def R.WRD_MIN_SVN : Nat := 0xa0018
@[inherit_doc R.WRD_MIN_SVN] def F.WRD_MIN_SVN_svn : Fld := ⟨R.WRD_MIN_SVN, 0, 32⟩
/-- WRD_KEYS: Policy-signing keys (16_policy_firmware). -/
def R.WRD_KEYS : Nat := 0xa001c
@[inherit_doc R.WRD_KEYS] def F.WRD_KEYS_valid : Fld := ⟨R.WRD_KEYS, 0, 4⟩
@[inherit_doc R.WRD_KEYS] def F.WRD_KEYS_revoked : Fld := ⟨R.WRD_KEYS, 4, 4⟩
/-- WRD_VER: Running warden version (16_policy_firmware). -/
def R.WRD_VER : Nat := 0xa0020
@[inherit_doc R.WRD_VER] def F.WRD_VER_version : Fld := ⟨R.WRD_VER, 0, 32⟩
/-- WRD_RESETS: Warden watchdog resets (16_policy_firmware). -/
def R.WRD_RESETS : Nat := 0xa0024
@[inherit_doc R.WRD_RESETS] def F.WRD_RESETS_count : Fld := ⟨R.WRD_RESETS, 0, 16⟩
/-- WRD_EVENT: Sticky events (16_policy_firmware). -/
def R.WRD_EVENT : Nat := 0xa0028
@[inherit_doc R.WRD_EVENT] def F.WRD_EVENT_cmd_done : Fld := ⟨R.WRD_EVENT, 0, 1⟩
@[inherit_doc R.WRD_EVENT] def F.WRD_EVENT_cmd_fail : Fld := ⟨R.WRD_EVENT, 1, 1⟩
@[inherit_doc R.WRD_EVENT] def F.WRD_EVENT_wdt : Fld := ⟨R.WRD_EVENT, 2, 1⟩
/-- WRD_INT_EN: Interrupt enables (16_policy_firmware). -/
def R.WRD_INT_EN : Nat := 0xa002c
@[inherit_doc R.WRD_INT_EN] def F.WRD_INT_EN_enable : Fld := ⟨R.WRD_INT_EN, 0, 3⟩
/-- HIF_ID: Vendor and device IDs (17_host_interface). -/
def R.HIF_ID : Nat := 0xb00000
@[inherit_doc R.HIF_ID] def F.HIF_ID_device : Fld := ⟨R.HIF_ID, 0, 16⟩
@[inherit_doc R.HIF_ID] def F.HIF_ID_vendor : Fld := ⟨R.HIF_ID, 16, 16⟩
/-- HIF_LINK: Trained link (17_host_interface). -/
def R.HIF_LINK : Nat := 0xb00004
@[inherit_doc R.HIF_LINK] def F.HIF_LINK_speed : Fld := ⟨R.HIF_LINK, 0, 3⟩
@[inherit_doc R.HIF_LINK] def F.HIF_LINK_width : Fld := ⟨R.HIF_LINK, 3, 5⟩
@[inherit_doc R.HIF_LINK] def F.HIF_LINK_flit : Fld := ⟨R.HIF_LINK, 8, 1⟩
/-- HIF_P0_CTRL: P0 challenge and response (17_host_interface). -/
def R.HIF_P0_CTRL : Nat := 0xb00008
@[inherit_doc R.HIF_P0_CTRL] def F.HIF_P0_CTRL_challenge : Fld := ⟨R.HIF_P0_CTRL, 0, 1⟩
@[inherit_doc R.HIF_P0_CTRL] def F.HIF_P0_CTRL_respond : Fld := ⟨R.HIF_P0_CTRL, 1, 1⟩
@[inherit_doc R.HIF_P0_CTRL] def F.HIF_P0_CTRL_drop : Fld := ⟨R.HIF_P0_CTRL, 2, 1⟩
@[inherit_doc R.HIF_P0_CTRL] def F.HIF_P0_CTRL_result : Fld := ⟨R.HIF_P0_CTRL, 4, 2⟩
@[inherit_doc R.HIF_P0_CTRL] def F.HIF_P0_CTRL_p0 : Fld := ⟨R.HIF_P0_CTRL, 8, 1⟩
/-- HIF_UNMAPPED: Unmapped accesses (R29) (17_host_interface). -/
def R.HIF_UNMAPPED : Nat := 0xb0000c
@[inherit_doc R.HIF_UNMAPPED] def F.HIF_UNMAPPED_count : Fld := ⟨R.HIF_UNMAPPED, 0, 32⟩
/-- HIF_P0_NONCE: Nonce, w = 0 to 7 (17_host_interface). -/
def R.HIF_P0_NONCE (w : Nat) : Nat := 0xb00010 + 4 * w
@[inherit_doc R.HIF_P0_NONCE] def F.HIF_P0_NONCE_bits (w : Nat) : Fld := ⟨R.HIF_P0_NONCE w, 0, 32⟩
/-- HIF_EVENT: Sticky events (17_host_interface). -/
def R.HIF_EVENT : Nat := 0xb00030
@[inherit_doc R.HIF_EVENT] def F.HIF_EVENT_dma_err : Fld := ⟨R.HIF_EVENT, 0, 1⟩
@[inherit_doc R.HIF_EVENT] def F.HIF_EVENT_p0_fail : Fld := ⟨R.HIF_EVENT, 1, 1⟩
@[inherit_doc R.HIF_EVENT] def F.HIF_EVENT_flr : Fld := ⟨R.HIF_EVENT, 2, 1⟩
@[inherit_doc R.HIF_EVENT] def F.HIF_EVENT_wb_timeout : Fld := ⟨R.HIF_EVENT, 3, 1⟩
/-- HIF_INT_EN: Interrupt enables (17_host_interface). -/
def R.HIF_INT_EN : Nat := 0xb00034
@[inherit_doc R.HIF_INT_EN] def F.HIF_INT_EN_enable : Fld := ⟨R.HIF_INT_EN, 0, 4⟩
/-- HIF_RX_REL: Release a held reference (17_host_interface). -/
def R.HIF_RX_REL : Nat := 0xb00038
@[inherit_doc R.HIF_RX_REL] def F.HIF_RX_REL_index : Fld := ⟨R.HIF_RX_REL, 0, 16⟩
@[inherit_doc R.HIF_RX_REL] def F.HIF_RX_REL_ring : Fld := ⟨R.HIF_RX_REL, 16, 6⟩
/-- HIF_FLR_STATUS: Functions in FLR (17_host_interface). -/
def R.HIF_FLR_STATUS : Nat := 0xb0003c
@[inherit_doc R.HIF_FLR_STATUS] def F.HIF_FLR_STATUS_fn : Fld := ⟨R.HIF_FLR_STATUS, 0, 16⟩
/-- HIF_DISC: Discards with code 0x78 + k, k = 0 to 4 (17_host_interface). -/
def R.HIF_DISC (k : Nat) : Nat := 0xb00040 + 8 * k
@[inherit_doc R.HIF_DISC] def F.HIF_DISC_count (k : Nat) : Fld := ⟨R.HIF_DISC k, 0, 64⟩
/-- HIF_P0_SIG: Signature, w = 0 to 23 (17_host_interface). -/
def R.HIF_P0_SIG (w : Nat) : Nat := 0xb00100 + 4 * w
@[inherit_doc R.HIF_P0_SIG] def F.HIF_P0_SIG_bits (w : Nat) : Fld := ⟨R.HIF_P0_SIG w, 0, 32⟩
/-- HIF_SRC_MAP: Interrupt source s, s = 0 to 463 (17_host_interface). -/
def R.HIF_SRC_MAP (s : Nat) : Nat := 0xb00200 + 4 * s
@[inherit_doc R.HIF_SRC_MAP] def F.HIF_SRC_MAP_vector (s : Nat) : Fld := ⟨R.HIF_SRC_MAP s, 0, 7⟩
@[inherit_doc R.HIF_SRC_MAP] def F.HIF_SRC_MAP_fn (s : Nat) : Fld := ⟨R.HIF_SRC_MAP s, 8, 4⟩
@[inherit_doc R.HIF_SRC_MAP] def F.HIF_SRC_MAP_en (s : Nat) : Fld := ⟨R.HIF_SRC_MAP s, 15, 1⟩
/-- HIF_TX_BASE: Ring base (17_host_interface). -/
def R.HIF_TX_BASE (t : Nat) : Nat := 0xb01000 + 64 * t
@[inherit_doc R.HIF_TX_BASE] def F.HIF_TX_BASE_addr (t : Nat) : Fld := ⟨R.HIF_TX_BASE t, 0, 64⟩
/-- HIF_RX_BASE: Ring base (17_host_interface). -/
def R.HIF_RX_BASE (r : Nat) : Nat := 0xb03000 + 64 * r
@[inherit_doc R.HIF_RX_BASE] def F.HIF_RX_BASE_addr (r : Nat) : Fld := ⟨R.HIF_RX_BASE r, 0, 64⟩
/-- HIF_TX_SIZE: log₂ of the size (17_host_interface). -/
def R.HIF_TX_SIZE (t : Nat) : Nat := 0xb01008 + 64 * t
@[inherit_doc R.HIF_TX_SIZE] def F.HIF_TX_SIZE_log2 (t : Nat) : Fld := ⟨R.HIF_TX_SIZE t, 0, 5⟩
/-- HIF_RX_SIZE: log₂ of the size (17_host_interface). -/
def R.HIF_RX_SIZE (r : Nat) : Nat := 0xb03008 + 64 * r
@[inherit_doc R.HIF_RX_SIZE] def F.HIF_RX_SIZE_log2 (r : Nat) : Fld := ⟨R.HIF_RX_SIZE r, 0, 5⟩
/-- HIF_TX_HEAD: Head (17_host_interface). -/
def R.HIF_TX_HEAD (t : Nat) : Nat := 0xb0100c + 64 * t
@[inherit_doc R.HIF_TX_HEAD] def F.HIF_TX_HEAD_index (t : Nat) : Fld := ⟨R.HIF_TX_HEAD t, 0, 16⟩
/-- HIF_RX_HEAD: Head (17_host_interface). -/
def R.HIF_RX_HEAD (r : Nat) : Nat := 0xb0300c + 64 * r
@[inherit_doc R.HIF_RX_HEAD] def F.HIF_RX_HEAD_index (r : Nat) : Fld := ⟨R.HIF_RX_HEAD r, 0, 16⟩
/-- HIF_TX_TAIL: Tail (17_host_interface). -/
def R.HIF_TX_TAIL (t : Nat) : Nat := 0xb01010 + 64 * t
@[inherit_doc R.HIF_TX_TAIL] def F.HIF_TX_TAIL_index (t : Nat) : Fld := ⟨R.HIF_TX_TAIL t, 0, 16⟩
/-- HIF_RX_TAIL: Tail (17_host_interface). -/
def R.HIF_RX_TAIL (r : Nat) : Nat := 0xb03010 + 64 * r
@[inherit_doc R.HIF_RX_TAIL] def F.HIF_RX_TAIL_index (r : Nat) : Fld := ⟨R.HIF_RX_TAIL r, 0, 16⟩
/-- HIF_TX_CFG: Ring configuration (17_host_interface). -/
def R.HIF_TX_CFG (t : Nat) : Nat := 0xb01014 + 64 * t
@[inherit_doc R.HIF_TX_CFG] def F.HIF_TX_CFG_en (t : Nat) : Fld := ⟨R.HIF_TX_CFG t, 0, 1⟩
@[inherit_doc R.HIF_TX_CFG] def F.HIF_TX_CFG_pad_en (t : Nat) : Fld := ⟨R.HIF_TX_CFG t, 1, 1⟩
@[inherit_doc R.HIF_TX_CFG] def F.HIF_TX_CFG_owner (t : Nat) : Fld := ⟨R.HIF_TX_CFG t, 4, 10⟩
@[inherit_doc R.HIF_TX_CFG] def F.HIF_TX_CFG_coal_n (t : Nat) : Fld := ⟨R.HIF_TX_CFG t, 16, 8⟩
@[inherit_doc R.HIF_TX_CFG] def F.HIF_TX_CFG_wb_to (t : Nat) : Fld := ⟨R.HIF_TX_CFG t, 24, 8⟩
/-- HIF_RX_CFG: Ring configuration (17_host_interface). -/
def R.HIF_RX_CFG (r : Nat) : Nat := 0xb03014 + 64 * r
@[inherit_doc R.HIF_RX_CFG] def F.HIF_RX_CFG_en (r : Nat) : Fld := ⟨R.HIF_RX_CFG r, 0, 1⟩
@[inherit_doc R.HIF_RX_CFG] def F.HIF_RX_CFG_hold (r : Nat) : Fld := ⟨R.HIF_RX_CFG r, 1, 1⟩
@[inherit_doc R.HIF_RX_CFG] def F.HIF_RX_CFG_coal_us (r : Nat) : Fld := ⟨R.HIF_RX_CFG r, 4, 12⟩
@[inherit_doc R.HIF_RX_CFG] def F.HIF_RX_CFG_coal_n (r : Nat) : Fld := ⟨R.HIF_RX_CFG r, 16, 8⟩
/-- HIF_TX_FRAMES: Frames (17_host_interface). -/
def R.HIF_TX_FRAMES (t : Nat) : Nat := 0xb01018 + 64 * t
@[inherit_doc R.HIF_TX_FRAMES] def F.HIF_TX_FRAMES_count (t : Nat) : Fld := ⟨R.HIF_TX_FRAMES t, 0, 64⟩
/-- HIF_RX_FRAMES: Frames (17_host_interface). -/
def R.HIF_RX_FRAMES (r : Nat) : Nat := 0xb03018 + 64 * r
@[inherit_doc R.HIF_RX_FRAMES] def F.HIF_RX_FRAMES_count (r : Nat) : Fld := ⟨R.HIF_RX_FRAMES r, 0, 64⟩
/-- HIF_TX_READ: Transmit read index; receive held count (17_host_interface). -/
def R.HIF_TX_READ (t : Nat) : Nat := 0xb01020 + 64 * t
@[inherit_doc R.HIF_TX_READ] def F.HIF_TX_READ_index (t : Nat) : Fld := ⟨R.HIF_TX_READ t, 0, 16⟩
/-- HIF_RX_HELD: Transmit read index; receive held count (17_host_interface). -/
def R.HIF_RX_HELD (r : Nat) : Nat := 0xb03020 + 64 * r
@[inherit_doc R.HIF_RX_HELD] def F.HIF_RX_HELD_count (r : Nat) : Fld := ⟨R.HIF_RX_HELD r, 0, 17⟩
/-- ACW_SEL: Window in the view (17_host_interface). -/
def R.ACW_SEL : Nat := 0x60000
@[inherit_doc R.ACW_SEL] def F.ACW_SEL_win : Fld := ⟨R.ACW_SEL, 0, 8⟩
/-- ACW_BASE: Window base (17_host_interface). -/
def R.ACW_BASE : Nat := 0x60004
@[inherit_doc R.ACW_BASE] def F.ACW_BASE_base : Fld := ⟨R.ACW_BASE, 0, 28⟩
/-- ACW_LIMIT: Window limit (17_host_interface). -/
def R.ACW_LIMIT : Nat := 0x60008
@[inherit_doc R.ACW_LIMIT] def F.ACW_LIMIT_limit : Fld := ⟨R.ACW_LIMIT, 0, 29⟩
/-- ACW_REQ: Requester mask (17_host_interface). -/
def R.ACW_REQ : Nat := 0x6000c
@[inherit_doc R.ACW_REQ] def F.ACW_REQ_req : Fld := ⟨R.ACW_REQ, 0, 32⟩
/-- ACW_FLAGS: Enable and access types (17_host_interface). -/
def R.ACW_FLAGS : Nat := 0x60010
@[inherit_doc R.ACW_FLAGS] def F.ACW_FLAGS_en : Fld := ⟨R.ACW_FLAGS, 0, 1⟩
@[inherit_doc R.ACW_FLAGS] def F.ACW_FLAGS_rd : Fld := ⟨R.ACW_FLAGS, 1, 1⟩
@[inherit_doc R.ACW_FLAGS] def F.ACW_FLAGS_wr : Fld := ⟨R.ACW_FLAGS, 2, 1⟩
/-- ACW_SEAL: Seal for the window group (17_host_interface). -/
def R.ACW_SEAL : Nat := 0x60014
@[inherit_doc R.ACW_SEAL] def F.ACW_SEAL_seal : Fld := ⟨R.ACW_SEAL, 0, 1⟩
@[inherit_doc R.ACW_SEAL] def F.ACW_SEAL_abandon : Fld := ⟨R.ACW_SEAL, 1, 1⟩
@[inherit_doc R.ACW_SEAL] def F.ACW_SEAL_state : Fld := ⟨R.ACW_SEAL, 4, 2⟩
@[inherit_doc R.ACW_SEAL] def F.ACW_SEAL_result : Fld := ⟨R.ACW_SEAL, 8, 4⟩
@[inherit_doc R.ACW_SEAL] def F.ACW_SEAL_field : Fld := ⟨R.ACW_SEAL, 16, 8⟩
@[inherit_doc R.ACW_SEAL] def F.ACW_SEAL_rule : Fld := ⟨R.ACW_SEAL, 24, 8⟩
/-- ACW_DENY: Refused accesses (17_host_interface). -/
def R.ACW_DENY : Nat := 0x60018
@[inherit_doc R.ACW_DENY] def F.ACW_DENY_count : Fld := ⟨R.ACW_DENY, 0, 32⟩
/-- ACW_DENY_ADDR: First refused offset (17_host_interface). -/
def R.ACW_DENY_ADDR : Nat := 0x6001c
@[inherit_doc R.ACW_DENY_ADDR] def F.ACW_DENY_ADDR_offset : Fld := ⟨R.ACW_DENY_ADDR, 0, 28⟩
@[inherit_doc R.ACW_DENY_ADDR] def F.ACW_DENY_ADDR_write : Fld := ⟨R.ACW_DENY_ADDR, 31, 1⟩
/-- ACW_DENY_REQ: First refused requester (17_host_interface). -/
def R.ACW_DENY_REQ : Nat := 0x60020
@[inherit_doc R.ACW_DENY_REQ] def F.ACW_DENY_REQ_req : Fld := ⟨R.ACW_DENY_REQ, 0, 5⟩
/-- ACW_EVENT: Sticky events (17_host_interface). -/
def R.ACW_EVENT : Nat := 0x60024
@[inherit_doc R.ACW_EVENT] def F.ACW_EVENT_deny : Fld := ⟨R.ACW_EVENT, 0, 1⟩
@[inherit_doc R.ACW_EVENT] def F.ACW_EVENT_sel_blocked : Fld := ⟨R.ACW_EVENT, 1, 1⟩
/-- ACW_INT_EN: Interrupt enables (17_host_interface). -/
def R.ACW_INT_EN : Nat := 0x60028
@[inherit_doc R.ACW_INT_EN] def F.ACW_INT_EN_enable : Fld := ⟨R.ACW_INT_EN, 0, 2⟩
/-- ACW_MBX_OWNER: Owner of mailbox slot s (17_host_interface). -/
def R.ACW_MBX_OWNER (s : Nat) : Nat := 0x60100 + 4 * s
@[inherit_doc R.ACW_MBX_OWNER] def F.ACW_MBX_OWNER_fn (s : Nat) : Fld := ⟨R.ACW_MBX_OWNER s, 0, 8⟩
/-- ACW_TX_OWNER: Owner of transmit ring t (17_host_interface). -/
def R.ACW_TX_OWNER (t : Nat) : Nat := 0x60200 + 4 * t
@[inherit_doc R.ACW_TX_OWNER] def F.ACW_TX_OWNER_fn (t : Nat) : Fld := ⟨R.ACW_TX_OWNER t, 0, 8⟩
/-- ACW_RX_OWNER: Owner of receive ring r (17_host_interface). -/
def R.ACW_RX_OWNER (r : Nat) : Nat := 0x60300 + 4 * r
@[inherit_doc R.ACW_RX_OWNER] def F.ACW_RX_OWNER_fn (r : Nat) : Fld := ⟨R.ACW_RX_OWNER r, 0, 8⟩
/-- PWR_STATUS: Start-up and module state (18_power_and_energy). -/
def R.PWR_STATUS : Nat := 0x30000
@[inherit_doc R.PWR_STATUS] def F.PWR_STATUS_step : Fld := ⟨R.PWR_STATUS, 0, 4⟩
@[inherit_doc R.PWR_STATUS] def F.PWR_STATUS_seq_fail : Fld := ⟨R.PWR_STATUS, 4, 1⟩
@[inherit_doc R.PWR_STATUS] def F.PWR_STATUS_safe : Fld := ⟨R.PWR_STATUS, 5, 1⟩
@[inherit_doc R.PWR_STATUS] def F.PWR_STATUS_pwr_good : Fld := ⟨R.PWR_STATUS, 6, 1⟩
@[inherit_doc R.PWR_STATUS] def F.PWR_STATUS_input_fail : Fld := ⟨R.PWR_STATUS, 7, 1⟩
@[inherit_doc R.PWR_STATUS] def F.PWR_STATUS_trip : Fld := ⟨R.PWR_STATUS, 8, 1⟩
/-- PWR_REQ: State request (18_power_and_energy). -/
def R.PWR_REQ : Nat := 0x30004
@[inherit_doc R.PWR_REQ] def F.PWR_REQ_domain : Fld := ⟨R.PWR_REQ, 0, 2⟩
@[inherit_doc R.PWR_REQ] def F.PWR_REQ_target : Fld := ⟨R.PWR_REQ, 4, 2⟩
@[inherit_doc R.PWR_REQ] def F.PWR_REQ_go : Fld := ⟨R.PWR_REQ, 31, 1⟩
/-- PWR_REQ_RESULT: Result of the last request (18_power_and_energy). -/
def R.PWR_REQ_RESULT : Nat := 0x30008
@[inherit_doc R.PWR_REQ_RESULT] def F.PWR_REQ_RESULT_code : Fld := ⟨R.PWR_REQ_RESULT, 0, 4⟩
@[inherit_doc R.PWR_REQ_RESULT] def F.PWR_REQ_RESULT_block : Fld := ⟨R.PWR_REQ_RESULT, 8, 8⟩
@[inherit_doc R.PWR_REQ_RESULT] def F.PWR_REQ_RESULT_step : Fld := ⟨R.PWR_REQ_RESULT, 16, 3⟩
/-- PWR_REQ_DENY: Requests from other requesters (18_power_and_energy). -/
def R.PWR_REQ_DENY : Nat := 0x3000c
@[inherit_doc R.PWR_REQ_DENY] def F.PWR_REQ_DENY_count : Fld := ⟨R.PWR_REQ_DENY, 0, 32⟩
/-- PWR_TOKEN: Token holder (18_power_and_energy). -/
def R.PWR_TOKEN : Nat := 0x30010
@[inherit_doc R.PWR_TOKEN] def F.PWR_TOKEN_holder : Fld := ⟨R.PWR_TOKEN, 0, 5⟩
@[inherit_doc R.PWR_TOKEN] def F.PWR_TOKEN_waiting : Fld := ⟨R.PWR_TOKEN, 8, 8⟩
/-- PWR_THROTTLE: Sensors throttling (18_power_and_energy). -/
def R.PWR_THROTTLE : Nat := 0x30014
@[inherit_doc R.PWR_THROTTLE] def F.PWR_THROTTLE_pd0 : Fld := ⟨R.PWR_THROTTLE, 0, 1⟩
@[inherit_doc R.PWR_THROTTLE] def F.PWR_THROTTLE_pd1 : Fld := ⟨R.PWR_THROTTLE, 1, 1⟩
@[inherit_doc R.PWR_THROTTLE] def F.PWR_THROTTLE_line : Fld := ⟨R.PWR_THROTTLE, 2, 1⟩
@[inherit_doc R.PWR_THROTTLE] def F.PWR_THROTTLE_hbm : Fld := ⟨R.PWR_THROTTLE, 3, 4⟩
/-- PWR_RESET_CAUSE: Last module reset (18_power_and_energy). -/
def R.PWR_RESET_CAUSE : Nat := 0x30018
@[inherit_doc R.PWR_RESET_CAUSE] def F.PWR_RESET_CAUSE_cause : Fld := ⟨R.PWR_RESET_CAUSE, 0, 4⟩
/-- PWR_HOLD: Hold-up bank (18_power_and_energy). -/
def R.PWR_HOLD : Nat := 0x3001c
@[inherit_doc R.PWR_HOLD] def F.PWR_HOLD_mv : Fld := ⟨R.PWR_HOLD, 0, 14⟩
@[inherit_doc R.PWR_HOLD] def F.PWR_HOLD_bank_ok : Fld := ⟨R.PWR_HOLD, 16, 1⟩
/-- PWR_EVENT: Sticky events (18_power_and_energy). -/
def R.PWR_EVENT : Nat := 0x30020
@[inherit_doc R.PWR_EVENT] def F.PWR_EVENT_warn : Fld := ⟨R.PWR_EVENT, 0, 1⟩
@[inherit_doc R.PWR_EVENT] def F.PWR_EVENT_throttle : Fld := ⟨R.PWR_EVENT, 1, 1⟩
@[inherit_doc R.PWR_EVENT] def F.PWR_EVENT_trip : Fld := ⟨R.PWR_EVENT, 2, 1⟩
@[inherit_doc R.PWR_EVENT] def F.PWR_EVENT_input_fail : Fld := ⟨R.PWR_EVENT, 3, 1⟩
@[inherit_doc R.PWR_EVENT] def F.PWR_EVENT_refused : Fld := ⟨R.PWR_EVENT, 4, 1⟩
@[inherit_doc R.PWR_EVENT] def F.PWR_EVENT_aborted : Fld := ⟨R.PWR_EVENT, 5, 1⟩
@[inherit_doc R.PWR_EVENT] def F.PWR_EVENT_sched_late : Fld := ⟨R.PWR_EVENT, 6, 1⟩
@[inherit_doc R.PWR_EVENT] def F.PWR_EVENT_seq_fail : Fld := ⟨R.PWR_EVENT, 7, 1⟩
@[inherit_doc R.PWR_EVENT] def F.PWR_EVENT_token_timeout : Fld := ⟨R.PWR_EVENT, 8, 1⟩
/-- PWR_INT_EN: Interrupt enables (18_power_and_energy). -/
def R.PWR_INT_EN : Nat := 0x30024
@[inherit_doc R.PWR_INT_EN] def F.PWR_INT_EN_enable : Fld := ⟨R.PWR_INT_EN, 0, 9⟩
/-- PWR_TEMP: Die sensor k: 0 packet die 0, 1 packet die 1, 2 line die, 3 management die (18_power_and_energy). -/
def R.PWR_TEMP (k : Nat) : Nat := 0x30040 + 4 * k
@[inherit_doc R.PWR_TEMP] def F.PWR_TEMP_temp (k : Nat) : Fld := ⟨R.PWR_TEMP k, 0, 16⟩
@[inherit_doc R.PWR_TEMP] def F.PWR_TEMP_warn (k : Nat) : Fld := ⟨R.PWR_TEMP k, 16, 1⟩
@[inherit_doc R.PWR_TEMP] def F.PWR_TEMP_throttle (k : Nat) : Fld := ⟨R.PWR_TEMP k, 17, 1⟩
/-- PWR_STEP_TIME: Length of step Si (18_power_and_energy). -/
def R.PWR_STEP_TIME (i : Nat) : Nat := 0x30060 + 4 * i
@[inherit_doc R.PWR_STEP_TIME] def F.PWR_STEP_TIME_us (i : Nat) : Fld := ⟨R.PWR_STEP_TIME i, 0, 24⟩
/-- PWR_D_STATE: State and transition (18_power_and_energy). -/
def R.PWR_D_STATE (d : Nat) : Nat := 0x30100 + 64 * d
@[inherit_doc R.PWR_D_STATE] def F.PWR_D_STATE_state (d : Nat) : Fld := ⟨R.PWR_D_STATE d, 0, 2⟩
@[inherit_doc R.PWR_D_STATE] def F.PWR_D_STATE_target (d : Nat) : Fld := ⟨R.PWR_D_STATE d, 4, 2⟩
@[inherit_doc R.PWR_D_STATE] def F.PWR_D_STATE_busy (d : Nat) : Fld := ⟨R.PWR_D_STATE d, 6, 1⟩
@[inherit_doc R.PWR_D_STATE] def F.PWR_D_STATE_step (d : Nat) : Fld := ⟨R.PWR_D_STATE d, 8, 3⟩
@[inherit_doc R.PWR_D_STATE] def F.PWR_D_STATE_pads (d : Nat) : Fld := ⟨R.PWR_D_STATE d, 12, 1⟩
@[inherit_doc R.PWR_D_STATE] def F.PWR_D_STATE_token_wait (d : Nat) : Fld := ⟨R.PWR_D_STATE d, 13, 1⟩
/-- PWR_D_CFG: Allow mask and wake options (18_power_and_energy). -/
def R.PWR_D_CFG (d : Nat) : Nat := 0x30104 + 64 * d
@[inherit_doc R.PWR_D_CFG] def F.PWR_D_CFG_allow (d : Nat) : Fld := ⟨R.PWR_D_CFG d, 0, 3⟩
@[inherit_doc R.PWR_D_CFG] def F.PWR_D_CFG_rel_auto (d : Nat) : Fld := ⟨R.PWR_D_CFG d, 4, 1⟩
@[inherit_doc R.PWR_D_CFG] def F.PWR_D_CFG_wake_grant (d : Nat) : Fld := ⟨R.PWR_D_CFG d, 5, 1⟩
/-- PWR_D_PAD_RELEASE: Release latched pads (18_power_and_energy). -/
def R.PWR_D_PAD_RELEASE (d : Nat) : Nat := 0x30108 + 64 * d
@[inherit_doc R.PWR_D_PAD_RELEASE] def F.PWR_D_PAD_RELEASE_go (d : Nat) : Fld := ⟨R.PWR_D_PAD_RELEASE d, 0, 1⟩
/-- PWR_D_REFUSED: Refused requests (18_power_and_energy). -/
def R.PWR_D_REFUSED (d : Nat) : Nat := 0x3010c + 64 * d
@[inherit_doc R.PWR_D_REFUSED] def F.PWR_D_REFUSED_count (d : Nat) : Fld := ⟨R.PWR_D_REFUSED d, 0, 32⟩
/-- PWR_D_ABORTED: Aborted entries (18_power_and_energy). -/
def R.PWR_D_ABORTED (d : Nat) : Nat := 0x30110 + 64 * d
@[inherit_doc R.PWR_D_ABORTED] def F.PWR_D_ABORTED_count (d : Nat) : Fld := ⟨R.PWR_D_ABORTED d, 0, 32⟩
/-- PWR_D_LAST: Last refuser or abort (18_power_and_energy). -/
def R.PWR_D_LAST (d : Nat) : Nat := 0x30114 + 64 * d
@[inherit_doc R.PWR_D_LAST] def F.PWR_D_LAST_block (d : Nat) : Fld := ⟨R.PWR_D_LAST d, 0, 8⟩
@[inherit_doc R.PWR_D_LAST] def F.PWR_D_LAST_kind (d : Nat) : Fld := ⟨R.PWR_D_LAST d, 8, 1⟩
@[inherit_doc R.PWR_D_LAST] def F.PWR_D_LAST_step (d : Nat) : Fld := ⟨R.PWR_D_LAST d, 9, 3⟩
/-- PWR_D_RES: Time in state s (18_power_and_energy). -/
def R.PWR_D_RES (d s : Nat) : Nat := 0x30120 + 64 * d + 8 * s
@[inherit_doc R.PWR_D_RES] def F.PWR_D_RES_us (d s : Nat) : Fld := ⟨R.PWR_D_RES d s, 0, 64⟩
/-- PWR_E_RES: Time ON (s = 0) or OFF (s = 1) (18_power_and_energy). -/
def R.PWR_E_RES (e s : Nat) : Nat := 0x30300 + 16 * e + 8 * s
@[inherit_doc R.PWR_E_RES] def F.PWR_E_RES_us (e s : Nat) : Fld := ⟨R.PWR_E_RES e s, 0, 64⟩
/-- PWR_SCHED_FN: Entry time (18_power_and_energy). -/
def R.PWR_SCHED_FN (k : Nat) : Nat := 0x30400 + 16 * k
@[inherit_doc R.PWR_SCHED_FN] def F.PWR_SCHED_FN_fn (k : Nat) : Fld := ⟨R.PWR_SCHED_FN k, 0, 48⟩
/-- PWR_SCHED_CTRL: Entry action and state (18_power_and_energy). -/
def R.PWR_SCHED_CTRL (k : Nat) : Nat := 0x30408 + 16 * k
@[inherit_doc R.PWR_SCHED_CTRL] def F.PWR_SCHED_CTRL_domain (k : Nat) : Fld := ⟨R.PWR_SCHED_CTRL k, 0, 2⟩
@[inherit_doc R.PWR_SCHED_CTRL] def F.PWR_SCHED_CTRL_target (k : Nat) : Fld := ⟨R.PWR_SCHED_CTRL k, 4, 2⟩
@[inherit_doc R.PWR_SCHED_CTRL] def F.PWR_SCHED_CTRL_state (k : Nat) : Fld := ⟨R.PWR_SCHED_CTRL k, 8, 2⟩
/-- ASH_STATUS: Readiness (18_power_and_energy). -/
def R.ASH_STATUS : Nat := 0xb0000
@[inherit_doc R.ASH_STATUS] def F.ASH_STATUS_dg_ready_a : Fld := ⟨R.ASH_STATUS, 0, 1⟩
@[inherit_doc R.ASH_STATUS] def F.ASH_STATUS_dg_ready_b : Fld := ⟨R.ASH_STATUS, 1, 1⟩
@[inherit_doc R.ASH_STATUS] def F.ASH_STATUS_rx_a : Fld := ⟨R.ASH_STATUS, 2, 1⟩
@[inherit_doc R.ASH_STATUS] def F.ASH_STATUS_rx_b : Fld := ⟨R.ASH_STATUS, 3, 1⟩
@[inherit_doc R.ASH_STATUS] def F.ASH_STATUS_vash_ok : Fld := ⟨R.ASH_STATUS, 4, 1⟩
/-- ASH_LAST: Last gasp (18_power_and_energy). -/
def R.ASH_LAST : Nat := 0xb0004
@[inherit_doc R.ASH_LAST] def F.ASH_LAST_sent_a : Fld := ⟨R.ASH_LAST, 0, 1⟩
@[inherit_doc R.ASH_LAST] def F.ASH_LAST_sent_b : Fld := ⟨R.ASH_LAST, 1, 1⟩
@[inherit_doc R.ASH_LAST] def F.ASH_LAST_cause : Fld := ⟨R.ASH_LAST, 8, 2⟩
@[inherit_doc R.ASH_LAST] def F.ASH_LAST_valid : Fld := ⟨R.ASH_LAST, 15, 1⟩
/-- ASH_LAST_FN: FN of the last gasp (18_power_and_energy). -/
def R.ASH_LAST_FN : Nat := 0xb0008
@[inherit_doc R.ASH_LAST_FN] def F.ASH_LAST_FN_fn : Fld := ⟨R.ASH_LAST_FN, 0, 48⟩
/-- ASH_EVENT: Sticky events (18_power_and_energy). -/
def R.ASH_EVENT : Nat := 0xb0010
@[inherit_doc R.ASH_EVENT] def F.ASH_EVENT_gasp : Fld := ⟨R.ASH_EVENT, 0, 1⟩
@[inherit_doc R.ASH_EVENT] def F.ASH_EVENT_miss_a : Fld := ⟨R.ASH_EVENT, 1, 1⟩
@[inherit_doc R.ASH_EVENT] def F.ASH_EVENT_miss_b : Fld := ⟨R.ASH_EVENT, 2, 1⟩
/-- ASH_INT_EN: Interrupt enables (18_power_and_energy). -/
def R.ASH_INT_EN : Nat := 0xb0014
@[inherit_doc R.ASH_INT_EN] def F.ASH_INT_EN_enable : Fld := ⟨R.ASH_INT_EN, 0, 3⟩
/-- EVR_CTRL: Flush command (19_recorder_and_monitors). -/
def R.EVR_CTRL : Nat := 0x40000
@[inherit_doc R.EVR_CTRL] def F.EVR_CTRL_flush : Fld := ⟨R.EVR_CTRL, 0, 1⟩
/-- EVR_STATUS: Store state (19_recorder_and_monitors). -/
def R.EVR_STATUS : Nat := 0x40004
@[inherit_doc R.EVR_STATUS] def F.EVR_STATUS_store : Fld := ⟨R.EVR_STATUS, 0, 1⟩
@[inherit_doc R.EVR_STATUS] def F.EVR_STATUS_ram_fail : Fld := ⟨R.EVR_STATUS, 1, 1⟩
@[inherit_doc R.EVR_STATUS] def F.EVR_STATUS_flash_fail : Fld := ⟨R.EVR_STATUS, 2, 1⟩
@[inherit_doc R.EVR_STATUS] def F.EVR_STATUS_flushing : Fld := ⟨R.EVR_STATUS, 3, 1⟩
/-- EVR_SEQ_NEXT: Next seq (19_recorder_and_monitors). -/
def R.EVR_SEQ_NEXT : Nat := 0x40008
@[inherit_doc R.EVR_SEQ_NEXT] def F.EVR_SEQ_NEXT_seq : Fld := ⟨R.EVR_SEQ_NEXT, 0, 32⟩
/-- EVR_SEQ_OLDEST: Oldest seq held (19_recorder_and_monitors). -/
def R.EVR_SEQ_OLDEST : Nat := 0x4000c
@[inherit_doc R.EVR_SEQ_OLDEST] def F.EVR_SEQ_OLDEST_seq : Fld := ⟨R.EVR_SEQ_OLDEST, 0, 32⟩
/-- EVR_GEN: Overwrite generation (19_recorder_and_monitors). -/
def R.EVR_GEN : Nat := 0x40010
@[inherit_doc R.EVR_GEN] def F.EVR_GEN_gen : Fld := ⟨R.EVR_GEN, 0, 32⟩
/-- EVR_COUNT: Records held (19_recorder_and_monitors). -/
def R.EVR_COUNT : Nat := 0x40014
@[inherit_doc R.EVR_COUNT] def F.EVR_COUNT_count : Fld := ⟨R.EVR_COUNT, 0, 19⟩
/-- EVR_UNFLUSHED: Records awaiting flush (19_recorder_and_monitors). -/
def R.EVR_UNFLUSHED : Nat := 0x40018
@[inherit_doc R.EVR_UNFLUSHED] def F.EVR_UNFLUSHED_count : Fld := ⟨R.EVR_UNFLUSHED, 0, 17⟩
/-- EVR_DROP: Records discarded, severity s (19_recorder_and_monitors). -/
def R.EVR_DROP (s : Nat) : Nat := 0x40020 + 4 * s
@[inherit_doc R.EVR_DROP] def F.EVR_DROP_count (s : Nat) : Fld := ⟨R.EVR_DROP s, 0, 32⟩
/-- EVR_OPTIME: Operating seconds (19_recorder_and_monitors). -/
def R.EVR_OPTIME : Nat := 0x40030
@[inherit_doc R.EVR_OPTIME] def F.EVR_OPTIME_sec : Fld := ⟨R.EVR_OPTIME, 0, 32⟩
/-- EVR_PCYCLE: Power cycles (19_recorder_and_monitors). -/
def R.EVR_PCYCLE : Nat := 0x40034
@[inherit_doc R.EVR_PCYCLE] def F.EVR_PCYCLE_count : Fld := ⟨R.EVR_PCYCLE, 0, 24⟩
/-- EVR_CURSOR: Window cursor (19_recorder_and_monitors). -/
def R.EVR_CURSOR : Nat := 0x40038
@[inherit_doc R.EVR_CURSOR] def F.EVR_CURSOR_seq : Fld := ⟨R.EVR_CURSOR, 0, 32⟩
/-- EVR_WIN_STATUS: Window content (19_recorder_and_monitors). -/
def R.EVR_WIN_STATUS : Nat := 0x4003c
@[inherit_doc R.EVR_WIN_STATUS] def F.EVR_WIN_STATUS_n : Fld := ⟨R.EVR_WIN_STATUS, 0, 7⟩
@[inherit_doc R.EVR_WIN_STATUS] def F.EVR_WIN_STATUS_gap : Fld := ⟨R.EVR_WIN_STATUS, 8, 1⟩
@[inherit_doc R.EVR_WIN_STATUS] def F.EVR_WIN_STATUS_busy : Fld := ⟨R.EVR_WIN_STATUS, 9, 1⟩
/-- EVR_WIN_GEN: EVR_GEN at the window copy (19_recorder_and_monitors). -/
def R.EVR_WIN_GEN : Nat := 0x40040
@[inherit_doc R.EVR_WIN_GEN] def F.EVR_WIN_GEN_gen : Fld := ⟨R.EVR_WIN_GEN, 0, 32⟩
/-- EVR_CLR_CTRL: Clear challenge and response (19_recorder_and_monitors). -/
def R.EVR_CLR_CTRL : Nat := 0x40044
@[inherit_doc R.EVR_CLR_CTRL] def F.EVR_CLR_CTRL_challenge : Fld := ⟨R.EVR_CLR_CTRL, 0, 1⟩
@[inherit_doc R.EVR_CLR_CTRL] def F.EVR_CLR_CTRL_respond : Fld := ⟨R.EVR_CLR_CTRL, 1, 1⟩
@[inherit_doc R.EVR_CLR_CTRL] def F.EVR_CLR_CTRL_result : Fld := ⟨R.EVR_CLR_CTRL, 4, 2⟩
/-- EVR_CLR_UPTO: Last seq to clear (19_recorder_and_monitors). -/
def R.EVR_CLR_UPTO : Nat := 0x40048
@[inherit_doc R.EVR_CLR_UPTO] def F.EVR_CLR_UPTO_seq : Fld := ⟨R.EVR_CLR_UPTO, 0, 32⟩
/-- EVR_CLR_NONCE: Nonce, w = 0 to 7 (19_recorder_and_monitors). -/
def R.EVR_CLR_NONCE (w : Nat) : Nat := 0x40050 + 4 * w
@[inherit_doc R.EVR_CLR_NONCE] def F.EVR_CLR_NONCE_bits (w : Nat) : Fld := ⟨R.EVR_CLR_NONCE w, 0, 32⟩
/-- EVR_CLR_SIG: Signature, w = 0 to 23 (19_recorder_and_monitors). -/
def R.EVR_CLR_SIG (w : Nat) : Nat := 0x40080 + 4 * w
@[inherit_doc R.EVR_CLR_SIG] def F.EVR_CLR_SIG_bits (w : Nat) : Fld := ⟨R.EVR_CLR_SIG w, 0, 32⟩
/-- EVR_RL_SEL: Code for EVR_RL_CFG (19_recorder_and_monitors). -/
def R.EVR_RL_SEL : Nat := 0x40100
@[inherit_doc R.EVR_RL_SEL] def F.EVR_RL_SEL_code : Fld := ⟨R.EVR_RL_SEL, 0, 16⟩
/-- EVR_RL_CFG: Rate limit of the code (19_recorder_and_monitors). -/
def R.EVR_RL_CFG : Nat := 0x40104
@[inherit_doc R.EVR_RL_CFG] def F.EVR_RL_CFG_rate : Fld := ⟨R.EVR_RL_CFG, 0, 11⟩
@[inherit_doc R.EVR_RL_CFG] def F.EVR_RL_CFG_burst : Fld := ⟨R.EVR_RL_CFG, 16, 9⟩
/-- EVR_EVENT: Sticky events (19_recorder_and_monitors). -/
def R.EVR_EVENT : Nat := 0x40108
@[inherit_doc R.EVR_EVENT] def F.EVR_EVENT_store_failed : Fld := ⟨R.EVR_EVENT, 0, 1⟩
@[inherit_doc R.EVR_EVENT] def F.EVR_EVENT_drop : Fld := ⟨R.EVR_EVENT, 1, 1⟩
@[inherit_doc R.EVR_EVENT] def F.EVR_EVENT_cleared : Fld := ⟨R.EVR_EVENT, 2, 1⟩
@[inherit_doc R.EVR_EVENT] def F.EVR_EVENT_clr_fail : Fld := ⟨R.EVR_EVENT, 3, 1⟩
/-- EVR_INT_EN: Interrupt enables (19_recorder_and_monitors). -/
def R.EVR_INT_EN : Nat := 0x4010c
@[inherit_doc R.EVR_INT_EN] def F.EVR_INT_EN_enable : Fld := ⟨R.EVR_INT_EN, 0, 4⟩
/-- EVR_JET: Jet record j, word w (19_recorder_and_monitors). -/
def R.EVR_JET (j w : Nat) : Nat := 0x40800 + 64 * j + 4 * w
@[inherit_doc R.EVR_JET] def F.EVR_JET_bits (j w : Nat) : Fld := ⟨R.EVR_JET j w, 0, 32⟩
/-- EVR_WIN: Window word w, w = 0 to 1,023 (19_recorder_and_monitors). -/
def R.EVR_WIN (w : Nat) : Nat := 0x41000 + 4 * w
@[inherit_doc R.EVR_WIN] def F.EVR_WIN_bits (w : Nat) : Fld := ⟨R.EVR_WIN w, 0, 32⟩
/-- PMON_CTRL: Freeze (PMON only) (19_recorder_and_monitors). -/
def R.PMON_CTRL : Nat := 0x50000
@[inherit_doc R.PMON_CTRL] def F.PMON_CTRL_freeze : Fld := ⟨R.PMON_CTRL, 0, 1⟩
/-- PMON_EVENT: Sticky events (19_recorder_and_monitors). -/
def R.PMON_EVENT : Nat := 0x50004
@[inherit_doc R.PMON_EVENT] def F.PMON_EVENT_ovf : Fld := ⟨R.PMON_EVENT, 0, 1⟩
@[inherit_doc R.PMON_EVENT] def F.PMON_EVENT_win_end : Fld := ⟨R.PMON_EVENT, 1, 1⟩
@[inherit_doc R.PMON_EVENT] def F.PMON_EVENT_sel_blocked : Fld := ⟨R.PMON_EVENT, 2, 1⟩
@[inherit_doc R.PMON_EVENT] def F.PMON_EVENT_fault : Fld := ⟨R.PMON_EVENT, 3, 1⟩
/-- PMON_INT_EN: Interrupt enables (19_recorder_and_monitors). -/
def R.PMON_INT_EN : Nat := 0x50008
@[inherit_doc R.PMON_INT_EN] def F.PMON_INT_EN_enable : Fld := ⟨R.PMON_INT_EN, 0, 4⟩
/-- PMON_OVF: Overflow bits per counter (19_recorder_and_monitors). -/
def R.PMON_OVF : Nat := 0x50010
@[inherit_doc R.PMON_OVF] def F.PMON_OVF_ovf : Fld := ⟨R.PMON_OVF, 0, 64⟩
/-- PMON_WIN_FN: Window start FN (19_recorder_and_monitors). -/
def R.PMON_WIN_FN (w : Nat) : Nat := 0x50100 + 16 * w
@[inherit_doc R.PMON_WIN_FN] def F.PMON_WIN_FN_fn (w : Nat) : Fld := ⟨R.PMON_WIN_FN w, 0, 48⟩
/-- PMON_WIN_LEN: Length and period (19_recorder_and_monitors). -/
def R.PMON_WIN_LEN (w : Nat) : Nat := 0x50108 + 16 * w
@[inherit_doc R.PMON_WIN_LEN] def F.PMON_WIN_LEN_len (w : Nat) : Fld := ⟨R.PMON_WIN_LEN w, 0, 16⟩
@[inherit_doc R.PMON_WIN_LEN] def F.PMON_WIN_LEN_period (w : Nat) : Fld := ⟨R.PMON_WIN_LEN w, 16, 16⟩
/-- PMON_WIN_CTRL: Enable and state (19_recorder_and_monitors). -/
def R.PMON_WIN_CTRL (w : Nat) : Nat := 0x5010c + 16 * w
@[inherit_doc R.PMON_WIN_CTRL] def F.PMON_WIN_CTRL_en (w : Nat) : Fld := ⟨R.PMON_WIN_CTRL w, 0, 1⟩
@[inherit_doc R.PMON_WIN_CTRL] def F.PMON_WIN_CTRL_state (w : Nat) : Fld := ⟨R.PMON_WIN_CTRL w, 4, 2⟩
/-- PCTR_SEL: Counter in the selection window (19_recorder_and_monitors). -/
def R.PCTR_SEL : Nat := 0x50200
@[inherit_doc R.PCTR_SEL] def F.PCTR_SEL_ctr : Fld := ⟨R.PCTR_SEL, 0, 6⟩
/-- PCTR_SRC: Block, event, qualifier kind, window (19_recorder_and_monitors). -/
def R.PCTR_SRC : Nat := 0x50204
@[inherit_doc R.PCTR_SRC] def F.PCTR_SRC_block : Fld := ⟨R.PCTR_SRC, 0, 8⟩
@[inherit_doc R.PCTR_SRC] def F.PCTR_SRC_event : Fld := ⟨R.PCTR_SRC, 8, 8⟩
@[inherit_doc R.PCTR_SRC] def F.PCTR_SRC_qkind : Fld := ⟨R.PCTR_SRC, 16, 3⟩
@[inherit_doc R.PCTR_SRC] def F.PCTR_SRC_win : Fld := ⟨R.PCTR_SRC, 24, 8⟩
/-- PCTR_QVAL: Qualifier value (19_recorder_and_monitors). -/
def R.PCTR_QVAL : Nat := 0x50208
@[inherit_doc R.PCTR_QVAL] def F.PCTR_QVAL_bits : Fld := ⟨R.PCTR_QVAL, 0, 32⟩
/-- PCTR_QMASK: Qualifier mask (19_recorder_and_monitors). -/
def R.PCTR_QMASK : Nat := 0x5020c
@[inherit_doc R.PCTR_QMASK] def F.PCTR_QMASK_bits : Fld := ⟨R.PCTR_QMASK, 0, 32⟩
/-- PCTR_SEAL: Seal for the selection group (19_recorder_and_monitors). -/
def R.PCTR_SEAL : Nat := 0x50210
@[inherit_doc R.PCTR_SEAL] def F.PCTR_SEAL_seal : Fld := ⟨R.PCTR_SEAL, 0, 1⟩
@[inherit_doc R.PCTR_SEAL] def F.PCTR_SEAL_abandon : Fld := ⟨R.PCTR_SEAL, 1, 1⟩
@[inherit_doc R.PCTR_SEAL] def F.PCTR_SEAL_state : Fld := ⟨R.PCTR_SEAL, 4, 2⟩
@[inherit_doc R.PCTR_SEAL] def F.PCTR_SEAL_result : Fld := ⟨R.PCTR_SEAL, 8, 4⟩
@[inherit_doc R.PCTR_SEAL] def F.PCTR_SEAL_field : Fld := ⟨R.PCTR_SEAL, 16, 8⟩
@[inherit_doc R.PCTR_SEAL] def F.PCTR_SEAL_rule : Fld := ⟨R.PCTR_SEAL, 24, 8⟩
/-- PCTR_LIVE: Live value (19_recorder_and_monitors). -/
def R.PCTR_LIVE (c : Nat) : Nat := 0x51000 + 32 * c
@[inherit_doc R.PCTR_LIVE] def F.PCTR_LIVE_count (c : Nat) : Fld := ⟨R.PCTR_LIVE c, 0, 64⟩
/-- PCTR_SNAP: Snapshot value (19_recorder_and_monitors). -/
def R.PCTR_SNAP (c : Nat) : Nat := 0x51008 + 32 * c
@[inherit_doc R.PCTR_SNAP] def F.PCTR_SNAP_count (c : Nat) : Fld := ⟨R.PCTR_SNAP c, 0, 64⟩
/-- PCTR_WRES: Last window result (19_recorder_and_monitors). -/
def R.PCTR_WRES (c : Nat) : Nat := 0x51010 + 32 * c
@[inherit_doc R.PCTR_WRES] def F.PCTR_WRES_count (c : Nat) : Fld := ⟨R.PCTR_WRES c, 0, 64⟩
/-- PCTR_CTRL: Enable (19_recorder_and_monitors). -/
def R.PCTR_CTRL (c : Nat) : Nat := 0x51018 + 32 * c
@[inherit_doc R.PCTR_CTRL] def F.PCTR_CTRL_en (c : Nat) : Fld := ⟨R.PCTR_CTRL c, 0, 1⟩
@[inherit_doc R.PCTR_CTRL] def F.PCTR_CTRL_int_en (c : Nat) : Fld := ⟨R.PCTR_CTRL c, 1, 1⟩
/-- GLB_PART: Part number (20_faults). -/
def R.GLB_PART : Nat := 0x0
@[inherit_doc R.GLB_PART] def F.GLB_PART_part : Fld := ⟨R.GLB_PART, 0, 16⟩
/-- GLB_STEP: Module step (20_faults). -/
def R.GLB_STEP : Nat := 0x4
@[inherit_doc R.GLB_STEP] def F.GLB_STEP_step : Fld := ⟨R.GLB_STEP, 0, 8⟩
/-- GLB_SAFE: Safe-state status (20_faults). -/
def R.GLB_SAFE : Nat := 0x8
@[inherit_doc R.GLB_SAFE] def F.GLB_SAFE_safe : Fld := ⟨R.GLB_SAFE, 0, 1⟩
@[inherit_doc R.GLB_SAFE] def F.GLB_SAFE_cause : Fld := ⟨R.GLB_SAFE, 1, 3⟩
@[inherit_doc R.GLB_SAFE] def F.GLB_SAFE_lasers_dark : Fld := ⟨R.GLB_SAFE, 4, 1⟩
@[inherit_doc R.GLB_SAFE] def F.GLB_SAFE_gasp_a : Fld := ⟨R.GLB_SAFE, 5, 1⟩
@[inherit_doc R.GLB_SAFE] def F.GLB_SAFE_gasp_b : Fld := ⟨R.GLB_SAFE, 6, 1⟩
@[inherit_doc R.GLB_SAFE] def F.GLB_SAFE_log_closed : Fld := ⟨R.GLB_SAFE, 7, 1⟩
/-- GLB_LAST_SAFE: Cause of the last safe state (20_faults). -/
def R.GLB_LAST_SAFE : Nat := 0xc
@[inherit_doc R.GLB_LAST_SAFE] def F.GLB_LAST_SAFE_cause : Fld := ⟨R.GLB_LAST_SAFE, 0, 3⟩
/-- GLB_LAST_SAFE_FN: Module FN of that entry (20_faults). -/
def R.GLB_LAST_SAFE_FN : Nat := 0x10
@[inherit_doc R.GLB_LAST_SAFE_FN] def F.GLB_LAST_SAFE_FN_fn : Fld := ⟨R.GLB_LAST_SAFE_FN, 0, 48⟩
/-- GLB_CON_CTRL: Console control (20_faults). -/
def R.GLB_CON_CTRL : Nat := 0x18
@[inherit_doc R.GLB_CON_CTRL] def F.GLB_CON_CTRL_ctl_en : Fld := ⟨R.GLB_CON_CTRL, 0, 1⟩
/-- GLB_CON_COUNT: Console commands (20_faults). -/
def R.GLB_CON_COUNT : Nat := 0x1c
@[inherit_doc R.GLB_CON_COUNT] def F.GLB_CON_COUNT_cmds : Fld := ⟨R.GLB_CON_COUNT, 0, 16⟩
@[inherit_doc R.GLB_CON_COUNT] def F.GLB_CON_COUNT_denied : Fld := ⟨R.GLB_CON_COUNT, 16, 16⟩
/-- FLT_CTRL: Automatic handling (20_faults). -/
def R.FLT_CTRL : Nat := 0x70000
@[inherit_doc R.FLT_CTRL] def F.FLT_CTRL_auto_reset : Fld := ⟨R.FLT_CTRL, 0, 6⟩
@[inherit_doc R.FLT_CTRL] def F.FLT_CTRL_hang_us : Fld := ⟨R.FLT_CTRL, 8, 14⟩
@[inherit_doc R.FLT_CTRL] def F.FLT_CTRL_reset_limit : Fld := ⟨R.FLT_CTRL, 24, 4⟩
/-- FLT_STATUS: Region states (20_faults). -/
def R.FLT_STATUS : Nat := 0x70004
@[inherit_doc R.FLT_STATUS] def F.FLT_STATUS_state : Fld := ⟨R.FLT_STATUS, 0, 18⟩
/-- FLT_LAST: Last report (20_faults). -/
def R.FLT_LAST : Nat := 0x70008
@[inherit_doc R.FLT_LAST] def F.FLT_LAST_region : Fld := ⟨R.FLT_LAST, 0, 3⟩
@[inherit_doc R.FLT_LAST] def F.FLT_LAST_kind : Fld := ⟨R.FLT_LAST, 4, 4⟩
@[inherit_doc R.FLT_LAST] def F.FLT_LAST_block : Fld := ⟨R.FLT_LAST, 8, 8⟩
@[inherit_doc R.FLT_LAST] def F.FLT_LAST_cell : Fld := ⟨R.FLT_LAST, 16, 16⟩
/-- FLT_LAST_FN: Module FN of the last report (20_faults). -/
def R.FLT_LAST_FN : Nat := 0x7000c
@[inherit_doc R.FLT_LAST_FN] def F.FLT_LAST_FN_fn : Fld := ⟨R.FLT_LAST_FN, 0, 48⟩
/-- FLT_EVENT: Sticky events (20_faults). -/
def R.FLT_EVENT : Nat := 0x70014
@[inherit_doc R.FLT_EVENT] def F.FLT_EVENT_block_fault : Fld := ⟨R.FLT_EVENT, 0, 1⟩
@[inherit_doc R.FLT_EVENT] def F.FLT_EVENT_region_fault : Fld := ⟨R.FLT_EVENT, 1, 1⟩
@[inherit_doc R.FLT_EVENT] def F.FLT_EVENT_held : Fld := ⟨R.FLT_EVENT, 2, 1⟩
@[inherit_doc R.FLT_EVENT] def F.FLT_EVENT_ctrl_restart : Fld := ⟨R.FLT_EVENT, 3, 1⟩
@[inherit_doc R.FLT_EVENT] def F.FLT_EVENT_scope_lane : Fld := ⟨R.FLT_EVENT, 4, 1⟩
/-- FLT_INT_EN: Interrupt enables (20_faults). -/
def R.FLT_INT_EN : Nat := 0x70018
@[inherit_doc R.FLT_INT_EN] def F.FLT_INT_EN_enable : Fld := ⟨R.FLT_INT_EN, 0, 5⟩
/-- FLT_R_CTRL: Reset command (20_faults). -/
def R.FLT_R_CTRL (r : Nat) : Nat := 0x70020 + 16 * r
@[inherit_doc R.FLT_R_CTRL] def F.FLT_R_CTRL_reset (r : Nat) : Fld := ⟨R.FLT_R_CTRL r, 0, 1⟩
/-- FLT_R_RESETS: Reset counts (20_faults). -/
def R.FLT_R_RESETS (r : Nat) : Nat := 0x70024 + 16 * r
@[inherit_doc R.FLT_R_RESETS] def F.FLT_R_RESETS_window (r : Nat) : Fld := ⟨R.FLT_R_RESETS r, 0, 4⟩
@[inherit_doc R.FLT_R_RESETS] def F.FLT_R_RESETS_total (r : Nat) : Fld := ⟨R.FLT_R_RESETS r, 16, 16⟩
/-- FLT_R_CAUSE: Cause of the last region fault (20_faults). -/
def R.FLT_R_CAUSE (r : Nat) : Nat := 0x70028 + 16 * r
@[inherit_doc R.FLT_R_CAUSE] def F.FLT_R_CAUSE_kind (r : Nat) : Fld := ⟨R.FLT_R_CAUSE r, 0, 4⟩
@[inherit_doc R.FLT_R_CAUSE] def F.FLT_R_CAUSE_block (r : Nat) : Fld := ⟨R.FLT_R_CAUSE r, 8, 8⟩
/-- FLT_R_TIME: Length of the last reset (20_faults). -/
def R.FLT_R_TIME (r : Nat) : Nat := 0x7002c + 16 * r
@[inherit_doc R.FLT_R_TIME] def F.FLT_R_TIME_us (r : Nat) : Fld := ⟨R.FLT_R_TIME r, 0, 24⟩
/-- WRD_CAL_STATUS: State of the calibration store (21_calibration). -/
def R.WRD_CAL_STATUS : Nat := 0xa0030
@[inherit_doc R.WRD_CAL_STATUS] def F.WRD_CAL_STATUS_state : Fld := ⟨R.WRD_CAL_STATUS, 0, 2⟩
@[inherit_doc R.WRD_CAL_STATUS] def F.WRD_CAL_STATUS_source : Fld := ⟨R.WRD_CAL_STATUS, 4, 2⟩
@[inherit_doc R.WRD_CAL_STATUS] def F.WRD_CAL_STATUS_engines_default : Fld := ⟨R.WRD_CAL_STATUS, 8, 8⟩
@[inherit_doc R.WRD_CAL_STATUS] def F.WRD_CAL_STATUS_clients_default : Fld := ⟨R.WRD_CAL_STATUS, 16, 1⟩
@[inherit_doc R.WRD_CAL_STATUS] def F.WRD_CAL_STATUS_unlocked : Fld := ⟨R.WRD_CAL_STATUS, 24, 1⟩
@[inherit_doc R.WRD_CAL_STATUS] def F.WRD_CAL_STATUS_pending : Fld := ⟨R.WRD_CAL_STATUS, 25, 1⟩
/-- GLB_I2C_CTRL: Enable and speed (22_package_and_pins). -/
def R.GLB_I2C_CTRL (b : Nat) : Nat := 0x1000 + 256 * b
@[inherit_doc R.GLB_I2C_CTRL] def F.GLB_I2C_CTRL_en (b : Nat) : Fld := ⟨R.GLB_I2C_CTRL b, 0, 1⟩
@[inherit_doc R.GLB_I2C_CTRL] def F.GLB_I2C_CTRL_speed (b : Nat) : Fld := ⟨R.GLB_I2C_CTRL b, 1, 2⟩
/-- GLB_I2C_CMD: Transaction (22_package_and_pins). -/
def R.GLB_I2C_CMD (b : Nat) : Nat := 0x1004 + 256 * b
@[inherit_doc R.GLB_I2C_CMD] def F.GLB_I2C_CMD_addr (b : Nat) : Fld := ⟨R.GLB_I2C_CMD b, 0, 7⟩
@[inherit_doc R.GLB_I2C_CMD] def F.GLB_I2C_CMD_wlen (b : Nat) : Fld := ⟨R.GLB_I2C_CMD b, 8, 8⟩
@[inherit_doc R.GLB_I2C_CMD] def F.GLB_I2C_CMD_rlen (b : Nat) : Fld := ⟨R.GLB_I2C_CMD b, 16, 8⟩
@[inherit_doc R.GLB_I2C_CMD] def F.GLB_I2C_CMD_go (b : Nat) : Fld := ⟨R.GLB_I2C_CMD b, 31, 1⟩
/-- GLB_I2C_RESULT: Result (22_package_and_pins). -/
def R.GLB_I2C_RESULT (b : Nat) : Nat := 0x1008 + 256 * b
@[inherit_doc R.GLB_I2C_RESULT] def F.GLB_I2C_RESULT_code (b : Nat) : Fld := ⟨R.GLB_I2C_RESULT b, 0, 3⟩
@[inherit_doc R.GLB_I2C_RESULT] def F.GLB_I2C_RESULT_busy (b : Nat) : Fld := ⟨R.GLB_I2C_RESULT b, 3, 1⟩
@[inherit_doc R.GLB_I2C_RESULT] def F.GLB_I2C_RESULT_done (b : Nat) : Fld := ⟨R.GLB_I2C_RESULT b, 4, 5⟩
/-- GLB_I2C_DATA: Data word w, w = 0 to 31 (22_package_and_pins). -/
def R.GLB_I2C_DATA (b w : Nat) : Nat := 0x1080 + 256 * b + 4 * w
@[inherit_doc R.GLB_I2C_DATA] def F.GLB_I2C_DATA_bits (b w : Nat) : Fld := ⟨R.GLB_I2C_DATA b w, 0, 32⟩
/-- GLB_GPIO_DIR: Direction (22_package_and_pins). -/
def R.GLB_GPIO_DIR : Nat := 0x1400
@[inherit_doc R.GLB_GPIO_DIR] def F.GLB_GPIO_DIR_out : Fld := ⟨R.GLB_GPIO_DIR, 0, 32⟩
/-- GLB_GPIO_OUT: Output value (22_package_and_pins). -/
def R.GLB_GPIO_OUT : Nat := 0x1404
@[inherit_doc R.GLB_GPIO_OUT] def F.GLB_GPIO_OUT_val : Fld := ⟨R.GLB_GPIO_OUT, 0, 32⟩
/-- GLB_GPIO_IN: Pin level (22_package_and_pins). -/
def R.GLB_GPIO_IN : Nat := 0x1408
@[inherit_doc R.GLB_GPIO_IN] def F.GLB_GPIO_IN_val : Fld := ⟨R.GLB_GPIO_IN, 0, 32⟩
/-- GLB_GPIO_OD: Open drain (22_package_and_pins). -/
def R.GLB_GPIO_OD : Nat := 0x140c
@[inherit_doc R.GLB_GPIO_OD] def F.GLB_GPIO_OD_od : Fld := ⟨R.GLB_GPIO_OD, 0, 32⟩
/-- GLB_GPIO_RISE: Rising-edge capture (22_package_and_pins). -/
def R.GLB_GPIO_RISE : Nat := 0x1410
@[inherit_doc R.GLB_GPIO_RISE] def F.GLB_GPIO_RISE_en : Fld := ⟨R.GLB_GPIO_RISE, 0, 32⟩
/-- GLB_GPIO_FALL: Falling-edge capture (22_package_and_pins). -/
def R.GLB_GPIO_FALL : Nat := 0x1414
@[inherit_doc R.GLB_GPIO_FALL] def F.GLB_GPIO_FALL_en : Fld := ⟨R.GLB_GPIO_FALL, 0, 32⟩
/-- GLB_GPIO_EVENT: Sticky edges (22_package_and_pins). -/
def R.GLB_GPIO_EVENT : Nat := 0x1418
@[inherit_doc R.GLB_GPIO_EVENT] def F.GLB_GPIO_EVENT_edge : Fld := ⟨R.GLB_GPIO_EVENT, 0, 32⟩
/-- GLB_GPIO_INT_EN: Interrupt enables (22_package_and_pins). -/
def R.GLB_GPIO_INT_EN : Nat := 0x141c
@[inherit_doc R.GLB_GPIO_INT_EN] def F.GLB_GPIO_INT_EN_enable : Fld := ⟨R.GLB_GPIO_INT_EN, 0, 32⟩

end Sys2Proof.Machine
end

