-- ==== Sys2Proof/Machine/RegsLine.lean ====
section
/-!
DEFINITION. Where the registers of the line region lie in BAR0 (R28) and where each field stands in its register,
by the register tables of the block chapters. `R.X` is a register's BAR0 offset, `F.X_f` the place of its field `f`;
a packet-region register takes its region `n` first.
-/
namespace Sys2Proof.Machine

/-- LNK_LANE_CTRL: Enables, precoding, trim (04_line_lanes). -/
def R.LNK_LANE_CTRL (p : Nat) : Nat := 0x100000 + 2048 * p
@[inherit_doc R.LNK_LANE_CTRL] def F.LNK_LANE_CTRL_rx_en (p : Nat) : Fld := ⟨R.LNK_LANE_CTRL p, 0, 1⟩
@[inherit_doc R.LNK_LANE_CTRL] def F.LNK_LANE_CTRL_tx_en (p : Nat) : Fld := ⟨R.LNK_LANE_CTRL p, 1, 1⟩
@[inherit_doc R.LNK_LANE_CTRL] def F.LNK_LANE_CTRL_precode_rx (p : Nat) : Fld := ⟨R.LNK_LANE_CTRL p, 2, 1⟩
@[inherit_doc R.LNK_LANE_CTRL] def F.LNK_LANE_CTRL_precode_tx (p : Nat) : Fld := ⟨R.LNK_LANE_CTRL p, 3, 1⟩
@[inherit_doc R.LNK_LANE_CTRL] def F.LNK_LANE_CTRL_eq_freeze (p : Nat) : Fld := ⟨R.LNK_LANE_CTRL p, 4, 1⟩
@[inherit_doc R.LNK_LANE_CTRL] def F.LNK_LANE_CTRL_launch_trim (p : Nat) : Fld := ⟨R.LNK_LANE_CTRL p, 8, 8⟩
/-- LNK_LANE_PWR: Power state (04_line_lanes). -/
def R.LNK_LANE_PWR (p : Nat) : Nat := 0x100004 + 2048 * p
@[inherit_doc R.LNK_LANE_PWR] def F.LNK_LANE_PWR_target (p : Nat) : Fld := ⟨R.LNK_LANE_PWR p, 0, 3⟩
@[inherit_doc R.LNK_LANE_PWR] def F.LNK_LANE_PWR_state (p : Nat) : Fld := ⟨R.LNK_LANE_PWR p, 4, 3⟩
@[inherit_doc R.LNK_LANE_PWR] def F.LNK_LANE_PWR_busy (p : Nat) : Fld := ⟨R.LNK_LANE_PWR p, 7, 1⟩
@[inherit_doc R.LNK_LANE_PWR] def F.LNK_LANE_PWR_refuse (p : Nat) : Fld := ⟨R.LNK_LANE_PWR p, 8, 3⟩
/-- LNK_LANE_STATUS: Detector and transmitter status (04_line_lanes). -/
def R.LNK_LANE_STATUS (p : Nat) : Nat := 0x100008 + 2048 * p
@[inherit_doc R.LNK_LANE_STATUS] def F.LNK_LANE_STATUS_los (p : Nat) : Fld := ⟨R.LNK_LANE_STATUS p, 0, 1⟩
@[inherit_doc R.LNK_LANE_STATUS] def F.LNK_LANE_STATUS_lol (p : Nat) : Fld := ⟨R.LNK_LANE_STATUS p, 1, 1⟩
@[inherit_doc R.LNK_LANE_STATUS] def F.LNK_LANE_STATUS_adapted (p : Nat) : Fld := ⟨R.LNK_LANE_STATUS p, 2, 1⟩
@[inherit_doc R.LNK_LANE_STATUS] def F.LNK_LANE_STATUS_wave_ok (p : Nat) : Fld := ⟨R.LNK_LANE_STATUS p, 3, 1⟩
@[inherit_doc R.LNK_LANE_STATUS] def F.LNK_LANE_STATUS_tx_dark (p : Nat) : Fld := ⟨R.LNK_LANE_STATUS p, 4, 1⟩
/-- LNK_LANE_EVENT: Sticky events (04_line_lanes). -/
def R.LNK_LANE_EVENT (p : Nat) : Nat := 0x10000c + 2048 * p
@[inherit_doc R.LNK_LANE_EVENT] def F.LNK_LANE_EVENT_los_set (p : Nat) : Fld := ⟨R.LNK_LANE_EVENT p, 0, 1⟩
@[inherit_doc R.LNK_LANE_EVENT] def F.LNK_LANE_EVENT_los_clr (p : Nat) : Fld := ⟨R.LNK_LANE_EVENT p, 1, 1⟩
@[inherit_doc R.LNK_LANE_EVENT] def F.LNK_LANE_EVENT_lol_set (p : Nat) : Fld := ⟨R.LNK_LANE_EVENT p, 2, 1⟩
@[inherit_doc R.LNK_LANE_EVENT] def F.LNK_LANE_EVENT_lol_clr (p : Nat) : Fld := ⟨R.LNK_LANE_EVENT p, 3, 1⟩
@[inherit_doc R.LNK_LANE_EVENT] def F.LNK_LANE_EVENT_slip (p : Nat) : Fld := ⟨R.LNK_LANE_EVENT p, 4, 1⟩
@[inherit_doc R.LNK_LANE_EVENT] def F.LNK_LANE_EVENT_wave_fault (p : Nat) : Fld := ⟨R.LNK_LANE_EVENT p, 5, 1⟩
@[inherit_doc R.LNK_LANE_EVENT] def F.LNK_LANE_EVENT_refuse (p : Nat) : Fld := ⟨R.LNK_LANE_EVENT p, 6, 1⟩
/-- LNK_LANE_INT_EN: Interrupt enables (04_line_lanes). -/
def R.LNK_LANE_INT_EN (p : Nat) : Nat := 0x100010 + 2048 * p
@[inherit_doc R.LNK_LANE_INT_EN] def F.LNK_LANE_INT_EN_enable (p : Nat) : Fld := ⟨R.LNK_LANE_INT_EN p, 0, 7⟩
/-- LNK_DET_LOS: LOS thresholds (04_line_lanes). -/
def R.LNK_DET_LOS (p : Nat) : Nat := 0x100014 + 2048 * p
@[inherit_doc R.LNK_DET_LOS] def F.LNK_DET_LOS_assert (p : Nat) : Fld := ⟨R.LNK_DET_LOS p, 0, 8⟩
@[inherit_doc R.LNK_DET_LOS] def F.LNK_DET_LOS_hyst (p : Nat) : Fld := ⟨R.LNK_DET_LOS p, 8, 8⟩
/-- LNK_DET_LOL: LOL thresholds (04_line_lanes). -/
def R.LNK_DET_LOL (p : Nat) : Nat := 0x100018 + 2048 * p
@[inherit_doc R.LNK_DET_LOL] def F.LNK_DET_LOL_snr (p : Nat) : Fld := ⟨R.LNK_DET_LOL p, 0, 8⟩
@[inherit_doc R.LNK_DET_LOL] def F.LNK_DET_LOL_hyst (p : Nat) : Fld := ⟨R.LNK_DET_LOL p, 8, 8⟩
/-- LNK_DET_SEAL: Seal for the detector group (04_line_lanes). -/
def R.LNK_DET_SEAL (p : Nat) : Nat := 0x10001c + 2048 * p
@[inherit_doc R.LNK_DET_SEAL] def F.LNK_DET_SEAL_seal (p : Nat) : Fld := ⟨R.LNK_DET_SEAL p, 0, 1⟩
@[inherit_doc R.LNK_DET_SEAL] def F.LNK_DET_SEAL_abandon (p : Nat) : Fld := ⟨R.LNK_DET_SEAL p, 1, 1⟩
@[inherit_doc R.LNK_DET_SEAL] def F.LNK_DET_SEAL_state (p : Nat) : Fld := ⟨R.LNK_DET_SEAL p, 4, 2⟩
@[inherit_doc R.LNK_DET_SEAL] def F.LNK_DET_SEAL_result (p : Nat) : Fld := ⟨R.LNK_DET_SEAL p, 8, 4⟩
@[inherit_doc R.LNK_DET_SEAL] def F.LNK_DET_SEAL_field (p : Nat) : Fld := ⟨R.LNK_DET_SEAL p, 16, 8⟩
@[inherit_doc R.LNK_DET_SEAL] def F.LNK_DET_SEAL_rule (p : Nat) : Fld := ⟨R.LNK_DET_SEAL p, 24, 8⟩
/-- LNK_RX_PWR: Receive power (04_line_lanes). -/
def R.LNK_RX_PWR (p : Nat) : Nat := 0x100020 + 2048 * p
@[inherit_doc R.LNK_RX_PWR] def F.LNK_RX_PWR_pwr (p : Nat) : Fld := ⟨R.LNK_RX_PWR p, 0, 16⟩
@[inherit_doc R.LNK_RX_PWR] def F.LNK_RX_PWR_valid (p : Nat) : Fld := ⟨R.LNK_RX_PWR p, 16, 1⟩
/-- LNK_RX_SNR: Equaliser output SNR (04_line_lanes). -/
def R.LNK_RX_SNR (p : Nat) : Nat := 0x100024 + 2048 * p
@[inherit_doc R.LNK_RX_SNR] def F.LNK_RX_SNR_snr (p : Nat) : Fld := ⟨R.LNK_RX_SNR p, 0, 16⟩
/-- LNK_RX_OFFSET: Receiver offset (04_line_lanes). -/
def R.LNK_RX_OFFSET (p : Nat) : Nat := 0x100028 + 2048 * p
@[inherit_doc R.LNK_RX_OFFSET] def F.LNK_RX_OFFSET_offset (p : Nat) : Fld := ⟨R.LNK_RX_OFFSET p, 0, 16⟩
@[inherit_doc R.LNK_RX_OFFSET] def F.LNK_RX_OFFSET_cal_run (p : Nat) : Fld := ⟨R.LNK_RX_OFFSET p, 16, 1⟩
/-- LNK_TX_SETPOINT: Applied launch set point (04_line_lanes). -/
def R.LNK_TX_SETPOINT (p : Nat) : Nat := 0x10002c + 2048 * p
@[inherit_doc R.LNK_TX_SETPOINT] def F.LNK_TX_SETPOINT_pwr (p : Nat) : Fld := ⟨R.LNK_TX_SETPOINT p, 0, 16⟩
/-- LNK_TX_PWR: Measured launch power (04_line_lanes). -/
def R.LNK_TX_PWR (p : Nat) : Nat := 0x100030 + 2048 * p
@[inherit_doc R.LNK_TX_PWR] def F.LNK_TX_PWR_uw (p : Nat) : Fld := ⟨R.LNK_TX_PWR p, 0, 16⟩
/-- LNK_TX_BIAS: Laser bias (04_line_lanes). -/
def R.LNK_TX_BIAS (p : Nat) : Nat := 0x100034 + 2048 * p
@[inherit_doc R.LNK_TX_BIAS] def F.LNK_TX_BIAS_bias (p : Nat) : Fld := ⟨R.LNK_TX_BIAS p, 0, 16⟩
/-- LNK_TX_MOD: Modulation current (04_line_lanes). -/
def R.LNK_TX_MOD (p : Nat) : Nat := 0x100038 + 2048 * p
@[inherit_doc R.LNK_TX_MOD] def F.LNK_TX_MOD_mod (p : Nat) : Fld := ⟨R.LNK_TX_MOD p, 0, 16⟩
/-- LNK_TEMPCO: Temperature coefficients (04_line_lanes). -/
def R.LNK_TEMPCO (p : Nat) : Nat := 0x10003c + 2048 * p
@[inherit_doc R.LNK_TEMPCO] def F.LNK_TEMPCO_bias_tc (p : Nat) : Fld := ⟨R.LNK_TEMPCO p, 0, 16⟩
@[inherit_doc R.LNK_TEMPCO] def F.LNK_TEMPCO_heat_tc (p : Nat) : Fld := ⟨R.LNK_TEMPCO p, 16, 16⟩
/-- LNK_SLIP: Cycle slips (04_line_lanes). -/
def R.LNK_SLIP (p : Nat) : Nat := 0x100040 + 2048 * p
@[inherit_doc R.LNK_SLIP] def F.LNK_SLIP_count (p : Nat) : Fld := ⟨R.LNK_SLIP p, 0, 32⟩
/-- OPE_STATUS: Engine status (04_line_lanes). -/
def R.OPE_STATUS (e : Nat) : Nat := 0x180000 + 16384 * e
@[inherit_doc R.OPE_STATUS] def F.OPE_STATUS_powered (e : Nat) : Fld := ⟨R.OPE_STATUS e, 0, 1⟩
@[inherit_doc R.OPE_STATUS] def F.OPE_STATUS_cal_default (e : Nat) : Fld := ⟨R.OPE_STATUS e, 1, 1⟩
@[inherit_doc R.OPE_STATUS] def F.OPE_STATUS_temp_valid (e : Nat) : Fld := ⟨R.OPE_STATUS e, 2, 1⟩
@[inherit_doc R.OPE_STATUS] def F.OPE_STATUS_token_wait (e : Nat) : Fld := ⟨R.OPE_STATUS e, 3, 1⟩
/-- OPE_TEMP: Engine temperature (04_line_lanes). -/
def R.OPE_TEMP (e : Nat) : Nat := 0x180004 + 16384 * e
@[inherit_doc R.OPE_TEMP] def F.OPE_TEMP_temp (e : Nat) : Fld := ⟨R.OPE_TEMP e, 0, 16⟩
/-- OPE_EVENT: Sticky events (04_line_lanes). -/
def R.OPE_EVENT (e : Nat) : Nat := 0x180008 + 16384 * e
@[inherit_doc R.OPE_EVENT] def F.OPE_EVENT_wave_fault (e : Nat) : Fld := ⟨R.OPE_EVENT e, 0, 16⟩
@[inherit_doc R.OPE_EVENT] def F.OPE_EVENT_over_temp (e : Nat) : Fld := ⟨R.OPE_EVENT e, 16, 1⟩
/-- OPE_INT_EN: Interrupt enables (04_line_lanes). -/
def R.OPE_INT_EN (e : Nat) : Nat := 0x18000c + 16384 * e
@[inherit_doc R.OPE_INT_EN] def F.OPE_INT_EN_enable (e : Nat) : Fld := ⟨R.OPE_INT_EN e, 0, 17⟩
/-- OPE_WAVE: Wavelength error of transmitter k (04_line_lanes). -/
def R.OPE_WAVE (e k : Nat) : Nat := 0x180100 + 16384 * e + 4 * k
@[inherit_doc R.OPE_WAVE] def F.OPE_WAVE_err (e k : Nat) : Fld := ⟨R.OPE_WAVE e k, 0, 16⟩
@[inherit_doc R.OPE_WAVE] def F.OPE_WAVE_locked (e k : Nat) : Fld := ⟨R.OPE_WAVE e k, 16, 1⟩
/-- SAF_CTRL: Per-fibre shut-off (04_line_lanes). -/
def R.SAF_CTRL : Nat := 0x1c0000
@[inherit_doc R.SAF_CTRL] def F.SAF_CTRL_kill_a : Fld := ⟨R.SAF_CTRL, 0, 1⟩
@[inherit_doc R.SAF_CTRL] def F.SAF_CTRL_kill_b : Fld := ⟨R.SAF_CTRL, 1, 1⟩
/-- SAF_STATUS: Gates and latches (04_line_lanes). -/
def R.SAF_STATUS : Nat := 0x1c0004
@[inherit_doc R.SAF_STATUS] def F.SAF_STATUS_laser_en : Fld := ⟨R.SAF_STATUS, 0, 1⟩
@[inherit_doc R.SAF_STATUS] def F.SAF_STATUS_dark_a : Fld := ⟨R.SAF_STATUS, 1, 1⟩
@[inherit_doc R.SAF_STATUS] def F.SAF_STATUS_dark_b : Fld := ⟨R.SAF_STATUS, 2, 1⟩
@[inherit_doc R.SAF_STATUS] def F.SAF_STATUS_apr_a : Fld := ⟨R.SAF_STATUS, 3, 1⟩
@[inherit_doc R.SAF_STATUS] def F.SAF_STATUS_apr_b : Fld := ⟨R.SAF_STATUS, 4, 1⟩
@[inherit_doc R.SAF_STATUS] def F.SAF_STATUS_fuse_a : Fld := ⟨R.SAF_STATUS, 5, 1⟩
@[inherit_doc R.SAF_STATUS] def F.SAF_STATUS_fuse_b : Fld := ⟨R.SAF_STATUS, 6, 1⟩
@[inherit_doc R.SAF_STATUS] def F.SAF_STATUS_safe : Fld := ⟨R.SAF_STATUS, 7, 1⟩
/-- SAF_CEIL_A: Path A ceiling (04_line_lanes). -/
def R.SAF_CEIL_A : Nat := 0x1c0008
@[inherit_doc R.SAF_CEIL_A] def F.SAF_CEIL_A_ceil : Fld := ⟨R.SAF_CEIL_A, 0, 16⟩
/-- SAF_CEIL_B: Path B ceiling (04_line_lanes). -/
def R.SAF_CEIL_B : Nat := 0x1c000c
@[inherit_doc R.SAF_CEIL_B] def F.SAF_CEIL_B_ceil : Fld := ⟨R.SAF_CEIL_B, 0, 16⟩
/-- SAF_FUSE: Fused maximum (04_line_lanes). -/
def R.SAF_FUSE : Nat := 0x1c0010
@[inherit_doc R.SAF_FUSE] def F.SAF_FUSE_max : Fld := ⟨R.SAF_FUSE, 0, 16⟩
/-- SAF_ENERGY_A: Energy in the current 1 ms window, FA_UP (04_line_lanes). -/
def R.SAF_ENERGY_A : Nat := 0x1c0014
@[inherit_doc R.SAF_ENERGY_A] def F.SAF_ENERGY_A_nj : Fld := ⟨R.SAF_ENERGY_A, 0, 32⟩
/-- SAF_ENERGY_B: Energy in the current 1 ms window, FB_UP (04_line_lanes). -/
def R.SAF_ENERGY_B : Nat := 0x1c0018
@[inherit_doc R.SAF_ENERGY_B] def F.SAF_ENERGY_B_nj : Fld := ⟨R.SAF_ENERGY_B, 0, 32⟩
/-- SAF_HELD_A: Held bursts, FA_UP (04_line_lanes). -/
def R.SAF_HELD_A : Nat := 0x1c001c
@[inherit_doc R.SAF_HELD_A] def F.SAF_HELD_A_count : Fld := ⟨R.SAF_HELD_A, 0, 32⟩
/-- SAF_HELD_B: Held bursts, FB_UP (04_line_lanes). -/
def R.SAF_HELD_B : Nat := 0x1c0020
@[inherit_doc R.SAF_HELD_B] def F.SAF_HELD_B_count : Fld := ⟨R.SAF_HELD_B, 0, 32⟩
/-- SAF_FUSE_CLR: Release fuse latches (04_line_lanes). -/
def R.SAF_FUSE_CLR : Nat := 0x1c0024
@[inherit_doc R.SAF_FUSE_CLR] def F.SAF_FUSE_CLR_clr_a : Fld := ⟨R.SAF_FUSE_CLR, 0, 1⟩
@[inherit_doc R.SAF_FUSE_CLR] def F.SAF_FUSE_CLR_clr_b : Fld := ⟨R.SAF_FUSE_CLR, 1, 1⟩
/-- SAF_EVENT: Sticky events (04_line_lanes). -/
def R.SAF_EVENT : Nat := 0x1c0028
@[inherit_doc R.SAF_EVENT] def F.SAF_EVENT_apr_a : Fld := ⟨R.SAF_EVENT, 0, 1⟩
@[inherit_doc R.SAF_EVENT] def F.SAF_EVENT_apr_b : Fld := ⟨R.SAF_EVENT, 1, 1⟩
@[inherit_doc R.SAF_EVENT] def F.SAF_EVENT_fuse_a : Fld := ⟨R.SAF_EVENT, 2, 1⟩
@[inherit_doc R.SAF_EVENT] def F.SAF_EVENT_fuse_b : Fld := ⟨R.SAF_EVENT, 3, 1⟩
@[inherit_doc R.SAF_EVENT] def F.SAF_EVENT_laser_en_low : Fld := ⟨R.SAF_EVENT, 4, 1⟩
@[inherit_doc R.SAF_EVENT] def F.SAF_EVENT_held_a : Fld := ⟨R.SAF_EVENT, 5, 1⟩
@[inherit_doc R.SAF_EVENT] def F.SAF_EVENT_held_b : Fld := ⟨R.SAF_EVENT, 6, 1⟩
/-- SAF_INT_EN: Interrupt enables (04_line_lanes). -/
def R.SAF_INT_EN : Nat := 0x1c002c
@[inherit_doc R.SAF_INT_EN] def F.SAF_INT_EN_enable : Fld := ⟨R.SAF_INT_EN, 0, 7⟩
/-- DFR_CTRL: Reassembly timeout (05_downstream_framing). -/
def R.DFR_CTRL : Nat := 0x200000
@[inherit_doc R.DFR_CTRL] def F.DFR_CTRL_reasm_to : Fld := ⟨R.DFR_CTRL, 0, 4⟩
/-- DFR_EXC: FEC-EXC thresholds (05_downstream_framing). -/
def R.DFR_EXC : Nat := 0x200004
@[inherit_doc R.DFR_EXC] def F.DFR_EXC_exc_set : Fld := ⟨R.DFR_EXC, 0, 8⟩
@[inherit_doc R.DFR_EXC] def F.DFR_EXC_exc_clear : Fld := ⟨R.DFR_EXC, 8, 8⟩
@[inherit_doc R.DFR_EXC] def F.DFR_EXC_exc_frames : Fld := ⟨R.DFR_EXC, 16, 4⟩
/-- DFR_SD_SET: SD set threshold (05_downstream_framing). -/
def R.DFR_SD_SET : Nat := 0x200008
@[inherit_doc R.DFR_SD_SET] def F.DFR_SD_SET_count : Fld := ⟨R.DFR_SD_SET, 0, 32⟩
/-- DFR_SD_CLR: SD clear threshold (05_downstream_framing). -/
def R.DFR_SD_CLR : Nat := 0x20000c
@[inherit_doc R.DFR_SD_CLR] def F.DFR_SD_CLR_count : Fld := ⟨R.DFR_SD_CLR, 0, 32⟩
/-- DFR_THR_SEAL: Seal for the threshold group (05_downstream_framing). -/
def R.DFR_THR_SEAL : Nat := 0x200010
@[inherit_doc R.DFR_THR_SEAL] def F.DFR_THR_SEAL_seal : Fld := ⟨R.DFR_THR_SEAL, 0, 1⟩
@[inherit_doc R.DFR_THR_SEAL] def F.DFR_THR_SEAL_abandon : Fld := ⟨R.DFR_THR_SEAL, 1, 1⟩
@[inherit_doc R.DFR_THR_SEAL] def F.DFR_THR_SEAL_state : Fld := ⟨R.DFR_THR_SEAL, 4, 2⟩
@[inherit_doc R.DFR_THR_SEAL] def F.DFR_THR_SEAL_result : Fld := ⟨R.DFR_THR_SEAL, 8, 4⟩
@[inherit_doc R.DFR_THR_SEAL] def F.DFR_THR_SEAL_field : Fld := ⟨R.DFR_THR_SEAL, 16, 8⟩
@[inherit_doc R.DFR_THR_SEAL] def F.DFR_THR_SEAL_rule : Fld := ⟨R.DFR_THR_SEAL, 24, 8⟩
/-- DFR_HOME: Home channels (05_downstream_framing). -/
def R.DFR_HOME : Nat := 0x200014
@[inherit_doc R.DFR_HOME] def F.DFR_HOME_home_a : Fld := ⟨R.DFR_HOME, 0, 6⟩
@[inherit_doc R.DFR_HOME] def F.DFR_HOME_valid_a : Fld := ⟨R.DFR_HOME, 6, 1⟩
@[inherit_doc R.DFR_HOME] def F.DFR_HOME_home_b : Fld := ⟨R.DFR_HOME, 8, 6⟩
@[inherit_doc R.DFR_HOME] def F.DFR_HOME_valid_b : Fld := ⟨R.DFR_HOME, 14, 1⟩
/-- DFR_SID_ADDR: SID filter word address (05_downstream_framing). -/
def R.DFR_SID_ADDR : Nat := 0x200018
@[inherit_doc R.DFR_SID_ADDR] def F.DFR_SID_ADDR_word : Fld := ⟨R.DFR_SID_ADDR, 0, 15⟩
@[inherit_doc R.DFR_SID_ADDR] def F.DFR_SID_ADDR_path : Fld := ⟨R.DFR_SID_ADDR, 16, 1⟩
/-- DFR_SID_DATA: SID filter word (05_downstream_framing). -/
def R.DFR_SID_DATA : Nat := 0x20001c
@[inherit_doc R.DFR_SID_DATA] def F.DFR_SID_DATA_bits : Fld := ⟨R.DFR_SID_DATA, 0, 32⟩
/-- DFR_REASM_OPEN: Open reassembly contexts (05_downstream_framing). -/
def R.DFR_REASM_OPEN : Nat := 0x200020
@[inherit_doc R.DFR_REASM_OPEN] def F.DFR_REASM_OPEN_a : Fld := ⟨R.DFR_REASM_OPEN, 0, 13⟩
@[inherit_doc R.DFR_REASM_OPEN] def F.DFR_REASM_OPEN_b : Fld := ⟨R.DFR_REASM_OPEN, 16, 13⟩
/-- DFR_LCM_BAD: LCM slots with a bad CRC (05_downstream_framing). -/
def R.DFR_LCM_BAD : Nat := 0x200024
@[inherit_doc R.DFR_LCM_BAD] def F.DFR_LCM_BAD_count : Fld := ⟨R.DFR_LCM_BAD, 0, 32⟩
/-- DFR_DISC: Discards with code 0x68 + k, k = 0 to 7 (05_downstream_framing). -/
def R.DFR_DISC (k : Nat) : Nat := 0x200040 + 8 * k
@[inherit_doc R.DFR_DISC] def F.DFR_DISC_count (k : Nat) : Fld := ⟨R.DFR_DISC k, 0, 64⟩
/-- DFR_CH_STATUS: Delineation and defects (05_downstream_framing). -/
def R.DFR_CH_STATUS (p : Nat) : Nat := 0x210000 + 256 * p
@[inherit_doc R.DFR_CH_STATUS] def F.DFR_CH_STATUS_delin (p : Nat) : Fld := ⟨R.DFR_CH_STATUS p, 0, 2⟩
@[inherit_doc R.DFR_CH_STATUS] def F.DFR_CH_STATUS_mf_lock (p : Nat) : Fld := ⟨R.DFR_CH_STATUS p, 2, 1⟩
@[inherit_doc R.DFR_CH_STATUS] def F.DFR_CH_STATUS_parked (p : Nat) : Fld := ⟨R.DFR_CH_STATUS p, 3, 1⟩
@[inherit_doc R.DFR_CH_STATUS] def F.DFR_CH_STATUS_los (p : Nat) : Fld := ⟨R.DFR_CH_STATUS p, 4, 1⟩
@[inherit_doc R.DFR_CH_STATUS] def F.DFR_CH_STATUS_lol (p : Nat) : Fld := ⟨R.DFR_CH_STATUS p, 5, 1⟩
@[inherit_doc R.DFR_CH_STATUS] def F.DFR_CH_STATUS_lof (p : Nat) : Fld := ⟨R.DFR_CH_STATUS p, 6, 1⟩
@[inherit_doc R.DFR_CH_STATUS] def F.DFR_CH_STATUS_lom (p : Nat) : Fld := ⟨R.DFR_CH_STATUS p, 7, 1⟩
@[inherit_doc R.DFR_CH_STATUS] def F.DFR_CH_STATUS_fec_exc (p : Nat) : Fld := ⟨R.DFR_CH_STATUS p, 8, 1⟩
@[inherit_doc R.DFR_CH_STATUS] def F.DFR_CH_STATUS_ais_l (p : Nat) : Fld := ⟨R.DFR_CH_STATUS p, 9, 1⟩
@[inherit_doc R.DFR_CH_STATUS] def F.DFR_CH_STATUS_sd (p : Nat) : Fld := ⟨R.DFR_CH_STATUS p, 10, 1⟩
/-- DFR_CH_EVENT: Sticky events (05_downstream_framing). -/
def R.DFR_CH_EVENT (p : Nat) : Nat := 0x210004 + 256 * p
@[inherit_doc R.DFR_CH_EVENT] def F.DFR_CH_EVENT_set (p : Nat) : Fld := ⟨R.DFR_CH_EVENT p, 0, 7⟩
@[inherit_doc R.DFR_CH_EVENT] def F.DFR_CH_EVENT_clear (p : Nat) : Fld := ⟨R.DFR_CH_EVENT p, 8, 7⟩
@[inherit_doc R.DFR_CH_EVENT] def F.DFR_CH_EVENT_misroute (p : Nat) : Fld := ⟨R.DFR_CH_EVENT p, 15, 1⟩
/-- DFR_CH_INT_EN: Interrupt enables (05_downstream_framing). -/
def R.DFR_CH_INT_EN (p : Nat) : Nat := 0x210008 + 256 * p
@[inherit_doc R.DFR_CH_INT_EN] def F.DFR_CH_INT_EN_enable (p : Nat) : Fld := ⟨R.DFR_CH_INT_EN p, 0, 16⟩
/-- DFR_CH_FN: Last received FN (05_downstream_framing). -/
def R.DFR_CH_FN (p : Nat) : Nat := 0x21000c + 256 * p
@[inherit_doc R.DFR_CH_FN] def F.DFR_CH_FN_fn (p : Nat) : Fld := ⟨R.DFR_CH_FN p, 0, 48⟩
/-- DFR_CH_SEG: Segments accepted (05_downstream_framing). -/
def R.DFR_CH_SEG (p : Nat) : Nat := 0x210014 + 256 * p
@[inherit_doc R.DFR_CH_SEG] def F.DFR_CH_SEG_count (p : Nat) : Fld := ⟨R.DFR_CH_SEG p, 0, 64⟩
/-- DFR_CH_FOREIGN: Segments discarded by the SID filter (05_downstream_framing). -/
def R.DFR_CH_FOREIGN (p : Nat) : Nat := 0x21001c + 256 * p
@[inherit_doc R.DFR_CH_FOREIGN] def F.DFR_CH_FOREIGN_count (p : Nat) : Fld := ⟨R.DFR_CH_FOREIGN p, 0, 64⟩
/-- DFR_SEC_CORR: Corrected symbols, last second (05_downstream_framing). -/
def R.DFR_SEC_CORR (p : Nat) : Nat := 0x220000 + 32 * p
@[inherit_doc R.DFR_SEC_CORR] def F.DFR_SEC_CORR_count (p : Nat) : Fld := ⟨R.DFR_SEC_CORR p, 0, 32⟩
/-- DFR_SEC_UNCORR: Uncorrectable codewords, last second (05_downstream_framing). -/
def R.DFR_SEC_UNCORR (p : Nat) : Nat := 0x220004 + 32 * p
@[inherit_doc R.DFR_SEC_UNCORR] def F.DFR_SEC_UNCORR_count (p : Nat) : Fld := ⟨R.DFR_SEC_UNCORR p, 0, 32⟩
/-- DFR_SEC_FRAMES: Frames, last second (05_downstream_framing). -/
def R.DFR_SEC_FRAMES (p : Nat) : Nat := 0x220008 + 32 * p
@[inherit_doc R.DFR_SEC_FRAMES] def F.DFR_SEC_FRAMES_errored (p : Nat) : Fld := ⟨R.DFR_SEC_FRAMES p, 0, 16⟩
@[inherit_doc R.DFR_SEC_FRAMES] def F.DFR_SEC_FRAMES_received (p : Nat) : Fld := ⟨R.DFR_SEC_FRAMES p, 16, 16⟩
/-- DFR_SEC_DEF: Defect presence, last second (05_downstream_framing). -/
def R.DFR_SEC_DEF (p : Nat) : Nat := 0x22000c + 32 * p
@[inherit_doc R.DFR_SEC_DEF] def F.DFR_SEC_DEF_present (p : Nat) : Fld := ⟨R.DFR_SEC_DEF p, 0, 7⟩
@[inherit_doc R.DFR_SEC_DEF] def F.DFR_SEC_DEF_parked (p : Nat) : Fld := ⟨R.DFR_SEC_DEF p, 7, 1⟩
/-- DFR_TRIB_CFG: Container t placement, t = 0 to 31 (05_downstream_framing). -/
def R.DFR_TRIB_CFG (t : Nat) : Nat := 0x230000 + 32 * t
@[inherit_doc R.DFR_TRIB_CFG] def F.DFR_TRIB_CFG_first_cw (t : Nat) : Fld := ⟨R.DFR_TRIB_CFG t, 0, 13⟩
@[inherit_doc R.DFR_TRIB_CFG] def F.DFR_TRIB_CFG_chan (t : Nat) : Fld := ⟨R.DFR_TRIB_CFG t, 13, 6⟩
@[inherit_doc R.DFR_TRIB_CFG] def F.DFR_TRIB_CFG_path (t : Nat) : Fld := ⟨R.DFR_TRIB_CFG t, 19, 1⟩
@[inherit_doc R.DFR_TRIB_CFG] def F.DFR_TRIB_CFG_rate (t : Nat) : Fld := ⟨R.DFR_TRIB_CFG t, 20, 1⟩
@[inherit_doc R.DFR_TRIB_CFG] def F.DFR_TRIB_CFG_valid (t : Nat) : Fld := ⟨R.DFR_TRIB_CFG t, 21, 1⟩
/-- DFR_TRIB_PORT: Client port of container t (05_downstream_framing). -/
def R.DFR_TRIB_PORT (t : Nat) : Nat := 0x230004 + 32 * t
@[inherit_doc R.DFR_TRIB_PORT] def F.DFR_TRIB_PORT_port (t : Nat) : Fld := ⟨R.DFR_TRIB_PORT t, 0, 7⟩
/-- DFR_TRIB_STATUS: Pointer and defects (05_downstream_framing). -/
def R.DFR_TRIB_STATUS (t : Nat) : Nat := 0x230008 + 32 * t
@[inherit_doc R.DFR_TRIB_STATUS] def F.DFR_TRIB_STATUS_ptr (t : Nat) : Fld := ⟨R.DFR_TRIB_STATUS t, 0, 14⟩
@[inherit_doc R.DFR_TRIB_STATUS] def F.DFR_TRIB_STATUS_lop (t : Nat) : Fld := ⟨R.DFR_TRIB_STATUS t, 14, 1⟩
@[inherit_doc R.DFR_TRIB_STATUS] def F.DFR_TRIB_STATUS_ais_t (t : Nat) : Fld := ⟨R.DFR_TRIB_STATUS t, 15, 1⟩
@[inherit_doc R.DFR_TRIB_STATUS] def F.DFR_TRIB_STATUS_invalid (t : Nat) : Fld := ⟨R.DFR_TRIB_STATUS t, 16, 4⟩
/-- DFR_TRIB_PJ: Positive justifications (05_downstream_framing). -/
def R.DFR_TRIB_PJ (t : Nat) : Nat := 0x23000c + 32 * t
@[inherit_doc R.DFR_TRIB_PJ] def F.DFR_TRIB_PJ_count (t : Nat) : Fld := ⟨R.DFR_TRIB_PJ t, 0, 32⟩
/-- DFR_TRIB_NJ: Negative justifications (05_downstream_framing). -/
def R.DFR_TRIB_NJ (t : Nat) : Nat := 0x230010 + 32 * t
@[inherit_doc R.DFR_TRIB_NJ] def F.DFR_TRIB_NJ_count (t : Nat) : Fld := ⟨R.DFR_TRIB_NJ t, 0, 32⟩
/-- MCH_CTRL: Sink, path and ring (05_downstream_framing). -/
def R.MCH_CTRL : Nat := 0x900000
@[inherit_doc R.MCH_CTRL] def F.MCH_CTRL_sink : Fld := ⟨R.MCH_CTRL, 0, 2⟩
@[inherit_doc R.MCH_CTRL] def F.MCH_CTRL_path_sel : Fld := ⟨R.MCH_CTRL, 2, 2⟩
@[inherit_doc R.MCH_CTRL] def F.MCH_CTRL_ring : Fld := ⟨R.MCH_CTRL, 8, 6⟩
/-- MCH_UART: MGT_UART0 baud divisor (05_downstream_framing). -/
def R.MCH_UART : Nat := 0x900004
@[inherit_doc R.MCH_UART] def F.MCH_UART_div : Fld := ⟨R.MCH_UART, 0, 10⟩
/-- MCH_STATUS: Buffer levels and path (05_downstream_framing). -/
def R.MCH_STATUS : Nat := 0x900008
@[inherit_doc R.MCH_STATUS] def F.MCH_STATUS_rx_level : Fld := ⟨R.MCH_STATUS, 0, 16⟩
@[inherit_doc R.MCH_STATUS] def F.MCH_STATUS_tx_level : Fld := ⟨R.MCH_STATUS, 16, 12⟩
@[inherit_doc R.MCH_STATUS] def F.MCH_STATUS_path : Fld := ⟨R.MCH_STATUS, 28, 2⟩
/-- MCH_RX_MSG: Messages delivered (05_downstream_framing). -/
def R.MCH_RX_MSG : Nat := 0x90000c
@[inherit_doc R.MCH_RX_MSG] def F.MCH_RX_MSG_count : Fld := ⟨R.MCH_RX_MSG, 0, 32⟩
/-- MCH_RX_DROP: Messages discarded for buffer or sink (05_downstream_framing). -/
def R.MCH_RX_DROP : Nat := 0x900010
@[inherit_doc R.MCH_RX_DROP] def F.MCH_RX_DROP_count : Fld := ⟨R.MCH_RX_DROP, 0, 32⟩
/-- MCH_RX_BAD: Messages discarded under R133 (05_downstream_framing). -/
def R.MCH_RX_BAD : Nat := 0x900014
@[inherit_doc R.MCH_RX_BAD] def F.MCH_RX_BAD_count : Fld := ⟨R.MCH_RX_BAD, 0, 32⟩
/-- MCH_TX_MSG: Messages handed to the UPB (05_downstream_framing). -/
def R.MCH_TX_MSG : Nat := 0x900018
@[inherit_doc R.MCH_TX_MSG] def F.MCH_TX_MSG_count : Fld := ⟨R.MCH_TX_MSG, 0, 32⟩
/-- MCH_TX_DROP: Upstream messages discarded (05_downstream_framing). -/
def R.MCH_TX_DROP : Nat := 0x90001c
@[inherit_doc R.MCH_TX_DROP] def F.MCH_TX_DROP_count : Fld := ⟨R.MCH_TX_DROP, 0, 32⟩
/-- MCH_EVENT: Sticky events (05_downstream_framing). -/
def R.MCH_EVENT : Nat := 0x900020
@[inherit_doc R.MCH_EVENT] def F.MCH_EVENT_rx_drop : Fld := ⟨R.MCH_EVENT, 0, 1⟩
@[inherit_doc R.MCH_EVENT] def F.MCH_EVENT_rx_bad : Fld := ⟨R.MCH_EVENT, 1, 1⟩
@[inherit_doc R.MCH_EVENT] def F.MCH_EVENT_tx_drop : Fld := ⟨R.MCH_EVENT, 2, 1⟩
@[inherit_doc R.MCH_EVENT] def F.MCH_EVENT_path_change : Fld := ⟨R.MCH_EVENT, 3, 1⟩
/-- MCH_INT_EN: Interrupt enables (05_downstream_framing). -/
def R.MCH_INT_EN : Nat := 0x900024
@[inherit_doc R.MCH_INT_EN] def F.MCH_INT_EN_enable : Fld := ⟨R.MCH_INT_EN, 0, 4⟩
/-- ACT_CTRL: Enables and hub authentication (06_activation). -/
def R.ACT_CTRL (q : Nat) : Nat := 0x300000 + 4096 * q
@[inherit_doc R.ACT_CTRL] def F.ACT_CTRL_enable (q : Nat) : Fld := ⟨R.ACT_CTRL q, 0, 1⟩
@[inherit_doc R.ACT_CTRL] def F.ACT_CTRL_hub_auth (q : Nat) : Fld := ⟨R.ACT_CTRL q, 1, 1⟩
@[inherit_doc R.ACT_CTRL] def F.ACT_CTRL_skew_en (q : Nat) : Fld := ⟨R.ACT_CTRL q, 2, 1⟩
/-- ACT_STATE: State, home channel, dying-gasp readiness (06_activation). -/
def R.ACT_STATE (q : Nat) : Nat := 0x300004 + 4096 * q
@[inherit_doc R.ACT_STATE] def F.ACT_STATE_state (q : Nat) : Fld := ⟨R.ACT_STATE q, 0, 3⟩
@[inherit_doc R.ACT_STATE] def F.ACT_STATE_home (q : Nat) : Fld := ⟨R.ACT_STATE q, 8, 6⟩
@[inherit_doc R.ACT_STATE] def F.ACT_STATE_home_valid (q : Nat) : Fld := ⟨R.ACT_STATE q, 14, 1⟩
@[inherit_doc R.ACT_STATE] def F.ACT_STATE_home_fallback (q : Nat) : Fld := ⟨R.ACT_STATE q, 15, 1⟩
@[inherit_doc R.ACT_STATE] def F.ACT_STATE_dg_ready (q : Nat) : Fld := ⟨R.ACT_STATE q, 16, 1⟩
/-- ACT_TID: TID and management AID (06_activation). -/
def R.ACT_TID (q : Nat) : Nat := 0x300008 + 4096 * q
@[inherit_doc R.ACT_TID] def F.ACT_TID_tid (q : Nat) : Fld := ⟨R.ACT_TID q, 0, 16⟩
@[inherit_doc R.ACT_TID] def F.ACT_TID_maid (q : Nat) : Fld := ⟨R.ACT_TID q, 16, 16⟩
/-- ACT_TIMER_A: to3 and to6 (06_activation). -/
def R.ACT_TIMER_A (q : Nat) : Nat := 0x30000c + 4096 * q
@[inherit_doc R.ACT_TIMER_A] def F.ACT_TIMER_A_to3 (q : Nat) : Fld := ⟨R.ACT_TIMER_A q, 0, 16⟩
@[inherit_doc R.ACT_TIMER_A] def F.ACT_TIMER_A_to6 (q : Nat) : Fld := ⟨R.ACT_TIMER_A q, 16, 16⟩
/-- ACT_TIMER_B: home_to and frag_to (06_activation). -/
def R.ACT_TIMER_B (q : Nat) : Nat := 0x300010 + 4096 * q
@[inherit_doc R.ACT_TIMER_B] def F.ACT_TIMER_B_home_to (q : Nat) : Fld := ⟨R.ACT_TIMER_B q, 0, 8⟩
@[inherit_doc R.ACT_TIMER_B] def F.ACT_TIMER_B_frag_to (q : Nat) : Fld := ⟨R.ACT_TIMER_B q, 8, 8⟩
/-- ACT_SKEW_CFG: Skew report period and threshold (06_activation). -/
def R.ACT_SKEW_CFG (q : Nat) : Nat := 0x300014 + 4096 * q
@[inherit_doc R.ACT_SKEW_CFG] def F.ACT_SKEW_CFG_period (q : Nat) : Fld := ⟨R.ACT_SKEW_CFG q, 0, 16⟩
@[inherit_doc R.ACT_SKEW_CFG] def F.ACT_SKEW_CFG_thr (q : Nat) : Fld := ⟨R.ACT_SKEW_CFG q, 16, 8⟩
/-- ACT_ROOT_SLOT: Root key slots (06_activation). -/
def R.ACT_ROOT_SLOT (q : Nat) : Nat := 0x300018 + 4096 * q
@[inherit_doc R.ACT_ROOT_SLOT] def F.ACT_ROOT_SLOT_down (q : Nat) : Fld := ⟨R.ACT_ROOT_SLOT q, 0, 8⟩
@[inherit_doc R.ACT_ROOT_SLOT] def F.ACT_ROOT_SLOT_up (q : Nat) : Fld := ⟨R.ACT_ROOT_SLOT q, 8, 8⟩
/-- ACT_HOLD: Held state (06_activation). -/
def R.ACT_HOLD (q : Nat) : Nat := 0x30001c + 4096 * q
@[inherit_doc R.ACT_HOLD] def F.ACT_HOLD_held (q : Nat) : Fld := ⟨R.ACT_HOLD q, 0, 1⟩
@[inherit_doc R.ACT_HOLD] def F.ACT_HOLD_clr (q : Nat) : Fld := ⟨R.ACT_HOLD q, 1, 1⟩
/-- ACT_CAUSE: Cause of the last return to T0, T1 or T5 (06_activation). -/
def R.ACT_CAUSE (q : Nat) : Nat := 0x300020 + 4096 * q
@[inherit_doc R.ACT_CAUSE] def F.ACT_CAUSE_cause (q : Nat) : Fld := ⟨R.ACT_CAUSE q, 0, 4⟩
/-- ACT_REG_FN: FN of the last entry to T4 (06_activation). -/
def R.ACT_REG_FN (q : Nat) : Nat := 0x300024 + 4096 * q
@[inherit_doc R.ACT_REG_FN] def F.ACT_REG_FN_fn (q : Nat) : Fld := ⟨R.ACT_REG_FN q, 0, 48⟩
/-- ACT_LAST_SKEW: Last skew reported (06_activation). -/
def R.ACT_LAST_SKEW (q : Nat) : Nat := 0x30002c + 4096 * q
@[inherit_doc R.ACT_LAST_SKEW] def F.ACT_LAST_SKEW_skew (q : Nat) : Fld := ⟨R.ACT_LAST_SKEW q, 0, 32⟩
/-- ACT_ANN_COUNT: Announces and backoff (06_activation). -/
def R.ACT_ANN_COUNT (q : Nat) : Nat := 0x300030 + 4096 * q
@[inherit_doc R.ACT_ANN_COUNT] def F.ACT_ANN_COUNT_sent (q : Nat) : Fld := ⟨R.ACT_ANN_COUNT q, 0, 16⟩
@[inherit_doc R.ACT_ANN_COUNT] def F.ACT_ANN_COUNT_n (q : Nat) : Fld := ⟨R.ACT_ANN_COUNT q, 16, 4⟩
/-- ACT_LCM_RX: Messages accepted (06_activation). -/
def R.ACT_LCM_RX (q : Nat) : Nat := 0x300034 + 4096 * q
@[inherit_doc R.ACT_LCM_RX] def F.ACT_LCM_RX_count (q : Nat) : Fld := ⟨R.ACT_LCM_RX q, 0, 32⟩
/-- ACT_LCM_TX: Messages sent (06_activation). -/
def R.ACT_LCM_TX (q : Nat) : Nat := 0x300038 + 4096 * q
@[inherit_doc R.ACT_LCM_TX] def F.ACT_LCM_TX_count (q : Nat) : Fld := ⟨R.ACT_LCM_TX q, 0, 32⟩
/-- ACT_LCM_UNKNOWN: Messages discarded (R143) (06_activation). -/
def R.ACT_LCM_UNKNOWN (q : Nat) : Nat := 0x30003c + 4096 * q
@[inherit_doc R.ACT_LCM_UNKNOWN] def F.ACT_LCM_UNKNOWN_count (q : Nat) : Fld := ⟨R.ACT_LCM_UNKNOWN q, 0, 32⟩
/-- ACT_EVENT: Sticky events (06_activation). -/
def R.ACT_EVENT (q : Nat) : Nat := 0x300040 + 4096 * q
@[inherit_doc R.ACT_EVENT] def F.ACT_EVENT_state_change (q : Nat) : Fld := ⟨R.ACT_EVENT q, 0, 1⟩
@[inherit_doc R.ACT_EVENT] def F.ACT_EVENT_hold (q : Nat) : Fld := ⟨R.ACT_EVENT q, 1, 1⟩
@[inherit_doc R.ACT_EVENT] def F.ACT_EVENT_auth_fail (q : Nat) : Fld := ⟨R.ACT_EVENT q, 2, 1⟩
@[inherit_doc R.ACT_EVENT] def F.ACT_EVENT_eqd_range (q : Nat) : Fld := ⟨R.ACT_EVENT q, 3, 1⟩
@[inherit_doc R.ACT_EVENT] def F.ACT_EVENT_range_fit (q : Nat) : Fld := ⟨R.ACT_EVENT q, 4, 1⟩
@[inherit_doc R.ACT_EVENT] def F.ACT_EVENT_home_fallback (q : Nat) : Fld := ⟨R.ACT_EVENT q, 5, 1⟩
@[inherit_doc R.ACT_EVENT] def F.ACT_EVENT_trib_nack (q : Nat) : Fld := ⟨R.ACT_EVENT q, 6, 1⟩
@[inherit_doc R.ACT_EVENT] def F.ACT_EVENT_frag_drop (q : Nat) : Fld := ⟨R.ACT_EVENT q, 7, 1⟩
/-- ACT_INT_EN: Interrupt enables (06_activation). -/
def R.ACT_INT_EN (q : Nat) : Nat := 0x300044 + 4096 * q
@[inherit_doc R.ACT_INT_EN] def F.ACT_INT_EN_enable (q : Nat) : Fld := ⟨R.ACT_INT_EN q, 0, 8⟩
/-- ACT_LSI: Line Serial Identity (06_activation). -/
def R.ACT_LSI : Nat := 0x302000
@[inherit_doc R.ACT_LSI] def F.ACT_LSI_lsi : Fld := ⟨R.ACT_LSI, 0, 64⟩
/-- ACT_EQD: Equalisation delay of CH_n (06_activation). -/
def R.ACT_EQD (q n : Nat) : Nat := 0x310000 + 256 * q + 4 * n
@[inherit_doc R.ACT_EQD] def F.ACT_EQD_eqd (q n : Nat) : Fld := ⟨R.ACT_EQD q n, 0, 30⟩
@[inherit_doc R.ACT_EQD] def F.ACT_EQD_ranged (q n : Nat) : Fld := ⟨R.ACT_EQD q n, 31, 1⟩
/-- UPB_CTRL: Filler parameters (07_upstream_bursts). -/
def R.UPB_CTRL : Nat := 0x400000
@[inherit_doc R.UPB_CTRL] def F.UPB_CTRL_frag_to : Fld := ⟨R.UPB_CTRL, 0, 4⟩
@[inherit_doc R.UPB_CTRL] def F.UPB_CTRL_tint_src : Fld := ⟨R.UPB_CTRL, 4, 2⟩
/-- UPB_EVENT: Sticky events (07_upstream_bursts). -/
def R.UPB_EVENT : Nat := 0x400004
@[inherit_doc R.UPB_EVENT] def F.UPB_EVENT_grant_bad : Fld := ⟨R.UPB_EVENT, 0, 1⟩
@[inherit_doc R.UPB_EVENT] def F.UPB_EVENT_held : Fld := ⟨R.UPB_EVENT, 1, 1⟩
@[inherit_doc R.UPB_EVENT] def F.UPB_EVENT_cut : Fld := ⟨R.UPB_EVENT, 2, 1⟩
@[inherit_doc R.UPB_EVENT] def F.UPB_EVENT_dark : Fld := ⟨R.UPB_EVENT, 3, 1⟩
@[inherit_doc R.UPB_EVENT] def F.UPB_EVENT_frag_abandon : Fld := ⟨R.UPB_EVENT, 4, 1⟩
@[inherit_doc R.UPB_EVENT] def F.UPB_EVENT_wake_miss : Fld := ⟨R.UPB_EVENT, 5, 1⟩
@[inherit_doc R.UPB_EVENT] def F.UPB_EVENT_trib_nack : Fld := ⟨R.UPB_EVENT, 6, 1⟩
@[inherit_doc R.UPB_EVENT] def F.UPB_EVENT_map_lost : Fld := ⟨R.UPB_EVENT, 7, 1⟩
/-- UPB_INT_EN: Interrupt enables (07_upstream_bursts). -/
def R.UPB_INT_EN : Nat := 0x400008
@[inherit_doc R.UPB_INT_EN] def F.UPB_INT_EN_enable : Fld := ⟨R.UPB_INT_EN, 0, 8⟩
/-- UPB_PRE: Preamble table entry i of path q (07_upstream_bursts). -/
def R.UPB_PRE (q i : Nat) : Nat := 0x400020 + 16 * q + 4 * i
@[inherit_doc R.UPB_PRE] def F.UPB_PRE_plen (q i : Nat) : Fld := ⟨R.UPB_PRE q i, 0, 10⟩
@[inherit_doc R.UPB_PRE] def F.UPB_PRE_kind (q i : Nat) : Fld := ⟨R.UPB_PRE q i, 16, 2⟩
/-- UPB_P_BURSTS: Bursts launched (07_upstream_bursts). -/
def R.UPB_P_BURSTS (q : Nat) : Nat := 0x401000 + 4096 * q
@[inherit_doc R.UPB_P_BURSTS] def F.UPB_P_BURSTS_count (q : Nat) : Fld := ⟨R.UPB_P_BURSTS q, 0, 64⟩
/-- UPB_P_BSN: Next bsn (07_upstream_bursts). -/
def R.UPB_P_BSN (q : Nat) : Nat := 0x401008 + 4096 * q
@[inherit_doc R.UPB_P_BSN] def F.UPB_P_BSN_bsn (q : Nat) : Fld := ⟨R.UPB_P_BSN q, 0, 32⟩
/-- UPB_P_FRAG_ABANDON: Fragment remainders discarded (07_upstream_bursts). -/
def R.UPB_P_FRAG_ABANDON (q : Nat) : Nat := 0x40100c + 4096 * q
@[inherit_doc R.UPB_P_FRAG_ABANDON] def F.UPB_P_FRAG_ABANDON_count (q : Nat) : Fld := ⟨R.UPB_P_FRAG_ABANDON q, 0, 32⟩
/-- UPB_P_UNUSED: Unused windows, r = 0 to 7 (R165) (07_upstream_bursts). -/
def R.UPB_P_UNUSED (q r : Nat) : Nat := 0x401010 + 4096 * q + 4 * r
@[inherit_doc R.UPB_P_UNUSED] def F.UPB_P_UNUSED_count (q r : Nat) : Fld := ⟨R.UPB_P_UNUSED q r, 0, 32⟩
/-- UPB_P_LOST: Lost bursts: c = 0 HELD, 1 CUT, 2 DARK, 3 DOWN (07_upstream_bursts). -/
def R.UPB_P_LOST (q c : Nat) : Nat := 0x401030 + 4096 * q + 4 * c
@[inherit_doc R.UPB_P_LOST] def F.UPB_P_LOST_count (q c : Nat) : Fld := ⟨R.UPB_P_LOST q c, 0, 32⟩
/-- UPB_CH_OFFSET: Timing offset of CH_n (07_upstream_bursts). -/
def R.UPB_CH_OFFSET (q n : Nat) : Nat := 0x401100 + 4096 * q + 4 * n
@[inherit_doc R.UPB_CH_OFFSET] def F.UPB_CH_OFFSET_offset (q n : Nat) : Fld := ⟨R.UPB_CH_OFFSET q n, 0, 32⟩
/-- UPB_AID_CFG: AID binding (07_upstream_bursts). -/
def R.UPB_AID_CFG (a : Nat) : Nat := 0x410000 + 32 * a
@[inherit_doc R.UPB_AID_CFG] def F.UPB_AID_CFG_aid (a : Nat) : Fld := ⟨R.UPB_AID_CFG a, 0, 16⟩
@[inherit_doc R.UPB_AID_CFG] def F.UPB_AID_CFG_region (a : Nat) : Fld := ⟨R.UPB_AID_CFG a, 16, 2⟩
@[inherit_doc R.UPB_AID_CFG] def F.UPB_AID_CFG_paths (a : Nat) : Fld := ⟨R.UPB_AID_CFG a, 20, 2⟩
@[inherit_doc R.UPB_AID_CFG] def F.UPB_AID_CFG_valid (a : Nat) : Fld := ⟨R.UPB_AID_CFG a, 31, 1⟩
/-- UPB_AID_REP: Last report (07_upstream_bursts). -/
def R.UPB_AID_REP (a : Nat) : Nat := 0x410004 + 32 * a
@[inherit_doc R.UPB_AID_REP] def F.UPB_AID_REP_rep (a : Nat) : Fld := ⟨R.UPB_AID_REP a, 0, 16⟩
@[inherit_doc R.UPB_AID_REP] def F.UPB_AID_REP_tint (a : Nat) : Fld := ⟨R.UPB_AID_REP a, 16, 1⟩
/-- UPB_AID_BYTES: Segment bytes sent (07_upstream_bursts). -/
def R.UPB_AID_BYTES (a : Nat) : Nat := 0x410008 + 32 * a
@[inherit_doc R.UPB_AID_BYTES] def F.UPB_AID_BYTES_count (a : Nat) : Fld := ⟨R.UPB_AID_BYTES a, 0, 64⟩
/-- UPB_AID_WIN: Windows served (07_upstream_bursts). -/
def R.UPB_AID_WIN (a : Nat) : Nat := 0x410010 + 32 * a
@[inherit_doc R.UPB_AID_WIN] def F.UPB_AID_WIN_count (a : Nat) : Fld := ⟨R.UPB_AID_WIN a, 0, 32⟩
/-- UPB_AID_EMPTY: Report-only windows (07_upstream_bursts). -/
def R.UPB_AID_EMPTY (a : Nat) : Nat := 0x410014 + 32 * a
@[inherit_doc R.UPB_AID_EMPTY] def F.UPB_AID_EMPTY_count (a : Nat) : Fld := ⟨R.UPB_AID_EMPTY a, 0, 32⟩
/-- UPB_AID_LOST: Segments in lost bursts (07_upstream_bursts). -/
def R.UPB_AID_LOST (a : Nat) : Nat := 0x410018 + 32 * a
@[inherit_doc R.UPB_AID_LOST] def F.UPB_AID_LOST_count (a : Nat) : Fld := ⟨R.UPB_AID_LOST a, 0, 32⟩
/-- UPB_TRIB_CFG: Standing window t (07_upstream_bursts). -/
def R.UPB_TRIB_CFG (t : Nat) : Nat := 0x430000 + 32 * t
@[inherit_doc R.UPB_TRIB_CFG] def F.UPB_TRIB_CFG_first_cw (t : Nat) : Fld := ⟨R.UPB_TRIB_CFG t, 0, 13⟩
@[inherit_doc R.UPB_TRIB_CFG] def F.UPB_TRIB_CFG_chan (t : Nat) : Fld := ⟨R.UPB_TRIB_CFG t, 13, 6⟩
@[inherit_doc R.UPB_TRIB_CFG] def F.UPB_TRIB_CFG_path (t : Nat) : Fld := ⟨R.UPB_TRIB_CFG t, 19, 1⟩
@[inherit_doc R.UPB_TRIB_CFG] def F.UPB_TRIB_CFG_rate (t : Nat) : Fld := ⟨R.UPB_TRIB_CFG t, 20, 1⟩
@[inherit_doc R.UPB_TRIB_CFG] def F.UPB_TRIB_CFG_valid (t : Nat) : Fld := ⟨R.UPB_TRIB_CFG t, 21, 1⟩
/-- UPB_TRIB_PORT: Client port (07_upstream_bursts). -/
def R.UPB_TRIB_PORT (t : Nat) : Nat := 0x430004 + 32 * t
@[inherit_doc R.UPB_TRIB_PORT] def F.UPB_TRIB_PORT_port (t : Nat) : Fld := ⟨R.UPB_TRIB_PORT t, 0, 7⟩
/-- UPB_TRIB_STATUS: Pointer and state (07_upstream_bursts). -/
def R.UPB_TRIB_STATUS (t : Nat) : Nat := 0x430008 + 32 * t
@[inherit_doc R.UPB_TRIB_STATUS] def F.UPB_TRIB_STATUS_ptr (t : Nat) : Fld := ⟨R.UPB_TRIB_STATUS t, 0, 14⟩
@[inherit_doc R.UPB_TRIB_STATUS] def F.UPB_TRIB_STATUS_ais_t (t : Nat) : Fld := ⟨R.UPB_TRIB_STATUS t, 15, 1⟩
/-- UPB_TRIB_PJ: Positive justifications (07_upstream_bursts). -/
def R.UPB_TRIB_PJ (t : Nat) : Nat := 0x43000c + 32 * t
@[inherit_doc R.UPB_TRIB_PJ] def F.UPB_TRIB_PJ_count (t : Nat) : Fld := ⟨R.UPB_TRIB_PJ t, 0, 32⟩
/-- UPB_TRIB_NJ: Negative justifications (07_upstream_bursts). -/
def R.UPB_TRIB_NJ (t : Nat) : Nat := 0x430010 + 32 * t
@[inherit_doc R.UPB_TRIB_NJ] def F.UPB_TRIB_NJ_count (t : Nat) : Fld := ⟨R.UPB_TRIB_NJ t, 0, 32⟩
/-- BND_POOL: Pool sizes (08_bonding). -/
def R.BND_POOL : Nat := 0x500000
@[inherit_doc R.BND_POOL] def F.BND_POOL_size_a : Fld := ⟨R.BND_POOL, 0, 5⟩
@[inherit_doc R.BND_POOL] def F.BND_POOL_size_b : Fld := ⟨R.BND_POOL, 8, 5⟩
/-- BND_POOL_USE: Pool in use (08_bonding). -/
def R.BND_POOL_USE : Nat := 0x500004
@[inherit_doc R.BND_POOL_USE] def F.BND_POOL_USE_a : Fld := ⟨R.BND_POOL_USE, 0, 16⟩
@[inherit_doc R.BND_POOL_USE] def F.BND_POOL_USE_b : Fld := ⟨R.BND_POOL_USE, 16, 16⟩
/-- BND_POOL_PEAK: Peak use (08_bonding). -/
def R.BND_POOL_PEAK : Nat := 0x500008
@[inherit_doc R.BND_POOL_PEAK] def F.BND_POOL_PEAK_a : Fld := ⟨R.BND_POOL_PEAK, 0, 16⟩
@[inherit_doc R.BND_POOL_PEAK] def F.BND_POOL_PEAK_b : Fld := ⟨R.BND_POOL_PEAK, 16, 16⟩
/-- BND_EVENT: Sticky events (08_bonding). -/
def R.BND_EVENT : Nat := 0x50000c
@[inherit_doc R.BND_EVENT] def F.BND_EVENT_gap_skip : Fld := ⟨R.BND_EVENT, 0, 1⟩
@[inherit_doc R.BND_EVENT] def F.BND_EVENT_late : Fld := ⟨R.BND_EVENT, 1, 1⟩
@[inherit_doc R.BND_EVENT] def F.BND_EVENT_overflow : Fld := ⟨R.BND_EVENT, 2, 1⟩
@[inherit_doc R.BND_EVENT] def F.BND_EVENT_resync : Fld := ⟨R.BND_EVENT, 3, 1⟩
@[inherit_doc R.BND_EVENT] def F.BND_EVENT_member_down : Fld := ⟨R.BND_EVENT, 4, 1⟩
@[inherit_doc R.BND_EVENT] def F.BND_EVENT_member_up : Fld := ⟨R.BND_EVENT, 5, 1⟩
@[inherit_doc R.BND_EVENT] def F.BND_EVENT_nonmember : Fld := ⟨R.BND_EVENT, 6, 1⟩
/-- BND_INT_EN: Interrupt enables (08_bonding). -/
def R.BND_INT_EN : Nat := 0x500010
@[inherit_doc R.BND_INT_EN] def F.BND_INT_EN_enable : Fld := ⟨R.BND_INT_EN, 0, 7⟩
/-- BND_DISC: Discards with code 0x64 + k, k = 0 to 3 (08_bonding). -/
def R.BND_DISC (k : Nat) : Nat := 0x500020 + 8 * k
@[inherit_doc R.BND_DISC] def F.BND_DISC_count (k : Nat) : Fld := ⟨R.BND_DISC k, 0, 64⟩
/-- BND_DG_MEMBERS: Members (08_bonding). -/
def R.BND_DG_MEMBERS (q g : Nat) : Nat := 0x510000 + 2048 * q + 64 * g
@[inherit_doc R.BND_DG_MEMBERS] def F.BND_DG_MEMBERS_members (q g : Nat) : Fld := ⟨R.BND_DG_MEMBERS q g, 0, 64⟩
/-- BND_DG_STATUS: Group state (08_bonding). -/
def R.BND_DG_STATUS (q g : Nat) : Nat := 0x510008 + 2048 * q + 64 * g
@[inherit_doc R.BND_DG_STATUS] def F.BND_DG_STATUS_valid (q g : Nat) : Fld := ⟨R.BND_DG_STATUS q g, 0, 1⟩
@[inherit_doc R.BND_DG_STATUS] def F.BND_DG_STATUS_synced (q g : Nat) : Fld := ⟨R.BND_DG_STATUS q g, 1, 1⟩
@[inherit_doc R.BND_DG_STATUS] def F.BND_DG_STATUS_gap (q g : Nat) : Fld := ⟨R.BND_DG_STATUS q g, 2, 1⟩
@[inherit_doc R.BND_DG_STATUS] def F.BND_DG_STATUS_n_down (q g : Nat) : Fld := ⟨R.BND_DG_STATUS q g, 8, 7⟩
@[inherit_doc R.BND_DG_STATUS] def F.BND_DG_STATUS_skew_max (q g : Nat) : Fld := ⟨R.BND_DG_STATUS q g, 16, 5⟩
/-- BND_DG_RP: Release point (08_bonding). -/
def R.BND_DG_RP (q g : Nat) : Nat := 0x51000c + 2048 * q + 64 * g
@[inherit_doc R.BND_DG_RP] def F.BND_DG_RP_rp (q g : Nat) : Fld := ⟨R.BND_DG_RP q g, 0, 32⟩
/-- BND_DG_DOWN: Members in defect (08_bonding). -/
def R.BND_DG_DOWN (q g : Nat) : Nat := 0x510010 + 2048 * q + 64 * g
@[inherit_doc R.BND_DG_DOWN] def F.BND_DG_DOWN_down (q g : Nat) : Fld := ⟨R.BND_DG_DOWN q g, 0, 64⟩
/-- BND_DG_SEG: Segments released (08_bonding). -/
def R.BND_DG_SEG (q g : Nat) : Nat := 0x510018 + 2048 * q + 64 * g
@[inherit_doc R.BND_DG_SEG] def F.BND_DG_SEG_count (q g : Nat) : Fld := ⟨R.BND_DG_SEG q g, 0, 64⟩
/-- BND_DG_MISSING: Skipped values (08_bonding). -/
def R.BND_DG_MISSING (q g : Nat) : Nat := 0x510020 + 2048 * q + 64 * g
@[inherit_doc R.BND_DG_MISSING] def F.BND_DG_MISSING_count (q g : Nat) : Fld := ⟨R.BND_DG_MISSING q g, 0, 32⟩
/-- BND_DG_LATE: Late segments (08_bonding). -/
def R.BND_DG_LATE (q g : Nat) : Nat := 0x510024 + 2048 * q + 64 * g
@[inherit_doc R.BND_DG_LATE] def F.BND_DG_LATE_count (q g : Nat) : Fld := ⟨R.BND_DG_LATE q g, 0, 32⟩
/-- BND_DG_RESYNC: Resyncs (08_bonding). -/
def R.BND_DG_RESYNC (q g : Nat) : Nat := 0x510028 + 2048 * q + 64 * g
@[inherit_doc R.BND_DG_RESYNC] def F.BND_DG_RESYNC_count (q g : Nat) : Fld := ⟨R.BND_DG_RESYNC q g, 0, 32⟩
/-- BND_DG_SKEW: Largest lag (08_bonding). -/
def R.BND_DG_SKEW (q g : Nat) : Nat := 0x51002c + 2048 * q + 64 * g
@[inherit_doc R.BND_DG_SKEW] def F.BND_DG_SKEW_cw (q g : Nat) : Fld := ⟨R.BND_DG_SKEW q g, 0, 16⟩
/-- BND_DG_USE: Buffered bytes (08_bonding). -/
def R.BND_DG_USE (q g : Nat) : Nat := 0x510030 + 2048 * q + 64 * g
@[inherit_doc R.BND_DG_USE] def F.BND_DG_USE_use (q g : Nat) : Fld := ⟨R.BND_DG_USE q g, 0, 16⟩
/-- BND_UG_MEMBERS: Members (08_bonding). -/
def R.BND_UG_MEMBERS (q g : Nat) : Nat := 0x520000 + 2048 * q + 64 * g
@[inherit_doc R.BND_UG_MEMBERS] def F.BND_UG_MEMBERS_members (q g : Nat) : Fld := ⟨R.BND_UG_MEMBERS q g, 0, 64⟩
/-- BND_UG_STATUS: Group state (08_bonding). -/
def R.BND_UG_STATUS (q g : Nat) : Nat := 0x520008 + 2048 * q + 64 * g
@[inherit_doc R.BND_UG_STATUS] def F.BND_UG_STATUS_valid (q g : Nat) : Fld := ⟨R.BND_UG_STATUS q g, 0, 1⟩
@[inherit_doc R.BND_UG_STATUS] def F.BND_UG_STATUS_aids (q g : Nat) : Fld := ⟨R.BND_UG_STATUS q g, 16, 10⟩
/-- BND_UG_NEXT: Next bseq (08_bonding). -/
def R.BND_UG_NEXT (q g : Nat) : Nat := 0x52000c + 2048 * q + 64 * g
@[inherit_doc R.BND_UG_NEXT] def F.BND_UG_NEXT_bseq (q g : Nat) : Fld := ⟨R.BND_UG_NEXT q g, 0, 32⟩
/-- BND_UG_SEG: Segments sent (08_bonding). -/
def R.BND_UG_SEG (q g : Nat) : Nat := 0x520010 + 2048 * q + 64 * g
@[inherit_doc R.BND_UG_SEG] def F.BND_UG_SEG_count (q g : Nat) : Fld := ⟨R.BND_UG_SEG q g, 0, 64⟩
/-- BND_UG_WIN: Windows filled (08_bonding). -/
def R.BND_UG_WIN (q g : Nat) : Nat := 0x520018 + 2048 * q + 64 * g
@[inherit_doc R.BND_UG_WIN] def F.BND_UG_WIN_count (q g : Nat) : Fld := ⟨R.BND_UG_WIN q g, 0, 32⟩
/-- BND_UG_NONMEMBER: Non-member windows (08_bonding). -/
def R.BND_UG_NONMEMBER (q g : Nat) : Nat := 0x52001c + 2048 * q + 64 * g
@[inherit_doc R.BND_UG_NONMEMBER] def F.BND_UG_NONMEMBER_count (q g : Nat) : Fld := ⟨R.BND_UG_NONMEMBER q g, 0, 32⟩
/-- BND_AID_GROUP: Upstream group of AID index a (08_bonding). -/
def R.BND_AID_GROUP (a : Nat) : Nat := 0x530000 + 4 * a
@[inherit_doc R.BND_AID_GROUP] def F.BND_AID_GROUP_group_a (a : Nat) : Fld := ⟨R.BND_AID_GROUP a, 0, 5⟩
@[inherit_doc R.BND_AID_GROUP] def F.BND_AID_GROUP_valid_a (a : Nat) : Fld := ⟨R.BND_AID_GROUP a, 5, 1⟩
@[inherit_doc R.BND_AID_GROUP] def F.BND_AID_GROUP_group_b (a : Nat) : Fld := ⟨R.BND_AID_GROUP a, 8, 5⟩
@[inherit_doc R.BND_AID_GROUP] def F.BND_AID_GROUP_valid_b (a : Nat) : Fld := ⟨R.BND_AID_GROUP a, 13, 1⟩
/-- PTH_CTRL: Switch commands (09_dual_path). -/
def R.PTH_CTRL : Nat := 0x600000
@[inherit_doc R.PTH_CTRL] def F.PTH_CTRL_force_a : Fld := ⟨R.PTH_CTRL, 0, 1⟩
@[inherit_doc R.PTH_CTRL] def F.PTH_CTRL_force_b : Fld := ⟨R.PTH_CTRL, 1, 1⟩
@[inherit_doc R.PTH_CTRL] def F.PTH_CTRL_lockout : Fld := ⟨R.PTH_CTRL, 2, 1⟩
@[inherit_doc R.PTH_CTRL] def F.PTH_CTRL_clear : Fld := ⟨R.PTH_CTRL, 3, 1⟩
/-- PTH_STATUS: Switch state and merge membership (09_dual_path). -/
def R.PTH_STATUS : Nat := 0x600004
@[inherit_doc R.PTH_STATUS] def F.PTH_STATUS_state : Fld := ⟨R.PTH_STATUS, 0, 3⟩
@[inherit_doc R.PTH_STATUS] def F.PTH_STATUS_fail_a : Fld := ⟨R.PTH_STATUS, 4, 1⟩
@[inherit_doc R.PTH_STATUS] def F.PTH_STATUS_fail_b : Fld := ⟨R.PTH_STATUS, 5, 1⟩
@[inherit_doc R.PTH_STATUS] def F.PTH_STATUS_resend : Fld := ⟨R.PTH_STATUS, 6, 1⟩
@[inherit_doc R.PTH_STATUS] def F.PTH_STATUS_blocked : Fld := ⟨R.PTH_STATUS, 7, 1⟩
/-- PTH_CFG: Window and restore (09_dual_path). -/
def R.PTH_CFG : Nat := 0x600008
@[inherit_doc R.PTH_CFG] def F.PTH_CFG_win : Fld := ⟨R.PTH_CFG, 0, 6⟩
@[inherit_doc R.PTH_CFG] def F.PTH_CFG_revert : Fld := ⟨R.PTH_CFG, 8, 1⟩
@[inherit_doc R.PTH_CFG] def F.PTH_CFG_wtr : Fld := ⟨R.PTH_CFG, 16, 16⟩
/-- PTH_TIMERS: Hold-off and retention (09_dual_path). -/
def R.PTH_TIMERS : Nat := 0x60000c
@[inherit_doc R.PTH_TIMERS] def F.PTH_TIMERS_holdoff : Fld := ⟨R.PTH_TIMERS, 0, 16⟩
@[inherit_doc R.PTH_TIMERS] def F.PTH_TIMERS_ret_win : Fld := ⟨R.PTH_TIMERS, 16, 6⟩
@[inherit_doc R.PTH_TIMERS] def F.PTH_TIMERS_dl_pool : Fld := ⟨R.PTH_TIMERS, 24, 6⟩
/-- PTH_TRIG_A: Trigger mask, path A (09_dual_path). -/
def R.PTH_TRIG_A : Nat := 0x600010
@[inherit_doc R.PTH_TRIG_A] def F.PTH_TRIG_A_mask : Fld := ⟨R.PTH_TRIG_A, 0, 64⟩
/-- PTH_TRIG_B: Trigger mask, path B (09_dual_path). -/
def R.PTH_TRIG_B : Nat := 0x600018
@[inherit_doc R.PTH_TRIG_B] def F.PTH_TRIG_B_mask : Fld := ⟨R.PTH_TRIG_B, 0, 64⟩
/-- PTH_SKEW: Live path skew (09_dual_path). -/
def R.PTH_SKEW : Nat := 0x600020
@[inherit_doc R.PTH_SKEW] def F.PTH_SKEW_skew : Fld := ⟨R.PTH_SKEW, 0, 32⟩
/-- PTH_STORE_USE: Merge and copy store in use (09_dual_path). -/
def R.PTH_STORE_USE : Nat := 0x600024
@[inherit_doc R.PTH_STORE_USE] def F.PTH_STORE_USE_merge : Fld := ⟨R.PTH_STORE_USE, 0, 16⟩
@[inherit_doc R.PTH_STORE_USE] def F.PTH_STORE_USE_copy : Fld := ⟨R.PTH_STORE_USE, 16, 16⟩
/-- PTH_SWITCHES: Switches made (09_dual_path). -/
def R.PTH_SWITCHES : Nat := 0x600028
@[inherit_doc R.PTH_SWITCHES] def F.PTH_SWITCHES_count : Fld := ⟨R.PTH_SWITCHES, 0, 32⟩
/-- PTH_LAST_CAUSE: Cause of the last switch (09_dual_path). -/
def R.PTH_LAST_CAUSE : Nat := 0x60002c
@[inherit_doc R.PTH_LAST_CAUSE] def F.PTH_LAST_CAUSE_cause : Fld := ⟨R.PTH_LAST_CAUSE, 0, 4⟩
@[inherit_doc R.PTH_LAST_CAUSE] def F.PTH_LAST_CAUSE_to : Fld := ⟨R.PTH_LAST_CAUSE, 4, 2⟩
/-- PTH_LAST_FN: FN of the last switch (09_dual_path). -/
def R.PTH_LAST_FN : Nat := 0x600030
@[inherit_doc R.PTH_LAST_FN] def F.PTH_LAST_FN_fn : Fld := ⟨R.PTH_LAST_FN, 0, 48⟩
/-- PTH_SKIP_FULL: Skips forced by a full store (09_dual_path). -/
def R.PTH_SKIP_FULL : Nat := 0x600038
@[inherit_doc R.PTH_SKIP_FULL] def F.PTH_SKIP_FULL_count : Fld := ⟨R.PTH_SKIP_FULL, 0, 32⟩
/-- PTH_ACK_BAD: Acknowledgements beyond the last value (09_dual_path). -/
def R.PTH_ACK_BAD : Nat := 0x60003c
@[inherit_doc R.PTH_ACK_BAD] def F.PTH_ACK_BAD_count : Fld := ⟨R.PTH_ACK_BAD, 0, 32⟩
/-- PTH_DL_DROP: Dual-launch copies discarded (09_dual_path). -/
def R.PTH_DL_DROP : Nat := 0x600040
@[inherit_doc R.PTH_DL_DROP] def F.PTH_DL_DROP_count : Fld := ⟨R.PTH_DL_DROP, 0, 32⟩
/-- PTH_STBY_WIN: Report-only standby windows (09_dual_path). -/
def R.PTH_STBY_WIN : Nat := 0x600044
@[inherit_doc R.PTH_STBY_WIN] def F.PTH_STBY_WIN_count : Fld := ⟨R.PTH_STBY_WIN, 0, 32⟩
/-- PTH_EVENT: Sticky events (09_dual_path). -/
def R.PTH_EVENT : Nat := 0x600048
@[inherit_doc R.PTH_EVENT] def F.PTH_EVENT_switch : Fld := ⟨R.PTH_EVENT, 0, 1⟩
@[inherit_doc R.PTH_EVENT] def F.PTH_EVENT_blocked : Fld := ⟨R.PTH_EVENT, 1, 1⟩
@[inherit_doc R.PTH_EVENT] def F.PTH_EVENT_skew : Fld := ⟨R.PTH_EVENT, 2, 1⟩
@[inherit_doc R.PTH_EVENT] def F.PTH_EVENT_expire : Fld := ⟨R.PTH_EVENT, 3, 1⟩
@[inherit_doc R.PTH_EVENT] def F.PTH_EVENT_dl_drop : Fld := ⟨R.PTH_EVENT, 4, 1⟩
@[inherit_doc R.PTH_EVENT] def F.PTH_EVENT_skip_full : Fld := ⟨R.PTH_EVENT, 5, 1⟩
@[inherit_doc R.PTH_EVENT] def F.PTH_EVENT_ack_bad : Fld := ⟨R.PTH_EVENT, 6, 1⟩
/-- PTH_INT_EN: Interrupt enables (09_dual_path). -/
def R.PTH_INT_EN : Nat := 0x60004c
@[inherit_doc R.PTH_INT_EN] def F.PTH_INT_EN_enable : Fld := ⟨R.PTH_INT_EN, 0, 7⟩
/-- PTH_DISC: Discards with code 0x60 + k, k = 0 to 3 (09_dual_path). -/
def R.PTH_DISC (k : Nat) : Nat := 0x600060 + 8 * k
@[inherit_doc R.PTH_DISC] def F.PTH_DISC_count (k : Nat) : Fld := ⟨R.PTH_DISC k, 0, 64⟩
/-- PTH_MG_STATUS: Group state (09_dual_path). -/
def R.PTH_MG_STATUS (g : Nat) : Nat := 0x610000 + 32 * g
@[inherit_doc R.PTH_MG_STATUS] def F.PTH_MG_STATUS_synced (g : Nat) : Fld := ⟨R.PTH_MG_STATUS g, 0, 1⟩
@[inherit_doc R.PTH_MG_STATUS] def F.PTH_MG_STATUS_gap (g : Nat) : Fld := ⟨R.PTH_MG_STATUS g, 1, 1⟩
@[inherit_doc R.PTH_MG_STATUS] def F.PTH_MG_STATUS_in_a (g : Nat) : Fld := ⟨R.PTH_MG_STATUS g, 2, 1⟩
@[inherit_doc R.PTH_MG_STATUS] def F.PTH_MG_STATUS_in_b (g : Nat) : Fld := ⟨R.PTH_MG_STATUS g, 3, 1⟩
/-- PTH_MG_RP: Release point (09_dual_path). -/
def R.PTH_MG_RP (g : Nat) : Nat := 0x610004 + 32 * g
@[inherit_doc R.PTH_MG_RP] def F.PTH_MG_RP_rp (g : Nat) : Fld := ⟨R.PTH_MG_RP g, 0, 32⟩
/-- PTH_MG_FIRST_A: Values released from path A (09_dual_path). -/
def R.PTH_MG_FIRST_A (g : Nat) : Nat := 0x610008 + 32 * g
@[inherit_doc R.PTH_MG_FIRST_A] def F.PTH_MG_FIRST_A_count (g : Nat) : Fld := ⟨R.PTH_MG_FIRST_A g, 0, 64⟩
/-- PTH_MG_FIRST_B: Values released from path B (09_dual_path). -/
def R.PTH_MG_FIRST_B (g : Nat) : Nat := 0x610010 + 32 * g
@[inherit_doc R.PTH_MG_FIRST_B] def F.PTH_MG_FIRST_B_count (g : Nat) : Fld := ⟨R.PTH_MG_FIRST_B g, 0, 64⟩
/-- PTH_MG_SKIP: Skipped values (09_dual_path). -/
def R.PTH_MG_SKIP (g : Nat) : Nat := 0x610018 + 32 * g
@[inherit_doc R.PTH_MG_SKIP] def F.PTH_MG_SKIP_count (g : Nat) : Fld := ⟨R.PTH_MG_SKIP g, 0, 32⟩
/-- PTH_AID_MODE: Mode (09_dual_path). -/
def R.PTH_AID_MODE (a : Nat) : Nat := 0x620000 + 32 * a
@[inherit_doc R.PTH_AID_MODE] def F.PTH_AID_MODE_mode (a : Nat) : Fld := ⟨R.PTH_AID_MODE a, 0, 2⟩
/-- PTH_AID_NEXT: Next mseq (09_dual_path). -/
def R.PTH_AID_NEXT (a : Nat) : Nat := 0x620004 + 32 * a
@[inherit_doc R.PTH_AID_NEXT] def F.PTH_AID_NEXT_mseq (a : Nat) : Fld := ⟨R.PTH_AID_NEXT a, 0, 32⟩
/-- PTH_AID_ACK: Acknowledged value (09_dual_path). -/
def R.PTH_AID_ACK (a : Nat) : Nat := 0x620008 + 32 * a
@[inherit_doc R.PTH_AID_ACK] def F.PTH_AID_ACK_ack (a : Nat) : Fld := ⟨R.PTH_AID_ACK a, 0, 32⟩
/-- PTH_AID_RET: Retained bytes (09_dual_path). -/
def R.PTH_AID_RET (a : Nat) : Nat := 0x62000c + 32 * a
@[inherit_doc R.PTH_AID_RET] def F.PTH_AID_RET_bytes (a : Nat) : Fld := ⟨R.PTH_AID_RET a, 0, 64⟩
/-- PTH_AID_RESENT: Segments resent (09_dual_path). -/
def R.PTH_AID_RESENT (a : Nat) : Nat := 0x620014 + 32 * a
@[inherit_doc R.PTH_AID_RESENT] def F.PTH_AID_RESENT_count (a : Nat) : Fld := ⟨R.PTH_AID_RESENT a, 0, 32⟩
/-- PTH_AID_EXPIRE: Segments expired (09_dual_path). -/
def R.PTH_AID_EXPIRE (a : Nat) : Nat := 0x620018 + 32 * a
@[inherit_doc R.PTH_AID_EXPIRE] def F.PTH_AID_EXPIRE_count (a : Nat) : Fld := ⟨R.PTH_AID_EXPIRE a, 0, 32⟩
/-- LCY_CTRL: Bypass and mismatch threshold (10_line_cipher). -/
def R.LCY_CTRL : Nat := 0x700000
@[inherit_doc R.LCY_CTRL] def F.LCY_CTRL_bypass : Fld := ⟨R.LCY_CTRL, 0, 1⟩
@[inherit_doc R.LCY_CTRL] def F.LCY_CTRL_mismatch_thr : Fld := ⟨R.LCY_CTRL, 8, 4⟩
/-- LCY_STATUS: Failed engines (10_line_cipher). -/
def R.LCY_STATUS : Nat := 0x700004
@[inherit_doc R.LCY_STATUS] def F.LCY_STATUS_failed : Fld := ⟨R.LCY_STATUS, 0, 8⟩
/-- LCY_CACHE: Cache entries in use (10_line_cipher). -/
def R.LCY_CACHE : Nat := 0x700008
@[inherit_doc R.LCY_CACHE] def F.LCY_CACHE_used : Fld := ⟨R.LCY_CACHE, 0, 13⟩
/-- LCY_CACHE_HIT: Cache hits (10_line_cipher). -/
def R.LCY_CACHE_HIT : Nat := 0x70000c
@[inherit_doc R.LCY_CACHE_HIT] def F.LCY_CACHE_HIT_count : Fld := ⟨R.LCY_CACHE_HIT, 0, 32⟩
/-- LCY_CACHE_MISS: Derivations (10_line_cipher). -/
def R.LCY_CACHE_MISS : Nat := 0x700010
@[inherit_doc R.LCY_CACHE_MISS] def F.LCY_CACHE_MISS_count : Fld := ⟨R.LCY_CACHE_MISS, 0, 32⟩
/-- LCY_BYPASS: Segments bypassed (10_line_cipher). -/
def R.LCY_BYPASS : Nat := 0x700014
@[inherit_doc R.LCY_BYPASS] def F.LCY_BYPASS_count : Fld := ⟨R.LCY_BYPASS, 0, 64⟩
/-- LCY_EVENT: Sticky events (10_line_cipher). -/
def R.LCY_EVENT : Nat := 0x70001c
@[inherit_doc R.LCY_EVENT] def F.LCY_EVENT_mismatch : Fld := ⟨R.LCY_EVENT, 0, 1⟩
@[inherit_doc R.LCY_EVENT] def F.LCY_EVENT_engine_fail : Fld := ⟨R.LCY_EVENT, 1, 1⟩
@[inherit_doc R.LCY_EVENT] def F.LCY_EVENT_amber : Fld := ⟨R.LCY_EVENT, 2, 1⟩
@[inherit_doc R.LCY_EVENT] def F.LCY_EVENT_exhausted : Fld := ⟨R.LCY_EVENT, 3, 1⟩
@[inherit_doc R.LCY_EVENT] def F.LCY_EVENT_rekey : Fld := ⟨R.LCY_EVENT, 4, 1⟩
@[inherit_doc R.LCY_EVENT] def F.LCY_EVENT_rekey_refused : Fld := ⟨R.LCY_EVENT, 5, 1⟩
/-- LCY_INT_EN: Interrupt enables (10_line_cipher). -/
def R.LCY_INT_EN : Nat := 0x700020
@[inherit_doc R.LCY_INT_EN] def F.LCY_INT_EN_enable : Fld := ⟨R.LCY_INT_EN, 0, 6⟩
/-- LCY_DISC: Discards with code 0x50 + k, k = 0 to 7 (10_line_cipher). -/
def R.LCY_DISC (k : Nat) : Nat := 0x700040 + 8 * k
@[inherit_doc R.LCY_DISC] def F.LCY_DISC_count (k : Nat) : Fld := ⟨R.LCY_DISC k, 0, 64⟩
/-- LCY_CTX_EPOCH: Epoch in use (10_line_cipher). -/
def R.LCY_CTX_EPOCH (q d i : Nat) : Nat := 0x701000 + 256 * q + 128 * d + 32 * i
@[inherit_doc R.LCY_CTX_EPOCH] def F.LCY_CTX_EPOCH_fn (q d i : Nat) : Fld := ⟨R.LCY_CTX_EPOCH q d i, 0, 48⟩
/-- LCY_CTX_NEXT: Epoch set by REKEY (10_line_cipher). -/
def R.LCY_CTX_NEXT (q d i : Nat) : Nat := 0x701008 + 256 * q + 128 * d + 32 * i
@[inherit_doc R.LCY_CTX_NEXT] def F.LCY_CTX_NEXT_fn (q d i : Nat) : Fld := ⟨R.LCY_CTX_NEXT q d i, 0, 48⟩
/-- LCY_CTX_STATE: Context state (10_line_cipher). -/
def R.LCY_CTX_STATE (q d i : Nat) : Nat := 0x701010 + 256 * q + 128 * d + 32 * i
@[inherit_doc R.LCY_CTX_STATE] def F.LCY_CTX_STATE_valid (q d i : Nat) : Fld := ⟨R.LCY_CTX_STATE q d i, 0, 1⟩
@[inherit_doc R.LCY_CTX_STATE] def F.LCY_CTX_STATE_amber (q d i : Nat) : Fld := ⟨R.LCY_CTX_STATE q d i, 1, 1⟩
@[inherit_doc R.LCY_CTX_STATE] def F.LCY_CTX_STATE_exhausted (q d i : Nat) : Fld := ⟨R.LCY_CTX_STATE q d i, 2, 1⟩
@[inherit_doc R.LCY_CTX_STATE] def F.LCY_CTX_STATE_next_valid (q d i : Nat) : Fld := ⟨R.LCY_CTX_STATE q d i, 3, 1⟩
@[inherit_doc R.LCY_CTX_STATE] def F.LCY_CTX_STATE_f (q d i : Nat) : Fld := ⟨R.LCY_CTX_STATE q d i, 4, 26⟩
/-- LCY_TX_IDX: Upstream sending index (10_line_cipher). -/
def R.LCY_TX_IDX (q : Nat) : Nat := 0x701200 + 4 * q
@[inherit_doc R.LCY_TX_IDX] def F.LCY_TX_IDX_idx (q : Nat) : Fld := ⟨R.LCY_TX_IDX q, 0, 2⟩
/-- LCY_ENG_STATUS: Engine state (10_line_cipher). -/
def R.LCY_ENG_STATUS (e : Nat) : Nat := 0x702000 + 32 * e
@[inherit_doc R.LCY_ENG_STATUS] def F.LCY_ENG_STATUS_failed (e : Nat) : Fld := ⟨R.LCY_ENG_STATUS e, 0, 1⟩
@[inherit_doc R.LCY_ENG_STATUS] def F.LCY_ENG_STATUS_retest_busy (e : Nat) : Fld := ⟨R.LCY_ENG_STATUS e, 1, 1⟩
@[inherit_doc R.LCY_ENG_STATUS] def F.LCY_ENG_STATUS_level (e : Nat) : Fld := ⟨R.LCY_ENG_STATUS e, 4, 16⟩
/-- LCY_ENG_CTRL: Retest (10_line_cipher). -/
def R.LCY_ENG_CTRL (e : Nat) : Nat := 0x702004 + 32 * e
@[inherit_doc R.LCY_ENG_CTRL] def F.LCY_ENG_CTRL_retest (e : Nat) : Fld := ⟨R.LCY_ENG_CTRL e, 0, 1⟩
/-- LCY_ENG_MISMATCH: Mismatches (10_line_cipher). -/
def R.LCY_ENG_MISMATCH (e : Nat) : Nat := 0x702008 + 32 * e
@[inherit_doc R.LCY_ENG_MISMATCH] def F.LCY_ENG_MISMATCH_count (e : Nat) : Fld := ⟨R.LCY_ENG_MISMATCH e, 0, 32⟩
/-- LCY_ENG_SHORT: Frames deferred by booking (10_line_cipher). -/
def R.LCY_ENG_SHORT (e : Nat) : Nat := 0x70200c + 32 * e
@[inherit_doc R.LCY_ENG_SHORT] def F.LCY_ENG_SHORT_count (e : Nat) : Fld := ⟨R.LCY_ENG_SHORT e, 0, 32⟩
/-- KST_SEL: Slot for the next command (10_line_cipher). -/
def R.KST_SEL : Nat := 0x800000
@[inherit_doc R.KST_SEL] def F.KST_SEL_slot : Fld := ⟨R.KST_SEL, 0, 8⟩
/-- KST_CMD: Write or erase (10_line_cipher). -/
def R.KST_CMD : Nat := 0x800004
@[inherit_doc R.KST_CMD] def F.KST_CMD_write : Fld := ⟨R.KST_CMD, 0, 1⟩
@[inherit_doc R.KST_CMD] def F.KST_CMD_erase : Fld := ⟨R.KST_CMD, 1, 1⟩
/-- KST_RESULT: Result of the last command (10_line_cipher). -/
def R.KST_RESULT : Nat := 0x800008
@[inherit_doc R.KST_RESULT] def F.KST_RESULT_code : Fld := ⟨R.KST_RESULT, 0, 2⟩
/-- KST_KEY: Key word w, w = 0 to 7 (10_line_cipher). -/
def R.KST_KEY (w : Nat) : Nat := 0x800020 + 4 * w
@[inherit_doc R.KST_KEY] def F.KST_KEY_bits (w : Nat) : Fld := ⟨R.KST_KEY w, 0, 32⟩
/-- KST_SLOT_STATUS: State of slot s (10_line_cipher). -/
def R.KST_SLOT_STATUS (s : Nat) : Nat := 0x800400 + 4 * s
@[inherit_doc R.KST_SLOT_STATUS] def F.KST_SLOT_STATUS_valid (s : Nat) : Fld := ⟨R.KST_SLOT_STATUS s, 0, 1⟩
@[inherit_doc R.KST_SLOT_STATUS] def F.KST_SLOT_STATUS_slot_idle (s : Nat) : Fld := ⟨R.KST_SLOT_STATUS s, 1, 1⟩
/-- KST_SLOT_GEN: Generation of slot s (10_line_cipher). -/
def R.KST_SLOT_GEN (s : Nat) : Nat := 0x800800 + 4 * s
@[inherit_doc R.KST_SLOT_GEN] def F.KST_SLOT_GEN_gen (s : Nat) : Fld := ⟨R.KST_SLOT_GEN s, 0, 32⟩

end Sys2Proof.Machine
end

