-- ==== Sys2Proof/Machine/RegsPacket.lean ====
section
/-!
DEFINITION. Where the registers of the packet regions lie in BAR0 (R28) and where each field stands in its register,
by the register tables of the block chapters. `R.X` is a register's BAR0 offset, `F.X_f` the place of its field `f`;
a packet-region register takes its region `n` first.
-/
namespace Sys2Proof.Machine

/-- CMC_LANE_EN: Lane enables (11_client_ports). -/
def R.CMC_LANE_EN (n : Nat) : Nat := 0x1000000 + 16777216 * n
@[inherit_doc R.CMC_LANE_EN] def F.CMC_LANE_EN_en (n : Nat) : Fld := ⟨R.CMC_LANE_EN n, 0, 32⟩
/-- CMC_PORT_SEAL: Seal for the port group (11_client_ports). -/
def R.CMC_PORT_SEAL (n : Nat) : Nat := 0x1000004 + 16777216 * n
@[inherit_doc R.CMC_PORT_SEAL] def F.CMC_PORT_SEAL_seal (n : Nat) : Fld := ⟨R.CMC_PORT_SEAL n, 0, 1⟩
@[inherit_doc R.CMC_PORT_SEAL] def F.CMC_PORT_SEAL_abandon (n : Nat) : Fld := ⟨R.CMC_PORT_SEAL n, 1, 1⟩
@[inherit_doc R.CMC_PORT_SEAL] def F.CMC_PORT_SEAL_state (n : Nat) : Fld := ⟨R.CMC_PORT_SEAL n, 4, 2⟩
@[inherit_doc R.CMC_PORT_SEAL] def F.CMC_PORT_SEAL_result (n : Nat) : Fld := ⟨R.CMC_PORT_SEAL n, 8, 4⟩
@[inherit_doc R.CMC_PORT_SEAL] def F.CMC_PORT_SEAL_field (n : Nat) : Fld := ⟨R.CMC_PORT_SEAL n, 16, 8⟩
@[inherit_doc R.CMC_PORT_SEAL] def F.CMC_PORT_SEAL_rule (n : Nat) : Fld := ⟨R.CMC_PORT_SEAL n, 24, 8⟩
/-- CMC_SEAL_DROP: Frames discarded by seals (11_client_ports). -/
def R.CMC_SEAL_DROP (n : Nat) : Nat := 0x1000008 + 16777216 * n
@[inherit_doc R.CMC_SEAL_DROP] def F.CMC_SEAL_DROP_count (n : Nat) : Fld := ⟨R.CMC_SEAL_DROP n, 0, 32⟩
/-- CMC_DISC: Discards with code k, k = 1 to 8 (11_client_ports). -/
def R.CMC_DISC (n k : Nat) : Nat := 0x1000040 + 16777216 * n + 8 * k
@[inherit_doc R.CMC_DISC] def F.CMC_DISC_count (n k : Nat) : Fld := ⟨R.CMC_DISC n k, 0, 64⟩
/-- CMC_PORT_CFG: Width, rate, mode (11_client_ports). -/
def R.CMC_PORT_CFG (n l : Nat) : Nat := 0x1001000 + 16777216 * n + 64 * l
@[inherit_doc R.CMC_PORT_CFG] def F.CMC_PORT_CFG_width (n l : Nat) : Fld := ⟨R.CMC_PORT_CFG n l, 0, 4⟩
@[inherit_doc R.CMC_PORT_CFG] def F.CMC_PORT_CFG_rate (n l : Nat) : Fld := ⟨R.CMC_PORT_CFG n l, 4, 1⟩
@[inherit_doc R.CMC_PORT_CFG] def F.CMC_PORT_CFG_mode (n l : Nat) : Fld := ⟨R.CMC_PORT_CFG n l, 5, 1⟩
/-- CMC_PORT_MAC: MAXLEN and padding (11_client_ports). -/
def R.CMC_PORT_MAC (n l : Nat) : Nat := 0x1001004 + 16777216 * n + 64 * l
@[inherit_doc R.CMC_PORT_MAC] def F.CMC_PORT_MAC_maxlen (n l : Nat) : Fld := ⟨R.CMC_PORT_MAC n l, 0, 15⟩
@[inherit_doc R.CMC_PORT_MAC] def F.CMC_PORT_MAC_pad_en (n l : Nat) : Fld := ⟨R.CMC_PORT_MAC n l, 16, 1⟩
/-- CMC_PORT_FC: Flow control (11_client_ports). -/
def R.CMC_PORT_FC (n l : Nat) : Nat := 0x1001008 + 16777216 * n + 64 * l
@[inherit_doc R.CMC_PORT_FC] def F.CMC_PORT_FC_mode (n l : Nat) : Fld := ⟨R.CMC_PORT_FC n l, 0, 2⟩
@[inherit_doc R.CMC_PORT_FC] def F.CMC_PORT_FC_rx_mask (n l : Nat) : Fld := ⟨R.CMC_PORT_FC n l, 8, 8⟩
@[inherit_doc R.CMC_PORT_FC] def F.CMC_PORT_FC_tx_quanta (n l : Nat) : Fld := ⟨R.CMC_PORT_FC n l, 16, 16⟩
/-- CMC_PORT_PW: Watchdog and refresh (11_client_ports). -/
def R.CMC_PORT_PW (n l : Nat) : Nat := 0x100100c + 16777216 * n + 64 * l
@[inherit_doc R.CMC_PORT_PW] def F.CMC_PORT_PW_limit (n l : Nat) : Fld := ⟨R.CMC_PORT_PW n l, 0, 14⟩
@[inherit_doc R.CMC_PORT_PW] def F.CMC_PORT_PW_tx_refresh (n l : Nat) : Fld := ⟨R.CMC_PORT_PW n l, 16, 16⟩
/-- CMC_PORT_STATUS: Link and pause state (11_client_ports). -/
def R.CMC_PORT_STATUS (n l : Nat) : Nat := 0x1001010 + 16777216 * n + 64 * l
@[inherit_doc R.CMC_PORT_STATUS] def F.CMC_PORT_STATUS_link (n l : Nat) : Fld := ⟨R.CMC_PORT_STATUS n l, 0, 3⟩
@[inherit_doc R.CMC_PORT_STATUS] def F.CMC_PORT_STATUS_rx_lf (n l : Nat) : Fld := ⟨R.CMC_PORT_STATUS n l, 3, 1⟩
@[inherit_doc R.CMC_PORT_STATUS] def F.CMC_PORT_STATUS_rx_rf (n l : Nat) : Fld := ⟨R.CMC_PORT_STATUS n l, 4, 1⟩
@[inherit_doc R.CMC_PORT_STATUS] def F.CMC_PORT_STATUS_peer_paused (n l : Nat) : Fld := ⟨R.CMC_PORT_STATUS n l, 8, 8⟩
@[inherit_doc R.CMC_PORT_STATUS] def F.CMC_PORT_STATUS_pw_broken (n l : Nat) : Fld := ⟨R.CMC_PORT_STATUS n l, 16, 8⟩
@[inherit_doc R.CMC_PORT_STATUS] def F.CMC_PORT_STATUS_tx_paused (n l : Nat) : Fld := ⟨R.CMC_PORT_STATUS n l, 24, 8⟩
/-- CMC_PORT_EVENT: Sticky events (11_client_ports). -/
def R.CMC_PORT_EVENT (n l : Nat) : Nat := 0x1001014 + 16777216 * n + 64 * l
@[inherit_doc R.CMC_PORT_EVENT] def F.CMC_PORT_EVENT_link_up (n l : Nat) : Fld := ⟨R.CMC_PORT_EVENT n l, 0, 1⟩
@[inherit_doc R.CMC_PORT_EVENT] def F.CMC_PORT_EVENT_link_down (n l : Nat) : Fld := ⟨R.CMC_PORT_EVENT n l, 1, 1⟩
@[inherit_doc R.CMC_PORT_EVENT] def F.CMC_PORT_EVENT_fault (n l : Nat) : Fld := ⟨R.CMC_PORT_EVENT n l, 2, 1⟩
@[inherit_doc R.CMC_PORT_EVENT] def F.CMC_PORT_EVENT_pw_break (n l : Nat) : Fld := ⟨R.CMC_PORT_EVENT n l, 3, 1⟩
@[inherit_doc R.CMC_PORT_EVENT] def F.CMC_PORT_EVENT_half_range (n l : Nat) : Fld := ⟨R.CMC_PORT_EVENT n l, 4, 1⟩
@[inherit_doc R.CMC_PORT_EVENT] def F.CMC_PORT_EVENT_trib_overrun (n l : Nat) : Fld := ⟨R.CMC_PORT_EVENT n l, 5, 1⟩
@[inherit_doc R.CMC_PORT_EVENT] def F.CMC_PORT_EVENT_tx_errored (n l : Nat) : Fld := ⟨R.CMC_PORT_EVENT n l, 6, 1⟩
/-- CMC_PORT_INT_EN: Interrupt enables (11_client_ports). -/
def R.CMC_PORT_INT_EN (n l : Nat) : Nat := 0x1001018 + 16777216 * n + 64 * l
@[inherit_doc R.CMC_PORT_INT_EN] def F.CMC_PORT_INT_EN_enable (n l : Nat) : Fld := ⟨R.CMC_PORT_INT_EN n l, 0, 7⟩
/-- CMC_PORT_HALF_LO: Half-range flags, counters 0 to 31 (11_client_ports). -/
def R.CMC_PORT_HALF_LO (n l : Nat) : Nat := 0x100101c + 16777216 * n + 64 * l
@[inherit_doc R.CMC_PORT_HALF_LO] def F.CMC_PORT_HALF_LO_flags (n l : Nat) : Fld := ⟨R.CMC_PORT_HALF_LO n l, 0, 32⟩
/-- CMC_PORT_HALF_HI: Half-range flags, counters 32 to 43 (11_client_ports). -/
def R.CMC_PORT_HALF_HI (n l : Nat) : Nat := 0x1001020 + 16777216 * n + 64 * l
@[inherit_doc R.CMC_PORT_HALF_HI] def F.CMC_PORT_HALF_HI_flags (n l : Nat) : Fld := ⟨R.CMC_PORT_HALF_HI n l, 0, 12⟩
/-- CMC_PW_BREAKS: Watchdog releases (11_client_ports). -/
def R.CMC_PW_BREAKS (n l : Nat) : Nat := 0x1001024 + 16777216 * n + 64 * l
@[inherit_doc R.CMC_PW_BREAKS] def F.CMC_PW_BREAKS_count (n l : Nat) : Fld := ⟨R.CMC_PW_BREAKS n l, 0, 32⟩
/-- CMC_LANE_STATUS: Lane receiver state (11_client_ports). -/
def R.CMC_LANE_STATUS (n l : Nat) : Nat := 0x1008000 + 16777216 * n + 32 * l
@[inherit_doc R.CMC_LANE_STATUS] def F.CMC_LANE_STATUS_sig (n l : Nat) : Fld := ⟨R.CMC_LANE_STATUS n l, 0, 1⟩
@[inherit_doc R.CMC_LANE_STATUS] def F.CMC_LANE_STATUS_cdr_lock (n l : Nat) : Fld := ⟨R.CMC_LANE_STATUS n l, 1, 1⟩
@[inherit_doc R.CMC_LANE_STATUS] def F.CMC_LANE_STATUS_adapted (n l : Nat) : Fld := ⟨R.CMC_LANE_STATUS n l, 2, 1⟩
@[inherit_doc R.CMC_LANE_STATUS] def F.CMC_LANE_STATUS_elec_idle (n l : Nat) : Fld := ⟨R.CMC_LANE_STATUS n l, 3, 1⟩
/-- CMC_LANE_TXEQ: Transmit preset (11_client_ports). -/
def R.CMC_LANE_TXEQ (n l : Nat) : Nat := 0x1008004 + 16777216 * n + 32 * l
@[inherit_doc R.CMC_LANE_TXEQ] def F.CMC_LANE_TXEQ_preset (n l : Nat) : Fld := ⟨R.CMC_LANE_TXEQ n l, 0, 3⟩
/-- CMC_LANE_SNR: Receiver SNR (11_client_ports). -/
def R.CMC_LANE_SNR (n l : Nat) : Nat := 0x1008008 + 16777216 * n + 32 * l
@[inherit_doc R.CMC_LANE_SNR] def F.CMC_LANE_SNR_snr (n l : Nat) : Fld := ⟨R.CMC_LANE_SNR n l, 0, 16⟩
/-- CMC_STAT: Counter i (R266) (11_client_ports). -/
def R.CMC_STAT (n l i : Nat) : Nat := 0x1040000 + 16777216 * n + 1024 * l + 8 * i
@[inherit_doc R.CMC_STAT] def F.CMC_STAT_count (n l i : Nat) : Fld := ⟨R.CMC_STAT n l i, 0, 48⟩
/-- PRS_CTRL: Bad-parse handling of line and injected frames (12_classification). -/
def R.PRS_CTRL (n : Nat) : Nat := 0x1100000 + 16777216 * n
@[inherit_doc R.PRS_CTRL] def F.PRS_CTRL_line_bad_slow (n : Nat) : Fld := ⟨R.PRS_CTRL n, 0, 1⟩
@[inherit_doc R.PRS_CTRL] def F.PRS_CTRL_host_bad_slow (n : Nat) : Fld := ⟨R.PRS_CTRL n, 1, 1⟩
/-- PRS_STATUS: Graph and layout state (12_classification). -/
def R.PRS_STATUS (n : Nat) : Nat := 0x1100004 + 16777216 * n
@[inherit_doc R.PRS_STATUS] def F.PRS_STATUS_graph_valid (n : Nat) : Fld := ⟨R.PRS_STATUS n, 0, 1⟩
@[inherit_doc R.PRS_STATUS] def F.PRS_STATUS_layout_valid (n : Nat) : Fld := ⟨R.PRS_STATUS n, 1, 1⟩
@[inherit_doc R.PRS_STATUS] def F.PRS_STATUS_recirc_full (n : Nat) : Fld := ⟨R.PRS_STATUS n, 2, 1⟩
/-- PRS_TBL_SEAL: Seal for the table group (12_classification). -/
def R.PRS_TBL_SEAL (n : Nat) : Nat := 0x1100008 + 16777216 * n
@[inherit_doc R.PRS_TBL_SEAL] def F.PRS_TBL_SEAL_seal (n : Nat) : Fld := ⟨R.PRS_TBL_SEAL n, 0, 1⟩
@[inherit_doc R.PRS_TBL_SEAL] def F.PRS_TBL_SEAL_abandon (n : Nat) : Fld := ⟨R.PRS_TBL_SEAL n, 1, 1⟩
@[inherit_doc R.PRS_TBL_SEAL] def F.PRS_TBL_SEAL_state (n : Nat) : Fld := ⟨R.PRS_TBL_SEAL n, 4, 2⟩
@[inherit_doc R.PRS_TBL_SEAL] def F.PRS_TBL_SEAL_result (n : Nat) : Fld := ⟨R.PRS_TBL_SEAL n, 8, 4⟩
@[inherit_doc R.PRS_TBL_SEAL] def F.PRS_TBL_SEAL_field (n : Nat) : Fld := ⟨R.PRS_TBL_SEAL n, 16, 8⟩
@[inherit_doc R.PRS_TBL_SEAL] def F.PRS_TBL_SEAL_rule (n : Nat) : Fld := ⟨R.PRS_TBL_SEAL n, 24, 8⟩
/-- PRS_LINE_DEF: Default action, line source (12_classification). -/
def R.PRS_LINE_DEF (n : Nat) : Nat := 0x110000c + 16777216 * n
@[inherit_doc R.PRS_LINE_DEF] def F.PRS_LINE_DEF_def_act (n : Nat) : Fld := ⟨R.PRS_LINE_DEF n, 0, 16⟩
/-- PRS_HOST_DEF: Default action, injected source (12_classification). -/
def R.PRS_HOST_DEF (n : Nat) : Nat := 0x1100010 + 16777216 * n
@[inherit_doc R.PRS_HOST_DEF] def F.PRS_HOST_DEF_def_act (n : Nat) : Fld := ⟨R.PRS_HOST_DEF n, 0, 16⟩
/-- PRS_SLOW_RATE: Slow-path gate (12_classification). -/
def R.PRS_SLOW_RATE (n : Nat) : Nat := 0x1100014 + 16777216 * n
@[inherit_doc R.PRS_SLOW_RATE] def F.PRS_SLOW_RATE_rate (n : Nat) : Fld := ⟨R.PRS_SLOW_RATE n, 0, 16⟩
@[inherit_doc R.PRS_SLOW_RATE] def F.PRS_SLOW_RATE_burst (n : Nat) : Fld := ⟨R.PRS_SLOW_RATE n, 16, 16⟩
/-- PRS_RECIRC_USE: Recirculation queue use (12_classification). -/
def R.PRS_RECIRC_USE (n : Nat) : Nat := 0x1100018 + 16777216 * n
@[inherit_doc R.PRS_RECIRC_USE] def F.PRS_RECIRC_USE_use (n : Nat) : Fld := ⟨R.PRS_RECIRC_USE n, 0, 16⟩
@[inherit_doc R.PRS_RECIRC_USE] def F.PRS_RECIRC_USE_peak (n : Nat) : Fld := ⟨R.PRS_RECIRC_USE n, 16, 16⟩
/-- PRS_EM_USE: Exact slots in use (12_classification). -/
def R.PRS_EM_USE (n : Nat) : Nat := 0x110001c + 16777216 * n
@[inherit_doc R.PRS_EM_USE] def F.PRS_EM_USE_used (n : Nat) : Fld := ⟨R.PRS_EM_USE n, 0, 21⟩
/-- PRS_EM_SEED0: Hash seed 0 (12_classification). -/
def R.PRS_EM_SEED0 (n : Nat) : Nat := 0x1100020 + 16777216 * n
@[inherit_doc R.PRS_EM_SEED0] def F.PRS_EM_SEED0_seed (n : Nat) : Fld := ⟨R.PRS_EM_SEED0 n, 0, 32⟩
/-- PRS_EM_SEED1: Hash seed 1 (12_classification). -/
def R.PRS_EM_SEED1 (n : Nat) : Nat := 0x1100024 + 16777216 * n
@[inherit_doc R.PRS_EM_SEED1] def F.PRS_EM_SEED1_seed (n : Nat) : Fld := ⟨R.PRS_EM_SEED1 n, 0, 32⟩
/-- PRS_COPY_EXCESS: Copies not made (12_classification). -/
def R.PRS_COPY_EXCESS (n : Nat) : Nat := 0x1100028 + 16777216 * n
@[inherit_doc R.PRS_COPY_EXCESS] def F.PRS_COPY_EXCESS_count (n : Nat) : Fld := ⟨R.PRS_COPY_EXCESS n, 0, 32⟩
/-- PRS_EVENT: Sticky events (12_classification). -/
def R.PRS_EVENT (n : Nat) : Nat := 0x110002c + 16777216 * n
@[inherit_doc R.PRS_EVENT] def F.PRS_EVENT_recirc_full (n : Nat) : Fld := ⟨R.PRS_EVENT n, 0, 1⟩
@[inherit_doc R.PRS_EVENT] def F.PRS_EVENT_slow_drop (n : Nat) : Fld := ⟨R.PRS_EVENT n, 1, 1⟩
@[inherit_doc R.PRS_EVENT] def F.PRS_EVENT_em_full (n : Nat) : Fld := ⟨R.PRS_EVENT n, 2, 1⟩
@[inherit_doc R.PRS_EVENT] def F.PRS_EVENT_malformed (n : Nat) : Fld := ⟨R.PRS_EVENT n, 3, 1⟩
@[inherit_doc R.PRS_EVENT] def F.PRS_EVENT_depth (n : Nat) : Fld := ⟨R.PRS_EVENT n, 4, 1⟩
@[inherit_doc R.PRS_EVENT] def F.PRS_EVENT_table_cleared (n : Nat) : Fld := ⟨R.PRS_EVENT n, 5, 1⟩
@[inherit_doc R.PRS_EVENT] def F.PRS_EVENT_bad_dest (n : Nat) : Fld := ⟨R.PRS_EVENT n, 6, 1⟩
/-- PRS_INT_EN: Interrupt enables (12_classification). -/
def R.PRS_INT_EN (n : Nat) : Nat := 0x1100030 + 16777216 * n
@[inherit_doc R.PRS_INT_EN] def F.PRS_INT_EN_enable (n : Nat) : Fld := ⟨R.PRS_INT_EN n, 0, 7⟩
/-- PRS_DISP: Packets with code 0x10 + k, k = 0 to 31 (12_classification). -/
def R.PRS_DISP (n k : Nat) : Nat := 0x1100040 + 16777216 * n + 8 * k
@[inherit_doc R.PRS_DISP] def F.PRS_DISP_count (n k : Nat) : Fld := ⟨R.PRS_DISP n k, 0, 64⟩
/-- PRS_PASS: Packets that made p + 1 passes, p = 0 to 3 (12_classification). -/
def R.PRS_PASS (n p : Nat) : Nat := 0x1100140 + 16777216 * n + 8 * p
@[inherit_doc R.PRS_PASS] def F.PRS_PASS_count (n p : Nat) : Fld := ⟨R.PRS_PASS n p, 0, 64⟩
/-- PRS_PORT_CFG: Port whose first local lane is l (12_classification). -/
def R.PRS_PORT_CFG (n l : Nat) : Nat := 0x1100200 + 16777216 * n + 4 * l
@[inherit_doc R.PRS_PORT_CFG] def F.PRS_PORT_CFG_def_act (n l : Nat) : Fld := ⟨R.PRS_PORT_CFG n l, 0, 16⟩
@[inherit_doc R.PRS_PORT_CFG] def F.PRS_PORT_CFG_bad_slow (n l : Nat) : Fld := ⟨R.PRS_PORT_CFG n l, 16, 1⟩
/-- PRS_TBL_CFG: Table t (12_classification). -/
def R.PRS_TBL_CFG (n t : Nat) : Nat := 0x1100400 + 16777216 * n + 16 * t
@[inherit_doc R.PRS_TBL_CFG] def F.PRS_TBL_CFG_en (n t : Nat) : Fld := ⟨R.PRS_TBL_CFG n t, 0, 1⟩
@[inherit_doc R.PRS_TBL_CFG] def F.PRS_TBL_CFG_kind (n t : Nat) : Fld := ⟨R.PRS_TBL_CFG n t, 1, 1⟩
@[inherit_doc R.PRS_TBL_CFG] def F.PRS_TBL_CFG_width (n t : Nat) : Fld := ⟨R.PRS_TBL_CFG n t, 2, 2⟩
@[inherit_doc R.PRS_TBL_CFG] def F.PRS_TBL_CFG_n_fld (n t : Nat) : Fld := ⟨R.PRS_TBL_CFG n t, 4, 5⟩
@[inherit_doc R.PRS_TBL_CFG] def F.PRS_TBL_CFG_first (n t : Nat) : Fld := ⟨R.PRS_TBL_CFG n t, 16, 7⟩
@[inherit_doc R.PRS_TBL_CFG] def F.PRS_TBL_CFG_size (n t : Nat) : Fld := ⟨R.PRS_TBL_CFG n t, 24, 8⟩
/-- PRS_TBL_COND: Search condition of table t (12_classification). -/
def R.PRS_TBL_COND (n t : Nat) : Nat := 0x1100404 + 16777216 * n + 16 * t
@[inherit_doc R.PRS_TBL_COND] def F.PRS_TBL_COND_cls (n t : Nat) : Fld := ⟨R.PRS_TBL_COND n t, 0, 5⟩
@[inherit_doc R.PRS_TBL_COND] def F.PRS_TBL_COND_src (n t : Nat) : Fld := ⟨R.PRS_TBL_COND n t, 8, 4⟩
/-- PRS_TBL_HIT: Hits (12_classification). -/
def R.PRS_TBL_HIT (n t : Nat) : Nat := 0x1100500 + 16777216 * n + 16 * t
@[inherit_doc R.PRS_TBL_HIT] def F.PRS_TBL_HIT_count (n t : Nat) : Fld := ⟨R.PRS_TBL_HIT n t, 0, 64⟩
/-- PRS_TBL_MISS: Misses (12_classification). -/
def R.PRS_TBL_MISS (n t : Nat) : Nat := 0x1100508 + 16777216 * n + 16 * t
@[inherit_doc R.PRS_TBL_MISS] def F.PRS_TBL_MISS_count (n t : Nat) : Fld := ⟨R.PRS_TBL_MISS n t, 0, 64⟩
/-- PRS_KEY_FLD: Field f of table t (12_classification). -/
def R.PRS_KEY_FLD (n t f : Nat) : Nat := 0x1100600 + 16777216 * n + 64 * t + 4 * f
@[inherit_doc R.PRS_KEY_FLD] def F.PRS_KEY_FLD_src (n t f : Nat) : Fld := ⟨R.PRS_KEY_FLD n t f, 0, 1⟩
@[inherit_doc R.PRS_KEY_FLD] def F.PRS_KEY_FLD_cls (n t f : Nat) : Fld := ⟨R.PRS_KEY_FLD n t f, 1, 5⟩
@[inherit_doc R.PRS_KEY_FLD] def F.PRS_KEY_FLD_occ (n t f : Nat) : Fld := ⟨R.PRS_KEY_FLD n t f, 6, 3⟩
@[inherit_doc R.PRS_KEY_FLD] def F.PRS_KEY_FLD_width (n t f : Nat) : Fld := ⟨R.PRS_KEY_FLD n t f, 9, 7⟩
@[inherit_doc R.PRS_KEY_FLD] def F.PRS_KEY_FLD_offset (n t f : Nat) : Fld := ⟨R.PRS_KEY_FLD n t f, 16, 12⟩
/-- PRS_MIR_DEST: Session s destination (12_classification). -/
def R.PRS_MIR_DEST (n s : Nat) : Nat := 0x1100800 + 16777216 * n + 16 * s
@[inherit_doc R.PRS_MIR_DEST] def F.PRS_MIR_DEST_queue (n s : Nat) : Fld := ⟨R.PRS_MIR_DEST n s, 0, 16⟩
@[inherit_doc R.PRS_MIR_DEST] def F.PRS_MIR_DEST_slow (n s : Nat) : Fld := ⟨R.PRS_MIR_DEST n s, 16, 1⟩
@[inherit_doc R.PRS_MIR_DEST] def F.PRS_MIR_DEST_en (n s : Nat) : Fld := ⟨R.PRS_MIR_DEST n s, 17, 1⟩
/-- PRS_MIR_CTRL: Session s truncation and sampling (12_classification). -/
def R.PRS_MIR_CTRL (n s : Nat) : Nat := 0x1100804 + 16777216 * n + 16 * s
@[inherit_doc R.PRS_MIR_CTRL] def F.PRS_MIR_CTRL_trunc (n s : Nat) : Fld := ⟨R.PRS_MIR_CTRL n s, 0, 8⟩
@[inherit_doc R.PRS_MIR_CTRL] def F.PRS_MIR_CTRL_sample (n s : Nat) : Fld := ⟨R.PRS_MIR_CTRL n s, 16, 16⟩
/-- PRS_MIR_COUNT: Copies made (12_classification). -/
def R.PRS_MIR_COUNT (n s : Nat) : Nat := 0x1100808 + 16777216 * n + 16 * s
@[inherit_doc R.PRS_MIR_COUNT] def F.PRS_MIR_COUNT_count (n s : Nat) : Fld := ⟨R.PRS_MIR_COUNT n s, 0, 64⟩
/-- PRS_TA_CMD: Table access command (12_classification). -/
def R.PRS_TA_CMD (n : Nat) : Nat := 0x1101000 + 16777216 * n
@[inherit_doc R.PRS_TA_CMD] def F.PRS_TA_CMD_op (n : Nat) : Fld := ⟨R.PRS_TA_CMD n, 0, 3⟩
@[inherit_doc R.PRS_TA_CMD] def F.PRS_TA_CMD_bank (n : Nat) : Fld := ⟨R.PRS_TA_CMD n, 4, 1⟩
@[inherit_doc R.PRS_TA_CMD] def F.PRS_TA_CMD_go (n : Nat) : Fld := ⟨R.PRS_TA_CMD n, 31, 1⟩
/-- PRS_TA_ADDR: Table and index (12_classification). -/
def R.PRS_TA_ADDR (n : Nat) : Nat := 0x1101004 + 16777216 * n
@[inherit_doc R.PRS_TA_ADDR] def F.PRS_TA_ADDR_index (n : Nat) : Fld := ⟨R.PRS_TA_ADDR n, 0, 17⟩
@[inherit_doc R.PRS_TA_ADDR] def F.PRS_TA_ADDR_tbl (n : Nat) : Fld := ⟨R.PRS_TA_ADDR n, 20, 3⟩
/-- PRS_TA_RESULT: Result (12_classification). -/
def R.PRS_TA_RESULT (n : Nat) : Nat := 0x1101008 + 16777216 * n
@[inherit_doc R.PRS_TA_RESULT] def F.PRS_TA_RESULT_code (n : Nat) : Fld := ⟨R.PRS_TA_RESULT n, 0, 4⟩
@[inherit_doc R.PRS_TA_RESULT] def F.PRS_TA_RESULT_busy (n : Nat) : Fld := ⟨R.PRS_TA_RESULT n, 4, 1⟩
/-- PRS_TA_DATA: Window word w, w = 0 to 33 (12_classification). -/
def R.PRS_TA_DATA (n w : Nat) : Nat := 0x1101100 + 16777216 * n + 4 * w
@[inherit_doc R.PRS_TA_DATA] def F.PRS_TA_DATA_bits (n w : Nat) : Fld := ⟨R.PRS_TA_DATA n w, 0, 32⟩
/-- TMG_STATUS: Tree state (13_queues_and_shaping). -/
def R.TMG_STATUS (n : Nat) : Nat := 0x1200000 + 16777216 * n
@[inherit_doc R.TMG_STATUS] def F.TMG_STATUS_tree_valid (n : Nat) : Fld := ⟨R.TMG_STATUS n, 0, 1⟩
@[inherit_doc R.TMG_STATUS] def F.TMG_STATUS_quiesced (n : Nat) : Fld := ⟨R.TMG_STATUS n, 1, 1⟩
/-- TMG_WHEEL_USE: Wheel entries on level v, v = 0 to 2 (13_queues_and_shaping). -/
def R.TMG_WHEEL_USE (n v : Nat) : Nat := 0x1200004 + 16777216 * n + 4 * v
@[inherit_doc R.TMG_WHEEL_USE] def F.TMG_WHEEL_USE_count (n v : Nat) : Fld := ⟨R.TMG_WHEEL_USE n v, 0, 15⟩
/-- TMG_EVENT: Sticky events (13_queues_and_shaping). -/
def R.TMG_EVENT (n : Nat) : Nat := 0x1200010 + 16777216 * n
@[inherit_doc R.TMG_EVENT] def F.TMG_EVENT_queue_full (n : Nat) : Fld := ⟨R.TMG_EVENT n, 0, 1⟩
@[inherit_doc R.TMG_EVENT] def F.TMG_EVENT_queue_off (n : Nat) : Fld := ⟨R.TMG_EVENT n, 1, 1⟩
@[inherit_doc R.TMG_EVENT] def F.TMG_EVENT_flush (n : Nat) : Fld := ⟨R.TMG_EVENT n, 2, 1⟩
@[inherit_doc R.TMG_EVENT] def F.TMG_EVENT_sel_blocked (n : Nat) : Fld := ⟨R.TMG_EVENT n, 3, 1⟩
/-- TMG_INT_EN: Interrupt enables (13_queues_and_shaping). -/
def R.TMG_INT_EN (n : Nat) : Nat := 0x1200014 + 16777216 * n
@[inherit_doc R.TMG_INT_EN] def F.TMG_INT_EN_enable (n : Nat) : Fld := ⟨R.TMG_INT_EN n, 0, 4⟩
/-- TMG_DISC: Discards with code 0x31 + k, k = 0 to 2 (13_queues_and_shaping). -/
def R.TMG_DISC (n k : Nat) : Nat := 0x1200040 + 16777216 * n + 8 * k
@[inherit_doc R.TMG_DISC] def F.TMG_DISC_count (n k : Nat) : Fld := ⟨R.TMG_DISC n k, 0, 64⟩
/-- TMG_PFC_MAP: Class map of the port whose first lane is l (13_queues_and_shaping). -/
def R.TMG_PFC_MAP (n l : Nat) : Nat := 0x1200100 + 16777216 * n + 4 * l
@[inherit_doc R.TMG_PFC_MAP] def F.TMG_PFC_MAP_map (n l : Nat) : Fld := ⟨R.TMG_PFC_MAP n l, 0, 24⟩
/-- TMG_MTR_SEL: Shaper in the window (13_queues_and_shaping). -/
def R.TMG_MTR_SEL (n : Nat) : Nat := 0x1200200 + 16777216 * n
@[inherit_doc R.TMG_MTR_SEL] def F.TMG_MTR_SEL_idx (n : Nat) : Fld := ⟨R.TMG_MTR_SEL n, 0, 15⟩
/-- TMG_MTR_CFG: Enable, mode, overhead, period (13_queues_and_shaping). -/
def R.TMG_MTR_CFG (n : Nat) : Nat := 0x1200204 + 16777216 * n
@[inherit_doc R.TMG_MTR_CFG] def F.TMG_MTR_CFG_en (n : Nat) : Fld := ⟨R.TMG_MTR_CFG n, 0, 1⟩
@[inherit_doc R.TMG_MTR_CFG] def F.TMG_MTR_CFG_mode (n : Nat) : Fld := ⟨R.TMG_MTR_CFG n, 1, 1⟩
@[inherit_doc R.TMG_MTR_CFG] def F.TMG_MTR_CFG_overhead (n : Nat) : Fld := ⟨R.TMG_MTR_CFG n, 8, 8⟩
@[inherit_doc R.TMG_MTR_CFG] def F.TMG_MTR_CFG_period (n : Nat) : Fld := ⟨R.TMG_MTR_CFG n, 16, 16⟩
/-- TMG_MTR_RATE: Rate (13_queues_and_shaping). -/
def R.TMG_MTR_RATE (n : Nat) : Nat := 0x1200208 + 16777216 * n
@[inherit_doc R.TMG_MTR_RATE] def F.TMG_MTR_RATE_rate (n : Nat) : Fld := ⟨R.TMG_MTR_RATE n, 0, 32⟩
/-- TMG_MTR_BURST: Burst (13_queues_and_shaping). -/
def R.TMG_MTR_BURST (n : Nat) : Nat := 0x120020c + 16777216 * n
@[inherit_doc R.TMG_MTR_BURST] def F.TMG_MTR_BURST_burst (n : Nat) : Fld := ⟨R.TMG_MTR_BURST n, 0, 32⟩
/-- TMG_MTR_SEAL: Seal for the meter group (13_queues_and_shaping). -/
def R.TMG_MTR_SEAL (n : Nat) : Nat := 0x1200210 + 16777216 * n
@[inherit_doc R.TMG_MTR_SEAL] def F.TMG_MTR_SEAL_seal (n : Nat) : Fld := ⟨R.TMG_MTR_SEAL n, 0, 1⟩
@[inherit_doc R.TMG_MTR_SEAL] def F.TMG_MTR_SEAL_abandon (n : Nat) : Fld := ⟨R.TMG_MTR_SEAL n, 1, 1⟩
@[inherit_doc R.TMG_MTR_SEAL] def F.TMG_MTR_SEAL_state (n : Nat) : Fld := ⟨R.TMG_MTR_SEAL n, 4, 2⟩
@[inherit_doc R.TMG_MTR_SEAL] def F.TMG_MTR_SEAL_result (n : Nat) : Fld := ⟨R.TMG_MTR_SEAL n, 8, 4⟩
@[inherit_doc R.TMG_MTR_SEAL] def F.TMG_MTR_SEAL_field (n : Nat) : Fld := ⟨R.TMG_MTR_SEAL n, 16, 8⟩
@[inherit_doc R.TMG_MTR_SEAL] def F.TMG_MTR_SEAL_rule (n : Nat) : Fld := ⟨R.TMG_MTR_SEAL n, 24, 8⟩
/-- TMG_MTR_TOKENS: Tokens of the selected shaper (13_queues_and_shaping). -/
def R.TMG_MTR_TOKENS (n : Nat) : Nat := 0x1200214 + 16777216 * n
@[inherit_doc R.TMG_MTR_TOKENS] def F.TMG_MTR_TOKENS_tokens (n : Nat) : Fld := ⟨R.TMG_MTR_TOKENS n, 0, 32⟩
/-- TMG_Q_CFG: Queue attachment and enable (13_queues_and_shaping). -/
def R.TMG_Q_CFG (n q : Nat) : Nat := 0x1210000 + 16777216 * n + 16 * q
@[inherit_doc R.TMG_Q_CFG] def F.TMG_Q_CFG_parent (n q : Nat) : Fld := ⟨R.TMG_Q_CFG n q, 0, 13⟩
@[inherit_doc R.TMG_Q_CFG] def F.TMG_Q_CFG_en (n q : Nat) : Fld := ⟨R.TMG_Q_CFG n q, 16, 1⟩
@[inherit_doc R.TMG_Q_CFG] def F.TMG_Q_CFG_shaped (n q : Nat) : Fld := ⟨R.TMG_Q_CFG n q, 17, 1⟩
@[inherit_doc R.TMG_Q_CFG] def F.TMG_Q_CFG_pfc_held (n q : Nat) : Fld := ⟨R.TMG_Q_CFG n q, 18, 1⟩
/-- TMG_Q_LIMIT: Queue limit (13_queues_and_shaping). -/
def R.TMG_Q_LIMIT (n q : Nat) : Nat := 0x1210004 + 16777216 * n + 16 * q
@[inherit_doc R.TMG_Q_LIMIT] def F.TMG_Q_LIMIT_limit (n q : Nat) : Fld := ⟨R.TMG_Q_LIMIT n q, 0, 32⟩
/-- TMG_Q_BYTES: qbytes (13_queues_and_shaping). -/
def R.TMG_Q_BYTES (n q : Nat) : Nat := 0x1210008 + 16777216 * n + 16 * q
@[inherit_doc R.TMG_Q_BYTES] def F.TMG_Q_BYTES_bytes (n q : Nat) : Fld := ⟨R.TMG_Q_BYTES n q, 0, 64⟩
/-- TMG_N_CFG: Node shape (13_queues_and_shaping). -/
def R.TMG_N_CFG (n m : Nat) : Nat := 0x1250000 + 16777216 * n + 16 * m
@[inherit_doc R.TMG_N_CFG] def F.TMG_N_CFG_parent (n m : Nat) : Fld := ⟨R.TMG_N_CFG n m, 0, 13⟩
@[inherit_doc R.TMG_N_CFG] def F.TMG_N_CFG_level (n m : Nat) : Fld := ⟨R.TMG_N_CFG n m, 13, 2⟩
@[inherit_doc R.TMG_N_CFG] def F.TMG_N_CFG_kind (n m : Nat) : Fld := ⟨R.TMG_N_CFG n m, 15, 2⟩
@[inherit_doc R.TMG_N_CFG] def F.TMG_N_CFG_type (n m : Nat) : Fld := ⟨R.TMG_N_CFG n m, 17, 1⟩
@[inherit_doc R.TMG_N_CFG] def F.TMG_N_CFG_shaper (n m : Nat) : Fld := ⟨R.TMG_N_CFG n m, 18, 13⟩
/-- TMG_N_SCHED: Weight, rank, target (13_queues_and_shaping). -/
def R.TMG_N_SCHED (n m : Nat) : Nat := 0x1250004 + 16777216 * n + 16 * m
@[inherit_doc R.TMG_N_SCHED] def F.TMG_N_SCHED_weight (n m : Nat) : Fld := ⟨R.TMG_N_SCHED n m, 0, 12⟩
@[inherit_doc R.TMG_N_SCHED] def F.TMG_N_SCHED_rank (n m : Nat) : Fld := ⟨R.TMG_N_SCHED n m, 16, 8⟩
@[inherit_doc R.TMG_N_SCHED] def F.TMG_N_SCHED_target (n m : Nat) : Fld := ⟨R.TMG_N_SCHED n m, 24, 6⟩
/-- TMG_N_STATUS: Node state (13_queues_and_shaping). -/
def R.TMG_N_STATUS (n m : Nat) : Nat := 0x1250008 + 16777216 * n + 16 * m
@[inherit_doc R.TMG_N_STATUS] def F.TMG_N_STATUS_eligible (n m : Nat) : Fld := ⟨R.TMG_N_STATUS n m, 0, 1⟩
@[inherit_doc R.TMG_N_STATUS] def F.TMG_N_STATUS_on_wheel (n m : Nat) : Fld := ⟨R.TMG_N_STATUS n m, 1, 1⟩
/-- POL_EVENT: Sticky events (13_queues_and_shaping). -/
def R.POL_EVENT (n : Nat) : Nat := 0x1300000 + 16777216 * n
@[inherit_doc R.POL_EVENT] def F.POL_EVENT_sel_blocked (n : Nat) : Fld := ⟨R.POL_EVENT n, 0, 1⟩
@[inherit_doc R.POL_EVENT] def F.POL_EVENT_acc_overrun (n : Nat) : Fld := ⟨R.POL_EVENT n, 1, 1⟩
@[inherit_doc R.POL_EVENT] def F.POL_EVENT_excess (n : Nat) : Fld := ⟨R.POL_EVENT n, 2, 1⟩
/-- POL_INT_EN: Interrupt enables (13_queues_and_shaping). -/
def R.POL_INT_EN (n : Nat) : Nat := 0x1300004 + 16777216 * n
@[inherit_doc R.POL_INT_EN] def F.POL_INT_EN_enable (n : Nat) : Fld := ⟨R.POL_INT_EN n, 0, 3⟩
/-- POL_ACC_DONE: Readable bank consumed (13_queues_and_shaping). -/
def R.POL_ACC_DONE (n : Nat) : Nat := 0x1300008 + 16777216 * n
@[inherit_doc R.POL_ACC_DONE] def F.POL_ACC_DONE_done (n : Nat) : Fld := ⟨R.POL_ACC_DONE n, 0, 1⟩
/-- POL_EXCESS: Frames dropped as POL_EXCESS (13_queues_and_shaping). -/
def R.POL_EXCESS (n : Nat) : Nat := 0x1300010 + 16777216 * n
@[inherit_doc R.POL_EXCESS] def F.POL_EXCESS_count (n : Nat) : Fld := ⟨R.POL_EXCESS n, 0, 64⟩
/-- POL_MTR_SEL: Policer in the window (13_queues_and_shaping). -/
def R.POL_MTR_SEL (n : Nat) : Nat := 0x1300100 + 16777216 * n
@[inherit_doc R.POL_MTR_SEL] def F.POL_MTR_SEL_idx (n : Nat) : Fld := ⟨R.POL_MTR_SEL n, 0, 16⟩
/-- POL_MTR_CFG: Enable, mode, overhead, period (13_queues_and_shaping). -/
def R.POL_MTR_CFG (n : Nat) : Nat := 0x1300104 + 16777216 * n
@[inherit_doc R.POL_MTR_CFG] def F.POL_MTR_CFG_en (n : Nat) : Fld := ⟨R.POL_MTR_CFG n, 0, 1⟩
@[inherit_doc R.POL_MTR_CFG] def F.POL_MTR_CFG_mode (n : Nat) : Fld := ⟨R.POL_MTR_CFG n, 1, 1⟩
@[inherit_doc R.POL_MTR_CFG] def F.POL_MTR_CFG_overhead (n : Nat) : Fld := ⟨R.POL_MTR_CFG n, 8, 8⟩
@[inherit_doc R.POL_MTR_CFG] def F.POL_MTR_CFG_period (n : Nat) : Fld := ⟨R.POL_MTR_CFG n, 16, 16⟩
/-- POL_MTR_RATE: Rate (13_queues_and_shaping). -/
def R.POL_MTR_RATE (n : Nat) : Nat := 0x1300108 + 16777216 * n
@[inherit_doc R.POL_MTR_RATE] def F.POL_MTR_RATE_rate (n : Nat) : Fld := ⟨R.POL_MTR_RATE n, 0, 32⟩
/-- POL_MTR_BURST: Burst (13_queues_and_shaping). -/
def R.POL_MTR_BURST (n : Nat) : Nat := 0x130010c + 16777216 * n
@[inherit_doc R.POL_MTR_BURST] def F.POL_MTR_BURST_burst (n : Nat) : Fld := ⟨R.POL_MTR_BURST n, 0, 32⟩
/-- POL_MTR_SEAL: Seal for the meter group (13_queues_and_shaping). -/
def R.POL_MTR_SEAL (n : Nat) : Nat := 0x1300110 + 16777216 * n
@[inherit_doc R.POL_MTR_SEAL] def F.POL_MTR_SEAL_seal (n : Nat) : Fld := ⟨R.POL_MTR_SEAL n, 0, 1⟩
@[inherit_doc R.POL_MTR_SEAL] def F.POL_MTR_SEAL_abandon (n : Nat) : Fld := ⟨R.POL_MTR_SEAL n, 1, 1⟩
@[inherit_doc R.POL_MTR_SEAL] def F.POL_MTR_SEAL_state (n : Nat) : Fld := ⟨R.POL_MTR_SEAL n, 4, 2⟩
@[inherit_doc R.POL_MTR_SEAL] def F.POL_MTR_SEAL_result (n : Nat) : Fld := ⟨R.POL_MTR_SEAL n, 8, 4⟩
@[inherit_doc R.POL_MTR_SEAL] def F.POL_MTR_SEAL_field (n : Nat) : Fld := ⟨R.POL_MTR_SEAL n, 16, 8⟩
@[inherit_doc R.POL_MTR_SEAL] def F.POL_MTR_SEAL_rule (n : Nat) : Fld := ⟨R.POL_MTR_SEAL n, 24, 8⟩
/-- POL_MTR_TOKENS: Tokens of the selected policer (13_queues_and_shaping). -/
def R.POL_MTR_TOKENS (n : Nat) : Nat := 0x1300114 + 16777216 * n
@[inherit_doc R.POL_MTR_TOKENS] def F.POL_MTR_TOKENS_tokens (n : Nat) : Fld := ⟨R.POL_MTR_TOKENS n, 0, 32⟩
/-- POL_CONF: Conforming packets, snapshot (13_queues_and_shaping). -/
def R.POL_CONF (n : Nat) : Nat := 0x1300118 + 16777216 * n
@[inherit_doc R.POL_CONF] def F.POL_CONF_count (n : Nat) : Fld := ⟨R.POL_CONF n, 0, 64⟩
/-- POL_EXC: Excess packets, snapshot (13_queues_and_shaping). -/
def R.POL_EXC (n : Nat) : Nat := 0x1300120 + 16777216 * n
@[inherit_doc R.POL_EXC] def F.POL_EXC_count (n : Nat) : Fld := ⟨R.POL_EXC n, 0, 64⟩
/-- POL_ACC_SEL: Accounting counter in the window (13_queues_and_shaping). -/
def R.POL_ACC_SEL (n : Nat) : Nat := 0x1300200 + 16777216 * n
@[inherit_doc R.POL_ACC_SEL] def F.POL_ACC_SEL_idx (n : Nat) : Fld := ⟨R.POL_ACC_SEL n, 0, 16⟩
/-- POL_ACC_PKT: Packets, snapshot (13_queues_and_shaping). -/
def R.POL_ACC_PKT (n : Nat) : Nat := 0x1300208 + 16777216 * n
@[inherit_doc R.POL_ACC_PKT] def F.POL_ACC_PKT_count (n : Nat) : Fld := ⟨R.POL_ACC_PKT n, 0, 64⟩
/-- POL_ACC_BYTE: Bytes, snapshot (13_queues_and_shaping). -/
def R.POL_ACC_BYTE (n : Nat) : Nat := 0x1300210 + 16777216 * n
@[inherit_doc R.POL_ACC_BYTE] def F.POL_ACC_BYTE_count (n : Nat) : Fld := ⟨R.POL_ACC_BYTE n, 0, 64⟩
/-- BPM_STATUS: Pool and region levels (14_buffer_tiers). -/
def R.BPM_STATUS (n : Nat) : Nat := 0x1400000 + 16777216 * n
@[inherit_doc R.BPM_STATUS] def F.BPM_STATUS_lvl0 (n : Nat) : Fld := ⟨R.BPM_STATUS n, 0, 2⟩
@[inherit_doc R.BPM_STATUS] def F.BPM_STATUS_lvl1 (n : Nat) : Fld := ⟨R.BPM_STATUS n, 2, 2⟩
@[inherit_doc R.BPM_STATUS] def F.BPM_STATUS_lvl2 (n : Nat) : Fld := ⟨R.BPM_STATUS n, 4, 2⟩
@[inherit_doc R.BPM_STATUS] def F.BPM_STATUS_region_lvl (n : Nat) : Fld := ⟨R.BPM_STATUS n, 6, 2⟩
@[inherit_doc R.BPM_STATUS] def F.BPM_STATUS_tone_req (n : Nat) : Fld := ⟨R.BPM_STATUS n, 8, 1⟩
@[inherit_doc R.BPM_STATUS] def F.BPM_STATUS_t2_avail (n : Nat) : Fld := ⟨R.BPM_STATUS n, 9, 1⟩
/-- BPM_EVENT: Sticky events (14_buffer_tiers). -/
def R.BPM_EVENT (n : Nat) : Nat := 0x1400004 + 16777216 * n
@[inherit_doc R.BPM_EVENT] def F.BPM_EVENT_tint (n : Nat) : Fld := ⟨R.BPM_EVENT n, 0, 1⟩
@[inherit_doc R.BPM_EVENT] def F.BPM_EVENT_tone (n : Nat) : Fld := ⟨R.BPM_EVENT n, 1, 1⟩
@[inherit_doc R.BPM_EVENT] def F.BPM_EVENT_shade (n : Nat) : Fld := ⟨R.BPM_EVENT n, 2, 1⟩
@[inherit_doc R.BPM_EVENT] def F.BPM_EVENT_empty (n : Nat) : Fld := ⟨R.BPM_EVENT n, 3, 1⟩
@[inherit_doc R.BPM_EVENT] def F.BPM_EVENT_bad_handle (n : Nat) : Fld := ⟨R.BPM_EVENT n, 4, 1⟩
@[inherit_doc R.BPM_EVENT] def F.BPM_EVENT_free_owner (n : Nat) : Fld := ⟨R.BPM_EVENT n, 5, 1⟩
@[inherit_doc R.BPM_EVENT] def F.BPM_EVENT_double_free (n : Nat) : Fld := ⟨R.BPM_EVENT n, 6, 1⟩
@[inherit_doc R.BPM_EVENT] def F.BPM_EVENT_suspend (n : Nat) : Fld := ⟨R.BPM_EVENT n, 7, 1⟩
@[inherit_doc R.BPM_EVENT] def F.BPM_EVENT_poison (n : Nat) : Fld := ⟨R.BPM_EVENT n, 8, 1⟩
@[inherit_doc R.BPM_EVENT] def F.BPM_EVENT_ra_late (n : Nat) : Fld := ⟨R.BPM_EVENT n, 9, 1⟩
@[inherit_doc R.BPM_EVENT] def F.BPM_EVENT_ref_limit (n : Nat) : Fld := ⟨R.BPM_EVENT n, 10, 1⟩
@[inherit_doc R.BPM_EVENT] def F.BPM_EVENT_sel_blocked (n : Nat) : Fld := ⟨R.BPM_EVENT n, 11, 1⟩
/-- BPM_INT_EN: Interrupt enables (14_buffer_tiers). -/
def R.BPM_INT_EN (n : Nat) : Nat := 0x1400008 + 16777216 * n
@[inherit_doc R.BPM_INT_EN] def F.BPM_INT_EN_enable (n : Nat) : Fld := ⟨R.BPM_INT_EN n, 0, 12⟩
/-- BPM_RET_OWNER: Retention owner (14_buffer_tiers). -/
def R.BPM_RET_OWNER (n : Nat) : Nat := 0x140000c + 16777216 * n
@[inherit_doc R.BPM_RET_OWNER] def F.BPM_RET_OWNER_owner (n : Nat) : Fld := ⟨R.BPM_RET_OWNER n, 0, 10⟩
/-- BPM_POOL_SIZE: Units in tier t (14_buffer_tiers). -/
def R.BPM_POOL_SIZE (n t : Nat) : Nat := 0x1400010 + 16777216 * n + 4 * t
@[inherit_doc R.BPM_POOL_SIZE] def F.BPM_POOL_SIZE_units (n t : Nat) : Fld := ⟨R.BPM_POOL_SIZE n t, 0, 24⟩
/-- BPM_POOL_USE: Units in use (14_buffer_tiers). -/
def R.BPM_POOL_USE (n t : Nat) : Nat := 0x1400020 + 16777216 * n + 4 * t
@[inherit_doc R.BPM_POOL_USE] def F.BPM_POOL_USE_units (n t : Nat) : Fld := ⟨R.BPM_POOL_USE n t, 0, 24⟩
/-- BPM_POOL_PEAK: Peak use (14_buffer_tiers). -/
def R.BPM_POOL_PEAK (n t : Nat) : Nat := 0x1400030 + 16777216 * n + 4 * t
@[inherit_doc R.BPM_POOL_PEAK] def F.BPM_POOL_PEAK_units (n t : Nat) : Fld := ⟨R.BPM_POOL_PEAK n t, 0, 24⟩
/-- BPM_POOL_THR: Thresholds (14_buffer_tiers). -/
def R.BPM_POOL_THR (n t : Nat) : Nat := 0x1400040 + 16777216 * n + 4 * t
@[inherit_doc R.BPM_POOL_THR] def F.BPM_POOL_THR_tint (n t : Nat) : Fld := ⟨R.BPM_POOL_THR n t, 0, 7⟩
@[inherit_doc R.BPM_POOL_THR] def F.BPM_POOL_THR_tone (n t : Nat) : Fld := ⟨R.BPM_POOL_THR n t, 8, 7⟩
@[inherit_doc R.BPM_POOL_THR] def F.BPM_POOL_THR_shade (n t : Nat) : Fld := ⟨R.BPM_POOL_THR n t, 16, 7⟩
@[inherit_doc R.BPM_POOL_THR] def F.BPM_POOL_THR_hyst (n t : Nat) : Fld := ⟨R.BPM_POOL_THR n t, 24, 5⟩
/-- BPM_ARB: Arbiter weights, t = 1, 2 (14_buffer_tiers). -/
def R.BPM_ARB (n t : Nat) : Nat := 0x140004c + 16777216 * n + 4 * t
@[inherit_doc R.BPM_ARB] def F.BPM_ARB_w_pro (n t : Nat) : Fld := ⟨R.BPM_ARB n t, 0, 8⟩
@[inherit_doc R.BPM_ARB] def F.BPM_ARB_w_dem (n t : Nat) : Fld := ⟨R.BPM_ARB n t, 8, 8⟩
@[inherit_doc R.BPM_ARB] def F.BPM_ARB_w_move (n t : Nat) : Fld := ⟨R.BPM_ARB n t, 16, 8⟩
@[inherit_doc R.BPM_ARB] def F.BPM_ARB_w_hop (n t : Nat) : Fld := ⟨R.BPM_ARB n t, 24, 8⟩
/-- BPM_RA_LATE: Promotions late for their fill point (14_buffer_tiers). -/
def R.BPM_RA_LATE (n : Nat) : Nat := 0x1400058 + 16777216 * n
@[inherit_doc R.BPM_RA_LATE] def F.BPM_RA_LATE_count (n : Nat) : Fld := ⟨R.BPM_RA_LATE n, 0, 32⟩
/-- BPM_DISC: Discards with code 0x40 + k, k = 0 to 7 (14_buffer_tiers). -/
def R.BPM_DISC (n k : Nat) : Nat := 0x1400060 + 16777216 * n + 8 * k
@[inherit_doc R.BPM_DISC] def F.BPM_DISC_count (n k : Nat) : Fld := ⟨R.BPM_DISC n k, 0, 64⟩
/-- BPM_MIG: Bytes migrated, i = 0 to 4 (14_buffer_tiers). -/
def R.BPM_MIG (n i : Nat) : Nat := 0x14000a0 + 16777216 * n + 8 * i
@[inherit_doc R.BPM_MIG] def F.BPM_MIG_bytes (n i : Nat) : Fld := ⟨R.BPM_MIG n i, 0, 64⟩
/-- BPM_OWN_SEL: Owner in the window (14_buffer_tiers). -/
def R.BPM_OWN_SEL (n : Nat) : Nat := 0x1400100 + 16777216 * n
@[inherit_doc R.BPM_OWN_SEL] def F.BPM_OWN_SEL_owner (n : Nat) : Fld := ⟨R.BPM_OWN_SEL n, 0, 10⟩
/-- BPM_OWN_CFG: Enable, policy, profile (14_buffer_tiers). -/
def R.BPM_OWN_CFG (n : Nat) : Nat := 0x1400104 + 16777216 * n
@[inherit_doc R.BPM_OWN_CFG] def F.BPM_OWN_CFG_en (n : Nat) : Fld := ⟨R.BPM_OWN_CFG n, 0, 1⟩
@[inherit_doc R.BPM_OWN_CFG] def F.BPM_OWN_CFG_retry (n : Nat) : Fld := ⟨R.BPM_OWN_CFG n, 1, 1⟩
@[inherit_doc R.BPM_OWN_CFG] def F.BPM_OWN_CFG_fault_thr (n : Nat) : Fld := ⟨R.BPM_OWN_CFG n, 8, 8⟩
@[inherit_doc R.BPM_OWN_CFG] def F.BPM_OWN_CFG_profile (n : Nat) : Fld := ⟨R.BPM_OWN_CFG n, 16, 4⟩
/-- BPM_OWN_FC: Backpressure target and retry (14_buffer_tiers). -/
def R.BPM_OWN_FC (n : Nat) : Nat := 0x1400108 + 16777216 * n
@[inherit_doc R.BPM_OWN_FC] def F.BPM_OWN_FC_lane (n : Nat) : Fld := ⟨R.BPM_OWN_FC n, 0, 5⟩
@[inherit_doc R.BPM_OWN_FC] def F.BPM_OWN_FC_fc_en (n : Nat) : Fld := ⟨R.BPM_OWN_FC n, 5, 1⟩
@[inherit_doc R.BPM_OWN_FC] def F.BPM_OWN_FC_pri (n : Nat) : Fld := ⟨R.BPM_OWN_FC n, 8, 8⟩
@[inherit_doc R.BPM_OWN_FC] def F.BPM_OWN_FC_retry_ns (n : Nat) : Fld := ⟨R.BPM_OWN_FC n, 16, 16⟩
/-- BPM_OWN_TONE: Tone rate (14_buffer_tiers). -/
def R.BPM_OWN_TONE (n : Nat) : Nat := 0x140010c + 16777216 * n
@[inherit_doc R.BPM_OWN_TONE] def F.BPM_OWN_TONE_rate (n : Nat) : Fld := ⟨R.BPM_OWN_TONE n, 0, 32⟩
/-- BPM_OWN_RES: Reserve (14_buffer_tiers). -/
def R.BPM_OWN_RES (n t : Nat) : Nat := 0x1400110 + 16777216 * n + 8 * t
@[inherit_doc R.BPM_OWN_RES] def F.BPM_OWN_RES_units (n t : Nat) : Fld := ⟨R.BPM_OWN_RES n t, 0, 24⟩
/-- BPM_OWN_CAP: Cap (14_buffer_tiers). -/
def R.BPM_OWN_CAP (n t : Nat) : Nat := 0x1400114 + 16777216 * n + 8 * t
@[inherit_doc R.BPM_OWN_CAP] def F.BPM_OWN_CAP_units (n t : Nat) : Fld := ⟨R.BPM_OWN_CAP n t, 0, 24⟩
/-- BPM_OWN_SEAL: Seal for the owner group (14_buffer_tiers). -/
def R.BPM_OWN_SEAL (n : Nat) : Nat := 0x1400128 + 16777216 * n
@[inherit_doc R.BPM_OWN_SEAL] def F.BPM_OWN_SEAL_seal (n : Nat) : Fld := ⟨R.BPM_OWN_SEAL n, 0, 1⟩
@[inherit_doc R.BPM_OWN_SEAL] def F.BPM_OWN_SEAL_abandon (n : Nat) : Fld := ⟨R.BPM_OWN_SEAL n, 1, 1⟩
@[inherit_doc R.BPM_OWN_SEAL] def F.BPM_OWN_SEAL_state (n : Nat) : Fld := ⟨R.BPM_OWN_SEAL n, 4, 2⟩
@[inherit_doc R.BPM_OWN_SEAL] def F.BPM_OWN_SEAL_result (n : Nat) : Fld := ⟨R.BPM_OWN_SEAL n, 8, 4⟩
@[inherit_doc R.BPM_OWN_SEAL] def F.BPM_OWN_SEAL_field (n : Nat) : Fld := ⟨R.BPM_OWN_SEAL n, 16, 8⟩
@[inherit_doc R.BPM_OWN_SEAL] def F.BPM_OWN_SEAL_rule (n : Nat) : Fld := ⟨R.BPM_OWN_SEAL n, 24, 8⟩
/-- BPM_OWN_USE: Charge (14_buffer_tiers). -/
def R.BPM_OWN_USE (n t : Nat) : Nat := 0x140012c + 16777216 * n + 4 * t
@[inherit_doc R.BPM_OWN_USE] def F.BPM_OWN_USE_units (n t : Nat) : Fld := ⟨R.BPM_OWN_USE n t, 0, 24⟩
/-- BPM_OWN_FAULT: Fault counter and suspension (14_buffer_tiers). -/
def R.BPM_OWN_FAULT (n : Nat) : Nat := 0x1400138 + 16777216 * n
@[inherit_doc R.BPM_OWN_FAULT] def F.BPM_OWN_FAULT_count (n : Nat) : Fld := ⟨R.BPM_OWN_FAULT n, 0, 8⟩
@[inherit_doc R.BPM_OWN_FAULT] def F.BPM_OWN_FAULT_suspended (n : Nat) : Fld := ⟨R.BPM_OWN_FAULT n, 8, 1⟩
/-- BPM_OWN_RESTORE: Lift a suspension (14_buffer_tiers). -/
def R.BPM_OWN_RESTORE (n : Nat) : Nat := 0x140013c + 16777216 * n
@[inherit_doc R.BPM_OWN_RESTORE] def F.BPM_OWN_RESTORE_owner (n : Nat) : Fld := ⟨R.BPM_OWN_RESTORE n, 0, 10⟩
@[inherit_doc R.BPM_OWN_RESTORE] def F.BPM_OWN_RESTORE_go (n : Nat) : Fld := ⟨R.BPM_OWN_RESTORE n, 31, 1⟩
/-- BPM_HOP_CMD: Handle operation (14_buffer_tiers). -/
def R.BPM_HOP_CMD (n : Nat) : Nat := 0x1400200 + 16777216 * n
@[inherit_doc R.BPM_HOP_CMD] def F.BPM_HOP_CMD_op (n : Nat) : Fld := ⟨R.BPM_HOP_CMD n, 0, 3⟩
@[inherit_doc R.BPM_HOP_CMD] def F.BPM_HOP_CMD_chunk (n : Nat) : Fld := ⟨R.BPM_HOP_CMD n, 8, 8⟩
@[inherit_doc R.BPM_HOP_CMD] def F.BPM_HOP_CMD_go (n : Nat) : Fld := ⟨R.BPM_HOP_CMD n, 31, 1⟩
/-- BPM_HOP_HANDLE: Handle (14_buffer_tiers). -/
def R.BPM_HOP_HANDLE (n : Nat) : Nat := 0x1400204 + 16777216 * n
@[inherit_doc R.BPM_HOP_HANDLE] def F.BPM_HOP_HANDLE_handle (n : Nat) : Fld := ⟨R.BPM_HOP_HANDLE n, 0, 48⟩
/-- BPM_HOP_OWNER: Owner named (14_buffer_tiers). -/
def R.BPM_HOP_OWNER (n : Nat) : Nat := 0x140020c + 16777216 * n
@[inherit_doc R.BPM_HOP_OWNER] def F.BPM_HOP_OWNER_owner (n : Nat) : Fld := ⟨R.BPM_HOP_OWNER n, 0, 12⟩
/-- BPM_HOP_RESULT: Result (14_buffer_tiers). -/
def R.BPM_HOP_RESULT (n : Nat) : Nat := 0x1400210 + 16777216 * n
@[inherit_doc R.BPM_HOP_RESULT] def F.BPM_HOP_RESULT_code (n : Nat) : Fld := ⟨R.BPM_HOP_RESULT n, 0, 4⟩
@[inherit_doc R.BPM_HOP_RESULT] def F.BPM_HOP_RESULT_busy (n : Nat) : Fld := ⟨R.BPM_HOP_RESULT n, 4, 1⟩
@[inherit_doc R.BPM_HOP_RESULT] def F.BPM_HOP_RESULT_count (n : Nat) : Fld := ⟨R.BPM_HOP_RESULT n, 8, 8⟩
/-- BPM_PROF_CFG: Profile flags (14_buffer_tiers). -/
def R.BPM_PROF_CFG (n p : Nat) : Nat := 0x1400300 + 16777216 * n + 16 * p
@[inherit_doc R.BPM_PROF_CFG] def F.BPM_PROF_CFG_direct2 (n p : Nat) : Fld := ⟨R.BPM_PROF_CFG n p, 0, 1⟩
@[inherit_doc R.BPM_PROF_CFG] def F.BPM_PROF_CFG_valid (n p : Nat) : Fld := ⟨R.BPM_PROF_CFG n p, 1, 1⟩
/-- BPM_PROF_HEAD: keep_head (14_buffer_tiers). -/
def R.BPM_PROF_HEAD (n p : Nat) : Nat := 0x1400304 + 16777216 * n + 16 * p
@[inherit_doc R.BPM_PROF_HEAD] def F.BPM_PROF_HEAD_bytes (n p : Nat) : Fld := ⟨R.BPM_PROF_HEAD n p, 0, 25⟩
/-- BPM_PROF_AGE0: age0 (14_buffer_tiers). -/
def R.BPM_PROF_AGE0 (n p : Nat) : Nat := 0x1400308 + 16777216 * n + 16 * p
@[inherit_doc R.BPM_PROF_AGE0] def F.BPM_PROF_AGE0_us (n p : Nat) : Fld := ⟨R.BPM_PROF_AGE0 n p, 0, 20⟩
/-- BPM_PROF_AGE1: age1 (14_buffer_tiers). -/
def R.BPM_PROF_AGE1 (n p : Nat) : Nat := 0x140030c + 16777216 * n + 16 * p
@[inherit_doc R.BPM_PROF_AGE1] def F.BPM_PROF_AGE1_ms (n p : Nat) : Fld := ⟨R.BPM_PROF_AGE1 n p, 0, 22⟩
/-- BPM_HOP_DATA: Read data, w = 0 to 63 (14_buffer_tiers). -/
def R.BPM_HOP_DATA (n w : Nat) : Nat := 0x1400400 + 16777216 * n + 4 * w
@[inherit_doc R.BPM_HOP_DATA] def F.BPM_HOP_DATA_bits (n w : Nat) : Fld := ⟨R.BPM_HOP_DATA n w, 0, 32⟩
/-- BPM_Q_OWNER: Owner of queue q (14_buffer_tiers). -/
def R.BPM_Q_OWNER (n q : Nat) : Nat := 0x1410000 + 16777216 * n + 4 * q
@[inherit_doc R.BPM_Q_OWNER] def F.BPM_Q_OWNER_owner (n q : Nat) : Fld := ⟨R.BPM_Q_OWNER n q, 0, 10⟩
/-- MEM_STATUS: Training and tier state (14_buffer_tiers). -/
def R.MEM_STATUS (n : Nat) : Nat := 0x1500000 + 16777216 * n
@[inherit_doc R.MEM_STATUS] def F.MEM_STATUS_hbm_ready (n : Nat) : Fld := ⟨R.MEM_STATUS n, 0, 1⟩
@[inherit_doc R.MEM_STATUS] def F.MEM_STATUS_t2_ready (n : Nat) : Fld := ⟨R.MEM_STATUS n, 1, 1⟩
@[inherit_doc R.MEM_STATUS] def F.MEM_STATUS_t2_ch (n : Nat) : Fld := ⟨R.MEM_STATUS n, 4, 3⟩
@[inherit_doc R.MEM_STATUS] def F.MEM_STATUS_t2_failed (n : Nat) : Fld := ⟨R.MEM_STATUS n, 7, 1⟩
/-- MEM_T2_SIZE: Tier-2 size (14_buffer_tiers). -/
def R.MEM_T2_SIZE (n : Nat) : Nat := 0x1500004 + 16777216 * n
@[inherit_doc R.MEM_T2_SIZE] def F.MEM_T2_SIZE_gib (n : Nat) : Fld := ⟨R.MEM_T2_SIZE n, 0, 10⟩
/-- MEM_EVENT: Sticky events (14_buffer_tiers). -/
def R.MEM_EVENT (n : Nat) : Nat := 0x1500008 + 16777216 * n
@[inherit_doc R.MEM_EVENT] def F.MEM_EVENT_hbm_ce (n : Nat) : Fld := ⟨R.MEM_EVENT n, 0, 1⟩
@[inherit_doc R.MEM_EVENT] def F.MEM_EVENT_hbm_ue (n : Nat) : Fld := ⟨R.MEM_EVENT n, 1, 1⟩
@[inherit_doc R.MEM_EVENT] def F.MEM_EVENT_ch_ce (n : Nat) : Fld := ⟨R.MEM_EVENT n, 2, 1⟩
@[inherit_doc R.MEM_EVENT] def F.MEM_EVENT_ch_ue (n : Nat) : Fld := ⟨R.MEM_EVENT n, 3, 1⟩
@[inherit_doc R.MEM_EVENT] def F.MEM_EVENT_ch_fail (n : Nat) : Fld := ⟨R.MEM_EVENT n, 4, 1⟩
@[inherit_doc R.MEM_EVENT] def F.MEM_EVENT_quar_limit (n : Nat) : Fld := ⟨R.MEM_EVENT n, 5, 1⟩
@[inherit_doc R.MEM_EVENT] def F.MEM_EVENT_train_fail (n : Nat) : Fld := ⟨R.MEM_EVENT n, 6, 1⟩
/-- MEM_INT_EN: Interrupt enables (14_buffer_tiers). -/
def R.MEM_INT_EN (n : Nat) : Nat := 0x150000c + 16777216 * n
@[inherit_doc R.MEM_INT_EN] def F.MEM_INT_EN_enable (n : Nat) : Fld := ⟨R.MEM_INT_EN n, 0, 7⟩
/-- MEM_SCRUB: Scrub periods (14_buffer_tiers). -/
def R.MEM_SCRUB (n : Nat) : Nat := 0x1500010 + 16777216 * n
@[inherit_doc R.MEM_SCRUB] def F.MEM_SCRUB_scrub1 (n : Nat) : Fld := ⟨R.MEM_SCRUB n, 0, 8⟩
@[inherit_doc R.MEM_SCRUB] def F.MEM_SCRUB_scrub2 (n : Nat) : Fld := ⟨R.MEM_SCRUB n, 8, 8⟩
/-- MEM_HBM_CE: HBM corrected errors (14_buffer_tiers). -/
def R.MEM_HBM_CE (n : Nat) : Nat := 0x1500014 + 16777216 * n
@[inherit_doc R.MEM_HBM_CE] def F.MEM_HBM_CE_count (n : Nat) : Fld := ⟨R.MEM_HBM_CE n, 0, 32⟩
/-- MEM_HBM_UE: HBM uncorrectable errors (14_buffer_tiers). -/
def R.MEM_HBM_UE (n : Nat) : Nat := 0x1500018 + 16777216 * n
@[inherit_doc R.MEM_HBM_UE] def F.MEM_HBM_UE_count (n : Nat) : Fld := ⟨R.MEM_HBM_UE n, 0, 32⟩
/-- MEM_QUAR: Quarantined units in tier t (14_buffer_tiers). -/
def R.MEM_QUAR (n t : Nat) : Nat := 0x150001c + 16777216 * n + 4 * t
@[inherit_doc R.MEM_QUAR] def F.MEM_QUAR_units (n t : Nat) : Fld := ⟨R.MEM_QUAR n t, 0, 24⟩
/-- MEM_HBM_TEMP: Stack temperature (14_buffer_tiers). -/
def R.MEM_HBM_TEMP (n : Nat) : Nat := 0x1500028 + 16777216 * n
@[inherit_doc R.MEM_HBM_TEMP] def F.MEM_HBM_TEMP_temp (n : Nat) : Fld := ⟨R.MEM_HBM_TEMP n, 0, 16⟩
/-- MEM_CH_STATUS: Channel state (14_buffer_tiers). -/
def R.MEM_CH_STATUS (n c : Nat) : Nat := 0x1500040 + 16777216 * n + 32 * c
@[inherit_doc R.MEM_CH_STATUS] def F.MEM_CH_STATUS_present (n c : Nat) : Fld := ⟨R.MEM_CH_STATUS n c, 0, 1⟩
@[inherit_doc R.MEM_CH_STATUS] def F.MEM_CH_STATUS_trained (n c : Nat) : Fld := ⟨R.MEM_CH_STATUS n c, 1, 1⟩
@[inherit_doc R.MEM_CH_STATUS] def F.MEM_CH_STATUS_type (n c : Nat) : Fld := ⟨R.MEM_CH_STATUS n c, 2, 1⟩
@[inherit_doc R.MEM_CH_STATUS] def F.MEM_CH_STATUS_failed (n c : Nat) : Fld := ⟨R.MEM_CH_STATUS n c, 3, 1⟩
@[inherit_doc R.MEM_CH_STATUS] def F.MEM_CH_STATUS_rate (n c : Nat) : Fld := ⟨R.MEM_CH_STATUS n c, 8, 8⟩
@[inherit_doc R.MEM_CH_STATUS] def F.MEM_CH_STATUS_gib (n c : Nat) : Fld := ⟨R.MEM_CH_STATUS n c, 16, 8⟩
/-- MEM_CH_CE: Corrected errors (14_buffer_tiers). -/
def R.MEM_CH_CE (n c : Nat) : Nat := 0x1500044 + 16777216 * n + 32 * c
@[inherit_doc R.MEM_CH_CE] def F.MEM_CH_CE_count (n c : Nat) : Fld := ⟨R.MEM_CH_CE n c, 0, 32⟩
/-- MEM_CH_UE: Uncorrectable errors (14_buffer_tiers). -/
def R.MEM_CH_UE (n c : Nat) : Nat := 0x1500048 + 16777216 * n + 32 * c
@[inherit_doc R.MEM_CH_UE] def F.MEM_CH_UE_count (n c : Nat) : Fld := ⟨R.MEM_CH_UE n c, 0, 32⟩
/-- MEM_CH_SCRUB: Scrub progress (14_buffer_tiers). -/
def R.MEM_CH_SCRUB (n c : Nat) : Nat := 0x150004c + 16777216 * n + 32 * c
@[inherit_doc R.MEM_CH_SCRUB] def F.MEM_CH_SCRUB_pct (n c : Nat) : Fld := ⟨R.MEM_CH_SCRUB n c, 0, 7⟩
@[inherit_doc R.MEM_CH_SCRUB] def F.MEM_CH_SCRUB_passes (n c : Nat) : Fld := ⟨R.MEM_CH_SCRUB n c, 16, 16⟩
/-- MEM_CH_TEMP: DIMM temperature (14_buffer_tiers). -/
def R.MEM_CH_TEMP (n c : Nat) : Nat := 0x1500050 + 16777216 * n + 32 * c
@[inherit_doc R.MEM_CH_TEMP] def F.MEM_CH_TEMP_temp (n c : Nat) : Fld := ⟨R.MEM_CH_TEMP n c, 0, 16⟩
/-- RPM_EVENT: Sticky events (19_recorder_and_monitors). -/
def R.RPM_EVENT (n : Nat) : Nat := 0x1600004 + 16777216 * n
@[inherit_doc R.RPM_EVENT] def F.RPM_EVENT_ovf (n : Nat) : Fld := ⟨R.RPM_EVENT n, 0, 1⟩
@[inherit_doc R.RPM_EVENT] def F.RPM_EVENT_win_end (n : Nat) : Fld := ⟨R.RPM_EVENT n, 1, 1⟩
@[inherit_doc R.RPM_EVENT] def F.RPM_EVENT_sel_blocked (n : Nat) : Fld := ⟨R.RPM_EVENT n, 2, 1⟩
@[inherit_doc R.RPM_EVENT] def F.RPM_EVENT_fault (n : Nat) : Fld := ⟨R.RPM_EVENT n, 3, 1⟩
/-- RPM_INT_EN: Interrupt enables (19_recorder_and_monitors). -/
def R.RPM_INT_EN (n : Nat) : Nat := 0x1600008 + 16777216 * n
@[inherit_doc R.RPM_INT_EN] def F.RPM_INT_EN_enable (n : Nat) : Fld := ⟨R.RPM_INT_EN n, 0, 4⟩
/-- RPM_OVF: Overflow bits per counter (19_recorder_and_monitors). -/
def R.RPM_OVF (n : Nat) : Nat := 0x1600010 + 16777216 * n
@[inherit_doc R.RPM_OVF] def F.RPM_OVF_ovf (n : Nat) : Fld := ⟨R.RPM_OVF n, 0, 32⟩
/-- RPM_FAULT: First uncontained fault (RPM only) (19_recorder_and_monitors). -/
def R.RPM_FAULT (n : Nat) : Nat := 0x1600400 + 16777216 * n
@[inherit_doc R.RPM_FAULT] def F.RPM_FAULT_block (n : Nat) : Fld := ⟨R.RPM_FAULT n, 0, 8⟩
@[inherit_doc R.RPM_FAULT] def F.RPM_FAULT_code (n : Nat) : Fld := ⟨R.RPM_FAULT n, 8, 8⟩
@[inherit_doc R.RPM_FAULT] def F.RPM_FAULT_valid (n : Nat) : Fld := ⟨R.RPM_FAULT n, 31, 1⟩
/-- RPM_FAULT_CELL: Its cell (19_recorder_and_monitors). -/
def R.RPM_FAULT_CELL (n : Nat) : Nat := 0x1600404 + 16777216 * n
@[inherit_doc R.RPM_FAULT_CELL] def F.RPM_FAULT_CELL_cell (n : Nat) : Fld := ⟨R.RPM_FAULT_CELL n, 0, 16⟩
/-- RPM_FAULT_COUNT: Faults reported to FLT (19_recorder_and_monitors). -/
def R.RPM_FAULT_COUNT (n : Nat) : Nat := 0x1600408 + 16777216 * n
@[inherit_doc R.RPM_FAULT_COUNT] def F.RPM_FAULT_COUNT_count (n : Nat) : Fld := ⟨R.RPM_FAULT_COUNT n, 0, 32⟩
/-- RPM_CE_COUNT: Corrected errors in the region's cells (19_recorder_and_monitors). -/
def R.RPM_CE_COUNT (n : Nat) : Nat := 0x160040c + 16777216 * n
@[inherit_doc R.RPM_CE_COUNT] def F.RPM_CE_COUNT_count (n : Nat) : Fld := ⟨R.RPM_CE_COUNT n, 0, 32⟩
/-- RCTR_SEL: Counter in the selection window (19_recorder_and_monitors). -/
def R.RCTR_SEL (n : Nat) : Nat := 0x1600200 + 16777216 * n
@[inherit_doc R.RCTR_SEL] def F.RCTR_SEL_ctr (n : Nat) : Fld := ⟨R.RCTR_SEL n, 0, 5⟩
/-- RCTR_SRC: Block, event, qualifier kind, window (19_recorder_and_monitors). -/
def R.RCTR_SRC (n : Nat) : Nat := 0x1600204 + 16777216 * n
@[inherit_doc R.RCTR_SRC] def F.RCTR_SRC_block (n : Nat) : Fld := ⟨R.RCTR_SRC n, 0, 8⟩
@[inherit_doc R.RCTR_SRC] def F.RCTR_SRC_event (n : Nat) : Fld := ⟨R.RCTR_SRC n, 8, 8⟩
@[inherit_doc R.RCTR_SRC] def F.RCTR_SRC_qkind (n : Nat) : Fld := ⟨R.RCTR_SRC n, 16, 3⟩
@[inherit_doc R.RCTR_SRC] def F.RCTR_SRC_win (n : Nat) : Fld := ⟨R.RCTR_SRC n, 24, 8⟩
/-- RCTR_QVAL: Qualifier value (19_recorder_and_monitors). -/
def R.RCTR_QVAL (n : Nat) : Nat := 0x1600208 + 16777216 * n
@[inherit_doc R.RCTR_QVAL] def F.RCTR_QVAL_bits (n : Nat) : Fld := ⟨R.RCTR_QVAL n, 0, 32⟩
/-- RCTR_QMASK: Qualifier mask (19_recorder_and_monitors). -/
def R.RCTR_QMASK (n : Nat) : Nat := 0x160020c + 16777216 * n
@[inherit_doc R.RCTR_QMASK] def F.RCTR_QMASK_bits (n : Nat) : Fld := ⟨R.RCTR_QMASK n, 0, 32⟩
/-- RCTR_SEAL: Seal for the selection group (19_recorder_and_monitors). -/
def R.RCTR_SEAL (n : Nat) : Nat := 0x1600210 + 16777216 * n
@[inherit_doc R.RCTR_SEAL] def F.RCTR_SEAL_seal (n : Nat) : Fld := ⟨R.RCTR_SEAL n, 0, 1⟩
@[inherit_doc R.RCTR_SEAL] def F.RCTR_SEAL_abandon (n : Nat) : Fld := ⟨R.RCTR_SEAL n, 1, 1⟩
@[inherit_doc R.RCTR_SEAL] def F.RCTR_SEAL_state (n : Nat) : Fld := ⟨R.RCTR_SEAL n, 4, 2⟩
@[inherit_doc R.RCTR_SEAL] def F.RCTR_SEAL_result (n : Nat) : Fld := ⟨R.RCTR_SEAL n, 8, 4⟩
@[inherit_doc R.RCTR_SEAL] def F.RCTR_SEAL_field (n : Nat) : Fld := ⟨R.RCTR_SEAL n, 16, 8⟩
@[inherit_doc R.RCTR_SEAL] def F.RCTR_SEAL_rule (n : Nat) : Fld := ⟨R.RCTR_SEAL n, 24, 8⟩
/-- RCTR_LIVE: Live value (19_recorder_and_monitors). -/
def R.RCTR_LIVE (n c : Nat) : Nat := 0x1601000 + 16777216 * n + 32 * c
@[inherit_doc R.RCTR_LIVE] def F.RCTR_LIVE_count (n c : Nat) : Fld := ⟨R.RCTR_LIVE n c, 0, 64⟩
/-- RCTR_SNAP: Snapshot value (19_recorder_and_monitors). -/
def R.RCTR_SNAP (n c : Nat) : Nat := 0x1601008 + 16777216 * n + 32 * c
@[inherit_doc R.RCTR_SNAP] def F.RCTR_SNAP_count (n c : Nat) : Fld := ⟨R.RCTR_SNAP n c, 0, 64⟩
/-- RCTR_WRES: Last window result (19_recorder_and_monitors). -/
def R.RCTR_WRES (n c : Nat) : Nat := 0x1601010 + 16777216 * n + 32 * c
@[inherit_doc R.RCTR_WRES] def F.RCTR_WRES_count (n c : Nat) : Fld := ⟨R.RCTR_WRES n c, 0, 64⟩
/-- RCTR_CTRL: Enable (19_recorder_and_monitors). -/
def R.RCTR_CTRL (n c : Nat) : Nat := 0x1601018 + 16777216 * n + 32 * c
@[inherit_doc R.RCTR_CTRL] def F.RCTR_CTRL_en (n c : Nat) : Fld := ⟨R.RCTR_CTRL n c, 0, 1⟩
@[inherit_doc R.RCTR_CTRL] def F.RCTR_CTRL_int_en (n c : Nat) : Fld := ⟨R.RCTR_CTRL n c, 1, 1⟩

end Sys2Proof.Machine
end

