-- ==== Sys2Proof/Machine/RegMap.lean ====
section
/-!
DEFINITION. The register map as data: for every register of the block chapters its BAR0 offset, its instance counts
and strides, its width, and for every field its access code (R7), its staging (ST, AG), its /P0 mark and the image section
that governs it (R5, R6). What an access of R7 to R9 and R28 to R30 does is read off these rows. The rows are in pieces,
one per block, joined at the end.
-/
namespace Sys2Proof.Machine

/-- Access codes of R7. -/
inductive Acc where
  | rw | ro | wo | w1c | rc | sc
  deriving DecidableEq, Repr

/-- Where a write of the field goes (R7): at once, to the staged bank (ST), or to its agreement group (AG). -/
inductive Stage where
  | now | st | ag
  deriving DecidableEq, Repr

/-- One row of a field table: place, access code, staging, /P0 mark, governing section (0 none). -/
structure FieldRow where
  lo : Nat
  w : Nat
  acc : Acc
  stage : Stage
  p0 : Bool
  sec : Nat
  deriving DecidableEq, Repr

/-- One register: BAR0 offset of its first instance, (count, stride) of each index, 64-bit pair or not, its fields. -/
structure RegRow where
  base : Nat
  dims : List (Nat × Nat)
  pair : Bool
  fields : List FieldRow
  deriving DecidableEq, Repr

/-- Registers of ACT. -/
def regRowsACT0 : List RegRow := [
  -- ACT_CTRL
  ⟨0x300000, [(2, 4096)], false, [⟨0, 1, .rw, .st, false, 18⟩, ⟨1, 1, .rw, .now, true, 0⟩, ⟨2, 1, .rw, .st, false, 18⟩]⟩,
  -- ACT_STATE
  ⟨0x300004, [(2, 4096)], false, [⟨0, 3, .ro, .now, false, 0⟩, ⟨8, 6, .ro, .now, false, 0⟩, ⟨14, 1, .ro, .now, false, 0⟩, ⟨15, 1, .ro, .now, false, 0⟩, ⟨16, 1, .ro, .now, false, 0⟩]⟩,
  -- ACT_TID
  ⟨0x300008, [(2, 4096)], false, [⟨0, 16, .ro, .now, false, 0⟩, ⟨16, 16, .ro, .now, false, 0⟩]⟩,
  -- ACT_TIMER_A
  ⟨0x30000c, [(2, 4096)], false, [⟨0, 16, .rw, .now, false, 18⟩, ⟨16, 16, .rw, .now, false, 18⟩]⟩,
  -- ACT_TIMER_B
  ⟨0x300010, [(2, 4096)], false, [⟨0, 8, .rw, .now, false, 18⟩, ⟨8, 8, .rw, .now, false, 18⟩]⟩,
  -- ACT_SKEW_CFG
  ⟨0x300014, [(2, 4096)], false, [⟨0, 16, .rw, .now, false, 18⟩, ⟨16, 8, .rw, .now, false, 18⟩]⟩,
  -- ACT_ROOT_SLOT
  ⟨0x300018, [(2, 4096)], false, [⟨0, 8, .rw, .now, true, 0⟩, ⟨8, 8, .rw, .now, true, 0⟩]⟩,
  -- ACT_HOLD
  ⟨0x30001c, [(2, 4096)], false, [⟨0, 1, .ro, .now, false, 0⟩, ⟨1, 1, .sc, .now, true, 0⟩]⟩,
  -- ACT_CAUSE
  ⟨0x300020, [(2, 4096)], false, [⟨0, 4, .ro, .now, false, 0⟩]⟩,
  -- ACT_REG_FN
  ⟨0x300024, [(2, 4096)], true, [⟨0, 48, .ro, .now, false, 0⟩]⟩,
  -- ACT_LAST_SKEW
  ⟨0x30002c, [(2, 4096)], false, [⟨0, 32, .ro, .now, false, 0⟩]⟩,
  -- ACT_ANN_COUNT
  ⟨0x300030, [(2, 4096)], false, [⟨0, 16, .rc, .now, false, 0⟩, ⟨16, 4, .ro, .now, false, 0⟩]⟩]

/-- Registers of ACT. -/
def regRowsACT1 : List RegRow := [
  -- ACT_LCM_RX
  ⟨0x300034, [(2, 4096)], false, [⟨0, 32, .rc, .now, false, 0⟩]⟩,
  -- ACT_LCM_TX
  ⟨0x300038, [(2, 4096)], false, [⟨0, 32, .rc, .now, false, 0⟩]⟩,
  -- ACT_LCM_UNKNOWN
  ⟨0x30003c, [(2, 4096)], false, [⟨0, 32, .rc, .now, false, 0⟩]⟩,
  -- ACT_EVENT
  ⟨0x300040, [(2, 4096)], false, [⟨0, 1, .w1c, .now, false, 0⟩, ⟨1, 1, .w1c, .now, false, 0⟩, ⟨2, 1, .w1c, .now, false, 0⟩, ⟨3, 1, .w1c, .now, false, 0⟩, ⟨4, 1, .w1c, .now, false, 0⟩, ⟨5, 1, .w1c, .now, false, 0⟩, ⟨6, 1, .w1c, .now, false, 0⟩, ⟨7, 1, .w1c, .now, false, 0⟩]⟩,
  -- ACT_INT_EN
  ⟨0x300044, [(2, 4096)], false, [⟨0, 8, .rw, .now, false, 0⟩]⟩,
  -- ACT_LSI
  ⟨0x302000, [], true, [⟨0, 64, .ro, .now, false, 0⟩]⟩,
  -- ACT_EQD
  ⟨0x310000, [(2, 256), (64, 4)], false, [⟨0, 30, .ro, .now, false, 0⟩, ⟨31, 1, .ro, .now, false, 0⟩]⟩]

/-- Registers of ACW. -/
def regRowsACW0 : List RegRow := [
  -- ACW_SEL
  ⟨0x60000, [], false, [⟨0, 8, .rw, .now, true, 0⟩]⟩,
  -- ACW_BASE
  ⟨0x60004, [], false, [⟨0, 28, .rw, .ag, true, 17⟩]⟩,
  -- ACW_LIMIT
  ⟨0x60008, [], false, [⟨0, 29, .rw, .ag, true, 17⟩]⟩,
  -- ACW_REQ
  ⟨0x6000c, [], false, [⟨0, 32, .rw, .ag, true, 17⟩]⟩,
  -- ACW_FLAGS
  ⟨0x60010, [], false, [⟨0, 1, .rw, .ag, true, 17⟩, ⟨1, 1, .rw, .ag, true, 17⟩, ⟨2, 1, .rw, .ag, true, 17⟩]⟩,
  -- ACW_SEAL
  ⟨0x60014, [], false, [⟨0, 1, .sc, .now, false, 0⟩, ⟨1, 1, .sc, .now, false, 0⟩, ⟨4, 2, .ro, .now, false, 0⟩, ⟨8, 4, .ro, .now, false, 0⟩, ⟨16, 8, .ro, .now, false, 0⟩, ⟨24, 8, .ro, .now, false, 0⟩]⟩,
  -- ACW_DENY
  ⟨0x60018, [], false, [⟨0, 32, .rc, .now, false, 0⟩]⟩,
  -- ACW_DENY_ADDR
  ⟨0x6001c, [], false, [⟨0, 28, .ro, .now, false, 0⟩, ⟨31, 1, .ro, .now, false, 0⟩]⟩,
  -- ACW_DENY_REQ
  ⟨0x60020, [], false, [⟨0, 5, .ro, .now, false, 0⟩]⟩,
  -- ACW_EVENT
  ⟨0x60024, [], false, [⟨0, 1, .w1c, .now, false, 0⟩, ⟨1, 1, .w1c, .now, false, 0⟩]⟩,
  -- ACW_INT_EN
  ⟨0x60028, [], false, [⟨0, 2, .rw, .now, false, 0⟩]⟩,
  -- ACW_MBX_OWNER
  ⟨0x60100, [(64, 4)], false, [⟨0, 8, .rw, .st, true, 17⟩]⟩]

/-- Registers of ACW. -/
def regRowsACW1 : List RegRow := [
  -- ACW_TX_OWNER
  ⟨0x60200, [(64, 4)], false, [⟨0, 8, .rw, .st, true, 17⟩]⟩,
  -- ACW_RX_OWNER
  ⟨0x60300, [(64, 4)], false, [⟨0, 8, .rw, .st, true, 17⟩]⟩]

/-- Registers of ASH. -/
def regRowsASH : List RegRow := [
  -- ASH_STATUS
  ⟨0xb0000, [], false, [⟨0, 1, .ro, .now, false, 0⟩, ⟨1, 1, .ro, .now, false, 0⟩, ⟨2, 1, .ro, .now, false, 0⟩, ⟨3, 1, .ro, .now, false, 0⟩, ⟨4, 1, .ro, .now, false, 0⟩]⟩,
  -- ASH_LAST
  ⟨0xb0004, [], false, [⟨0, 1, .ro, .now, false, 0⟩, ⟨1, 1, .ro, .now, false, 0⟩, ⟨8, 2, .ro, .now, false, 0⟩, ⟨15, 1, .ro, .now, false, 0⟩]⟩,
  -- ASH_LAST_FN
  ⟨0xb0008, [], true, [⟨0, 48, .ro, .now, false, 0⟩]⟩,
  -- ASH_EVENT
  ⟨0xb0010, [], false, [⟨0, 1, .w1c, .now, false, 0⟩, ⟨1, 1, .w1c, .now, false, 0⟩, ⟨2, 1, .w1c, .now, false, 0⟩]⟩,
  -- ASH_INT_EN
  ⟨0xb0014, [], false, [⟨0, 3, .rw, .now, false, 0⟩]⟩]

/-- Registers of BND. -/
def regRowsBND0 : List RegRow := [
  -- BND_POOL
  ⟨0x500000, [], false, [⟨0, 5, .ro, .now, false, 3⟩, ⟨8, 5, .ro, .now, false, 3⟩]⟩,
  -- BND_POOL_USE
  ⟨0x500004, [], false, [⟨0, 16, .ro, .now, false, 0⟩, ⟨16, 16, .ro, .now, false, 0⟩]⟩,
  -- BND_POOL_PEAK
  ⟨0x500008, [], false, [⟨0, 16, .rc, .now, false, 0⟩, ⟨16, 16, .rc, .now, false, 0⟩]⟩,
  -- BND_EVENT
  ⟨0x50000c, [], false, [⟨0, 1, .w1c, .now, false, 0⟩, ⟨1, 1, .w1c, .now, false, 0⟩, ⟨2, 1, .w1c, .now, false, 0⟩, ⟨3, 1, .w1c, .now, false, 0⟩, ⟨4, 1, .w1c, .now, false, 0⟩, ⟨5, 1, .w1c, .now, false, 0⟩, ⟨6, 1, .w1c, .now, false, 0⟩]⟩,
  -- BND_INT_EN
  ⟨0x500010, [], false, [⟨0, 7, .rw, .now, false, 0⟩]⟩,
  -- BND_DISC
  ⟨0x500020, [(4, 8)], true, [⟨0, 64, .ro, .now, false, 0⟩]⟩,
  -- BND_DG_MEMBERS
  ⟨0x510000, [(2, 2048), (32, 64)], true, [⟨0, 64, .ro, .now, false, 3⟩]⟩,
  -- BND_DG_STATUS
  ⟨0x510008, [(2, 2048), (32, 64)], false, [⟨0, 1, .ro, .now, false, 3⟩, ⟨1, 1, .ro, .now, false, 0⟩, ⟨2, 1, .ro, .now, false, 0⟩, ⟨8, 7, .ro, .now, false, 0⟩, ⟨16, 5, .ro, .now, false, 18⟩]⟩,
  -- BND_DG_RP
  ⟨0x51000c, [(2, 2048), (32, 64)], false, [⟨0, 32, .ro, .now, false, 0⟩]⟩,
  -- BND_DG_DOWN
  ⟨0x510010, [(2, 2048), (32, 64)], true, [⟨0, 64, .ro, .now, false, 0⟩]⟩,
  -- BND_DG_SEG
  ⟨0x510018, [(2, 2048), (32, 64)], true, [⟨0, 64, .ro, .now, false, 0⟩]⟩,
  -- BND_DG_MISSING
  ⟨0x510020, [(2, 2048), (32, 64)], false, [⟨0, 32, .rc, .now, false, 0⟩]⟩]

/-- Registers of BND. -/
def regRowsBND1 : List RegRow := [
  -- BND_DG_LATE
  ⟨0x510024, [(2, 2048), (32, 64)], false, [⟨0, 32, .rc, .now, false, 0⟩]⟩,
  -- BND_DG_RESYNC
  ⟨0x510028, [(2, 2048), (32, 64)], false, [⟨0, 32, .rc, .now, false, 0⟩]⟩,
  -- BND_DG_SKEW
  ⟨0x51002c, [(2, 2048), (32, 64)], false, [⟨0, 16, .rc, .now, false, 0⟩]⟩,
  -- BND_DG_USE
  ⟨0x510030, [(2, 2048), (32, 64)], false, [⟨0, 16, .ro, .now, false, 0⟩]⟩,
  -- BND_UG_MEMBERS
  ⟨0x520000, [(2, 2048), (32, 64)], true, [⟨0, 64, .ro, .now, false, 3⟩]⟩,
  -- BND_UG_STATUS
  ⟨0x520008, [(2, 2048), (32, 64)], false, [⟨0, 1, .ro, .now, false, 3⟩, ⟨16, 10, .ro, .now, false, 3⟩]⟩,
  -- BND_UG_NEXT
  ⟨0x52000c, [(2, 2048), (32, 64)], false, [⟨0, 32, .ro, .now, false, 0⟩]⟩,
  -- BND_UG_SEG
  ⟨0x520010, [(2, 2048), (32, 64)], true, [⟨0, 64, .ro, .now, false, 0⟩]⟩,
  -- BND_UG_WIN
  ⟨0x520018, [(2, 2048), (32, 64)], false, [⟨0, 32, .rc, .now, false, 0⟩]⟩,
  -- BND_UG_NONMEMBER
  ⟨0x52001c, [(2, 2048), (32, 64)], false, [⟨0, 32, .rc, .now, false, 0⟩]⟩,
  -- BND_AID_GROUP
  ⟨0x530000, [(512, 4)], false, [⟨0, 5, .ro, .now, false, 3⟩, ⟨5, 1, .ro, .now, false, 3⟩, ⟨8, 5, .ro, .now, false, 3⟩, ⟨13, 1, .ro, .now, false, 3⟩]⟩]

/-- Registers of BPM. -/
def regRowsBPM0 : List RegRow := [
  -- BPM_STATUS
  ⟨0x1400000, [(4, 16777216)], false, [⟨0, 2, .ro, .now, false, 0⟩, ⟨2, 2, .ro, .now, false, 0⟩, ⟨4, 2, .ro, .now, false, 0⟩, ⟨6, 2, .ro, .now, false, 0⟩, ⟨8, 1, .ro, .now, false, 0⟩, ⟨9, 1, .ro, .now, false, 0⟩]⟩,
  -- BPM_EVENT
  ⟨0x1400004, [(4, 16777216)], false, [⟨0, 1, .w1c, .now, false, 0⟩, ⟨1, 1, .w1c, .now, false, 0⟩, ⟨2, 1, .w1c, .now, false, 0⟩, ⟨3, 1, .w1c, .now, false, 0⟩, ⟨4, 1, .w1c, .now, false, 0⟩, ⟨5, 1, .w1c, .now, false, 0⟩, ⟨6, 1, .w1c, .now, false, 0⟩, ⟨7, 1, .w1c, .now, false, 0⟩, ⟨8, 1, .w1c, .now, false, 0⟩, ⟨9, 1, .w1c, .now, false, 0⟩, ⟨10, 1, .w1c, .now, false, 0⟩, ⟨11, 1, .w1c, .now, false, 0⟩]⟩,
  -- BPM_INT_EN
  ⟨0x1400008, [(4, 16777216)], false, [⟨0, 12, .rw, .now, false, 0⟩]⟩,
  -- BPM_RET_OWNER
  ⟨0x140000c, [(4, 16777216)], false, [⟨0, 10, .ro, .now, false, 11⟩]⟩,
  -- BPM_POOL_SIZE
  ⟨0x1400010, [(4, 16777216), (3, 4)], false, [⟨0, 24, .ro, .now, false, 0⟩]⟩,
  -- BPM_POOL_USE
  ⟨0x1400020, [(4, 16777216), (3, 4)], false, [⟨0, 24, .ro, .now, false, 0⟩]⟩,
  -- BPM_POOL_PEAK
  ⟨0x1400030, [(4, 16777216), (3, 4)], false, [⟨0, 24, .rc, .now, false, 0⟩]⟩,
  -- BPM_POOL_THR
  ⟨0x1400040, [(4, 16777216), (3, 4)], false, [⟨0, 7, .rw, .st, false, 12⟩, ⟨8, 7, .rw, .st, false, 12⟩, ⟨16, 7, .rw, .st, false, 12⟩, ⟨24, 5, .rw, .st, false, 12⟩]⟩,
  -- BPM_ARB
  ⟨0x140004c, [(4, 16777216), (3, 4)], false, [⟨0, 8, .rw, .st, false, 12⟩, ⟨8, 8, .rw, .st, false, 12⟩, ⟨16, 8, .rw, .st, false, 12⟩, ⟨24, 8, .rw, .st, false, 12⟩]⟩,
  -- BPM_RA_LATE
  ⟨0x1400058, [(4, 16777216)], false, [⟨0, 32, .rc, .now, false, 0⟩]⟩,
  -- BPM_DISC
  ⟨0x1400060, [(4, 16777216), (8, 8)], true, [⟨0, 64, .ro, .now, false, 0⟩]⟩,
  -- BPM_MIG
  ⟨0x14000a0, [(4, 16777216), (5, 8)], true, [⟨0, 64, .ro, .now, false, 0⟩]⟩]

/-- Registers of BPM. -/
def regRowsBPM1 : List RegRow := [
  -- BPM_OWN_SEL
  ⟨0x1400100, [(4, 16777216)], false, [⟨0, 10, .rw, .now, false, 0⟩]⟩,
  -- BPM_OWN_CFG
  ⟨0x1400104, [(4, 16777216)], false, [⟨0, 1, .rw, .st, false, 11⟩, ⟨1, 1, .rw, .st, false, 11⟩, ⟨8, 8, .rw, .st, false, 11⟩, ⟨16, 4, .rw, .st, false, 11⟩]⟩,
  -- BPM_OWN_FC
  ⟨0x1400108, [(4, 16777216)], false, [⟨0, 5, .rw, .st, false, 11⟩, ⟨5, 1, .rw, .st, false, 11⟩, ⟨8, 8, .rw, .st, false, 11⟩, ⟨16, 16, .rw, .st, false, 11⟩]⟩,
  -- BPM_OWN_TONE
  ⟨0x140010c, [(4, 16777216)], false, [⟨0, 32, .rw, .st, false, 11⟩]⟩,
  -- BPM_OWN_RES
  ⟨0x1400110, [(4, 16777216), (3, 8)], false, [⟨0, 24, .rw, .ag, false, 11⟩]⟩,
  -- BPM_OWN_CAP
  ⟨0x1400114, [(4, 16777216), (3, 8)], false, [⟨0, 24, .rw, .ag, false, 11⟩]⟩,
  -- BPM_OWN_SEAL
  ⟨0x1400128, [(4, 16777216)], false, [⟨0, 1, .sc, .now, false, 0⟩, ⟨1, 1, .sc, .now, false, 0⟩, ⟨4, 2, .ro, .now, false, 0⟩, ⟨8, 4, .ro, .now, false, 0⟩, ⟨16, 8, .ro, .now, false, 0⟩, ⟨24, 8, .ro, .now, false, 0⟩]⟩,
  -- BPM_OWN_USE
  ⟨0x140012c, [(4, 16777216), (3, 4)], false, [⟨0, 24, .ro, .now, false, 0⟩]⟩,
  -- BPM_OWN_FAULT
  ⟨0x1400138, [(4, 16777216)], false, [⟨0, 8, .ro, .now, false, 0⟩, ⟨8, 1, .ro, .now, false, 0⟩]⟩,
  -- BPM_OWN_RESTORE
  ⟨0x140013c, [(4, 16777216)], false, [⟨0, 10, .wo, .now, false, 0⟩, ⟨31, 1, .sc, .now, false, 0⟩]⟩,
  -- BPM_HOP_CMD
  ⟨0x1400200, [(4, 16777216)], false, [⟨0, 3, .rw, .now, false, 0⟩, ⟨8, 8, .rw, .now, false, 0⟩, ⟨31, 1, .sc, .now, false, 0⟩]⟩,
  -- BPM_HOP_HANDLE
  ⟨0x1400204, [(4, 16777216)], true, [⟨0, 48, .rw, .now, false, 0⟩]⟩]

/-- Registers of BPM. -/
def regRowsBPM2 : List RegRow := [
  -- BPM_HOP_OWNER
  ⟨0x140020c, [(4, 16777216)], false, [⟨0, 12, .rw, .now, false, 0⟩]⟩,
  -- BPM_HOP_RESULT
  ⟨0x1400210, [(4, 16777216)], false, [⟨0, 4, .ro, .now, false, 0⟩, ⟨4, 1, .ro, .now, false, 0⟩, ⟨8, 8, .ro, .now, false, 0⟩]⟩,
  -- BPM_PROF_CFG
  ⟨0x1400300, [(4, 16777216), (16, 16)], false, [⟨0, 1, .rw, .st, false, 12⟩, ⟨1, 1, .ro, .now, false, 12⟩]⟩,
  -- BPM_PROF_HEAD
  ⟨0x1400304, [(4, 16777216), (16, 16)], false, [⟨0, 25, .rw, .st, false, 12⟩]⟩,
  -- BPM_PROF_AGE0
  ⟨0x1400308, [(4, 16777216), (16, 16)], false, [⟨0, 20, .rw, .st, false, 12⟩]⟩,
  -- BPM_PROF_AGE1
  ⟨0x140030c, [(4, 16777216), (16, 16)], false, [⟨0, 22, .rw, .st, false, 12⟩]⟩,
  -- BPM_HOP_DATA
  ⟨0x1400400, [(4, 16777216), (64, 4)], false, [⟨0, 32, .ro, .now, false, 0⟩]⟩,
  -- BPM_Q_OWNER
  ⟨0x1410000, [(4, 16777216), (16384, 4)], false, [⟨0, 10, .rw, .st, false, 11⟩]⟩]

/-- Registers of CMC. -/
def regRowsCMC0 : List RegRow := [
  -- CMC_LANE_EN
  ⟨0x1000000, [(4, 16777216)], false, [⟨0, 32, .rw, .ag, false, 1⟩]⟩,
  -- CMC_PORT_SEAL
  ⟨0x1000004, [(4, 16777216)], false, [⟨0, 1, .sc, .now, false, 0⟩, ⟨1, 1, .sc, .now, false, 0⟩, ⟨4, 2, .ro, .now, false, 0⟩, ⟨8, 4, .ro, .now, false, 0⟩, ⟨16, 8, .ro, .now, false, 0⟩, ⟨24, 8, .ro, .now, false, 0⟩]⟩,
  -- CMC_SEAL_DROP
  ⟨0x1000008, [(4, 16777216)], false, [⟨0, 32, .rc, .now, false, 0⟩]⟩,
  -- CMC_DISC
  ⟨0x1000040, [(4, 16777216), (9, 8)], true, [⟨0, 64, .ro, .now, false, 0⟩]⟩,
  -- CMC_PORT_CFG
  ⟨0x1001000, [(4, 16777216), (32, 64)], false, [⟨0, 4, .rw, .ag, false, 1⟩, ⟨4, 1, .rw, .ag, false, 1⟩, ⟨5, 1, .rw, .ag, false, 1⟩]⟩,
  -- CMC_PORT_MAC
  ⟨0x1001004, [(4, 16777216), (32, 64)], false, [⟨0, 15, .rw, .now, false, 18⟩, ⟨16, 1, .rw, .now, false, 18⟩]⟩,
  -- CMC_PORT_FC
  ⟨0x1001008, [(4, 16777216), (32, 64)], false, [⟨0, 2, .rw, .now, false, 18⟩, ⟨8, 8, .rw, .now, false, 18⟩, ⟨16, 16, .rw, .now, false, 18⟩]⟩,
  -- CMC_PORT_PW
  ⟨0x100100c, [(4, 16777216), (32, 64)], false, [⟨0, 14, .rw, .now, false, 18⟩, ⟨16, 16, .rw, .now, false, 18⟩]⟩,
  -- CMC_PORT_STATUS
  ⟨0x1001010, [(4, 16777216), (32, 64)], false, [⟨0, 3, .ro, .now, false, 0⟩, ⟨3, 1, .ro, .now, false, 0⟩, ⟨4, 1, .ro, .now, false, 0⟩, ⟨8, 8, .ro, .now, false, 0⟩, ⟨16, 8, .ro, .now, false, 0⟩, ⟨24, 8, .ro, .now, false, 0⟩]⟩,
  -- CMC_PORT_EVENT
  ⟨0x1001014, [(4, 16777216), (32, 64)], false, [⟨0, 1, .w1c, .now, false, 0⟩, ⟨1, 1, .w1c, .now, false, 0⟩, ⟨2, 1, .w1c, .now, false, 0⟩, ⟨3, 1, .w1c, .now, false, 0⟩, ⟨4, 1, .w1c, .now, false, 0⟩, ⟨5, 1, .w1c, .now, false, 0⟩, ⟨6, 1, .w1c, .now, false, 0⟩]⟩,
  -- CMC_PORT_INT_EN
  ⟨0x1001018, [(4, 16777216), (32, 64)], false, [⟨0, 7, .rw, .now, false, 0⟩]⟩,
  -- CMC_PORT_HALF_LO
  ⟨0x100101c, [(4, 16777216), (32, 64)], false, [⟨0, 32, .w1c, .now, false, 0⟩]⟩]

/-- Registers of CMC. -/
def regRowsCMC1 : List RegRow := [
  -- CMC_PORT_HALF_HI
  ⟨0x1001020, [(4, 16777216), (32, 64)], false, [⟨0, 12, .w1c, .now, false, 0⟩]⟩,
  -- CMC_PW_BREAKS
  ⟨0x1001024, [(4, 16777216), (32, 64)], false, [⟨0, 32, .rc, .now, false, 0⟩]⟩,
  -- CMC_LANE_STATUS
  ⟨0x1008000, [(4, 16777216), (32, 32)], false, [⟨0, 1, .ro, .now, false, 0⟩, ⟨1, 1, .ro, .now, false, 0⟩, ⟨2, 1, .ro, .now, false, 0⟩, ⟨3, 1, .ro, .now, false, 0⟩]⟩,
  -- CMC_LANE_TXEQ
  ⟨0x1008004, [(4, 16777216), (32, 32)], false, [⟨0, 3, .rw, .now, false, 18⟩]⟩,
  -- CMC_LANE_SNR
  ⟨0x1008008, [(4, 16777216), (32, 32)], false, [⟨0, 16, .ro, .now, false, 0⟩]⟩,
  -- CMC_STAT
  ⟨0x1040000, [(4, 16777216), (32, 1024), (44, 8)], true, [⟨0, 48, .ro, .now, false, 0⟩]⟩]

/-- Registers of CPL. -/
def regRowsCPL0 : List RegRow := [
  -- CPL_CTRL
  ⟨0xa00000, [], false, [⟨0, 1, .sc, .now, false, 0⟩, ⟨1, 1, .sc, .now, false, 0⟩, ⟨2, 1, .sc, .now, false, 0⟩]⟩,
  -- CPL_STATUS
  ⟨0xa00004, [], false, [⟨0, 3, .ro, .now, false, 0⟩, ⟨4, 1, .ro, .now, false, 0⟩, ⟨5, 1, .ro, .now, false, 0⟩, ⟨8, 8, .ro, .now, false, 0⟩]⟩,
  -- CPL_IMG_VER
  ⟨0xa00008, [(2, 8)], false, [⟨0, 32, .ro, .now, false, 0⟩]⟩,
  -- CPL_IMG_SVN
  ⟨0xa0000c, [(2, 8)], false, [⟨0, 32, .ro, .now, false, 0⟩]⟩,
  -- CPL_WDT
  ⟨0xa00018, [], false, [⟨0, 14, .rw, .now, false, 18⟩, ⟨16, 8, .rw, .now, false, 18⟩]⟩,
  -- CPL_WDT_KICK
  ⟨0xa0001c, [], false, [⟨0, 8, .wo, .now, false, 0⟩]⟩,
  -- CPL_RESETS
  ⟨0xa00020, [], false, [⟨0, 16, .ro, .now, false, 0⟩, ⟨16, 4, .ro, .now, false, 0⟩]⟩,
  -- CPL_MBX_TO
  ⟨0xa00024, [], false, [⟨0, 14, .rw, .now, false, 18⟩]⟩,
  -- CPL_MBX_POST
  ⟨0xa00028, [], false, [⟨0, 6, .wo, .now, false, 0⟩]⟩,
  -- CPL_MBX_ACK
  ⟨0xa0002c, [], false, [⟨0, 6, .wo, .now, false, 0⟩]⟩,
  -- CPL_MBX_DROP
  ⟨0xa00030, [], false, [⟨0, 32, .rc, .now, false, 0⟩]⟩,
  -- CPL_FW_DISP
  ⟨0xa00034, [], false, [⟨0, 8, .wo, .now, false, 0⟩]⟩]

/-- Registers of CPL. -/
def regRowsCPL1 : List RegRow := [
  -- CPL_EVENT
  ⟨0xa00038, [], false, [⟨0, 1, .w1c, .now, false, 0⟩, ⟨1, 1, .w1c, .now, false, 0⟩, ⟨2, 1, .w1c, .now, false, 0⟩, ⟨3, 1, .w1c, .now, false, 0⟩, ⟨4, 1, .w1c, .now, false, 0⟩, ⟨5, 1, .w1c, .now, false, 0⟩]⟩,
  -- CPL_INT_EN
  ⟨0xa0003c, [], false, [⟨0, 6, .rw, .now, false, 0⟩]⟩,
  -- CPL_DISC
  ⟨0xa00040, [(2, 8)], true, [⟨0, 64, .ro, .now, false, 0⟩]⟩,
  -- CPL_SP_HEAD
  ⟨0xa00080, [(4, 16)], false, [⟨0, 13, .ro, .now, false, 0⟩]⟩,
  -- CPL_SP_TAIL
  ⟨0xa00084, [(4, 16)], false, [⟨0, 13, .rw, .now, false, 0⟩]⟩,
  -- CPL_INJ_HEAD
  ⟨0xa00100, [(16, 8)], false, [⟨0, 10, .rw, .now, false, 0⟩]⟩,
  -- CPL_INJ_TAIL
  ⟨0xa00104, [(16, 8)], false, [⟨0, 10, .ro, .now, false, 0⟩]⟩,
  -- CPL_MBX_STATE
  ⟨0xa00200, [(64, 4)], false, [⟨0, 2, .ro, .now, false, 0⟩, ⟨8, 8, .ro, .now, false, 0⟩]⟩,
  -- CPL_MBX_SLOT
  ⟨0xa10000, [(64, 128), (32, 4)], false, [⟨0, 32, .rw, .now, false, 0⟩]⟩]

/-- Registers of DFR. -/
def regRowsDFR0 : List RegRow := [
  -- DFR_CTRL
  ⟨0x200000, [], false, [⟨0, 4, .rw, .now, false, 0⟩]⟩,
  -- DFR_EXC
  ⟨0x200004, [], false, [⟨0, 8, .rw, .ag, false, 18⟩, ⟨8, 8, .rw, .ag, false, 18⟩, ⟨16, 4, .rw, .ag, false, 18⟩]⟩,
  -- DFR_SD_SET
  ⟨0x200008, [], false, [⟨0, 32, .rw, .ag, false, 18⟩]⟩,
  -- DFR_SD_CLR
  ⟨0x20000c, [], false, [⟨0, 32, .rw, .ag, false, 18⟩]⟩,
  -- DFR_THR_SEAL
  ⟨0x200010, [], false, [⟨0, 1, .sc, .now, false, 0⟩, ⟨1, 1, .sc, .now, false, 0⟩, ⟨4, 2, .ro, .now, false, 0⟩, ⟨8, 4, .ro, .now, false, 0⟩, ⟨16, 8, .ro, .now, false, 0⟩, ⟨24, 8, .ro, .now, false, 0⟩]⟩,
  -- DFR_HOME
  ⟨0x200014, [], false, [⟨0, 6, .ro, .now, false, 0⟩, ⟨6, 1, .ro, .now, false, 0⟩, ⟨8, 6, .ro, .now, false, 0⟩, ⟨14, 1, .ro, .now, false, 0⟩]⟩,
  -- DFR_SID_ADDR
  ⟨0x200018, [], false, [⟨0, 15, .rw, .now, false, 0⟩, ⟨16, 1, .rw, .now, false, 0⟩]⟩,
  -- DFR_SID_DATA
  ⟨0x20001c, [], false, [⟨0, 32, .rw, .st, false, 5⟩]⟩,
  -- DFR_REASM_OPEN
  ⟨0x200020, [], false, [⟨0, 13, .ro, .now, false, 0⟩, ⟨16, 13, .ro, .now, false, 0⟩]⟩,
  -- DFR_LCM_BAD
  ⟨0x200024, [], false, [⟨0, 32, .rc, .now, false, 0⟩]⟩,
  -- DFR_DISC
  ⟨0x200040, [(8, 8)], true, [⟨0, 64, .ro, .now, false, 0⟩]⟩,
  -- DFR_CH_STATUS
  ⟨0x210000, [(128, 256)], false, [⟨0, 2, .ro, .now, false, 0⟩, ⟨2, 1, .ro, .now, false, 0⟩, ⟨3, 1, .ro, .now, false, 0⟩, ⟨4, 1, .ro, .now, false, 0⟩, ⟨5, 1, .ro, .now, false, 0⟩, ⟨6, 1, .ro, .now, false, 0⟩, ⟨7, 1, .ro, .now, false, 0⟩, ⟨8, 1, .ro, .now, false, 0⟩, ⟨9, 1, .ro, .now, false, 0⟩, ⟨10, 1, .ro, .now, false, 0⟩]⟩]

/-- Registers of DFR. -/
def regRowsDFR1 : List RegRow := [
  -- DFR_CH_EVENT
  ⟨0x210004, [(128, 256)], false, [⟨0, 7, .w1c, .now, false, 0⟩, ⟨8, 7, .w1c, .now, false, 0⟩, ⟨15, 1, .w1c, .now, false, 0⟩]⟩,
  -- DFR_CH_INT_EN
  ⟨0x210008, [(128, 256)], false, [⟨0, 16, .rw, .now, false, 0⟩]⟩,
  -- DFR_CH_FN
  ⟨0x21000c, [(128, 256)], true, [⟨0, 48, .ro, .now, false, 0⟩]⟩,
  -- DFR_CH_SEG
  ⟨0x210014, [(128, 256)], true, [⟨0, 64, .ro, .now, false, 0⟩]⟩,
  -- DFR_CH_FOREIGN
  ⟨0x21001c, [(128, 256)], true, [⟨0, 64, .ro, .now, false, 0⟩]⟩,
  -- DFR_SEC_CORR
  ⟨0x220000, [(128, 32)], false, [⟨0, 32, .ro, .now, false, 0⟩]⟩,
  -- DFR_SEC_UNCORR
  ⟨0x220004, [(128, 32)], false, [⟨0, 32, .ro, .now, false, 0⟩]⟩,
  -- DFR_SEC_FRAMES
  ⟨0x220008, [(128, 32)], false, [⟨0, 16, .ro, .now, false, 0⟩, ⟨16, 16, .ro, .now, false, 0⟩]⟩,
  -- DFR_SEC_DEF
  ⟨0x22000c, [(128, 32)], false, [⟨0, 7, .ro, .now, false, 0⟩, ⟨7, 1, .ro, .now, false, 0⟩]⟩,
  -- DFR_TRIB_CFG
  ⟨0x230000, [(32, 32)], false, [⟨0, 13, .ro, .now, false, 0⟩, ⟨13, 6, .ro, .now, false, 0⟩, ⟨19, 1, .ro, .now, false, 0⟩, ⟨20, 1, .ro, .now, false, 0⟩, ⟨21, 1, .ro, .now, false, 0⟩]⟩,
  -- DFR_TRIB_PORT
  ⟨0x230004, [(32, 32)], false, [⟨0, 7, .ro, .now, false, 1⟩]⟩,
  -- DFR_TRIB_STATUS
  ⟨0x230008, [(32, 32)], false, [⟨0, 14, .ro, .now, false, 0⟩, ⟨14, 1, .ro, .now, false, 0⟩, ⟨15, 1, .ro, .now, false, 0⟩, ⟨16, 4, .ro, .now, false, 0⟩]⟩]

/-- Registers of DFR. -/
def regRowsDFR2 : List RegRow := [
  -- DFR_TRIB_PJ
  ⟨0x23000c, [(32, 32)], false, [⟨0, 32, .rc, .now, false, 0⟩]⟩,
  -- DFR_TRIB_NJ
  ⟨0x230010, [(32, 32)], false, [⟨0, 32, .rc, .now, false, 0⟩]⟩]

/-- Registers of EPC. -/
def regRowsEPC0 : List RegRow := [
  -- EPC_CTRL
  ⟨0x20000, [], false, [⟨0, 1, .sc, .now, false, 0⟩, ⟨1, 1, .sc, .now, false, 0⟩, ⟨2, 1, .sc, .now, false, 0⟩, ⟨3, 1, .sc, .now, false, 0⟩, ⟨4, 1, .sc, .now, false, 0⟩, ⟨5, 1, .sc, .now, false, 0⟩, ⟨8, 1, .rw, .now, true, 0⟩]⟩,
  -- EPC_STATUS
  ⟨0x20004, [], false, [⟨0, 3, .ro, .now, false, 0⟩, ⟨3, 1, .ro, .now, false, 0⟩, ⟨4, 1, .ro, .now, false, 0⟩, ⟨5, 1, .ro, .now, false, 0⟩, ⟨6, 1, .ro, .now, false, 0⟩, ⟨7, 1, .ro, .now, false, 0⟩, ⟨8, 5, .ro, .now, false, 0⟩]⟩,
  -- EPC_RESULT
  ⟨0x20008, [], false, [⟨0, 5, .ro, .now, false, 0⟩, ⟨16, 16, .ro, .now, false, 0⟩]⟩,
  -- EPC_ARM_FN
  ⟨0x2000c, [], true, [⟨0, 48, .rw, .now, false, 0⟩]⟩,
  -- EPC_ARM_CTRL
  ⟨0x20014, [], false, [⟨0, 8, .rw, .now, false, 0⟩, ⟨8, 16, .rw, .now, false, 0⟩]⟩,
  -- EPC_LOADED
  ⟨0x20018, [], false, [⟨1, 18, .ro, .now, false, 0⟩]⟩,
  -- EPC_STRUCT
  ⟨0x2001c, [], false, [⟨1, 18, .ro, .now, false, 0⟩]⟩,
  -- EPC_IMG_ADDR
  ⟨0x20020, [], true, [⟨0, 64, .rw, .now, false, 0⟩]⟩,
  -- EPC_IMG_LEN
  ⟨0x20028, [], false, [⟨0, 23, .rw, .now, false, 0⟩]⟩,
  -- EPC_LOAD
  ⟨0x2002c, [], false, [⟨0, 1, .sc, .now, false, 0⟩]⟩,
  -- EPC_GEN_ACTIVE
  ⟨0x20030, [], false, [⟨0, 32, .ro, .now, false, 0⟩]⟩,
  -- EPC_GEN_STAGED
  ⟨0x20034, [], false, [⟨0, 32, .ro, .now, false, 0⟩]⟩]

/-- Registers of EPC. -/
def regRowsEPC1 : List RegRow := [
  -- EPC_COMMIT_FN
  ⟨0x20038, [], true, [⟨0, 48, .ro, .now, false, 0⟩]⟩,
  -- EPC_DRAIN_TIME
  ⟨0x20040, [], false, [⟨0, 16, .ro, .now, false, 0⟩]⟩,
  -- EPC_DRAIN_MAX
  ⟨0x20044, [], false, [⟨0, 16, .rc, .now, false, 0⟩]⟩,
  -- EPC_COMMIT_COUNT
  ⟨0x20048, [], false, [⟨0, 32, .ro, .now, false, 0⟩]⟩,
  -- EPC_QDROP
  ⟨0x2004c, [], true, [⟨0, 64, .ro, .now, false, 0⟩]⟩,
  -- EPC_HOLD_LIMIT
  ⟨0x20054, [], false, [⟨0, 16, .rw, .now, false, 0⟩]⟩,
  -- EPC_HELD_COUNT
  ⟨0x20058, [], false, [⟨0, 16, .ro, .now, false, 0⟩]⟩,
  -- EPC_SEAL_FAIL
  ⟨0x2005c, [], false, [⟨0, 32, .rc, .now, false, 0⟩]⟩,
  -- EPC_ST_DISCARD
  ⟨0x20060, [], false, [⟨0, 32, .rc, .now, false, 0⟩]⟩,
  -- EPC_EVENT
  ⟨0x20064, [], false, [⟨0, 1, .w1c, .now, false, 0⟩, ⟨1, 1, .w1c, .now, false, 0⟩, ⟨2, 1, .w1c, .now, false, 0⟩, ⟨3, 1, .w1c, .now, false, 0⟩, ⟨4, 1, .w1c, .now, false, 0⟩, ⟨5, 1, .w1c, .now, false, 0⟩, ⟨6, 1, .w1c, .now, false, 0⟩]⟩,
  -- EPC_INT_EN
  ⟨0x20068, [], false, [⟨0, 7, .rw, .now, false, 0⟩]⟩]

/-- Registers of EVR. -/
def regRowsEVR0 : List RegRow := [
  -- EVR_CTRL
  ⟨0x40000, [], false, [⟨0, 1, .sc, .now, false, 0⟩]⟩,
  -- EVR_STATUS
  ⟨0x40004, [], false, [⟨0, 1, .ro, .now, false, 0⟩, ⟨1, 1, .ro, .now, false, 0⟩, ⟨2, 1, .ro, .now, false, 0⟩, ⟨3, 1, .ro, .now, false, 0⟩]⟩,
  -- EVR_SEQ_NEXT
  ⟨0x40008, [], false, [⟨0, 32, .ro, .now, false, 0⟩]⟩,
  -- EVR_SEQ_OLDEST
  ⟨0x4000c, [], false, [⟨0, 32, .ro, .now, false, 0⟩]⟩,
  -- EVR_GEN
  ⟨0x40010, [], false, [⟨0, 32, .ro, .now, false, 0⟩]⟩,
  -- EVR_COUNT
  ⟨0x40014, [], false, [⟨0, 19, .ro, .now, false, 0⟩]⟩,
  -- EVR_UNFLUSHED
  ⟨0x40018, [], false, [⟨0, 17, .ro, .now, false, 0⟩]⟩,
  -- EVR_DROP
  ⟨0x40020, [(4, 4)], false, [⟨0, 32, .ro, .now, false, 0⟩]⟩,
  -- EVR_OPTIME
  ⟨0x40030, [], false, [⟨0, 32, .ro, .now, false, 0⟩]⟩,
  -- EVR_PCYCLE
  ⟨0x40034, [], false, [⟨0, 24, .ro, .now, false, 0⟩]⟩,
  -- EVR_CURSOR
  ⟨0x40038, [], false, [⟨0, 32, .rw, .now, false, 0⟩]⟩,
  -- EVR_WIN_STATUS
  ⟨0x4003c, [], false, [⟨0, 7, .ro, .now, false, 0⟩, ⟨8, 1, .ro, .now, false, 0⟩, ⟨9, 1, .ro, .now, false, 0⟩]⟩]

/-- Registers of EVR. -/
def regRowsEVR1 : List RegRow := [
  -- EVR_WIN_GEN
  ⟨0x40040, [], false, [⟨0, 32, .ro, .now, false, 0⟩]⟩,
  -- EVR_CLR_CTRL
  ⟨0x40044, [], false, [⟨0, 1, .sc, .now, false, 0⟩, ⟨1, 1, .sc, .now, false, 0⟩, ⟨4, 2, .ro, .now, false, 0⟩]⟩,
  -- EVR_CLR_UPTO
  ⟨0x40048, [], false, [⟨0, 32, .rw, .now, false, 0⟩]⟩,
  -- EVR_CLR_NONCE
  ⟨0x40050, [(8, 4)], false, [⟨0, 32, .ro, .now, false, 0⟩]⟩,
  -- EVR_CLR_SIG
  ⟨0x40080, [(24, 4)], false, [⟨0, 32, .wo, .now, false, 0⟩]⟩,
  -- EVR_RL_SEL
  ⟨0x40100, [], false, [⟨0, 16, .rw, .now, false, 0⟩]⟩,
  -- EVR_RL_CFG
  ⟨0x40104, [], false, [⟨0, 11, .rw, .now, false, 16⟩, ⟨16, 9, .rw, .now, false, 16⟩]⟩,
  -- EVR_EVENT
  ⟨0x40108, [], false, [⟨0, 1, .w1c, .now, false, 0⟩, ⟨1, 1, .w1c, .now, false, 0⟩, ⟨2, 1, .w1c, .now, false, 0⟩, ⟨3, 1, .w1c, .now, false, 0⟩]⟩,
  -- EVR_INT_EN
  ⟨0x4010c, [], false, [⟨0, 4, .rw, .now, false, 0⟩]⟩,
  -- EVR_JET
  ⟨0x40800, [(16, 64), (16, 4)], false, [⟨0, 32, .ro, .now, false, 0⟩]⟩,
  -- EVR_WIN
  ⟨0x41000, [(1024, 4)], false, [⟨0, 32, .ro, .now, false, 0⟩]⟩]

/-- Registers of FLT. -/
def regRowsFLT : List RegRow := [
  -- FLT_CTRL
  ⟨0x70000, [], false, [⟨0, 6, .rw, .now, false, 18⟩, ⟨8, 14, .rw, .now, false, 18⟩, ⟨24, 4, .rw, .now, false, 18⟩]⟩,
  -- FLT_STATUS
  ⟨0x70004, [], false, [⟨0, 18, .ro, .now, false, 0⟩]⟩,
  -- FLT_LAST
  ⟨0x70008, [], false, [⟨0, 3, .ro, .now, false, 0⟩, ⟨4, 4, .ro, .now, false, 0⟩, ⟨8, 8, .ro, .now, false, 0⟩, ⟨16, 16, .ro, .now, false, 0⟩]⟩,
  -- FLT_LAST_FN
  ⟨0x7000c, [], true, [⟨0, 48, .ro, .now, false, 0⟩]⟩,
  -- FLT_EVENT
  ⟨0x70014, [], false, [⟨0, 1, .w1c, .now, false, 0⟩, ⟨1, 1, .w1c, .now, false, 0⟩, ⟨2, 1, .w1c, .now, false, 0⟩, ⟨3, 1, .w1c, .now, false, 0⟩, ⟨4, 1, .w1c, .now, false, 0⟩]⟩,
  -- FLT_INT_EN
  ⟨0x70018, [], false, [⟨0, 5, .rw, .now, false, 0⟩]⟩,
  -- FLT_R_CTRL
  ⟨0x70020, [(6, 16)], false, [⟨0, 1, .sc, .now, false, 0⟩]⟩,
  -- FLT_R_RESETS
  ⟨0x70024, [(6, 16)], false, [⟨0, 4, .ro, .now, false, 0⟩, ⟨16, 16, .ro, .now, false, 0⟩]⟩,
  -- FLT_R_CAUSE
  ⟨0x70028, [(6, 16)], false, [⟨0, 4, .ro, .now, false, 0⟩, ⟨8, 8, .ro, .now, false, 0⟩]⟩,
  -- FLT_R_TIME
  ⟨0x7002c, [(6, 16)], false, [⟨0, 24, .ro, .now, false, 0⟩]⟩]

/-- Registers of GLB. -/
def regRowsGLB0 : List RegRow := [
  -- GLB_PART
  ⟨0x0, [], false, [⟨0, 16, .ro, .now, false, 0⟩]⟩,
  -- GLB_STEP
  ⟨0x4, [], false, [⟨0, 8, .ro, .now, false, 0⟩]⟩,
  -- GLB_SAFE
  ⟨0x8, [], false, [⟨0, 1, .ro, .now, false, 0⟩, ⟨1, 3, .ro, .now, false, 0⟩, ⟨4, 1, .ro, .now, false, 0⟩, ⟨5, 1, .ro, .now, false, 0⟩, ⟨6, 1, .ro, .now, false, 0⟩, ⟨7, 1, .ro, .now, false, 0⟩]⟩,
  -- GLB_LAST_SAFE
  ⟨0xc, [], false, [⟨0, 3, .ro, .now, false, 0⟩]⟩,
  -- GLB_LAST_SAFE_FN
  ⟨0x10, [], true, [⟨0, 48, .ro, .now, false, 0⟩]⟩,
  -- GLB_CON_CTRL
  ⟨0x18, [], false, [⟨0, 1, .rw, .now, true, 0⟩]⟩,
  -- GLB_CON_COUNT
  ⟨0x1c, [], false, [⟨0, 16, .rc, .now, false, 0⟩, ⟨16, 16, .rc, .now, false, 0⟩]⟩,
  -- GLB_I2C_CTRL
  ⟨0x1000, [(4, 256)], false, [⟨0, 1, .rw, .now, false, 0⟩, ⟨1, 2, .rw, .now, false, 0⟩]⟩,
  -- GLB_I2C_CMD
  ⟨0x1004, [(4, 256)], false, [⟨0, 7, .rw, .now, false, 0⟩, ⟨8, 8, .rw, .now, false, 0⟩, ⟨16, 8, .rw, .now, false, 0⟩, ⟨31, 1, .sc, .now, false, 0⟩]⟩,
  -- GLB_I2C_RESULT
  ⟨0x1008, [(4, 256)], false, [⟨0, 3, .ro, .now, false, 0⟩, ⟨3, 1, .ro, .now, false, 0⟩, ⟨4, 5, .ro, .now, false, 0⟩]⟩,
  -- GLB_I2C_DATA
  ⟨0x1080, [(4, 256), (32, 4)], false, [⟨0, 32, .rw, .now, false, 0⟩]⟩,
  -- GLB_GPIO_DIR
  ⟨0x1400, [], false, [⟨0, 32, .rw, .now, false, 0⟩]⟩]

/-- Registers of GLB. -/
def regRowsGLB1 : List RegRow := [
  -- GLB_GPIO_OUT
  ⟨0x1404, [], false, [⟨0, 32, .rw, .now, false, 0⟩]⟩,
  -- GLB_GPIO_IN
  ⟨0x1408, [], false, [⟨0, 32, .ro, .now, false, 0⟩]⟩,
  -- GLB_GPIO_OD
  ⟨0x140c, [], false, [⟨0, 32, .rw, .now, false, 0⟩]⟩,
  -- GLB_GPIO_RISE
  ⟨0x1410, [], false, [⟨0, 32, .rw, .now, false, 0⟩]⟩,
  -- GLB_GPIO_FALL
  ⟨0x1414, [], false, [⟨0, 32, .rw, .now, false, 0⟩]⟩,
  -- GLB_GPIO_EVENT
  ⟨0x1418, [], false, [⟨0, 32, .w1c, .now, false, 0⟩]⟩,
  -- GLB_GPIO_INT_EN
  ⟨0x141c, [], false, [⟨0, 32, .rw, .now, false, 0⟩]⟩]

/-- Registers of HIF. -/
def regRowsHIF0 : List RegRow := [
  -- HIF_ID
  ⟨0xb00000, [], false, [⟨0, 16, .ro, .now, false, 0⟩, ⟨16, 16, .ro, .now, false, 0⟩]⟩,
  -- HIF_LINK
  ⟨0xb00004, [], false, [⟨0, 3, .ro, .now, false, 0⟩, ⟨3, 5, .ro, .now, false, 0⟩, ⟨8, 1, .ro, .now, false, 0⟩]⟩,
  -- HIF_P0_CTRL
  ⟨0xb00008, [], false, [⟨0, 1, .sc, .now, false, 0⟩, ⟨1, 1, .sc, .now, false, 0⟩, ⟨2, 1, .sc, .now, false, 0⟩, ⟨4, 2, .ro, .now, false, 0⟩, ⟨8, 1, .ro, .now, false, 0⟩]⟩,
  -- HIF_UNMAPPED
  ⟨0xb0000c, [], false, [⟨0, 32, .rc, .now, false, 0⟩]⟩,
  -- HIF_P0_NONCE
  ⟨0xb00010, [(8, 4)], false, [⟨0, 32, .ro, .now, false, 0⟩]⟩,
  -- HIF_EVENT
  ⟨0xb00030, [], false, [⟨0, 1, .w1c, .now, false, 0⟩, ⟨1, 1, .w1c, .now, false, 0⟩, ⟨2, 1, .w1c, .now, false, 0⟩, ⟨3, 1, .w1c, .now, false, 0⟩]⟩,
  -- HIF_INT_EN
  ⟨0xb00034, [], false, [⟨0, 4, .rw, .now, false, 0⟩]⟩,
  -- HIF_RX_REL
  ⟨0xb00038, [], false, [⟨0, 16, .wo, .now, false, 0⟩, ⟨16, 6, .wo, .now, false, 0⟩]⟩,
  -- HIF_FLR_STATUS
  ⟨0xb0003c, [], false, [⟨0, 16, .ro, .now, false, 0⟩]⟩,
  -- HIF_DISC
  ⟨0xb00040, [(5, 8)], true, [⟨0, 64, .ro, .now, false, 0⟩]⟩,
  -- HIF_P0_SIG
  ⟨0xb00100, [(24, 4)], false, [⟨0, 32, .wo, .now, false, 0⟩]⟩,
  -- HIF_SRC_MAP
  ⟨0xb00200, [(464, 4)], false, [⟨0, 7, .rw, .now, false, 0⟩, ⟨8, 4, .rw, .now, false, 0⟩, ⟨15, 1, .rw, .now, false, 0⟩]⟩]

/-- Registers of HIF. -/
def regRowsHIF1 : List RegRow := [
  -- HIF_TX_BASE
  ⟨0xb01000, [(64, 64)], true, [⟨12, 52, .rw, .now, false, 0⟩]⟩,
  -- HIF_RX_BASE
  ⟨0xb03000, [(64, 64)], true, [⟨12, 52, .rw, .now, false, 0⟩]⟩,
  -- HIF_TX_SIZE
  ⟨0xb01008, [(64, 64)], false, [⟨0, 5, .rw, .now, false, 0⟩]⟩,
  -- HIF_RX_SIZE
  ⟨0xb03008, [(64, 64)], false, [⟨0, 5, .rw, .now, false, 0⟩]⟩,
  -- HIF_TX_HEAD
  ⟨0xb0100c, [(64, 64)], false, [⟨0, 16, .ro, .now, false, 0⟩]⟩,
  -- HIF_RX_HEAD
  ⟨0xb0300c, [(64, 64)], false, [⟨0, 16, .ro, .now, false, 0⟩]⟩,
  -- HIF_TX_TAIL
  ⟨0xb01010, [(64, 64)], false, [⟨0, 16, .rw, .now, false, 0⟩]⟩,
  -- HIF_RX_TAIL
  ⟨0xb03010, [(64, 64)], false, [⟨0, 16, .rw, .now, false, 0⟩]⟩,
  -- HIF_TX_CFG
  ⟨0xb01014, [(64, 64)], false, [⟨0, 1, .rw, .now, false, 0⟩, ⟨1, 1, .rw, .now, false, 0⟩, ⟨4, 10, .rw, .now, false, 0⟩, ⟨16, 8, .rw, .now, false, 0⟩, ⟨24, 8, .rw, .now, false, 0⟩]⟩,
  -- HIF_RX_CFG
  ⟨0xb03014, [(64, 64)], false, [⟨0, 1, .rw, .now, false, 0⟩, ⟨1, 1, .rw, .now, false, 0⟩, ⟨4, 12, .rw, .now, false, 0⟩, ⟨16, 8, .rw, .now, false, 0⟩]⟩,
  -- HIF_TX_FRAMES
  ⟨0xb01018, [(64, 64)], true, [⟨0, 64, .ro, .now, false, 0⟩]⟩,
  -- HIF_RX_FRAMES
  ⟨0xb03018, [(64, 64)], true, [⟨0, 64, .ro, .now, false, 0⟩]⟩]

/-- Registers of HIF. -/
def regRowsHIF2 : List RegRow := [
  -- HIF_TX_READ
  ⟨0xb01020, [(64, 64)], false, [⟨0, 16, .ro, .now, false, 0⟩]⟩,
  -- HIF_RX_HELD
  ⟨0xb03020, [(64, 64)], false, [⟨0, 17, .ro, .now, false, 0⟩]⟩]

/-- Registers of KST. -/
def regRowsKST : List RegRow := [
  -- KST_SEL
  ⟨0x800000, [], false, [⟨0, 8, .rw, .now, true, 0⟩]⟩,
  -- KST_CMD
  ⟨0x800004, [], false, [⟨0, 1, .sc, .now, true, 0⟩, ⟨1, 1, .sc, .now, true, 0⟩]⟩,
  -- KST_RESULT
  ⟨0x800008, [], false, [⟨0, 2, .ro, .now, false, 0⟩]⟩,
  -- KST_KEY
  ⟨0x800020, [(8, 4)], false, [⟨0, 32, .wo, .now, true, 0⟩]⟩,
  -- KST_SLOT_STATUS
  ⟨0x800400, [(256, 4)], false, [⟨0, 1, .ro, .now, false, 0⟩, ⟨1, 1, .ro, .now, false, 0⟩]⟩,
  -- KST_SLOT_GEN
  ⟨0x800800, [(256, 4)], false, [⟨0, 32, .ro, .now, false, 0⟩]⟩]

/-- Registers of LCY. -/
def regRowsLCY0 : List RegRow := [
  -- LCY_CTRL
  ⟨0x700000, [], false, [⟨0, 1, .rw, .st, false, 13⟩, ⟨8, 4, .rw, .st, false, 13⟩]⟩,
  -- LCY_STATUS
  ⟨0x700004, [], false, [⟨0, 8, .ro, .now, false, 0⟩]⟩,
  -- LCY_CACHE
  ⟨0x700008, [], false, [⟨0, 13, .ro, .now, false, 0⟩]⟩,
  -- LCY_CACHE_HIT
  ⟨0x70000c, [], false, [⟨0, 32, .rc, .now, false, 0⟩]⟩,
  -- LCY_CACHE_MISS
  ⟨0x700010, [], false, [⟨0, 32, .rc, .now, false, 0⟩]⟩,
  -- LCY_BYPASS
  ⟨0x700014, [], true, [⟨0, 64, .ro, .now, false, 0⟩]⟩,
  -- LCY_EVENT
  ⟨0x70001c, [], false, [⟨0, 1, .w1c, .now, false, 0⟩, ⟨1, 1, .w1c, .now, false, 0⟩, ⟨2, 1, .w1c, .now, false, 0⟩, ⟨3, 1, .w1c, .now, false, 0⟩, ⟨4, 1, .w1c, .now, false, 0⟩, ⟨5, 1, .w1c, .now, false, 0⟩]⟩,
  -- LCY_INT_EN
  ⟨0x700020, [], false, [⟨0, 6, .rw, .now, false, 0⟩]⟩,
  -- LCY_DISC
  ⟨0x700040, [(8, 8)], true, [⟨0, 64, .ro, .now, false, 0⟩]⟩,
  -- LCY_CTX_EPOCH
  ⟨0x701000, [(2, 256), (2, 128), (4, 32)], true, [⟨0, 48, .ro, .now, false, 0⟩]⟩,
  -- LCY_CTX_NEXT
  ⟨0x701008, [(2, 256), (2, 128), (4, 32)], true, [⟨0, 48, .ro, .now, false, 0⟩]⟩,
  -- LCY_CTX_STATE
  ⟨0x701010, [(2, 256), (2, 128), (4, 32)], false, [⟨0, 1, .ro, .now, false, 0⟩, ⟨1, 1, .ro, .now, false, 0⟩, ⟨2, 1, .ro, .now, false, 0⟩, ⟨3, 1, .ro, .now, false, 0⟩, ⟨4, 26, .ro, .now, false, 0⟩]⟩]

/-- Registers of LCY. -/
def regRowsLCY1 : List RegRow := [
  -- LCY_TX_IDX
  ⟨0x701200, [(2, 4)], false, [⟨0, 2, .ro, .now, false, 0⟩]⟩,
  -- LCY_ENG_STATUS
  ⟨0x702000, [(128, 32)], false, [⟨0, 1, .ro, .now, false, 0⟩, ⟨1, 1, .ro, .now, false, 0⟩, ⟨4, 16, .ro, .now, false, 0⟩]⟩,
  -- LCY_ENG_CTRL
  ⟨0x702004, [(128, 32)], false, [⟨0, 1, .sc, .now, false, 0⟩]⟩,
  -- LCY_ENG_MISMATCH
  ⟨0x702008, [(128, 32)], false, [⟨0, 32, .rc, .now, false, 0⟩]⟩,
  -- LCY_ENG_SHORT
  ⟨0x70200c, [(128, 32)], false, [⟨0, 32, .rc, .now, false, 0⟩]⟩]

/-- Registers of LNK. -/
def regRowsLNK0 : List RegRow := [
  -- LNK_LANE_CTRL
  ⟨0x100000, [(128, 2048)], false, [⟨0, 1, .rw, .st, false, 2⟩, ⟨1, 1, .rw, .st, false, 2⟩, ⟨2, 1, .rw, .now, false, 2⟩, ⟨3, 1, .rw, .now, false, 2⟩, ⟨4, 1, .rw, .now, false, 2⟩, ⟨8, 8, .rw, .st, false, 2⟩]⟩,
  -- LNK_LANE_PWR
  ⟨0x100004, [(128, 2048)], false, [⟨0, 3, .rw, .now, false, 2⟩, ⟨4, 3, .ro, .now, false, 0⟩, ⟨7, 1, .ro, .now, false, 0⟩, ⟨8, 3, .ro, .now, false, 0⟩]⟩,
  -- LNK_LANE_STATUS
  ⟨0x100008, [(128, 2048)], false, [⟨0, 1, .ro, .now, false, 0⟩, ⟨1, 1, .ro, .now, false, 0⟩, ⟨2, 1, .ro, .now, false, 0⟩, ⟨3, 1, .ro, .now, false, 0⟩, ⟨4, 1, .ro, .now, false, 0⟩]⟩,
  -- LNK_LANE_EVENT
  ⟨0x10000c, [(128, 2048)], false, [⟨0, 1, .w1c, .now, false, 0⟩, ⟨1, 1, .w1c, .now, false, 0⟩, ⟨2, 1, .w1c, .now, false, 0⟩, ⟨3, 1, .w1c, .now, false, 0⟩, ⟨4, 1, .w1c, .now, false, 0⟩, ⟨5, 1, .w1c, .now, false, 0⟩, ⟨6, 1, .w1c, .now, false, 0⟩]⟩,
  -- LNK_LANE_INT_EN
  ⟨0x100010, [(128, 2048)], false, [⟨0, 7, .rw, .now, false, 0⟩]⟩,
  -- LNK_DET_LOS
  ⟨0x100014, [(128, 2048)], false, [⟨0, 8, .rw, .ag, false, 2⟩, ⟨8, 8, .rw, .ag, false, 2⟩]⟩,
  -- LNK_DET_LOL
  ⟨0x100018, [(128, 2048)], false, [⟨0, 8, .rw, .ag, false, 2⟩, ⟨8, 8, .rw, .ag, false, 2⟩]⟩,
  -- LNK_DET_SEAL
  ⟨0x10001c, [(128, 2048)], false, [⟨0, 1, .sc, .now, false, 0⟩, ⟨1, 1, .sc, .now, false, 0⟩, ⟨4, 2, .ro, .now, false, 0⟩, ⟨8, 4, .ro, .now, false, 0⟩, ⟨16, 8, .ro, .now, false, 0⟩, ⟨24, 8, .ro, .now, false, 0⟩]⟩,
  -- LNK_RX_PWR
  ⟨0x100020, [(128, 2048)], false, [⟨0, 16, .ro, .now, false, 0⟩, ⟨16, 1, .ro, .now, false, 0⟩]⟩,
  -- LNK_RX_SNR
  ⟨0x100024, [(128, 2048)], false, [⟨0, 16, .ro, .now, false, 0⟩]⟩,
  -- LNK_RX_OFFSET
  ⟨0x100028, [(128, 2048)], false, [⟨0, 16, .rw, .now, false, 0⟩, ⟨16, 1, .sc, .now, false, 0⟩]⟩,
  -- LNK_TX_SETPOINT
  ⟨0x10002c, [(128, 2048)], false, [⟨0, 16, .ro, .now, false, 0⟩]⟩]

/-- Registers of LNK. -/
def regRowsLNK1 : List RegRow := [
  -- LNK_TX_PWR
  ⟨0x100030, [(128, 2048)], false, [⟨0, 16, .ro, .now, false, 0⟩]⟩,
  -- LNK_TX_BIAS
  ⟨0x100034, [(128, 2048)], false, [⟨0, 16, .rw, .now, false, 0⟩]⟩,
  -- LNK_TX_MOD
  ⟨0x100038, [(128, 2048)], false, [⟨0, 16, .rw, .now, false, 0⟩]⟩,
  -- LNK_TEMPCO
  ⟨0x10003c, [(128, 2048)], false, [⟨0, 16, .rw, .now, false, 0⟩, ⟨16, 16, .rw, .now, false, 0⟩]⟩,
  -- LNK_SLIP
  ⟨0x100040, [(128, 2048)], false, [⟨0, 32, .rc, .now, false, 0⟩]⟩]

/-- Registers of LTU. -/
def regRowsLTU0 : List RegRow := [
  -- LTU_CTRL
  ⟨0x10000, [], false, [⟨0, 2, .rw, .st, false, 18⟩, ⟨2, 1, .rw, .st, false, 18⟩]⟩,
  -- LTU_STATUS
  ⟨0x10004, [], false, [⟨0, 3, .ro, .now, false, 0⟩, ⟨3, 1, .ro, .now, false, 0⟩, ⟨4, 1, .ro, .now, false, 0⟩, ⟨5, 1, .ro, .now, false, 0⟩, ⟨6, 1, .ro, .now, false, 0⟩, ⟨7, 1, .ro, .now, false, 0⟩, ⟨8, 6, .ro, .now, false, 0⟩]⟩,
  -- LTU_FN
  ⟨0x10008, [], true, [⟨0, 48, .ro, .now, false, 0⟩]⟩,
  -- LTU_CW
  ⟨0x10010, [], false, [⟨0, 13, .ro, .now, false, 0⟩]⟩,
  -- LTU_SEC_OFFSET
  ⟨0x10014, [], false, [⟨0, 14, .ro, .now, false, 0⟩]⟩,
  -- LTU_SEC_FN
  ⟨0x10018, [], true, [⟨0, 48, .ro, .now, false, 0⟩]⟩,
  -- LTU_SEC_TAI
  ⟨0x10020, [], true, [⟨0, 48, .ro, .now, false, 0⟩]⟩,
  -- LTU_SLEW
  ⟨0x10028, [], false, [⟨0, 16, .ro, .now, false, 0⟩]⟩,
  -- LTU_PATH_OFFSET_A
  ⟨0x1002c, [], false, [⟨0, 32, .ro, .now, false, 0⟩]⟩,
  -- LTU_PATH_OFFSET_B
  ⟨0x10030, [], false, [⟨0, 32, .ro, .now, false, 0⟩]⟩,
  -- LTU_HOLD_TIME
  ⟨0x10034, [], false, [⟨0, 32, .ro, .now, false, 0⟩]⟩,
  -- LTU_FB_LFC
  ⟨0x10038, [], true, [⟨0, 64, .ro, .now, false, 0⟩]⟩]

/-- Registers of LTU. -/
def regRowsLTU1 : List RegRow := [
  -- LTU_SNAP_SEQ
  ⟨0x10040, [], false, [⟨0, 32, .ro, .now, false, 0⟩]⟩,
  -- LTU_SNAP_SKIP
  ⟨0x10044, [], false, [⟨0, 32, .rc, .now, false, 0⟩]⟩,
  -- LTU_SNAP_FN
  ⟨0x10048, [], true, [⟨0, 48, .ro, .now, false, 0⟩]⟩,
  -- LTU_EVENT
  ⟨0x10050, [], false, [⟨0, 1, .w1c, .now, false, 0⟩, ⟨1, 1, .w1c, .now, false, 0⟩, ⟨2, 1, .w1c, .now, false, 0⟩, ⟨3, 1, .w1c, .now, false, 0⟩, ⟨4, 1, .w1c, .now, false, 0⟩, ⟨5, 1, .w1c, .now, false, 0⟩, ⟨6, 1, .w1c, .now, false, 0⟩, ⟨7, 1, .w1c, .now, false, 0⟩]⟩,
  -- LTU_INT_EN
  ⟨0x10054, [], false, [⟨0, 8, .rw, .now, false, 0⟩]⟩,
  -- LTU_ALM_FN
  ⟨0x11000, [(256, 16)], true, [⟨0, 48, .rw, .now, false, 0⟩]⟩,
  -- LTU_ALM_CTRL
  ⟨0x11008, [(256, 16)], false, [⟨0, 13, .rw, .now, false, 0⟩, ⟨13, 2, .rw, .now, false, 0⟩, ⟨15, 1, .sc, .now, false, 0⟩, ⟨16, 16, .rw, .now, false, 0⟩]⟩,
  -- LTU_ALM_STATUS
  ⟨0x1100c, [(256, 16)], false, [⟨0, 2, .ro, .now, false, 0⟩, ⟨4, 3, .ro, .now, false, 0⟩, ⟨8, 1, .ro, .now, false, 0⟩, ⟨31, 1, .wo, .now, false, 0⟩]⟩]

/-- Registers of MCH. -/
def regRowsMCH : List RegRow := [
  -- MCH_CTRL
  ⟨0x900000, [], false, [⟨0, 2, .rw, .now, false, 18⟩, ⟨2, 2, .rw, .now, false, 18⟩, ⟨8, 6, .rw, .now, false, 18⟩]⟩,
  -- MCH_UART
  ⟨0x900004, [], false, [⟨0, 10, .rw, .now, false, 18⟩]⟩,
  -- MCH_STATUS
  ⟨0x900008, [], false, [⟨0, 16, .ro, .now, false, 0⟩, ⟨16, 12, .ro, .now, false, 0⟩, ⟨28, 2, .ro, .now, false, 0⟩]⟩,
  -- MCH_RX_MSG
  ⟨0x90000c, [], false, [⟨0, 32, .rc, .now, false, 0⟩]⟩,
  -- MCH_RX_DROP
  ⟨0x900010, [], false, [⟨0, 32, .rc, .now, false, 0⟩]⟩,
  -- MCH_RX_BAD
  ⟨0x900014, [], false, [⟨0, 32, .rc, .now, false, 0⟩]⟩,
  -- MCH_TX_MSG
  ⟨0x900018, [], false, [⟨0, 32, .rc, .now, false, 0⟩]⟩,
  -- MCH_TX_DROP
  ⟨0x90001c, [], false, [⟨0, 32, .rc, .now, false, 0⟩]⟩,
  -- MCH_EVENT
  ⟨0x900020, [], false, [⟨0, 1, .w1c, .now, false, 0⟩, ⟨1, 1, .w1c, .now, false, 0⟩, ⟨2, 1, .w1c, .now, false, 0⟩, ⟨3, 1, .w1c, .now, false, 0⟩]⟩,
  -- MCH_INT_EN
  ⟨0x900024, [], false, [⟨0, 4, .rw, .now, false, 0⟩]⟩]

/-- Registers of MEM. -/
def regRowsMEM0 : List RegRow := [
  -- MEM_STATUS
  ⟨0x1500000, [(4, 16777216)], false, [⟨0, 1, .ro, .now, false, 0⟩, ⟨1, 1, .ro, .now, false, 0⟩, ⟨4, 3, .ro, .now, false, 0⟩, ⟨7, 1, .ro, .now, false, 0⟩]⟩,
  -- MEM_T2_SIZE
  ⟨0x1500004, [(4, 16777216)], false, [⟨0, 10, .ro, .now, false, 0⟩]⟩,
  -- MEM_EVENT
  ⟨0x1500008, [(4, 16777216)], false, [⟨0, 1, .w1c, .now, false, 0⟩, ⟨1, 1, .w1c, .now, false, 0⟩, ⟨2, 1, .w1c, .now, false, 0⟩, ⟨3, 1, .w1c, .now, false, 0⟩, ⟨4, 1, .w1c, .now, false, 0⟩, ⟨5, 1, .w1c, .now, false, 0⟩, ⟨6, 1, .w1c, .now, false, 0⟩]⟩,
  -- MEM_INT_EN
  ⟨0x150000c, [(4, 16777216)], false, [⟨0, 7, .rw, .now, false, 0⟩]⟩,
  -- MEM_SCRUB
  ⟨0x1500010, [(4, 16777216)], false, [⟨0, 8, .rw, .st, false, 12⟩, ⟨8, 8, .rw, .st, false, 12⟩]⟩,
  -- MEM_HBM_CE
  ⟨0x1500014, [(4, 16777216)], false, [⟨0, 32, .rc, .now, false, 0⟩]⟩,
  -- MEM_HBM_UE
  ⟨0x1500018, [(4, 16777216)], false, [⟨0, 32, .rc, .now, false, 0⟩]⟩,
  -- MEM_QUAR
  ⟨0x150001c, [(4, 16777216), (3, 4)], false, [⟨0, 24, .ro, .now, false, 0⟩]⟩,
  -- MEM_HBM_TEMP
  ⟨0x1500028, [(4, 16777216)], false, [⟨0, 16, .ro, .now, false, 0⟩]⟩,
  -- MEM_CH_STATUS
  ⟨0x1500040, [(4, 16777216), (4, 32)], false, [⟨0, 1, .ro, .now, false, 0⟩, ⟨1, 1, .ro, .now, false, 0⟩, ⟨2, 1, .ro, .now, false, 0⟩, ⟨3, 1, .ro, .now, false, 0⟩, ⟨8, 8, .ro, .now, false, 0⟩, ⟨16, 8, .ro, .now, false, 0⟩]⟩,
  -- MEM_CH_CE
  ⟨0x1500044, [(4, 16777216), (4, 32)], false, [⟨0, 32, .rc, .now, false, 0⟩]⟩,
  -- MEM_CH_UE
  ⟨0x1500048, [(4, 16777216), (4, 32)], false, [⟨0, 32, .rc, .now, false, 0⟩]⟩]

/-- Registers of MEM. -/
def regRowsMEM1 : List RegRow := [
  -- MEM_CH_SCRUB
  ⟨0x150004c, [(4, 16777216), (4, 32)], false, [⟨0, 7, .ro, .now, false, 0⟩, ⟨16, 16, .ro, .now, false, 0⟩]⟩,
  -- MEM_CH_TEMP
  ⟨0x1500050, [(4, 16777216), (4, 32)], false, [⟨0, 16, .ro, .now, false, 0⟩]⟩]

/-- Registers of OPE. -/
def regRowsOPE : List RegRow := [
  -- OPE_STATUS
  ⟨0x180000, [(8, 16384)], false, [⟨0, 1, .ro, .now, false, 0⟩, ⟨1, 1, .ro, .now, false, 0⟩, ⟨2, 1, .ro, .now, false, 0⟩, ⟨3, 1, .ro, .now, false, 0⟩]⟩,
  -- OPE_TEMP
  ⟨0x180004, [(8, 16384)], false, [⟨0, 16, .ro, .now, false, 0⟩]⟩,
  -- OPE_EVENT
  ⟨0x180008, [(8, 16384)], false, [⟨0, 16, .w1c, .now, false, 0⟩, ⟨16, 1, .w1c, .now, false, 0⟩]⟩,
  -- OPE_INT_EN
  ⟨0x18000c, [(8, 16384)], false, [⟨0, 17, .rw, .now, false, 0⟩]⟩,
  -- OPE_WAVE
  ⟨0x180100, [(8, 16384), (16, 4)], false, [⟨0, 16, .ro, .now, false, 0⟩, ⟨16, 1, .ro, .now, false, 0⟩]⟩]

/-- Registers of PMON. -/
def regRowsPMON0 : List RegRow := [
  -- PMON_CTRL
  ⟨0x50000, [], false, [⟨0, 1, .rw, .now, false, 0⟩]⟩,
  -- PMON_EVENT
  ⟨0x50004, [], false, [⟨0, 1, .w1c, .now, false, 0⟩, ⟨1, 1, .w1c, .now, false, 0⟩, ⟨2, 1, .w1c, .now, false, 0⟩, ⟨3, 1, .w1c, .now, false, 0⟩]⟩,
  -- PMON_INT_EN
  ⟨0x50008, [], false, [⟨0, 4, .rw, .now, false, 0⟩]⟩,
  -- PMON_OVF
  ⟨0x50010, [], true, [⟨0, 64, .w1c, .now, false, 0⟩]⟩,
  -- PMON_WIN_FN
  ⟨0x50100, [(16, 16)], true, [⟨0, 48, .rw, .st, false, 16⟩]⟩,
  -- PMON_WIN_LEN
  ⟨0x50108, [(16, 16)], false, [⟨0, 16, .rw, .st, false, 16⟩, ⟨16, 16, .rw, .st, false, 16⟩]⟩,
  -- PMON_WIN_CTRL
  ⟨0x5010c, [(16, 16)], false, [⟨0, 1, .rw, .st, false, 16⟩, ⟨4, 2, .ro, .now, false, 0⟩]⟩,
  -- PCTR_SEL
  ⟨0x50200, [], false, [⟨0, 6, .rw, .now, false, 0⟩]⟩,
  -- PCTR_SRC
  ⟨0x50204, [], false, [⟨0, 8, .rw, .ag, false, 16⟩, ⟨8, 8, .rw, .ag, false, 16⟩, ⟨16, 3, .rw, .ag, false, 16⟩, ⟨24, 8, .rw, .ag, false, 16⟩]⟩,
  -- PCTR_QVAL
  ⟨0x50208, [], false, [⟨0, 32, .rw, .ag, false, 16⟩]⟩,
  -- PCTR_QMASK
  ⟨0x5020c, [], false, [⟨0, 32, .rw, .ag, false, 16⟩]⟩,
  -- PCTR_SEAL
  ⟨0x50210, [], false, [⟨0, 1, .sc, .now, false, 0⟩, ⟨1, 1, .sc, .now, false, 0⟩, ⟨4, 2, .ro, .now, false, 0⟩, ⟨8, 4, .ro, .now, false, 0⟩, ⟨16, 8, .ro, .now, false, 0⟩, ⟨24, 8, .ro, .now, false, 0⟩]⟩]

/-- Registers of PMON. -/
def regRowsPMON1 : List RegRow := [
  -- PCTR_LIVE
  ⟨0x51000, [(64, 32)], true, [⟨0, 64, .rw, .now, false, 0⟩]⟩,
  -- PCTR_SNAP
  ⟨0x51008, [(64, 32)], true, [⟨0, 64, .ro, .now, false, 0⟩]⟩,
  -- PCTR_WRES
  ⟨0x51010, [(64, 32)], true, [⟨0, 64, .ro, .now, false, 0⟩]⟩,
  -- PCTR_CTRL
  ⟨0x51018, [(64, 32)], false, [⟨0, 1, .rw, .now, false, 16⟩, ⟨1, 1, .rw, .now, false, 16⟩]⟩]

/-- Registers of POL. -/
def regRowsPOL0 : List RegRow := [
  -- POL_EVENT
  ⟨0x1300000, [(4, 16777216)], false, [⟨0, 1, .w1c, .now, false, 0⟩, ⟨1, 1, .w1c, .now, false, 0⟩, ⟨2, 1, .w1c, .now, false, 0⟩]⟩,
  -- POL_INT_EN
  ⟨0x1300004, [(4, 16777216)], false, [⟨0, 3, .rw, .now, false, 0⟩]⟩,
  -- POL_ACC_DONE
  ⟨0x1300008, [(4, 16777216)], false, [⟨0, 1, .sc, .now, false, 0⟩]⟩,
  -- POL_EXCESS
  ⟨0x1300010, [(4, 16777216)], true, [⟨0, 64, .ro, .now, false, 0⟩]⟩,
  -- POL_MTR_SEL
  ⟨0x1300100, [(4, 16777216)], false, [⟨0, 16, .rw, .now, false, 0⟩]⟩,
  -- POL_MTR_CFG
  ⟨0x1300104, [(4, 16777216)], false, [⟨0, 1, .rw, .ag, false, 10⟩, ⟨1, 1, .rw, .ag, false, 10⟩, ⟨8, 8, .rw, .ag, false, 10⟩, ⟨16, 16, .rw, .ag, false, 10⟩]⟩,
  -- POL_MTR_RATE
  ⟨0x1300108, [(4, 16777216)], false, [⟨0, 32, .rw, .ag, false, 10⟩]⟩,
  -- POL_MTR_BURST
  ⟨0x130010c, [(4, 16777216)], false, [⟨0, 32, .rw, .ag, false, 10⟩]⟩,
  -- POL_MTR_SEAL
  ⟨0x1300110, [(4, 16777216)], false, [⟨0, 1, .sc, .now, false, 0⟩, ⟨1, 1, .sc, .now, false, 0⟩, ⟨4, 2, .ro, .now, false, 0⟩, ⟨8, 4, .ro, .now, false, 0⟩, ⟨16, 8, .ro, .now, false, 0⟩, ⟨24, 8, .ro, .now, false, 0⟩]⟩,
  -- POL_MTR_TOKENS
  ⟨0x1300114, [(4, 16777216)], false, [⟨0, 32, .ro, .now, false, 0⟩]⟩,
  -- POL_CONF
  ⟨0x1300118, [(4, 16777216)], true, [⟨0, 64, .ro, .now, false, 0⟩]⟩,
  -- POL_EXC
  ⟨0x1300120, [(4, 16777216)], true, [⟨0, 64, .ro, .now, false, 0⟩]⟩]

/-- Registers of POL. -/
def regRowsPOL1 : List RegRow := [
  -- POL_ACC_SEL
  ⟨0x1300200, [(4, 16777216)], false, [⟨0, 16, .rw, .now, false, 0⟩]⟩,
  -- POL_ACC_PKT
  ⟨0x1300208, [(4, 16777216)], true, [⟨0, 64, .ro, .now, false, 0⟩]⟩,
  -- POL_ACC_BYTE
  ⟨0x1300210, [(4, 16777216)], true, [⟨0, 64, .ro, .now, false, 0⟩]⟩]

/-- Registers of PRS. -/
def regRowsPRS0 : List RegRow := [
  -- PRS_CTRL
  ⟨0x1100000, [(4, 16777216)], false, [⟨0, 1, .rw, .now, false, 0⟩, ⟨1, 1, .rw, .now, false, 0⟩]⟩,
  -- PRS_STATUS
  ⟨0x1100004, [(4, 16777216)], false, [⟨0, 1, .ro, .now, false, 0⟩, ⟨1, 1, .ro, .now, false, 0⟩, ⟨2, 1, .ro, .now, false, 0⟩]⟩,
  -- PRS_TBL_SEAL
  ⟨0x1100008, [(4, 16777216)], false, [⟨0, 1, .sc, .now, false, 0⟩, ⟨1, 1, .sc, .now, false, 0⟩, ⟨4, 2, .ro, .now, false, 0⟩, ⟨8, 4, .ro, .now, false, 0⟩, ⟨16, 8, .ro, .now, false, 0⟩, ⟨24, 8, .ro, .now, false, 0⟩]⟩,
  -- PRS_LINE_DEF
  ⟨0x110000c, [(4, 16777216)], false, [⟨0, 16, .rw, .st, false, 8⟩]⟩,
  -- PRS_HOST_DEF
  ⟨0x1100010, [(4, 16777216)], false, [⟨0, 16, .rw, .st, false, 8⟩]⟩,
  -- PRS_SLOW_RATE
  ⟨0x1100014, [(4, 16777216)], false, [⟨0, 16, .rw, .now, false, 18⟩, ⟨16, 16, .rw, .now, false, 18⟩]⟩,
  -- PRS_RECIRC_USE
  ⟨0x1100018, [(4, 16777216)], false, [⟨0, 16, .ro, .now, false, 0⟩, ⟨16, 16, .rc, .now, false, 0⟩]⟩,
  -- PRS_EM_USE
  ⟨0x110001c, [(4, 16777216)], false, [⟨0, 21, .ro, .now, false, 0⟩]⟩,
  -- PRS_EM_SEED0
  ⟨0x1100020, [(4, 16777216)], false, [⟨0, 32, .ro, .now, false, 7⟩]⟩,
  -- PRS_EM_SEED1
  ⟨0x1100024, [(4, 16777216)], false, [⟨0, 32, .ro, .now, false, 7⟩]⟩,
  -- PRS_COPY_EXCESS
  ⟨0x1100028, [(4, 16777216)], false, [⟨0, 32, .rc, .now, false, 0⟩]⟩,
  -- PRS_EVENT
  ⟨0x110002c, [(4, 16777216)], false, [⟨0, 1, .w1c, .now, false, 0⟩, ⟨1, 1, .w1c, .now, false, 0⟩, ⟨2, 1, .w1c, .now, false, 0⟩, ⟨3, 1, .w1c, .now, false, 0⟩, ⟨4, 1, .w1c, .now, false, 0⟩, ⟨5, 1, .w1c, .now, false, 0⟩, ⟨6, 1, .w1c, .now, false, 0⟩]⟩]

/-- Registers of PRS. -/
def regRowsPRS1 : List RegRow := [
  -- PRS_INT_EN
  ⟨0x1100030, [(4, 16777216)], false, [⟨0, 7, .rw, .now, false, 0⟩]⟩,
  -- PRS_DISP
  ⟨0x1100040, [(4, 16777216), (32, 8)], true, [⟨0, 64, .ro, .now, false, 0⟩]⟩,
  -- PRS_PASS
  ⟨0x1100140, [(4, 16777216), (4, 8)], true, [⟨0, 64, .ro, .now, false, 0⟩]⟩,
  -- PRS_PORT_CFG
  ⟨0x1100200, [(4, 16777216), (32, 4)], false, [⟨0, 16, .rw, .st, false, 8⟩, ⟨16, 1, .rw, .now, false, 0⟩]⟩,
  -- PRS_TBL_CFG
  ⟨0x1100400, [(4, 16777216), (8, 16)], false, [⟨0, 1, .rw, .ag, false, 7⟩, ⟨1, 1, .rw, .ag, false, 7⟩, ⟨2, 2, .rw, .ag, false, 7⟩, ⟨4, 5, .rw, .ag, false, 7⟩, ⟨16, 7, .rw, .ag, false, 7⟩, ⟨24, 8, .rw, .ag, false, 7⟩]⟩,
  -- PRS_TBL_COND
  ⟨0x1100404, [(4, 16777216), (8, 16)], false, [⟨0, 5, .rw, .ag, false, 7⟩, ⟨8, 4, .rw, .ag, false, 7⟩]⟩,
  -- PRS_TBL_HIT
  ⟨0x1100500, [(4, 16777216), (8, 16)], true, [⟨0, 64, .ro, .now, false, 0⟩]⟩,
  -- PRS_TBL_MISS
  ⟨0x1100508, [(4, 16777216), (8, 16)], true, [⟨0, 64, .ro, .now, false, 0⟩]⟩,
  -- PRS_KEY_FLD
  ⟨0x1100600, [(4, 16777216), (8, 64), (16, 4)], false, [⟨0, 1, .rw, .ag, false, 7⟩, ⟨1, 5, .rw, .ag, false, 7⟩, ⟨6, 3, .rw, .ag, false, 7⟩, ⟨9, 7, .rw, .ag, false, 7⟩, ⟨16, 12, .rw, .ag, false, 7⟩]⟩,
  -- PRS_MIR_DEST
  ⟨0x1100800, [(4, 16777216), (16, 16)], false, [⟨0, 16, .rw, .st, false, 8⟩, ⟨16, 1, .rw, .st, false, 8⟩, ⟨17, 1, .rw, .st, false, 8⟩]⟩,
  -- PRS_MIR_CTRL
  ⟨0x1100804, [(4, 16777216), (16, 16)], false, [⟨0, 8, .rw, .st, false, 8⟩, ⟨16, 16, .rw, .st, false, 8⟩]⟩,
  -- PRS_MIR_COUNT
  ⟨0x1100808, [(4, 16777216), (16, 16)], true, [⟨0, 64, .ro, .now, false, 0⟩]⟩]

/-- Registers of PRS. -/
def regRowsPRS2 : List RegRow := [
  -- PRS_TA_CMD
  ⟨0x1101000, [(4, 16777216)], false, [⟨0, 3, .rw, .now, false, 0⟩, ⟨4, 1, .rw, .now, false, 0⟩, ⟨31, 1, .sc, .now, false, 0⟩]⟩,
  -- PRS_TA_ADDR
  ⟨0x1101004, [(4, 16777216)], false, [⟨0, 17, .rw, .now, false, 0⟩, ⟨20, 3, .rw, .now, false, 0⟩]⟩,
  -- PRS_TA_RESULT
  ⟨0x1101008, [(4, 16777216)], false, [⟨0, 4, .ro, .now, false, 0⟩, ⟨4, 1, .ro, .now, false, 0⟩]⟩,
  -- PRS_TA_DATA
  ⟨0x1101100, [(4, 16777216), (34, 4)], false, [⟨0, 32, .rw, .now, false, 0⟩]⟩]

/-- Registers of PTH. -/
def regRowsPTH0 : List RegRow := [
  -- PTH_CTRL
  ⟨0x600000, [], false, [⟨0, 1, .sc, .now, false, 0⟩, ⟨1, 1, .sc, .now, false, 0⟩, ⟨2, 1, .rw, .now, false, 0⟩, ⟨3, 1, .sc, .now, false, 0⟩]⟩,
  -- PTH_STATUS
  ⟨0x600004, [], false, [⟨0, 3, .ro, .now, false, 0⟩, ⟨4, 1, .ro, .now, false, 0⟩, ⟨5, 1, .ro, .now, false, 0⟩, ⟨6, 1, .ro, .now, false, 0⟩, ⟨7, 1, .ro, .now, false, 0⟩]⟩,
  -- PTH_CFG
  ⟨0x600008, [], false, [⟨0, 6, .rw, .st, false, 4⟩, ⟨8, 1, .rw, .st, false, 4⟩, ⟨16, 16, .rw, .st, false, 4⟩]⟩,
  -- PTH_TIMERS
  ⟨0x60000c, [], false, [⟨0, 16, .rw, .st, false, 4⟩, ⟨16, 6, .rw, .st, false, 4⟩, ⟨24, 6, .ro, .now, false, 4⟩]⟩,
  -- PTH_TRIG_A
  ⟨0x600010, [], true, [⟨0, 64, .rw, .st, false, 4⟩]⟩,
  -- PTH_TRIG_B
  ⟨0x600018, [], true, [⟨0, 64, .rw, .st, false, 4⟩]⟩,
  -- PTH_SKEW
  ⟨0x600020, [], false, [⟨0, 32, .ro, .now, false, 0⟩]⟩,
  -- PTH_STORE_USE
  ⟨0x600024, [], false, [⟨0, 16, .ro, .now, false, 0⟩, ⟨16, 16, .ro, .now, false, 0⟩]⟩,
  -- PTH_SWITCHES
  ⟨0x600028, [], false, [⟨0, 32, .rc, .now, false, 0⟩]⟩,
  -- PTH_LAST_CAUSE
  ⟨0x60002c, [], false, [⟨0, 4, .ro, .now, false, 0⟩, ⟨4, 2, .ro, .now, false, 0⟩]⟩,
  -- PTH_LAST_FN
  ⟨0x600030, [], true, [⟨0, 48, .ro, .now, false, 0⟩]⟩,
  -- PTH_SKIP_FULL
  ⟨0x600038, [], false, [⟨0, 32, .rc, .now, false, 0⟩]⟩]

/-- Registers of PTH. -/
def regRowsPTH1 : List RegRow := [
  -- PTH_ACK_BAD
  ⟨0x60003c, [], false, [⟨0, 32, .rc, .now, false, 0⟩]⟩,
  -- PTH_DL_DROP
  ⟨0x600040, [], false, [⟨0, 32, .rc, .now, false, 0⟩]⟩,
  -- PTH_STBY_WIN
  ⟨0x600044, [], false, [⟨0, 32, .rc, .now, false, 0⟩]⟩,
  -- PTH_EVENT
  ⟨0x600048, [], false, [⟨0, 1, .w1c, .now, false, 0⟩, ⟨1, 1, .w1c, .now, false, 0⟩, ⟨2, 1, .w1c, .now, false, 0⟩, ⟨3, 1, .w1c, .now, false, 0⟩, ⟨4, 1, .w1c, .now, false, 0⟩, ⟨5, 1, .w1c, .now, false, 0⟩, ⟨6, 1, .w1c, .now, false, 0⟩]⟩,
  -- PTH_INT_EN
  ⟨0x60004c, [], false, [⟨0, 7, .rw, .now, false, 0⟩]⟩,
  -- PTH_DISC
  ⟨0x600060, [(4, 8)], true, [⟨0, 64, .ro, .now, false, 0⟩]⟩,
  -- PTH_MG_STATUS
  ⟨0x610000, [(1024, 32)], false, [⟨0, 1, .ro, .now, false, 0⟩, ⟨1, 1, .ro, .now, false, 0⟩, ⟨2, 1, .ro, .now, false, 0⟩, ⟨3, 1, .ro, .now, false, 0⟩]⟩,
  -- PTH_MG_RP
  ⟨0x610004, [(1024, 32)], false, [⟨0, 32, .ro, .now, false, 0⟩]⟩,
  -- PTH_MG_FIRST_A
  ⟨0x610008, [(1024, 32)], true, [⟨0, 64, .ro, .now, false, 0⟩]⟩,
  -- PTH_MG_FIRST_B
  ⟨0x610010, [(1024, 32)], true, [⟨0, 64, .ro, .now, false, 0⟩]⟩,
  -- PTH_MG_SKIP
  ⟨0x610018, [(1024, 32)], false, [⟨0, 32, .rc, .now, false, 0⟩]⟩,
  -- PTH_AID_MODE
  ⟨0x620000, [(512, 32)], false, [⟨0, 2, .ro, .now, false, 4⟩]⟩]

/-- Registers of PTH. -/
def regRowsPTH2 : List RegRow := [
  -- PTH_AID_NEXT
  ⟨0x620004, [(512, 32)], false, [⟨0, 32, .ro, .now, false, 0⟩]⟩,
  -- PTH_AID_ACK
  ⟨0x620008, [(512, 32)], false, [⟨0, 32, .ro, .now, false, 0⟩]⟩,
  -- PTH_AID_RET
  ⟨0x62000c, [(512, 32)], true, [⟨0, 64, .ro, .now, false, 0⟩]⟩,
  -- PTH_AID_RESENT
  ⟨0x620014, [(512, 32)], false, [⟨0, 32, .rc, .now, false, 0⟩]⟩,
  -- PTH_AID_EXPIRE
  ⟨0x620018, [(512, 32)], false, [⟨0, 32, .rc, .now, false, 0⟩]⟩]

/-- Registers of PWR. -/
def regRowsPWR0 : List RegRow := [
  -- PWR_STATUS
  ⟨0x30000, [], false, [⟨0, 4, .ro, .now, false, 0⟩, ⟨4, 1, .ro, .now, false, 0⟩, ⟨5, 1, .ro, .now, false, 0⟩, ⟨6, 1, .ro, .now, false, 0⟩, ⟨7, 1, .ro, .now, false, 0⟩, ⟨8, 1, .ro, .now, false, 0⟩]⟩,
  -- PWR_REQ
  ⟨0x30004, [], false, [⟨0, 2, .rw, .now, false, 0⟩, ⟨4, 2, .rw, .now, false, 0⟩, ⟨31, 1, .sc, .now, false, 0⟩]⟩,
  -- PWR_REQ_RESULT
  ⟨0x30008, [], false, [⟨0, 4, .ro, .now, false, 0⟩, ⟨8, 8, .ro, .now, false, 0⟩, ⟨16, 3, .ro, .now, false, 0⟩]⟩,
  -- PWR_REQ_DENY
  ⟨0x3000c, [], false, [⟨0, 32, .rc, .now, false, 0⟩]⟩,
  -- PWR_TOKEN
  ⟨0x30010, [], false, [⟨0, 5, .ro, .now, false, 0⟩, ⟨8, 8, .ro, .now, false, 0⟩]⟩,
  -- PWR_THROTTLE
  ⟨0x30014, [], false, [⟨0, 1, .ro, .now, false, 0⟩, ⟨1, 1, .ro, .now, false, 0⟩, ⟨2, 1, .ro, .now, false, 0⟩, ⟨3, 4, .ro, .now, false, 0⟩]⟩,
  -- PWR_RESET_CAUSE
  ⟨0x30018, [], false, [⟨0, 4, .ro, .now, false, 0⟩]⟩,
  -- PWR_HOLD
  ⟨0x3001c, [], false, [⟨0, 14, .ro, .now, false, 0⟩, ⟨16, 1, .ro, .now, false, 0⟩]⟩,
  -- PWR_EVENT
  ⟨0x30020, [], false, [⟨0, 1, .w1c, .now, false, 0⟩, ⟨1, 1, .w1c, .now, false, 0⟩, ⟨2, 1, .w1c, .now, false, 0⟩, ⟨3, 1, .w1c, .now, false, 0⟩, ⟨4, 1, .w1c, .now, false, 0⟩, ⟨5, 1, .w1c, .now, false, 0⟩, ⟨6, 1, .w1c, .now, false, 0⟩, ⟨7, 1, .w1c, .now, false, 0⟩, ⟨8, 1, .w1c, .now, false, 0⟩]⟩,
  -- PWR_INT_EN
  ⟨0x30024, [], false, [⟨0, 9, .rw, .now, false, 0⟩]⟩,
  -- PWR_TEMP
  ⟨0x30040, [(4, 4)], false, [⟨0, 16, .ro, .now, false, 0⟩, ⟨16, 1, .ro, .now, false, 0⟩, ⟨17, 1, .ro, .now, false, 0⟩]⟩,
  -- PWR_STEP_TIME
  ⟨0x30060, [(8, 4)], false, [⟨0, 24, .ro, .now, false, 0⟩]⟩]

/-- Registers of PWR. -/
def regRowsPWR1 : List RegRow := [
  -- PWR_D_STATE
  ⟨0x30100, [(4, 64)], false, [⟨0, 2, .ro, .now, false, 0⟩, ⟨4, 2, .ro, .now, false, 0⟩, ⟨6, 1, .ro, .now, false, 0⟩, ⟨8, 3, .ro, .now, false, 0⟩, ⟨12, 1, .ro, .now, false, 0⟩, ⟨13, 1, .ro, .now, false, 0⟩]⟩,
  -- PWR_D_CFG
  ⟨0x30104, [(4, 64)], false, [⟨0, 3, .rw, .st, false, 15⟩, ⟨4, 1, .rw, .st, false, 15⟩, ⟨5, 1, .rw, .st, false, 15⟩]⟩,
  -- PWR_D_PAD_RELEASE
  ⟨0x30108, [(4, 64)], false, [⟨0, 1, .sc, .now, false, 0⟩]⟩,
  -- PWR_D_REFUSED
  ⟨0x3010c, [(4, 64)], false, [⟨0, 32, .rc, .now, false, 0⟩]⟩,
  -- PWR_D_ABORTED
  ⟨0x30110, [(4, 64)], false, [⟨0, 32, .rc, .now, false, 0⟩]⟩,
  -- PWR_D_LAST
  ⟨0x30114, [(4, 64)], false, [⟨0, 8, .ro, .now, false, 0⟩, ⟨8, 1, .ro, .now, false, 0⟩, ⟨9, 3, .ro, .now, false, 0⟩]⟩,
  -- PWR_D_RES
  ⟨0x30120, [(4, 64), (4, 8)], true, [⟨0, 64, .ro, .now, false, 0⟩]⟩,
  -- PWR_E_RES
  ⟨0x30300, [(8, 16), (2, 8)], true, [⟨0, 64, .ro, .now, false, 0⟩]⟩,
  -- PWR_SCHED_FN
  ⟨0x30400, [(32, 16)], true, [⟨0, 48, .ro, .now, false, 15⟩]⟩,
  -- PWR_SCHED_CTRL
  ⟨0x30408, [(32, 16)], false, [⟨0, 2, .ro, .now, false, 15⟩, ⟨4, 2, .ro, .now, false, 15⟩, ⟨8, 2, .ro, .now, false, 0⟩]⟩]

/-- Registers of RPM. -/
def regRowsRPM0 : List RegRow := [
  -- RPM_EVENT
  ⟨0x1600004, [(4, 16777216)], false, [⟨0, 1, .w1c, .now, false, 0⟩, ⟨1, 1, .w1c, .now, false, 0⟩, ⟨2, 1, .w1c, .now, false, 0⟩, ⟨3, 1, .w1c, .now, false, 0⟩]⟩,
  -- RPM_INT_EN
  ⟨0x1600008, [(4, 16777216)], false, [⟨0, 4, .rw, .now, false, 0⟩]⟩,
  -- RPM_OVF
  ⟨0x1600010, [(4, 16777216)], false, [⟨0, 32, .w1c, .now, false, 0⟩]⟩,
  -- RPM_FAULT
  ⟨0x1600400, [(4, 16777216)], false, [⟨0, 8, .ro, .now, false, 0⟩, ⟨8, 8, .ro, .now, false, 0⟩, ⟨31, 1, .w1c, .now, false, 0⟩]⟩,
  -- RPM_FAULT_CELL
  ⟨0x1600404, [(4, 16777216)], false, [⟨0, 16, .ro, .now, false, 0⟩]⟩,
  -- RPM_FAULT_COUNT
  ⟨0x1600408, [(4, 16777216)], false, [⟨0, 32, .rc, .now, false, 0⟩]⟩,
  -- RPM_CE_COUNT
  ⟨0x160040c, [(4, 16777216)], false, [⟨0, 32, .rc, .now, false, 0⟩]⟩,
  -- RCTR_SEL
  ⟨0x1600200, [(4, 16777216)], false, [⟨0, 5, .rw, .now, false, 0⟩]⟩,
  -- RCTR_SRC
  ⟨0x1600204, [(4, 16777216)], false, [⟨0, 8, .rw, .ag, false, 16⟩, ⟨8, 8, .rw, .ag, false, 16⟩, ⟨16, 3, .rw, .ag, false, 16⟩, ⟨24, 8, .rw, .ag, false, 16⟩]⟩,
  -- RCTR_QVAL
  ⟨0x1600208, [(4, 16777216)], false, [⟨0, 32, .rw, .ag, false, 16⟩]⟩,
  -- RCTR_QMASK
  ⟨0x160020c, [(4, 16777216)], false, [⟨0, 32, .rw, .ag, false, 16⟩]⟩,
  -- RCTR_SEAL
  ⟨0x1600210, [(4, 16777216)], false, [⟨0, 1, .sc, .now, false, 0⟩, ⟨1, 1, .sc, .now, false, 0⟩, ⟨4, 2, .ro, .now, false, 0⟩, ⟨8, 4, .ro, .now, false, 0⟩, ⟨16, 8, .ro, .now, false, 0⟩, ⟨24, 8, .ro, .now, false, 0⟩]⟩]

/-- Registers of RPM. -/
def regRowsRPM1 : List RegRow := [
  -- RCTR_LIVE
  ⟨0x1601000, [(4, 16777216), (32, 32)], true, [⟨0, 64, .rw, .now, false, 0⟩]⟩,
  -- RCTR_SNAP
  ⟨0x1601008, [(4, 16777216), (32, 32)], true, [⟨0, 64, .ro, .now, false, 0⟩]⟩,
  -- RCTR_WRES
  ⟨0x1601010, [(4, 16777216), (32, 32)], true, [⟨0, 64, .ro, .now, false, 0⟩]⟩,
  -- RCTR_CTRL
  ⟨0x1601018, [(4, 16777216), (32, 32)], false, [⟨0, 1, .rw, .now, false, 16⟩, ⟨1, 1, .rw, .now, false, 16⟩]⟩]

/-- Registers of SAF. -/
def regRowsSAF : List RegRow := [
  -- SAF_CTRL
  ⟨0x1c0000, [], false, [⟨0, 1, .rw, .now, false, 0⟩, ⟨1, 1, .rw, .now, false, 0⟩]⟩,
  -- SAF_STATUS
  ⟨0x1c0004, [], false, [⟨0, 1, .ro, .now, false, 0⟩, ⟨1, 1, .ro, .now, false, 0⟩, ⟨2, 1, .ro, .now, false, 0⟩, ⟨3, 1, .ro, .now, false, 0⟩, ⟨4, 1, .ro, .now, false, 0⟩, ⟨5, 1, .ro, .now, false, 0⟩, ⟨6, 1, .ro, .now, false, 0⟩, ⟨7, 1, .ro, .now, false, 0⟩]⟩,
  -- SAF_CEIL_A
  ⟨0x1c0008, [], false, [⟨0, 16, .rw, .now, true, 0⟩]⟩,
  -- SAF_CEIL_B
  ⟨0x1c000c, [], false, [⟨0, 16, .rw, .now, true, 0⟩]⟩,
  -- SAF_FUSE
  ⟨0x1c0010, [], false, [⟨0, 16, .ro, .now, false, 0⟩]⟩,
  -- SAF_ENERGY_A
  ⟨0x1c0014, [], false, [⟨0, 32, .ro, .now, false, 0⟩]⟩,
  -- SAF_ENERGY_B
  ⟨0x1c0018, [], false, [⟨0, 32, .ro, .now, false, 0⟩]⟩,
  -- SAF_HELD_A
  ⟨0x1c001c, [], false, [⟨0, 32, .rc, .now, false, 0⟩]⟩,
  -- SAF_HELD_B
  ⟨0x1c0020, [], false, [⟨0, 32, .rc, .now, false, 0⟩]⟩,
  -- SAF_FUSE_CLR
  ⟨0x1c0024, [], false, [⟨0, 1, .sc, .now, true, 0⟩, ⟨1, 1, .sc, .now, true, 0⟩]⟩,
  -- SAF_EVENT
  ⟨0x1c0028, [], false, [⟨0, 1, .w1c, .now, false, 0⟩, ⟨1, 1, .w1c, .now, false, 0⟩, ⟨2, 1, .w1c, .now, false, 0⟩, ⟨3, 1, .w1c, .now, false, 0⟩, ⟨4, 1, .w1c, .now, false, 0⟩, ⟨5, 1, .w1c, .now, false, 0⟩, ⟨6, 1, .w1c, .now, false, 0⟩]⟩,
  -- SAF_INT_EN
  ⟨0x1c002c, [], false, [⟨0, 7, .rw, .now, false, 0⟩]⟩]

/-- Registers of TMG. -/
def regRowsTMG0 : List RegRow := [
  -- TMG_STATUS
  ⟨0x1200000, [(4, 16777216)], false, [⟨0, 1, .ro, .now, false, 0⟩, ⟨1, 1, .ro, .now, false, 0⟩]⟩,
  -- TMG_WHEEL_USE
  ⟨0x1200004, [(4, 16777216), (3, 4)], false, [⟨0, 15, .ro, .now, false, 0⟩]⟩,
  -- TMG_EVENT
  ⟨0x1200010, [(4, 16777216)], false, [⟨0, 1, .w1c, .now, false, 0⟩, ⟨1, 1, .w1c, .now, false, 0⟩, ⟨2, 1, .w1c, .now, false, 0⟩, ⟨3, 1, .w1c, .now, false, 0⟩]⟩,
  -- TMG_INT_EN
  ⟨0x1200014, [(4, 16777216)], false, [⟨0, 4, .rw, .now, false, 0⟩]⟩,
  -- TMG_DISC
  ⟨0x1200040, [(4, 16777216), (3, 8)], true, [⟨0, 64, .ro, .now, false, 0⟩]⟩,
  -- TMG_PFC_MAP
  ⟨0x1200100, [(4, 16777216), (32, 4)], false, [⟨0, 24, .rw, .now, false, 18⟩]⟩,
  -- TMG_MTR_SEL
  ⟨0x1200200, [(4, 16777216)], false, [⟨0, 15, .rw, .now, false, 0⟩]⟩,
  -- TMG_MTR_CFG
  ⟨0x1200204, [(4, 16777216)], false, [⟨0, 1, .rw, .ag, false, 10⟩, ⟨1, 1, .rw, .ag, false, 10⟩, ⟨8, 8, .rw, .ag, false, 10⟩, ⟨16, 16, .rw, .ag, false, 10⟩]⟩,
  -- TMG_MTR_RATE
  ⟨0x1200208, [(4, 16777216)], false, [⟨0, 32, .rw, .ag, false, 10⟩]⟩,
  -- TMG_MTR_BURST
  ⟨0x120020c, [(4, 16777216)], false, [⟨0, 32, .rw, .ag, false, 10⟩]⟩,
  -- TMG_MTR_SEAL
  ⟨0x1200210, [(4, 16777216)], false, [⟨0, 1, .sc, .now, false, 0⟩, ⟨1, 1, .sc, .now, false, 0⟩, ⟨4, 2, .ro, .now, false, 0⟩, ⟨8, 4, .ro, .now, false, 0⟩, ⟨16, 8, .ro, .now, false, 0⟩, ⟨24, 8, .ro, .now, false, 0⟩]⟩,
  -- TMG_MTR_TOKENS
  ⟨0x1200214, [(4, 16777216)], false, [⟨0, 32, .ro, .now, false, 0⟩]⟩]

/-- Registers of TMG. -/
def regRowsTMG1 : List RegRow := [
  -- TMG_Q_CFG
  ⟨0x1210000, [(4, 16777216), (16384, 16)], false, [⟨0, 13, .ro, .now, false, 9⟩, ⟨16, 1, .rw, .st, false, 9⟩, ⟨17, 1, .ro, .now, false, 9⟩, ⟨18, 1, .ro, .now, false, 0⟩]⟩,
  -- TMG_Q_LIMIT
  ⟨0x1210004, [(4, 16777216), (16384, 16)], false, [⟨0, 32, .rw, .st, false, 9⟩]⟩,
  -- TMG_Q_BYTES
  ⟨0x1210008, [(4, 16777216), (16384, 16)], true, [⟨0, 64, .ro, .now, false, 0⟩]⟩,
  -- TMG_N_CFG
  ⟨0x1250000, [(4, 16777216), (4096, 16)], false, [⟨0, 13, .ro, .now, false, 9⟩, ⟨13, 2, .ro, .now, false, 9⟩, ⟨15, 2, .ro, .now, false, 9⟩, ⟨17, 1, .ro, .now, false, 9⟩, ⟨18, 13, .ro, .now, false, 9⟩]⟩,
  -- TMG_N_SCHED
  ⟨0x1250004, [(4, 16777216), (4096, 16)], false, [⟨0, 12, .rw, .st, false, 9⟩, ⟨16, 8, .ro, .now, false, 9⟩, ⟨24, 6, .ro, .now, false, 9⟩]⟩,
  -- TMG_N_STATUS
  ⟨0x1250008, [(4, 16777216), (4096, 16)], false, [⟨0, 1, .ro, .now, false, 0⟩, ⟨1, 1, .ro, .now, false, 0⟩]⟩]

/-- Registers of TSU. -/
def regRowsTSU0 : List RegRow := [
  -- TSU_CTRL
  ⟨0x80000, [], false, [⟨0, 2, .rw, .st, false, 14⟩, ⟨4, 4, .rw, .st, false, 14⟩, ⟨8, 2, .rw, .st, false, 14⟩, ⟨10, 2, .rw, .st, false, 14⟩, ⟨16, 5, .rw, .st, false, 14⟩, ⟨24, 1, .rw, .st, false, 14⟩, ⟨25, 1, .rw, .st, false, 14⟩, ⟨26, 1, .rw, .st, false, 14⟩, ⟨31, 1, .sc, .now, false, 0⟩]⟩,
  -- TSU_STATUS
  ⟨0x80004, [], false, [⟨0, 2, .ro, .now, false, 0⟩, ⟨4, 2, .ro, .now, false, 0⟩, ⟨6, 2, .ro, .now, false, 0⟩, ⟨8, 2, .ro, .now, false, 0⟩, ⟨12, 1, .ro, .now, false, 0⟩, ⟨13, 1, .ro, .now, false, 0⟩]⟩,
  -- TSU_RESID
  ⟨0x80008, [], true, [⟨0, 64, .ro, .now, false, 0⟩]⟩,
  -- TSU_UTC_OFF
  ⟨0x80010, [], false, [⟨0, 16, .rw, .st, false, 14⟩]⟩,
  -- TSU_LATCH
  ⟨0x80014, [], false, [⟨0, 1, .sc, .now, false, 0⟩]⟩,
  -- TSU_LAT_LFC
  ⟨0x80018, [], true, [⟨0, 64, .ro, .now, false, 0⟩]⟩,
  -- TSU_LAT_SEC
  ⟨0x80020, [(4, 16)], true, [⟨0, 48, .ro, .now, false, 0⟩]⟩,
  -- TSU_LAT_NS
  ⟨0x80028, [(4, 16)], false, [⟨0, 30, .ro, .now, false, 0⟩, ⟨31, 1, .ro, .now, false, 0⟩]⟩,
  -- TSU_LAT_FRAC
  ⟨0x8002c, [(4, 16)], false, [⟨0, 32, .ro, .now, false, 0⟩]⟩,
  -- TSU_EVENT
  ⟨0x80060, [], false, [⟨0, 1, .w1c, .now, false, 0⟩, ⟨1, 1, .w1c, .now, false, 0⟩, ⟨2, 1, .w1c, .now, false, 0⟩, ⟨3, 1, .w1c, .now, false, 0⟩, ⟨4, 1, .w1c, .now, false, 0⟩, ⟨5, 1, .w1c, .now, false, 0⟩, ⟨6, 1, .w1c, .now, false, 0⟩, ⟨7, 1, .w1c, .now, false, 0⟩, ⟨8, 1, .w1c, .now, false, 0⟩, ⟨9, 1, .w1c, .now, false, 0⟩, ⟨10, 1, .w1c, .now, false, 0⟩, ⟨11, 1, .w1c, .now, false, 0⟩]⟩,
  -- TSU_INT_EN
  ⟨0x80064, [], false, [⟨0, 12, .rw, .now, false, 0⟩]⟩,
  -- TSU_TC_COUNT
  ⟨0x80068, [], true, [⟨0, 64, .ro, .now, false, 0⟩]⟩]

/-- Registers of TSU. -/
def regRowsTSU1 : List RegRow := [
  -- TSU_TC_MISS
  ⟨0x80070, [], false, [⟨0, 32, .rc, .now, false, 0⟩]⟩,
  -- TSU_D_STATE
  ⟨0x80100, [(3, 64)], false, [⟨0, 2, .ro, .now, false, 0⟩, ⟨2, 1, .ro, .now, false, 0⟩, ⟨3, 1, .ro, .now, false, 0⟩]⟩,
  -- TSU_D_RATE
  ⟨0x80104, [(3, 64)], false, [⟨0, 32, .rw, .now, false, 0⟩]⟩,
  -- TSU_D_STEP
  ⟨0x80108, [(3, 64)], false, [⟨0, 32, .wo, .now, false, 0⟩]⟩,
  -- TSU_D_SET_SEC
  ⟨0x8010c, [(3, 64)], true, [⟨0, 48, .rw, .now, false, 0⟩]⟩,
  -- TSU_D_SET_NS
  ⟨0x80114, [(3, 64)], false, [⟨0, 30, .rw, .now, false, 0⟩, ⟨31, 1, .sc, .now, false, 0⟩]⟩,
  -- TSU_D_PHASE
  ⟨0x80118, [(3, 64)], false, [⟨0, 32, .ro, .now, false, 0⟩]⟩,
  -- TSU_D_PHASE_MF
  ⟨0x8011c, [(3, 64)], false, [⟨0, 32, .ro, .now, false, 0⟩]⟩,
  -- TSU_D_MEAS
  ⟨0x80120, [(3, 64)], false, [⟨0, 32, .ro, .now, false, 0⟩]⟩,
  -- TSU_D_DDN
  ⟨0x80124, [(3, 64)], false, [⟨0, 32, .ro, .now, false, 0⟩]⟩,
  -- TSU_D_TEQ
  ⟨0x80128, [(3, 64)], false, [⟨0, 32, .rw, .st, false, 14⟩]⟩,
  -- TSU_D_FASYM
  ⟨0x8012c, [(3, 64)], false, [⟨0, 32, .rw, .st, false, 14⟩]⟩]

/-- Registers of TSU. -/
def regRowsTSU2 : List RegRow := [
  -- TSU_PPS_CFG
  ⟨0x80300, [(2, 16)], false, [⟨0, 2, .rw, .st, false, 14⟩, ⟨4, 1, .rw, .st, false, 14⟩, ⟨5, 1, .rw, .st, false, 14⟩, ⟨6, 1, .rw, .st, false, 14⟩, ⟨16, 9, .rw, .st, false, 14⟩]⟩,
  -- TSU_PPS_DELAY
  ⟨0x80304, [(2, 16)], false, [⟨0, 32, .rw, .st, false, 14⟩]⟩,
  -- TSU_REF_CFG
  ⟨0x80320, [], false, [⟨0, 2, .rw, .st, false, 14⟩, ⟨4, 1, .rw, .st, false, 14⟩]⟩,
  -- TSU_PPSIN_LFC
  ⟨0x80330, [(2, 16)], true, [⟨0, 64, .ro, .now, false, 0⟩]⟩,
  -- TSU_PPSIN_COUNT
  ⟨0x80338, [(2, 16)], false, [⟨0, 32, .ro, .now, false, 0⟩]⟩,
  -- TSU_CONV_IN
  ⟨0x80400, [], true, [⟨0, 64, .rw, .now, false, 0⟩]⟩,
  -- TSU_CONV_DOM
  ⟨0x80408, [], false, [⟨0, 2, .rw, .now, false, 0⟩, ⟨8, 1, .ro, .now, false, 0⟩]⟩,
  -- TSU_CONV_SEC
  ⟨0x8040c, [], true, [⟨0, 48, .ro, .now, false, 0⟩]⟩,
  -- TSU_CONV_NS
  ⟨0x80414, [], false, [⟨0, 30, .ro, .now, false, 0⟩]⟩,
  -- TSU_CONV_FRAC
  ⟨0x80418, [], false, [⟨0, 32, .ro, .now, false, 0⟩]⟩,
  -- TSU_PORT_CFG
  ⟨0x81000, [(128, 16)], false, [⟨0, 1, .rw, .st, false, 14⟩]⟩,
  -- TSU_PORT_RX
  ⟨0x81004, [(128, 16)], false, [⟨0, 16, .rw, .st, false, 14⟩, ⟨16, 16, .ro, .now, false, 0⟩]⟩]

/-- Registers of TSU. -/
def regRowsTSU3 : List RegRow := [
  -- TSU_PORT_TX
  ⟨0x81008, [(128, 16)], false, [⟨0, 16, .rw, .st, false, 14⟩, ⟨16, 16, .ro, .now, false, 0⟩]⟩,
  -- TSU_LINE_ASYM
  ⟨0x82000, [(2, 256), (64, 4)], false, [⟨0, 16, .ro, .now, false, 0⟩]⟩,
  -- TSU_TSQ_LEVEL
  ⟨0x84000, [(4, 256)], false, [⟨0, 11, .ro, .now, false, 0⟩]⟩,
  -- TSU_TSQ_OVF
  ⟨0x84004, [(4, 256)], false, [⟨0, 32, .rc, .now, false, 0⟩]⟩,
  -- TSU_TSQ_POP
  ⟨0x84008, [(4, 256)], false, [⟨0, 1, .sc, .now, false, 0⟩]⟩,
  -- TSU_TSQ_REC
  ⟨0x84020, [(4, 256), (8, 4)], false, [⟨0, 32, .ro, .now, false, 0⟩]⟩]

/-- Registers of UPB. -/
def regRowsUPB0 : List RegRow := [
  -- UPB_CTRL
  ⟨0x400000, [], false, [⟨0, 4, .rw, .now, false, 18⟩, ⟨4, 2, .rw, .now, false, 18⟩]⟩,
  -- UPB_EVENT
  ⟨0x400004, [], false, [⟨0, 1, .w1c, .now, false, 0⟩, ⟨1, 1, .w1c, .now, false, 0⟩, ⟨2, 1, .w1c, .now, false, 0⟩, ⟨3, 1, .w1c, .now, false, 0⟩, ⟨4, 1, .w1c, .now, false, 0⟩, ⟨5, 1, .w1c, .now, false, 0⟩, ⟨6, 1, .w1c, .now, false, 0⟩, ⟨7, 1, .w1c, .now, false, 0⟩]⟩,
  -- UPB_INT_EN
  ⟨0x400008, [], false, [⟨0, 8, .rw, .now, false, 0⟩]⟩,
  -- UPB_PRE
  ⟨0x400020, [(2, 16), (4, 4)], false, [⟨0, 10, .ro, .now, false, 0⟩, ⟨16, 2, .ro, .now, false, 0⟩]⟩,
  -- UPB_P_BURSTS
  ⟨0x401000, [(2, 4096)], true, [⟨0, 64, .ro, .now, false, 0⟩]⟩,
  -- UPB_P_BSN
  ⟨0x401008, [(2, 4096)], false, [⟨0, 32, .ro, .now, false, 0⟩]⟩,
  -- UPB_P_FRAG_ABANDON
  ⟨0x40100c, [(2, 4096)], false, [⟨0, 32, .rc, .now, false, 0⟩]⟩,
  -- UPB_P_UNUSED
  ⟨0x401010, [(2, 4096), (8, 4)], false, [⟨0, 32, .rc, .now, false, 0⟩]⟩,
  -- UPB_P_LOST
  ⟨0x401030, [(2, 4096), (4, 4)], false, [⟨0, 32, .rc, .now, false, 0⟩]⟩,
  -- UPB_CH_OFFSET
  ⟨0x401100, [(2, 4096), (64, 4)], false, [⟨0, 32, .ro, .now, false, 0⟩]⟩,
  -- UPB_AID_CFG
  ⟨0x410000, [(512, 32)], false, [⟨0, 16, .ro, .now, false, 5⟩, ⟨16, 2, .ro, .now, false, 5⟩, ⟨20, 2, .ro, .now, false, 5⟩, ⟨31, 1, .ro, .now, false, 5⟩]⟩,
  -- UPB_AID_REP
  ⟨0x410004, [(512, 32)], false, [⟨0, 16, .ro, .now, false, 0⟩, ⟨16, 1, .ro, .now, false, 0⟩]⟩]

/-- Registers of UPB. -/
def regRowsUPB1 : List RegRow := [
  -- UPB_AID_BYTES
  ⟨0x410008, [(512, 32)], true, [⟨0, 64, .ro, .now, false, 0⟩]⟩,
  -- UPB_AID_WIN
  ⟨0x410010, [(512, 32)], false, [⟨0, 32, .rc, .now, false, 0⟩]⟩,
  -- UPB_AID_EMPTY
  ⟨0x410014, [(512, 32)], false, [⟨0, 32, .rc, .now, false, 0⟩]⟩,
  -- UPB_AID_LOST
  ⟨0x410018, [(512, 32)], false, [⟨0, 32, .rc, .now, false, 0⟩]⟩,
  -- UPB_TRIB_CFG
  ⟨0x430000, [(32, 32)], false, [⟨0, 13, .ro, .now, false, 0⟩, ⟨13, 6, .ro, .now, false, 0⟩, ⟨19, 1, .ro, .now, false, 0⟩, ⟨20, 1, .ro, .now, false, 0⟩, ⟨21, 1, .ro, .now, false, 0⟩]⟩,
  -- UPB_TRIB_PORT
  ⟨0x430004, [(32, 32)], false, [⟨0, 7, .ro, .now, false, 1⟩]⟩,
  -- UPB_TRIB_STATUS
  ⟨0x430008, [(32, 32)], false, [⟨0, 14, .ro, .now, false, 0⟩, ⟨15, 1, .ro, .now, false, 0⟩]⟩,
  -- UPB_TRIB_PJ
  ⟨0x43000c, [(32, 32)], false, [⟨0, 32, .rc, .now, false, 0⟩]⟩,
  -- UPB_TRIB_NJ
  ⟨0x430010, [(32, 32)], false, [⟨0, 32, .rc, .now, false, 0⟩]⟩]

/-- Registers of WRD. -/
def regRowsWRD : List RegRow := [
  -- WRD_STATUS
  ⟨0xa0000, [], false, [⟨0, 1, .ro, .now, false, 0⟩, ⟨1, 1, .ro, .now, false, 0⟩, ⟨2, 1, .ro, .now, false, 0⟩]⟩,
  -- WRD_CMD
  ⟨0xa0004, [], false, [⟨0, 4, .rw, .now, false, 0⟩, ⟨8, 1, .rw, .now, false, 0⟩, ⟨12, 2, .rw, .now, false, 0⟩, ⟨31, 1, .sc, .now, false, 0⟩]⟩,
  -- WRD_ADDR
  ⟨0xa0008, [], true, [⟨0, 64, .rw, .now, false, 0⟩]⟩,
  -- WRD_LEN
  ⟨0xa0010, [], false, [⟨0, 24, .rw, .now, false, 0⟩]⟩,
  -- WRD_RESULT
  ⟨0xa0014, [], false, [⟨0, 4, .ro, .now, false, 0⟩, ⟨4, 1, .ro, .now, false, 0⟩, ⟨8, 7, .ro, .now, false, 0⟩]⟩,
  -- WRD_MIN_SVN
  ⟨0xa0018, [], false, [⟨0, 32, .ro, .now, false, 0⟩]⟩,
  -- WRD_KEYS
  ⟨0xa001c, [], false, [⟨0, 4, .ro, .now, false, 0⟩, ⟨4, 4, .ro, .now, false, 0⟩]⟩,
  -- WRD_VER
  ⟨0xa0020, [], false, [⟨0, 32, .ro, .now, false, 0⟩]⟩,
  -- WRD_RESETS
  ⟨0xa0024, [], false, [⟨0, 16, .ro, .now, false, 0⟩]⟩,
  -- WRD_EVENT
  ⟨0xa0028, [], false, [⟨0, 1, .w1c, .now, false, 0⟩, ⟨1, 1, .w1c, .now, false, 0⟩, ⟨2, 1, .w1c, .now, false, 0⟩]⟩,
  -- WRD_INT_EN
  ⟨0xa002c, [], false, [⟨0, 3, .rw, .now, false, 0⟩]⟩,
  -- WRD_CAL_STATUS
  ⟨0xa0030, [], false, [⟨0, 2, .ro, .now, false, 0⟩, ⟨4, 2, .ro, .now, false, 0⟩, ⟨8, 8, .ro, .now, false, 0⟩, ⟨16, 1, .ro, .now, false, 0⟩, ⟨24, 1, .ro, .now, false, 0⟩, ⟨25, 1, .ro, .now, false, 0⟩]⟩]

/-- Piece 0 of the register map. -/
def regRowsPart0 : List RegRow := regRowsACT0 ++ regRowsACT1 ++ regRowsACW0 ++ regRowsACW1 ++ regRowsASH ++ regRowsBND0 ++ regRowsBND1 ++ regRowsBPM0

/-- Piece 1 of the register map. -/
def regRowsPart1 : List RegRow := regRowsBPM1 ++ regRowsBPM2 ++ regRowsCMC0 ++ regRowsCMC1 ++ regRowsCPL0 ++ regRowsCPL1 ++ regRowsDFR0 ++ regRowsDFR1

/-- Piece 2 of the register map. -/
def regRowsPart2 : List RegRow := regRowsDFR2 ++ regRowsEPC0 ++ regRowsEPC1 ++ regRowsEVR0 ++ regRowsEVR1 ++ regRowsFLT ++ regRowsGLB0 ++ regRowsGLB1

/-- Piece 3 of the register map. -/
def regRowsPart3 : List RegRow := regRowsHIF0 ++ regRowsHIF1 ++ regRowsHIF2 ++ regRowsKST ++ regRowsLCY0 ++ regRowsLCY1 ++ regRowsLNK0 ++ regRowsLNK1

/-- Piece 4 of the register map. -/
def regRowsPart4 : List RegRow := regRowsLTU0 ++ regRowsLTU1 ++ regRowsMCH ++ regRowsMEM0 ++ regRowsMEM1 ++ regRowsOPE ++ regRowsPMON0 ++ regRowsPMON1

/-- Piece 5 of the register map. -/
def regRowsPart5 : List RegRow := regRowsPOL0 ++ regRowsPOL1 ++ regRowsPRS0 ++ regRowsPRS1 ++ regRowsPRS2 ++ regRowsPTH0 ++ regRowsPTH1 ++ regRowsPTH2

/-- Piece 6 of the register map. -/
def regRowsPart6 : List RegRow := regRowsPWR0 ++ regRowsPWR1 ++ regRowsRPM0 ++ regRowsRPM1 ++ regRowsSAF ++ regRowsTMG0 ++ regRowsTMG1 ++ regRowsTSU0

/-- Piece 7 of the register map. -/
def regRowsPart7 : List RegRow := regRowsTSU1 ++ regRowsTSU2 ++ regRowsTSU3 ++ regRowsUPB0 ++ regRowsUPB1 ++ regRowsWRD

/-- The whole register map. -/
def regRows : List RegRow := regRowsPart0 ++ regRowsPart1 ++ regRowsPart2 ++ regRowsPart3 ++ regRowsPart4 ++ regRowsPart5 ++ regRowsPart6 ++ regRowsPart7

/-- One register whose reset word is not 0: offset, instances, reset word (R9). -/
structure ResetRow where
  base : Nat
  dims : List (Nat × Nat)
  word : Nat
  deriving DecidableEq, Repr
/-- The reset words that are not 0, as the field tables' Reset column gives them (R9). -/
def tableResetRows : List ResetRow := [
  -- GLB_PART
  ⟨0x0, [], 0x6425⟩,
  -- GLB_STEP
  ⟨0x4, [], 0xb0⟩,
  -- GLB_I2C_CTRL
  ⟨0x1000, [(4, 256)], 0x2⟩,
  -- EPC_ARM_CTRL
  ⟨0x20014, [], 0x9d04⟩,
  -- EPC_HOLD_LIMIT
  ⟨0x20054, [], 0x3e8⟩,
  -- PWR_TOKEN
  ⟨0x30010, [], 0x1f⟩,
  -- PWR_D_STATE
  ⟨0x30100, [(4, 64)], 0x33⟩,
  -- TSU_STATUS
  ⟨0x80004, [], 0x3⟩,
  -- TSU_LAT_NS
  ⟨0x80028, [(4, 16)], 0x80000000⟩,
  -- LNK_LANE_PWR
  ⟨0x100004, [(128, 2048)], 0x40⟩,
  -- LNK_LANE_STATUS
  ⟨0x100008, [(128, 2048)], 0x10⟩,
  -- SAF_STATUS
  ⟨0x1c0004, [], 0x6⟩,
  -- SAF_CEIL_A
  ⟨0x1c0008, [], 0xd7⟩,
  -- SAF_CEIL_B
  ⟨0x1c000c, [], 0xd7⟩,
  -- SAF_FUSE
  ⟨0x1c0010, [], 0xe6⟩,
  -- DFR_CTRL
  ⟨0x200000, [], 0x2⟩,
  -- DFR_EXC
  ⟨0x200004, [], 0x80010⟩,
  -- DFR_SD_SET
  ⟨0x200008, [], 0x2887fa0⟩,
  -- DFR_SD_CLR
  ⟨0x20000c, [], 0x40d990⟩,
  -- DFR_CH_STATUS
  ⟨0x210000, [(128, 256)], 0x8⟩,
  -- ACT_ROOT_SLOT path A
  ⟨0x300018, [], 0x100⟩,
  -- ACT_ROOT_SLOT path B
  ⟨0x301018, [], 0x302⟩,
  -- HIF_ID
  ⟨0xb00000, [], 0x6425⟩,
  -- HIF_TX_SIZE
  ⟨0xb01008, [(64, 64)], 0x6⟩,
  -- HIF_TX_CFG
  ⟨0xb01014, [(64, 64)], 0xa010002⟩,
  -- HIF_RX_SIZE
  ⟨0xb03008, [(64, 64)], 0x6⟩,
  -- HIF_RX_CFG
  ⟨0xb03014, [(64, 64)], 0x10000⟩,
  -- CMC_LANE_STATUS
  ⟨0x1008000, [(4, 16777216), (32, 32)], 0x8⟩,
  -- BPM_POOL_SIZE t=0
  ⟨0x1400010, [(4, 16777216)], 0x40000⟩,
  -- BPM_POOL_SIZE t=1
  ⟨0x1400014, [(4, 16777216)], 0x900000⟩]

/-- The reset words of registers that an image sets and whose defaults the chapters state (DESIGN CHOICE, assumption 5): the
field tables give them no reset value, and the stated default of the section that governs them stands until a commit. [DESIGN CHOICE: log 5] -/
def imageResetRows : List ResetRow := [
  -- LNK_DET_LOS
  ⟨0x100014, [(128, 2048)], 0xfb0⟩,
  -- LNK_DET_LOL
  ⟨0x100018, [(128, 2048)], 0xa30⟩,
  -- MCH_CTRL
  ⟨0x900000, [], 0x1⟩,
  -- MCH_UART
  ⟨0x900004, [], 0x8⟩,
  -- ACT_CTRL
  ⟨0x300000, [(2, 4096)], 0x5⟩,
  -- ACT_TIMER_A
  ⟨0x30000c, [(2, 4096)], 0xc353d09⟩,
  -- ACT_TIMER_B
  ⟨0x300010, [(2, 4096)], 0x810⟩,
  -- ACT_SKEW_CFG
  ⟨0x300014, [(2, 4096)], 0x103d09⟩,
  -- UPB_CTRL
  ⟨0x400000, [], 0x2⟩,
  -- BND_DG_STATUS
  ⟨0x510008, [(2, 2048), (32, 64)], 0x140000⟩,
  -- PTH_CFG
  ⟨0x600008, [], 0x927c0010⟩,
  -- PTH_TIMERS
  ⟨0x60000c, [], 0x10080000⟩,
  -- LCY_CTRL
  ⟨0x700000, [], 0x400⟩,
  -- CMC_PORT_MAC
  ⟨0x1001004, [(4, 16777216), (32, 64)], 0x12580⟩,
  -- CMC_PORT_FC
  ⟨0x1001008, [(4, 16777216), (32, 64)], 0xffffff00⟩,
  -- CMC_PORT_PW
  ⟨0x100100c, [(4, 16777216), (32, 64)], 0x80000064⟩,
  -- CMC_LANE_TXEQ
  ⟨0x1008004, [(4, 16777216), (32, 32)], 0x1⟩,
  -- PRS_SLOW_RATE
  ⟨0x1100014, [(4, 16777216)], 0x100007d0⟩,
  -- TMG_PFC_MAP
  ⟨0x1200100, [(4, 16777216), (32, 4)], 0xfac688⟩,
  -- BPM_POOL_THR
  ⟨0x1400040, [(4, 16777216), (3, 4)], 0x55f5546⟩,
  -- MEM_SCRUB
  ⟨0x1500010, [(4, 16777216)], 0x1804⟩,
  -- TSU_CTRL
  ⟨0x80000, [], 0xa0⟩,
  -- CPL_WDT
  ⟨0xa00018, [], 0xff03e8⟩,
  -- CPL_MBX_TO
  ⟨0xa00024, [], 0x64⟩,
  -- FLT_CTRL
  ⟨0x70000, [], 0x300643f⟩]

/-- AON fields whose value after power-on is not 0 (R9): KST_SLOT_STATUS.slot_idle (chapter 10). -/
def aonResetRows : List ResetRow := [⟨0x800400, [(256, 4)], 2⟩]

/-- Every reset word that is not 0. -/
def resetRows : List ResetRow := tableResetRows ++ imageResetRows ++ aonResetRows

/-- How far `off` lies into an instance when it is an instance of these indices (outermost first), if it is one. -/
def instOffset (dims : List (Nat × Nat)) (off : Nat) : Option Nat :=
  match dims with
  | [] => some off
  | (c, st) :: rest => if off / st < c then instOffset rest (off % st) else none

/-- Whether BAR0 offset `a` is register row `r`'s LO half (`some 0`) or HI half (`some 4`), else `none`. -/
def RegRow.part (r : RegRow) (a : Nat) : Option Nat :=
  if a < r.base then none
  else match instOffset r.dims (a - r.base) with
    | some 0 => some 0
    | some 4 => if r.pair then some 4 else none
    | _ => none

/-- The register row that defines offset `a`, with which half `a` is; `none` where no register map defines it (R29). -/
def regRowAt (a : Nat) : Option (RegRow × Nat) :=
  regRows.findSome? (fun r => (r.part a).map (fun h => (r, h)))

/-- The reset word of the register word at BAR0 offset `a` (R9): 0 unless `resetRows` lists it. -/
def resetWord (a : Nat) : Word :=
  match resetRows.find? (fun r => decide (r.base ≤ a) && (instOffset r.dims (a - r.base) == some 0)) with
  | some r => BitVec.ofNat 32 r.word
  | none => 0

end Sys2Proof.Machine
end

