-- ==== Sys2Proof/Machine/Table.lean ====
section
/-!
DEFINITION. Sparse tables by key in one canonical form: keys strictly rising. Every sparse store of the model (the
register file, counters, table entries) is one of these.
-/
namespace Sys2Proof.Machine

/-- A sparse table: entries in strictly rising order of key. -/
abbrev Tab (α : Type) := List (Nat × α)

/-- The entry at key `k`, if there is one. -/
def Tab.find {α : Type} (t : Tab α) (k : Nat) : Option α :=
  match t with
  | [] => none
  | (j, v) :: rest => if j = k then some v else Tab.find rest k

/-- The entry at key `k`, or `d` where the table lists none. [DESIGN CHOICE: log 12] -/
def Tab.getD {α : Type} (t : Tab α) (k : Nat) (d : α) : α := (Tab.find t k).getD d

/-- Put `v` at key `k`, keeping the keys in rising order. -/
def Tab.set {α : Type} (t : Tab α) (k : Nat) (v : α) : Tab α :=
  match t with
  | [] => [(k, v)]
  | (j, u) :: rest =>
    if j = k then (k, v) :: rest
    else if k < j then (k, v) :: (j, u) :: rest
    else (j, u) :: Tab.set rest k v

/-- Remove the entry at key `k`. -/
def Tab.del {α : Type} (t : Tab α) (k : Nat) : Tab α := t.filter (fun e => decide (e.1 ≠ k))

/-- Put `some v`, or remove the entry for `none`. -/
def Tab.put {α : Type} (t : Tab α) (k : Nat) (v : Option α) : Tab α :=
  match v with
  | some x => Tab.set t k x
  | none => Tab.del t k

/-- Change the entry at key `k` with `f`, starting from `d` where the table lists none. -/
def Tab.upd {α : Type} (t : Tab α) (k : Nat) (d : α) (f : α → α) : Tab α := Tab.set t k (f (Tab.getD t k d))

/-- The entries whose key satisfies `p`. -/
def Tab.keep {α : Type} (t : Tab α) (p : Nat → Bool) : Tab α := t.filter (fun e => p e.1)

/-- The smallest key of `t` above `k`, with its entry. -/
def Tab.nextAfter {α : Type} (t : Tab α) (k : Nat) : Option (Nat × α) := t.find? (fun e => k < e.1)

/-- The canonical form: keys strictly rising. -/
def Tab.sorted {α : Type} (t : Tab α) : Bool :=
  match t with
  | [] => true
  | [_] => true
  | a :: b :: rest => decide (a.1 < b.1) && Tab.sorted (b :: rest)

end Sys2Proof.Machine
end

