-- ==== Sys2Proof/Machine/StateTime.lean ====
section
/-!
DEFINITION. What the network time unit holds beside its registers (R347, R354, R355, R360). Instants are raw values
(2⁻¹⁶ ns of the LFC) that do not wrap; domain values are in 2⁻³² ns since the TAI epoch.
-/
namespace Sys2Proof.Machine

/-- One conversion segment (R354): from instant `at_` the domain value at `anchor` is `off` and runs at rate `rho`. -/
structure TsuSeg where
  at_ : Nat
  anchor : Nat
  off : Int
  rho : Int
  deriving DecidableEq, Repr

/-- One domain (R347): its last 16 segments, newest first, its anchor and offset in force, the tick of its last
measurement (R349), and the sum and count of the phases of the running mean (TSU_D_PHASE_MF). -/
structure TsuDom where
  segs : List TsuSeg := []
  anchor : Nat := 0
  off : Int := 0
  mfSum : Int := 0
  mfCount : Nat := 0
  deriving DecidableEq, Repr

/-- A piece of served time (R355): from `at_`, the base domain, the residual in 2⁻¹⁶ ns at that instant and the slew in
ns/s; whether the piece began with a base change. -/
structure SrvPiece where
  at_ : Nat
  base : Nat
  r : Int
  slew : Nat
  change : Bool
  deriving DecidableEq, Repr

/-- A requester's conversion (R354). -/
structure TsuConv where
  raw : Nat := 0
  dom : Nat := 0
  stale : Bool := false
  val : Int := 0
  deriving DecidableEq, Repr

/-- A requester's latch of all domains (TSU_LATCH): the raw instant and the four values, `none` for UNSET. -/
structure TsuLat where
  raw : Nat := 0
  vals : List (Option Int) := []
  deriving DecidableEq, Repr

/-- The timestamp queue of a packet region (R360): records of eight words, oldest first, the next seq, and what the next
stored record says of lost ones. -/
structure Tsq where
  recs : List (List Nat) := []
  seq : Nat := 0
  gap : Bool := false
  lost : Nat := 0
  deriving DecidableEq, Repr

/-- The time and timestamp unit beside its registers. -/
structure Tsu where
  doms : Tab TsuDom := []
  /-- Pieces of served time, newest first; the last 4 base changes are kept (R354). -/
  served : List SrvPiece := []
  conv : Tab TsuConv := []
  lat : Tab TsuLat := []
  /-- The second that the last PPS_OUT_0 edge began (R364). -/
  pps0 : Option Nat := none
  /-- REF10M_OUT runs (R362). -/
  ref10m : Bool := false
  deriving DecidableEq, Repr

/-- What travels with a frame from its ingress (R273, R357, R359): its point (0 client, 1 line, 2 injected) and its ID
there, its raw ingress time, whether the ingress lets PTP corrections through, where the PTP header of ptp_class
stands in the frame if the last pass parsed one, and the IP version over which UDP carries it, 0 for no UDP. -/
structure Ingress where
  kind : Nat := 2
  id : Nat := 0
  raw : Nat := 0
  tc : Bool := false
  ptp : Option Nat := none
  udp : Nat := 0
  deriving DecidableEq, Repr

end Sys2Proof.Machine
end

