-- ==== Sys2Proof/Machine/StatePacket.lean ====
section
/-!
DEFINITION. What a packet region holds beside its registers: packets in its pipelines, exact-match slots, queues, meters
and the timing wheel, buffers and units of the three tiers, ports.
-/
namespace Sys2Proof.Machine

/-- A transmit descriptor that waits for its frame's fate (R398): ring, and the tag of its flight. -/
structure TxRef where
  ring : Nat
  tag : Nat
  deriving DecidableEq, Repr

/-- A packet that waits for a pass (R272, R273, R289): its bytes as they stand, ingress point, source (0 client, 1 line,
2 injected), local port, SID, pipeline, passes made, pass metadata, class set, bank of its tag (true: Ochre, R71), slow-path
reinjection, timestamp mark, start node of the pass, error mark, host buffer and host descriptor. -/
structure PPkt where
  bytes : List Byte
  ing : Ingress
  src : Nat
  port : Nat := 0
  sid : Nat := 0
  pipe : Nat := 0
  pass : Nat := 0
  meta_ : Nat := 0
  cls : Nat := 0
  tag : Bool := false
  re : Bool := false
  ts : Bool := false
  node : Option Nat := none
  errored : Bool := false
  buf : Option Nat := none
  tx : Option TxRef := none
  deriving DecidableEq, Repr

/-- A slot of the exact-match store (R281, R293): table, key, and the action in each bank where the slot is valid there. -/
structure ExSlot where
  tbl : Nat
  key : Nat
  ind : Option Nat := none
  och : Option Nat := none
  deriving DecidableEq, Repr

/-- The parser and classifier of a region beside its registers. -/
structure Prs where
  /-- Frames that wait for their first pass, by pipeline. -/
  inq : Tab (List PPkt) := []
  /-- The recirculation queues of pipelines 0 to 3 and 4 to 7 (R274). -/
  rec0 : List PPkt := []
  rec1 : List PPkt := []
  /-- Microsecond and bytes of recirculated passes served in it, per group (R274). -/
  recUs0 : Nat × Nat := (0, 0)
  recUs1 : Nat × Nat := (0, 0)
  /-- A packet did not fit into the group's recirculation queue, and the queue has served none since (R274). -/
  full0 : Bool := false
  full1 : Bool := false
  /-- Slow-path gate: tokens in 1/1,500,000 packets and the tick of the last refill; `none` while it has never been used
  and is full (R292). -/
  slow : Option (Nat × Nat) := none
  /-- Packets that have selected each mirror session since its last copy (R291). -/
  mir : Tab Nat := []
  /-- Exact-match slots by slot number (R281). -/
  exact : Tab ExSlot := []
  /-- A staged write of the access window that waits for the seed copy, by its op (R60, R294). -/
  taWait : Option Nat := none
  deriving DecidableEq, Repr

/-- A meter's settings (R308, R309). -/
structure MtrCfg where
  en : Bool := false
  packets : Bool := false
  overhead : Nat := 0
  period : Nat := 64
  rate : Nat := 0
  burst : Nat := 0
  deriving DecidableEq, Repr

/-- A running meter (R309, R311): the settings in force and its tokens in 2⁻⁴⁸ units. -/
structure Meter where
  cfg : MtrCfg
  tokens : Int
  deriving DecidableEq, Repr

/-- A frame or copy on a queue (R301, R324): its buffer, the length it has here, its queue, whether it holds a copy reference, the
tick of its enqueue, and what its egress needs. -/
structure QFrame where
  bid : Nat
  len : Nat
  q : Nat := 0
  copy : Bool := false
  at_ : Nat := 0
  ing : Ingress := {}
  src : Nat := 0
  sid : Nat := 0
  cls : Nat := 0
  meta_ : Nat := 0
  ts : Bool := false
  errored : Bool := false
  tx : Option TxRef := none
  deriving DecidableEq, Repr

/-- A frame that crosses the line die to a packet region (R22, R25): a line frame for its pipelines or, for the firmware, its slow
path; or a frame of region `src` for one of its queues. -/
inductive LinkItem where
  | line (p : PPkt) (fw : Bool)
  | cross (src q : Nat) (f : QFrame) (bytes : List Byte)
  deriving DecidableEq, Repr

/-- An entity on the timing wheel (R312): core cycle of its eligible time, and of its placing. -/
structure WheelEnt where
  due : Nat
  placed : Nat
  deriving DecidableEq, Repr

/-- The traffic manager of a region beside its registers. -/
structure Tmg where
  queues : Tab (List QFrame) := []
  /-- Running meters: shaper i at i, policer i at 65,536 + i. -/
  meters : Tab Meter := []
  /-- Queue q at q, node m at 16,384 + m (R312). -/
  wheel : Tab WheelEnt := []
  /-- Deficits of weighted children: node m at m, queue q at 4,096 + q; and each weighted node's current child (R305). -/
  deficit : Tab Int := []
  cur : Tab Nat := []
  /-- Weighted children whose weight a commit has changed: their node, and the weight that holds until its next round (R315). -/
  oldW : Tab (Nat × Nat) := []
  /-- Ticks at the region's last reset (R309). -/
  resetAt : Nat := 0
  deriving DecidableEq, Repr

/-- Whether the readable accounting bank and the other one have been marked as consumed (R314). -/
structure Pol where
  done : Bool := true
  doneOther : Bool := true
  deriving DecidableEq, Repr

/-- A buffer: one frame's storage (R322, R324, R326): the owner that allocated it and the owner it is charged to. `cell` is its first tier-0 cell and
`rest` the others of the chain; `low` its tier and units below.
References by kind: queues, retention, and those that pin it (copies, slow path, host). -/
structure Buf where
  bytes : List Byte
  owner : Nat
  charged : Nat
  /-- The queue for which it was allocated, where there was one. -/
  queue : Option Nat := none
  cell : Option Nat := none
  rest : List Nat := []
  low : Option (Nat × List Nat) := none
  refQ : Nat := 0
  refRet : Nat := 0
  refPin : Nat := 0
  at_ : Nat := 0
  poison : Bool := false
  deriving DecidableEq, Repr

/-- A unit of tier 1 or 2 (R322): owner charged, frames with a byte in it, bytes. -/
structure MUnit where
  owner : Nat
  count : Nat := 0
  bytes : List Byte := []
  quarantined : Bool := false
  deriving DecidableEq, Repr

/-- An allocation that received EMPTY and is retried (R330): the tick of the first try, the arbiter's number of its requester. -/
structure RetryReq where
  since : Nat
  who : Nat
  queue : Nat
  frame : QFrame
  bytes : List Byte
  /-- For a host frame that takes its buffer as HIF reads it (R396): its pipeline and the owner that is charged. -/
  inject : Option (Nat × Nat) := none
  deriving DecidableEq, Repr

/-- The buffer manager of a region beside its registers. -/
structure Bpm where
  bufs : Tab Buf := []
  nextBid : Nat := 0
  /-- Units by 2²⁴·tier + index; open unit of a queue or retention list (16,384 + AID index) by 2²⁰·tier + list. -/
  units : Tab MUnit := []
  open_ : Tab Nat := []
  /-- Charges by 4·owner + tier (R326). -/
  use : Tab Nat := []
  /-- Fault counter and suspension by owner (R331). -/
  faults : Tab (Nat × Bool) := []
  /-- Tone shapers: tokens in 1/12,000 bytes and tick of the last refill, by owner (R329). -/
  tone : Tab (Nat × Nat) := []
  /-- Read-ahead asked for and not complete: lane and start of the window, queue, buffer (R333). -/
  want : List (Nat × Nat × Nat × Nat) := []
  retry : List RetryReq := []
  /-- The requester that tier 0's arbiter served first in the last contested clock (R330). -/
  served : Nat := 3
  /-- Quarantined cells of tier 0 (R338). -/
  quar0 : List Nat := []
  deriving DecidableEq, Repr

/-- The memories of a region beside their registers: ticks of each channel's uncorrectable errors of the last second
(R338). -/
structure Mem where
  ue : Tab (List Nat) := []
  deriving DecidableEq, Repr

/-- A client port beside its registers, by the local index of its first lane. -/
structure PortSt where
  /-- The frame the MAC has taken from TMG and not finished (R261). -/
  tx : Option (QFrame × List Byte) := none
  /-- Received sequence ordered set of a transparent port and the one it sends (R256, R257). -/
  osRx : Nat := 0
  osTx : Nat := 0
  /-- Container bytes not yet demapped, with the byte positions of client data lost in them (R257). -/
  demap : List (Byte × Bool) := []
  /-- The port sends local fault for want of its container (R125, R257). -/
  fault : Bool := false
  /-- Backpressure that BPM asks of the port (R329): priorities in bits 7 to 0, PAUSE in bit 8. -/
  txReq : Nat := 0
  deriving DecidableEq, Repr

/-- The client ports of a region. -/
structure Cmc where
  ports : Tab PortSt := []
  deriving DecidableEq, Repr

/-- The blocks of a packet region beside their registers. -/
structure PktSt where
  cmc : Cmc := {}
  prs : Prs := {}
  tmg : Tmg := {}
  pol : Pol := {}
  bpm : Bpm := {}
  mem : Mem := {}
  /-- The region's timestamp queue (R15, R360). -/
  tsq : Tsq := {}
  /-- Monitor windows, a bit each, whose next start the region's counters wait for after a reset (R448). -/
  winWait : Nat := 0
  /-- The core tick of the last work that opened the clock gate in IDLE (R413). -/
  workAt : Option Nat := none
  deriving DecidableEq, Repr

/-! ### What the sections of an image define for a region -/

/-- A node of the parse graph (R279). -/
structure GNode where
  cls : Nat
  fromField : Bool
  term : Bool
  ck : Nat
  frag : Nat
  fixedLen : Nat
  lfOff : Nat
  lfWidth : Nat
  lfMult : Nat
  lfAdd : Nat
  minLen : Nat
  nkOff : Nat
  nkWidth : Nat
  ckOff : Nat
  deriving DecidableEq, Repr

/-- An edge of the parse graph (R279). -/
structure GEdge where
  src : Nat
  dst : Nat
  value : Nat
  mask : Nat
  deriving DecidableEq, Repr

/-- A parse graph (R275, R279): start node, nodes by ID, edges in section order. -/
structure Graph where
  start : Nat
  nodes : Tab GNode
  edges : List GEdge
  deriving DecidableEq, Repr

/-- A ternary entry (R281, R296). -/
structure TernEnt where
  key : Nat
  mask : Nat
  act : Nat
  deriving DecidableEq, Repr

/-- A scheduler node (R316); `parent` and `shaper` are `none` for 0xFFFF. -/
structure SNode where
  parent : Option Nat
  kind : Nat
  level : Nat
  weighted : Bool
  rank : Nat
  weight : Nat
  shaper : Option Nat
  target : Nat
  deriving DecidableEq, Repr

/-- A queue of the tree (R316). -/
structure SQueue where
  parent : Nat
  rank : Nat
  en : Bool
  shaped : Bool
  weight : Nat
  limit : Nat
  deriving DecidableEq, Repr

/-- An owner (R341). -/
structure OwnCfg where
  en : Bool := false
  retry : Bool := false
  faultThr : Nat := 16
  res : List Nat := [0, 0, 0]
  cap : List Nat := [0, 0, 0]
  toneRate : Nat := 0
  retryNs : Nat := 0
  fcLane : Nat := 0
  fcEn : Bool := false
  fcPri : Nat := 0
  profile : Nat := 0
  deriving DecidableEq, Repr

end Sys2Proof.Machine
end

