-- ==== Sys2Proof/Machine/StateBank.lean ====
section
/-!
DEFINITION. A configuration bank (R58): what the sections of a structure image define beside register fields. The
register fields that a section governs stand in the register file of the same bank.
-/
namespace Sys2Proof.Machine

/-- A SID entry of STREAMS (R187): flags bit 0 downstream on A, bit 1 downstream on B, bit 2 upstream; packet region. -/
structure SidEnt where
  flags : Nat := 0
  region : Nat := 0
  deriving DecidableEq, Repr

/-- A SID's binding in CRYPTO (R250). -/
structure CryptEnt where
  group : Nat := 0
  downReq : Bool := false
  upEnc : Bool := false
  deriving DecidableEq, Repr

/-- An access window (R389). -/
structure AcwWin where
  base : Nat := 0
  limit : Nat := 0
  req : Nat := 0
  en : Bool := false
  rd : Bool := false
  wr : Bool := false
  deriving DecidableEq, Repr

/-- What a performance counter selects (R445): source word, qualifier value and mask. -/
structure CtrCfg where
  src : Nat := 0
  qval : Nat := 0
  qmask : Nat := 0
  deriving DecidableEq, Repr

/-- A configuration bank beside its register fields. -/
structure Bank where
  /-- STREAMS: AID roots by index, SIDs, queue bindings by 16,384·region + queue (R187). -/
  roots : Tab Nat := []
  sids : Tab SidEnt := []
  qbind : Tab Nat := []
  /-- SID filter words by 32,768·path + word (R119). -/
  sidFilter : Tab Word := []
  /-- PATHSET: merge group of a SID (R232). -/
  mergeOf : Tab Nat := []
  /-- CRYPTO: SID bindings (R250). -/
  crypt : Tab CryptEnt := []
  /-- LINEMAP: enabled paths and each lane's init_state (R108). -/
  linePaths : Nat := 0
  lineInit : Tab Nat := []
  /-- MONITORS: rate limits by code, counter selections by global counter (R450). -/
  rateLimit : Tab (Nat × Nat) := []
  ctrs : Tab CtrCfg := []
  /-- ACCESS: windows (R394). -/
  windows : Tab AcwWin := []
  /-- POWERPLAN: init state of each packet region (R429). -/
  pwrInit : Tab Nat := []
  /-- POWERPLAN: number of schedule entries (R429). -/
  nSched : Nat := 0
  /-- PORTMAP: the port each downstream container feeds and each upstream one takes (R267). -/
  downPort : Tab Nat := []
  upPort : Tab Nat := []
  /-- PARSEGRAPH: graph of each packet region (R279). -/
  graph : Tab Graph := []
  /-- RULES: the regions whose rule state a section has put; actions by 65,536·region + index, ternary entries by 2²⁰·region + 2¹⁷·table + index (R293, R296). -/
  ruled : List Nat := []
  acts : Tab Nat := []
  tern : Tab TernEnt := []
  /-- SCHEDTREE: nodes by 4,096·region + ID, queues by 16,384·region + queue (R316). -/
  nodes : Tab SNode := []
  queues : Tab SQueue := []
  /-- METERS: settings by 131,072·region + index, policers 65,536 further on (R318). -/
  meters : Tab MtrCfg := []
  /-- TIME: the client ports that its entries name (R366). -/
  timePorts : List Nat := []
  /-- OWNERS: the regions for which a section has put a block; owners by global ID, owner of each mapped queue by 16,384·region + queue (R341). -/
  owned : List Nat := []
  owners : Tab OwnCfg := []
  qowner : Tab Nat := []
  deriving DecidableEq, Repr

/-- The other bank as a whole: its register words and its tables (R58). -/
structure Cfg where
  regs : Tab Word := []
  bank : Bank := {}
  deriving DecidableEq, Repr

end Sys2Proof.Machine
end

