-- ==== Sys2Proof/Machine/StateControl.lean ====
section
/-!
DEFINITION. What the control region and the AON hold beside their BAR0 registers: the free-running counter, the access
shadows, the commit machinery, the policy cluster and the warden, the host interface, power, faults, the event log,
the flash partitions, the pins. One structure per block; each field names the rule that gives it.
-/
namespace Sys2Proof.Machine

/-- The local free-running counter (R346): nanoseconds in 2⁻³² ns units, 80 bits, and the core ticks since reset from
which frame lengths are taken (R38). -/
structure Clock where
  lfc : BitVec 80 := 0
  ticks : Nat := 0
  /-- Core ticks since the microsecond counters of R420 were last advanced; 1,500 make a microsecond. -/
  usPhase : Nat := 0
  deriving DecidableEq, Repr

/-- The read and the write shadow of one requester (R47): the LO offset the shadow belongs to, and the half it holds. -/
structure Shadow where
  rd : Option (Nat × Word) := none
  wr : Option (Nat × Word) := none
  deriving DecidableEq, Repr

/-- The resources a scope descriptor names (R52). -/
structure Scope where
  regions : Nat := 0
  lanes : Nat := 0
  chanA : Nat := 0
  chanB : Nat := 0
  deriving DecidableEq, Repr

/-- The two checks of the EPC (R63, R77). -/
inductive CheckKind where
  /-- An arm check, with the commit FN, the quiesce lead and the restart bound that the arm was asked with. -/
  | arm (fn lead bound : Nat)
  | now
  deriving DecidableEq, Repr

/-- An entry of a bank's table that a register shows through a selection window (R392, R449, R319, R343, R320, R344, R137):
the table and its key, and the word that the register shows of it. -/
inductive View where
  | acw (w j : Nat)
  | ctr (c j : Nat)
  | mtr (k j : Nat)
  | own (o j : Nat)
  | queue (q j : Nat)
  | node (m j : Nat)
  | qowner (q : Nat)
  | sid (w : Nat)
  deriving DecidableEq, Repr

/-- An image load that runs (R55): who asked, at P0 or not, the length asked for; whether staging has been abandoned
since. -/
structure LoadJob where
  p0 : Bool
  len : Nat
  live : Bool := true
  deriving DecidableEq, Repr

/-- A TUNING record (R78): block, regions, parameter, first instance, width in words, group flag, values. -/
structure TuneRec where
  block : Nat
  regions : Nat
  param : Nat
  first : Nat
  width : Nat
  group : Bool
  values : List Nat
  deriving DecidableEq, Repr

/-- An agreement group that is not CONSISTENT (R80): the words pending, by register offset. -/
structure GroupSt where
  pend : Tab Word := []
  deriving DecidableEq, Repr

/-- The epoch and commit controller beside its registers and the two banks. -/
structure Epc where
  load : Option LoadJob := none
  check : Option CheckKind := none
  /-- Staged writes that wait for the end of the seed copy, oldest first: register offset, the entry it shows, word (R60). -/
  waiting : List (Nat × Option View × Word) := []
  /-- Scope descriptors of the structural sections loaded in this staging period, by section ID (R52, R57). -/
  scopes : Tab Scope := []
  /-- Bodies of the loaded sections, by section ID (R57). -/
  loaded : Tab (List Byte) := []
  /-- Scope that is quiesced now (R74). -/
  quiesced : Scope := {}
  /-- The commit under way is an immediate one (R77). -/
  nowCommit : Bool := false
  /-- Line blocks of each path have still to switch (R67, R76). -/
  lineDueA : Bool := false
  lineDueB : Bool := false
  /-- COMMITTING waits for the switch of the path, which held lock at the commit instant (R67). -/
  waitA : Bool := false
  waitB : Bool := false
  /-- Sections that the line blocks of each path have still to take (R67, R76). -/
  owedA : Nat := 0
  owedB : Nat := 0
  /-- A path's line blocks have switched ahead of the commit instant (R67). -/
  early : Bool := false
  /-- Sections that the last commit carried (bit i − 1 for section i). -/
  carried : Nat := 0
  /-- What the last commit quiesces and has not yet reported ready (R75). -/
  unready : Scope := {}
  /-- FN of module line time, and core tick, of the commit instant (R67, EPC_DRAIN_TIME). -/
  atFn : Nat := 0
  atTick : Nat := 0
  /-- Agreement groups that are HELD or CHECKING, by the offset of their SEAL register (R80). -/
  groups : Tab GroupSt := []
  deriving DecidableEq, Repr

/-- A policy or warden image in a flash slot (R369, R371, R373). -/
structure FwSlot where
  bytes : List Byte
  svn : Nat
  version : Nat
  trial : Bool
  deriving DecidableEq, Repr

/-- The module flash (R11): structure image partition, policy and warden slots, calibration partition, identity
partition with its keys and certificate, the held state of the paths (R77, R371, R463, R53, R370, R387, R158). -/
structure Flash where
  image : List Byte := []
  polA : Option FwSlot := none
  polB : Option FwSlot := none
  wrdA : Option FwSlot := none
  wrdB : Option FwSlot := none
  wrdPref : Bool := false
  /-- Rollback floor of warden images, as WRD_MIN_SVN is of policy images (R373). -/
  wrdFloor : Nat := 0
  cal : List Byte := []
  imgKeys : Tab (List Byte) := []
  polKeys : Tab (List Byte) := []
  rootKey : List Byte := []
  anchorKey : List Byte := []
  gunathKey : List Byte := []
  cert : List Byte := []
  hubAuthA : Bool := false
  hubAuthB : Bool := false
  heldA : Bool := false
  heldB : Bool := false
  deriving DecidableEq, Repr

/-- A command of WRD_CMD that waits for the warden (R371, R373, R370, R372, R466). -/
inductive WrdReq where
  | policyWrite (slot : Bool) (img : List Byte)
  | wardenWrite (slot : Bool) (img : List Byte)
  | keyAdd (k : Nat) (key : List Byte)
  | keyRevoke (k : Nat)
  | setPref (slot : Bool)
  | calUnlock
  | calWrite (file : List Byte)
  | calSaveRx
  | calRead
  deriving DecidableEq, Repr

/-- A flash write that the warden runs (R371, R373, R466). -/
inductive WrdJob where
  | policy (slot : Bool) (img : List Byte)
  | warden (slot : Bool) (img : List Byte)
  | cal (file : List Byte)
  deriving DecidableEq, Repr

/-- The warden beside its registers. -/
structure Wrd where
  job : Option WrdJob := none
  /-- Stopped between a watchdog reset and its restart (R380), and before S0 has started it. -/
  down : Bool := true
  /-- A command, and whether it came at P0 and at P1 or above, that waits until the warden runs again (R380). -/
  waiting : Option (WrdReq × Bool × Bool) := none
  /-- The calibration file that S0 loaded, empty where it was not valid (R464, R467). -/
  calLoaded : List Byte := []
  /-- The slot from which a watchdog restart starts the warden, once it has run (R373, R380). -/
  slot : Option Bool := none
  /-- Core tick at which the running image started (R373). -/
  startedAt : Nat := 0
  /-- Local SRAM bytes (R368): 256 KiB, 0 where not listed. Only the warden's core reaches it. -/
  sram : Tab Byte := []
  deriving DecidableEq, Repr

/-- The policy cluster beside its registers. -/
structure Cpl where
  /-- Shared SRAM bytes that hardware or a command wrote (R368): offsets 0 to 0xFF_FFFF. -/
  sram : Tab Byte := []
  /-- Bits of CPL_WDT_KICK written in each core's running period (R380). -/
  kicked : Nat := 0
  /-- Times, in core ticks, of the watchdog resets of the last 600 s (R380). -/
  wdtResets : List Nat := []
  /-- Core tick at which the cluster last started (R373). -/
  startedAt : Nat := 0
  /-- Local SRAM bytes of the cores (R368): core c's 512 KiB at 2¹⁹ × c, 0 where not listed. Only the core itself reaches it. -/
  coreSram : Tab Byte := []
  deriving DecidableEq, Repr

/-- A transmit descriptor taken and not yet passed by head (R398): ring, index, buffer address of the descriptor's slot,
done or not; `dead` after an FLR or a ring disable, so that its write-back is discarded (R403). -/
structure TxFlight where
  ring : Nat
  idx : Nat
  addr : Nat
  done : Bool
  dead : Bool
  tag : Nat
  deriving DecidableEq, Repr

/-- A reference a receive ring holds (R400). -/
structure RxHold where
  ring : Nat
  idx : Nat
  region : Nat
  handle : Nat
  owner : Nat
  deriving DecidableEq, Repr

/-- An entry of an MSI-X table (R404), as PCIe defines it: message address and data, masked or not. -/
structure MsixVec where
  addr : Nat := 0
  data : Nat := 0
  masked : Bool := false
  deriving DecidableEq, Repr

/-- The host interface beside its registers. -/
structure Hif where
  /-- The PF is at P0, which HIF_P0_CTRL.p0 shows (R387). -/
  p0 : Bool := false
  /-- Core tick at which the P0 nonce was issued, while it may still be answered (R387). -/
  nonceAt : Option Nat := none
  fails : Nat := 0
  locked : Bool := false
  verifying : Bool := false
  inFlight : List TxFlight := []
  nextTag : Nat := 0
  held : List RxHold := []
  /-- Write-backs not yet signalled, by ring: transmit t, receive 64 + r (R405). -/
  coal : Tab Nat := []
  /-- Interrupt sources whose vector is raised and whose bits are not all clear (R404). -/
  raised : List Nat := []
  /-- The MSI-X tables and pending bits, by 128·function + vector (R404). -/
  table : Tab MsixVec := []
  pba : List Nat := []
  deriving DecidableEq, Repr

/-- What a packet region's exit is at (R418): from DIM, from OFF, or the restart after a reset. -/
inductive ExitKind where
  | fromDim | fromOff | restart
  deriving DecidableEq, Repr

/-- One packet region's power beside its registers. -/
structure RegionPwr where
  /-- A wake has been asked for while an entry runs (R417). -/
  wake : Bool := false
  /-- Exit running and its step X1 to X5 (R418). -/
  exit : Option (ExitKind × Nat) := none
  /-- Requested target after a wake that passes through ON. -/
  after : Option Nat := none
  /-- Whether the pads were latched before the entry that runs (R419). -/
  pads : Bool := false
  deriving DecidableEq, Repr

/-- Power, start-up and the last gasp beside their registers. -/
structure Pwr where
  /-- A start-up step has begun and not ended (R409), and whether its ramps are done. -/
  stepRunning : Bool := false
  rampsDone : Bool := false
  /-- Core tick at which the step that runs began (PWR_STEP_TIME). -/
  stepAt : Nat := 0
  /-- Engine that S7 ramps (R409). -/
  s7Engine : Nat := 0
  /-- Start-up stopped by a failure at S0 to S2 (R410). -/
  stopped : Bool := false
  /-- Control region and line region are up. -/
  controlOn : Bool := false
  lineOn : Bool := false
  /-- The boot commit has been applied (R411). -/
  booted : Bool := false
  regions : Tab RegionPwr := []
  /-- Packet regions that have taken their POWERPLAN init state, or whose start-up step has failed (R411, R429). -/
  initTaken : Nat := 0
  /-- For a packet region that a commit has found in DIM or OFF: the sections it takes at X5, and the bank it had (R70). -/
  owed : Tab (Nat × Cfg) := []
  /-- Per packet region: FN and core tick of the last schedule entry that asked for a state of it (R428). -/
  schedAt : Tab (Nat × Nat) := []
  /-- Requests waiting for the power-peak token, in order; core tick of the last request, and the units that asked in that tick
  (R422). -/
  queue : List Ramp := []
  askedAt : Nat := 0
  asked : List Ramp := []
  /-- The holder whose ramp goes on after it lost the token (R422). -/
  overdue : List Ramp := []
  /-- Sensors at warning, and at throttle (R423). -/
  warnSet : List Sensor := []
  throttleSet : List Sensor := []
  /-- The module is held in reset after a thermal trip (R412). -/
  thermalHold : Bool := false
  inReset : Bool := false
  bankEmpty : Bool := false
  /-- ASH still looks for a window on the path (R425), and its cause. -/
  gaspA : Bool := false
  gaspB : Bool := false
  gaspCause : Nat := 0
  /-- Preloaded DYING_GASP slots: TID and LSI (R159). -/
  slotA : Option (Nat × Nat) := none
  slotB : Option (Nat × Nat) := none
  deriving DecidableEq, Repr

/-- An event record (R431); its CRC is a function of the other words. -/
structure Rec where
  seq : Nat
  opTime : Nat
  cycles : Nat
  sev : Sev
  jet : Bool
  ltValid : Bool
  fn : Nat
  cw : Nat
  code : Nat
  region : Nat
  block : Nat
  cell : Nat
  suppressed : Nat
  arg0 : Nat
  arg1 : Nat
  arg2 : Nat
  arg3 : Nat
  raw : Nat
  /-- In flash (R436). -/
  flushed : Bool
  deriving DecidableEq, Repr

/-- One requester's reading window (R440). -/
structure LogWin where
  cursor : Nat := 0
  recs : List Rec := []
  gen : Nat := 0
  gap : Bool := false
  busy : Bool := false
  deriving DecidableEq, Repr

/-- The event recorder beside its registers. -/
structure Evr where
  log : List Rec := []
  jet : List Rec := []
  /-- Millitokens of each code's bucket; an unlisted bucket is full (R438). -/
  tokens : Tab Nat := []
  suppressed : Tab Nat := []
  /-- Severity with which each code was admitted last, for the floor of R439. -/
  sevs : Tab Nat := []
  /-- Millitokens of the aggregate bucket of R439. -/
  agg : Nat := 16384000
  wins : Tab LogWin := []
  nonceAt : Option Nat := none
  fails : Nat := 0
  locked : Bool := false
  verifying : Bool := false
  /-- The log is closed (R425, R458). -/
  closed : Bool := false
  /-- op_time at the last save (R433). -/
  savedOp : Nat := 0
  deriving DecidableEq, Repr

/-- FLT's handling of one region (R455 to R457). -/
structure FltRegion where
  /-- Step F1 to F3 that runs, 0 when none. -/
  step : Nat := 0
  /-- Isolated and held (R456). -/
  held : Bool := false
  /-- Core ticks at the fault declaration, and of the automatic resets of the last 600 s. -/
  at_ : Nat := 0
  resets : List Nat := []
  /-- Held powered off after F2 because the limit was reached (R456). -/
  overLimit : Bool := false
  /-- A block fault has been contained in it since its last restart (R451). -/
  degraded : Bool := false
  /-- Ordered by FLT_R_CTRL or the console, not automatic (R456, R461). -/
  manual : Bool := false
  deriving DecidableEq, Repr

/-- Faults and containment beside their registers. -/
structure Flt where
  regions : Tab FltRegion := []
  deriving DecidableEq, Repr

/-- The calibration store's lock (R466). -/
structure Cal where
  unlocked : Bool := false
  deriving DecidableEq, Repr

/-- The low-speed pins the rules read or drive (R471, R477, R478). -/
structure Pins where
  resetN : Bool := false
  trstN : Bool := false
  pwrGood : Bool := true
  laserEn : Bool := false
  perstN : Bool := true
  alertN : Bool := true
  thermTripN : Bool := true
  gpio : Nat := 0
  deriving DecidableEq, Repr

/-- The instructions of the boundary-scan TAP (R480). -/
inductive TapInstr where
  | extest | idcode | samplePreload | clamp | highz | extestPulse | extestTrain | bypass
  deriving DecidableEq, Repr

/-- The TAP: instruction register, selected behaviour, and the preloaded boundary values (R480). -/
structure Tap where
  ir : TapInstr := .idcode
  acts : TapInstr := .idcode
  preload : List Bool := []
  deriving DecidableEq, Repr

/-- One I2C master beside its registers (R481, R482). -/
structure I2c where
  /-- Nine clocks and a STOP are owed before the first command (R482). -/
  owesClear : Bool := true
  deriving DecidableEq, Repr

end Sys2Proof.Machine
end

