-- ==== Sys2Proof/Machine/StateLine.lean ====
section
/-!
DEFINITION. What the line region and the safety governor hold beside their BAR0 registers: line times, lane detectors,
energy charges, delineation, reassembly, activation, grants and bursts, deskew and merge buffers, protection, cipher
engines and key slots. One structure per block; each field names the rule that gives it. Register fields the block
chapters number are not repeated here: they live in the register file of State.
-/
namespace Sys2Proof.Machine

/-- A position in a path's or the module's line time (R32), with the phase inside the codeword in 1/96 codewords. -/
structure LineTime where
  fn  : Nat := 0
  cw  : Nat := 0
  sub : Nat := 0
  deriving DecidableEq, Repr

/-- A second announcement (R33): the announced FN and the TAI second that begins there. -/
structure SecAnn where
  fn  : Nat
  tai : Nat
  deriving DecidableEq, Repr

/-- The line time unit beside its registers. -/
structure Ltu where
  /-- Path A time, kept while a channel of path A is in multiframe lock (R35). -/
  timeA : LineTime := {}
  /-- Path B time (R35). -/
  timeB : LineTime := {}
  /-- Phase of module line time inside its codeword, 1/96 codewords (R32). -/
  sub : Nat := 0
  /-- Whether the module frame before the present one was shortened (R37). -/
  shortened : Bool := false
  /-- Path A's most recent second announcement since reset or renumbering (R34). -/
  annA : Option SecAnn := none
  /-- Path B's most recent second announcement since reset or renumbering (R34). -/
  annB : Option SecAnn := none
  /-- An announced offset that waits for the first frame boundary that satisfies it (R34). -/
  pendingOffset : Option Nat := none
  /-- The announcement whose offset is waiting (R34). -/
  pendingAnn : Option SecAnn := none
  /-- A lead path decided but not yet taken: it is taken at that path's next frame boundary (R36). -/
  pendingLead : Option Path := none
  /-- The FN of the frame in which the lead path gained the first lock after reset, while R36's tie may still come. -/
  firstLockFn : Option Nat := none
  /-- The path that led last (R36, R38). -/
  lastLead : Option Path := none
  /-- The frames received on path A's reference channels in its present lock, newest first, the last 15,625: the LFC reading in core
  ticks, and how many frames after the lock's first; how long the lock has been held (R36), and the frame length of a holdover (R38). -/
  ticksA : List (Nat × Nat) := []
  /-- The same of path B (R36, R38). -/
  ticksB : List (Nat × Nat) := []
  /-- Channel and FN of the last frame begun on path A's reference channel, in its present lock (R37). -/
  frameA : Option (Nat × Nat) := none
  /-- The same of path B (R37). -/
  frameB : Option (Nat × Nat) := none
  /-- Holdover frame length as (ticks, frames): the average of R38. -/
  holdLen : Nat × Nat := (96000, 1)
  /-- What holdover has counted beyond whole 1/96 codewords, in parts of the length in ticks of `holdLen` (R38). -/
  holdAcc : Nat := 0
  /-- Received time for which a frozen module line time waits: the path it locks to (R39). -/
  frozenFor : Option Path := none
  /-- Codeword count of the last snapshot latch that counts for the spacing of R46. -/
  lastLatch : Option Nat := none
  /-- FN of a latch whose copies are still completing (R45). -/
  snapPending : Option Nat := none
  /-- Assigned reference channels of R35: the channel last used as reference on each path. -/
  refA : Option Nat := none
  /-- Reference channel in use on path B (R35). -/
  refB : Option Nat := none
  deriving DecidableEq, Repr

/-- One line lane pair beside its registers. -/
structure LaneSt where
  /-- State at the end of the transition step that runs, if one runs (R99, R101). -/
  step : Option Nat := none
  /-- Clock recovery is locked (R93). -/
  clockLocked : Bool := false
  /-- ACTIVE and free of LOS, LOL and LOF for more than 50 µs (R106). -/
  established : Bool := false
  /-- Dark because of its wavelength (R98). -/
  waveDark : Bool := false
  /-- Held OFF by FLT after a scope retry (R454). -/
  fltHeld : Bool := false
  /-- FLT has taken the lane back towards its init_state once for the open SCOPE fault (R454). -/
  fltRetry : Bool := false
  /-- FLT takes the lane to OFF whatever the LNK would refuse (R454). -/
  forceOff : Bool := false
  /-- Trims of the calibration store as loaded (R102, R463): bias, mod, heater, set point, bias_tc, heat_tc. -/
  calBias : Nat := 0
  calMod : Nat := 0
  calHeater : Nat := 0
  calSetpoint : Int := 0
  calBiasTc : Int := 0
  calHeatTc : Int := 0
  /-- Heater set point applied, 0.01 % (R102). -/
  heater : Int := 0
  /-- Internal delay of the lane's downstream point, 1/16 ns (R463, R357). -/
  rxDelay : Nat := 0
  /-- The lane runs on class defaults (R465). -/
  calDefault : Bool := false
  deriving DecidableEq, Repr

/-- One optical engine beside its registers. -/
structure EngineSt where
  /-- A power-up is running (R101) or its S7 ramp is (R409). -/
  ramping : Bool := false
  /-- Temperature at calibration, signed 0.1 °C (R463). -/
  tCal : Int := 0
  deriving DecidableEq, Repr

/-- LNK and OPE. -/
structure Lnk where
  lanes : Tab LaneSt := []
  engines : Tab EngineSt := []
  deriving DecidableEq, Repr

/-- One charge of the energy window (R103): path, 1.6 µs bin of path time, energy in µW·codewords, and the core tick at which it
leaves the window of the present, by which it ages while the path has no time. -/
structure Charge where
  path : Path
  bin : Nat
  energy : Nat
  gone : Nat
  deriving DecidableEq, Repr

/-- The optical safety governor beside its registers. -/
structure Saf where
  /-- The ceilings of the fibres, 0.1 dBm, which SAF_CEIL_A and SAF_CEIL_B show (R105). -/
  ceilA : Int := 215
  ceilB : Int := 215
  charges : List Charge := []
  /-- Launch power last measured since module reset, µW, by lane (R103). -/
  measured : Tab Nat := []
  deriving DecidableEq, Repr

/-- Delineation, header and defect detection of one lane (R113, R114, R126). -/
structure DfrLane where
  /-- Consecutive frames without a sync match (R113). -/
  miss : Nat := 0
  /-- The fn of the last good header that may count towards lock (R114). -/
  goodFn : Option Nat := none
  /-- Expected FN of the next frame, in lock (R114). -/
  expFn : Nat := 0
  /-- Consecutive header misses, in lock (R114). -/
  hdrMiss : Nat := 0
  /-- Uncorrectable codewords among the previous frame's last 255, as codeword numbers (R126). -/
  fecTail : List Nat := []
  /-- Consecutive frames with at most exc_clear uncorrectable codewords (R126). -/
  fecClean : Nat := 0
  /-- FEC-EXC is detected (R126). -/
  fecDet : Bool := false
  /-- Consecutive good headers with ais = 1, and with ais = 0 (R126). -/
  aisOn : Nat := 0
  aisOff : Nat := 0
  /-- AIS-L is detected (R126). -/
  aisDet : Bool := false
  /-- SD is detected (R126). -/
  sdDet : Bool := false
  /-- The lane has rejoined the merge since its defect cleared (R128): false until its next frame boundary. -/
  merged : Bool := true
  deriving DecidableEq, Repr

/-- A downstream segment on its way through the line region (R117): path, channel, frame, byte offset of its header in the
payload area, the codeword that holds the header's first bit, and its fields. -/
structure Seg where
  path : Path
  chan : Nat
  fn : Nat
  offset : Nat
  cw : Nat
  sid : Nat
  frag : Nat
  enc : Bool
  keyIdx : Nat
  mseq : Option Nat
  bseq : Option Nat
  ptype : Nat
  hdr : List Byte
  payload : List Byte
  tag : List Byte
  /-- Raw time of arrival (R357). -/
  raw : Nat
  /-- The place of a segment lost to R118 inside a fragment chain: its code; SID 0 stands for every SID of the channel. -/
  lost : Option Nat := none
  deriving DecidableEq, Repr

/-- An open reassembly context (R120, R198): path, channel or group, SID, bytes so far, FN of the first fragment, the
merge value of the first fragment and how many values the frame spans, and the code that a lost fragment, a skip or a
resync marked it with. -/
structure Ctx where
  path : Path
  idx : Nat
  sid : Nat
  bytes : List Byte
  fn : Nat
  mseq : Option Nat
  count : Nat
  ptype : Nat
  raw : Nat
  mark : Option Nat
  deriving DecidableEq, Repr

/-- One downstream container's pointer processing (R125): frames since an accepted pointer, the run of one new pointer,
the run of all-ones words, the run of accepted pointers, and the pointer and code of the previous frame. -/
structure TribRx where
  noAccept : Nat := 0
  newPtr : Nat := 0
  newRun : Nat := 0
  onesRun : Nat := 0
  okRun : Nat := 0
  lopDet : Bool := false
  aisDet : Bool := false
  lastJc : Nat := 0
  deriving DecidableEq, Repr

/-- The downstream framer beside its registers. -/
structure Dfr where
  lanes : Tab DfrLane := []
  ctxs : List Ctx := []
  tribs : Tab TribRx := []
  /-- Segments that have passed the SID filter and wait for their cipher engine, oldest first (R118, R247). -/
  out : List Seg := []
  deriving DecidableEq, Repr

/-- The line management channel beside its registers (R132 to R137). -/
structure Mch where
  /-- The message in progress on the receive side and its last bseq (R133). -/
  rxOpen : Option (Nat × List Byte) := none
  /-- Complete messages waiting for the sink, oldest first, with the sink of a message that a commit found in progress
  (R134, R138). -/
  rxBuf : List (Option Nat × List Byte) := []
  /-- Core tick at which MGT_UART0 will have sent the first of them, while it sends it (R134, R135). -/
  uartAt : Option Nat := none
  /-- Upstream messages, oldest first (R137). -/
  txBuf : List (List Byte) := []
  /-- Bytes already sent of the first upstream message, its path, and the next sequence value per path (R185). -/
  txSent : Nat := 0
  txPath : Option Path := none
  txSeqA : Nat := 0
  txSeqB : Nat := 0
  /-- Sink and path_sel when the message in progress began (R138). -/
  rxSink : Nat := 0
  rxSel : Nat := 0
  deriving DecidableEq, Repr

/-- Upstream line control messages of the line blocks, by the order of R147, R185, R200, R223 and R244. -/
inductive LcmClass where
  | act | pth | lcy | bnd
  deriving DecidableEq, Repr

/-- An upstream LCM slot waiting for a window: class, type, body (R145). -/
structure UpLcm where
  cls : LcmClass
  typ : Nat
  body : List Byte
  deriving DecidableEq, Repr

/-- An equalisation delay that waits for its apply_fn (R151). -/
structure PendEqd where
  chan : Nat
  eqd : Nat
  applyFn : Nat
  deriving DecidableEq, Repr

/-- A container assignment that waits for its apply_fn (R157, R186): index, register word or removal, FN. -/
structure PendTrib where
  t : Nat
  cfg : Option Nat
  applyFn : Nat
  deriving DecidableEq, Repr

/-- A fragmented message being received (R146). -/
structure FragAsm where
  count : Nat
  /-- Data received, by fragment index. -/
  parts : Tab (List Byte)
  deriving DecidableEq, Repr

/-- Activation of one path beside its registers. -/
structure Act where
  /-- Downstream LCM slots that DFR has passed, oldest first (R131, R143). -/
  inbox : List (List Byte) := []
  /-- Last PATH_PARAMS: disc_open, hub_sig, min_guard (R144). -/
  discOpen : Bool := false
  hubSig : Bool := false
  minGuard : Nat := 0
  /-- hub_id of the last good header of the path (R112, R145). -/
  hubId : Nat := 0
  /-- Channel assigned by ASSIGN_TID or HOME_ASSIGN (R35, R155). -/
  home : Option Nat := none
  /-- Windows still to skip (R148). -/
  skip : Nat := 0
  /-- The ANNOUNCEs whose answer is awaited, oldest first, each by its window's backoff_max (R148). -/
  announces : List Nat := []
  /-- Assignments that wait for their apply_fn (R151, R155, R157). -/
  pendEqd : List PendEqd := []
  pendHome : Option (Nat × Nat) := none
  pendTrib : List PendTrib := []
  /-- A fragmented message in progress (R146). -/
  frag : Option FragAsm := none
  /-- The complete AUTH_CHALLENGE and AUTH_RESPONSE, and the derived 96 bytes, held by the warden (R153, R154). -/
  challenge : Option (List Byte) := none
  response : Option (List Byte) := none
  derived : Option (List Byte) := none
  /-- The tag of CONFIRM, while the root slots still wait to be written (R153). -/
  confirmTag : Option (List Byte) := none
  /-- Upstream slots of ACT, PTH, LCY and BND in queueing order (R147). -/
  upq : List UpLcm := []
  /-- FN of the last skew report (R156). -/
  skewFn : Option Nat := none
  deriving DecidableEq, Repr

/-- A decoded window of the terminal (R161 to R164). `aid` is the granted value, `idx` the STREAMS index or `none` for the
management AID. -/
structure Window where
  lane : Nat
  fn : Nat
  aid : Nat
  idx : Option Nat
  start : Nat
  len : Nat
  pre : Nat
  rpt : Bool
  lcm : Bool
  frag : Bool
  cont : Bool
  deriving DecidableEq, Repr

/-- A segment placed in a burst (R117, R171): its AID index, SID, merge and bonding values, whether it is encrypted, the frame
bytes it carries, before residence correction, and the buffer that holds them. -/
structure UpSeg where
  aid : Nat
  sid : Nat
  frag : Nat
  mseq : Option Nat
  bseq : Option Nat
  enc : Bool
  payload : List Byte
  region : Nat
  handle : Nat
  /-- Core tick of its first fill, for ret_win (R220). -/
  at_ : Nat
  /-- The frame's ingress, for R359. -/
  ing : Ingress
  /-- A retained segment that is still to be resent (R226). -/
  again : Bool := false
  deriving DecidableEq, Repr

/-- A derived key's place (R238, R241): context with its epoch, root slot and its generation. -/
structure Derived where
  path : Path
  up : Bool
  group : Nat
  idx : Nat
  epoch : Nat
  slot : Nat
  gen : Nat
  deriving DecidableEq, Repr

/-- Kinds of burst (R170, R174, R186). -/
inductive BurstKind where
  | granted | discovery | ranging | standing (t : Nat) | gasp
  deriving DecidableEq, Repr

/-- A filled burst until it has been sent or lost (R175 to R177): kind, lane, first codeword of its window in path time,
guard and whole length in codewords, kind and symbols of its preamble, codeword and fine delay of its launch, sequence number,
information stream, segments, ACT messages it carries, reports it shows as (AID index, report, tint bit where one goes with it), number
of windows, and whether every window is the management AID's. -/
structure Burst where
  kind : BurstKind
  lane : Nat
  pos : Nat
  guard : Nat
  len : Nat
  pre : Nat
  plen : Nat
  alarm : Nat
  fine : Nat
  bsn : Nat
  info : List Byte
  segs : List UpSeg
  acts : Nat
  reps : List (Nat × Nat × Option Bool)
  wins : Nat
  mgmt : Bool
  /-- Continuation windows still to be filled: start codeword, offset in the information stream, bytes (R173, R176). -/
  conts : List (Nat × Nat × Nat) := []
  /-- Keys that its segments have captured (R246). -/
  keys : List Derived := []
  /-- Presented to the SAF and admitted (R104). -/
  admitted : Bool := false
  /-- Its launch alarm has fired and it is on the fibre (R175). -/
  launched : Bool := false
  deriving DecidableEq, Repr

/-- A fragment remainder that waits for a window (R182): AID index, the lane it must follow, region, the frame with its queue
reference, what is left of its bytes, and the FN of the window that carried its last fragment. -/
structure Remainder where
  idx : Nat
  lane : Nat
  region : Nat
  frame : QFrame
  rest : List Byte
  fn : Nat
  deriving DecidableEq, Repr

/-- An upstream container (R186, R256): the client's accumulated excess in bytes, its records that no burst carries yet, each marked where
it is a frame's, with how much of them has left the elastic buffer, in thirds of a byte, and the core tick up to which that is counted,
the pointer of its next frame once one has been sent (R124), the path frame of its last standing window, and whether that went
unused. -/
structure TribTx where
  excess : Int := 0
  buffer : List (Bool × List Byte) := []
  moved : Nat := 0
  at_ : Nat := 0
  next : Option Nat := none
  lastFn : Option Nat := none
  unused : Bool := false
  deriving DecidableEq, Repr

/-- The burst and grant engine beside its registers. -/
structure Upb where
  /-- Grant maps received and not yet decoded: lane, FN, entries by codeword, `none` for a lost codeword (R162, R115). -/
  maps : List (Nat × Nat × List (Option (List Nat))) := []
  windows : List Window := []
  bursts : List Burst := []
  rests : List Remainder := []
  /-- AID index after which the next report block starts, per path (R180). -/
  repA : Nat := 511
  repB : Nat := 511
  /-- Standing windows that wait for their apply_fn (R186), with their path. -/
  pendTrib : List (Path × PendTrib) := []
  tribs : Tab TribTx := []
  /-- Windows that have been filled before the command that names their fill point, to keep the order of R176 and R202: kind, lane
  and first codeword in path time. -/
  early : List (BurstKind × Nat × Nat) := []
  deriving DecidableEq, Repr

/-- A buffered segment of a downstream group (R193): bonding value, FN:CW codeword count of its arrival, segment. -/
structure Buffered where
  bseq : Nat
  at_ : Nat
  seg : Seg
  deriving DecidableEq, Repr

/-- One downstream bonded group beside its registers. -/
structure BndGroup where
  buf : List Buffered := []
  /-- Consecutive arrivals that were neither buffered nor released (R195). -/
  stray : Nat := 0
  /-- Arrivals, value and codeword count, from which a later one measures its lag (R196). -/
  seen : List (Nat × Nat) := []
  /-- Values at and above the release point of segments lost in DFR inside fragment chains: value, SID, code (R120, R198). -/
  lost : List (Nat × Nat × Nat) := []
  deriving DecidableEq, Repr

/-- What a bonded group releases in turn (R194, R195, R198): a segment, or a gap that a skip or a resync has closed, with SID and code of
what DFR had lost in it. -/
inductive Released where
  | seg (g : Seg)
  | gap (lost : List (Nat × Nat))
  deriving DecidableEq, Repr

/-- Bonding beside its registers: groups by 32·path + index, fragment contexts (R198). -/
structure Bnd where
  groups : Tab BndGroup := []
  ctxs : List Ctx := []
  deriving DecidableEq, Repr

/-- A frame that has left reassembly (R193, R213): merge value and how many values it spans. -/
structure Unit_ where
  path : Path
  chan : Nat
  /-- Bonded group on its path, if the frame came through one (R212). -/
  group : Option Nat
  sid : Nat
  mseq : Option Nat
  count : Nat
  ptype : Nat
  bytes : List Byte
  raw : Nat
  deriving DecidableEq, Repr

/-- A held unit of a merge group (R213): value, arrival in core ticks of the LFC, unit. -/
structure Held where
  mseq : Nat
  at_ : Nat
  item : Unit_
  deriving DecidableEq, Repr

/-- One merge group beside its registers (R211 to R214): held units, the released and skipped values of the last 65,536
as ranges newest first, last value and last place of each path, run of out-of-window arrivals. -/
structure MergeGroup where
  held : List Held := []
  skipped : List (Nat × Nat) := []
  hA : Option Nat := none
  hB : Option Nat := none
  placeA : Option (Nat × Option Nat) := none
  placeB : Option (Nat × Option Nat) := none
  stray : Nat := 0
  deriving DecidableEq, Repr

/-- Upstream protection of one AID (R218 to R226). -/
structure AidProt where
  /-- Launched segments not yet acknowledged, in mseq order (R221). -/
  retained : List UpSeg := []
  /-- Copies that wait for path A, and for path B (R220). -/
  copyA : List UpSeg := []
  copyB : List UpSeg := []
  /-- Segments to send again first on path A, and on path B, after a mismatch (R234). -/
  repeatA : List UpSeg := []
  repeatB : List UpSeg := []
  /-- The value acknowledged last since the sequence started (R223). -/
  acked : Option Nat := none
  deriving DecidableEq, Repr

/-- A request for a switch (R225): target, with resend or not, its cause code and its priority, 2 to 5. -/
structure PthWant where
  target : Path
  resend : Bool
  cause : Nat
  prio : Nat
  deriving DecidableEq, Repr

/-- A hold-off that runs (R225, R229): its length in microseconds, and the core tick and module line time at which its fail condition
arose. -/
structure HoldOff where
  us : Nat
  tick : Nat
  fn : Nat
  cw : Nat
  deriving DecidableEq, Repr

/-- Path merge and protection beside its registers. -/
structure Pth where
  groups : Tab MergeGroup := []
  aids : Tab AidProt := []
  /-- A hub-ordered switch whose time has not come (R225): target, resend, FN of module line time. -/
  hubOrder : Option PthWant := none
  hubFn : Nat := 0
  /-- Paths that the hub has ordered a switch away from (R224). -/
  orderedA : Bool := false
  orderedB : Bool := false
  /-- A request that waits until its path qualifies (R225). -/
  want : Option PthWant := none
  /-- The hold-off of a fail condition on the working path (R225). -/
  holdOff : Option HoldOff := none
  /-- Both paths have been out of T4 at once since the sequences last started (R219). -/
  bothOut : Bool := true
  /-- Frames held at the line die for a region that runs an entry (R25, R416), oldest first. -/
  hold : List (Nat × LinkItem) := []
  /-- Discards at the head of a region's link queue (R23), by region. -/
  linkDrop : Tab Nat := []
  deriving DecidableEq, Repr

/-- A command that waits at the key store (R245): slot, key to load or none to erase. -/
structure KstCmd where
  slot : Nat
  key : Option (List Byte)
  /-- Issued by the host through KST_CMD, not by the warden. -/
  host : Bool := false
  deriving DecidableEq, Repr

/-- A downstream segment in its engine (R241, R246): the key and IV it captured, the place of its key, whether the engine's
two key streams differ on it, and whether it passes unopened or in clear. -/
structure LcyWait where
  seg : Seg
  opens : Option (Derived × List Byte × List Byte)
  mismatch : Bool
  deriving DecidableEq, Repr

/-- The line cipher and the key store beside their registers. -/
structure Lcy where
  /-- Root keys by slot (R245): 32 bytes each. -/
  keys : Tab (List Byte) := []
  /-- Commands that wait until their slot is idle, oldest first (R245). -/
  cmds : List KstCmd := []
  /-- Derived-key cache, most recently used first (R241). -/
  cache : List Derived := []
  /-- Derivations running, oldest first (R240). -/
  deriving_ : List Derived := []
  /-- Segments in the engines, oldest first (R235). -/
  waiting : List LcyWait := []
  /-- Mismatches of each engine since the last second latch (R234). -/
  secMismatch : Tab Nat := []
  /-- Time up to which each upstream engine is booked, in 1/6,144 codewords of the LFC (320 to a core tick), by channel (R235). -/
  booked : Tab Nat := []
  /-- Last FN of use per context, keyed 1,024·(8·path + 4·direction + index) + group (R243). -/
  lastFn : Tab Nat := []
  /-- Path FN of the last REKEY_REQ per path, direction and index, keyed 8·path + 4·direction + index (R243). -/
  reqFn : Tab Nat := []
  /-- The epoch before the one in use, for segments of earlier frames (R244), and whether it is exhausted (R243), keyed alike. -/
  prevEpoch : Tab (Nat × Bool) := []
  deriving DecidableEq, Repr

end Sys2Proof.Machine
end

