-- ==== Sys2Proof/Machine/State.lean ====
section
/-!
DEFINITION. The whole state of the block as plain data: its BAR0 registers as one sparse register file, what each block
holds beside its registers, the two configuration banks, and the queue of commands that wait. `State.reset` is the
module right after power-on, before start-up step S0.
-/
namespace Sys2Proof.Machine

/-- How the block can stop. No constructor: the manual gives every command of the table an effect. -/
inductive Fault where
  deriving DecidableEq, Repr

/-- Why a command has no meaning. -/
inductive Refusal where
  /-- Raised by an arm of `exec` for a command that is not modelled yet; safe, it proves nothing of the hardware. -/
  | notModelled (mnemonic : String)
  deriving DecidableEq, Repr

/-- What leaves the block at a pin, a lane, a fibre or the host link, newest first in State. The model's own record: the
manual gives the block no such store. [DESIGN CHOICE: log 15] -/
inductive Output where
  /-- A burst on a lane: lane, FN, start codeword of its alarm, fine delay, information stream, and the levels of its symbols from the
  first preamble symbol on (R89, R166, R175). -/
  | burst (lane fn cw fine : Nat) (info : List Byte) (light : List Int)
  /-- A burst is cut: its lane and sequence number (R107, R177). -/
  | burstCut (lane bsn : Nat)
  /-- A frame on a client lane's transmitter: region, port, bytes with FCS, errored (R261). -/
  | clientFrame (region port : Nat) (bytes : List Byte) (errored : Bool)
  /-- An ordered set on a client port: region, port, kind (R258). -/
  | orderedSet (region port kind : Nat)
  /-- Bytes on MGT_UART0 (R134, R135). -/
  | uart0 (bytes : List Byte)
  /-- A reply of the SPI target (R136). -/
  | spi (bytes : List Byte)
  /-- A console reply on MGT_UART1: status and data (R461). -/
  | console (bytes : List Byte)
  /-- Bytes written into host memory with the requester ID of a function (R395, R398, R399, R466). -/
  | hostWrite (fn addr : Nat) (bytes : List Byte)
  /-- An MSI-X message: function and vector (R404). -/
  | msix (fn vector : Nat)
  /-- The value a register read or a table command returns. -/
  | readData (v : Nat)
  /-- A time-of-day message on TOD_UART (R364). -/
  | tod (bytes : List Byte)
  /-- An edge of PPS_OUT k, rising or falling, and how many milliseconds its level holds (R361). -/
  | pps (k : Nat) (rising : Bool) (ms : Nat)
  /-- The I2C transaction of a bus: address, bytes written, bytes to read; clear marks the nine clocks of R482. -/
  | i2c (bus addr : Nat) (wr : List Byte) (rlen : Nat) (clear : Bool)
  /-- A value shifted out on TDO, or the boundary values driven (R480). -/
  | tdo (v : Nat)
  | boundary (vals : List Bool)
  deriving DecidableEq, Repr

/-- The state of the block. [DESIGN CHOICE: log 12] -/
structure State where
  /-- The register file: every BAR0 register word that differs from its reset word (R9), by offset. -/
  regs : Tab Word := []
  /-- The commands that wait, first in first out. -/
  pending : List Instr := []
  /-- The model's own counter behind every free value (no register of the manual). -/
  free : Nat := 0
  /-- What has left the block, newest first. -/
  outbox : List Output := []
  /-- Live counters behind snapshot registers, by the register offset they show (R45). -/
  live : Tab Nat := []
  /-- The readable snapshot bank and the other one (R45). -/
  snap : Tab Nat := []
  snapNext : Tab Nat := []
  /-- The tables of the active bank, and the other bank: the staged one, or the old one after a commit (R58). -/
  bank : Bank := {}
  other : Cfg := {}
  /-- The committed configuration that line blocks of a path still due to switch will take (R67, R76). -/
  lineCfg : Cfg := {}
  /-- The configuration before the last commit, for path frames before the commit FN (R68, R69). -/
  lineOld : Cfg := {}
  clk : Clock := {}
  /-- Read and write shadows by requester number: functions 0 to 15, cores 16 to 23, warden 24 (R47). -/
  shadows : Tab Shadow := []
  ltu : Ltu := {}
  epc : Epc := {}
  lnk : Lnk := {}
  saf : Saf := {}
  dfr : Dfr := {}
  mch : Mch := {}
  actA : Act := {}
  actB : Act := {}
  upb : Upb := {}
  bnd : Bnd := {}
  pth : Pth := {}
  lcy : Lcy := {}
  flash : Flash := {}
  wrd : Wrd := {}
  cpl : Cpl := {}
  hif : Hif := {}
  pwr : Pwr := {}
  evr : Evr := {}
  flt : Flt := {}
  cal : Cal := {}
  pins : Pins := {}
  tap : Tap := {}
  i2c : Tab I2c := []
  tsu : Tsu := {}
  /-- The packet regions by number. -/
  pkt : Tab PktSt := []
  deriving DecidableEq, Repr

/-- The module when its supply has come and before anything has run: every register at its reset word, but for PWR_STATUS.pwr_good,
which shows the PWR_GOOD pin, ASH_STATUS.vash_ok and FLT_STATUS, whose packet regions are OFF; the access windows as R393 gives them;
no command waiting. The flash is blank: what the factory and the integrator write there is data of the module. [DESIGN CHOICE: log 3, 4] -/
def State.reset : State := {
  regs := [(0x30000, 0x40#32), (0x70004, 0x924#32), (0xB0000, 0x10#32)]
  bank := { windows := [(0, { base := 0, limit := 0x10000000, req := 0x10001, en := true, rd := true, wr := true })] } }

end Sys2Proof.Machine
end

