-- ==== Sys2Proof/Machine/Ops.lean ====
section
/-!
DEFINITION. The operations every meaning is built from: reading and writing register words and fields, counters,
outputs, free values, line time, requesters, and the frame that every command's meaning ends in.
-/
namespace Sys2Proof.Machine
open Sys2Proof

/-! ### Register file -/

/-- The register word at BAR0 offset `a`: the listed one, or its reset word (R9). -/
def rdWord (s : State) (a : Nat) : Word := (Tab.find s.regs a).getD (resetWord a)

/-- Put a register word, listing it only while it differs from its reset word. -/
def wrWord (s : State) (a : Nat) (v : Word) : State :=
  { s with regs := if v = resetWord a then Tab.del s.regs a else Tab.set s.regs a v }

/-- The value of a field: in one word, or across the LO and HI halves of a 64-bit register (R47). -/
def get (s : State) (f : Fld) : Nat :=
  if f.lo + f.w ≤ 32 then bits (rdWord s f.addr).toNat f.lo f.w
  else bits ((rdWord s f.addr).toNat + 2 ^ 32 * (rdWord s (f.addr + 4)).toNat) f.lo f.w

/-- Put a field's value, leaving the other bits of its register. -/
def put (s : State) (f : Fld) (v : Nat) : State :=
  if f.lo + f.w ≤ 32 then wrWord s f.addr (BitVec.ofNat 32 (setBits (rdWord s f.addr).toNat f.lo f.w v))
  else
    let x := setBits ((rdWord s f.addr).toNat + 2 ^ 32 * (rdWord s (f.addr + 4)).toNat) f.lo f.w v
    wrWord (wrWord s f.addr (BitVec.ofNat 32 x)) (f.addr + 4) (BitVec.ofNat 32 (x / 2 ^ 32))

/-- A one-bit field as a Bool. -/
def getB (s : State) (f : Fld) : Bool := get s f = 1

/-- Put a one-bit field from a Bool. -/
def putB (s : State) (f : Fld) (b : Bool) : State := put s f (b2n b)

/-- A two's-complement field as an Int. -/
def getI (s : State) (f : Fld) : Int := toSigned f.w (get s f)

/-- Put an Int into a two's-complement field. -/
def putI (s : State) (f : Fld) (v : Int) : State := put s f (ofSigned f.w v)

/-- Add to a counter field, which wraps at its width. -/
def addTo (s : State) (f : Fld) (n : Nat) : State := put s f (get s f + n)

/-- Count one. -/
def inc (s : State) (f : Fld) : State := addTo s f 1

/-- Count one in a counter that saturates at its width. -/
def incSat (s : State) (f : Fld) : State := put s f (sat (2 ^ f.w - 1) (get s f + 1))

/-- Raise a high-water field to `v`. -/
def putMax (s : State) (f : Fld) (v : Nat) : State := if get s f < v then put s f v else s

/-- Apply `f` for every element of a list, in order. -/
def forEach {α : Type} (l : List α) (f : State → α → State) (s : State) : State := l.foldl f s

/-- `f s` when `b`, else `s`. -/
def whenB (b : Bool) (f : State → State) (s : State) : State := if b then f s else s

/-! ### Outputs, free values, snapshots -/

/-- Record what leaves the block. [DESIGN CHOICE: log 15] -/
def emit (s : State) (o : Output) : State := { s with outbox := o :: s.outbox }

/-- The next free value (a value the manual leaves open). [DESIGN CHOICE: log 6] -/
def freeVal (s : State) : Nat := Config.freeNat s.free

/-- Step past the free value just used. [DESIGN CHOICE: log 6] -/
def stepFree (s : State) : State := { s with free := s.free + 1 }

/-- `n` bytes of a free value, for nonces. [DESIGN CHOICE: log 6] -/
def freeBytes (s : State) (n : Nat) : List Byte := beBytes n (freeVal s)

/-- Add to a live counter behind a snapshot register (R45). -/
def liveAdd (s : State) (key n : Nat) : State := { s with live := Tab.upd s.live key 0 (· + n) }

/-- Set a live counter. -/
def livePut (s : State) (key v : Nat) : State := { s with live := if v = 0 then Tab.del s.live key else Tab.set s.live key v }

/-- A live counter's value. -/
def liveGet (s : State) (key : Nat) : Nat := Tab.getD s.live key 0

/-! ### Paths, lanes, requesters -/

/-- 0 for path A, 1 for path B. -/
def qn (q : Path) : Nat := match q with
  | .a => 0
  | .b => 1

/-- The other path. -/
def otherPath (q : Path) : Path := match q with
  | .a => .b
  | .b => .a

/-- The path of a number. -/
def pathOf (n : Nat) : Path := if n % 2 = 0 then .a else .b

/-- The path of a lane pair (R12). -/
def lanePath (p : Nat) : Path := if p < 64 then .a else .b

/-- The channel of a lane pair (R12). -/
def laneChan (p : Nat) : Nat := p % 64

/-- The lane pair of a path and channel (R12). -/
def laneOf (q : Path) (n : Nat) : Nat := 64 * qn q + n

/-- The optical engine of a lane pair (R12). -/
def engineOf (p : Nat) : Nat := p / 16

/-- The lane pairs of a path. -/
def lanesOf (q : Path) : List Nat := (List.range 64).map (fun n => laneOf q n)

/-- The lane pairs of an engine (R12). -/
def lanesOfEngine (e : Nat) : List Nat := (List.range 16).map (fun k => 16 * e + k)

/-- A requester's number: functions 0 to 15, cores 16 to 23, warden 24. -/
def reqNum (r : Requester) : Nat := match r with
  | .fn i => i.val
  | .core c => 16 + c.val
  | .warden => 24

/-- A requester's index in a window's mask (R386); the warden has none and takes 31 in the deny record. -/
def reqIndex (r : Requester) : Nat := match r with
  | .fn i => i.val
  | .core _ => 16
  | .warden => 31

/-- Whether a requester's accesses are at P0 now (R386, R387). -/
def isP0 (s : State) (r : Requester) : Bool := match r with
  | .fn i => decide (i.val = 0) && s.hif.p0
  | .core _ => false
  | .warden => true

/-- The PF loses P0 (R388). -/
def dropP0 (s : State) : State := { s with hif := { s.hif with p0 := false } }

/-- Whether a requester's accesses are at P1 or P0 (R386). -/
def isP1 (r : Requester) : Bool := match r with
  | .fn i => decide (i.val = 0)
  | .core _ => true
  | .warden => true

/-- Activation of a path. -/
def act (s : State) (q : Path) : Act := match q with
  | .a => s.actA
  | .b => s.actB

/-- Change the activation of a path. -/
def modAct (s : State) (q : Path) (f : Act → Act) : State := match q with
  | .a => { s with actA := f s.actA }
  | .b => { s with actB := f s.actB }

/-- ACT state codes (R139). -/
def actState (s : State) (q : Path) : Nat := get s (F.ACT_STATE_state (qn q))

/-- A lane pair's store. -/
def laneSt (s : State) (p : Nat) : LaneSt := Tab.getD s.lnk.lanes p {}

/-- Change a lane pair's store. -/
def modLane (s : State) (p : Nat) (f : LaneSt → LaneSt) : State :=
  { s with lnk := { s.lnk with lanes := Tab.upd s.lnk.lanes p {} f } }

/-- An engine's store. -/
def engineSt (s : State) (e : Nat) : EngineSt := Tab.getD s.lnk.engines e {}

/-- Change an engine's store. -/
def modEngine (s : State) (e : Nat) (f : EngineSt → EngineSt) : State :=
  { s with lnk := { s.lnk with engines := Tab.upd s.lnk.engines e {} f } }

/-- A lane's delineation store. -/
def dfrLane (s : State) (p : Nat) : DfrLane := Tab.getD s.dfr.lanes p {}

/-- Change a lane's delineation store. -/
def modDfrLane (s : State) (p : Nat) (f : DfrLane → DfrLane) : State :=
  { s with dfr := { s.dfr with lanes := Tab.upd s.dfr.lanes p {} f } }

/-- A packet region's store. -/
def pkt (s : State) (n : Nat) : PktSt := Tab.getD s.pkt n {}

/-- Change a packet region's store. -/
def modPkt (s : State) (n : Nat) (f : PktSt → PktSt) : State := { s with pkt := Tab.upd s.pkt n {} f }

/-- Whether a lane pair is ACTIVE (R99). -/
def laneActive (s : State) (p : Nat) : Bool := get s (F.LNK_LANE_PWR_state p) = 0

/-- Whether a lane is in multiframe lock (R114). -/
def mfLock (s : State) (p : Nat) : Bool := getB s (F.DFR_CH_STATUS_mf_lock p)

/-- Whether a lane reports a defect from LOS to FEC-EXC (R126, R128). -/
def hardDefect (s : State) (p : Nat) : Bool :=
  getB s (F.DFR_CH_STATUS_los p) || getB s (F.DFR_CH_STATUS_lol p) || getB s (F.DFR_CH_STATUS_lof p) ||
  getB s (F.DFR_CH_STATUS_lom p) || getB s (F.DFR_CH_STATUS_fec_exc p)

/-- Whether a path has a channel in multiframe lock, as LTU_STATUS shows it (R141). -/
def pathLocked (s : State) (q : Path) : Bool := match q with
  | .a => getB s F.LTU_STATUS_lock_a
  | .b => getB s F.LTU_STATUS_lock_b

/-- Path time (R35). -/
def pathTime (s : State) (q : Path) : LineTime := match q with
  | .a => s.ltu.timeA
  | .b => s.ltu.timeB

/-- Set path time. -/
def setPathTime (s : State) (q : Path) (t : LineTime) : State := match q with
  | .a => { s with ltu := { s.ltu with timeA := t } }
  | .b => { s with ltu := { s.ltu with timeB := t } }

/-- Module line time, FN (R32). -/
def modFn (s : State) : Nat := get s F.LTU_FN_fn

/-- Module line time, CW (R32). -/
def modCw (s : State) : Nat := get s F.LTU_CW_cw

/-- FN modulus (R32). -/
def fnMod : Nat := 2 ^ 48

/-- Whether module line time is valid: a multiframe lock has come since reset (R41). -/
def ltValid (s : State) : Bool := get s F.LTU_STATUS_lead ≠ 0

/-- The lead path (R36), if there is one and no holdover. -/
def leadPath (s : State) : Option Path := match get s F.LTU_STATUS_lead with
  | 1 => some .a
  | 2 => some .b
  | _ => none

/-- Codewords since FN 0 of a line time. -/
def cwCount (fn cw : Nat) : Nat := 5000 * fn + cw

/-- The raw timestamp: nanoseconds and 2⁻¹⁶ ns of the LFC, bits 79 to 16 (R346). -/
def rawTime (s : State) : Nat := s.clk.lfc.toNat / 2 ^ 16

/-- The raw instant without wrap (R345, R346): what the LFC has counted since reset, in 2⁻¹⁶ ns. -/
def rawAbs (s : State) : Nat := s.clk.ticks * 0xAAAAAAAB / 2 ^ 16

/-- Core ticks since reset. -/
def ticks (s : State) : Nat := s.clk.ticks

/-- Core ticks in a microsecond (1.5 GHz). -/
def usTicks (n : Nat) : Nat := 1500 * n

/-! ### Where a register lies (R28) -/

/-- A block span of R28: base, span, block ID (R4), region ID (R14). -/
structure Span where
  base : Nat
  size : Nat
  blk : Nat
  region : Nat
  deriving DecidableEq, Repr

/-- The block spans of R28 outside the packet regions. -/
def spans : List Span := [
  ⟨0x0000000, 0x10000, 0x01, 5⟩, ⟨0x0010000, 0x10000, 0x02, 5⟩, ⟨0x0020000, 0x10000, 0x03, 5⟩,
  ⟨0x0030000, 0x10000, 0x04, 6⟩, ⟨0x0040000, 0x10000, 0x05, 6⟩, ⟨0x0050000, 0x10000, 0x06, 5⟩,
  ⟨0x0060000, 0x10000, 0x07, 5⟩, ⟨0x0070000, 0x10000, 0x08, 5⟩, ⟨0x0080000, 0x10000, 0x09, 5⟩,
  ⟨0x00A0000, 0x10000, 0x30, 6⟩, ⟨0x00B0000, 0x10000, 0x33, 0xFF⟩,
  ⟨0x0100000, 0x80000, 0x10, 4⟩, ⟨0x0180000, 0x20000, 0x31, 4⟩, ⟨0x01C0000, 0x10000, 0x32, 6⟩,
  ⟨0x0200000, 0x100000, 0x11, 4⟩, ⟨0x0300000, 0x100000, 0x12, 4⟩, ⟨0x0400000, 0x100000, 0x13, 4⟩,
  ⟨0x0500000, 0x100000, 0x14, 4⟩, ⟨0x0600000, 0x100000, 0x15, 4⟩, ⟨0x0700000, 0x100000, 0x16, 4⟩,
  ⟨0x0800000, 0x100000, 0x17, 6⟩, ⟨0x0900000, 0x100000, 0x18, 4⟩, ⟨0x0A00000, 0x100000, 0x19, 5⟩,
  ⟨0x0B00000, 0x100000, 0x1A, 5⟩]

/-- The block spans of R28 inside a packet region: offset, span, block ID. -/
def regionSpans : List Span := [
  ⟨0x000000, 0x100000, 0x20, 0⟩, ⟨0x100000, 0x100000, 0x21, 0⟩, ⟨0x200000, 0x100000, 0x22, 0⟩,
  ⟨0x300000, 0x100000, 0x23, 0⟩, ⟨0x400000, 0x100000, 0x24, 0⟩, ⟨0x500000, 0x100000, 0x25, 0⟩,
  ⟨0x600000, 0x100000, 0x26, 0⟩]

/-- The packet region whose BAR0 area holds offset `a` (R28). -/
def regionAt (a : Nat) : Option Nat :=
  if 0x1000000 ≤ a ∧ a < 0x5000000 then some ((a - 0x1000000) / 0x1000000) else none

/-- The span that holds BAR0 offset `a`, with base in BAR0 and region filled in; `none` outside every span (R29). -/
def spanAt (a : Nat) : Option Span :=
  match regionAt a with
  | some n =>
    (regionSpans.find? (fun p => decide (p.base ≤ a % 0x1000000) && decide (a % 0x1000000 < p.base + p.size))).map
      (fun p => ⟨0x1000000 * (n + 1) + p.base, p.size, p.blk, n⟩)
  | none => spans.find? (fun p => decide (p.base ≤ a) && decide (a < p.base + p.size))

/-- The cell index of an event register's instance (R431): lane pair, port, engine or path as the block numbers them. -/
def cellAt (a : Nat) : Nat :=
  match spanAt a with
  | none => 0
  | some p =>
    if p.blk = 0x10 then (a - p.base) / 0x800
    else if p.blk = 0x31 then (a - p.base) / 0x4000
    else if p.blk = 0x11 then (a - p.base - 0x10000) / 0x100
    else if p.blk = 0x12 then (a - p.base) / 0x1000
    else if p.blk = 0x20 then (a - p.base - 0x1000) / 0x40
    else 0

/-! ### The end of every meaning -/

/-- The residual of a piece of served time at instant `x` (R355): it moves towards 0 at `slew` ns per second. -/
def SrvPiece.resid (p : SrvPiece) (x : Nat) : Int :=
  let d : Int := (((x - p.at_) * p.slew / 1000000000 : Nat) : Int)
  if 0 ≤ p.r then (if d < p.r then p.r - d else 0) else (if p.r + d < 0 then p.r + d else 0)

/-- The served residual r now (R355). [DEDUCED: log 100] -/
def residNow (s : State) : Int := match s.tsu.served with
  | [] => 0
  | p :: _ => p.resid (rawAbs s)

/-- The reference channel of a path (R35), while the path has one. -/
def refChan (s : State) (q : Path) : Option Nat :=
  if pathLocked s q then (match q with
    | .a => s.ltu.refA
    | .b => s.ltu.refB) else none

/-- The path's most recent second announcement (R34, R350). -/
def annOf (s : State) (q : Path) : Option SecAnn := match q with
  | .a => s.ltu.annA
  | .b => s.ltu.annB

/-- The conditions of R350 for a measurement of path `q`: an announcement, a ranged reference channel in lock, teq. -/
def measOk (s : State) (q : Path) : Bool :=
  (annOf s q).isSome && decide (get s (F.TSU_D_TEQ_teq (qn q)) ≠ 0) &&
  (match refChan s q with
    | some n => getB s (F.ACT_EQD_ranged (qn q) n)
    | none => false)

/-- State of time domain 0 A, 1 B, 2 LOCAL (R349); 3, SERVED, has the state of its base. -/
def domState (s : State) (d : Nat) : Nat :=
  if d < 3 then get s (F.TSU_D_STATE_state d)
  else if get s F.TSU_STATUS_base < 3 then get s (F.TSU_D_STATE_state (get s F.TSU_STATUS_base)) else 0

/-- Outputs of the TSU that follow from its state (R350, R353, R355, R362). -/
def settleTsu (s : State) : State :=
  let s := putI s F.TSU_RESID_r (residNow s)
  let s := putB s F.TSU_STATUS_slewing (decide (residNow s ≠ 0))
  let s := putB s (F.TSU_D_STATE_meas_ok 0) (measOk s .a)
  let s := putB s (F.TSU_D_STATE_meas_ok 1) (measOk s .b)
  let s := putB s (F.TSU_D_STATE_meas_ok 2)
    (decide (get s F.TSU_CTRL_local_src = 1) || decide (get s F.TSU_CTRL_local_src = 2))
  { s with tsu := { s.tsu with
      ref10m := getB s F.TSU_REF_CFG_en && decide (domState s (get s F.TSU_REF_CFG_dom) ≠ 0) } }

/-- The state of region `r` in FLT_STATUS: 0 OK, 1 DEGRADED, 2 RESETTING, 3 HELD, 4 not powered, as every region but the AON is
in the safe state (R458) and a packet region is in OFF (R413). [DEDUCED: log 127] -/
def fltState (s : State) (r : Nat) : Nat :=
  let f : FltRegion := Tab.getD s.flt.regions r {}
  if getB s F.GLB_SAFE_safe then 4
  else if f.step ≠ 0 then 2
  else if f.held then 3
  else if r < 4 ∧ get s (F.PWR_D_STATE_state r) = 3 then 4
  else if f.degraded then 1 else 0

/-- FLT_STATUS. [DEDUCED: log 127] -/
def settleFlt (s : State) : State :=
  put s F.FLT_STATUS_state ((List.range 6).foldl (fun v r => v + 2 ^ (3 * r) * fltState s r) 0)

/-- The locks of ASH's own receivers, which stand still in the safe state (R458). -/
def settleAsh (s : State) : State :=
  if getB s F.GLB_SAFE_safe then s else putB (putB s F.ASH_STATUS_rx_a (mfLock s 0)) F.ASH_STATUS_rx_b (mfLock s 64)

/-- Combinational outputs that follow from the state a command leaves (R33 to R37, R80, R107, R423, R458): the slewing
bit, the count of HELD groups, the ALERT_N pin, the level of LASER_EN and of the safe state in SAF_STATUS, the locks of ASH's receivers.
[DESIGN CHOICE: log 14] -/
def settle (s : State) : State :=
  let s := settleFlt (settleTsu s)
  let s := putB s F.LTU_STATUS_slewing (decide (get s F.LTU_SLEW_remain ≠ 0))
  let s := putB s F.SAF_STATUS_laser_en s.pins.laserEn
  let s := putB s F.SAF_STATUS_safe (getB s F.GLB_SAFE_safe)
  let s := putB s F.PWR_STATUS_safe (getB s F.GLB_SAFE_safe)
  let s := settleAsh s
  let s := put s F.EPC_HELD_COUNT_count (s.epc.groups.filter (fun g => decide (bits (rdWord s g.1).toNat 4 2 = 1))).length
  { s with pins := { s.pins with alertN := !(getB s F.GLB_SAFE_safe || !s.pwr.warnSet.isEmpty) } }

/-- The end of every command: its next state, settled, with the queue as the command found it. [DESIGN CHOICE: log 13] -/
def finish (s t : State) : Host.Outcome State Fault Refusal := .next (settle { t with pending := s.pending })

/-- Work opens packet region `n`'s clock gate in IDLE (R413). -/
def worked (s : State) (n : Nat) : State :=
  if n < 4 ∧ get s (F.PWR_D_STATE_state n) = 1 then modPkt s n (fun p => { p with workAt := some s.clk.ticks }) else s

end Sys2Proof.Machine
end

