-- ==== Sys2Proof/Machine/Events.lean ====
section
/-!
DEFINITION. What happens when an event bit rises (R434): the record offered to EVR under its rate limit (R438, R439),
its admission to the log or to Jet (R436, R437, R442, R443), the monitor count of the event (R445) and the interrupt of
the block (R404).
-/
namespace Sys2Proof.Machine
open Sys2Proof

/-! ### Interrupts (R404) -/

/-- The event registers of the blocks, one row per register with its instances; INT_EN stands one word above each. [DEDUCED: log 129] -/
def eventRows : List ResetRow := [
  ⟨R.LTU_EVENT, [], 0⟩, ⟨R.EPC_EVENT, [], 0⟩, ⟨R.LNK_LANE_EVENT 0, [(128, 2048)], 0⟩, ⟨R.OPE_EVENT 0, [(8, 16384)], 0⟩,
  ⟨R.SAF_EVENT, [], 0⟩, ⟨R.DFR_CH_EVENT 0, [(128, 256)], 0⟩, ⟨R.MCH_EVENT, [], 0⟩, ⟨R.ACT_EVENT 0, [(2, 4096)], 0⟩,
  ⟨R.UPB_EVENT, [], 0⟩, ⟨R.BND_EVENT, [], 0⟩, ⟨R.PTH_EVENT, [], 0⟩, ⟨R.LCY_EVENT, [], 0⟩] ++ [
  ⟨R.CMC_PORT_EVENT 0 0, [(4, 0x1000000), (32, 64)], 0⟩, ⟨R.PRS_EVENT 0, [(4, 0x1000000)], 0⟩,
  ⟨R.TMG_EVENT 0, [(4, 0x1000000)], 0⟩, ⟨R.POL_EVENT 0, [(4, 0x1000000)], 0⟩, ⟨R.BPM_EVENT 0, [(4, 0x1000000)], 0⟩,
  ⟨R.MEM_EVENT 0, [(4, 0x1000000)], 0⟩, ⟨R.RPM_EVENT 0, [(4, 0x1000000)], 0⟩, ⟨R.TSU_EVENT, [], 0⟩,
  ⟨R.CPL_EVENT, [], 0⟩, ⟨R.WRD_EVENT, [], 0⟩, ⟨R.HIF_EVENT, [], 0⟩, ⟨R.ACW_EVENT, [], 0⟩, ⟨R.PWR_EVENT, [], 0⟩,
  ⟨R.ASH_EVENT, [], 0⟩, ⟨R.EVR_EVENT, [], 0⟩, ⟨R.PMON_EVENT, [], 0⟩, ⟨R.FLT_EVENT, [], 0⟩, ⟨R.GLB_GPIO_EVENT, [], 0⟩]

/-- Whether BAR0 offset `a` is an event register. -/
def isEventReg (a : Nat) : Bool :=
  eventRows.any (fun r => decide (r.base ≤ a) && (instOffset r.dims (a - r.base) == some 0))

/-- The interrupt source of the block instance that holds offset `a` (R404): 256 + 4·id + n. -/
def sourceOf (a : Nat) : Option Nat :=
  (spanAt a).map (fun p => 256 + 4 * p.blk + (if p.region < 4 then p.region else 0))

/-- Whether some event bit of source `src`'s block instance is set with its INT_EN bit. -/
def sourceLevel (s : State) (src : Nat) : Bool :=
  s.regs.any (fun e => isEventReg e.1 && decide (sourceOf e.1 = some src) &&
    decide (e.2.toNat &&& (rdWord s (e.1 + 4)).toNat ≠ 0))

/-- Deliver a message of interrupt source `src` (R404): nothing from a disabled entry; a masked vector goes to the PBA. [DEDUCED: log 113] -/
def deliver (s : State) (src : Nat) : State :=
  if getB s (F.HIF_SRC_MAP_en src) then
    let fn := get s (F.HIF_SRC_MAP_fn src)
    let v := get s (F.HIF_SRC_MAP_vector src)
    if (Tab.getD s.hif.table (128 * fn + v) {}).masked then
      { s with hif := { s.hif with pba := (128 * fn + v) :: s.hif.pba.filter (fun x => decide (x ≠ 128 * fn + v)) } }
    else emit s (.msix fn v)
  else s

/-- Deliver source `src` where its map entry names the owner of its ring or slot (R404). [DEDUCED: log 113] -/
def deliverOwned (s : State) (src owner : Nat) : State :=
  if get s (F.HIF_SRC_MAP_fn src) = owner then deliver s src else s

/-- Bring a block source to its level: raise its vector when it rises, forget it when its bits are clear (R404). [DEDUCED: log 113] -/
def updateIrq (s : State) (a : Nat) : State :=
  match sourceOf a with
  | none => s
  | some src =>
    if sourceLevel s src then
      if s.hif.raised.contains src then s
      else deliver { s with hif := { s.hif with raised := src :: s.hif.raised } } src
    else { s with hif := { s.hif with raised := s.hif.raised.filter (fun x => decide (x ≠ src)) } }

/-! ### Rate limits (R438, R439) -/

/-- The number of a severity (R431). -/
def sevNum (v : Sev) : Nat := match v with
  | .black => 0
  | .crimson => 1
  | .amber => 2
  | .grey => 3

/-- Rate and burst of a code under the floor of R439: the MONITORS entry or the default of R438. [DEDUCED: log 132] -/
def rateOf (s : State) (code : Nat) (v : Sev) : Nat × Nat :=
  let (r, b) := Tab.getD s.bank.rateLimit code (8, 32)
  let r := sat 1024 r
  let b := sat 256 b
  if sevNum v ≤ 1 then (max r 1, max b 1) else (r, max b 1)

/-- Whether the code's bucket and the aggregate bucket both let in an occurrence (R438, R439). -/
def mayAdmit (s : State) (code : Nat) (v : Sev) : Bool :=
  let (_, b) := rateOf s code v
  decide (1000 ≤ Tab.getD s.evr.tokens code (1000 * b)) && (decide (v = .black) || decide (1000 ≤ s.evr.agg))

/-- An occurrence of a code is not admitted, or the next one is and carries the count away (R438). -/
def suppress (s : State) (code : Nat) : State := { s with evr := { s.evr with suppressed := Tab.upd s.evr.suppressed code 0 (· + 1) } }
def unsuppress (s : State) (code : Nat) : State := { s with evr := { s.evr with suppressed := Tab.del s.evr.suppressed code } }

/-- Spend the tokens of an admitted occurrence. -/
def spend (s : State) (code : Nat) (v : Sev) : State :=
  let (_, b) := rateOf s code v
  let t := Tab.getD s.evr.tokens code (1000 * b)
  { s with evr := { s.evr with
      tokens := Tab.set s.evr.tokens code (t - 1000)
      sevs := Tab.set s.evr.sevs code (sevNum v)
      agg := if v = .black then s.evr.agg else s.evr.agg - 1000 } }

/-! ### Monitor counters (R444 to R448) -/

/-- Whether a selection counts occurrence `(block, event)` whose identifiers are `ids`, (qualifier kind, value) (R445). [DESIGN CHOICE: log 136] -/
def ctrMatches (c : CtrCfg) (block event : Nat) (ids : List (Nat × Nat)) : Bool :=
  decide (bits c.src 0 8 = block) && decide (bits c.src 8 8 = event) &&
  (decide (bits c.src 16 3 = 0) ||
    ids.any (fun e => decide (e.1 = bits c.src 16 3) && decide (e.2 &&& c.qmask = c.qval)))

/-- The LIVE and CTRL fields, event field and overflow bit of global counter `c` (R444). -/
def ctrLive (c : Nat) : Fld := if c < 128 then F.RCTR_LIVE_count (c / 32) (c % 32) else F.PCTR_LIVE_count (c - 128)
def ctrEn (c : Nat) : Fld := if c < 128 then F.RCTR_CTRL_en (c / 32) (c % 32) else F.PCTR_CTRL_en (c - 128)
def ctrIntEn (c : Nat) : Fld := if c < 128 then F.RCTR_CTRL_int_en (c / 32) (c % 32) else F.PCTR_CTRL_int_en (c - 128)
def ctrSnap (c : Nat) : Nat := if c < 128 then R.RCTR_SNAP (c / 32) (c % 32) else R.PCTR_SNAP (c - 128)
def ctrWres (c : Nat) : Fld := if c < 128 then F.RCTR_WRES_count (c / 32) (c % 32) else F.PCTR_WRES_count (c - 128)
def ctrOvf (c : Nat) : Fld := if c < 128 then ⟨R.RPM_OVF (c / 32), c % 32, 1⟩ else ⟨R.PMON_OVF + 4 * ((c - 128) / 32), (c - 128) % 32, 1⟩
def ctrOvfEvent (c : Nat) : Fld := if c < 128 then F.RPM_EVENT_ovf (c / 32) else F.PMON_EVENT_ovf

/-- The counters that belong to a region ID (R444). -/
def ctrsOf (region : Nat) : List Nat :=
  if region < 4 then (List.range 32).map (· + 32 * region)
  else if region = 4 ∨ region = 0xFF then (List.range 32).map (· + 128)
  else if region = 5 then (List.range 32).map (· + 160)
  else (List.range 8).map (· + 184)

/-- Whether counter `c` counts now: enabled, not frozen, and free or inside its open window (R446); a packet region's
counters count nothing in DIM or OFF, nor after a reset until the next start of their window (R448). -/
def ctrRuns (s : State) (c : Nat) : Bool :=
  let w := bits (Tab.getD s.bank.ctrs c {}).src 24 8
  getB s (ctrEn c) && !getB s F.PMON_CTRL_freeze &&
  (decide (w = 0xFF) || (decide (w < 16) && decide (get s (F.PMON_WIN_CTRL_state w) = 2))) &&
  (decide (128 ≤ c) || (decide (get s (F.PWR_D_STATE_state (c / 32)) < 2) && !(decide (w < 16) && bit (pkt s (c / 32)).winWait w)))

/-- Add `n` to a counter, which wraps and then sets its overflow bit; whether it did (R447). -/
def ctrBump (s : State) (c n : Nat) : State × Bool :=
  let v := get s (ctrLive c) + n
  let s := put s (ctrLive c) v
  if 2 ^ 64 ≤ v then (put s (ctrOvf c) 1, true) else (s, false)

/-- The counters that count `(block, event)` of a region with identifiers `ids` now (R445). Counters that no command has
selected cost nothing: only listed selections are looked at. -/
def ctrsFor (s : State) (region block event : Nat) (ids : List (Nat × Nat)) : List Nat :=
  (s.bank.ctrs.filter (fun e => (ctrsOf region).contains e.1 && ctrMatches e.2 block event ids && ctrRuns s e.1)).map (fun e => e.1)

/-- Count an event that the recorder or a monitor itself raises (R445); an overflow that this makes sets its bit alone. -/
def monBump (s : State) (f : Fld) : State := match spanAt f.addr with
  | none => s
  | some p => (ctrsFor s p.region p.blk (0x10 + f.lo) []).foldl (fun s c => (ctrBump s c 1).1) s

/-! ### Records (R431) -/

/-- The sixteen words of a record but its CRC (R431). -/
def recWords (r : Rec) : List Nat := [
  r.seq % 2 ^ 32, r.opTime % 2 ^ 32,
  r.cycles % 2 ^ 24 + 2 ^ 24 * sevNum r.sev + 2 ^ 26 * b2n r.jet + 2 ^ 31 * b2n r.ltValid,
  r.fn % 2 ^ 32, r.fn / 2 ^ 32 % 2 ^ 16 + 2 ^ 16 * (r.cw % 2 ^ 13),
  r.code % 2 ^ 16 + 2 ^ 16 * (r.region % 256) + 2 ^ 24 * (r.block % 256),
  r.cell % 2 ^ 16 + 2 ^ 16 * (r.suppressed % 2 ^ 16)] ++ [
  r.arg0 % 2 ^ 32, r.arg1 % 2 ^ 32, r.arg2 % 2 ^ 32, r.arg3 % 2 ^ 32,
  r.raw % 2 ^ 32, r.raw / 2 ^ 32 % 2 ^ 32, 0, 0]

/-- The 64 bytes of a record, with its CRC-32C (R431). -/
def recBytes (r : Rec) : List Byte :=
  let body := (recWords r).flatMap (leBytes 4)
  body ++ leBytes 4 (crc32c body)

/-- Word `w` of a record as it is read (R431). -/
def recWord (r : Rec) (w : Nat) : Nat := le (recBytes r) (4 * w) 4

/-- `a` is after `b` in the order of R432. -/
def seqAfter (a b : Nat) : Bool := decide (1 ≤ (a + 2 ^ 32 - b % 2 ^ 32) % 2 ^ 32) && decide ((a + 2 ^ 32 - b % 2 ^ 32) % 2 ^ 32 ≤ 2 ^ 31 - 1)

/-- `a` is at or after `b` in the order of R432. -/
def seqAtOrAfter (a b : Nat) : Bool := decide (a % 2 ^ 32 = b % 2 ^ 32) || seqAfter a b

/-- The log's registers that count its records (R431, R436). -/
def refreshLog (s : State) : State :=
  let s := put s F.EVR_COUNT_count s.evr.log.length
  let s := put s F.EVR_UNFLUSHED_count (s.evr.log.filter (fun r => !r.flushed)).length
  match s.evr.log with
  | [] => put s F.EVR_SEQ_OLDEST_seq (get s F.EVR_SEQ_NEXT_seq)
  | r :: _ => put s F.EVR_SEQ_OLDEST_seq r.seq

/-- Remove the first element that satisfies `p`. -/
def dropFirst {α : Type} (p : α → Bool) (l : List α) : List α :=
  match l with
  | [] => []
  | x :: rest => if p x then rest else x :: dropFirst p rest

/-- Replacement of R437 in a store of `cap` records: the store with room for a record of severity `v`, whether a record
was replaced; `none` where every record is of higher severity. -/
def makeRoom (cap : Nat) (v : Sev) (l : List Rec) : Option (List Rec × Bool) :=
  if l.length < cap then some (l, false)
  else if l.any (fun r => decide (sevNum v ≤ sevNum r.sev)) then
    some (dropFirst (fun r => decide (sevNum v ≤ sevNum r.sev)) l, true)
  else none

/-- Count a discarded record of severity `v` (R436, R437, R443), and set EVR_EVENT.drop. That bit's change is an occurrence of its own,
Grey: it passes its bucket (R438), and its record meets the same end and is counted with it. [DEDUCED: log 131] -/
def countDrop (s : State) (v : Sev) : State :=
  let s := monBump (inc s (F.EVR_DROP_count (sevNum v))) F.EVR_EVENT_drop
  if getB s F.EVR_EVENT_drop then s
  else
    let s := putB s F.EVR_EVENT_drop true
    let code := 256 * 0x05 + F.EVR_EVENT_drop.lo
    let s := if mayAdmit s code .grey then inc (unsuppress (spend s code .grey) code) (F.EVR_DROP_count 3) else suppress s code
    updateIrq s R.EVR_EVENT

/-- Remove every record that lies 2³⁰ or more behind EVR_SEQ_NEXT, each counted as a replacement (R432). -/
def dropAged (s : State) : State :=
  let next := get s F.EVR_SEQ_NEXT_seq
  let keep := s.evr.log.filter (fun r => decide ((next + 2 ^ 32 - r.seq % 2 ^ 32) % 2 ^ 32 < 2 ^ 30))
  let gone := s.evr.log.length - keep.length
  addTo { s with evr := { s.evr with log := keep } } F.EVR_GEN_gen gone

/-- A seq has been used (R431); records that are now too far behind go (R432). [DEDUCED: log 131] -/
def seqUsed (s : State) : State := refreshLog (dropAged (put s F.EVR_SEQ_NEXT_seq (get s F.EVR_SEQ_NEXT_seq + 1)))

/-- Write a record into the Jet store (R442, R437): the state, and whether there was room. [DEDUCED: log 131] -/
def jetPut (s : State) (r : Rec) : State × Bool :=
  match makeRoom 16 r.sev s.evr.jet with
  | some (l, _) => ({ s with evr := { s.evr with jet := l ++ [{ r with jet := true }] } }, true)
  | none => (s, false)

/-- Admit a record to the Jet store alone. -/
def jetOnly (s : State) (r : Rec) : State := match jetPut s r with
  | (s, true) => seqUsed s
  | (s, false) => countDrop s r.sev

/-- Admit a record (R436, R437, R442, R443): into the log, a Black one into Jet as well; with a failed store Black and
Crimson into Jet only; in the safe state only Black, into Jet (R462); nothing but that once the log is closed (R425). [DEDUCED: log 131] -/
def admitRec (s : State) (r : Rec) : State :=
  if getB s F.EVR_STATUS_store then
    if sevNum r.sev ≤ 1 then jetOnly s r else countDrop s r.sev
  else if s.evr.closed then
    if r.sev = .black then jetOnly s r else countDrop s r.sev
  else if 65536 ≤ (s.evr.log.filter (fun x => !x.flushed)).length then countDrop s r.sev
  else
    match makeRoom 262144 r.sev s.evr.log with
    | none => countDrop s r.sev
    | some (l, rep) =>
      let black := decide (r.sev = .black)
      let (s, jet) := if black then jetPut s r else (s, false)
      let s := seqUsed { s with evr := { s.evr with log := l ++ [{ r with jet := jet }] } }
      whenB rep (fun s => inc s F.EVR_GEN_gen) s

/-- The record of an occurrence now (R431). [DEDUCED: log 130] -/
def mkRec (s : State) (code : Nat) (v : Sev) (region block cell : Nat) (args : List Nat) : Rec := {
  seq := get s F.EVR_SEQ_NEXT_seq, opTime := get s F.EVR_OPTIME_sec, cycles := get s F.EVR_PCYCLE_count, sev := v,
  jet := false, ltValid := ltValid s, fn := modFn s, cw := modCw s, code := code, region := region, block := block,
  cell := cell, suppressed := sat 65535 (Tab.getD s.evr.suppressed code 0), arg0 := args.getD 0 0, arg1 := args.getD 1 0,
  arg2 := args.getD 2 0, arg3 := args.getD 3 0, raw := rawTime s, flushed := false }

/-- Offer a record under its code's rate limit (R434, R438): admitted with the code's suppressed count, or counted as
suppressed. `into` is where an admitted one goes. -/
def offerTo (s : State) (code : Nat) (v : Sev) (region block cell : Nat) (args : List Nat) (into : State → Rec → State) : State :=
  if mayAdmit s code v then
    let s := spend s code v
    into (unsuppress s code) (mkRec s code v region block cell args)
  else suppress s code

/-- Offer a record to the log. -/
def offerArgs (s : State) (code : Nat) (v : Sev) (region block cell : Nat) (args : List Nat) : State :=
  offerTo s code v region block cell args admitRec

/-- `offerArgs` with arg2 and arg3 as the manual leaves them, open: diagnostic data (R434). -/
def offer (s : State) (code : Nat) (v : Sev) (region block cell arg0 arg1 : Nat) : State :=
  let d := freeVal s
  offerArgs (stepFree s) code v region block cell [arg0, arg1, d % 2 ^ 32, d / 2 ^ 32 % 2 ^ 32]

/-- Set event bit `f` and, on its change from 0 to 1, have `k` offer its record with code and arg0, and bring the block's
interrupt to its level (R434, R404); without the monitor count. -/
def raiseWith (s : State) (f : Fld) (k : State → Nat → Nat → State) : State :=
  match spanAt f.addr with
  | none => s
  | some p =>
    if getB s f then s
    else
      let s := putB s f true
      updateIrq (k s (256 * p.blk + f.lo) (rdWord s f.addr).toNat) f.addr

/-- `raiseWith` for a record of severity `v` (R434). -/
def raiseRec (s : State) (f : Fld) (v : Sev) (region cell arg1 : Nat) : State :=
  raiseWith s f (fun s code arg0 => offer s code v region (code / 256) cell arg0 arg1)

/-! ### Monitor counts (R445) -/

/-- Add `n` to a counter, with the event of an overflow where the counter's interrupt is enabled (R447). [DESIGN CHOICE: log 136] -/
def ctrAdd (s : State) (c n : Nat) : State :=
  let (s, wrapped) := ctrBump s c n
  if wrapped ∧ getB s (ctrIntEn c) then raiseRec (monBump s (ctrOvfEvent c)) (ctrOvfEvent c) .grey (if c < 128 then c / 32 else 5) c 0 else s

/-- Count `n` occurrences of `(block, event)` of a region with identifiers `ids` (R445). -/
def monCount (s : State) (region block event : Nat) (ids : List (Nat × Nat)) (n : Nat) : State :=
  (ctrsFor s region block event ids).foldl (fun s c => ctrAdd s c n) s

/-- A unit of `bytes` bytes enters a block (event numbers 0x01 and 0x03, R445). [DESIGN CHOICE: log 136] -/
def monIn (s : State) (region block : Nat) (ids : List (Nat × Nat)) (bytes : Nat) : State :=
  monCount (monCount s region block 1 ids 1) region block 3 ids bytes

/-- A unit of `bytes` bytes leaves a block (event numbers 0x02 and 0x04, R445). [DESIGN CHOICE: log 136] -/
def monOut (s : State) (region block : Nat) (ids : List (Nat × Nat)) (bytes : Nat) : State :=
  monCount (monCount s region block 2 ids 1) region block 4 ids bytes

/-- Count an occurrence of event bit `f` with identifiers `ids`, whether or not the bit is already set (R445). -/
def monEvent (s : State) (f : Fld) (ids : List (Nat × Nat)) : State := match spanAt f.addr with
  | none => s
  | some p => monCount s p.region p.blk (0x10 + f.lo) ids 1

/-- What an event register's own instance identifies (R445): a lane pair, an optical engine, a channel or a client port. -/
def instIds (a : Nat) : List (Nat × Nat) := match spanAt a with
  | none => []
  | some p =>
    if p.blk = 0x10 ∨ p.blk = 0x11 ∨ p.blk = 0x31 then [(4, cellAt a)]
    else if p.blk = 0x20 then [(1, 32 * p.region + cellAt a)]
    else []

/-- The identifier of channel `n` of path `q` (R445). -/
def chanIds (q : Path) (n : Nat) : List (Nat × Nat) := [(4, 64 * qn q + n)]

/-- The blocks whose units are frames, segments, bursts or codewords (R445). -/
def unitBlocks : List Nat := [0x10, 0x11, 0x13, 0x14, 0x15, 0x16, 0x1A, 0x20, 0x21, 0x22, 0x23, 0x24]

/-- An access to the register at `a`: work for its packet region (R413), and where the block has no units of its own, a unit in and
one out (R445). -/
def accessed (s : State) (a : Nat) : State := match spanAt a with
  | none => s
  | some p =>
    let s := worked s p.region
    if unitBlocks.contains p.blk then s else monCount (monCount s p.region p.blk 1 [] 1) p.region p.blk 2 [] 1

/-- Set event bit `f` of a block (R434): the monitors count the occurrence; then as `raiseRec`. [DEDUCED: log 129] -/
def raiseFor (s : State) (f : Fld) (v : Sev) (region cell arg1 : Nat) : State :=
  raiseRec (monEvent s f (instIds f.addr)) f v region cell arg1

/-- `raiseFor` with the block's own region and the register instance as cell. [DEDUCED: log 129] -/
def raise (s : State) (f : Fld) (v : Sev) (arg1 : Nat) : State :=
  match spanAt f.addr with
  | none => s
  | some p => raiseFor s f v p.region (cellAt f.addr) arg1

/-- `raise` at the default severity, Grey, with no cause value (R434). -/
def raiseGrey (s : State) (f : Fld) : State := raise s f .grey 0

/-- `raise` of a block that numbers its instances without a register each: the record's cell (R431), and the identifiers for the
monitors (R445). -/
def raiseAt (s : State) (f : Fld) (v : Sev) (cell : Nat) (ids : List (Nat × Nat)) (arg1 : Nat) : State :=
  match spanAt f.addr with
  | none => s
  | some p => raiseRec (monEvent s f ids) f v p.region cell arg1

/-- A Grey event without a cause value, of an occurrence with identifiers `ids`. -/
def greyOf (s : State) (f : Fld) (ids : List (Nat × Nat)) : State := raiseAt s f .grey (cellAt f.addr) ids 0

/-- Count a discard with disposition code `code` and identifiers `ids` in counter field `f` (R299, R445). -/
def discardOf (s : State) (f : Fld) (code : Nat) (ids : List (Nat × Nat)) : State :=
  let s := inc s f
  match spanAt f.addr with
  | none => s
  | some p => monCount s p.region p.blk (0x80 + code) ids 1

/-- A discard without an identifier. [DEDUCED: log 129] -/
def discard (s : State) (f : Fld) (code : Nat) : State := discardOf s f code []

end Sys2Proof.Machine
end

