-- ==== Sys2Proof/Machine/Access.lean ====
section
/-!
DEFINITION. Which accesses into BAR0 reach a register: the access windows (R389 to R391), the owners of rings, the
packet regions that answer no access (R30), and the discards of /P0 writes (R7).
-/
namespace Sys2Proof.Machine
open Sys2Proof

/-- Whether region `r` is isolated by FLT: in F1 to F3, or held (R455, R456). -/
def isolated (s : State) (r : Nat) : Bool :=
  let f := Tab.getD s.flt.regions r {}
  decide (f.step ≠ 0) || f.held

/-- Whether packet region `n` is quiesced, in reset, in DIM or OFF, or isolated by FLT (R30). A region in IDLE serves the
access. -/
def regionOff (s : State) (n : Nat) : Bool :=
  decide (2 ≤ get s (F.PWR_D_STATE_state n)) || bit s.epc.quiesced.regions n || isolated s n || getB s F.GLB_SAFE_safe

/-- Whether packet region `n` is in DIM or OFF. -/
def regionAsleep (s : State) (n : Nat) : Bool := decide (2 ≤ get s (F.PWR_D_STATE_state n))

/-- Whether packet region `n` does no work: in DIM or OFF, or isolated by FLT (R413, R455, R456). -/
def regionStopped (s : State) (n : Nat) : Bool := regionAsleep s n || isolated s n

/-- Whether packet region `n` is OFF. -/
def regionIsOff (s : State) (n : Nat) : Bool := decide (get s (F.PWR_D_STATE_state n) = 3)

/-- Whether packet region `n` admits no traffic: it is off as R30 and R23 say, or its HBM stack is not trained (R411). -/
def regionClosed (s : State) (n : Nat) : Bool := regionOff s n || !getB s (F.MEM_STATUS_hbm_ready n)

/-- Whether traffic for packet region `n` is discarded at the line die (R23): the region is closed, or its entry has come to E5
(R416). -/
def linkClosed (s : State) (n : Nat) : Bool :=
  regionClosed s n || (getB s (F.PWR_D_STATE_busy n) && decide (get s (F.PWR_D_STATE_step n) = 5))

/-- Whether packet region `n` runs an entry whose step E5 has not begun (R416): its ring fetch and admission stand still. -/
def regionEntering (s : State) (n : Nat) : Bool :=
  getB s (F.PWR_D_STATE_busy n) && decide (1 ≤ get s (F.PWR_D_STATE_step n)) && decide (get s (F.PWR_D_STATE_step n) ≤ 4)

/-! ### Traffic at the line die (R23, R25, R416) -/

/-- Discard at the line die for a region that is not ON (R23), counted in EPC_QDROP during a quiesce (R74). -/
def linkDiscard (s : State) (n : Nat) : State :=
  let s := { s with pth := { s.pth with linkDrop := Tab.upd s.pth.linkDrop n 0 (· + 1) } }
  if bit s.epc.quiesced.regions n then inc s F.EPC_QDROP_count else s

/-! ### Access windows -/

/-- Window 0 of R393, which stands until a commit carries ACCESS. [DEDUCED: log 142] -/
def resetWindow : AcwWin := { base := 0, limit := 0x10000000, req := 0x10001, en := true, rd := true, wr := true }

/-- Whether access window `w` permits a 4-byte access at `a` (R389). [DEDUCED: log 142] -/
def windowPermits (w : AcwWin) (idx a : Nat) (write : Bool) : Bool :=
  w.en && decide (w.base ≤ a) && decide (a + 4 ≤ w.limit) && bit w.req idx && (if write then w.wr else w.rd)

/-- Whether the access windows let requester `r` read or write the word at `a` (R386, R389, R390). [DEDUCED: log 142] -/
def permitted (s : State) (r : Requester) (a : Nat) (write : Bool) : Bool :=
  isP0 s r || s.bank.windows.any (fun e => windowPermits e.2 (reqIndex r) a write)

/-- Count a refused access and record the first one (R389). [DEDUCED: log 16] -/
def deny (s : State) (r : Requester) (a : Nat) (write : Bool) : State :=
  let s := inc s F.ACW_DENY_count
  if getB s F.ACW_EVENT_deny then s
  else
    let s := put (putB s F.ACW_DENY_ADDR_write write) F.ACW_DENY_ADDR_offset a
    raiseGrey (put s F.ACW_DENY_REQ_req (reqIndex r)) F.ACW_EVENT_deny

/-- Whether the register at `a` lies in a block of a region that answers no access: a packet region as R30 says (an offset that the
block does not define too; outside every span R29 holds), the line region or the
control region while FLT resets or holds it (R455, R457), every region but the AON in the safe state (R458). [DEDUCED, DESIGN CHOICE: log 16, 185] -/
def sleeping (s : State) (a : Nat) : Bool :=
  match regionAt a with
  | some n => (spanAt a).isSome && regionOff s n
  | none => match spanAt a with
    | some p => (decide (p.region = 4) || decide (p.region = 5)) && (isolated s p.region || getB s F.GLB_SAFE_safe)
    | none => false

/-- Whether the policy cluster is RUNNING (R372). -/
def cplRunning (s : State) : Bool := decide (get s F.CPL_STATUS_state = 2)

/-- Whether requester `r` is cut off: functions and cores reach nothing while the control region is isolated (R457) or in the
safe state, when the PCIe link is down and the cluster without power (R458); a core none while the cluster does not run (R381). [DEDUCED: log 16] -/
def cutOff (s : State) (r : Requester) : Bool := match r with
  | .warden => false
  | .core _ => getB s F.GLB_SAFE_safe || isolated s 5 || !cplRunning s
  | .fn _ => getB s F.GLB_SAFE_safe || isolated s 5

/-- A write of a register at `a` by requester `r` that starts an action: denied outside the windows (R389), discarded in a
region that answers no access (R30) or from a requester that is cut off, otherwise `k`. -/
def onWrite (s : State) (r : Requester) (a : Nat) (k : State → State) : State :=
  if cutOff s r then s
  else if permitted s r a true then (if sleeping s a then s else k s) else deny s r a true

/-- As `onWrite`, for a /P0 field: a write below P0 is discarded (R7). -/
def onWriteP0 (s : State) (r : Requester) (a : Nat) (k : State → State) : State :=
  onWrite s r a (fun s => if isP0 s r then k s else s)

end Sys2Proof.Machine
end

