-- ==== Sys2Proof/Machine/Tsu.lean ====
section
/-!
DEFINITION. Network time (chapter 15): domains, measurements, conversion, served time, residence correction, the
timestamp queues and the outputs.
-/
namespace Sys2Proof.Machine
open Sys2Proof

/-! ### Domains (R347 to R349) -/

/-- Domain `d`. -/
def dom (s : State) (d : Nat) : TsuDom := Tab.getD s.tsu.doms d {}

/-- Change domain `d`. -/
def modDom (s : State) (d : Nat) (f : TsuDom → TsuDom) : State :=
  { s with tsu := { s.tsu with doms := Tab.upd s.tsu.doms d {} f } }

/-- The rate word of domain `d`, in 2⁻⁴⁰ (R347). -/
def rhoOf (s : State) (d : Nat) : Int := getI s (F.TSU_D_RATE_rho d)

/-- `off` at `anchor`, run on at rate `rho` to instant `x` (R347), in 2⁻³² ns. -/
def runOn (off : Int) (anchor : Nat) (x rho : Int) : Int :=
  let d : Int := x - (anchor : Int)
  off + d * 65536 + d * rho / 16777216

/-- V(x) of domain `d` for an instant `x` at or after its anchor (R347). -/
def domValue (s : State) (d : Nat) (x : Int) : Int := runOn (dom s d).off (dom s d).anchor x (rhoOf s d)

/-- The offset and anchor of domain `d` become V and now, without a new segment (R347). -/
def rebase (s : State) (d : Nat) : State :=
  let v := domValue s d (rawAbs s)
  modDom s d (fun D => { D with off := v, anchor := rawAbs s })

/-- Open a conversion segment with the offset and anchor in force (R348, R354); the last 16 are kept. -/
def openSeg (s : State) (d : Nat) : State :=
  modDom s d (fun D => { D with segs := (⟨rawAbs s, D.anchor, D.off, rhoOf s d⟩ :: D.segs).take 16 })

/-- The state field of a domain in TSU_STATUS. -/
def stField (d : Nat) : Fld := if d = 0 then F.TSU_STATUS_st_a else if d = 1 then F.TSU_STATUS_st_b else F.TSU_STATUS_st_l

/-- Put the state of domain `d` in both its registers. -/
def setDomState (s : State) (d v : Nat) : State := put (put s (F.TSU_D_STATE_state d) v) (stField d) v

/-! ### Conversion (R354) -/

/-- The segment in force at instant `x`: the newest that began at or before it; else the oldest, and stale. [DEDUCED: log 99] -/
def segAt (segs : List TsuSeg) (x : Int) : Option (TsuSeg × Bool) :=
  match segs.find? (fun g => decide ((g.at_ : Int) ≤ x)) with
  | some g => some (g, false)
  | none => segs.getLast?.map (fun g => (g, true))

/-- The value of domain `d` at instant `x`, and whether it is stale; `none` while the domain has no segment. -/
def convDom (s : State) (d : Nat) (x : Int) (old : Bool) : Option (Int × Bool) :=
  let D := dom s d
  if old then D.segs.getLast?.map (fun g => (runOn g.off g.anchor x g.rho, true))
  else (segAt D.segs x).map (fun (g, st) =>
    if D.segs.head? = some g ∧ (D.anchor : Int) ≤ x then (runOn D.off D.anchor x g.rho, st)
    else (runOn g.off g.anchor x g.rho, st))

/-- The value of domain 0 to 2 or of SERVED (3) at instant `x` (R354, R355). [DEDUCED: log 99] -/
def convAt (s : State) (d : Nat) (x : Int) (old : Bool) : Option (Int × Bool) :=
  if d < 3 then convDom s d x old
  else
    let hit := if old then none else s.tsu.served.find? (fun p => decide ((p.at_ : Int) ≤ x))
    let st := hit.isNone
    match hit.orElse (fun _ => s.tsu.served.getLast?) with
    | none => none
    | some p => (convDom s p.base x old).map (fun (v, o) => (v - p.resid x.toNat * 65536, o || st))

/-- The instant of a raw value and whether it lies more than 2⁴⁷ ns before now (R346, R354). A value up to 2³² ns ahead of now, as the
launch and transmit points give it (R357), names that later instant. [DESIGN CHOICE: log 226] -/
def instantOf (s : State) (raw : Nat) : Int × Bool :=
  let age := (rawTime s + 2 ^ 64 - raw % 2 ^ 64) % 2 ^ 64
  if 2 ^ 64 - 2 ^ 48 ≤ age then ((rawAbs s : Int) + ((2 ^ 64 - age : Nat) : Int), false)
  else ((rawAbs s : Int) - (age : Int), decide (2 ^ 63 < age))

/-- Convert a raw value (R354). A domain that has never been set has no value: a free one, stale. [DEDUCED: log 99] -/
def convert (s : State) (d raw : Nat) : Int × Bool :=
  let (x, old) := instantOf s raw
  (convAt s d x old).getD ((freeVal s : Int), true)

/-- Seconds, nanoseconds and fraction of a domain value (R347). -/
def secOf (v : Int) : Nat := ((v / (1000000000 * 2 ^ 32 : Int)) % (2 ^ 48 : Int)).toNat
def nsOf (v : Int) : Nat := ((v / (2 ^ 32 : Int)) % 1000000000).toNat
def fracOf (v : Int) : Nat := (v % (2 ^ 32 : Int)).toNat

/-- A descriptor timestamp and its stale mark (R356). -/
def descTime (s : State) (raw : Nat) : Nat × Bool :=
  let (v, st) := convert s (get s F.TSU_CTRL_desc_dom) raw
  ((secOf v * 1000000000 + nsOf v) % 2 ^ 32, st)

/-! ### Served time (R355) -/

/-- The working path of PTH (R224), none in PS_NONE. -/
def workingPath (s : State) : Option Path :=
  let v := get s F.PTH_STATUS_state
  if v = 0 then none else if v % 2 = 1 then some .a else some .b

/-- The domain that serve selects now; in PS_NONE, FOLLOW leaves the base as it is (R355). -/
def serveTarget (s : State) : Nat :=
  if get s F.TSU_CTRL_serve < 3 then get s F.TSU_CTRL_serve
  else match workingPath s with
    | some q => qn q
    | none => get s F.TSU_STATUS_base

/-- Keep the pieces back to the fourth base change (R354). -/
def keepPieces (l : List SrvPiece) (n : Nat) : List SrvPiece :=
  match l with
  | [] => []
  | p :: rest => if p.change then (if n ≤ 1 then [p] else p :: keepPieces rest (n - 1)) else p :: keepPieces rest n

/-- Begin a piece of served time. [DEDUCED: log 100] -/
def pushPiece (s : State) (base : Nat) (r : Int) (change : Bool) : State :=
  { s with tsu := { s.tsu with
      served := keepPieces (⟨rawAbs s, base, r, get s F.TSU_CTRL_slew, change⟩ :: s.tsu.served) 4 } }

/-- The value of SERVED now, where a base has been set. -/
def servedNow (s : State) : Int := domValue s (get s F.TSU_STATUS_base) (rawAbs s) - residNow s * 65536

/-- Bring the base to what serve selects (R355): a step of at most ±2 ns, the rest slewed; pending while the target is
UNSET. [DEDUCED: log 100] -/
def servedUpdate (s : State) : State :=
  let t := serveTarget s
  let b := get s F.TSU_STATUS_base
  if t = b ∨ 3 ≤ t then putB s F.TSU_STATUS_base_pending false
  else if domState s t = 0 then
    if getB s F.TSU_STATUS_base_pending then s else raiseGrey (putB s F.TSU_STATUS_base_pending true) F.TSU_EVENT_base_pending
  else
    let r : Int := if b = 3 then 0 else
      let d := (domValue s t (rawAbs s) - servedNow s) / 65536
      let step := if d < -131072 then -131072 else if 131072 < d then 131072 else d
      d - step
    let s := putB (put (pushPiece s t r true) F.TSU_STATUS_base t) F.TSU_STATUS_base_pending false
    raiseGrey s F.TSU_EVENT_base_change

/-- Whether domain `d` has a reference now (R349): its path's measurements (R350), or a source of LOCAL (R353). -/
def hasRef (s : State) (d : Nat) : Bool :=
  if d = 0 then measOk s .a else if d = 1 then measOk s .b else decide (get s F.TSU_CTRL_local_src ≠ 0)

/-- LOCAL without a source is FREE once it is set (R353). -/
def localFree (s : State) : State := if hasRef s 2 ∨ domState s 2 = 0 then s else setDomState s 2 1

/-- A commit of TIME: a changed slew applies to r from now on, serve may name another base (R355, R365), and LOCAL may lose its source.
[DEDUCED: log 146] -/
def tsuCommit (s : State) : State :=
  let s := localFree s
  match s.tsu.served with
  | [] => servedUpdate s
  | p :: _ =>
    servedUpdate (if p.slew = get s F.TSU_CTRL_slew then s else pushPiece s p.base (residNow s) false)

/-! ### Measurements (R349 to R353) -/

/-- The event bits of a domain's entry into HOLDOVER and TRACKING. -/
def holdEvent (d : Nat) : Fld :=
  if d = 0 then F.TSU_EVENT_hold_a else if d = 1 then F.TSU_EVENT_hold_b else F.TSU_EVENT_hold_l
def trackEvent (d : Nat) : Fld :=
  if d = 0 then F.TSU_EVENT_track_a else if d = 1 then F.TSU_EVENT_track_b else F.TSU_EVENT_track_l

/-- A domain enters TRACKING (R349). -/
def enterTracking (s : State) (d : Nat) : State :=
  if domState s d = 2 then s
  else
    let unset := decide (domState s d = 0)
    whenB unset servedUpdate (raiseGrey (setDomState s d 2) (trackEvent d))

/-- A signed value saturated to 32 bits. -/
def sat32 (v : Int) : Int := if v < -2147483648 then -2147483648 else if 2147483647 < v then 2147483647 else v

/-- A phase measurement of `p` sixteenths of a nanosecond (R350, R353), with the mean over `m` of them shown when
`last` says that the averaging span ends. [DEDUCED: log 101] -/
def measured (s : State) (d : Nat) (p : Int) (last : Bool) : State :=
  let s := putI s (F.TSU_D_PHASE_phase d) (sat32 p)
  let s := inc s (F.TSU_D_MEAS_count d)
  let s := modDom s d (fun D => { D with mfSum := D.mfSum + p, mfCount := D.mfCount + 1 })
  let s := if last then
      modDom (putI s (F.TSU_D_PHASE_MF_phase d) (sat32 ((dom s d).mfSum / ((dom s d).mfCount : Int)))) d
        (fun D => { D with mfSum := 0, mfCount := 0 })
    else s
  enterTracking s d

/-- d_dn of path `q` with reference channel `n`, in 1/16 ns (R352). [DEDUCED: log 101] -/
def ddn (s : State) (q : Path) (n : Nat) : Int :=
  let teq : Int := (get s (F.TSU_D_TEQ_teq (qn q)) : Nat)
  let eqd : Int := (get s (F.ACT_EQD_eqd (qn q) n) : Nat)
  (2 * (teq - eqd) + 425 * (getI s (F.TSU_LINE_ASYM_asym (qn q) n) + getI s (F.TSU_D_FASYM_asym (qn q)))) / 850

/-- The distance from FN `a` to FN `b`, signed, modulo 2⁴⁸ (R32). -/
def fnDist (a b : Nat) : Int := toSigned 48 ((b + fnMod - a % fnMod) % fnMod)

/-- TAI(FN) of an announcement, in 2⁻³² ns (R350). -/
def taiOf (a : SecAnn) (fn : Nat) : Int := ((a.tai : Int) * 1000000000 + fnDist a.fn fn * 64000) * 2 ^ 32

/-- The raw instant at which what lane `p` receives now came in by the downstream pigtail, in steps of 1/16 ns (R350, R357). -/
def pigtailRaw (s : State) (p : Nat) : Nat := (rawAbs s - 4096 * (laneSt s p).rxDelay) / 4096 * 4096

/-- FN:0 of the reference channel of path `q` arrives with frame `fn` (R350, R351). [DEDUCED: log 101] -/
def tsuFrame (s : State) (q : Path) (fn : Nat) : State :=
  match annOf s q, refChan s q with
  | some a, some n =>
    if measOk s q then
      let d := qn q
      let s := putI s (F.TSU_D_DDN_ddn d) (ddn s q n)
      let x := pigtailRaw s (laneOf q n)
      let want := taiOf a fn + ddn s q n * 2 ^ 28
      if domState s d = 0 then
        if getB s F.TSU_CTRL_auto_set then
          enterTracking (openSeg (modDom s d (fun D => { D with off := want, anchor := x })) d) d
        else s
      else measured s d ((want - domValue s d x) / 2 ^ 28) (decide (fn % 125 = 124))
    else s
  | _, _ => s

/-- A second announcement ends the wait after a renumbering (R350). [DEDUCED: log 101] -/
def tsuAnnounced (s : State) (q : Path) : State := putB s (F.TSU_D_STATE_wait_ann (qn q)) false

/-- A renumbering of path `q` stops its measurements until the next announcement (R350). -/
def tsuRenumbered (s : State) (q : Path) : State := putB s (F.TSU_D_STATE_wait_ann (qn q)) true

/-- LOCAL follows the firmware's own writes while local_src is 3 (R353): its rate and step writes are the measurements. [DESIGN CHOICE: log 227] -/
def firmwareSteers (s : State) (d : Nat) : State :=
  if d = 2 ∧ get s F.TSU_CTRL_local_src = 3 ∧ domState s 2 ≠ 0 then enterTracking s 2 else s

/-! ### Frames: residence correction and the timestamp queues (R357 to R360) -/

/-- Replace the bytes of `bs` from `off` on by `v`. -/
def overwrite (bs : List Byte) (off : Nat) (v : List Byte) : List Byte := bs.take off ++ v ++ bs.drop (off + v.length)

/-- One's-complement sum of big-endian 16-bit words. -/
def ones (ws : List Nat) : Nat :=
  let t := ws.foldl (· + ·) 0
  let t := t % 65536 + t / 65536
  t % 65536 + t / 65536

/-- The four 16-bit words of eight bytes. -/
def words16 (bs : List Byte) : List Nat := [be bs 0 2, be bs 2 2, be bs 4 2, be bs 6 2]

/-- Where the IPv6 extension headers from byte `p` on, the first of type `t`, lead to UDP. [PRESUMED: log 228] -/
def udpBehind (bs : List Byte) (t p fuel : Nat) : Option Nat := match fuel with
  | 0 => none
  | fuel + 1 =>
    if t = 17 then some p
    else if [0, 43, 60, 135, 139, 140].contains t then udpBehind bs (be bs p 1) (p + 8 + 8 * be bs (p + 1) 1) fuel
    else if t = 44 then udpBehind bs (be bs p 1) (p + 8) fuel
    else if t = 51 then udpBehind bs (be bs p 1) (p + 8 + 4 * be bs (p + 1) 1) fuel
    else none

/-- The IP version of the header at byte `p`, where UDP behind it carries the PTP header at byte `o`; else 0. [PRESUMED: log 228] -/
def udpOver (bs : List Byte) (o p : Nat) : Nat :=
  let v := be bs p 1
  if v / 16 = 4 ∧ be bs (p + 9) 1 = 17 ∧ p + 4 * (v % 16) + 8 = o then 4
  else if v / 16 = 6 ∧ (udpBehind bs (be bs (p + 6) 1) (p + 40) 16).map (· + 8) = some o then 6
  else 0

/-- Mend the checksum of the UDP header before the PTP header, over IP version `udp`, for a changed field (R359): 0 over IPv4,
incremental over IPv6. [PRESUMED: log 228] -/
def fixUdp (bs : List Byte) (ptp udp : Nat) (before after : List Byte) : List Byte :=
  if udp = 4 then overwrite bs (ptp - 2) (beBytes 2 0)
  else if udp = 6 then
    let hc := be bs (ptp - 2) 2
    let x := ones ((65535 - hc) :: ((words16 before).map (fun w => 65535 - w) ++ words16 after))
    overwrite bs (ptp - 2) (beBytes 2 (if 65535 - x = 0 then 65535 else 65535 - x))
  else bs

/-- Residence correction at an egress point at raw instant `xe` (R359): the frame as it leaves. -/
def tcCorrect (s : State) (g : Ingress) (outTc : Bool) (xe : Nat) (bs : List Byte) : State × List Byte :=
  match g.ptp with
  | none => (s, bs)
  | some o =>
    if outTc && (g.tc || decide (g.kind = 2)) && decide (o + 16 ≤ bs.length) && decide (be bs (o + 1) 1 % 16 = 2) && decide (be bs o 1 % 16 ≤ 3) then
      let base := get s F.TSU_STATUS_base
      let d : Int := (((xe + 2 ^ 64 - g.raw % 2 ^ 64) % 2 ^ 64 : Nat) : Int)
      let c := toSigned 64 (be bs (o + 8) 8) + d + d * rhoOf s base / (2 ^ 40 : Int)
      if g.kind = 2 ∨ domState s 3 = 0 ∨ c < -(2 ^ 63 : Int) ∨ (2 ^ 63 : Int) ≤ c then
        (raiseGrey (inc s F.TSU_TC_MISS_count) F.TSU_EVENT_tc_miss, bs)
      else
        let v := beBytes 8 (ofSigned 64 c)
        (inc s F.TSU_TC_COUNT_count, fixUdp (overwrite bs (o + 8) v) o g.udp (sub bs (o + 8) 8) v)
    else (s, bs)

/-- The raw time of a frame at port `p`'s receiver (R357): resolution 0.25 ns, less the CAL and board constants. [DESIGN CHOICE: log 10] -/
def clientRxRaw (s : State) (p : Nat) : Nat :=
  let c := ((get s (F.TSU_PORT_RX_cal p) : Nat) : Int) + getI s (F.TSU_PORT_RX_board p)
  ((((rawTime s / 16384 * 16384 : Nat) : Int) - c * 4096) % (2 ^ 64 : Int)).toNat

/-- The raw time of a frame at port `p`'s transmitter (R357). [DESIGN CHOICE: log 10] -/
def clientTxRaw (s : State) (p : Nat) : Nat :=
  let c := ((get s (F.TSU_PORT_TX_cal p) : Nat) : Int) + getI s (F.TSU_PORT_TX_board p)
  ((((rawTime s / 16384 * 16384 : Nat) : Int) + c * 4096) % (2 ^ 64 : Int)).toNat

/-- Put a record into region `n`'s timestamp queue (R360): kinds and IDs, disposition code, raw times, metadata and
queue, CRC of the frame's first 128 bytes. [DEDUCED: log 102] -/
def tsqPush (s : State) (n : Nat) (g : Ingress) (outKind outId disp xe meta_ queue : Nat) (bs : List Byte) : State :=
  let t := (pkt s n).tsq
  if 1024 ≤ t.recs.length then
    let s := modPkt s n (fun p => { p with tsq := { t with gap := true, lost := sat 32767 (t.lost + 1) } })
    raiseGrey (inc s (F.TSU_TSQ_OVF_count n)) F.TSU_EVENT_tsq_ovf
  else
    let r := [t.seq % 65536 + 65536 * b2n t.gap + 131072 * t.lost,
      g.kind + 4 * (g.id % 256) + 1024 * outKind + 4096 * (outId % 256) + 2 ^ 20 * (disp % 256),
      g.raw % 2 ^ 32, g.raw / 2 ^ 32 % 2 ^ 32, xe % 2 ^ 32, xe / 2 ^ 32 % 2 ^ 32,
      meta_ % 65536 + 65536 * (queue % 16384), crc32c (bs.take 128)]
    let q : Tsq := { recs := t.recs ++ [r], seq := t.seq + 1, gap := false, lost := 0 }
    let s := modPkt s n (fun p => { p with tsq := q })
    put s (F.TSU_TSQ_LEVEL_level n) (t.recs.length + 1)

/-- A reset of region `n`, or its entry to OFF, empties its timestamp queue (R360). -/
def tsqEmpty (s : State) (n : Nat) : State :=
  let t := (pkt s n).tsq
  put (modPkt s n (fun p => { p with tsq := { t with recs := [], gap := true, lost := 32767 } }))
    (F.TSU_TSQ_LEVEL_level n) 0

/-- Remove the oldest record of region `n`'s queue (R360). [DEDUCED: log 102] -/
def tsqPop (s : State) (n : Nat) : State :=
  let t := (pkt s n).tsq
  put (modPkt s n (fun p => { p with tsq := { t with recs := t.recs.drop 1 } }))
    (F.TSU_TSQ_LEVEL_level n) (t.recs.length - 1)

/-! ### The commands -/

/-- Write a domain's rate word (R348): the value does not step; an UNSET domain only takes the word. -/
def rateWrite (d : Nat) (rho : Word) (s : State) : State :=
  if domState s d = 0 then put s (F.TSU_D_RATE_rho d) rho.toNat
  else firmwareSteers (openSeg (put (rebase s d) (F.TSU_D_RATE_rho d) rho.toNat) d) d

/-- Step a domain's offset by signed nanoseconds (R348). -/
def stepWrite (d : Nat) (ns : Word) (s : State) : State :=
  if domState s d = 0 then s
  else firmwareSteers (openSeg (modDom s d (fun D => { D with off := D.off + ns.toInt * 2 ^ 32 })) d) d

/-- A write of TSU_D_SET_NS: the nanoseconds are kept, and with go the domain takes the set value now (R348). It keeps TRACKING while it
has its reference, else it is FREE until a measurement comes (R349). [DESIGN CHOICE: log 227] -/
def setWrite (d : Nat) (v : Word) (s : State) : State :=
  let s := put s (F.TSU_D_SET_NS_ns d) (bits v.toNat 0 30)
  if bit v.toNat 31 then
    let val : Int := (((get s (F.TSU_D_SET_SEC_sec d) * 1000000000 + get s (F.TSU_D_SET_NS_ns d)) * 2 ^ 32 : Nat) : Int)
    let was := domState s d
    let s := modDom s d (fun D => { D with off := val, anchor := rawAbs s })
    let s := if was = 2 ∧ hasRef s d then s else setDomState s d 1
    whenB (decide (was = 0)) servedUpdate (openSeg s d)
  else s

/-- Convert for requester `r` (R354). -/
def convWrite (r : Requester) (raw d : Nat) (s : State) : State :=
  let (v, st) := convert s d raw
  stepFree { s with tsu := { s.tsu with conv := Tab.set s.tsu.conv (reqNum r) ⟨raw, d, st, v⟩ } }

/-- Latch all domains and SERVED at this tick for requester `r` (TSU_LATCH). -/
def latchWrite (r : Requester) (s : State) : State :=
  let x := rawAbs s
  let vals := (List.range 4).map (fun d =>
    if domState s d = 0 then none else some (if d < 3 then domValue s d x else servedNow s))
  { s with tsu := { s.tsu with lat := Tab.set s.tsu.lat (reqNum r) ⟨rawTime s, vals⟩ } }

/-- r ← 0 at once (R355). [DEDUCED: log 100] -/
def residClear (s : State) : State :=
  match s.tsu.served with
  | [] => s
  | p :: _ => pushPiece s p.base 0 false

/-- DOMAIN_REBASE (R347). -/
def execDomainRebase (s : State) : Host.Outcome State Fault Refusal :=
  finish s (forEach [0, 1, 2] (fun s d => if domState s d = 0 then s else rebase s d) s)

/-- TSU_RATE_WRITE (R348). -/
def execTsuRateWrite (r : Requester) (d : Fin 3) (rho : Word) (s : State) : Host.Outcome State Fault Refusal :=
  finish s (onWrite s r (R.TSU_D_RATE d.val) (rateWrite d.val rho))

/-- TSU_STEP_WRITE (R348). -/
def execTsuStepWrite (r : Requester) (d : Fin 3) (ns : Word) (s : State) : Host.Outcome State Fault Refusal :=
  finish s (onWrite s r (R.TSU_D_STEP d.val) (stepWrite d.val ns))

/-- TSU_SET (R348, R349). -/
def execTsuSet (r : Requester) (d : Fin 3) (v : Word) (s : State) : Host.Outcome State Fault Refusal :=
  finish s (onWrite s r (R.TSU_D_SET_NS d.val) (setWrite d.val v))

/-- DOMAIN_HOLDOVER (R349). -/
def execDomainHoldover (d : Fin 3) (s : State) : Host.Outcome State Fault Refusal :=
  finish s (if domState s d.val = 2 then raiseGrey (setDomState s d.val 3) (holdEvent d.val) else s)

/-- PPS_IN_EDGE (R353). -/
def execPpsInEdge (k : Fin 2) (s : State) : Host.Outcome State Fault Refusal :=
  let t := inc (put s (F.TSU_PPSIN_LFC_raw k.val) (rawTime s)) (F.TSU_PPSIN_COUNT_count k.val)
  let t := raiseGrey t (if k.val = 0 then F.TSU_EVENT_ppsin_0 else F.TSU_EVENT_ppsin_1)
  finish s (if get t F.TSU_CTRL_local_src = k.val + 1 ∧ domState t 2 ≠ 0 then
      let v := domValue t 2 (rawAbs t)
      let sec : Int := 1000000000 * 2 ^ 32
      let n := (v + sec / 2) / sec * sec
      measured t 2 ((n - v) / 2 ^ 28) (decide ((dom t 2).mfCount = 7))
    else t)

/-- TSU_CONVERT (R354): the value is written to TSU_CONV_IN for the domain named. -/
def execTsuConvert (r : Requester) (raw : BitVec 64) (d : Fin 4) (s : State) : Host.Outcome State Fault Refusal :=
  finish s (onWrite s r R.TSU_CONV_IN (convWrite r raw.toNat d.val))

/-- TSU_LATCH (R347). -/
def execTsuLatch (r : Requester) (s : State) : Host.Outcome State Fault Refusal :=
  finish s (onWrite s r R.TSU_LATCH (latchWrite r))

/-- RESID_CLR (R355). -/
def execResidClr (r : Requester) (s : State) : Host.Outcome State Fault Refusal :=
  finish s (onWrite s r R.TSU_CTRL residClear)

/-- SERVED_SLEW_END (R355): r has reached 0. -/
def execServedSlewEnd (s : State) : Host.Outcome State Fault Refusal := finish s (residClear s)

/-- Whether PPS_OUT_k gives its edge: enabled, its domain set, and not squelched in HOLDOVER (R361). -/
def ppsRuns (s : State) (k : Nat) : Bool :=
  let st := domState s (get s (F.TSU_PPS_CFG_dom k))
  getB s (F.TSU_PPS_CFG_en k) && decide (st ≠ 0) && !(getB s (F.TSU_PPS_CFG_squelch k) && decide (st = 3))

/-- PPS_OUT_EDGE (R361): the edge, rising unless invert is set, and the width for which its level then holds; it begins the whole second nearest to the domain's value plus the advance. -/
def execPpsOutEdge (k : Fin 2) (s : State) : Host.Outcome State Fault Refusal :=
  finish s (if ppsRuns s k.val then
      let d := get s (F.TSU_PPS_CFG_dom k.val)
      let v := (if d < 3 then domValue s d (rawAbs s) else servedNow s) + getI s (F.TSU_PPS_DELAY_delay k.val) * 2 ^ 28
      let t := emit s (.pps k.val (!getB s (F.TSU_PPS_CFG_invert k.val)) (get s (F.TSU_PPS_CFG_width k.val)))
      if k.val = 0 then { t with tsu := { t.tsu with pps0 := some (secOf (v + 500000000 * 2 ^ 32)) } } else t
    else s)

/-- The 16 bytes of the time-of-day message for second `sec` (R364). -/
def todBytes (s : State) (sec : Nat) : List Byte :=
  let d := get s (F.TSU_PPS_CFG_dom 0)
  let body := [0xC5, 0x3A] ++ beBytes 6 sec ++ beBytes 2 (get s F.TSU_UTC_OFF_off) ++
    beBytes 1 (domState s d + 4 * get s F.TSU_STATUS_slewing) ++ beBytes 1 d
  body ++ leBytes 4 (crc32c body)

/-- TOD_MESSAGE (R364): 10 ms after an edge of PPS_OUT_0, once for each. -/
def execTodMessage (s : State) : Host.Outcome State Fault Refusal :=
  finish s (match s.tsu.pps0 with
    | some sec =>
      let t := { s with tsu := { s.tsu with pps0 := none } }
      if getB s F.TSU_CTRL_tod_en then emit t (.tod (todBytes s sec)) else t
    | none => s)

/-- TSQ_POP (R360). -/
def execTsqPop (r : Requester) (n : PktRegion) (s : State) : Host.Outcome State Fault Refusal :=
  finish s (onWrite s r (R.TSU_TSQ_POP n.val) (fun s => tsqPop s n.val))

end Sys2Proof.Machine
end

