-- ==== Sys2Proof/Machine/Port.lean ====
section
/-!
DEFINITION. What other blocks ask of a client port: its counters (R266) and the flow-control frames it sends (R265).
-/
namespace Sys2Proof.Machine
open Sys2Proof

/-- A port's store, by region and local index of its first lane. -/
def portSt (s : State) (n l : Nat) : PortSt := Tab.getD (pkt s n).cmc.ports l {}

/-- Change a port's store. -/
def modPort (s : State) (n l : Nat) (f : PortSt → PortSt) : State :=
  modPkt s n (fun p => { p with cmc := { p.cmc with ports := Tab.upd p.cmc.ports l {} f } })

/-- Whether a port begins at local lane `l` (R253), and whether it is an Ethernet port (R254). -/
def isPort (s : State) (n l : Nat) : Bool := decide (get s (F.CMC_PORT_CFG_width n l) ≠ 0)
def isEth (s : State) (n l : Nat) : Bool := isPort s n l && !getB s (F.CMC_PORT_CFG_mode n l)

/-- The lanes of the port whose first local lane is `l` (R253). -/
def portLanes (s : State) (n l : Nat) : List Nat := (List.range (get s (F.CMC_PORT_CFG_width n l))).map (· + l)

/-- Whether a lane of a port is quiesced (R74). -/
def portQuiesced (s : State) (n l : Nat) : Bool :=
  (portLanes s n l).any (fun k => bit s.epc.quiesced.lanes (32 * n + k))

/-- The upstream container that a port feeds (R267). -/
def upContainer (s : State) (p : Nat) : Option Nat :=
  (s.bank.upPort.find? (fun e => decide (e.2 = p))).map (fun e => e.1)

/-- Whether a port is transparent. -/
def isTransparent (s : State) (n l : Nat) : Bool := isPort s n l && getB s (F.CMC_PORT_CFG_mode n l)

/-- Receive link states of a port (R258): 0 DOWN, 1 ADAPT, 2 ALIGN, 3 UP, 4 FAULT. -/
def portLink (s : State) (n l : Nat) : Nat := get s (F.CMC_PORT_STATUS_link n l)

/-- Add `k` to counter `i` of a port, which wraps at 40 bits, or 48 for octets; its half-range flag (R266). -/
def statAdd (s : State) (n l i k : Nat) : State :=
  let w := if i = 1 ∨ i = 2 ∨ i = 24 then 48 else 40
  let key := R.CMC_STAT n l i
  let old := liveGet s key
  let new := (old + k) % 2 ^ w
  let s := livePut s key new
  if !bit old (w - 1) && bit new (w - 1) then
    let f := if i < 32 then F.CMC_PORT_HALF_LO_flags n l else F.CMC_PORT_HALF_HI_flags n l
    raiseGrey (put s f (get s f ||| 2 ^ (i % 32))) (F.CMC_PORT_EVENT_half_range n l)
  else s

/-- The size bucket, 0 to 9, of a frame of `len` bytes with FCS (R266). -/
def sizeBucket (len : Nat) : Nat :=
  if len ≤ 64 then 0 else if len ≤ 127 then 1 else if len ≤ 255 then 2 else if len ≤ 511 then 3
  else if len ≤ 1023 then 4 else if len ≤ 1518 then 5 else if len ≤ 2047 then 6 else if len ≤ 4095 then 7
  else if len ≤ 9216 then 8 else 9

/-- Count a frame of `len` bytes with FCS in the size buckets from counter `base`, where its length is valid: 64 bytes to `max` (R266). -/
def sizeAdd (s : State) (n l base max len : Nat) : State :=
  if 64 ≤ len ∧ len ≤ max then statAdd s n l (base + sizeBucket len) 1 else s

/-- Unicast 0, multicast 1 or broadcast 2, by a frame's destination address. -/
def castOf (bs : List Byte) : Nat :=
  if be bs 0 6 = 0xFFFFFFFFFFFF then 2 else if be bs 0 1 % 2 = 1 then 1 else 0

/-! ### Local fault towards the client (R125, R257) -/

/-- The lane transmits: it is enabled, its region has power, its pads are not latched (R258, R259, R419). [DEDUCED: log 55] -/
def laneDrives (s : State) (n l : Nat) : Bool :=
  bit (get s (F.CMC_LANE_EN_en n)) l && !regionAsleep s n && !getB s (F.PWR_D_STATE_pads n)

/-- An ordered set goes out on a port whose lane drives. -/
def emitSet (s : State) (n l os : Nat) : State := if laneDrives s n l then emit s (.orderedSet n l os) else s

/-- Whether a transparent port has to send local fault (R257): its downstream container shows LOP or AIS-T, or it has none. [DEDUCED: log 73] -/
def lineFault (s : State) (n l : Nat) : Bool :=
  isTransparent s n l && match s.bank.downPort.find? (fun e => decide (e.2 = 32 * n + l)) with
    | some (t, _) => !getB s (F.DFR_TRIB_CFG_valid t) || getB s (F.DFR_TRIB_STATUS_lop t) || getB s (F.DFR_TRIB_STATUS_ais_t t)
    | none => true

/-- Bring a port's local fault to what its container shows: it is sent continuously while the cause stands, in place of any standing
ordered set, and idle follows it (R125, R257). -/
def showFault (s : State) (n l : Nat) : State :=
  let now := lineFault s n l
  if (portSt s n l).fault = now then s
  else if now then emitSet (modPort s n l (fun x => { x with fault := true, osTx := 0, demap := [] })) n l 0x100
  else emitSet (modPort s n l (fun x => { x with fault := false })) n l 0

/-- The port that container `t` feeds, if any, shows its fault. -/
def showTribFault (s : State) (t : Nat) : State := match Tab.find s.bank.downPort t with
  | some k => showFault s (k / 32) (k % 32)
  | none => s

/-- A transparent port's lane transmits again: it sends what stands, its local fault or its ordered set (R257). -/
def sendStanding (s : State) (n l : Nat) : State :=
  let os := if (portSt s n l).fault then 0x100 else (portSt s n l).osTx
  if isTransparent s n l ∧ os ≠ 0 then emitSet s n l os else s

/-- Every port of region `n` sends what stands: after a wake, an exit, a release of the pads. -/
def sendStandings (s : State) (n : Nat) : State := (List.range 32).foldl (fun s l => sendStanding s n l) s

/-- Every port of region `n` shows its fault. -/
def showFaults (s : State) (n : Nat) : State := (List.range 32).foldl (fun s l => showFault s n l) s

/-! ### The stream of a transparent port (R255) -/

/-- CRC-8 over a byte string, polynomial 0x07, initial value 0: the hec of R117 and R255. -/
def crc8Bit (c : Nat) : Nat := if 128 ≤ c then ((2 * c) % 256) ^^^ 0x07 else 2 * c
def crc8Byte (c : Nat) (b : Byte) : Nat :=
  crc8Bit (crc8Bit (crc8Bit (crc8Bit (crc8Bit (crc8Bit (crc8Bit (crc8Bit (c ^^^ b.toNat))))))))
def crc8 (bs : List Byte) : Nat := bs.foldl crc8Byte 0

/-- Whether eight bytes stand at the front of a stream that are a record header with a good hec (R255). -/
def hdrGood8 (l : List Byte) : Bool := decide (8 ≤ l.length) && decide (crc8 (l.take 7) = be l 7 1)

/-- Kind and length of a record header, and the bytes of the record that follow it (R255). -/
def recKind (l : List Byte) : Nat := be l 0 7 / 2 ^ 54
def recLen (l : List Byte) : Nat := if recKind l = 1 then be l 0 7 / 2 ^ 39 % 2 ^ 15 else 0

/-- Bytes to pass over in a stream up to the next header that R118 accepts: its hec checks, and so does the header that its length
points to, or that one is not there yet. A header whose last bytes have not come is left to be looked at again (R257). -/
def nextHdr (l : List Byte) (skip : Nat) : Nat :=
  match l with
  | [] => skip
  | b :: rest =>
    let after := (b :: rest).drop (8 + recLen (b :: rest))
    if (b :: rest).length < 8 ∨ (hdrGood8 (b :: rest) ∧ (after.length < 8 ∨ hdrGood8 after)) then skip else nextHdr rest (skip + 1)

/-- Frame records that begin in a stream, in at most `k` records and searches (R257, R271). -/
def frameRecords (k : Nat) (l : List Byte) : Nat := match k with
  | 0 => 0
  | k + 1 => if l.length < 8 then 0
    else if hdrGood8 l then b2n (decide (recKind l = 1)) + frameRecords k (l.drop (8 + recLen l))
    else frameRecords k (l.drop (max 1 (nextHdr l 0)))

/-- FCS of a frame: CRC-32 of IEEE 802.3, in its reflected form. -/
def fcsBit (c : Nat) : Nat := if c % 2 = 1 then (c / 2) ^^^ 0xEDB88320 else c / 2
def fcsByte (c : Nat) (b : Byte) : Nat :=
  fcsBit (fcsBit (fcsBit (fcsBit (fcsBit (fcsBit (fcsBit (fcsBit (c ^^^ b.toNat))))))))
def fcs (bs : List Byte) : Nat := (bs.foldl fcsByte 0xFFFFFFFF) ^^^ 0xFFFFFFFF

/-- A frame with its FCS, or with the FCS inverted for an errored one (R261). -/
def withFcs (bs : List Byte) (errored : Bool) : List Byte :=
  bs ++ leBytes 4 (if errored then 0xFFFFFFFF - fcs bs else fcs bs)

/-- `bs` padded with zeros to `n` bytes. -/
def padTo (n : Nat) (bs : List Byte) : List Byte := bs ++ List.replicate (n - bs.length) 0

/-- A MAC control frame of 64 bytes (R265): opcode and parameters after the reserved multicast address. [DESIGN CHOICE: log 11] -/
def macControl (s : State) (n l op : Nat) (params : List Byte) : State :=
  let body := beBytes 6 0x0180C2000001 ++ beBytes 6 (Config.portMac (32 * n + l)) ++ beBytes 2 0x8808 ++ beBytes 2 op ++ params
  statAdd (statAdd (emit s (.clientFrame n l (withFcs (padTo 60 body) false) false)) n l 28 1) n l 33 1

/-- Send PAUSE with the given quanta (R265). -/
def sendPause (s : State) (n l q : Nat) : State := macControl s n l 0x0001 (beBytes 2 q)

/-- Send PFC for the priorities of `mask` with the given quanta (R265). -/
def sendPfc (s : State) (n l mask q : Nat) : State :=
  macControl s n l 0x0101 (beBytes 2 mask ++
    (List.range 8).flatMap (fun i => beBytes 2 (if bit mask i then q else 0)))

/-- Whether a port runs flow control: an Ethernet port whose mode is not off (R254, R263). -/
def flowControlled (s : State) (n l : Nat) : Bool := isEth s n l && decide (get s (F.CMC_PORT_FC_mode n l) ≠ 0)

/-- The frames that tell the peer of a port's backpressure `req` (R265); a port that is not UP or is quiesced (R74), or whose
flow control is off, sends none. [DEDUCED: log 194] -/
def sendReq (s : State) (n l req q : Nat) : State :=
  if portLink s n l = 3 ∧ flowControlled s n l ∧ !portQuiesced s n l then
    let s := if bit req 8 then sendPause s n l q else s
    if req % 256 ≠ 0 then sendPfc s n l (req % 256) q else s
  else s

/-- BPM's backpressure request of a port becomes `req` (R265, R329): what is new starts with tx_quanta, what ends with 0. -/
def setReq (s : State) (n l req : Nat) : State :=
  let old := (portSt s n l).txReq
  if req = old then s
  else
    let s := modPort s n l (fun p => { p with txReq := req })
    let s := put s (F.CMC_PORT_STATUS_tx_paused n l) (if flowControlled s n l then req % 256 ||| b2n (bit req 8) else 0)
    let s := sendReq s n l (old &&& (511 - req % 512)) 0
    sendReq s n l (req &&& (511 - old % 512)) (get s (F.CMC_PORT_FC_tx_quanta n l))

end Sys2Proof.Machine
end

