-- ==== Sys2Proof/Machine/Conts.lean ====
section
/-!
DEFINITION. The containers that a lane or a path carries (R122, R142) and the defects they show (R125, R127).
-/
namespace Sys2Proof.Machine
open Sys2Proof

/-- Container indices, upstream or downstream, that serve path `q`. -/
def tribsOf (s : State) (q : Path) (valid path : Nat → Fld) : List Nat :=
  (List.range 32).filter (fun t => getB s (valid t) && decide (get s (path t) = qn q))

/-- Remove downstream container `t` (R142, R157). -/
def dropDownTrib (s : State) (t : Nat) : State :=
  let s := wrWord (wrWord s (R.DFR_TRIB_CFG t) 0) (R.DFR_TRIB_STATUS t) 0
  showTribFault { s with dfr := { s.dfr with tribs := Tab.del s.dfr.tribs t } } t

/-- What the receiver of a downstream container holds (R122). [DEDUCED: log 73] -/
def tribRx (s : State) (t : Nat) : TribRx := Tab.getD s.dfr.tribs t {}

/-- The containers of lane `p`, in order of their numbers. -/
def contsOn (s : State) (p : Nat) : List Nat :=
  (tribsOf s (lanePath p) F.DFR_TRIB_CFG_valid F.DFR_TRIB_CFG_path).filter
    (fun t => decide (get s (F.DFR_TRIB_CFG_chan t) = laneChan p))

/-- Show a container's defects (R127); its port sends local fault while one is reported (R125). -/
def showTrib (s : State) (p t : Nat) : State :=
  let x := tribRx s t
  let clean := laneActive s p && !hardDefect s p
  let lop := clean && x.lopDet
  let ais := clean && x.aisDet && !x.lopDet
  showTribFault (putB (putB s (F.DFR_TRIB_STATUS_lop t) lop) (F.DFR_TRIB_STATUS_ais_t t) ais) t

end Sys2Proof.Machine
end

