-- ==== Sys2Proof/Machine/Coding.lean ====
section
/-!
DEFINITION. The coding of the line (R88, R89, R110, R111, R166 to R169): PAM4 symbols with precoding, the RS(544,514) code, the
pseudo-random sequences, the light of an upstream burst, and what a receiver makes of downstream light before its FEC.
-/
namespace Sys2Proof.Machine

/-! ### PAM4 symbols (R88, R89) -/

/-- The Gray value of a bit pair, the bit sent first being the more significant one (R88). -/
def grayOf (hi lo : Bool) : Nat := 2 * b2n hi + b2n (hi != lo)

/-- The bits of a Gray value, the more significant one first (R88). -/
def grayBits (g : Nat) : List Bool := [decide (2 ≤ g), decide (g = 1) || decide (g = 2)]

/-- The Gray values of a bit string, pair by pair. -/
def graysOf : List Bool → List Nat
  | a :: b :: rest => grayOf a b :: graysOf rest
  | _ => []

/-- The precoder after value `p` (R89): each value is what added to the one before gives the Gray value, modulo 4. -/
def precode (p : Nat) : List Nat → List Nat
  | [] => []
  | g :: rest => let v := (g + 4 - p % 4) % 4; v :: precode v rest

/-- The receiver's inverse of `precode` (R89). -/
def unprecode (p : Nat) : List Nat → List Nat
  | [] => []
  | v :: rest => (v + p) % 4 :: unprecode v rest

/-- The level of a value (R89). -/
def pamLevel (v : Nat) : Int := 2 * (v : Int) - 3

/-- The value of a level. -/
def pamValue (l : Int) : Nat := ((l + 3) / 2).toNat

/-- The levels of a burst's Gray values, with precoding on or off; P(−1) is 0 (R89). -/
def levelsOf (pre : Bool) (gs : List Nat) : List Int := (if pre then precode 0 gs else gs).map pamLevel

/-- The bits that a receiver recovers from levels, `p` being the value before them (R88, R89). -/
def bitsOfLevels (pre : Bool) (p : Nat) (ls : List Int) : List Bool :=
  let vs := ls.map pamValue
  (if pre then unprecode p vs else vs).flatMap grayBits

/-! ### Bits of symbols and bytes (R10, R110) -/

/-- The low `n` bits of `v`, most significant first. -/
def bitsMsb (n v : Nat) : List Bool := (List.range n).map (fun i => bit v (n - 1 - i))

/-- The value of bits, most significant first. -/
def valueMsb (l : List Bool) : Nat := l.foldl (fun a b => 2 * a + b2n b) 0

/-- The bits of bytes, in the order of transmission (R10). -/
def byteBits (bs : List Byte) : List Bool := bs.flatMap (fun b => bitsMsb 8 b.toNat)

/-- `n` symbols of ten bits each (R110). -/
def tenBits (n : Nat) (l : List Bool) : List Nat := match n with
  | 0 => []
  | n + 1 => valueMsb (l.take 10) :: tenBits n (l.drop 10)

/-! ### Pseudo-random sequences (R111, R167) -/

/-- `n` bits of the sequence in which each bit is the sum of the bits that lie `taps` places before it; `st` holds the bits before,
newest first. -/
def prbs (taps : List Nat) (st : List Bool) (n : Nat) : List Bool := match n with
  | 0 => []
  | n + 1 =>
    let b := taps.foldl (fun x t => x != st.getD (t - 1) false) false
    b :: prbs taps (b :: st.dropLast) n

/-- A sequence seeded with all ones, whose polynomial has the exponents `taps`, the first being its degree. The first bit out is the
first one that the ones produce. [DEDUCED: log 196] -/
def prbsOnes (taps : List Nat) (n : Nat) : List Bool := prbs taps (List.replicate (taps.headD 0) true) n

/-- The scrambler of R111: x³¹ + x²⁸ + 1. [DEDUCED: log 196] -/
def scrambler (n : Nat) : List Bool := prbsOnes [31, 28] n

/-- Bits XORed with the scrambler from its seed on (R111, R169). -/
def scramble (l : List Bool) : List Bool := List.zipWith (fun a b => a != b) l (scrambler l.length)

/-! ### RS(544,514) (R110) -/

/-- Multiplication by x in GF(2¹⁰), x¹⁰ + x³ + 1 being the field polynomial of IEEE 802.3 Clause 91. [PRESUMED: log 197] -/
def gfX (a : Nat) : Nat := if 512 ≤ a then (2 * a) ^^^ 0x409 else 2 * a

/-- The product of two field elements, from bit `n - 1` of `b` down. -/
def gfMulFrom (a b n : Nat) : Nat := match n with
  | 0 => 0
  | n + 1 => gfX (gfMulFrom a (b / 2) n) ^^^ (if b % 2 = 1 then a else 0)
def gfMul (a b : Nat) : Nat := gfMulFrom a b 10

/-- α^n, α being x. -/
def gfPow (n : Nat) : Nat := match n with
  | 0 => 1
  | n + 1 => gfX (gfPow n)

/-- The sum of two polynomials of one length. -/
def gfAdd (a b : List Nat) : List Nat := List.zipWith (fun x y => x ^^^ y) a b

/-- The generator polynomial (x − 1)(x − α) … (x − α^(n−1)), highest power first. [PRESUMED: log 197] -/
def rsGenOf (n : Nat) : List Nat := match n with
  | 0 => [1]
  | n + 1 => gfAdd (rsGenOf n ++ [0]) (0 :: (rsGenOf n).map (gfMul (gfPow n)))

/-- The generator of the code without its leading 1. -/
def rsGen : List Nat := (rsGenOf 30).drop 1

/-- One information symbol through the parity register. -/
def rsStep (p : List Nat) (m : Nat) : List Nat :=
  let f := m ^^^ p.headD 0
  gfAdd (p.drop 1 ++ [0]) (rsGen.map (gfMul f))

/-- The 30 parity symbols of information symbols: leading zero symbols that are not sent change nothing (R169). -/
def rsParity (info : List Nat) : List Nat := info.foldl rsStep (List.replicate 30 0)

/-- A codeword: information symbols, then parity (R110). [PRESUMED: log 197] -/
def rsEncode (info : List Nat) : List Nat := info ++ rsParity info

/-- Whether symbols form a codeword. -/
def rsCodeword (l : List Nat) : Bool :=
  decide (30 ≤ l.length) && decide (rsParity (l.take (l.length - 30)) = l.drop (l.length - 30))

/-! ### The light of an upstream burst (R166 to R169) -/

/-- Information symbols of each codeword of a coded part of `sym` symbols (R169). -/
def codewordSizes (sym : Nat) : List Nat :=
  let r := sym % 2720
  List.replicate (sym / 2720) 514 ++ (if 155 ≤ r then [r / 5 - 30] else [])

/-- The codewords that information bits fill, one size after another; missing bits are zero (R171). -/
def codedBits (sizes : List Nat) (l : List Bool) : List Bool := match sizes with
  | [] => []
  | k :: rest =>
    let here := l.take (10 * k)
    let full := here ++ List.replicate (10 * k - here.length) false
    (rsEncode (tenBits k full)).flatMap (bitsMsb 10) ++ codedBits rest (l.drop (10 * k))

/-- The preamble of `plen` symbols of a kind, as Gray values (R167). -/
def preambleGrays (kind plen : Nat) : List Nat := match kind with
  | 1 => graysOf (prbsOnes [9, 5] (2 * plen))
  | 2 => graysOf (prbsOnes [13, 12, 2, 1] (2 * plen))
  | _ => List.replicate plen 3

/-- The delimiter (R168). -/
def delimiter : Nat := 0x3B0E97D264C8A15F0DE62B9471A3C85E
def delimiterGrays : List Nat := graysOf (bitsMsb 128 delimiter)

/-- A part of a burst's coded part: the sizes of its codewords and its information bytes. -/
abbrev CodedPart := List Nat × List Byte

/-- The scrambled bits of a burst's coded part (R169). -/
def codedPart (parts : List CodedPart) : List Bool := scramble (parts.flatMap (fun p => codedBits p.1 (byteBits p.2)))

/-- The Gray values of a burst after its guard (R166). -/
def burstGrays (kind plen : Nat) (parts : List CodedPart) : List Nat :=
  preambleGrays kind plen ++ delimiterGrays ++ graysOf (codedPart parts)

/-- The levels of a burst on the fibre, from its first preamble symbol on (R89, R166). -/
def burstLevels (pre : Bool) (kind plen : Nat) (parts : List CodedPart) : List Int := levelsOf pre (burstGrays kind plen parts)

/-! ### A downstream frame (R110, R111) -/

/-- The sync symbols (R111). -/
def syncSymbols : List Nat := [0x31E, 0x0A7, 0x2D4, 0x1B9, 0x36C, 0x053, 0x2E1, 0x18F, 0x3C5, 0x07A, 0x25B, 0x1D2]

/-- The transmitted symbols of a group of four codewords: symbol k is symbol ⌊k/4⌋ of codeword k mod 4 (R110). -/
def interleave (group : List (List Nat)) : List Nat :=
  (List.range 2176).map (fun k => (group.getD (k % 4) []).getD (k / 4) 0)

/-- The codewords of a group of transmitted symbols. -/
def deinterleave (l : List Nat) : List (List Nat) :=
  (List.range 4).map (fun c => (List.range 544).map (fun k => l.getD (4 * k + c) 0))

/-- Whether transmitted symbol `k` of a frame is a sync symbol (R111). -/
def isSync (k : Nat) : Bool := decide (k % 4 = 0) && decide (k ≤ 44)

/-- A frame's transmitted symbols XORed with the scrambler, which rests over the sync symbols (R111); `k` counts symbols and `seq` is
what is left of the sequence. -/
def frameScramble (k : Nat) (seq : List Bool) : List Nat → List Nat
  | [] => []
  | x :: rest =>
    if isSync k then x :: frameScramble (k + 1) seq rest
    else (x ^^^ valueMsb (seq.take 10)) :: frameScramble (k + 1) (seq.drop 10) rest

/-- What a receive lane hands to its FEC from the levels of one frame, `p` being the value before them: the 5,000 codewords as they were
received (R88, R89, R110, R111). -/
def frameCodewords (pre : Bool) (p : Nat) (levels : List Int) : List (List Nat) :=
  let sent := tenBits 2720000 (bitsOfLevels pre p levels)
  let plain := frameScramble 0 (scrambler (10 * 2719988)) sent
  (List.range 1250).flatMap (fun g => deinterleave ((plain.drop (2176 * g)).take 2176))

end Sys2Proof.Machine
end

