-- ==== Sys2Proof/Machine/Alarm.lean ====
section
/-!
DEFINITION. Line-time alarms (R42 to R44): arming, disarming, locking. What a fired alarm does is in AlarmFire.
-/
namespace Sys2Proof.Machine
open Sys2Proof

/-- Timebase of alarm `k`: 0 module line time, 1 path A, 2 path B (R42). [DESIGN CHOICE: log 189] -/
def alarmBase (s : State) (k : Nat) : Nat :=
  if k < 64 then 1 else if k < 128 then 2 else if k < 200 then 0 else get s (F.LTU_ALM_CTRL_timebase k)

/-- The time of alarm `k` in codewords. [DEDUCED: log 26] -/
def alarmAt (s : State) (k : Nat) : Nat := cwCount (get s (F.LTU_ALM_FN_fn k)) (get s (F.LTU_ALM_CTRL_cw k))

/-- Now on timebase `b`, in codewords; `none` while that time is not valid (R41). -/
def baseNow (s : State) (b : Nat) : Option Nat :=
  if b = 0 then (if ltValid s then some (cwCount (modFn s) (modCw s)) else none)
  else
    let q := pathOf (b - 1)
    if pathLocked s q then some (cwCount (pathTime s q).fn (pathTime s q).cw) else none

/-- Alarm states of LTU_ALM_STATUS. -/
def alarmState (s : State) (k : Nat) : Nat := get s (F.LTU_ALM_STATUS_state k)

/-- Whether alarm `k` is armed or locked. -/
def alarmArmed (s : State) (k : Nat) : Bool := decide (alarmState s k = 1) || decide (alarmState s k = 2)

/-- Put the result of an arm or disarm. -/
def alarmResult (s : State) (k c : Nat) : State := put s (F.LTU_ALM_STATUS_result k) c

/-- Result codes of R41 and R43. -/
def almOk : Nat := 0
def almLate : Nat := 1
def almLocked : Nat := 2
def almClass : Nat := 3
def almPathDown : Nat := 4
def almNoTime : Nat := 5
def almRenumbered : Nat := 6
def almRange : Nat := 7

/-- An arm that is refused with result `c` (R41, R43): the alarm is not armed and does not fire, whatever it was before. -/
def alarmRefused (s : State) (k c : Nat) : State :=
  alarmResult (if alarmArmed s k then put s (F.LTU_ALM_STATUS_state k) 0 else s) k c

/-- Arm alarm `k` from its fn and cw fields (R41, R43): RANGE, NO_TIME or PATH_DOWN, LATE_ARM, or armed. [DESIGN CHOICE: log 231] -/
def armNow (s : State) (k : Nat) : State :=
  if 4999 < get s (F.LTU_ALM_CTRL_cw k) ∨ (200 ≤ k ∧ get s (F.LTU_ALM_CTRL_timebase k) = 3) then alarmRefused s k almRange
  else
    match baseNow s (alarmBase s k) with
    | none => alarmRefused s k (if alarmBase s k = 0 then almNoTime else almPathDown)
    | some now =>
      if alarmAt s k < now + 2 then alarmRefused s k almLate
      else alarmResult (putB (put s (F.LTU_ALM_STATUS_state k) 1) (F.LTU_ALM_STATUS_late k) false) k almOk

/-- An owner's arm of alarm `k` for `fn:cw`, every `period` frames (R42). [DEDUCED: log 26] -/
def armAt (s : State) (k fn cw period : Nat) : State :=
  let s := put (put s (F.LTU_ALM_FN_fn k) fn) (F.LTU_ALM_CTRL_cw k) cw
  armNow (put s (F.LTU_ALM_CTRL_period k) period) k

/-- Disarm alarm `k` with result `c`. -/
def disarm (s : State) (k c : Nat) : State :=
  if alarmArmed s k then alarmResult (put s (F.LTU_ALM_STATUS_state k) 0) k c else s

/-- Whether the host, the policy firmware and the warden may write alarm `k` (R42). [DEDUCED: log 25] -/
def alarmOpen (k : Nat) : Bool := (decide (133 ≤ k) && decide (k ≤ 135)) || decide (200 ≤ k)

/-- A requester's write of LTU_ALM_CTRL[k] with arm set (R42, R43). Below P1 the manual gives no right to write it. [DEDUCED: log 25] -/
def alarmArm (r : Requester) (k : Nat) (ctrl : Word) (s : State) : State :=
  onWrite s r (R.LTU_ALM_CTRL k) fun s =>
    if !alarmOpen k || !isP1 r then alarmResult s k almClass
    else if alarmState s k = 2 then alarmResult s k almLocked
    else
      let w := ctrl.toNat
      let s := put (put s (F.LTU_ALM_CTRL_cw k) (bits w 0 13)) (F.LTU_ALM_CTRL_period k) (bits w 16 16)
      let s := if 200 ≤ k then put s (F.LTU_ALM_CTRL_timebase k) (bits w 13 2) else s
      armNow s k

/-- A requester's write of LTU_ALM_STATUS[k].disarm (R42, R43). [DEDUCED: log 25] -/
def alarmDisarm (r : Requester) (k : Nat) (s : State) : State :=
  onWrite s r (R.LTU_ALM_STATUS k) fun s =>
    if !alarmOpen k || !isP1 r then alarmResult s k almClass
    else if alarmState s k = 2 then alarmResult s k almLocked
    else disarm s k almOk

/-- Timebase `b` has reached codeword count `c`: an event that the line-time dispatcher reports names its own time, so the
time moves up to it when it is behind (R43). [DESIGN CHOICE: log 13] -/
def reach (s : State) (b c : Nat) : State :=
  match baseNow s b with
  | none => s
  | some now =>
    if c ≤ now then s
    else if b = 0 then put (put s F.LTU_FN_fn (c / 5000)) F.LTU_CW_cw (c % 5000)
    else setPathTime s (pathOf (b - 1)) { fn := c / 5000, cw := c % 5000, sub := 0 }

/-- ALARM_ARM (R41 to R43). -/
def execAlarmArm (r : Requester) (k : Fin 256) (ctrl : Word) (s : State) : Host.Outcome State Fault Refusal :=
  finish s (alarmArm r k.val ctrl s)

/-- ALARM_DISARM (R42, R43). -/
def execAlarmDisarm (r : Requester) (k : Fin 256) (s : State) : Host.Outcome State Fault Refusal :=
  finish s (alarmDisarm r k.val s)

/-- ALARM_LOCK (R43): an armed alarm locks 2 codewords before its time. -/
def execAlarmLock (k : Fin 256) (s : State) : Host.Outcome State Fault Refusal :=
  finish s (if alarmState s k.val = 1 then
    put (reach s (alarmBase s k.val) (alarmAt s k.val - 2)) (F.LTU_ALM_STATUS_state k.val) 2 else s)

end Sys2Proof.Machine
end

