-- ==== Sys2Proof/Machine/Banks.lean ====
section
/-!
DEFINITION. The two configuration banks (R58): which is active, how a value is read in either, and which of them a write
reaches (R61, R62).
-/
namespace Sys2Proof.Machine
open Sys2Proof

/-- EPC states (EPC_STATUS.state). -/
def epcState (s : State) : Nat := get s F.EPC_STATUS_state
def epcIdle : Nat := 0
def epcStaging : Nat := 1
def epcArmed : Nat := 2
def epcCommitting : Nat := 3
def epcDraining : Nat := 4
def epcDone : Nat := 5

/-- Whether Ochre is the active bank (R58). -/
def activeBank (s : State) : Bool := getB s F.EPC_STATUS_active_bank

/-- Whether section `i` is loaded in the staged bank (R57). -/
def isLoaded (s : State) (i : Nat) : Bool := bit (get s F.EPC_LOADED_sections) (i - 1)

/-- Mark section `i` as loaded (R57, R61). -/
def setLoaded (s : State) (i : Nat) : State :=
  put s F.EPC_LOADED_sections (get s F.EPC_LOADED_sections ||| 2 ^ (i - 1))

/-! ### A bank as data: its register words and its tables -/

/-- A register word of a bank. -/
def cfgWord (c : Cfg) (a : Nat) : Word := (Tab.find c.regs a).getD (resetWord a)

/-- Put a register word into a bank. -/
def cfgPutWord (c : Cfg) (a : Nat) (v : Word) : Cfg :=
  { c with regs := if v = resetWord a then Tab.del c.regs a else Tab.set c.regs a v }

/-- A field of a bank. -/
def cfgGet (c : Cfg) (f : Fld) : Nat :=
  if f.lo + f.w ≤ 32 then bits (cfgWord c f.addr).toNat f.lo f.w
  else bits ((cfgWord c f.addr).toNat + 2 ^ 32 * (cfgWord c (f.addr + 4)).toNat) f.lo f.w

/-- Put a field into a bank. -/
def cfgPut (c : Cfg) (f : Fld) (v : Nat) : Cfg :=
  if f.lo + f.w ≤ 32 then cfgPutWord c f.addr (BitVec.ofNat 32 (setBits (cfgWord c f.addr).toNat f.lo f.w v))
  else
    let x := setBits ((cfgWord c f.addr).toNat + 2 ^ 32 * (cfgWord c (f.addr + 4)).toNat) f.lo f.w v
    cfgPutWord (cfgPutWord c f.addr (BitVec.ofNat 32 x)) (f.addr + 4) (BitVec.ofNat 32 (x / 2 ^ 32))

/-- Change the tables of a bank. -/
def cfgBank (c : Cfg) (f : Bank → Bank) : Cfg := { c with bank := f c.bank }

/-- The active bank as data (the register file beside it holds every other register too). -/
def activeCfg (s : State) : Cfg := { regs := s.regs, bank := s.bank }

/-- Change the other bank. -/
def modOther (s : State) (f : Cfg → Cfg) : State := { s with other := f s.other }

/-- A register word and a field of the other bank. -/
def otherWord (s : State) (a : Nat) : Word := cfgWord s.other a
def getOther (s : State) (f : Fld) : Nat := cfgGet s.other f

/-- Put a field into the other bank. -/
def putOther (s : State) (f : Fld) (v : Nat) : State := modOther s (fun c => cfgPut c f v)

/-! ### Moving a part of one bank into another -/

/-- The bits of the register word at `a` that lie in fields chosen by `sel`, as (lowest bit, width) in the word. -/
def wordFields (a : Nat) (sel : RegRow → FieldRow → Bool) : List (Nat × Nat) :=
  match regRowAt a with
  | none => []
  | some (r, h) => r.fields.filterMap (fun f =>
      let lo := max f.lo (8 * h)
      let hi := min (f.lo + f.w) (8 * h + 32)
      if sel r f && decide (lo < hi) then some (lo - 8 * h, hi - lo) else none)

/-- The word `old` with the chosen fields taken from `new`. -/
def mergeWord (fields : List (Nat × Nat)) (old new : Word) : Word :=
  fields.foldl (fun w f => BitVec.ofNat 32 (setBits w.toNat f.1 f.2 (bits new.toNat f.1 f.2))) old

/-- The register words of `dst` with the chosen fields taken from `src`. Only words that either lists can differ. [DEDUCED: log 50] -/
def takeRegs (dst src : Cfg) (sel : Nat → RegRow → FieldRow → Bool) : Cfg :=
  (src.regs.map (fun e => e.1) ++ dst.regs.map (fun e => e.1)).foldl
    (fun c a =>
      let fs := wordFields a (sel a)
      if fs.isEmpty then c else cfgPutWord c a (mergeWord fs (cfgWord dst a) (cfgWord src a))) dst

/-- Whether the register at `a` is of the line region's blocks (R28), which switch at a path's own boundary (R67). -/
def isLineReg (a : Nat) : Bool := match spanAt a with
  | some p => decide (p.region = 4)
  | none => false

/-- The path a line register belongs to, by its outermost index: a lane pair or a path; `none` for a register that both
paths share. -/
def lineRegPath (a : Nat) (r : RegRow) : Option Path := match r.dims with
  | (128, st) :: _ => some (lanePath ((a - r.base) / st))
  | (2, st) :: _ => some (pathOf ((a - r.base) / st))
  | _ => none

/-- The path of a field of a register that holds one field for each (BND_POOL, BND_AID_GROUP): path A's lies below bit 8 (R206). -/
def lineFieldPath (a : Nat) (r : RegRow) (f : FieldRow) : Option Path :=
  if r.base = R.BND_POOL ∨ r.base = R.BND_AID_GROUP 0 then some (if f.lo < 8 then .a else .b) else lineRegPath a r

/-- Section `i` is in the mask `m` of sections. -/
def inSecs (m i : Nat) : Bool := decide (0 < i) && bit m (i - 1)

/-- The tables of the sections in `m` that control-region and packet-region blocks use (R67). -/
def takeTables (m : Nat) (dst src : Bank) : Bank :=
  let pick {α : Type} (i : Nat) (new old : α) : α := if inSecs m i then new else old
  { dst with
      downPort := pick 1 src.downPort dst.downPort
      upPort := pick 1 src.upPort dst.upPort
      graph := pick 6 src.graph dst.graph
      ruled := pick 8 src.ruled dst.ruled
      acts := pick 8 src.acts dst.acts
      tern := pick 8 src.tern dst.tern
      nodes := pick 9 src.nodes dst.nodes
      queues := pick 9 src.queues dst.queues
      meters := pick 0xA src.meters dst.meters
      owned := pick 0xB src.owned dst.owned
      timePorts := pick 0xE src.timePorts dst.timePorts
      owners := pick 0xB src.owners dst.owners
      qowner := pick 0xB src.qowner dst.qowner
      pwrInit := pick 0xF src.pwrInit dst.pwrInit
      nSched := pick 0xF src.nSched dst.nSched
      rateLimit := pick 0x10 src.rateLimit dst.rateLimit
      ctrs := pick 0x10 src.ctrs dst.ctrs
      windows := pick 0x11 src.windows dst.windows }

/-- The tables of the sections in `m` that line blocks use (R67). The SID filter is kept per path; the rest is shared. -/
def takeLineTables (m : Nat) (q : Path) (shared : Bool) (dst src : Bank) : Bank :=
  let pick {α : Type} (i : Nat) (new old : α) : α := if shared && inSecs m i then new else old
  let mine := fun k => decide (k / 32768 = qn q)
  { dst with
      linePaths := if inSecs m 2 then setBits dst.linePaths (qn q) 1 (src.linePaths / 2 ^ qn q) else dst.linePaths
      lineInit := if inSecs m 2 then
          (Tab.keep src.lineInit (fun p => decide (lanePath p = q))).foldl (fun t e => Tab.set t e.1 e.2)
            (Tab.keep dst.lineInit (fun p => decide (lanePath p ≠ q)))
        else dst.lineInit
      sidFilter := if inSecs m 5 then
          (Tab.keep src.sidFilter mine).foldl (fun t e => Tab.set t e.1 e.2) (Tab.keep dst.sidFilter (fun k => !mine k))
        else dst.sidFilter
      mergeOf := pick 4 src.mergeOf dst.mergeOf
      roots := pick 5 src.roots dst.roots
      sids := pick 5 src.sids dst.sids
      qbind := pick 5 src.qbind dst.qbind
      crypt := pick 0xD src.crypt dst.crypt }

/-- `dst` with all that the sections in `m` give control-region and packet-region blocks taken from `src`. -/
def takeCfg (m : Nat) (dst src : Cfg) : Cfg :=
  let c := takeRegs dst src (fun a _ f => inSecs m f.sec && !isLineReg a)
  { c with bank := takeTables m dst.bank src.bank }

/-- `dst` with all that the sections in `m` give the line blocks of path `q` taken from `src`; `shared` also what both paths
share. [DEDUCED: log 43] -/
def takeLine (m : Nat) (q : Path) (shared : Bool) (dst src : Cfg) : Cfg :=
  let c := takeRegs dst src (fun a r f => inSecs m f.sec && isLineReg a &&
    (match lineFieldPath a r f with
      | some p => decide (p = q)
      | none => shared))
  { c with bank := takeLineTables m q shared dst.bank src.bank }

/-- Every section. -/
def allSecs : Nat := 2 ^ 18 - 1

/-- Put a bank's parts back as the active one. -/
def setActive (s : State) (c : Cfg) : State := { s with regs := c.regs, bank := c.bank }

/-- The tables of the bank that an epoch tag names (R71). -/
def tagBank (s : State) (tag : Bool) : Bank := if tag = activeBank s then s.bank else s.other.bank

/-- A field of the bank that an epoch tag names (R71). -/
def tagGet (s : State) (tag : Bool) (f : Fld) : Nat := if tag = activeBank s then get s f else getOther s f

/-- The configuration under which the line blocks of a path work in path frame `fn` (R67 to R69): the staged one from the commit FN on
while a commit is ARMED, the one before the last commit for frames before its FN, and the committed one from then on. [DEDUCED: log 43, 198] -/
def lineCfgAt (s : State) (q : Path) (fn : Nat) : Cfg :=
  let due := match q with
    | .a => s.epc.lineDueA
    | .b => s.epc.lineDueB
  if epcState s = epcArmed ∧ get s (F.LTU_ALM_FN_fn 128) ≤ fn then s.other
  else if fn < s.epc.atFn then s.lineOld
  else if due then s.lineCfg
  else activeCfg s

/-- Change the tables of the active bank, and of the other one while section `i` is not loaded (R62). A path whose line
blocks have still to switch takes the change with the switch. [DEDUCED: log 50] -/
def modBanks (s : State) (i : Nat) (f : Bank → Bank) : State :=
  let s := if isLoaded s i then s else modOther s (fun c => cfgBank c f)
  { s with bank := f s.bank, lineCfg := cfgBank s.lineCfg f, lineOld := cfgBank s.lineOld f }

/-- Change the tables of the staged bank by a staged write, which loads section `i` (R61). -/
def modStaged (s : State) (i : Nat) (f : Bank → Bank) : State :=
  setLoaded { s with other := { s.other with bank := f s.other.bank } } i

/-- An expert value of a field of section `i`: into the active bank, and the other one while the section is not loaded
(R62). [DEDUCED: log 53] -/
def putExpert (s : State) (i : Nat) (f : Fld) (v : Nat) : State :=
  let s := put (if isLoaded s i then s else putOther s f v) f v
  { s with lineCfg := cfgPut s.lineCfg f v, lineOld := cfgPut s.lineOld f v }

end Sys2Proof.Machine
end

