-- ==== Sys2Proof/Machine/HifTx.lean ====
section
/-!
DEFINITION. Write-back of transmit descriptors and the signalling of rings (R395, R398, R404, R405), which every block
that decides a host frame's fate needs.
-/
namespace Sys2Proof.Machine
open Sys2Proof

/-- Descriptors in a ring of the given log₂ size (R395). -/
def ringLen (log2 : Nat) : Nat := 2 ^ log2

/-- Owner of a transmit or receive ring: a function, or 0xFF (R395). -/
def txOwner (s : State) (t : Nat) : Nat := get s (F.ACW_TX_OWNER_fn t)
def rxOwner (s : State) (r : Nat) : Nat := get s (F.ACW_RX_OWNER_fn r)

/-- A write-back of ring source `src` that is not yet signalled: raise the ring's vector at every `n`th (R405). [DEDUCED: log 113] -/
def coalesce (s : State) (src owner n : Nat) : State :=
  let c := Tab.getD s.hif.coal src 0 + 1
  if n ≤ c then deliverOwned { s with hif := { s.hif with coal := Tab.del s.hif.coal src } } src owner
  else { s with hif := { s.hif with coal := Tab.set s.hif.coal src c } }

/-- The flights of a ring that its head can pass, in ring order (R398): the leading ones whose done bit is set. -/
def passable (l : List TxFlight) (t : Nat) : Nat :=
  match l with
  | [] => 0
  | f :: rest => if f.ring = t ∧ !f.dead then (if f.done then 1 + passable rest t else 0) else passable rest t

/-- Remove the first `k` live flights of ring `t`. -/
def dropFlights (l : List TxFlight) (t k : Nat) : List TxFlight :=
  match l with
  | [] => []
  | f :: rest =>
    if k = 0 then f :: rest
    else if f.ring = t ∧ !f.dead then dropFlights rest t (k - 1) else f :: dropFlights rest t k

/-- Advance a transmit ring's head over done descriptors, in ring order (R398). [DEDUCED: log 114] -/
def advanceHead (s : State) (t : Nat) : State :=
  let k := passable s.hif.inFlight t
  let s := { s with hif := { s.hif with inFlight := dropFlights s.hif.inFlight t k } }
  put s (F.HIF_TX_HEAD_index t) ((get s (F.HIF_TX_HEAD_index t) + k) % ringLen (get s (F.HIF_TX_SIZE_log2 t)))

/-- Write back the descriptor of flight `r` (R396, R398): timestamp, status and flags; once, and not for a ring that has
been stopped since (R403). -/
def writeBack (s : State) (r : TxRef) (ts status : Nat) (valid stale timedOut : Bool) : State :=
  match s.hif.inFlight.find? (fun f => decide (f.ring = r.ring) && decide (f.tag = r.tag) && !f.done) with
  | none => s
  | some f =>
    if f.dead then
      { s with hif := { s.hif with inFlight := s.hif.inFlight.filter (fun g => decide (g ≠ f)) } }
    else
      let wb := 1 + 2 * b2n valid + 4 * b2n stale + 8 * b2n timedOut
      let s := emit s (.hostWrite (txOwner s r.ring) (f.addr + 16) (leBytes 4 (if valid then ts else 0) ++ leBytes 1 status ++ leBytes 1 wb))
      let s := { s with hif := { s.hif with
        inFlight := s.hif.inFlight.map (fun g => if g = f then { g with done := true } else g) } }
      coalesce (advanceHead s r.ring) r.ring (txOwner s r.ring) (get s (F.HIF_TX_CFG_coal_n r.ring))

/-- The fate of a frame that may come from a host ring (R398): its status and, if it left by a timestamped point, its time
and stale mark. -/
def fate (s : State) (tx : Option TxRef) (status : Nat) (ts : Option (Nat × Bool)) : State :=
  match tx with
  | none => s
  | some r => match ts with
    | some (v, stale) => writeBack s r v status true stale false
    | none => writeBack s r 0 status false false false

end Sys2Proof.Machine
end

