-- ==== Sys2Proof/Machine/Bpm.lean ====
section
/-!
DEFINITION. The buffer pool (R321 to R335): allocation under the owners' limits, references, pool levels and
backpressure, migration between the tiers, handle operations.
-/
namespace Sys2Proof.Machine
open Sys2Proof

/-! ### Buffers, owners and pools -/

/-- Change a region's buffer manager. -/
def modBpm (s : State) (n : Nat) (f : Bpm → Bpm) : State := modPkt s n (fun p => { p with bpm := f p.bpm })

/-- A buffer of region `n`. -/
def bufOf (s : State) (n b : Nat) : Option Buf := Tab.find (pkt s n).bpm.bufs b

/-- The bytes of a buffer; none where it is gone. -/
def bufBytes (s : State) (n b : Nat) : List Byte := match bufOf s n b with
  | some x => x.bytes
  | none => []

/-- An owner's settings in the active bank; an owner that OWNERS does not name is disabled (R341). -/
def ownCfg (s : State) (n o : Nat) : OwnCfg := Tab.getD s.bank.owners (1024 * n + o) {}

/-- The local owner of a queue (R326). -/
def queueOwner (s : State) (n q : Nat) : Nat := Tab.getD s.bank.qowner (16384 * n + q) 0

/-- An owner's charge in tier `t` (R326). -/
def ownUse (s : State) (n o t : Nat) : Nat := Tab.getD (pkt s n).bpm.use (4 * o + t) 0

/-- Units of tier `t` in use, and in the pool (R321). -/
def poolUse (s : State) (n t : Nat) : Nat := get s (F.BPM_POOL_USE_units n t)
def poolSize (s : State) (n t : Nat) : Nat := get s (F.BPM_POOL_SIZE_units n t)

/-- Free units of tier `t`: neither in use nor quarantined (R338). -/
def poolFree (s : State) (n t : Nat) : Nat := poolSize s n t - poolUse s n t - get s (F.MEM_QUAR_units n t)

/-- Bytes in a unit of tier `t` (R321). -/
def unitBytes (t : Nat) : Nat := if t = 0 then 256 else if t = 1 then 4096 else 65536

/-- Cells of a tier-0 buffer of `len` bytes (R322). -/
def cellsOf (len : Nat) : Nat := max 1 ((len + 255) / 256)

/-- The field of a pool's level (R328): 0 below Tint, 1 Tint, 2 Tone, 3 Shade. -/
def lvlField (n t : Nat) : Fld :=
  if t = 0 then F.BPM_STATUS_lvl0 n else if t = 1 then F.BPM_STATUS_lvl1 n else F.BPM_STATUS_lvl2 n
def poolLevel (s : State) (n t : Nat) : Nat := get s (lvlField n t)

/-! ### Levels and backpressure (R328, R329) -/

/-- Whether a threshold of `pct` percent holds for a pool: reached, or reached before and not yet left (R328). [DEDUCED: log 94] -/
def thrHolds (use size pct hyst : Nat) (was : Bool) : Bool :=
  decide (pct * size ≤ 100 * use) || (was && decide ((pct - hyst) * size ≤ 100 * use))

/-- The level of a pool whose level was `lv` (R328). A pool without thresholds (before any commit) or without units is
below Tint. -/
def levelOf (s : State) (n t lv : Nat) : Nat :=
  let size := poolSize s n t
  let use := poolUse s n t
  let h := get s (F.BPM_POOL_THR_hyst n t)
  if size = 0 ∨ get s (F.BPM_POOL_THR_shade n t) = 0 then 0
  else if thrHolds use size (get s (F.BPM_POOL_THR_shade n t)) h (decide (3 ≤ lv)) then 3
  else if thrHolds use size (get s (F.BPM_POOL_THR_tone n t)) h (decide (2 ≤ lv)) then 2
  else if thrHolds use size (get s (F.BPM_POOL_THR_tint n t)) h (decide (1 ≤ lv)) then 1 else 0

/-- Whether packet region `n`'s die throttles, so that its tier-0 pool counts as at Tone (R423). [DEDUCED: log 94] -/
def dieThrottles (s : State) (n : Nat) : Bool := if n < 2 then getB s F.PWR_THROTTLE_pd0 else getB s F.PWR_THROTTLE_pd1

/-- Whether the pool of tier `t` is at Tone, or treated as such (R329, R423). [DEDUCED: log 94] -/
def atTone (s : State) (n t : Nat) : Bool := decide (2 ≤ poolLevel s n t) || (decide (t = 0) && dieThrottles s n)

/-- The request of owner `o` on its port while a pool at Tone holds more of it than its reserve (R329). -/
def ownerReq (s : State) (n o : Nat) (c : OwnCfg) : Nat :=
  if c.fcEn && (List.range 3).any (fun t => atTone s n t && decide (c.res.getD t 0 < ownUse s n o t)) then
    (if c.fcPri = 0 ∨ get s (F.CMC_PORT_FC_mode n c.fcLane) = 1 then 256 else c.fcPri)
  else 0

/-- Bring every port's request to what its owners ask, combined bit by bit (R329). [DEDUCED: log 94] -/
def backpressure (s : State) (n : Nat) : State :=
  let os := s.bank.owners.filter (fun e => decide (e.1 / 1024 = n))
  let reqOf := fun l => os.foldl (fun a e => if e.2.fcLane = l then a ||| ownerReq s n (e.1 % 1024) e.2 else a) 0
  let s' := (List.range 32).foldl (fun t l => setReq t n l (reqOf l)) s
  putB s' (F.BPM_STATUS_tone_req n) ((List.range 32).any (fun l => decide (reqOf l ≠ 0)))

/-- Bring the level of tier `t` to its use, with the events of the thresholds newly reached (R328). -/
def updateLevel (s : State) (n t : Nat) : State :=
  let lv := poolLevel s n t
  let nv := levelOf s n t lv
  let s := put s (lvlField n t) nv
  let s := put s (F.BPM_STATUS_region_lvl n) (max (poolLevel s n 0) (max (poolLevel s n 1) (poolLevel s n 2)))
  let s := if lv < 1 ∧ 1 ≤ nv then raise s (F.BPM_EVENT_tint n) .grey t else s
  let s := if lv < 2 ∧ 2 ≤ nv then raise s (F.BPM_EVENT_tone n) .amber t else s
  let s := if lv < 3 ∧ 3 ≤ nv then raise s (F.BPM_EVENT_shade n) .crimson t else s
  if lv < 2 ∧ nv < 2 ∧ !dieThrottles s n then s else backpressure s n

/-- Charge `k` units of tier `t` to owner `o` and to the pool (R326). -/
def charge (s : State) (n o t k : Nat) : State :=
  let s := modBpm s n (fun b => { b with use := Tab.upd b.use (4 * o + t) 0 (· + k) })
  let s := put s (F.BPM_POOL_USE_units n t) (poolUse s n t + k)
  updateLevel (putMax s (F.BPM_POOL_PEAK_units n t) (poolUse s n t)) n t

/-- Release `k` units of tier `t` from owner `o` and from the pool. -/
def uncharge (s : State) (n o t k : Nat) : State :=
  let s := modBpm s n (fun b => { b with use := Tab.upd b.use (4 * o + t) 0 (· - k) })
  updateLevel (put s (F.BPM_POOL_USE_units n t) (poolUse s n t - k)) n t

/-- Move the charge of `k` units of tier `t` from owner `o` to owner `p`: the pool's use stays (R326). -/
def moveCharge (s : State) (n o p t k : Nat) : State :=
  updateLevel (modBpm s n (fun b => { b with use := Tab.upd (Tab.upd b.use (4 * o + t) 0 (· - k)) (4 * p + t) 0 (· + k) })) n t

/-! ### Allocation (R327) -/

/-- Put a number into a rising list. -/
def insertNat (x : Nat) (l : List Nat) : List Nat :=
  match l with
  | [] => [x]
  | y :: rest => if x < y then x :: y :: rest else if x = y then y :: rest else y :: insertNat x rest

/-- The `k`th number from `base` on that is not in the rising list `l`. -/
def nthFree (l : List Nat) (base k : Nat) : Nat :=
  match l with
  | [] => base + k
  | x :: rest => if x < base then nthFree rest base k else if k < x - base then base + k else nthFree rest (x + 1) (k - (x - base))

/-- A number below `size` that is not in `used`: which one, the manual leaves to the free list, so a free value picks. [DESIGN CHOICE: log 93] -/
def pickFree (s : State) (used : List Nat) (size : Nat) : Nat :=
  nthFree (used.foldl (fun a x => insertNat x a) []) 0 (freeVal s % max 1 (size - used.length))

/-- Bytes per tick of a Tone shaper, in 1/12,000 bytes (1 Mbit/s), and its depth (R329). -/
def toneDepth : Nat := 65536 * 12000
def toneTokens (s : State) (n o : Nat) : Nat :=
  let (v, at_) := Tab.getD (pkt s n).bpm.tone o (toneDepth, s.clk.ticks)
  min toneDepth (v + (ownCfg s n o).toneRate * (s.clk.ticks - at_))

/-- Whether an allocation of `len` bytes by owner `o` is under the Tone shaper now (R327 row 4). -/
def underTone (s : State) (n o : Nat) : Bool :=
  let c := ownCfg s n o
  atTone s n 0 && decide (c.res.getD 0 0 < ownUse s n o 0) && decide (c.toneRate ≠ 0)

/-- The first row of R327 that refuses tier-0 space for `len` bytes to owner `o`: its disposition code. -/
def admission (s : State) (n o len : Nat) : Option Nat :=
  let c := ownCfg s n o
  let u := ownUse s n o 0 + cellsOf len
  if (Tab.getD (pkt s n).bpm.faults o (0, false)).2 then some 0x45
  else if !c.en ∨ c.cap.getD 0 0 < u then some 0x43
  else if poolLevel s n 0 = 3 ∧ c.res.getD 0 0 < u then some 0x44
  else if underTone s n o && decide (toneTokens s n o < 12000 * len) then some 0x46
  else if poolFree s n 0 < cellsOf len then some 0x40
  else none

/-- Spend the Tone shaper's tokens of an admitted frame (R329). -/
def spendTone (s : State) (n o len : Nat) : State :=
  if underTone s n o then
    let v := toneTokens s n o - 12000 * len
    modBpm s n (fun b => { b with tone := Tab.set b.tone o (v, s.clk.ticks) })
  else s

/-- The cells of a buffer's chain (R322). -/
def Buf.chain (x : Buf) : List Nat := x.cell.toList ++ x.rest

/-- The cells in use or quarantined in tier 0. -/
def cellsUsed (s : State) (n : Nat) : List Nat := (pkt s n).bpm.bufs.flatMap (fun e => e.2.chain) ++ (pkt s n).bpm.quar0

/-- `k` cells of the free list (R322). [DESIGN CHOICE: log 93] -/
def pickCells (s : State) (n k : Nat) : State × List Nat :=
  (List.range k).foldl (fun (a : State × List Nat) _ =>
    (stepFree a.1, a.2 ++ [pickFree a.1 (a.2 ++ cellsUsed s n) (poolSize s n 0)])) (s, [])

/-- What identifies a buffer for the monitors (R445): its queue, where it has one. -/
def queueIds (q : Option Nat) : List (Nat × Nat) := q.toList.map (fun q => (2, q))

/-- Make a tier-0 buffer for owner `o` with one queue reference; its ID (R324). [DESIGN CHOICE: log 93] -/
def newBuf (s : State) (n o : Nat) (q : Option Nat) (bs : List Byte) : State × Nat :=
  let b := (pkt s n).bpm.nextBid
  let (s, cs) := pickCells s n (cellsOf bs.length)
  let x : Buf := {
    bytes := bs, owner := o, charged := o, queue := q, cell := cs.head?, rest := cs.tail, refQ := 1, at_ := s.clk.ticks }
  let s := modBpm s n (fun p => { p with bufs := Tab.set p.bufs b x, nextBid := b + 1 })
  (monIn (charge s n o 0 (cellsOf bs.length)) n 0x24 (queueIds q) bs.length, b)

/-- Decide and make an allocation of tier 0 (R327): the buffer's ID, or the code that refuses it. -/
def alloc (s : State) (n o : Nat) (q : Option Nat) (bs : List Byte) : State × Except Nat Nat :=
  match admission s n o bs.length with
  | some c => (s, .error c)
  | none =>
    let (s, b) := newBuf (spendTone s n o bs.length) n o q bs
    (s, .ok b)

/-- Count a frame that BPM discards (R339). -/
def bpmDiscard (s : State) (n code : Nat) : State := discard s (F.BPM_DISC_count n (code - 0x40)) code

/-- Count a frame of queue `q` that BPM discards (R339, R445). -/
def bpmDrop (s : State) (n q code : Nat) : State := discardOf s (F.BPM_DISC_count n (code - 0x40)) code [(2, q)]

/-! ### References (R324) -/

/-- The references of a buffer. -/
def Buf.refs (x : Buf) : Nat := x.refQ + x.refRet + x.refPin

/-- One frame fewer has a byte in unit `u` of tier `t`; at 0 the unit is freed (R322). -/
def unitRelease (s : State) (n t u : Nat) : State :=
  match Tab.find (pkt s n).bpm.units (2 ^ 24 * t + u) with
  | none => s
  | some m =>
    if 1 < m.count ∨ m.quarantined then
      modBpm s n (fun b => { b with units := Tab.set b.units (2 ^ 24 * t + u) { m with count := m.count - 1 } })
    else
      let s := modBpm s n (fun b => { b with
        units := Tab.del b.units (2 ^ 24 * t + u)
        open_ := b.open_.filter (fun e => !(decide (e.1 / 2 ^ 20 = t) && decide (e.2 = u))) })
      uncharge s n m.owner t 1

/-- Leave the space a buffer takes, in tier 0 or below. -/
def freeSpace (s : State) (n : Nat) (x : Buf) : State :=
  let s := match x.cell with
    | some _ => if x.poison then s else uncharge s n x.charged 0 (cellsOf x.bytes.length)
    | none => s
  match x.low with
  | some (t, us) => us.foldl (fun s u => unitRelease s n t u) s
  | none => s

/-- Put a buffer whose references have changed (R324, R326): free it at 0, a promotion that is on its way being abandoned (R340); move its
charge to the retention owner when only retention references remain. The charge of a poisoned chain is gone. -/
def settleBuf (s : State) (n b : Nat) (x : Buf) : State :=
  let s := modBpm s n (fun p => { p with bufs := Tab.set p.bufs b x })
  if x.refs = 0 then
    let s := modBpm s n (fun p => { p with
      bufs := Tab.del p.bufs b, want := p.want.filter (fun w => decide (w.2.2.2 ≠ b)) })
    monOut (freeSpace s n x) n 0x24 (queueIds x.queue) x.bytes.length
  else
    let ro := get s (F.BPM_RET_OWNER_owner n)
    if x.refQ = 0 ∧ x.refPin = 0 ∧ x.charged ≠ ro ∧ x.cell.isSome ∧ !x.poison then
      let k := cellsOf x.bytes.length
      let s := modBpm s n (fun p => { p with bufs := Tab.set p.bufs b { x with charged := ro } })
      moveCharge s n x.charged ro 0 k
    else s

/-- Release a queue, retention or pinning reference. -/
def relQ (s : State) (n b : Nat) : State := match bufOf s n b with
  | some x => settleBuf s n b { x with refQ := x.refQ - 1 }
  | none => s
def relRet (s : State) (n b : Nat) : State := match bufOf s n b with
  | some x => settleBuf s n b { x with refRet := x.refRet - 1 }
  | none => s
def relPin (s : State) (n b : Nat) : State := match bufOf s n b with
  | some x => settleBuf s n b { x with refPin := x.refPin - 1 }
  | none => s

/-- Take one more reference of a tier-0 buffer; `none` for a 256th (R324). -/
def takePin (s : State) (n b : Nat) : Option State := match bufOf s n b with
  | some x => if x.refs < 255 then some (settleBuf s n b { x with refPin := x.refPin + 1 }) else none
  | none => none
/-- [DEDUCED: log 81] -/
def takeRet (s : State) (n b : Nat) : Option State := match bufOf s n b with
  | some x => if x.refs < 255 then some (settleBuf s n b { x with refRet := x.refRet + 1 }) else none
  | none => none

/-- Put other bytes into buffer `b`, which stood as `x`, and give back the cells that they do not need (R326). [DEDUCED: log 201] -/
def rewriteBuf (s : State) (n b : Nat) (x : Buf) (bs : List Byte) : State :=
  let s := modBpm s n (fun p => { p with bufs := Tab.set p.bufs b { x with bytes := bs, rest := x.rest.take (cellsOf bs.length - 1) } })
  if x.cell.isSome ∧ !x.poison then uncharge s n x.charged 0 (cellsOf x.bytes.length - cellsOf bs.length) else s

/-- Release the reference that a queue entry holds. -/
def relEntry (s : State) (n : Nat) (f : QFrame) : State := if f.copy then relPin s n f.bid else relQ s n f.bid

/-! ### Migration (R332, R333) -/

/-- Whether a buffer may migrate (R325). -/
def movable (x : Buf) : Bool := decide (x.refPin = 0) && !x.poison

/-- The queue that buffer `b` is packed with, or where no queue holds it, the retention list of the AID that retains it (R221, R322). -/
def packList (s : State) (n b : Nat) (x : Buf) : Nat :=
  if x.refQ = 0 then
    match s.pth.aids.find? (fun e => e.2.retained.any (fun g => decide (g.region = n) && decide (g.handle = b))) with
    | some (a, _) => 16384 + a
    | none => x.queue.getD 0
  else x.queue.getD 0

/-- Whether owner `o` may take `k` more units of tier `t` (R327 rows 2, 3 and 5). [DEDUCED: log 95] -/
def lowAdmits (s : State) (n o t k : Nat) : Bool :=
  let c := ownCfg s n o
  let u := ownUse s n o t + k
  c.en && decide (u ≤ c.cap.getD t 0) && !(decide (poolLevel s n t = 3) && decide (c.res.getD t 0 < u)) &&
  decide (k ≤ poolFree s n t)

/-- Place `bs` at the end of the open unit of a list and in `k` new ones; the units it lies in. [DEDUCED: log 95] -/
def placeIn (s : State) (n o t list : Nat) (bs : List Byte) (fuel : Nat) : State × List Nat :=
  match fuel with
  | 0 => (s, [])
  | fuel + 1 =>
    if bs.isEmpty then (s, [])
    else
      let okey := 2 ^ 20 * t + list
      let (s, u) := match Tab.find (pkt s n).bpm.open_ okey with
        | some u => (s, u)
        | none =>
          let used := (pkt s n).bpm.units.filterMap (fun e => if e.1 / 2 ^ 24 = t then some (e.1 % 2 ^ 24) else none)
          let u := pickFree s used (poolSize s n t)
          let s := modBpm (stepFree s) n (fun b => { b with
            units := Tab.set b.units (2 ^ 24 * t + u) { owner := o }, open_ := Tab.set b.open_ okey u })
          (charge s n o t 1, u)
      let m := Tab.getD (pkt s n).bpm.units (2 ^ 24 * t + u) { owner := o }
      let take_ := bs.take (unitBytes t - m.bytes.length)
      let m := { m with bytes := m.bytes ++ take_, count := m.count + 1 }
      let closed := decide (unitBytes t ≤ m.bytes.length) || decide (255 ≤ m.count)
      let s := modBpm s n (fun b => { b with
        units := Tab.set b.units (2 ^ 24 * t + u) m
        open_ := if closed then Tab.del b.open_ okey else b.open_ })
      let (s, us) := placeIn s n o t list (bs.drop take_.length) fuel
      (s, u :: us)

/-- New units that `len` bytes of a list need in tier `t`. -/
def newUnits (s : State) (n t list len : Nat) : Nat :=
  let room := match Tab.find (pkt s n).bpm.open_ (2 ^ 20 * t + list) with
    | some u => unitBytes t - (Tab.getD (pkt s n).bpm.units (2 ^ 24 * t + u) { owner := 0 }).bytes.length
    | none => 0
  (len - room + unitBytes t - 1) / unitBytes t

/-- The counter of a migration into tier `t` from where the buffer lies (BPM_MIG). [DEDUCED: log 95] -/
def migIndex (x : Buf) (t : Nat) : Nat := if t = 1 then 0 else if x.cell.isSome then 1 else 2

/-- Move a buffer down into tier `t`, where that tier admits it (R332). [DEDUCED: log 95] -/
def demoteTo (s : State) (n b t : Nat) : Option State :=
  match bufOf s n b with
  | none => none
  | some x =>
    let k := newUnits s n t (packList s n b x) x.bytes.length
    if lowAdmits s n x.charged t k then
      let (s, us) := placeIn s n x.charged t (packList s n b x) x.bytes (x.bytes.length + 1)
      let s := addTo s (F.BPM_MIG_bytes n (migIndex x t)) x.bytes.length
      let s := modBpm s n (fun p => { p with bufs := Tab.set p.bufs b { x with cell := none, rest := [], low := some (t, us) } })
      some (freeSpace s n x)
    else none

/-- Move a buffer up into tier 0, where cells are free (R333). -/
def promote (s : State) (n b : Nat) : State :=
  match bufOf s n b with
  | none => s
  | some x => match x.low with
    | none => s
    | some (t, us) =>
      if x.poison ∨ poolFree s n 0 < cellsOf x.bytes.length then s
      else
        let (s, cs) := pickCells s n (cellsOf x.bytes.length)
        let s := addTo s (F.BPM_MIG_bytes n (if t = 1 then 3 else 4)) x.bytes.length
        let s := modBpm s n (fun p => { p with bufs := Tab.set p.bufs b { x with cell := cs.head?, rest := cs.tail, low := none } })
        let s := charge s n x.charged 0 (cellsOf x.bytes.length)
        us.foldl (fun s u => unitRelease s n t u) s

/-- The tier profile of an owner (R332): direct2, keep_head, age0 in ticks, age1 in ticks. -/
def profOf (s : State) (n o : Nat) : Bool × Nat × Nat × Nat :=
  let p := (ownCfg s n o).profile
  (getB s (F.BPM_PROF_CFG_direct2 n p), get s (F.BPM_PROF_HEAD_bytes n p),
    1500 * get s (F.BPM_PROF_AGE0_us n p), 1500000 * get s (F.BPM_PROF_AGE1_ms n p))

/-- Scan one buffer that lies `behind` bytes behind the head of its list, of which `keep` bytes at least stay in tier 0 (R332). [DEDUCED: log 95] -/
def scanBuf (s : State) (n b behind keep : Nat) : State :=
  match bufOf s n b with
  | none => s
  | some x =>
    let (direct2, _, age0, age1) := profOf s n x.charged
    let age := s.clk.ticks - x.at_
    if !movable x then s
    else match x.low with
      | none =>
        if age0 ≠ 0 ∧ age0 < age ∧ keep < behind then
          match (if direct2 then none else demoteTo s n b 1) with
          | some t => t
          | none => (demoteTo s n b 2).getD s
        else s
      | some (1, _) => if age1 ≠ 0 ∧ age1 < age then (demoteTo s n b 2).getD s else s
      | some _ => s

/-- Scan the frames of one queue, oldest first (R332). -/
def scanQueue (s : State) (n : Nat) (l : List QFrame) (behind : Nat) : State :=
  match l with
  | [] => s
  | f :: rest =>
    let keep := (bufOf s n f.bid).elim 0 (fun x => (profOf s n x.charged).2.1)
    scanQueue (scanBuf s n f.bid behind keep) n rest (behind + f.len)

/-- Whether a frame of a queue can be served: its data is in tier 0 (R27, R333). -/
def inTier0 (s : State) (n : Nat) (f : QFrame) : Bool := match bufOf s n f.bid with
  | some x => x.cell.isSome
  | none => true

/-- Bytes of the leading frames of a queue whose data is in tier 0. -/
def headBytes (s : State) (n : Nat) (l : List QFrame) : Nat :=
  match l with
  | [] => 0
  | f :: rest => if inTier0 s n f then f.len + headBytes s n rest else 0

/-! ### Handles (R323, R331) -/

/-- The 48-bit handle of tier-0 cell `c` of region `n`. [DESIGN CHOICE: log 93] -/
def handleOf (n c : Nat) : Nat := 2 ^ 44 * n + 256 * c

/-- The size of tier `t`'s address space in a region (R323). -/
def tierBytes (s : State) (n t : Nat) : Nat :=
  if t = 0 then 2 ^ 26 else if t = 1 then 38654705664 else get s (F.MEM_T2_SIZE_gib n) * 2 ^ 30

/-- The checks of R323: tier and unit number of a good handle. -/
def handleUnit (s : State) (n h : Nat) : Option (Nat × Nat) :=
  let t := bits h 46 2
  let a := bits h 0 40
  if t = 3 ∨ bits h 44 2 ≠ n ∨ bits h 40 4 ≠ 0 ∨ a % unitBytes t ≠ 0 ∨ tierBytes s n t ≤ a then none
  else some (t, a / unitBytes t)

/-- The buffer whose first cell is `c`. -/
def bufAt (s : State) (n c : Nat) : Option (Nat × Buf) :=
  (pkt s n).bpm.bufs.find? (fun e => decide (e.2.cell = some c))

/-- Put the result of a handle operation. -/
def hopResult (s : State) (n code count : Nat) : State :=
  put (putB (put s (F.BPM_HOP_RESULT_code n) code) (F.BPM_HOP_RESULT_busy n) false) (F.BPM_HOP_RESULT_count n) count

/-- A refused FREE (R331): an Amber event with the handle (arg2, and its high half in arg3) and both owners (arg1), of the named owner as
cell, and the named owner's fault counter, which suspends the owner when it passes fault_thr. [DEDUCED: log 96] -/
def freeRefused (s : State) (ev : Fld) (n named actual : Nat) : State :=
  let h := get s (F.BPM_HOP_HANDLE_handle n)
  let s := raiseWith (monEvent s ev []) ev (fun s code arg0 =>
    offerArgs s code .amber n 0x24 (named % 1024) [arg0, named + 4096 * actual, h % 2 ^ 32, h / 2 ^ 32])
  let r := named / 1024
  let o := named % 1024
  let (c, susp) := Tab.getD (pkt s r).bpm.faults o (0, false)
  let c := sat 255 (c + 1)
  let past := decide ((ownCfg s r o).faultThr < c)
  let s := modBpm s r (fun b => { b with faults := Tab.set b.faults o (c, susp || past) })
  if past && !susp then raiseAt s (F.BPM_EVENT_suspend r) .crimson o [] named else s

/-- FREE of the handle in BPM_HOP_HANDLE in the name of BPM_HOP_OWNER (R331). [DEDUCED: log 96] -/
def hopFree (s : State) (n : Nat) : State :=
  let named := get s (F.BPM_HOP_OWNER_owner n)
  match handleUnit s n (get s (F.BPM_HOP_HANDLE_handle n)) with
  | some (0, c) => match bufAt s n c with
    | some (b, x) =>
      if 1024 * n + x.owner ≠ named then
        hopResult (freeRefused s (F.BPM_EVENT_free_owner n) n named (1024 * n + x.owner)) n 2 x.refs
      else
        let y := if x.refPin ≠ 0 then { x with refPin := x.refPin - 1 }
          else if x.refQ ≠ 0 then { x with refQ := x.refQ - 1 } else { x with refRet := x.refRet - 1 }
        hopResult (settleBuf s n b y) n 0 y.refs
    | none => hopResult (freeRefused s (F.BPM_EVENT_double_free n) n named 0) n 3 0
  | _ => hopResult (freeRefused (bpmDiscard s n 0x42) (F.BPM_EVENT_bad_handle n) n named 0) n 1 0

/-- ADDREF of the handle in BPM_HOP_HANDLE (R324, R331). -/
def hopAddref (s : State) (n : Nat) : State :=
  match handleUnit s n (get s (F.BPM_HOP_HANDLE_handle n)) with
  | some (0, c) => match bufAt s n c with
    | some (b, x) => match takePin s n b with
      | some t => hopResult t n 0 (x.refs + 1)
      | none => hopResult (raiseGrey s (F.BPM_EVENT_ref_limit n)) n 4 x.refs
    | none => hopResult s n 5 0
  | _ => hopResult (raiseGrey (bpmDiscard s n 0x42) (F.BPM_EVENT_bad_handle n)) n 1 0

/-- The bytes of a unit that a READ shows: a tier-0 buffer's chain, or a unit of a lower tier. -/
def unitData (s : State) (n t u : Nat) : Option (List Byte × Nat) :=
  if t = 0 then (bufAt s n u).map (fun e => (e.2.bytes, e.2.refs))
  else (Tab.find (pkt s n).bpm.units (2 ^ 24 * t + u)).map (fun m => (m.bytes, m.count))

/-- READ of 256-byte chunk `k` of the unit in BPM_HOP_HANDLE into BPM_HOP_DATA (R323). Bytes past the unit's data are not
stated: free values. -/
def hopRead (s : State) (n k : Nat) : State :=
  match handleUnit s n (get s (F.BPM_HOP_HANDLE_handle n)) with
  | none => hopResult (raiseGrey (bpmDiscard s n 0x42) (F.BPM_EVENT_bad_handle n)) n 1 0
  | some (t, u) => match unitData s n t u with
    | none => hopResult s n 5 0
    | some (bs, count) =>
      let chunk := sub bs (256 * k) 256
      let data := chunk ++ (freeBytes s 256).drop chunk.length
      let s := (List.range 64).foldl (fun s w => put s (F.BPM_HOP_DATA_bits n w) (le data (4 * w) 4)) (stepFree s)
      hopResult s n 0 count

/-- A write of BPM_OWN_RESTORE with go (R331): a P1 write lifts the suspension and zeroes the counter. [DEDUCED: log 96] -/
def ownerRestore (s : State) (n o : Nat) : State :=
  modBpm s n (fun b => { b with faults := Tab.del b.faults o })

/-- HOP_FREE (R331). -/
def execHopFree (r : Requester) (n : PktRegion) (s : State) : Host.Outcome State Fault Refusal :=
  finish s (onWrite s r (R.BPM_HOP_CMD n.val) (fun s => hopFree (put s (F.BPM_HOP_CMD_op n.val) 1) n.val))

/-- HOP_ADDREF (R324). -/
def execHopAddref (r : Requester) (n : PktRegion) (s : State) : Host.Outcome State Fault Refusal :=
  finish s (onWrite s r (R.BPM_HOP_CMD n.val) (fun s => hopAddref (put s (F.BPM_HOP_CMD_op n.val) 2) n.val))

/-- HOP_READ (R323). -/
def execHopRead (r : Requester) (n : PktRegion) (chunk : BitVec 8) (s : State) : Host.Outcome State Fault Refusal :=
  finish s (onWrite s r (R.BPM_HOP_CMD n.val) (fun s =>
    hopRead (put (put s (F.BPM_HOP_CMD_op n.val) 3) (F.BPM_HOP_CMD_chunk n.val) chunk.toNat) n.val chunk.toNat))

/-- OWNER_RESTORE (R331). -/
def execOwnerRestore (r : Requester) (n : PktRegion) (o : Fin 1024) (s : State) : Host.Outcome State Fault Refusal :=
  finish s (onWrite s r (R.BPM_OWN_RESTORE n.val) (fun s => if isP1 r then ownerRestore s n.val o.val else s))

end Sys2Proof.Machine
end

