-- ==== Sys2Proof/Machine/Tmg.lean ====
section
/-!
DEFINITION. Queues, meters, the scheduler tree and the timing wheel (R301 to R320).
-/
namespace Sys2Proof.Machine
open Sys2Proof

/-! ### Queues and the tree -/

/-- Change a region's traffic manager. -/
def modTmg (s : State) (n : Nat) (f : Tmg → Tmg) : State := modPkt s n (fun p => { p with tmg := f p.tmg })

/-- The frames on a queue, oldest first. -/
def queueOf (s : State) (n q : Nat) : List QFrame := Tab.getD (pkt s n).tmg.queues q []

/-- Put a queue's frames; an empty queue is not listed. -/
def setQueue (s : State) (n q : Nat) (l : List QFrame) : State :=
  modTmg s n (fun t => { t with queues := if l.isEmpty then Tab.del t.queues q else Tab.set t.queues q l })

/-- qbytes of a queue (R302). -/
def qbytes (s : State) (n q : Nat) : Nat := (queueOf s n q).foldl (fun a f => a + f.len) 0

/-- A queue or a node of the active tree (R304). -/
def squeue (s : State) (n q : Nat) : Option SQueue := Tab.find s.bank.queues (16384 * n + q)
def snode (s : State) (n m : Nat) : Option SNode := Tab.find s.bank.nodes (4096 * n + m)

/-- The nodes and queues of region `n` in the active tree, with local IDs. -/
def treeNodes (s : State) (n : Nat) : Tab SNode :=
  (s.bank.nodes.filter (fun e => decide (e.1 / 4096 = n))).map (fun e => (e.1 % 4096, e.2))
def treeQueues (s : State) (n : Nat) : Tab SQueue :=
  (s.bank.queues.filter (fun e => decide (e.1 / 16384 = n))).map (fun e => (e.1 % 16384, e.2))

/-- The nodes from `m` up to its root, `m` first (R304). -/
def upFrom (s : State) (n m fuel : Nat) : List Nat :=
  match fuel with
  | 0 => []
  | fuel + 1 => match snode s n m with
    | none => []
    | some x => m :: (match x.parent with
      | some p => upFrom s n p fuel
      | none => [])

/-- The nodes above a queue, its parent first. -/
def aboveQueue (s : State) (n q : Nat) : List Nat := match squeue s n q with
  | some x => upFrom s n x.parent 5
  | none => []

/-- The root of a queue. -/
def rootOf (s : State) (n q : Nat) : Option (Nat × SNode) :=
  match (aboveQueue s n q).getLast? with
  | some m => (snode s n m).map (fun x => (m, x))
  | none => none

/-! ### Meters (R308 to R312) -/

/-- The settings of a meter in the active bank: shaper `i` at `i`, policer `i` at 65,536 + `i` (R318). -/
def mtrCfg (s : State) (n k : Nat) : MtrCfg := Tab.getD s.bank.meters (131072 * n + k) {}

/-- The credit of a refill in 2⁻⁴⁸ bytes or packets (R309). -/
def credit (c : MtrCfg) : Nat :=
  if c.packets then c.rate * c.period * 64 * 2 ^ 48 / 1000000000 else c.rate * c.period * 2 ^ 48 / 125000

/-- A burst in 2⁻⁴⁸ units. -/
def burstOf (c : MtrCfg) : Int := ((c.burst * 2 ^ 48 : Nat) : Int)

/-- The length ℓ that a meter counts for a frame of `len` bytes without FCS (R308). -/
def meterLen (c : MtrCfg) (len : Nat) (withFcs_ : Bool) : Nat :=
  if c.packets then 1
  else
    let v : Int := ((if withFcs_ then len + 4 else len : Nat) : Int) + toSigned 8 c.overhead
    if v < 1 then 1 else v.toNat

/-- A running meter. -/
def meter (s : State) (n k : Nat) : Option Meter := Tab.find (pkt s n).tmg.meters k

/-- Put a running meter. -/
def setMeter (s : State) (n k : Nat) (m : Meter) : State :=
  modTmg s n (fun t => { t with meters := Tab.set t.meters k m })

/-- Entities of a shaper: its queue, or the nodes that name it, as wheel keys (R312). -/
def shaperUsers (s : State) (n i : Nat) : List Nat :=
  if i < 16384 then [i]
  else (treeNodes s n).filterMap (fun e => if e.2.shaper = some i then some (16384 + e.1) else none)

/-- Take an entity off the wheel. -/
def offWheel (s : State) (n key : Nat) : State := modTmg s n (fun t => { t with wheel := Tab.del t.wheel key })

/-- Settings of a meter have been applied (R309, R311): a newly enabled one starts full, a disabled one stops, whose entities wait no longer, any other
value waits for the next refill. [DEDUCED: log 92] -/
def meterApply (s : State) (n k : Nat) : State :=
  let c := mtrCfg s n k
  if c.en then
    match meter s n k with
    | some _ => s
    | none => setMeter s n k ⟨c, burstOf c⟩
  else
    let s := modTmg s n (fun t => { t with meters := Tab.del t.meters k })
    if k < 65536 then (shaperUsers s n k).foldl (fun s key => offWheel s n key) s else s

/-- Core cycles since the region's last reset (R309). -/
def cycles (s : State) (n : Nat) : Nat := s.clk.ticks - (pkt s n).tmg.resetAt

/-- The refill instant at which the tokens of `m` will exceed 0 (R312), in core cycles. [DEDUCED: log 92] -/
def dueAt (s : State) (n : Nat) (m : Meter) : Nat :=
  let per := max 1 (96 * m.cfg.period)
  let k := if 0 < m.tokens then 1 else ((-m.tokens) / ((max 1 (credit m.cfg) : Nat) : Int)).toNat + 1
  (cycles s n / per + k) * per

/-- Put an entity on the timing wheel for its meter (R312). [DEDUCED: log 92] -/
def onWheel (s : State) (n key : Nat) (m : Meter) : State :=
  modTmg s n (fun t => { t with wheel := Tab.set t.wheel key ⟨dueAt s n m, cycles s n⟩ })

/-- The level on which a wheel entry stands now (R312): the lowest whose span held its time at the placing, or the level
it has moved down to. -/
def wheelLevel (now : Nat) (e : WheelEnt) : Nat :=
  if e.due - e.placed < 4096 ∨ e.due / 4096 ≤ now / 4096 then 0
  else if e.due - e.placed < 16777216 ∨ e.due / 16777216 ≤ now / 16777216 then 1 else 2

/-- Charge shaper `i`, whose entity is `key`, with a frame (R305, R310); at 0 or below, the entity enters the wheel. -/
def chargeShaper (s : State) (n i key len : Nat) (withFcs_ : Bool) : State :=
  match meter s n i with
  | none => s
  | some m =>
    let m := { m with tokens := m.tokens - ((meterLen m.cfg len withFcs_ * 2 ^ 48 : Nat) : Int) }
    let s := setMeter s n i m
    if 0 < m.tokens then s else onWheel s n key m

/-- Whether the entity `key` with shaper `i` may be served (R305, R310, R312). -/
def shaperOpen (s : State) (n i key : Nat) : Bool :=
  match meter s n i with
  | none => true
  | some m => decide (0 < m.tokens) && (Tab.find (pkt s n).tmg.wheel key).isNone

/-- A refill of meter `k` (R309, R311). [DEDUCED: log 92] -/
def refill (s : State) (n k : Nat) : State :=
  match meter s n k with
  | none => s
  | some m =>
    let c := mtrCfg s n k
    let changed := decide (m.cfg ≠ c)
    let b := burstOf c
    let t := (if b < m.tokens then b else m.tokens) + ((credit c : Nat) : Int)
    let m := { cfg := c, tokens := if b < t then b else t }
    let s := setMeter s n k m
    if changed && decide (k < 65536) then
      (shaperUsers s n k).foldl (fun s key =>
        if (Tab.find (pkt s n).tmg.wheel key).isSome then
          (if 0 < m.tokens then offWheel s n key else onWheel s n key m)
        else s) s
    else s

/-! ### Frames that are lost (R299, R360, R398) -/

/-- A frame of region `n` ends with disposition code `code`: its timestamp record (R360) and, for a host frame, its
write-back (R398). -/
def frameLost (s : State) (n : Nat) (ing : Ingress) (ts : Bool) (tx : Option TxRef) (meta_ q code : Nat) (bs : List Byte) :
    State :=
  fate (if ts then tsqPush s n ing 3 0 code 0 meta_ q bs else s) tx code none

/-- What identifies a frame of queue `q` for the monitors (R445): the queue, and the port or AID of its tree's root. -/
def tmgIds (s : State) (n q : Nat) : List (Nat × Nat) := (2, q) :: (match rootOf s n q with
  | some (_, x) => if x.kind = 0 then [(1, 32 * n + x.target % 32)] else if x.kind = 1 then [(3, x.target)] else []
  | none => [])

/-- Count a frame of queue `q` that TMG discards (R303). -/
def tmgDiscard (s : State) (n q code : Nat) : State := discardOf s (F.TMG_DISC_count n (code - 0x31)) code (tmgIds s n q)

/-! ### Enqueue (R302, R327) -/

/-- TMG's checks (R302): the code that drops the frame. [DEDUCED: log 91] -/
def enqueueCheck (s : State) (n q len : Nat) : Option Nat :=
  match squeue s n q with
  | none => some 0x32
  | some x =>
    if !x.en then some 0x32
    else if x.limit ≠ 0 ∧ x.limit * 4096 < qbytes s n q + len then some 0x31 else none

/-- Count TMG's drop of a frame for queue `q` with its event, whose cell is the queue (R431). -/
def enqueueDrop (s : State) (n q code : Nat) : State :=
  raiseAt (tmgDiscard s n q code) (if code = 0x31 then F.TMG_EVENT_queue_full n else F.TMG_EVENT_queue_off n) .grey q (tmgIds s n q) 0

/-- Put a frame with its buffer at the end of its queue; a queue that was empty begins with no deficit held. -/
def append (s : State) (n q : Nat) (f : QFrame) : State :=
  monIn (setQueue s n q (queueOf s n q ++ [{ f with at_ := s.clk.ticks, q := q }])) n 0x22 (tmgIds s n q) f.len

/-- The tier-0 requester of a frame that a pipeline enqueues (R330): 0 for pipelines 0 to 3, which take client frames (R272), else 1. -/
def requesterOf (f : QFrame) : Nat := if f.ing.kind = 0 then 0 else 1

/-- What follows a refused allocation of owner `o` (R327, R330): EMPTY is retried where the owner says so, up to its retry_ns; else the frame is
dropped. -/
def allocRefused (s : State) (n o code : Nat) (ids : List (Nat × Nat)) (r : RetryReq) : State :=
  let s := if code = 0x40 then greyOf s (F.BPM_EVENT_empty n) ids else s
  if code = 0x40 ∧ (ownCfg s n o).retry ∧ s.clk.ticks - r.since ≤ (ownCfg s n o).retryNs * 3 / 2 then
    modBpm s n (fun p => { p with retry := p.retry ++ [r] })
  else
    let f := r.frame
    frameLost (discardOf s (F.BPM_DISC_count n (code - 0x40)) code ids) n f.ing f.ts f.tx f.meta_ r.queue code r.bytes

/-- A frame's allocation for queue `q` by requester `who`, and its place on it (R327, R330). -/
def allocTo (s : State) (n q : Nat) (f : QFrame) (bs : List Byte) (since : Option Nat) (who : Nat) : State :=
  let o := queueOwner s n q
  match alloc s n o (some q) bs with
  | (s, .ok b) => append s n q { f with bid := b }
  | (s, .error c) =>
    allocRefused s n o c [(2, q)] { since := since.getD s.clk.ticks, who := who, queue := q, frame := f, bytes := bs }

/-- Change a region's classifier. -/
def modPrs (s : State) (n : Nat) (f : Prs → Prs) : State := modPkt s n (fun p => { p with prs := f p.prs })

/-- A frame enters the pipelines of region `n` (R71): it takes the tag of the active bank. -/
def ingress (s : State) (n : Nat) (p : PPkt) : State :=
  modPrs (worked s n) n (fun x => { x with inq := Tab.upd x.inq p.pipe [] (· ++ [{ p with tag := activeBank s }]) })

/-- A host frame asks for its buffer, charged to owner `o`, and enters pipeline `pipe` with it (R396): a request of pipelines 4 to 7 (R330). -/
def injectTo (s : State) (n pipe o : Nat) (tx : Option TxRef) (bs : List Byte) (since : Option Nat) : State :=
  match alloc s n o none bs with
  | (s, .ok b) => ingress s n { bytes := bs, ing := { kind := 2, raw := rawTime s }, src := 2, pipe := pipe, buf := some b, tx := tx }
  | (s, .error c) =>
    allocRefused s n o c [] { since := since.getD s.clk.ticks, who := 1, queue := 0, bytes := bs, inject := some (pipe, o),
                              frame := { bid := 0, len := bs.length, tx := tx } }

/-- Enqueue a frame on queue `q` of region `n` with a new buffer that requester `who` asks for (R302, R327). -/
def enqueueFor (s : State) (n q : Nat) (f : QFrame) (bs : List Byte) (who : Nat) : State :=
  let s := worked s n
  match enqueueCheck s n q f.len with
  | some c => frameLost (enqueueDrop s n q c) n f.ing f.ts f.tx f.meta_ q c bs
  | none => allocTo s n q f bs none who

/-- Enqueue a frame of a pipeline. -/
def enqueue (s : State) (n q : Nat) (f : QFrame) (bs : List Byte) : State := enqueueFor s n q f bs (requesterOf f)

/-- Enqueue a host frame whose buffer the HIF has taken (R396), as it stands now. -/
def enqueueOwned (s : State) (n q : Nat) (f : QFrame) (bs : List Byte) (b : Nat) : State :=
  match enqueueCheck s n q f.len with
  | some c => frameLost (enqueueDrop (relQ s n b) n q c) n f.ing f.ts f.tx f.meta_ q c bs
  | none =>
    match bufOf s n b with
    | none => s
    | some x => append (modBpm s n (fun p => { p with bufs := Tab.set p.bufs b { x with queue := some q, at_ := s.clk.ticks } })) n q { f with bid := b }

/-- Enqueue a copy that shares buffer `b` (R286, R324): one more reference, or BPM_REF_LIMIT. -/
def enqueueShared (s : State) (n q : Nat) (f : QFrame) (b : Nat) : State :=
  match enqueueCheck s n q f.len with
  | some c => enqueueDrop s n q c
  | none =>
    match takePin s n b with
    | none => greyOf (bpmDrop s n q 0x47) (F.BPM_EVENT_ref_limit n) [(2, q)]
    | some s => append s n q { f with bid := b, copy := true }

/-! ### Over the line die (R22, R23, R25) -/

/-- The bytes of a frame on its way over the line die. -/
def LinkItem.size (x : LinkItem) : Nat := match x with
  | .line p _ => p.bytes.length
  | .cross _ _ _ bs => bs.length

/-- What is left of a frame that PTH or the line die does not pass on, with disposition code `code` (0 where the manual gives none): a
frame of another region makes its timestamp record there (R360), and a host frame is written back (R398). [DESIGN CHOICE: log 221] -/
def linkLost (s : State) (x : LinkItem) (code : Nat) : State := match x with
  | .line p _ => fate s p.tx code none
  | .cross r q f bs => frameLost s r f.ing (f.ts && !f.copy) f.tx f.meta_ q code bs

/-- Bytes that wait for the link of region `n`'s die (R25): line frames that its regions' pipelines have not taken, and what is held
for an entry of either region. [DESIGN CHOICE: log 183, 207] -/
def linkBytes (s : State) (n : Nat) : Nat :=
  let die := n / 2
  let queued := [2 * die, 2 * die + 1].foldl (fun a r =>
    (pkt s r).prs.inq.foldl (fun a e => (e.2.filter (fun p => decide (p.src = 1))).foldl (fun a p => a + p.bytes.length) a) a) 0
  (s.pth.hold.filter (fun h => decide (h.1 / 2 = die))).foldl (fun a h => a + h.2.size) queued

/-- Count a discard by PTH with its disposition code (R216). -/
def pthDiscard (s : State) (code : Nat) : State := discard s (F.PTH_DISC_count (code - 0x60)) code

/-- What becomes of a frame at the head of its region's link queue: discarded (R23; none crosses while the control region is reset,
R457), dropped because the holding area is full
(R25), held for an entry (R416), or passed on by `k`. -/
def overLink (s : State) (n : Nat) (x : LinkItem) (k : State → State) : State :=
  if linkClosed s n || isolated s 5 then linkLost (linkDiscard s n) x 0
  else if 8 * 2 ^ 20 < linkBytes s n + x.size then linkLost (pthDiscard s 0x62) x 0x62
  else if regionEntering s n then { s with pth := { s.pth with hold := s.pth.hold ++ [(n, x)] } }
  else k s

/-- A frame of region `r` reaches queue `q` of region `n` over the line die (R22). [DESIGN CHOICE: log 184] -/
def enqueueAcross (s : State) (r n q : Nat) (f : QFrame) (bs : List Byte) : State :=
  overLink s n (.cross r q f bs) (fun s => enqueueFor s n q f bs 2)

/-- Discard the traffic held for region `n` (R23; in an entry from E5 on, R416). -/
def dropHeld (s : State) (n : Nat) : State :=
  let mine := s.pth.hold.filter (fun e => decide (e.1 = n))
  let s := { s with pth := { s.pth with hold := s.pth.hold.filter (fun e => decide (e.1 ≠ n)) } }
  mine.foldl (fun s e => linkLost (linkDiscard s n) e.2 0) s

/-! ### Eligibility and selection (R305 to R307) -/

/-- Whether the head frame of a queue under a port root is held by the peer (R307). -/
def pfcHeld (s : State) (n : Nat) (root : SNode) (f : QFrame) : Bool :=
  if root.kind = 0 then
    let l := root.target % 32
    let p := get s (F.CMC_PORT_STATUS_peer_paused n l)
    let m := get s (F.CMC_PORT_FC_mode n l)
    if m = 1 then bit p 0 else if m = 2 then bit p (bits (get s (F.TMG_PFC_MAP_map n l)) (3 * f.cls) 3) else false
  else false

/-- What the selection under one root needs to know: region, root, queues not to serve, whether data below tier 0 counts as
served (for read-ahead, R333). -/
structure PickEnv where
  n : Nat
  root : SNode
  blocked : List Nat
  ahead : Bool
  deriving DecidableEq, Repr

/-- The head frame of a queue if the queue is eligible (R305). [DEDUCED: log 91] -/
def queueHead (s : State) (e : PickEnv) (q : Nat) (x : SQueue) : Option QFrame :=
  match queueOf s e.n q with
  | [] => none
  | f :: _ =>
    if !e.blocked.contains q && x.en && (e.ahead || inTier0 s e.n f) &&
       (!x.shaped || shaperOpen s e.n q q) && !pfcHeld s e.n e.root f then some f else none

/-- What the choice of a weighted node changes: its current child, the deficits of its children, and whether the child's turn lies in
the node's next round (R305, R315). -/
structure Turn where
  node : Nat
  child : Nat
  deficits : Tab Int
  late : Bool
  deriving DecidableEq, Repr

/-- A child that can be served: key (node m at m, queue q at 4,096 + q), the weight of its next turn and that of its turns in later
rounds, whether its next turn is in a later round, rank, length of the frame its subtree delivers next, the queue it comes from, and
what the choices on its way change. -/
structure Cand where
  key : Nat
  weight : Nat
  next : Nat
  late : Bool
  rank : Nat
  len : Nat
  q : Nat
  upd : List Turn
  deriving DecidableEq, Repr

/-- A candidate in its node's next round (R315). -/
def Cand.later (c : Cand) : Cand := { c with weight := c.next, late := true }

/-- Deficit round robin from candidate to candidate (R305): the one served, and the deficits. [DEDUCED: log 91] -/
def drr (fuel : Nat) (fresh : Bool) (l : List Cand) (d : Tab Int) : Option (Cand × Tab Int) :=
  match fuel, l with
  | 0, _ => none
  | _, [] => none
  | fuel + 1, c :: rest =>
    let v := Tab.getD d c.key 0 + (if fresh then ((64 * c.weight : Nat) : Int) else 0)
    let d := Tab.set d c.key v
    if (c.len : Int) ≤ v then some (c, d) else drr fuel true (rest ++ [c.later]) d

/-- The candidates of a weighted node in turn order (R305): those of its round from the current child on, then those of the next. -/
def turnOrder (cur : Option Nat) (l : List Cand) : Bool × List Cand :=
  match cur with
  | none => (true, l.map Cand.later)
  | some k =>
    let now := l.any (fun c => decide (c.key = k))
    let left := fun (c : Cand) => decide (k < c.key) || decide (c.key = k)
    (!now, l.filter left ++ (l.filter (fun c => !left c)).map Cand.later)

/-- The lowest rank among candidates. [DEDUCED: log 91] -/
def lowestRank (l : List Cand) : Option Cand :=
  match l with
  | [] => none
  | c :: rest => match lowestRank rest with
    | some b => if b.rank < c.rank then some b else some c
    | none => some c

/-- The choice of node `m` between its candidates (R305). -/
def choose (s : State) (n m : Nat) (x : SNode) (l : List Cand) : Option Cand :=
  if x.weighted then
    let (fresh, l') := turnOrder (Tab.find (pkt s n).tmg.cur m) l
    (drr (300 * (l.length + 1)) fresh l' (pkt s n).tmg.deficit).map
      (fun (c, d) => { c with upd := c.upd ++ [⟨m, c.key, d.filter (fun e => l.any (fun c => decide (c.key = e.1))), c.late⟩] })
  else lowestRank l

/-- What node `m` would deliver next, if it is eligible (R305). [DEDUCED: log 91] -/
def pick (s : State) (e : PickEnv) (m fuel : Nat) : Option Cand :=
  match fuel with
  | 0 => none
  | fuel + 1 =>
    match snode s e.n m with
    | none => none
    | some x =>
      let open_ := match x.shaper with
        | some i => shaperOpen s e.n i (16384 + m)
        | none => true
      if !open_ then none
      else
        let weight := fun (key w : Nat) => match Tab.find (pkt s e.n).tmg.oldW key with
          | some (_, old) => old
          | none => w
        let ns := (treeNodes s e.n).filterMap (fun c =>
          if c.2.parent = some m then
            (pick s e c.1 fuel).map (fun k =>
              { k with key := c.1, weight := weight c.1 c.2.weight, next := c.2.weight, late := false, rank := c.2.rank })
          else none)
        let qs := (treeQueues s e.n).filterMap (fun c =>
          if c.2.parent = m then
            (queueHead s e c.1 c.2).map (fun f => (⟨4096 + c.1, weight (4096 + c.1) c.2.weight, c.2.weight, false, c.2.rank, f.len, c.1, []⟩ : Cand))
          else none)
        choose s e.n m x (ns ++ qs)

/-- The frame that root `m` selects (R305). -/
def pickRoot (s : State) (e : PickEnv) (m : Nat) : Option Cand := pick s e m 5

/-- Whether no queue below child `key` holds a frame: one whose data is in tier 0 (R305, R333), or with `ahead`, in any tier. -/
def childEmpty (s : State) (n key : Nat) (ahead : Bool) : Bool :=
  let holds := fun (l : List QFrame) => l.any (fun f => ahead || inTier0 s n f)
  if 4096 ≤ key then !holds (queueOf s n (key - 4096))
  else !(pkt s n).tmg.queues.any (fun e => (aboveQueue s n e.1).contains key && holds e.2)

/-- Children that hold no frame have no deficit (R305), and a node that holds none has no round under way (R315). -/
def emptied (s : State) (n : Nat) (ahead : Bool) : State :=
  modTmg s n (fun t => { t with
    deficit := t.deficit.filter (fun e => !childEmpty s n e.1 ahead)
    oldW := t.oldW.filter (fun e => !childEmpty s n e.2.1 ahead) })

/-- Take the frame a root has selected (R305): off its queue, its length off the deficits on its way, every meter on the
path charged. -/
def takeFrame (s : State) (e : PickEnv) (c : Cand) : State × Option QFrame :=
  match queueOf s e.n c.q with
  | [] => (s, none)
  | f :: rest =>
    let s := setQueue s e.n c.q rest
    let s := c.upd.foldl (fun s u =>
      let v := Tab.getD u.deficits u.child 0 - (f.len : Int)
      modTmg s e.n (fun t => { t with
        cur := Tab.set t.cur u.node u.child
        oldW := if u.late then t.oldW.filter (fun w => decide (w.2.1 ≠ u.node)) else t.oldW
        deficit := Tab.set (u.deficits.foldl (fun d x => Tab.set d x.1 x.2) t.deficit) u.child v })) s
    let s := emptied s e.n e.ahead
    let fcs_ := decide (e.root.kind = 0)
    let shaped := match squeue s e.n c.q with
      | some x => x.shaped
      | none => false
    let s := if shaped then chargeShaper s e.n c.q c.q f.len fcs_ else s
    let s := (aboveQueue s e.n c.q).foldl (fun s m => match snode s e.n m with
      | some x => (match x.shaper with
        | some i => chargeShaper s e.n i (16384 + m) f.len fcs_
        | none => s)
      | none => s) s
    (monOut s e.n 0x22 (tmgIds s e.n c.q) f.len, some f)

/-- A frame whose buffer is poisoned is dropped when it is read (R338). -/
def poisonDrop (s : State) (n : Nat) (f : QFrame) : State :=
  let bs := (bufBytes s n f.bid).take f.len
  greyOf (frameLost (bpmDrop (relEntry s n f) n f.q 0x41) n f.ing (f.ts && !f.copy) f.tx f.meta_ f.q 0x41 bs)
    (F.BPM_EVENT_poison n) [(2, f.q)]

/-- Whether a buffer is poisoned. -/
def isPoisoned (s : State) (n b : Nat) : Bool := match bufOf s n b with
  | some x => x.poison
  | none => false

/-- Empty a queue: its frames are discarded with TMG_FLUSH and their buffers freed (R74, R315), and no deficit is left (R305). -/
def flushQueue (s : State) (n q : Nat) : State :=
  let l := queueOf s n q
  if l.isEmpty then s
  else
    let s := l.foldl (fun s f =>
      let bs := bufBytes s n f.bid
      frameLost (tmgDiscard (relEntry s n f) n q 0x33) n f.ing (f.ts && !f.copy) f.tx f.meta_ q 0x33 bs) (setQueue s n q [])
    raiseAt (emptied s n false) (F.TMG_EVENT_flush n) .grey q (tmgIds s n q) 0

/-! ### The commands -/

/-- The waiting requests in the order in which the arbiter of tier 0 grants them in a contested clock (R330): from the requester after the
one it served first in the last one on, each requester's own in their order. -/
def arbiterOrder (l : List RetryReq) (last : Nat) : List RetryReq :=
  (List.range 4).flatMap (fun i => l.filter (fun r => decide (r.who = (last + 1 + i) % 4)))

/-- One clock in which every waiting request of region `n` asks again (R330). -/
def retryClock (s : State) (n : Nat) : State :=
  let l := (pkt s n).bpm.retry
  let contested := decide (poolFree s n 0 < l.foldl (fun k r => k + cellsOf r.bytes.length) 0)
  let order := if contested then arbiterOrder l (pkt s n).bpm.served else l
  let s := modBpm s n (fun p => { p with retry := [] })
  let (s, first) := order.foldl (fun (a : State × Option Nat) r =>
    let t := match r.inject with
      | some (pipe, o) => injectTo a.1 n pipe o r.frame.tx r.bytes (some r.since)
      | none => allocTo a.1 n r.queue r.frame r.bytes (some r.since) r.who
    let made := fun (s : State) => (pkt s n).bpm.nextBid
    (t, a.2.orElse (fun _ => if made a.1 < made t then some r.who else none))) (s, none)
  match first with
  | some w => if contested then modBpm s n (fun p => { p with served := w }) else s
  | none => s

/-- ALLOC_RETRY (R330): a cycle in which the requests that received EMPTY ask again; past its retry_ns a frame is dropped. -/
def execAllocRetry (n : PktRegion) (s : State) : Host.Outcome State Fault Refusal :=
  finish s (if regionStopped s n.val then s else retryClock s n.val)

/-- METER_REFILL (R309, R311): `policer` false for a shaper. -/
def execMeterRefill (n : PktRegion) (policer : Bool) (i : Fin 65536) (s : State) : Host.Outcome State Fault Refusal :=
  finish s (refill s n.val (if policer then 65536 + i.val else i.val))

/-- WHEEL_RELEASE (R312): `node` false for a queue. -/
def execWheelRelease (n : PktRegion) (node : Bool) (i : Fin 16384) (s : State) : Host.Outcome State Fault Refusal :=
  finish s (offWheel s n.val (if node then 16384 + i.val else i.val))

/-- The frame of queue `q` that the promotion engine reads next: what a resend of the queue's retained frames waits for, or the first
frame of the queue that lies below tier 0 and has been asked for by a read-ahead, or that keeps a port or host queue's head short (R333). -/
def nextPromotion (s : State) (n q : Nat) : Option Nat :=
  let l := queueOf s n q
  let low := fun b => (bufOf s n b).any (fun x => x.low.isSome)
  match (pkt s n).bpm.want.find? (fun w => decide (w.2.2.1 = q) && low w.2.2.2 && !l.any (fun f => decide (f.bid = w.2.2.2))) with
  | some w => some w.2.2.2
  | none => (l.find? (fun f => !inTier0 s n f)).bind (fun f =>
      let asked := (pkt s n).bpm.want.any (fun w => decide (w.2.2.2 = f.bid))
      let short := match rootOf s n q with
        | some (_, x) => decide (x.kind ≠ 1) &&
          (decide (headBytes s n l < (profOf s n (queueOwner s n q)).2.1) || decide (l.head? = some f))
        | none => false
      if asked || short then some f.bid else none)

/-- A promotion of buffer `b` to queue `q` has been read (R333): the buffer comes up where cells are free. One that is poisoned completes without
data, and the frame is dropped (R338, R340). -/
def promotionDone (s : State) (n q b : Nat) : State :=
  let done := fun (s : State) => modBpm s n (fun p => { p with want := p.want.filter (fun w => decide (w.2.2.2 ≠ b)) })
  if isPoisoned s n b then
    let l := queueOf s n q
    let s := done (setQueue s n q (l.filter (fun f => decide (f.bid ≠ b))))
    emptied ((l.filter (fun f => decide (f.bid = b))).foldl (fun s f => poisonDrop s n f) s) n false
  else
    let t := promote s n b
    if (bufOf t n b).any (fun x => x.cell.isSome) then done t else t

/-- PROMOTION_DONE (R333): the next promotion of the queue completes. -/
def execPromotionDone (n : PktRegion) (q : Fin 16384) (s : State) : Host.Outcome State Fault Refusal :=
  finish s (match nextPromotion s n.val q.val with
    | some b => if regionStopped s n.val then s else promotionDone (worked s n.val) n.val q.val b
    | none => s)

/-- The retained frames of AID `a` in region `n` from the head of its list on: each buffer with the bytes before it (R332). -/
def retentionPlaces (l : List (Nat × Nat)) (behind : Nat) (seen : List Nat) : List (Nat × Nat) := match l with
  | [] => []
  | (b, len) :: rest =>
    if seen.contains b then retentionPlaces rest (behind + len) seen
    else (b, behind) :: retentionPlaces rest (behind + len) (b :: seen)

/-- Scan the retention list of an AID, oldest first: a queue with keep_head 0 (R332). -/
def scanRetained (s : State) (n : Nat) (l : List UpSeg) : State :=
  let mine := (l.filter (fun g => decide (g.region = n))).map (fun g => (g.handle, g.payload.length))
  (retentionPlaces mine 0 []).foldl (fun s e => match bufOf s n e.1 with
    | some x => if x.refQ = 0 then scanBuf s n e.1 e.2 0 else s
    | none => s) s

/-- DEMOTION_SCAN (R332): every queue of the region, oldest frame first, and every retention list; no migration runs in DIM or OFF
(R335). -/
def execDemotionScan (n : PktRegion) (s : State) : Host.Outcome State Fault Refusal :=
  finish s (if regionStopped s n.val then s
    else
      let low := fun (s : State) => (pkt s n.val).bpm.bufs.filter (fun e => e.2.low.isSome)
      let t := (pkt s n.val).tmg.queues.foldl (fun s e => scanQueue s n.val e.2 0) s
      let t := emptied (t.pth.aids.foldl (fun s e => scanRetained s n.val e.2.retained) t) n.val false
      whenB (decide (low t ≠ low s)) (fun t => worked t n.val) t)

end Sys2Proof.Machine
end

