-- ==== Sys2Proof/Machine/Token.lean ====
section
/-!
DEFINITION. The power-peak token (R19, R422): requests in order, one holder, release at the end of a ramp.
-/
namespace Sys2Proof.Machine
open Sys2Proof

/-- The code of a ramp in PWR_TOKEN.holder. -/
def rampCode (r : Ramp) : Nat := match r with
  | .region n => n.val
  | .line => 4
  | .control => 5
  | .engine e => 8 + e.val

/-- The ramp of a holder code. -/
def rampOf (c : Nat) : Option Ramp :=
  if h : c < 4 then some (.region ⟨c, h⟩)
  else if c = 4 then some .line
  else if c = 5 then some .control
  else if h : 8 ≤ c ∧ c < 16 then some (.engine ⟨c - 8, by omega⟩)
  else none

/-- The unit that holds the token, if one does. -/
def tokenHolder (s : State) : Option Ramp := rampOf (get s F.PWR_TOKEN_holder)

/-- Show the number of waiting requests. -/
def tokenCount (s : State) : State := put s F.PWR_TOKEN_waiting s.pwr.queue.length

/-- Show or hide a unit's wait for the token (PWR_D_STATE, OPE_STATUS; LNK_LANE_PWR.refuse of the engine's lanes, R101). -/
def tokenWait (s : State) (r : Ramp) (w : Bool) : State := match r with
  | .region n => putB s (F.PWR_D_STATE_token_wait n.val) w
  | .engine e =>
    let s := putB s (F.OPE_STATUS_token_wait e.val) w
    if w then s
    else (lanesOfEngine e.val).foldl (fun s p => if get s (F.LNK_LANE_PWR_refuse p) = 4 then put s (F.LNK_LANE_PWR_refuse p) 0 else s) s
  | _ => s

/-- A request joins the queue behind those of earlier cycles; those of its own cycle are in the order of R422. A cycle is a core tick
of the model. -/
def tokenJoin (s : State) (r : Ramp) : State :=
  let asked := if s.pwr.askedAt = s.clk.ticks then s.pwr.asked else []
  let ahead := fun (x : Ramp) => !asked.contains x || decide (rampCode x < rampCode r)
  { s with pwr := { s.pwr with
    askedAt := s.clk.ticks, asked := r :: asked
    queue := s.pwr.queue.filter ahead ++ r :: s.pwr.queue.filter (fun x => !ahead x) } }

/-- Ask for the token: the request waits in request order until it is granted (R19). A unit asks once. [DESIGN CHOICE: log 116] -/
def tokenRequest (s : State) (r : Ramp) : State :=
  if s.pwr.queue.contains r || decide (tokenHolder s = some r) then s
  else tokenWait (tokenCount (tokenJoin s r)) r true

/-- Give the token to the unit at the head of the queue when nobody holds it. [DESIGN CHOICE: log 116] -/
def tokenTake (s : State) : State :=
  match tokenHolder s, s.pwr.queue with
  | none, r :: rest =>
    tokenWait (tokenCount (put { s with pwr := { s.pwr with queue := rest } } F.PWR_TOKEN_holder (rampCode r))) r false
  | _, _ => s

/-- Release the token if this unit holds it, or forget its wait. -/
def tokenRelease (s : State) (r : Ramp) : State :=
  let s := { s with pwr := { s.pwr with
    queue := s.pwr.queue.filter (fun x => decide (x ≠ r)), overdue := s.pwr.overdue.filter (fun x => decide (x ≠ r)) } }
  let s := tokenWait (tokenCount s) r false
  if tokenHolder s = some r then put s F.PWR_TOKEN_holder 31 else s

/-- Whether a unit ramps now: it holds the token or goes on after losing it (R422). -/
def ramps (s : State) (r : Ramp) : Bool := decide (tokenHolder s = some r) || s.pwr.overdue.contains r

end Sys2Proof.Machine
end

