-- ==== Sys2Proof/Machine/FltReport.lean ====
section
/-!
DEFINITION. Fault reports to FLT (R451): what each report writes and records, and the start of a region fault (R455, F1).
The later steps are in FaultSteps.
-/
namespace Sys2Proof.Machine
open Sys2Proof

/-- Kinds of R451. -/
def fltContained : Nat := 1
def fltStateLost : Nat := 2
def fltHang : Nat := 3
def fltDrain : Nat := 4
def fltScope : Nat := 5
def fltLink : Nat := 6
def fltStartup : Nat := 7
def fltAon : Nat := 8

/-- FLT's store for region `r`. -/
def fltRegion (s : State) (r : Nat) : FltRegion := Tab.getD s.flt.regions r {}
def modFlt (s : State) (r : Nat) (f : FltRegion → FltRegion) : State :=
  { s with flt := { s.flt with regions := Tab.upd s.flt.regions r {} f } }

/-- A packet region's own capture of what it passes to FLT (RPM_FAULT): the first since the last clear, and the count. -/
def rpmFault (s : State) (n kind block cell : Nat) : State :=
  let s := inc s (F.RPM_FAULT_COUNT_count n)
  if getB s (F.RPM_FAULT_valid n) then s
  else
    let s := putB (put (put s (F.RPM_FAULT_block n) block) (F.RPM_FAULT_code n) kind) (F.RPM_FAULT_valid n) true
    raiseGrey (put s (F.RPM_FAULT_CELL_cell n) cell) (F.RPM_EVENT_fault n)

/-- A report in the safe state (R462): in the Jet store alone, if it is Black. [DEDUCED: log 126] -/
def fltSafe (s : State) (f : Fld) (v : Sev) (region kind block cell : Nat) : State :=
  if v = .black then
    let d := freeVal s
    offerTo (stepFree s) (256 * 0x08 + f.lo) v region 0x08 cell
      [2 ^ f.lo, region + 16 * kind + 256 * block + 65536 * cell, d % 2 ^ 32, d / 2 ^ 32 % 2 ^ 32] jetOnly
  else s

/-- Write a report to FLT_LAST and FLT_R_CAUSE and record it under event bit `f` (R451). Every report is recorded: where
the bit is set already its record is offered on its own. [DEDUCED: log 181] -/
def fltRecord (s : State) (f : Fld) (v : Sev) (region kind block cell : Nat) : State :=
  if getB s F.GLB_SAFE_safe then fltSafe s f v region kind block cell
  else
    let s := put (put (put (put s F.FLT_LAST_region region) F.FLT_LAST_kind kind) F.FLT_LAST_block block) F.FLT_LAST_cell cell
    let s := put s F.FLT_LAST_FN_fn (if ltValid s then modFn s else 0)
    let s := if region < 4 then rpmFault s region kind block cell else s
    let s := if region < 6 then put (put s (F.FLT_R_CAUSE_kind region) kind) (F.FLT_R_CAUSE_block region) block else s
    if getB s f then offer s (256 * 0x08 + f.lo) v region 0x08 cell (rdWord s f.addr).toNat (rdWord s R.FLT_LAST).toNat
    else raiseFor s f v region cell (rdWord s R.FLT_LAST).toNat

/-- A block fault (R451 kind 1): the region runs on, DEGRADED. [DEDUCED: log 181] -/
def contained (s : State) (region block cell : Nat) : State :=
  let s := fltRecord s F.FLT_EVENT_block_fault .crimson region fltContained block cell
  if getB s F.GLB_SAFE_safe then s else modFlt s region (fun f => { f with degraded := true })

/-- End a region's power entry or exit where it stands (R428); what an entry has held for it at the line die goes (R23). -/
def endTransition (s : State) (n : Nat) : State :=
  let s := tokenRelease s (if h : n < 4 then .region ⟨n, h⟩ else .line)
  let s := put (putB s (F.PWR_D_STATE_busy n) false) (F.PWR_D_STATE_step n) 0
  dropHeld { s with pwr := { s.pwr with regions := Tab.del s.pwr.regions n } } n

/-- Whether region `r` is isolated, resetting or held (R462). -/
def inFault (s : State) (r : Nat) : Bool := decide ((fltRegion s r).step ≠ 0) || (fltRegion s r).held

/-- Start F1 of region `r` (R455): a packet region's entry or exit ends and its pads latch; the line region takes no further
grant. `manual`: ordered, not automatic. [DEDUCED: log 124] -/
def startF1 (s : State) (r : Nat) (manual : Bool) : State :=
  let s := modFlt s r (fun f => { f with step := 1, at_ := ticks s, manual := manual })
  if r < 4 then putB (endTransition s r) (F.PWR_D_STATE_pads r) true
  else if r = 4 then { s with upb := { s.upb with windows := [], maps := [] } }
  else s

/-- Isolate the region, and with the control region the line region (R457). [DEDUCED: log 124] -/
def isolate (s : State) (r : Nat) (manual : Bool) : State :=
  let s := startF1 s r manual
  if r = 5 ∧ !inFault s 4 then startF1 s 4 manual else s

/-- A region fault (R451, R462): recorded always; handled unless the region is already isolated, resetting or held. A fault
in the control region resets the line region with it (R457). Nothing is handled in the safe state (R462). [DEDUCED: log 124] -/
def regionFault (s : State) (r kind block cell : Nat) : State :=
  let s := fltRecord s F.FLT_EVENT_region_fault .crimson r kind block cell
  if getB s F.GLB_SAFE_safe || inFault s r then s else isolate s r false

end Sys2Proof.Machine
end

