-- ==== Sys2Proof/Machine/LaneBase.lean ====
section
/-!
DEFINITION. How a line lane pair moves between its power states (R99 to R101): what it may leave, the step it starts next,
and the power-up of its engine. The end of a step is in Lane.
-/
namespace Sys2Proof.Machine
open Sys2Proof

/-- Lane power states of LNK_LANE_PWR (R99): 0 ACTIVE, 1 QUIET, 2 DOZE, 3 UMBER, 4 OFF. -/
def laneState (s : State) (p : Nat) : Nat := get s (F.LNK_LANE_PWR_state p)
def laneTarget (s : State) (p : Nat) : Nat := get s (F.LNK_LANE_PWR_target p)

/-- Whether the channel is a member of a bonded group of its path that exists, in either direction (R100, R190). -/
def inBond (s : State) (p : Nat) : Bool :=
  let q := qn (lanePath p)
  (List.range 32).any (fun g =>
    (getB s (F.BND_DG_STATUS_valid q g) && bit (get s (F.BND_DG_MEMBERS_members q g)) (laneChan p)) ||
    (getB s (F.BND_UG_STATUS_valid q g) && bit (get s (F.BND_UG_MEMBERS_members q g)) (laneChan p)))

/-- LNK_RX_PWR of a measured power in 0.01 dBm (R92). -/
def rxPwrCode (c : Int) : Nat := if c < -3000 then 0x8000 else if 500 < c then 0x7FFF else ofSigned 16 c

/-- The code of a receive power that no command gives, in the range of LNK_RX_PWR or beyond its ends. [DESIGN CHOICE: log 156, 199] -/
def freePwr (s : State) : Nat := rxPwrCode ((freeVal s % 3503 : Nat) - 3001 : Int)

/-- Whether LINEMAP enables a path: a disabled one has all its lanes OFF (R108). -/
def pathEnabled (s : State) (q : Path) : Bool := bit s.bank.linePaths (qn q)

/-- Where lane `p` is headed: its target, but OFF on a disabled path (R108) and while FLT holds or takes it there (R454). -/
def laneGoal (s : State) (p : Nat) : Nat :=
  let l := laneSt s p
  if l.fltHeld || l.forceOff || !pathEnabled s (lanePath p) then 4 else laneTarget s p

/-- Why the LNK refuses to leave ACTIVE (R100): 1 REF, 2 ALARM, 3 BOND, 0 not at all. -/
def refuseReason (s : State) (p : Nat) : Nat :=
  if refChan s (lanePath p) = some (laneChan p) then 1
  else if alarmArmed s p then 2
  else if inBond s p then 3
  else 0

/-- Whether an engine is powered. -/
def enginePowered (s : State) (e : Nat) : Bool := getB s (F.OPE_STATUS_powered e)

/-- Whether start-up has passed the engine's own step S7, after which a lane's exit powers its engine (R101, R409). -/
def pastS7 (s : State) (e : Nat) : Bool :=
  decide (8 ≤ get s F.PWR_STATUS_step) || (decide (get s F.PWR_STATUS_step = 7) && decide (e < s.pwr.s7Engine))

/-- Start the step towards lane state `v`. -/
def laneStep (s : State) (p v : Nat) : State :=
  put (putB (modLane s p (fun l => { l with step := some v })) (F.LNK_LANE_PWR_busy p) true) (F.LNK_LANE_PWR_refuse p) 0

/-- Ask for an unpowered engine's power-up (R101). -/
def engineRequest (s : State) (e : Nat) : State :=
  if h : e < 8 then tokenRequest s (.engine ⟨e, h⟩) else s

/-- LNK_LANE_PWR.refuse of a lane that waits for its engine (R101): TOKEN until the engine takes the token. -/
def waitReason (s : State) (e : Nat) : Nat := if getB s (F.OPE_STATUS_token_wait e) then 4 else 0

/-- Start the lane's next step towards its target, where none runs (R99 to R101): down directly, up through ACTIVE; out of
ACTIVE only where the LNK does not refuse it; out of OFF only on a powered engine. [DEDUCED: log 52, 200] -/
def laneAdvance (s : State) (p : Nat) : State :=
  let l := laneSt s p
  let st := laneState s p
  let target := laneGoal s p
  if l.step.isSome then s
  else if st = target then
    put (putB s (F.LNK_LANE_PWR_busy p) false) (F.LNK_LANE_PWR_refuse p) 0
  else if st = 0 then
    let why := if l.forceOff || l.fltHeld then 0 else refuseReason s p
    if why = 0 then laneStep s p target
    else
      let s := putB s (F.LNK_LANE_PWR_busy p) false
      let old := get s (F.LNK_LANE_PWR_refuse p)
      let s := put s (F.LNK_LANE_PWR_refuse p) why
      if old = 0 then raiseGrey s (F.LNK_LANE_EVENT_refuse p) else s
  else if st < target then laneStep s p target
  else if st = 4 ∧ !enginePowered s (engineOf p) then
    if pastS7 s (engineOf p) then
      let s := engineRequest s (engineOf p)
      putB (put s (F.LNK_LANE_PWR_refuse p) (waitReason s (engineOf p))) (F.LNK_LANE_PWR_busy p) true
    else s
  else laneStep s p 0

/-- A new target for a lane (R100, R101): the step in progress is finished first. -/
def laneRetarget (s : State) (p v : Nat) : State := laneAdvance (put s (F.LNK_LANE_PWR_target p) v) p

/-- FLT takes a lane to OFF and then back towards its init_state (R454), whatever the LNK would refuse. [DEDUCED: log 45] -/
def laneForceOff (s : State) (p : Nat) : State :=
  let off := decide (laneState s p = 4) && (laneSt s p).step.isNone
  let s := modLane s p (fun l => { l with forceOff := !off })
  laneRetarget s p (Tab.getD s.bank.lineInit p 4)

/-- A SCOPE fault of a line channel (R454): recorded, and the lane retried once. [DEDUCED: log 45, 182] -/
def scopeLane (s : State) (p : Nat) : State :=
  let s := fltRecord s F.FLT_EVENT_scope_lane .crimson 4 fltScope 0x10 p
  if getB s F.GLB_SAFE_safe || inFault s 4 || (laneSt s p).fltRetry || (laneSt s p).fltHeld then s
  else laneForceOff (modLane s p (fun l => { l with fltRetry := true })) p

end Sys2Proof.Machine
end

