-- ==== Sys2Proof/Machine/Light.lean ====
section
/-!
DEFINITION. What lets light out (R97, R103 to R107, R139, R175 to R177): the SAF's gates and energy budget, filled bursts
until they are sent or lost, their launch alarms.
-/
namespace Sys2Proof.Machine
open Sys2Proof

/-! ### TAP (R480) -/

/-- Whether an instruction drives the lands. -/
def TapInstr.drives (i : TapInstr) : Bool := match i with
  | .extest | .clamp | .highz | .extestPulse | .extestTrain => true
  | .idcode | .samplePreload | .bypass => false

/-- What the loaded instruction acts as now: one that drives the lands as BYPASS, but while RESET_N and LASER_EN are low. [DEDUCED: log 140] -/
def tapActs (s : State) : TapInstr :=
  if s.tap.ir.drives && (s.pins.resetN || s.pins.laserEn) then .bypass else s.tap.ir

/-- A pin has changed: the loaded instruction acts, or acts as BYPASS; one that begins to drive the lands drives the preloaded values,
none for high impedance. [DEDUCED: log 140] -/
def tapSettle (s : State) : State :=
  let i := tapActs s
  let starts := i.drives && decide (s.tap.acts ≠ i)
  let s := { s with tap := { s.tap with acts := i } }
  if starts then emit s (.boundary (if i = .highz then [] else s.tap.preload)) else s

/-! ### Gates (R107, R139) -/

/-- The path's APR latch and the fibre's fuse latch. -/
def aprF (q : Path) : Fld := match q with
  | .a => F.SAF_STATUS_apr_a
  | .b => F.SAF_STATUS_apr_b
def fuseF (q : Path) : Fld := match q with
  | .a => F.SAF_STATUS_fuse_a
  | .b => F.SAF_STATUS_fuse_b
def killF (q : Path) : Fld := match q with
  | .a => F.SAF_CTRL_kill_a
  | .b => F.SAF_CTRL_kill_b
def darkF (q : Path) : Fld := match q with
  | .a => F.SAF_STATUS_dark_a
  | .b => F.SAF_STATUS_dark_b

/-- Whether one of the gates that hold every burst is closed for lane `p` (R107). -/
def gated (s : State) (p : Nat) : Bool :=
  let q := lanePath p
  !s.pins.laserEn || getB s (killF q) || getB s (aprF q) || getB s (fuseF q) || (laneSt s p).waveDark

/-- Whether lane `p`'s transmitter may not fire (R107); the safe state leaves the dying gasp out. -/
def safGate (s : State) (p : Nat) (gasp : Bool) : Bool := gated s p || (!gasp && getB s F.GLB_SAFE_safe)

/-- Whether the lane is ACTIVE with its transmitter enabled (R99, R165). -/
def lightReady (s : State) (p : Nat) : Bool := laneActive s p && getB s (F.LNK_LANE_CTRL_tx_en p)

/-- Whether the path's ACT state lets a burst of this kind go (R139, R186); `mgmt`: its windows are the management AID's. -/
def permits (s : State) (q : Path) (k : BurstKind) (mgmt : Bool) : Bool :=
  let st := actState s q
  match k with
  | .discovery => decide (st = 2)
  | .ranging => decide (st = 3) || decide (st = 4)
  | .granted => decide (st = 4) || (decide (st = 3) && mgmt)
  | .standing _ => decide (st = 4)
  | .gasp => true

/-- Whether a burst of this kind needs a ranged channel (R139, R152). -/
def needsRange (k : BurstKind) : Bool := match k with
  | .granted => true
  | .standing _ => true
  | _ => false

/-- The delay that has been announced for the channel and applies to windows of path frame `fn`. -/
def eqdPending (s : State) (q : Path) (n fn : Nat) : Option PendEqd :=
  ((act s q).pendEqd.filter (fun e => decide (e.chan = n) && decide (e.applyFn ≤ fn))).getLast?

/-- Whether channel `n` of path `q` is ranged for windows of path frame `fn`. [DEDUCED: log 167] -/
def rangedAt (s : State) (q : Path) (n fn : Nat) : Bool :=
  (eqdPending s q n fn).isSome || getB s (F.ACT_EQD_ranged (qn q) n)

/-- Whether the transmitter is dark for burst `b` (R98, R99, R107, R139); the dying gasp is dark under the gates alone (R107). [DEDUCED: log 57] -/
def burstDark (s : State) (b : Burst) : Bool :=
  if b.kind = .gasp then safGate s b.lane true
  else safGate s b.lane false || !lightReady s b.lane || !permits s (lanePath b.lane) b.kind b.mgmt ||
    (needsRange b.kind && !rangedAt s (lanePath b.lane) (laneChan b.lane) (b.pos / 5000))

/-! ### Energy (R103, R104) -/

/-- Whether `u` µW is at least the launch power `c`, in 0.01 dBm. -/
def uwCovers (u : Nat) (c : Int) : Bool := decide (10 ^ c.toNat * 1000 ^ 1000 ≤ u ^ 1000 * 10 ^ (-c).toNat)

/-- The power of `c` in whole µW, rounded up, by its bits from bit `k - 1` down; `u` does not cover `c`. -/
def uwSearch (u k : Nat) (c : Int) : Nat := match k with
  | 0 => u + 1
  | k + 1 => if uwCovers (u + 2 ^ k) c then uwSearch u k c else uwSearch (u + 2 ^ k) k c

/-- A set point in µW (R103). [DESIGN CHOICE: log 56] -/
def uwOf (c : Int) : Nat := uwSearch 0 16 c

/-- The launch power that the SAF charges for a lane (R103). [DESIGN CHOICE: log 56] -/
def laneUw (s : State) (p : Nat) : Nat :=
  (Tab.find s.saf.measured p).getD (uwOf (getI s (F.LNK_TX_SETPOINT_pwr p)))

/-- Energy charged to path `q` in the 625 bins that end at `bin` (R103). [DESIGN CHOICE: log 56] -/
def windowEnergy (s : State) (q : Path) (bin : Nat) : Nat :=
  (s.saf.charges.filter (fun c => decide (c.path = q) && decide (c.bin ≤ bin) && decide (bin < c.bin + 625))).foldl
    (fun a c => a + c.energy) 0

/-- The ceiling of a fibre, signed 0.1 dBm. -/
def ceilOf (s : State) (q : Path) : Int := match q with
  | .a => s.saf.ceilA
  | .b => s.saf.ceilB

/-- Put the ceiling of a fibre. -/
def setCeil (s : State) (q : Path) (v : Int) : State := { s with saf := match q with
  | .a => { s.saf with ceilA := v }
  | .b => { s.saf with ceilB := v } }

/-- The register of a fibre's ceiling. -/
def ceilReg : Path → Nat
  | .a => R.SAF_CEIL_A
  | .b => R.SAF_CEIL_B

/-- Whether `e` µW·codewords is within the budget of ceiling `c`: 10^(c/100) mW for 78,125 codewords (R103). [DESIGN CHOICE: log 56] -/
def withinBudget (e : Nat) (c : Int) : Bool :=
  decide (e ^ 100 * 10 ^ (-c).toNat ≤ 10 ^ c.toNat * 78125000 ^ 100)

/-- Energy charged to path `q` that has not left the window by the core's clock (R103). [DESIGN CHOICE: log 56] -/
def windowByClock (s : State) (q : Path) : Nat :=
  (s.saf.charges.filter (fun c => decide (c.path = q) && decide (s.clk.ticks < c.gone))).foldl (fun a c => a + c.energy) 0

/-- Show the energy of the window that ends now, in nJ: one µW·codeword is 12.8 fJ. A path without time is timed by the clock. -/
def showEnergy (s : State) (q : Path) : State :=
  let e := match baseNow s (1 + qn q) with
    | none => windowByClock s q
    | some now => windowEnergy s q (now / 125)
  let nj := e * 128 / 10 ^ 7
  match q with
  | .a => put s F.SAF_ENERGY_A_nj (sat (2 ^ 32 - 1) nj)
  | .b => put s F.SAF_ENERGY_B_nj (sat (2 ^ 32 - 1) nj)

/-- The core tick at which a charge in `bin` of path `q` leaves the window of the present: 625 bins later, a codeword being 19.2
ticks. [DESIGN CHOICE: log 56] -/
def chargeGone (s : State) (q : Path) (bin : Nat) : Nat :=
  let t := pathTime s q
  s.clk.ticks + (125 * (bin + 625) - cwCount t.fn t.cw) * 96 / 5

/-- Charge path `q` with the energy of `n` codewords of light on lane `p` that end in `bin`. [DESIGN CHOICE: log 163] -/
def chargePath (s : State) (q : Path) (p bin n : Nat) : State :=
  let keep := s.saf.charges.filter (fun c => decide (c.path ≠ q) || decide (bin < c.bin + 1250))
  showEnergy { s with saf := { s.saf with charges := ⟨q, bin, laneUw s p * (n + 1), chargeGone s q bin⟩ :: keep } } q

/-! ### Bursts until they are sent or lost -/

/-- Keep the bursts that `k` keeps. -/
def keepBursts (s : State) (k : Burst → Bool) : State :=
  { s with upb := { s.upb with bursts := s.upb.bursts.filter k } }

/-- The codeword of path time by which a burst has ended. [DEDUCED: log 171] -/
def burstEnd (b : Burst) : Nat := b.alarm + b.len + 1

/-- Whether burst `b` is on the fibre. -/
def inFlight (s : State) (b : Burst) : Bool :=
  b.launched && (match baseNow s (1 + qn (lanePath b.lane)) with
    | none => true
    | some now => decide (now < burstEnd b))

/-- Reasons of UPB_P_LOST (R177). -/
def lostHeld : Nat := 0
def lostCut : Nat := 1
def lostDark : Nat := 2
def lostDown : Nat := 3

/-- Bytes of a segment with its header, sequence fields and tag (R117). -/
def segSize (g : UpSeg) : Nat := 8 + 4 * b2n g.mseq.isSome + 4 * b2n g.bseq.isSome + g.payload.length + 16 * b2n g.enc

/-- Segment bytes of burst `b` that AID index `i` sent. -/
def aidBytes (b : Burst) (i : Nat) : Nat :=
  (b.segs.filter (fun g => decide (g.aid = i))).foldl (fun a g => a + segSize g) 0

/-- The AID indices with segments in burst `b`. -/
def burstAids (b : Burst) : List Nat := (b.segs.map (fun g => g.aid)).eraseDups

/-- What identifies a burst for the monitors (R445): its channel and the AIDs it carries. -/
def burstIds (b : Burst) : List (Nat × Nat) := (4, b.lane) :: (burstAids b).map (fun a => (3, a))

/-- A burst is lost (R177): counted per path and, for its segments, per AID; its segments are not filled again. [DEDUCED: log 171] -/
def loseBurst (s : State) (b : Burst) (c : Nat) : State :=
  let s := keepBursts s (fun x => decide (x ≠ b))
  let q := qn (lanePath b.lane)
  let s := inc s (F.UPB_P_LOST_count q c)
  let s := b.segs.foldl (fun s g => inc s (F.UPB_AID_LOST_count g.aid)) s
  if c = 0 then greyOf s F.UPB_EVENT_held (burstIds b)
  else if c = 1 then greyOf s F.UPB_EVENT_cut (burstIds b)
  else if c = 2 then greyOf s F.UPB_EVENT_dark (burstIds b)
  else s

/-- The bursts of lane `p` that wait for their launch, earliest first. -/
def waitingBursts (s : State) (p : Nat) : List Burst := s.upb.bursts.filter (fun b => decide (b.lane = p) && !b.launched)

/-- The earliest of some bursts. -/
def earliest (l : List Burst) : Option Burst := match l with
  | [] => none
  | b :: rest => match earliest rest with
    | some c => if c.alarm < b.alarm then some c else some b
    | none => some b

/-- Arm lane `p`'s alarm for its next burst (R42, R175). A burst whose alarm cannot be armed is lost. -/
def armNext (s : State) (p fuel : Nat) : State :=
  match fuel with
  | 0 => s
  | fuel + 1 =>
    if alarmArmed s p then s
    else match earliest (waitingBursts s p) with
      | none => s
      | some b =>
        let s := armAt s p (b.alarm / 5000) (b.alarm % 5000) 0
        if alarmState s p = 1 then s
        else
          let late := decide (get s (F.LTU_ALM_STATUS_result p) = almLate)
          armNext (loseBurst s b (if late then lostDark else lostDown)) p fuel

/-- Lane `p`'s alarm follows its earliest burst. -/
def rearmLane (s : State) (p : Nat) : State :=
  let s := match earliest (waitingBursts s p) with
    | some b => if alarmState s p = 1 ∧ alarmAt s p ≠ b.alarm then disarm s p almOk else s
    | none => if alarmState s p = 1 then disarm s p almOk else s
  armNext s p (s.upb.bursts.length + 1)

/-- Add a filled burst. -/
def queueBurst (s : State) (b : Burst) : State :=
  let s := monCount s 4 0x13 1 (burstIds b) 1
  rearmLane { s with upb := { s.upb with bursts := s.upb.bursts ++ [b] } } b.lane

/-- A channel that loses multiframe lock loses its filled bursts (R176). -/
def downBursts (s : State) (p : Nat) : State :=
  let lost := waitingBursts s p
  if lost.isEmpty then s else rearmLane (lost.foldl (fun s b => loseBurst s b lostDown) s) p

/-- Symbols between the delimiter and the end of a burst of `len` codewords with a guard of `g` and a preamble of `plen`
symbols (R166, R169). -/
def codedSymbols (len g plen : Nat) : Nat := 2720 * len - 2720 * g - plen - 64

/-- A burst's coded part: after a standing burst's header codeword its container (R169, R186). -/
def codedOf (b : Burst) : List CodedPart := match b.kind with
  | .standing _ => [([13], b.info.take 16), (List.replicate (b.len - b.guard - 1) 514, b.info.drop 16)]
  | _ => [(codewordSizes (codedSymbols b.len b.guard b.plen), b.info)]

/-- A burst leaves (R166): its information stream and its light. [DEDUCED: log 204] -/
def sendLight (s : State) (b : Burst) : State :=
  emit s (.burst b.lane (b.alarm / 5000) (b.alarm % 5000) b.fine b.info
    (burstLevels (getB s (F.LNK_LANE_CTRL_precode_tx b.lane)) b.pre b.plen (codedOf b)))

/-- Why a burst that a gate stops is lost (R177): a dying gasp that has been handed over and not begun is DARK. -/
def cutReason (s : State) (b : Burst) : Nat :=
  if b.kind = .gasp ∧ (baseNow s (1 + qn (lanePath b.lane))).any (fun now => decide (now < b.alarm)) then lostDark else lostCut

/-- Forget the bursts that have ended, one whose continuation windows were never filled leaving with zeros there, and show which fibres are dark. -/
def endBursts (s : State) : State :=
  let ended := s.upb.bursts.filter (fun b => b.launched && !inFlight s b)
  let s := ended.foldl (fun s b => if b.conts.isEmpty then s else sendLight s b) s
  let s := keepBursts s (fun b => !ended.contains b)
  let lit := fun q => s.upb.bursts.any (fun b => b.launched && decide (lanePath b.lane = q))
  putB (putB s F.SAF_STATUS_dark_a (!lit .a)) F.SAF_STATUS_dark_b (!lit .b)

/-- A gate that has closed cuts the bursts in flight (R107, R158). -/
def cutBursts (s : State) : State :=
  let lost := s.upb.bursts.filter (fun b => inFlight s b && burstDark s b)
  lost.foldl (fun s b =>
    let s := (burstAids b).foldl (fun s i =>
      put s (F.UPB_AID_BYTES_count i) (get s (F.UPB_AID_BYTES_count i) - aidBytes b i)) s
    let s := if b.conts.isEmpty then s else sendLight s b
    emit (loseBurst s b (cutReason s b)) (.burstCut b.lane b.bsn)) s

/-- Show a lane's transmitter (LNK_LANE_STATUS.tx_dark). [DEDUCED: log 151] -/
def showDark (s : State) (p : Nat) : State :=
  let d := safGate s p false || !lightReady s p
  if getB s (F.LNK_LANE_STATUS_tx_dark p) = d then s else putB s (F.LNK_LANE_STATUS_tx_dark p) d

/-- What follows when a gate, a path's state or a lane's state has changed: bursts in flight are cut, and what is shown of the
transmitters follows. [DEDUCED: log 57] -/
def gatesChanged (s : State) : State := endBursts ((List.range 128).foldl showDark (cutBursts s))

/-- Present a burst to the SAF (R104): admitted and charged, or held whole. [DESIGN CHOICE: log 163] -/
def presentOne (s : State) (b : Burst) : State :=
  let q := lanePath b.lane
  let n := b.len - b.guard
  let bin := (b.alarm + b.len - 1) / 125
  if withinBudget (windowEnergy s q bin + laneUw s b.lane * (n + 1)) (ceilOf s q) then
    let s := chargePath s q b.lane bin n
    { s with upb := { s.upb with bursts := s.upb.bursts.map (fun x => if x = b then { x with admitted := true } else x) } }
  else
    let s := match q with
      | .a => raiseGrey (inc s F.SAF_HELD_A_count) F.SAF_EVENT_held_a
      | .b => raiseGrey (inc s F.SAF_HELD_B_count) F.SAF_EVENT_held_b
    rearmLane (loseBurst s b lostHeld) b.lane

/-- The burst that starts first, in the lowest lane where several start together (R104). -/
def firstPresented (l : List Burst) : Option Burst := l.foldl (fun o b => match o with
  | none => some b
  | some x => if b.alarm < x.alarm ∨ (b.alarm = x.alarm ∧ b.lane < x.lane) then some b else some x) none

/-- The bursts of `b`'s fibre that go before it to the SAF: they start earlier, or with it in a lower lane (R104). -/
def presentedBefore (s : State) (b : Burst) : List Burst :=
  s.upb.bursts.filter (fun x => !x.admitted && !x.launched && decide (lanePath x.lane = lanePath b.lane) &&
    (decide (x.alarm < b.alarm) || (decide (x.alarm = b.alarm) && decide (x.lane < b.lane))))

/-- Present the bursts of `b`'s fibre up to `b`, in the order of R104; one whose channel has lost lock is lost instead (R176). [DEDUCED: log 57] -/
def presentBurst (s : State) (b : Burst) (fuel : Nat) : State :=
  match fuel with
  | 0 => presentOne s b
  | fuel + 1 => match firstPresented (presentedBefore s b) with
    | none => presentOne s b
    | some x => presentBurst (if mfLock s x.lane then presentOne s x else rearmLane (loseBurst s x lostDown) x.lane) b fuel

/-- What the allocation segments of a burst on its way show: the reports, and the segment bytes of the AIDs in `ids` (R172). -/
def sentAlloc (s : State) (b : Burst) (reps : List (Nat × Nat × Option Bool)) (ids : List Nat) : State :=
  let s := reps.foldl (fun s r =>
    let s := put s (F.UPB_AID_REP_rep r.1) r.2.1
    match r.2.2 with
    | some t => putB s (F.UPB_AID_REP_tint r.1) t
    | none => s) s
  ids.foldl (fun s i => addTo s (F.UPB_AID_BYTES_count i) (aidBytes b i)) s

/-- Start an admitted burst (R175, R177): it goes out, or is lost as DOWN or DARK. `uw` is the launch power measured. [DEDUCED: log 57, 171, 204] -/
def launchBurst (s : State) (b : Burst) (uw : Nat) : State :=
  let p := b.lane
  let q := qn (lanePath p)
  if !mfLock s p then loseBurst s b lostDown
  else if burstDark s b then loseBurst s b lostDark
  else
    let s := { s with upb := { s.upb with bursts := s.upb.bursts.map (fun x => if x = b then { x with launched := true } else x) } }
    let s := inc s (F.UPB_P_BURSTS_count q)
    let s := if b.conts.isEmpty then sendLight s b else s
    let ids := [(4, 64 * q + laneChan p)]
    let s := monOut s 4 0x13 (burstIds b) b.info.length
    let s := monCount (monCount s 4 0x10 1 ids b.len) 4 0x10 2 ids b.len
    let s := monCount (monCount s 4 0x10 3 ids (680 * b.len)) 4 0x10 4 ids (680 * b.len)
    let s := addTo s (F.ACT_LCM_TX_count q) b.acts
    let s := sentAlloc s b b.reps (burstAids b)
    let s := put { s with saf := { s.saf with measured := Tab.set s.saf.measured p uw } } (F.LNK_TX_PWR_uw p) uw
    let s := if b.kind = .discovery then inc s (F.ACT_ANN_COUNT_sent q) else s
    endBursts s

/-- Launch alarm `p` has fired (R175): the burst whose time it marks goes out; the alarm is armed for the next one. -/
def burstLaunch (s : State) (p uw : Nat) : State :=
  let s := match (waitingBursts s p).find? (fun b => decide (b.alarm = alarmAt s p)) with
    | none => s
    | some b =>
      let s := if b.admitted then s else presentBurst s b s.upb.bursts.length
      match s.upb.bursts.find? (fun x => decide (x = { b with admitted := true })) with
      | none => s
      | some x => launchBurst s x uw
  rearmLane s p

/-- SAF_BURST_PRESENT (R104, R176): the lane's earliest burst is presented, 64 codewords before its alarm, and before it the bursts of
the fibre that R104 puts first. -/
def safPresent (s : State) (p : Nat) : State :=
  match earliest ((waitingBursts s p).filter (fun b => !b.admitted)) with
  | none => s
  | some b =>
    let s := reach s (1 + qn (lanePath p)) (b.alarm - 64)
    if mfLock s p then presentBurst s b s.upb.bursts.length else rearmLane (loseBurst s b lostDown) p

def execSafBurstPresent (l : Lane) (s : State) : Host.Outcome State Fault Refusal := finish s (safPresent s l.val)

end Sys2Proof.Machine
end

