-- ==== Sys2Proof/Machine/Defects.lean ====
section
/-!
DEFINITION. The defects of the line lanes (R113, R114, R126, R127): what is detected, what is reported, their events and
second-presence bits, and the automatic power reduction that follows (R106).
-/
namespace Sys2Proof.Machine
open Sys2Proof

/-- The defects detected on lane `p`, from LOS to SD (R126). [DEDUCED: log 76] -/
def detected (s : State) (p : Nat) : List Bool :=
  let d := dfrLane s p
  [getB s (F.LNK_LANE_STATUS_los p), getB s (F.LNK_LANE_STATUS_lol p), decide (get s (F.DFR_CH_STATUS_delin p) ≠ 2),
   !mfLock s p, d.fecDet, d.aisDet, d.sdDet]

/-- Bit `k` of the reported defects of a lane (R127). -/
def defBit (p k : Nat) : Fld := ⟨R.DFR_CH_STATUS p, 4 + k, 1⟩

/-- The rank of the defect a lane reports, 0 LOS to 6 SD. [DEDUCED: log 76] -/
def reported (s : State) (p : Nat) : Option Nat := (List.range 7).find? (fun k => getB s (defBit p k))

/-- The rank of the highest defect detected on an ACTIVE lane. -/
def toReport (s : State) (p : Nat) : Option Nat :=
  if laneActive s p then (List.range 7).find? (fun k => (detected s p).getD k false) else none

/-- Mark presence bit `k` of the running second (R130). [DEDUCED: log 74] -/
def markSecond (s : State) (p k : Nat) : State :=
  livePut s (R.DFR_SEC_DEF p) (setBits (liveGet s (R.DFR_SEC_DEF p)) k 1 1)

/-- Put the rank a lane reports. -/
def putReport (s : State) (p : Nat) (r : Option Nat) : State :=
  (List.range 7).foldl (fun s k => putB s (defBit p k) (decide (r = some k))) s

/-- Show the defects of every container of lane `p` after what its lane reports has changed (R127). -/
def showTribs (s : State) (p : Nat) : State := (contsOn s p).foldl (fun s t => showTrib s p t) s

/-- Report the highest defect of lane `p` (R127): status, events, presence; one up to FEC-EXC takes the lane out of the merge
until a frame boundary without it (R128). A parked lane reports none and raises no event. -/
def report (s : State) (p : Nat) : State :=
  let old := reported s p
  let new := toReport s p
  let active := laneActive s p
  let s := putB s (F.DFR_CH_STATUS_parked p) (!active)
  let s := if active then s else markSecond s p 7
  let s := if old = new then s else putReport s p new
  let s := if old = new ∧ active then s else showTribs s p
  let s := match new with
    | some k => if k < 5 ∧ (dfrLane s p).merged then modDfrLane s p (fun d => { d with merged := false }) else s
    | none => s
  let s := match old with
    | some k => if active && decide (old ≠ new) && !(detected s p).getD k false then
        raiseGrey s ⟨R.DFR_CH_EVENT p, 8 + k, 1⟩ else s
    | none => s
  match new with
  | some k =>
    let s := markSecond s p k
    if old = new then s else raiseGrey s ⟨R.DFR_CH_EVENT p, k, 1⟩
  | none => s

/-- Lane `p` returns to HUNT (R113): it loses multiframe lock at once (R114) and ends the run of FEC-EXC (R126). [DEDUCED: log 75] -/
def hunt (s : State) (p : Nat) : State :=
  let s := put (putB s (F.DFR_CH_STATUS_mf_lock p) false) (F.DFR_CH_STATUS_delin p) 0
  modDfrLane s p (fun d => { d with miss := 0, goodFn := none, hdrMiss := 0, fecTail := [], fecClean := 0 })

/-- The detectors of lane `p` as it becomes ACTIVE or leaves ACTIVE: HUNT, no lock, nothing detected beyond it (R113, R114). -/
def freshLane (s : State) (p : Nat) : State :=
  modDfrLane (hunt s p) p (fun _ => {})

/-- Automatic power reduction of path `q` (R106): with no established ACTIVE lane the path is dark and its latch is set. [DEDUCED: log 150, 164] -/
def aprCheck (s : State) (q : Path) : State :=
  if getB s (aprF q) || (lanesOf q).any (fun p => laneActive s p && (laneSt s p).established) then s
  else
    let s := putB s (aprF q) true
    match q with
    | .a => raiseGrey s F.SAF_EVENT_apr_a
    | .b => raiseGrey s F.SAF_EVENT_apr_b

/-- A lane is no longer established once LOS, LOL or LOF stands on it or it leaves ACTIVE (R106). -/
def unestablish (s : State) (p : Nat) : State :=
  if (laneSt s p).established && (!laneActive s p || ((detected s p).take 3).any (fun b => b)) then
    modLane s p (fun x => { x with established := false }) else s

/-- The second counters' verdict on SD at a second boundary (R126). -/
def evalSd (s : State) (p : Nat) : State :=
  let c := liveGet s (R.DFR_SEC_CORR p)
  let sd := if get s F.DFR_SD_SET_count < c then true
    else if c ≤ get s F.DFR_SD_CLR_count then false
    else (dfrLane s p).sdDet
  if laneActive s p then modDfrLane s p (fun d => { d with sdDet := sd }) else s

end Sys2Proof.Machine
end

