-- ==== Sys2Proof/Machine/Groups.lean ====
section
/-!
DEFINITION. The agreement groups (R80): which SEAL register a member belongs to, the section that governs a group, the state
and result of a SEAL register (R84), and what a commit does to a held group (R83).
-/
namespace Sys2Proof.Machine
open Sys2Proof

/-- The SEAL register of the agreement group that the register word at `a` is a member of. -/
def groupOf (a : Nat) : Option Nat :=
  if 0x100000 ≤ a ∧ a < 0x140000 then (if a % 0x800 = 0x14 ∨ a % 0x800 = 0x18 then some (a - a % 0x800 + 0x1C) else none)
  else if 0x200004 ≤ a ∧ a < 0x200010 then some 0x200010
  else if 0x60004 ≤ a ∧ a < 0x60014 then some 0x60014
  else if 0x50204 ≤ a ∧ a < 0x50210 then some 0x50210
  else match regionAt a with
    | none => none
    | some n =>
      let o := a % 0x1000000
      let base := 0x1000000 * (n + 1)
      if o = 0 ∨ (0x1000 ≤ o ∧ o < 0x1800 ∧ o % 64 = 0) then some (base + 0x4)
      else if (0x100400 ≤ o ∧ o < 0x100480 ∧ o % 16 < 8) ∨ (0x100600 ≤ o ∧ o < 0x100800) then some (base + 0x100008)
      else if 0x200204 ≤ o ∧ o < 0x200210 then some (base + 0x200210)
      else if 0x300104 ≤ o ∧ o < 0x300110 then some (base + 0x300110)
      else if 0x400110 ≤ o ∧ o < 0x400128 then some (base + 0x400128)
      else if 0x600204 ≤ o ∧ o < 0x600210 then some (base + 0x600210)
      else none

/-- The section that governs the group of SEAL register `g` (R80): LINEMAP, TUNING for the DFR thresholds, ACCESS, MONITORS,
and in a region PORTMAP, TABLELAYOUT, METERS, OWNERS. -/
def groupSec (g : Nat) : Nat :=
  if g = 0x200010 then 0x12
  else if g = 0x60014 then 0x11
  else if g = 0x50210 then 0x10
  else if g < 0x1000000 then 2
  else
    let o := g % 0x1000000
    if o = 4 then 1 else if o = 0x100008 then 7 else if o = 0x400128 then 0xB else if o = 0x600210 then 0x10 else 0xA

/-- Fields of a SEAL register (R84). -/
def sealState (g : Nat) : Fld := ⟨g, 4, 2⟩
def sealResultF (g : Nat) : Fld := ⟨g, 8, 4⟩
def sealField (g : Nat) : Fld := ⟨g, 16, 8⟩
def sealRule (g : Nat) : Fld := ⟨g, 24, 8⟩

/-- Result codes of R84. -/
def sealOk : Nat := 0
def sealDisagree : Nat := 1
def sealRange : Nat := 2
def sealEpochBusy : Nat := 3
def sealPriv : Nat := 4
def sealNotHeld : Nat := 5
def sealAbandoned : Nat := 6
def sealTimeout : Nat := 7
def sealSuperseded : Nat := 8

/-- Put the result of a SEAL register. -/
def sealResult (s : State) (g code field rule : Nat) : State :=
  put (put (put s (sealResultF g) code) (sealField g) field) (sealRule g) rule

/-- The group's pending values, if it is HELD or CHECKING. -/
def groupSt (s : State) (g : Nat) : Option GroupSt := Tab.find s.epc.groups g

/-- The group goes to CONSISTENT: nothing is pending (R80). -/
def groupClear (s : State) (g : Nat) : State :=
  put { s with epc := { s.epc with groups := Tab.del s.epc.groups g } } (sealState g) 0

/-- At the commit instant a HELD group whose section the commit carries loses its pending values (R83). -/
def supersede (s : State) (secs : Nat) : State :=
  s.epc.groups.foldl (fun s e =>
    if get s (sealState e.1) = 1 ∧ inSecs secs (groupSec e.1) then sealResult (groupClear s e.1) e.1 sealSuperseded 0 0 else s) s

end Sys2Proof.Machine
end

