-- ==== Sys2Proof/Machine/Prs.lean ====
section
/-!
DEFINITION. Parsing, classification and disposition (R272 to R300), with the police and count modifiers of POL (R310,
R313) and the slow-path ring (R377).
-/
namespace Sys2Proof.Machine
open Sys2Proof

/-! ### The parse (R275 to R277) -/

/-- `w` bits at bit offset `off` of a byte string, most significant first; bytes past the end read 0. -/
def bitField (bs : List Byte) (off w : Nat) : Nat :=
  if w = 0 then 0
  else
    let first := off / 8
    let n := (off % 8 + w + 7) / 8
    let v := beNat (sub bs first n ++ List.replicate (n - (sub bs first n).length) 0)
    v / 2 ^ (8 * n - off % 8 - w) % 2 ^ w

/-- How a parse ends. -/
inductive ParseEnd where
  | ok | depth | malformed | fragment
  deriving DecidableEq, Repr

/-- Bytes from a header's start to the end of `w` bits at offset `off`. -/
def fieldEnd (off w : Nat) : Nat := if w = 0 then 0 else (off + w + 7) / 8

/-- Header length of a node at `h` (R275). -/
def headerLen (g : GNode) (bs : List Byte) (h : Nat) : Nat :=
  if g.fromField then g.lfMult * bitField bs (8 * h + g.lfOff) g.lfWidth + g.lfAdd else g.fixedLen

/-- Extent of a node (R276). [DEDUCED: log 86] -/
def extentOf (g : GNode) (n : Nat) : Nat :=
  max (max n (if g.fromField then fieldEnd g.lfOff g.lfWidth else 0))
    (max (fieldEnd g.nkOff g.nkWidth)
      (max (if g.ck = 0 then 0 else fieldEnd g.ckOff 16) (if g.frag = 1 then 8 else 0)))

/-- The length check of a node (R277): the parse limit after it, `none` where it fails. [DEDUCED: log 86] -/
def lengthCheck (g : GNode) (bs : List Byte) (h n lam full : Nat) : Option Nat :=
  if g.ck = 0 then some lam
  else
    let v := bitField bs (8 * h + g.ckOff) 16
    if g.ck = 1 ∧ 0x0600 ≤ v then some lam
    else
      let e := if g.ck = 1 ∨ g.ck = 3 then h + n + v else h + v
      if e < h + n ∨ lam < e ∨ (e < lam ∧ ¬ (lam = full ∧ full = 60)) then none else some e

/-- The fragment test of a node (R277). -/
def isFragment (g : GNode) (bs : List Byte) (h : Nat) : Bool :=
  if g.frag = 1 then bit (be bs (h + 6) 1) 5 || decide (be bs (h + 6) 2 % 8192 ≠ 0) else decide (g.frag = 2)

/-- Walk the graph from node `id` at byte `h` (R275, R276): layers as (class, byte offset) in order, and the parse limit. [DEDUCED: log 86] -/
def parseFrom (g : Graph) (bs : List Byte) (id h lam count fuel : Nat) : List (Nat × Nat) × Nat × ParseEnd :=
  match fuel with
  | 0 => ([], lam, .depth)
  | fuel + 1 =>
    match Tab.find g.nodes id with
    | none => ([], lam, .ok)
    | some x =>
      let n := headerLen x bs h
      let ext := extentOf x n
      if 12 ≤ count then ([], lam, .depth)
      else if lam < h + ext then ([], lam, .malformed)
      else if 384 < h + ext then ([], lam, .depth)
      else if n < x.minLen then ([], lam, .malformed)
      else
        match lengthCheck x bs h n lam bs.length with
        | none => ([], lam, .malformed)
        | some lam' =>
          if isFragment x bs h then ([(x.cls, h)], lam', .fragment)
          else if x.term then ([(x.cls, h)], lam', .ok)
          else
            let key := bitField bs (8 * h + x.nkOff) x.nkWidth
            match g.edges.find? (fun e => decide (e.src = id) && decide (key &&& e.mask = e.value)) with
            | none => ([(x.cls, h)], lam', .ok)
            | some e =>
              let (ls, l, r) := parseFrom g bs e.dst (h + n) lam' (count + 1) fuel
              ((x.cls, h) :: ls, l, r)

/-- Parse a packet of region `n` (R275); with no graph in force nothing is parsed. [DEDUCED: log 86] -/
def parse (s : State) (n : Nat) (p : PPkt) : List (Nat × Nat) × Nat × ParseEnd :=
  match Tab.find s.bank.graph n with
  | none => ([], p.bytes.length, .ok)
  | some g => parseFrom g p.bytes (p.node.getD g.start) 0 p.bytes.length 0 13

/-! ### Keys and lookups (R280 to R282) -/

/-- A metadata item of a packet: its width and content (R280). -/
def metaItem (p : PPkt) (n : Nat) (layers : List (Nat × Nat)) (i : Nat) : Nat × Nat :=
  match i with
  | 0 => (2, p.src)
  | 1 => (7, if p.src = 0 then 32 * n + p.port else 0)
  | 2 => (20, if p.src = 1 then p.sid else 0)
  | 3 => (15, p.bytes.length)
  | 4 => (2, p.pass)
  | 5 => (16, p.meta_)
  | 6 => (3, p.cls)
  | 7 => (32, layers.foldl (fun a c => a ||| 2 ^ c.1) 0)
  | 8 => (1, b2n p.re)
  | _ => (0, 0)

/-- The header of class `c`, occurrence `occ` (6 the last), in a parse (R280). -/
def headerAt (layers : List (Nat × Nat)) (c occ : Nat) : Option Nat :=
  let hs := (layers.filter (fun e => decide (e.1 = c))).map (fun e => e.2)
  if occ = 6 then hs.getLast? else hs[occ]?

/-- One extract field of a key: width and value (R280). -/
def keyField (s : State) (n t f : Nat) (p : PPkt) (layers : List (Nat × Nat)) (lam : Nat) : Nat × Nat :=
  let w := get s (F.PRS_KEY_FLD_width n t f) + 1
  let off := get s (F.PRS_KEY_FLD_offset n t f)
  let c := get s (F.PRS_KEY_FLD_cls n t f)
  if getB s (F.PRS_KEY_FLD_src n t f) then
    let (iw, v) := metaItem p n layers c
    (w, v / 2 ^ (iw - off - w) % 2 ^ w)
  else
    match headerAt layers c (get s (F.PRS_KEY_FLD_occ n t f)) with
    | none => (w, 0)
    | some h => (w, if 8 * lam < 8 * h + off + w then 0 else bitField p.bytes (8 * h + off) w)

/-- Bits in the keys of table `t` (R281). -/
def tableBits (s : State) (n t : Nat) : Nat := 128 * 2 ^ get s (F.PRS_TBL_CFG_width n t)

/-- The key of table `t` for a packet (R280). -/
def tableKey (s : State) (n t : Nat) (p : PPkt) (layers : List (Nat × Nat)) (lam : Nat) : Nat :=
  let (w, v) := (List.range (get s (F.PRS_TBL_CFG_n_fld n t))).foldl
    (fun (a : Nat × Nat) f => let (w, v) := keyField s n t f p layers lam; (a.1 + w, a.2 * 2 ^ w + v)) (0, 0)
  v * 2 ^ (tableBits s n t - w)

/-- Entries in a slice of a ternary table (R281). -/
def sliceLen (s : State) (n t : Nat) : Nat := 1024 / 2 ^ get s (F.PRS_TBL_CFG_width n t)

/-- Entries of a ternary table. -/
def ternLen (s : State) (n t : Nat) : Nat := get s (F.PRS_TBL_CFG_size n t) * sliceLen s n t

/-- The key of a ternary entry in its bank (R293). -/
def ternKey (n t i : Nat) : Nat := 2 ^ 20 * n + 2 ^ 17 * t + i

/-- The lowest matching entry of a ternary table (R281): its index and action. -/
def ternHit (b : Bank) (n t len key : Nat) : Option (Nat × Nat) :=
  (b.tern.find? (fun e => decide (ternKey n t 0 ≤ e.1) && decide (e.1 < ternKey n t len) &&
    decide ((key ^^^ e.2.key) &&& e.2.mask = 0))).map (fun e => (e.1 - ternKey n t 0, e.2.act))

/-- The action of an exact slot in the bank that `tag` names (R293). -/
def ExSlot.act (x : ExSlot) (tag : Bool) : Option Nat := if tag then x.och else x.ind

/-- The slot that holds a key of table `t`, whichever bank it is valid in. -/
def exactSlot (s : State) (n t key : Nat) : Option (Nat × ExSlot) :=
  (pkt s n).prs.exact.find? (fun e => decide (e.2.tbl = t) && decide (e.2.key = key))

/-- Look a key up in table `t` for a tag (R281, R293): slot or index, and action. -/
def lookup (s : State) (n t key : Nat) (tag : Bool) : Option (Nat × Nat) :=
  if getB s (F.PRS_TBL_CFG_kind n t) then
    match exactSlot s n t key with
    | some (i, x) => (x.act tag).map (fun a => (i, a))
    | none => none
  else ternHit (tagBank s tag) n t (ternLen s n t) key

/-- Whether table `t` is searched in this pass (R282). -/
def searched (s : State) (n t : Nat) (p : PPkt) (layers : List (Nat × Nat)) : Bool :=
  let c := get s (F.PRS_TBL_COND_cls n t)
  getB s (F.PRS_TBL_CFG_en n t) && (decide (c = 0) || layers.any (fun e => decide (e.1 = c))) &&
  bit (get s (F.PRS_TBL_COND_src n t)) (if p.pass = 0 then p.src else 3)

/-- Search the tables in ascending ID: the actions hit, with hits and misses counted (R282). -/
def searchAll (s : State) (n : Nat) (p : PPkt) (layers : List (Nat × Nat)) (lam : Nat) : State × List Nat :=
  (List.range 8).foldl (fun (a : State × List Nat) t =>
    if searched s n t p layers then
      match lookup s n t (tableKey s n t p layers lam) p.tag with
      | some (_, act) => (liveAdd a.1 (R.PRS_TBL_HIT n t) 1, a.2 ++ [act])
      | none => (liveAdd a.1 (R.PRS_TBL_MISS n t) 1, a.2)
    else a) (s, [])

/-! ### Actions (R285) -/

/-- An action entry of the bank of a tag; an undefined one reads as DROP with dcode 0 (R296). -/
def action (s : State) (n i : Nat) (tag : Bool) : Nat := Tab.getD (tagBank s tag).acts (65536 * n + i) 0

/-- Fields of an action entry (R285). -/
def actPrim (a : Nat) : Nat := bits a 126 2
def actDestV (a : Nat) : Bool := bit a 125
def actQueue (a : Nat) : Nat := bits a 109 16
def actMsess (a : Nat) : Nat := bits a 105 4
def actClsV (a : Nat) : Bool := bit a 104
def actCls (a : Nat) : Nat := bits a 101 3
def actPolV (a : Nat) : Bool := bit a 100
def actPolicer (a : Nat) : Nat := bits a 84 16
def actCntV (a : Nat) : Bool := bit a 83
def actCounter (a : Nat) : Nat := bits a 67 16
def actTs (a : Nat) : Bool := bit a 66
def actRecirc (a : Nat) : Bool := bit a 65
def actNode (a : Nat) : Nat := bits a 57 8
def actStrip (a : Nat) : Nat := bits a 49 8
def actDcode (a : Nat) : Nat := bits a 41 8
def actReason (a : Nat) : Nat := bits a 33 8
def actMetaV (a : Nat) : Bool := bit a 32
def actMeta (a : Nat) : Nat := bits a 16 16

/-- The default action of a packet's first-pass source (R288). -/
def defaultAct (s : State) (n : Nat) (p : PPkt) : Nat :=
  action s n (tagGet s p.tag (if p.src = 0 then F.PRS_PORT_CFG_def_act n p.port
    else if p.src = 1 then F.PRS_LINE_DEF_def_act n else F.PRS_HOST_DEF_def_act n)) p.tag

/-! ### The slow path (R278, R292, R377) -/

/-- Tokens of the slow-path gate in 1/1,500,000 packets (R292). [DESIGN CHOICE: log 89] -/
def slowTokens (s : State) (n : Nat) : Nat :=
  let depth := 1500000 * get s (F.PRS_SLOW_RATE_burst n)
  match (pkt s n).prs.slow with
  | none => depth
  | some (v, at_) => min depth (v + get s (F.PRS_SLOW_RATE_rate n) * (s.clk.ticks - at_))

/-- Shared SRAM offset of slot `i` of region `n`'s slow-path ring (R377). -/
def spSlot (n i : Nat) : Nat := 0xF00000 + 0x40000 * n + 32 * i

/-- Write bytes into the shared SRAM. -/
def sramWrite (s : State) (off : Nat) (bs : List Byte) : State :=
  { s with cpl := { s.cpl with sram := (bs.zipIdx).foldl (fun m e => if e.1 = 0 then Tab.del m (off + e.2) else Tab.set m (off + e.2) e.1) s.cpl.sram } }

/-- Read bytes of the shared SRAM. -/
def sramRead (s : State) (off n : Nat) : List Byte := (List.range n).map (fun i => Tab.getD s.cpl.sram (off + i) 0)

/-- Whether region `n`'s slow-path ring holds 8,192 unconsumed descriptors (R377): the head has come round to the tail, and
the descriptor there is still valid. [DESIGN CHOICE: log 89] -/
def spFull (s : State) (n : Nat) : Bool :=
  decide (get s (F.CPL_SP_HEAD_index n) = get s (F.CPL_SP_TAIL_index n)) &&
  bit (beNat (sramRead s (spSlot n (get s (F.CPL_SP_HEAD_index n)) + 9) 1)) 7

/-- The code with which the slow path refuses a delivery now (R292), if it does. -/
def slowRefuse (s : State) (n : Nat) : Option Nat :=
  if slowTokens s n < 1500000 then some 0x19
  else if !cplRunning s || spFull s n then some 0x1A
  else none

/-- Put a slow-path descriptor for buffer `b` (R377). -/
def slowDescriptor (s : State) (n : Nat) (p : PPkt) (b code len : Nat) (copy : Bool) : State :=
  let h := get s (F.CPL_SP_HEAD_index n)
  let (cell, owner) := match bufOf s n b with
    | some x => (x.cell.getD 0, 1024 * n + x.owner)
    | none => (0, 1024 * n)
  let f9 := p.src + 4 * p.pass + 16 * b2n copy + 32 * b2n p.re + 64 * b2n p.tag + 128
  let src := if p.src = 1 then p.sid else if p.src = 0 then 32 * n + p.port else 0
  let s := sramWrite s (spSlot n h) (leBytes 6 (handleOf n cell) ++ leBytes 2 len ++ leBytes 1 code ++ leBytes 1 f9 ++
    leBytes 2 p.meta_ ++ leBytes 4 src ++ leBytes 8 p.ing.raw ++ leBytes 2 owner ++ List.replicate 6 0)
  put s (F.CPL_SP_HEAD_index n) ((h + 1) % 8192)

/-- Take a token of the gate. -/
def slowSpend (s : State) (n : Nat) : State :=
  let v := slowTokens s n - 1500000
  modPrs s n (fun p => { p with slow := some (v, s.clk.ticks) })

/-- What identifies a packet for the monitors (R445): the client port it came in by. -/
def prsIds (n : Nat) (p : PPkt) : List (Nat × Nat) := if p.src = 0 then [(1, 32 * n + p.port)] else []

/-- A refused delivery of packet `p`: its events. -/
def slowRefused (s : State) (n : Nat) (p : PPkt) (code : Nat) : State :=
  if code = 0x19 then greyOf s (F.PRS_EVENT_slow_drop n) (prsIds n p) else raiseGrey s F.CPL_EVENT_sp_full

/-! ### The end of a packet -/

/-- Count a packet that leaves PRS after its last pass (PRS_PASS), and its code where it was dropped or sent to the slow
path (R300). -/
def passDone (s : State) (n : Nat) (p : PPkt) : State := inc s (F.PRS_PASS_count n p.pass)
/-- A disposition of a packet is counted under its code. [DEDUCED: log 85] -/
def dispCount (s : State) (n : Nat) (p : PPkt) (code : Nat) : State := discardOf s (F.PRS_DISP_count n (code - 0x10)) code (prsIds n p)

/-- Drop a packet in PRS with `code` (R299, R300). -/
def prsDrop (s : State) (n : Nat) (p : PPkt) (code : Nat) : State :=
  let s := match p.buf with
    | some b => relQ s n b
    | none => s
  frameLost (dispCount (passDone s n p) n p code) n p.ing p.ts p.tx p.meta_ 0 code p.bytes

/-- A packet that cannot cross the line die to the control region, which is isolated: discarded under R23 (R457). [DESIGN CHOICE: log 221] -/
def crossDrop (s : State) (n : Nat) (p : PPkt) : State :=
  let s := match p.buf with
    | some b => relQ s n b
    | none => s
  frameLost (linkDiscard (passDone s n p) n) n p.ing p.ts p.tx p.meta_ 0 0 p.bytes

/-- Send the packet itself to the slow path (R278, R286, R290): with a disposition code, or with the reason of
COPY_TO_PROCESSOR; and the buffer in which it lies there. A frame that no ring or queue has charged is charged to the region's
owner 0. [DESIGN CHOICE: log 89] -/
def toSlow (s : State) (n : Nat) (p : PPkt) (code : Nat) (isReason : Bool) : State × Option Nat :=
  if isolated s 5 then (crossDrop s n p, none)
  else match slowRefuse s n with
  | some c => (prsDrop (slowRefused s n p c) n p c, none)
  | none =>
    let s := slowSpend s n
    let (s, r) := match p.buf with
      | some b => (s, Except.ok b)
      | none => alloc s n 0 none p.bytes
    match r with
    | .error c => (frameLost (bpmDiscard (passDone s n p) n c) n p.ing p.ts p.tx p.meta_ 0 c p.bytes, none)
    | .ok b =>
      let s := match bufOf s n b with
        | some x => settleBuf s n b { x with refPin := x.refPin + 1, refQ := x.refQ - 1 }
        | none => s
      let s := slowDescriptor s n p b code p.bytes.length false
      let s := if isReason then passDone s n p else dispCount (passDone s n p) n p code
      let status := if isReason then 0 else code
      (fate (if p.ts then tsqPush s n p.ing 3 0 status 0 p.meta_ 0 p.bytes else s) p.tx status none, some b)

/-- What a copy carries into a queue. -/
def copyFrame (p : PPkt) (len cls : Nat) : QFrame :=
  { bid := 0, len := len, copy := true, ing := p.ing, src := p.src, sid := p.sid, cls := cls, meta_ := p.meta_ }

/-- Send a copy to the slow path (R286, R292): it shares buffer `b`, or takes one of its own. [DESIGN CHOICE: log 89] -/
def copyToSlow (s : State) (n : Nat) (p : PPkt) (b : Option Nat) (reason len : Nat) : State :=
  if isolated s 5 then linkDiscard s n
  else match slowRefuse s n with
  | some c => slowRefused s n p c
  | none =>
    let s := slowSpend s n
    match b with
    | some b => match takePin s n b with
      | some s => slowDescriptor s n p b reason len true
      | none => raiseGrey (bpmDiscard s n 0x47) (F.BPM_EVENT_ref_limit n)
    | none => match alloc s n 0 none (p.bytes.take len) with
      | (s, .error c) => bpmDiscard s n c
      | (s, .ok b) =>
        let s := match bufOf s n b with
          | some x => settleBuf s n b { x with refPin := 1, refQ := 0 }
          | none => s
        slowDescriptor s n p b reason len true

/-- Whether a queue is in the queue map of a tag's bank (R287). -/
def inMap (s : State) (g : Nat) (tag : Bool) : Bool := (Tab.find (tagBank s tag).queues g).isSome

/-- A packet selects mirror session `m` (R291): whether the session makes a copy of it, 1 in every sample + 1 while it is enabled. -/
def mirrorDue (s : State) (n : Nat) (p : PPkt) (m : Nat) : State × Bool :=
  if tagGet s p.tag (F.PRS_MIR_DEST_en n m) = 0 then (s, false)
  else
    let c := Tab.getD (pkt s n).prs.mir m 0
    (modPrs s n (fun x => { x with mir := Tab.set x.mir m (if c < tagGet s p.tag (F.PRS_MIR_CTRL_sample n m) then c + 1 else 0) }),
      decide (c = 0))

/-- Send a mirror copy to its session (R287, R291). -/
def mirrorCopy (s : State) (n : Nat) (p : PPkt) (b : Option Nat) (m cls : Nat) : State :=
  let tr := tagGet s p.tag (F.PRS_MIR_CTRL_trunc n m)
  let len := if tr = 0 then p.bytes.length else min (64 * tr) p.bytes.length
  let s := inc s (F.PRS_MIR_COUNT_count n m)
  if tagGet s p.tag (F.PRS_MIR_DEST_slow n m) = 1 then copyToSlow s n p b 0 len
  else
    let g := tagGet s p.tag (F.PRS_MIR_DEST_queue n m)
    let r := g / 16384
    let f := copyFrame p len cls
    if !inMap s g p.tag then greyOf s (F.PRS_EVENT_bad_dest n) (prsIds n p)
    else if r ≠ n then enqueueAcross s n r (g % 16384) { f with copy := false } (p.bytes.take len)
    else match b with
      | some b => enqueueShared s n (g % 16384) f b
      | none => enqueue s n (g % 16384) { f with copy := false } (p.bytes.take len)

/-- A copy that a pass makes (R286). -/
inductive Copy where
  | slow (reason : Nat)
  | mirror (m : Nat)
  deriving DecidableEq, Repr

/-- The copy that an action asks for; the primary action makes one only beside a delivery of its own. -/
def copyOf (a : Nat) (primary : Bool) : List Copy :=
  if actPrim a = 2 then (if primary && !actDestV a then [] else [.slow (actReason a)])
  else if actPrim a = 3 then [.mirror (actMsess a)] else []

/-- Make the copies of a pass (R286), sharing buffer `b` where the packet keeps one in this region: at most one to the slow path and two
to mirror sessions, `slow` and `mir` being those made so far; PRS_COPY_EXCESS counts the others. A session that makes no copy takes
none of the two. -/
def makeCopies (s : State) (n : Nat) (p : PPkt) (l : List Copy) (b : Option Nat) (cls slow mir : Nat) : State :=
  match l with
  | [] => s
  | .slow r :: rest =>
    if slow = 0 then makeCopies (copyToSlow s n p b r p.bytes.length) n p rest b cls 1 mir
    else makeCopies (inc s (F.PRS_COPY_EXCESS_count n)) n p rest b cls slow mir
  | .mirror m :: rest => match mirrorDue s n p m with
    | (s, false) => makeCopies s n p rest b cls slow mir
    | (s, true) =>
      if mir < 2 then makeCopies (mirrorCopy s n p b m cls) n p rest b cls slow (mir + 1)
      else makeCopies (inc s (F.PRS_COPY_EXCESS_count n)) n p rest b cls slow mir

/-- End a pass of `p` with `k` and make its copies (R286): they share the buffer that the packet holds, or the one in which `k` leaves
it in this region (R324). [DEDUCED: log 201] -/
def endWithCopies (s : State) (n : Nat) (p : PPkt) (l : List Copy) (k : State → State × Option Nat) : State :=
  match p.buf with
  | some b => (k (makeCopies s n p l (some b) p.cls 0 0)).1
  | none => makeCopies (k s).1 n p l (k s).2 p.cls 0 0

/-- A packet's buffer at the start of a pass: its bytes as they stand now (R286). Alone in it the packet keeps it, and gives back the
cells it no longer needs (R326); a buffer that others hold stays as it is, and the packet leaves it. [DEDUCED: log 201] -/
def settlePkt (s : State) (n : Nat) (p : PPkt) : State × PPkt :=
  match p.buf with
  | none => (s, p)
  | some b => match bufOf s n b with
    | none => (s, { p with buf := none })
    | some x =>
      if x.bytes = p.bytes then (s, p)
      else if x.refs ≤ 1 then (rewriteBuf s n b x p.bytes, p)
      else (relQ s n b, { p with buf := none })

/-! ### POL (R308, R310, R313) -/

/-- Keys of the live conforming, excess, packet and byte counts of region `n` (R314). -/
def polKey (n kind i : Nat) : Nat := 0x20000000 + 0x400000 * n + 0x100000 * kind + i

/-- Count a packet in its accounting counter (R313). -/
def polCount (s : State) (n a len : Nat) : State :=
  if actCntV a then liveAdd (liveAdd s (polKey n 2 (actCounter a)) 1) (polKey n 3 (actCounter a)) len else s

/-- Police a packet of `len` bytes with identifiers `ids` (R310): whether it conforms. -/
def police (s : State) (n a len : Nat) (ids : List (Nat × Nat)) : State × Bool :=
  if actPolV a then
    let i := actPolicer a
    match meter s n (65536 + i) with
    | none => (s, true)
    | some m =>
      let l : Int := ((meterLen m.cfg len true * 2 ^ 48 : Nat) : Int)
      if l ≤ m.tokens then
        (liveAdd (setMeter s n (65536 + i) { m with tokens := m.tokens - l }) (polKey n 0 i) 1, true)
      else
        (greyOf (discardOf (liveAdd s (polKey n 1 i) 1) (F.POL_EXCESS_count n) 0x30 ids) (F.POL_EVENT_excess n) ids, false)
  else (s, true)

/-! ### Recirculation (R274, R289) -/

/-- Bytes waiting in a group's recirculation queue. -/
def recBytesOf (l : List PPkt) : Nat := l.foldl (fun a p => a + p.bytes.length) 0

/-- Show the use of both recirculation queues. -/
def recUse (s : State) (n : Nat) : State :=
  let k := (recBytesOf (pkt s n).prs.rec0 + recBytesOf (pkt s n).prs.rec1 + 1023) / 1024
  putMax (put s (F.PRS_RECIRC_USE_use n) k) (F.PRS_RECIRC_USE_peak n) k

/-- A group's recirculation queue becomes full, or no longer is; PRS_STATUS shows whether either is (R274). -/
def recFull (s : State) (n k : Nat) (full : Bool) : State :=
  let s := modPrs s n (fun x => if k < 4 then { x with full0 := full } else { x with full1 := full })
  putB s (F.PRS_STATUS_recirc_full n) ((pkt s n).prs.full0 || (pkt s n).prs.full1)

/-- Put packet `p`, as `next` in its next pass, into the recirculation queue of its group, or drop it with PRS_RECIRC_FULL (R274).
[DEDUCED: log 147] -/
def recirculate (s : State) (n : Nat) (p next : PPkt) : State :=
  let q := if p.pipe < 4 then (pkt s n).prs.rec0 else (pkt s n).prs.rec1
  if 2097152 < recBytesOf q + next.bytes.length then
    greyOf (recFull (prsDrop s n p 0x16) n p.pipe true) (F.PRS_EVENT_recirc_full n) (prsIds n p)
  else
    recUse (modPrs s n (fun x => if p.pipe < 4 then { x with rec0 := x.rec0 ++ [next] } else { x with rec1 := x.rec1 ++ [next] })) n

/-- The end of a pass that recirculates (R289, R290): `p` as it stands there, metadata and class set. -/
def recircEnd (s : State) (n : Nat) (p : PPkt) (a : Nat) : State × Option Nat :=
  if p.pass = 3 then toSlow s n p 0x15 false
  else if p.bytes.length < actStrip a + 14 then (prsDrop s n p 0x17, none)
  else (recirculate s n p { p with pass := p.pass + 1, bytes := p.bytes.drop (actStrip a), node := some (actNode a) }, none)

/-! ### A pass (R273) -/

/-- Deliver a packet to its queue (R286, R287); the buffer in which it lies there, where that is in this region.
[DEDUCED, DESIGN CHOICE: log 147, 184] -/
def deliverPkt (s : State) (n : Nat) (p : PPkt) (g : Nat) : State × Option Nat :=
  let r := g / 16384
  let f : QFrame := {
    bid := 0, len := p.bytes.length, ing := p.ing, src := p.src, sid := p.sid, cls := p.cls, meta_ := p.meta_, ts := p.ts,
    errored := p.errored, tx := p.tx }
  if !inMap s g p.tag then (greyOf (prsDrop s n p 0x18) (F.PRS_EVENT_bad_dest n) (prsIds n p), none)
  else
    let s := monOut (passDone s n p) n 0x21 (prsIds n p) p.bytes.length
    if r ≠ n then
      let s := match p.buf with
        | some b => relQ s n b
        | none => s
      (enqueueAcross s n r (g % 16384) f p.bytes, none)
    else
      let before := (queueOf s n (g % 16384)).length
      let s := match p.buf with
        | some b => enqueueOwned s n (g % 16384) f p.bytes b
        | none => enqueue s n (g % 16384) f p.bytes
      let l := queueOf s n (g % 16384)
      (s, if before < l.length then l.getLast?.map (fun f => f.bid) else none)

/-- A packet that POL does not pass is dropped (R310). -/
def policeDrop (s : State) (n : Nat) (p : PPkt) : State :=
  let s := match p.buf with
    | some b => relQ s n b
    | none => s
  frameLost (passDone s n p) n p.ing p.ts p.tx p.meta_ 0 0x30 p.bytes

/-- Apply the action found (R286 to R290): `byDefault` for a default action, `others` the copies of other hits. [DEDUCED: log 147] -/
def applyAction (s : State) (n : Nat) (p : PPkt) (a : Nat) (byDefault : Bool) (others : List Copy) : State :=
  let ids := prsIds n p
  let s := polCount (monIn s n 0x23 ids p.bytes.length) n a p.bytes.length
  if actPrim a = 0 then
    let code := if byDefault then 0x10 else if actDcode a = 0 then 0x11 else actDcode a
    endWithCopies s n p others (fun s => (prsDrop s n p code, none))
  else
    let p := { p with
      cls := if actClsV a then actCls a else p.cls
      ts := p.ts || actTs a
      meta_ := if actMetaV a then actMeta a else p.meta_ }
    let copies := copyOf a true ++ others
    let (s, conf) := police s n a p.bytes.length ids
    let s := whenB conf (fun s => monOut s n 0x23 ids p.bytes.length) s
    if !conf then endWithCopies s n p copies (fun s => (policeDrop s n p, none))
    else if actRecirc a then endWithCopies s n p copies (fun s => recircEnd s n p a)
    else if actPrim a = 2 && !actDestV a then endWithCopies s n p others (fun s => toSlow s n p (actReason a) true)
    else endWithCopies s n p copies (fun s => deliverPkt s n p (actQueue a))

/-- Where a PTP header of ptp_class stands in the packet, by its last parse (R359). -/
def ptpAt (s : State) (layers : List (Nat × Nat)) : Option Nat :=
  let c := get s F.TSU_CTRL_ptp_class
  if c = 0 then none else headerAt layers c 0

/-- The IP version over which UDP carries the PTP header at `o`, by the headers that the pass parsed (R359). [PRESUMED: log 228] -/
def udpAt (bs : List Byte) (layers : List (Nat × Nat)) (o : Option Nat) : Nat :=
  (layers.findSome? (fun e => o.bind (fun o => let v := udpOver bs o e.2; if v = 0 then none else some v))).getD 0

/-- One pass of packet `p` through PRS and POL of region `n` (R273). [DEDUCED: log 147] -/
def pass (s : State) (n : Nat) (p : PPkt) : State :=
  let s := if p.pass = 0 then
      monIn s n 0x21 (prsIds n p) p.bytes.length else s
  let (s, p) := settlePkt s n p
  let (layers, lam, fin) := parse s n p
  let slow := getB s (if p.src = 0 then F.PRS_PORT_CFG_bad_slow n p.port
    else if p.src = 1 then F.PRS_CTRL_line_bad_slow n else F.PRS_CTRL_host_bad_slow n)
  match fin with
  | .fragment => (toSlow s n p 0x14 false).1
  | .depth =>
    let s := greyOf s (F.PRS_EVENT_depth n) (prsIds n p)
    if slow then (toSlow s n p 0x12 false).1 else prsDrop s n p 0x12
  | .malformed =>
    let s := greyOf s (F.PRS_EVENT_malformed n) (prsIds n p)
    if slow then (toSlow s n p 0x13 false).1 else prsDrop s n p 0x13
  | .ok =>
    let o := ptpAt s layers
    let p := { p with ing := { p.ing with ptp := o, udp := udpAt p.bytes layers o } }
    let (s, hits) := searchAll s n p layers lam
    match hits with
    | [] => applyAction s n p (defaultAct s n p) true []
    | h :: rest => applyAction s n p (action s n h p.tag) false (rest.flatMap (fun i => copyOf (action s n i p.tag) false))

/-- The first packet of pipeline `k` in a list, and the rest. -/
def takePipe (l : List PPkt) (k : Nat) : Option (PPkt × List PPkt) :=
  match l with
  | [] => none
  | p :: rest => if p.pipe = k then some (p, rest) else (takePipe rest k).map (fun e => (e.1, p :: e.2))

/-- Whether recirculated passes of a group come first now (R274): they have not yet taken 200,000 bytes in this
microsecond. -/
def recFirst (s : State) (u : Nat × Nat) : Bool := decide (u.1 ≠ s.clk.ticks / 1500) || decide (u.2 < 200000)

/-- Add a recirculated pass to its group's share of the microsecond. -/
def recShare (s : State) (u : Nat × Nat) (len : Nat) : Nat × Nat :=
  (s.clk.ticks / 1500, (if u.1 = s.clk.ticks / 1500 then u.2 else 0) + len)

/-- The next packet that pipeline `k` serves (R274), taken from where it waits. -/
def nextPacket (s : State) (n k : Nat) : State × Option PPkt :=
  let x := (pkt s n).prs
  let first := Tab.getD x.inq k []
  let u := if k < 4 then x.recUs0 else x.recUs1
  match takePipe (if k < 4 then x.rec0 else x.rec1) k with
  | some (p, rest) =>
    if recFirst s u || first.isEmpty then
      let u' := recShare s u p.bytes.length
      let s := modPrs s n (fun x => if k < 4 then { x with rec0 := rest, recUs0 := u' } else { x with rec1 := rest, recUs1 := u' })
      (recFull (recUse s n) n k false, some p)
    else (modPrs s n (fun x => { x with inq := Tab.set x.inq k (first.drop 1) }), first.head?)
  | none =>
    match first with
    | [] => (s, none)
    | p :: rest => (modPrs s n (fun x => { x with inq := if rest.isEmpty then Tab.del x.inq k else Tab.set x.inq k rest }), some p)

/-- Pipeline `k` of region `n` makes passes until no packet waits there. -/
def drainPipe (s : State) (n k fuel : Nat) : State := match fuel with
  | 0 => s
  | fuel + 1 => match nextPacket s n k with
    | (s, some p) => drainPipe (pass s n p) n k fuel
    | (s, none) => s

/-- The pipelines and the recirculation queues of region `n` empty: a packet makes at most four passes (R290). -/
def drainPipes (s : State) (n : Nat) : State :=
  let x := (pkt s n).prs
  let fuel := 4 * (x.inq.foldl (fun k e => k + e.2.length) (x.rec0.length + x.rec1.length)) + 1
  (List.range 8).foldl (fun s k => drainPipe s n k fuel) s

/-! ### Frames from the line -/

/-- A firmware message (R117) goes to the slow-path ring of its SID's region. The manual gives it no descriptor code and no
owner: a free value, and owner 0. -/
def firmwareMessage (s : State) (n : Nat) (p : PPkt) : State :=
  match slowRefuse s n with
  | some c => dispCount (slowRefused s n p c) n p c
  | none =>
    match alloc (slowSpend s n) n 0 none p.bytes with
    | (s, .error c) => bpmDiscard s n c
    | (s, .ok b) =>
      let s := match bufOf s n b with
        | some x => settleBuf s n b { x with refPin := x.refPin + 1, refQ := x.refQ - 1 }
        | none => s
      stepFree (slowDescriptor s n p b (freeVal s % 256) p.bytes.length false)

/-- A frame from the line die enters its packet region: the pipelines, or the slow path for a firmware message. -/
def lineFrame (s : State) (n : Nat) (p : PPkt) (fw : Bool) : State :=
  if fw then firmwareMessage s n p else ingress s n p

/-- PRS_PASS (R273): the next packet of pipeline `k` makes one pass; a region in DIM or OFF, or isolated, makes none. -/
def execPrsPass (n : PktRegion) (k : Fin 8) (s : State) : Host.Outcome State Fault Refusal :=
  finish s (if regionStopped s n.val then s
    else match nextPacket s n.val k.val with
      | (s, some p) => pass s n.val p
      | (s, none) => s)

end Sys2Proof.Machine
end

