-- ==== Sys2Proof/Machine/Rings.lean ====
section
/-!
DEFINITION. The host interface (R383 to R406): rings, held references, P0 challenge and response, function-level resets.
-/
namespace Sys2Proof.Machine
open Sys2Proof

/-- Change the host interface's store. -/
def modHif (s : State) (f : Hif → Hif) : State := { s with hif := f s.hif }

/-- Count a frame that HIF discards (R402). -/
def hifDiscard (s : State) (code : Nat) : State := discard s (F.HIF_DISC_count (code - 0x78)) code

/-- Whether a function is in its FLR (R403). -/
def inFlr (s : State) (fn : Nat) : Bool := bit (get s F.HIF_FLR_STATUS_fn) fn

/-- A write of a ring's registers (R395): by its owner, or at P0; anything else is discarded and counted as denied. During
the owner's FLR it is discarded (R403). -/
def ringWrite (s : State) (r : Requester) (a owner : Nat) (k : State → State) : State :=
  if isP0 s r || decide (reqNum r = owner) then onWrite s r a (fun s => if inFlr s owner then s else k s)
  else deny s r a true

/-! ### Stopping rings (R403) -/

/-- Release every reference that receive ring `t` holds. -/
def releaseHolds (s : State) (t : Nat) : State :=
  let mine := s.hif.held.filter (fun h => decide (h.ring = t))
  let s := modHif s (fun h => { h with held := h.held.filter (fun x => decide (x.ring ≠ t)) })
  put (mine.foldl (fun s h => relPin s h.region h.handle) s) (F.HIF_RX_HELD_count t) 0

/-- Stop transmit ring `t`: no further descriptor, write-backs discarded, head and tail 0. -/
def stopTx (s : State) (t : Nat) : State :=
  let s := modHif s (fun h => { h with
    inFlight := (h.inFlight.filter (fun f => !(decide (f.ring = t) && f.done))).map
      (fun f => if f.ring = t then { f with dead := true } else f)
    coal := Tab.del h.coal t })
  let s := putB s (F.HIF_TX_CFG_en t) false
  put (put (put s (F.HIF_TX_HEAD_index t) 0) (F.HIF_TX_TAIL_index t) 0) (F.HIF_TX_READ_index t) 0

/-- Stop receive ring `t`. -/
def stopRx (s : State) (t : Nat) : State :=
  let s := modHif (releaseHolds s t) (fun h => { h with coal := Tab.del h.coal (64 + t) })
  let s := putB s (F.HIF_RX_CFG_en t) false
  put (put s (F.HIF_RX_HEAD_index t) 0) (F.HIF_RX_TAIL_index t) 0

/-- Stop every ring of function `fn`. [DEDUCED: log 112] -/
def stopRingsOf (s : State) (fn : Nat) : State :=
  (List.range 64).foldl (fun s t =>
    let s := if txOwner s t = fn then stopTx s t else s
    if rxOwner s t = fn then stopRx s t else s) s

/-! ### Transmit rings (R396 to R398) -/

/-- The first row of R397 that refuses a descriptor: its code. -/
def txRefuse (s : State) (t : Nat) (d : TxDesc) : Option Nat :=
  if d.len = 0 ∨ 16384 < d.len then some 0x79
  else if d.len < 60 ∧ !getB s (F.HIF_TX_CFG_pad_en t) then some 0x78
  else if d.len < 14 then some 0x79
  else if d.bad then some 0x7A
  else if regionClosed s (t / 16) then some 0x7C
  else none

/-- Whether ring fetch of packet region `n` has stopped with F1 (R455): it is isolated or held. While it is reset and restarts, HIF
refuses its descriptors instead (R397). [DEDUCED: log 222] -/
def fetchStopped (s : State) (n : Nat) : Bool :=
  let f := Tab.getD s.flt.regions n {}
  decide (f.step = 1) || f.held

/-- Whether a frame of transmit ring `t` still waits for its buffer (R330): the ring's frames enter in their order (R396). -/
def txWaits (s : State) (t : Nat) : Bool :=
  (pkt s (t / 16)).bpm.retry.any (fun r => r.inject.isSome && r.frame.tx.any (fun x => decide (x.ring = t)))

/-- Whether HIF may take a descriptor of transmit ring `t` now. [DEDUCED: log 114] -/
def txReady (s : State) (t : Nat) : Bool :=
  getB s (F.HIF_TX_CFG_en t) && decide (txOwner s t ≠ 0xFF) && !inFlr s (txOwner s t) && s.pins.perstN &&
  !regionEntering s (t / 16) && !fetchStopped s (t / 16) && !isolated s 5 && !txWaits s t && decide (get s (F.HIF_TX_READ_index t) ≠ get s (F.HIF_TX_TAIL_index t))

/-- HIF takes the next descriptor of ring `t` (R395, R398): its flight and the reference to it. -/
def takeDescriptor (s : State) (t : Nat) : State × TxRef :=
  let idx := get s (F.HIF_TX_READ_index t)
  let tag := s.hif.nextTag
  let desc := get s (F.HIF_TX_BASE_addr t) + 32 * idx
  let s := put s (F.HIF_TX_READ_index t) ((idx + 1) % ringLen (get s (F.HIF_TX_SIZE_log2 t)))
  (modHif s (fun h => { h with nextTag := tag + 1, inFlight := h.inFlight ++ [⟨t, idx, desc, false, false, tag⟩] }), ⟨t, tag⟩)

/-- HIF refuses a descriptor under R397 and writes it back at once. -/
def txRefused (s : State) (ref : TxRef) (c : Nat) : State :=
  let s := hifDiscard s c
  writeBack (if c = 0x7A then raiseGrey s F.HIF_EVENT_dma_err else s) ref 0 c false false false

/-- Take descriptor `d` of ring `t` (R396 to R398). [DEDUCED: log 114] -/
def txDescriptor (s : State) (t : Nat) (d : TxDesc) : State :=
  let (s, ref) := takeDescriptor s t
  match txRefuse s t d with
  | some c => txRefused s ref c
  | none =>
    let bs := padTo 60 (d.bytes.take d.len ++ List.replicate (d.len - d.bytes.length) 0)
    let s := monIn (inc s (F.HIF_TX_FRAMES_count t)) 5 0x1A [] bs.length
    injectTo s (t / 16) (4 + t % 4) (get s (F.HIF_TX_CFG_owner t)) (some ref) bs none

/-! ### Receive rings (R399 to R401) -/

/-- Whether receive ring `t` discards what its roots dequeue: disabled or without an owner (R401). -/
def rxDrains (s : State) (t : Nat) : Bool := !getB s (F.HIF_RX_CFG_en t) || decide (rxOwner s t = 0xFF)

/-- Whether receive ring `t` has a free descriptor (R304, R395); while the control region is isolated, what its roots dequeue is
discarded at the line die (R457). [DEDUCED: log 148] -/
def rxReady (s : State) (t : Nat) : Bool :=
  rxDrains s t || isolated s 5 || (s.pins.perstN && !inFlr s (rxOwner s t) &&
    decide (get s (F.HIF_RX_HEAD_index t) ≠ get s (F.HIF_RX_TAIL_index t)))

/-- The 32 bytes of a written-back receive descriptor (R399). -/
def rxDescBytes (addr len flags src ts meta_ inId handle owner cls sid : Nat) : List Byte :=
  leBytes 8 addr ++ leBytes 2 len ++ leBytes 1 flags ++ leBytes 1 src ++ leBytes 4 ts ++ leBytes 2 meta_ ++
  leBytes 1 inId ++ leBytes 1 0 ++ leBytes 6 handle ++ leBytes 2 (owner % 4096 + 4096 * (cls % 8)) ++ leBytes 3 sid ++ leBytes 1 0

/-- Write back the descriptor at ring `t`'s head, advance the head and signal it (R399, R405). [DEDUCED: log 148] -/
def rxWriteBack (s : State) (t : Nat) (d : List Byte) : State :=
  let h := get s (F.HIF_RX_HEAD_index t)
  let s := emit s (.hostWrite (rxOwner s t) (get s (F.HIF_RX_BASE_addr t) + 32 * h) d)
  let s := put s (F.HIF_RX_HEAD_index t) ((h + 1) % ringLen (get s (F.HIF_RX_SIZE_log2 t)))
  coalesce s (64 + t) (rxOwner s t) (get s (F.HIF_RX_CFG_coal_n t))

/-- Deliver a frame that a host root of region `n` has dequeued into ring `t`'s posted descriptor (R399 to R401). [DEDUCED: log 148] -/
def rxDeliver (s : State) (n t : Nat) (f : QFrame) (post : RxPost) : State :=
  let bs := (bufBytes s n f.bid).take f.len
  let lose := fun (s : State) (code : Nat) =>
    frameLost (hifDiscard (relEntry s n f) code) n f.ing (f.ts && !f.copy) f.tx f.meta_ f.q code bs
  if isolated s 5 then frameLost (linkDiscard (relEntry s n f) n) n f.ing (f.ts && !f.copy) f.tx f.meta_ f.q 0 bs
  else if rxDrains s t then lose s 0x7B
  else if post.bad then
    raiseGrey (rxWriteBack (lose s 0x7A) t (rxDescBytes post.addr 0 1 0 0 0 0 0 0 0 0)) F.HIF_EVENT_dma_err
  else
    let h := get s (F.HIF_RX_HEAD_index t)
    let idx := h
    let full := decide (ringLen (get s (F.HIF_RX_SIZE_log2 t)) ≤ get s (F.HIF_RX_HELD_count t))
    let hold := getB s (F.HIF_RX_CFG_hold t) && !full && (takePin s n f.bid).isSome
    let (handle, owner) := match bufOf s n f.bid with
      | some x => (handleOf n (x.cell.getD 0), 1024 * n + x.owner)
      | none => (0, 0)
    let (ts, stale) := descTime s f.ing.raw
    let flags := 1 + 2 + 4 * b2n stale + 8 * b2n (decide (post.bufLen < bs.length)) + 32 * b2n hold
    let s := emit s (.hostWrite (rxOwner s t) post.addr (bs.take post.bufLen))
    let s := rxWriteBack s t (rxDescBytes post.addr bs.length flags f.ing.kind ts f.meta_ f.ing.id (if hold then handle else 0)
      owner f.cls (if f.src = 1 then f.sid else 0))
    let s := monOut (inc s (F.HIF_RX_FRAMES_count t)) 5 0x1A [] bs.length
    let s := if f.ts && !f.copy then tsqPush s n f.ing 2 t 0 (rawTime s) f.meta_ f.q bs else s
    let s := if hold then
        let s := match takePin s n f.bid with
          | some s => s
          | none => s
        let s := modHif s (fun x => { x with held := x.held ++ [⟨t, idx, n, f.bid, owner⟩] })
        put s (F.HIF_RX_HELD_count t) (get s (F.HIF_RX_HELD_count t) + 1)
      else s
    fate (relEntry s n f) f.tx 0 none

/-- Deliver an MCH message to ring `t` (R134, R399). -/
def rxMessage (s : State) (t : Nat) (msg : List Byte) (post : RxPost) : State :=
  if post.bad then
    raiseGrey (rxWriteBack (hifDiscard s 0x7A) t (rxDescBytes post.addr 0 1 0 0 0 0 0 0 0 0)) F.HIF_EVENT_dma_err
  else
    let flags := 1 + 8 * b2n (decide (post.bufLen < msg.length)) + 16
    let s := emit s (.hostWrite (rxOwner s t) post.addr (msg.take post.bufLen))
    inc (rxWriteBack s t (rxDescBytes post.addr msg.length flags 0 0 0 0 0 0 0 0)) (F.HIF_RX_FRAMES_count t)

/-- Release the reference that ring `t` holds for descriptor `i` (R400). -/
def rxRelease (s : State) (t i : Nat) : State :=
  match s.hif.held.find? (fun h => decide (h.ring = t) && decide (h.idx = i)) with
  | none => s
  | some h =>
    let s := modHif s (fun x => { x with held := dropFirst (fun y => decide (y = h)) x.held })
    relPin (put s (F.HIF_RX_HELD_count t) (get s (F.HIF_RX_HELD_count t) - 1)) h.region h.handle

/-! ### P0 (R387) -/

/-- Eight words, or twenty-four, of a register array as bytes, the first in the top byte of word 0. -/
def wordsBytes (s : State) (f : Nat → Fld) (k : Nat) : List Byte := (List.range k).flatMap (fun w => beBytes 4 (get s (f w)))

/-- Put bytes into a register array. -/
def putWords (s : State) (f : Nat → Fld) (k : Nat) (bs : List Byte) : State :=
  (List.range k).foldl (fun s w => put s (f w) (be bs (4 * w) 4)) s

/-- The terminal's LSI. -/
def lsi (s : State) : Nat := get s F.ACT_LSI_lsi

/-- The message of a challenge response (R387). -/
def p0Message (s : State) : List Byte :=
  Config.sha384 (wordsBytes s F.HIF_P0_NONCE_bits 8 ++ beBytes 8 (lsi s) ++ [0x50, 0x30])

/-- A write of HIF_P0_CTRL.challenge (R387). The warden answers it while it runs. [DEDUCED: log 111] -/
def p0Challenge (s : State) : State :=
  if s.hif.locked then put s F.HIF_P0_CTRL_result 3
  else if s.wrd.down then s
  else
    let s := putWords s F.HIF_P0_NONCE_bits 8 (freeBytes s 32)
    modHif (stepFree (put s F.HIF_P0_CTRL_result 0)) (fun h => { h with nonceAt := some s.clk.ticks })

/-- A write of HIF_P0_CTRL.respond (R387): the nonce admits this one response. [DEDUCED: log 111] -/
def p0Respond (s : State) : State :=
  modHif s (fun h => { h with verifying := true })

/-- The warden writes the outcome of a response (R387). [DEDUCED: log 111] -/
def p0Verify (s : State) : State :=
  if !s.hif.verifying || s.wrd.down then s
  else
    let fresh := match s.hif.nonceAt with
      | some t => decide (s.clk.ticks - t ≤ usTicks 10000000)
      | none => false
    let ok := fresh && Config.ecdsaVerify s.flash.rootKey (p0Message s) (wordsBytes s F.HIF_P0_SIG_bits 24)
    let s := modHif s (fun h => { h with verifying := false, nonceAt := none })
    if ok then modHif (put s F.HIF_P0_CTRL_result 1) (fun h => { h with fails := 0, p0 := true })
    else
      let n := s.hif.fails + 1
      let s := modHif (put s F.HIF_P0_CTRL_result 2) (fun h => { h with fails := n % 3, locked := h.locked || decide (3 ≤ n) })
      raise s F.HIF_EVENT_p0_fail .amber 0

/-! ### The commands -/

/-- WRITEBACK_TIMEOUT (R398): the descriptor at index `i` of ring `t`. -/
def execWritebackTimeout (t : Fin 64) (i : Fin 65536) (s : State) : Host.Outcome State Fault Refusal :=
  finish s (match s.hif.inFlight.find? (fun f => decide (f.ring = t.val) && decide (f.idx = i.val) && !f.done && !f.dead) with
    | some f => raiseGrey (writeBack s ⟨t.val, f.tag⟩ 0 0 false false true) F.HIF_EVENT_wb_timeout
    | none => s)

/-- RX_RELEASE (R400). -/
def execRxRelease (r : Requester) (t : Fin 64) (i : Fin 65536) (s : State) : Host.Outcome State Fault Refusal :=
  finish s (ringWrite s r R.HIF_RX_REL (rxOwner s t.val) (fun s => rxRelease s t.val i.val))

/-- INTERRUPT_COALESCE_TIMEOUT (R405): a receive ring with coal_us raises its vector for what is not yet signalled; a
transmit ring has no such time. -/
def execInterruptCoalesceTimeout (id : RingId) (s : State) : Host.Outcome State Fault Refusal :=
  let t := id.idx.val
  finish s (match id.kind with
    | .tx => s
    | .rx =>
      if Tab.getD s.hif.coal (64 + t) 0 ≠ 0 ∧ get s (F.HIF_RX_CFG_coal_us t) ≠ 0 then
        deliverOwned (modHif s (fun h => { h with coal := Tab.del h.coal (64 + t) })) (64 + t) (rxOwner s t)
      else s)

/-- RING_DISABLE (R403). -/
def execRingDisable (r : Requester) (id : RingId) (s : State) : Host.Outcome State Fault Refusal :=
  let t := id.idx.val
  finish s (match id.kind with
    | .tx => ringWrite s r (R.HIF_TX_CFG t) (txOwner s t) (fun s => stopTx s t)
    | .rx => ringWrite s r (R.HIF_RX_CFG t) (rxOwner s t) (fun s => stopRx s t))

/-- FLR (R403): the function's MSI-X table and pending bits are reset with it. -/
def execFlr (fn : Fin 16) (s : State) : Host.Outcome State Fault Refusal :=
  let t := put (stopRingsOf s fn.val) F.HIF_FLR_STATUS_fn (get s F.HIF_FLR_STATUS_fn ||| 2 ^ fn.val)
  let t := modHif t (fun h => { h with table := h.table.filter (fun e => decide (e.1 / 128 ≠ fn.val)), pba := h.pba.filter (fun v => decide (v / 128 ≠ fn.val)) })
  finish s (raiseGrey (if fn.val = 0 then dropP0 t else t) F.HIF_EVENT_flr)

/-- FLR_COMPLETE (R403). -/
def execFlrComplete (fn : Fin 16) (s : State) : Host.Outcome State Fault Refusal :=
  finish s (put s F.HIF_FLR_STATUS_fn (setBits (get s F.HIF_FLR_STATUS_fn) fn.val 1 0))

/-- PERST_N_ASSERT (R385). -/
def execPerstNAssert (s : State) : Host.Outcome State Fault Refusal :=
  let t := (List.range 16).foldl stopRingsOf (dropP0 s)
  let t := put (put (put t F.HIF_LINK_speed 0) F.HIF_LINK_width 0) F.HIF_LINK_flit 0
  let t := modHif { t with pins := { t.pins with perstN := false } } (fun h => { h with nonceAt := none, verifying := false, table := [], pba := [], raised := [] })
  finish s (put (clearHif t) F.HIF_FLR_STATUS_fn 0)
where
  /-- The control registers of HIF return to their reset words (R385). -/
  clearHif (s : State) : State :=
    { s with regs := Tab.keep s.regs (fun a => !(decide (0xB00000 < a) && decide (a < 0xC00000))) }

/-- PCIE_LINK_TRAINED (R383): speed code 1 to 6 and width. -/
def execPcieLinkTrained (speed : Fin 7) (width : Fin 17) (s : State) : Host.Outcome State Fault Refusal :=
  let t := put (put s F.HIF_LINK_speed speed.val) F.HIF_LINK_width width.val
  finish s { putB t F.HIF_LINK_flit (decide (speed.val = 6)) with pins := { s.pins with perstN := true } }

/-- P0_CHALLENGE (R387). -/
def execP0Challenge (r : Requester) (s : State) : Host.Outcome State Fault Refusal :=
  finish s (onWrite s r R.HIF_P0_CTRL p0Challenge)

/-- P0_RESPOND (R387). -/
def execP0Respond (r : Requester) (s : State) : Host.Outcome State Fault Refusal :=
  finish s (onWrite s r R.HIF_P0_CTRL p0Respond)

/-- P0_VERIFY_DONE (R387). -/
def execP0VerifyDone (s : State) : Host.Outcome State Fault Refusal := finish s (p0Verify s)

/-- P0_LOCKOUT_EXPIRE (R387). -/
def execP0LockoutExpire (s : State) : Host.Outcome State Fault Refusal :=
  finish s (modHif s (fun h => { h with locked := false }))

/-- P0_DROP (R388). -/
def execP0Drop (r : Requester) (s : State) : Host.Outcome State Fault Refusal :=
  finish s (onWrite s r R.HIF_P0_CTRL dropP0)

end Sys2Proof.Machine
end

