-- ==== Sys2Proof/Machine/Cmc.lean ====
section
/-!
DEFINITION. Client ports (R251 to R271): link states, the MAC in both directions, flow control, transparent mapping; and
the service of port and host roots by TMG (R304, R305).
-/
namespace Sys2Proof.Machine
open Sys2Proof

/-- Count a frame that CMC discards (R262). -/
def cmcDiscard (s : State) (n l code : Nat) : State := discardOf s (F.CMC_DISC_count n code) code [(1, 32 * n + l)]

/-! ### The mapper (R255, R256) -/

/-- A record header of the container stream (R255). -/
def recordHdr (kind len : Nat) (err : Bool) (os : Nat) : List Byte :=
  let body := beBytes 7 (kind * 2 ^ 54 + len * 2 ^ 39 + b2n err * 2 ^ 38 + os)
  body ++ [BitVec.ofNat 8 (crc8 body)]

/-- Whether container `t` takes bytes from its mapper (R186): in T4, while its standing windows are not left unused. -/
def isCarried (s : State) (t : Nat) : Bool :=
  getB s (F.UPB_TRIB_CFG_valid t) && decide (actState s (pathOf (get s (F.UPB_TRIB_CFG_path t))) = 4) && !(Tab.getD s.upb.tribs t {}).unused

/-- Bytes of the records that a mapper holds. -/
def streamLen (l : List (Bool × List Byte)) : Nat := l.foldl (fun k r => k + r.2.length) 0

/-- The elastic buffer of container `t` drained up to now at the container's rate (R256): 50 or 25 thirds of a byte in a core tick. -/
def drained (s : State) (t : Nat) : TribTx :=
  let x := Tab.getD s.upb.tribs t {}
  let rate := if get s (F.UPB_TRIB_CFG_rate t) = 1 then 50 else 25
  let more := if isCarried s t then rate * (s.clk.ticks - x.at_) else 0
  { x with moved := min (3 * streamLen x.buffer) (x.moved + more), at_ := s.clk.ticks }

/-- Put a record into the stream of container `t` (R256): `none` where a frame does not fit into the elastic buffer of 32 KiB.
[DESIGN CHOICE: log 71] -/
def mapRecord (s : State) (t : Nat) (frame : Bool) (r : List Byte) : Option State :=
  let x := drained s t
  if frame ∧ 3 * 32768 < 3 * (streamLen x.buffer + r.length) - x.moved then none
  else some { s with upb := { s.upb with tribs := Tab.set s.upb.tribs t { x with buffer := x.buffer ++ [(frame, r)] } } }

/-- A frame does not fit into the elastic buffer of port `l` (R256, R262, R266). -/
def tribOverrun (s : State) (n l : Nat) : State :=
  raiseGrey (statAdd (cmcDiscard s n l 0x08) n l 43 1) (F.CMC_PORT_EVENT_trib_overrun n l)

/-- The records that 32 KiB hold, in their order, and how many frames do not fit (R256). -/
def keepRecords (room : Nat) (l : List (Bool × List Byte)) : List (Bool × List Byte) × Nat := match l with
  | [] => ([], 0)
  | r :: rest =>
    if r.1 ∧ room < r.2.length then
      let (k, lost) := keepRecords room rest
      (k, lost + 1)
    else
      let (k, lost) := keepRecords (room - r.2.length) rest
      (r :: k, lost)

/-- A standing window of container `t` goes unused: none of its mapper's records has left the elastic buffer, and the frames that do
not fit into it are lost (R186, R256). [DESIGN CHOICE: log 71] -/
def mapperHeld (s : State) (t : Nat) : State :=
  let x := Tab.getD s.upb.tribs t {}
  let (kept, lost) := keepRecords 32768 x.buffer
  let s := { s with upb := { s.upb with tribs := Tab.set s.upb.tribs t { x with buffer := kept, moved := 0, at_ := s.clk.ticks, unused := true } } }
  let k := get s (F.UPB_TRIB_PORT_port t)
  (List.range lost).foldl (fun s _ => tribOverrun s (k / 32) (k % 32)) s

/-- The ordered-set record of a transparent port's received ordered set (R256). -/
def mapOrderedSet (s : State) (n l : Nat) : State :=
  match upContainer s (32 * n + l) with
  | some t => (mapRecord s t false (recordHdr 2 0 false (portSt s n l).osRx)).getD s
  | none => s

/-- The received sequence ordered set of a port becomes `os`, 0 for none; a transparent port maps a change (R256). -/
def receivedSet (s : State) (n l os : Nat) : State :=
  if (portSt s n l).osRx = os then s
  else
    let s := modPort s n l (fun p => { p with osRx := os })
    if isTransparent s n l then mapOrderedSet s n l else s

/-! ### Link states (R258) -/

/-- Put a port's link state, with the events of gaining and losing the link. -/
def setLink (s : State) (n l v : Nat) : State :=
  let was := portLink s n l
  let s := put s (F.CMC_PORT_STATUS_link n l) v
  let s := if v = 3 ∧ was = 2 then raiseGrey s (F.CMC_PORT_EVENT_link_up n l) else s
  if v < 3 ∧ 3 ≤ was then
    let s := putB (putB s (F.CMC_PORT_STATUS_rx_lf n l) false) (F.CMC_PORT_STATUS_rx_rf n l) false
    raiseGrey (receivedSet s n l 0) (F.CMC_PORT_EVENT_link_down n l)
  else s

/-- A lane's receiver has no signal, no clock and no adaptation. -/
def laneDown (s : State) (n k : Nat) : State :=
  putB (putB (putB s (F.CMC_LANE_STATUS_sig n k) false) (F.CMC_LANE_STATUS_cdr_lock n k) false) (F.CMC_LANE_STATUS_adapted n k) false

/-- A port starts again from DOWN (R258, R271): a change by a commit or a seal, a wake, a reset. -/
def portDown (s : State) (n l : Nat) : State :=
  setLink ((portLanes s n l).foldl (fun s k => laneDown s n k) s) n l 0

/-- What a changed port holds of its container streams is discarded (R271): frame records of the elastic buffer as frames being
received, which a seal counts, those not yet demapped as frames being transmitted. `ts` are the containers it feeds or fed. Its requests
for a pause end with its pause state. [DESIGN CHOICE: log 49] -/
def streamDropped (s : State) (n l : Nat) (ts : List Nat) (sealed : Bool) : State :=
  let x := portSt s n l
  let s := ts.foldl (fun s t =>
    let k := ((Tab.getD s.upb.tribs t {}).buffer.filter (fun r => r.1)).length
    let s := if sealed then put s (F.CMC_SEAL_DROP_count n) (sat 0xFFFFFFFF (get s (F.CMC_SEAL_DROP_count n) + k)) else s
    { s with upb := { s.upb with tribs := Tab.upd s.upb.tribs t {} (fun x => { x with buffer := [], moved := 0 }) } }) s
  let k := frameRecords x.demap.length (x.demap.map (fun e => e.1))
  let s := (List.range k).foldl (fun s _ => statAdd (cmcDiscard s n l 0x07) n l 32 1) s
  modPort s n l (fun x => { x with osRx := 0, osTx := 0, demap := [], txReq := 0 })

/-- A port that a seal or a commit has changed (R271): DOWN, its pause state cleared, its frames in flight discarded. [DESIGN CHOICE: log 49] -/
def portChanged (s : State) (n l : Nat) (ts : List Nat) (sealed : Bool) : State :=
  let s := match (portSt s n l).tx with
    | some (f, bs) =>
      let s := statAdd (cmcDiscard (modPort s n l (fun p => { p with tx := none })) n l 0x07) n l 32 1
      frameLost s n f.ing f.ts f.tx f.meta_ f.q 0x07 bs
    | none => s
  let s := put (put (put s (F.CMC_PORT_STATUS_peer_paused n l) 0) (F.CMC_PORT_STATUS_pw_broken n l) 0) (F.CMC_PORT_STATUS_tx_paused n l) 0
  portDown (streamDropped s n l ts sealed) n l

/-- Every port of region `n` starts again from DOWN, as after a wake (R259, R419). -/
def portsDown (s : State) (n : Nat) : State :=
  (List.range 32).foldl (fun s l => if portLink s n l = 0 then s else portDown s n l) s

/-- Whether the client receivers of region `n` run: it is ON with no entry on its way, its HBM stack is trained (R411), no pad is
latched and FLT does not isolate it (R259, R413, R416, R455). [DEDUCED: log 222] -/
def lanesRun (s : State) (n : Nat) : Bool :=
  decide (get s (F.PWR_D_STATE_state n) = 0) && !regionEntering s n && getB s (F.MEM_STATUS_hbm_ready n) &&
  !getB s (F.PWR_D_STATE_pads n) && !isolated s n

/-! ### Receive (R260, R263, R264) -/

/-- A pause for priority `p` with `q` quanta (R263): 0 ends it; one the watchdog has broken is ignored (R264). -/
def pauseRx (s : State) (n l p q : Nat) : State :=
  let f := F.CMC_PORT_STATUS_peer_paused n l
  if q = 0 then put s f (setBits (get s f) p 1 0)
  else if bit (get s (F.CMC_PORT_STATUS_pw_broken n l)) p then s
  else put s f (setBits (get s f) p 1 1)

/-- A MAC control frame (R263). -/
def macControlRx (s : State) (n l : Nat) (bs : List Byte) : State :=
  let m := get s (F.CMC_PORT_FC_mode n l)
  let op := be bs 14 2
  if op = 0x0001 ∧ m = 1 then pauseRx s n l 0 (be bs 16 2)
  else if op = 0x0101 ∧ m = 2 then
    (List.range 8).foldl (fun s p =>
      if bit (be bs 16 2) p && bit (get s (F.CMC_PORT_FC_rx_mask n l)) p then pauseRx s n l p (be bs (18 + 2 * p) 2) else s) s
  else s

/-- A received Ethernet frame of an UP port (R260), `bs` from DA to FCS, `pcs` a PCS error or an uncorrectable codeword. -/
def frameRx (s : State) (n l : Nat) (bs : List Byte) (pcs : Bool) : State :=
  let maxlen := get s (F.CMC_PORT_MAC_maxlen n l)
  let len := bs.length
  let s := statAdd s n l 2 (min len (maxlen + 1))
  let good := decide (beNat (bs.drop (len - 4)).reverse = fcs (bs.take (len - 4)))
  let s := sizeAdd s n l 11 maxlen len
  if pcs then statAdd (cmcDiscard s n l 4) n l 10 1
  else if len < 64 then statAdd (cmcDiscard s n l 1) n l 8 1
  else if maxlen < len then statAdd (cmcDiscard s n l 2) n l 9 1
  else if !good then statAdd (cmcDiscard s n l 3) n l 7 1
  else if be bs 12 2 = 0x8808 then macControlRx (statAdd s n l 6 1) n l bs
  else
    let s := statAdd (statAdd (statAdd s n l 0 1) n l 1 len) n l (3 + castOf bs) 1
    let s := monIn s n 0x20 [(1, 32 * n + l)] len
    ingress s n {
      bytes := bs.take (len - 4), src := 0, port := l, pipe := l / 8,
      ing := { kind := 0, id := 32 * n + l, raw := clientRxRaw s (32 * n + l), tc := getB s (F.TSU_PORT_CFG_tc_en (32 * n + l)) } }

/-- CLIENT_FRAME_RX (R260): a frame of an UP Ethernet port; `corr` and `uncorr` count its FEC codewords. -/
def execClientFrameRx (n : PktRegion) (l : Fin 32) (bs : List Byte) (pcs : Bool) (corr uncorr : Nat) (s : State) :
    Host.Outcome State Fault Refusal :=
  finish s (if isEth s n.val l.val && decide (portLink s n.val l.val = 3) && lanesRun s n.val then
      let t := statAdd (statAdd s n.val l.val 21 corr) n.val l.val 22 uncorr
      if portQuiesced t n.val l.val || bit t.epc.quiesced.regions n.val then inc t F.EPC_QDROP_count
      else frameRx t n.val l.val bs (pcs || decide (uncorr ≠ 0))
    else s)

/-! ### Transmit (R261) -/

/-- A frame of the MAC is lost with `code`, counted in counter `i` of the port. -/
def txLost (s : State) (n l : Nat) (f : QFrame) (bs : List Byte) (code i : Nat) : State :=
  frameLost (statAdd (cmcDiscard s n l code) n l i 1) n f.ing f.ts f.tx f.meta_ f.q code bs

/-- The MAC handles the frame it has taken (R261, R359). -/
def frameTx (s : State) (n l : Nat) (f : QFrame) (bs : List Byte) : State :=
  let pad := getB s (F.CMC_PORT_MAC_pad_en n l)
  if bs.length < 60 ∧ !pad then txLost s n l f bs 0x06 30
  else
    let bs := padTo 60 bs
    let len := bs.length + 4
    if get s (F.CMC_PORT_MAC_maxlen n l) < len then txLost s n l f bs 0x05 29
    else if portLink s n l ≠ 3 then txLost s n l f bs 0x07 32
    else
      let p := 32 * n + l
      let x := clientTxRaw s p
      let (s, bs) := tcCorrect s f.ing (getB s (F.TSU_PORT_CFG_tc_en p)) x bs
      let s := emit s (.clientFrame n l (withFcs bs f.errored) f.errored)
      let s := if f.errored then raiseGrey (statAdd s n l 31 1) (F.CMC_PORT_EVENT_tx_errored n l)
        else statAdd (statAdd (statAdd s n l 23 1) n l 24 len) n l (25 + castOf bs) 1
      let s := monOut (statAdd s n l (33 + sizeBucket len) 1) n 0x20 [(1, p)] len
      let s := if f.ts then tsqPush s n f.ing 0 p 0 x f.meta_ f.q bs else s
      fate s f.tx 0 (some (descTime s x))

/-- CLIENT_FRAME_TX (R261): not while a lane of the port is quiesced (R74) or the region does no work (R455); the MAC is an Ethernet port's (R254). -/
def execClientFrameTx (n : PktRegion) (l : Fin 32) (s : State) : Host.Outcome State Fault Refusal :=
  finish s (match (portSt s n.val l.val).tx with
    | some (f, bs) =>
      if portQuiesced s n.val l.val ∨ !isEth s n.val l.val ∨ regionStopped s n.val then s
      else frameTx (modPort s n.val l.val (fun p => { p with tx := none })) n.val l.val f bs
    | none => s)

/-- A root other than an AID's serves one frame (R304, R305). -/
def serveRoot (s : State) (n m : Nat) (x : SNode) (post : RxPost) : State :=
  let e : PickEnv := ⟨n, x, [], false⟩
  match pickRoot s e m with
  | none => s
  | some c => match takeFrame s e c with
    | (s, none) => s
    | (s, some f) =>
      if isPoisoned s n f.bid then poisonDrop s n f
      else if x.kind = 0 then
        let bs := (bufBytes s n f.bid).take f.len
        let s := relEntry s n f
        modPort s n (x.target % 32) (fun p => { p with tx := some ({ f with ts := f.ts && !f.copy }, bs) })
      else rxDeliver s n (x.target % 64) f post

/-- DEQUEUE (R305): root `m` of region `n` serves one frame when its MAC can take one or its ring has a free descriptor,
which is `post`; an AID root serves only at fill points. -/
def execDequeue (n : PktRegion) (m : Fin 4096) (post : RxPost) (s : State) : Host.Outcome State Fault Refusal :=
  finish s (if regionStopped s n.val then s
    else match snode s n.val m.val with
      | some x =>
        if x.kind = 0 ∧ x.parent.isNone ∧ isEth s n.val (x.target % 32) ∧ (portSt s n.val (x.target % 32)).tx.isNone ∧
            !portQuiesced s n.val (x.target % 32) then
          serveRoot s n.val m.val x post
        else if x.kind = 2 ∧ x.parent.isNone ∧ rxReady s (x.target % 64) then serveRoot s n.val m.val x post
        else s
      | none => s)

/-! ### Transparent ports (R255 to R257) -/

/-- A frame that a transparent port receives (R256), `err` a PCS error or an uncorrectable codeword; it counts by the first row of
R260 that applies, with 16,384 bytes for MAXLEN (R254, R266). [DEDUCED: log 192] -/
def transparentRx (s : State) (n l : Nat) (bs : List Byte) (err : Bool) : State :=
  let len := bs.length
  let s := sizeAdd (statAdd s n l 2 len) n l 11 16384 len
  let long := decide (16384 < len)
  let data := bs.take 16384
  let good := decide (beNat (bs.drop (len - 4)).reverse = fcs (bs.take (len - 4)))
  let s := if err then statAdd s n l 10 1
    else if len < 64 then statAdd s n l 8 1
    else if long then statAdd s n l 9 1
    else if !good then statAdd s n l 7 1
    else statAdd (statAdd (statAdd s n l 0 1) n l 1 len) n l (3 + castOf bs) 1
  match upContainer s (32 * n + l) with
  | none => s
  | some t => match mapRecord s t true (recordHdr 1 data.length (err || long || !good) 0 ++ data) with
    | some s => s
    | none => tribOverrun s n l

/-- The demapper transmits a frame record (R257): `data` as it came, or with its FCS inverted where a codeword or the next header
was `hurt`. It counts as sent in order only where its record says that it was received so. [DEDUCED: log 192] -/
def demapFrame (s : State) (n l : Nat) (data : List Byte) (err hurt : Bool) : State :=
  let len := data.length
  let out := if hurt then data.take (len - 4) ++ (data.drop (len - 4)).map (fun b => ~~~b) else data
  let s := sizeAdd (emit s (.clientFrame n l out hurt)) n l 33 16384 len
  if hurt then raiseGrey (statAdd s n l 31 1) (F.CMC_PORT_EVENT_tx_errored n l)
  else if err then s
  else statAdd (statAdd (statAdd s n l 23 1) n l 24 len) n l (25 + castOf data) 1

/-- Demap the next record of a port's downstream stream (R257). A frame record waits for the header after it, since one whose hec
fails finds the frame still in transmission. A quiesced port sends no frame (R74), nor one whose lane does not drive (R259, R419).
[DEDUCED: log 192] -/
def demap (s : State) (n l : Nat) : State :=
  let st := (portSt s n l).demap
  let bs := st.map (fun e => e.1)
  let next := fun k => modPort s n l (fun p => { p with demap := st.drop k })
  if bs.length < 8 then s
  else if !hdrGood8 bs then next (max 1 (nextHdr bs 0))
  else if recKind bs = 1 then
    let k := 8 + recLen bs
    let after := bs.drop k
    if after.length < 8 then s
    else if portQuiesced s n l then inc (next k) F.EPC_QDROP_count
    else if !laneDrives s n l then next k
    else demapFrame (next k) n l ((bs.drop 8).take (recLen bs)) (bit (be bs 0 7) 38)
      ((st.take k).any (fun e => e.2) || !hdrGood8 after)
  else if recKind bs = 2 then
    let os := be bs 0 7 % 2 ^ 32
    emitSet (modPort (next 8) n l (fun p => { p with osTx := os })) n l os
  else next 8

/-- TRANSPARENT_FRAME_RX (R256, R266): a frame of an UP transparent port, with what its lanes' PCS found. -/
def execTransparentFrameRx (n : PktRegion) (l : Fin 32) (bs : List Byte) (err : LaneErr) (s : State) :
    Host.Outcome State Fault Refusal :=
  finish s (if isTransparent s n.val l.val && decide (portLink s n.val l.val = 3) && lanesRun s n.val then
      let t := statAdd (statAdd s n.val l.val 21 err.corr) n.val l.val 22 err.uncorr
      if portQuiesced t n.val l.val then inc t F.EPC_QDROP_count
      else transparentRx t n.val l.val bs (err.pcs || decide (err.uncorr ≠ 0))
    else s)

/-- ORDERED_SET_REPEAT (R256): every 16 µs while a received ordered set persists. -/
def execOrderedSetRepeat (n : PktRegion) (l : Fin 32) (s : State) : Host.Outcome State Fault Refusal :=
  finish s (if isTransparent s n.val l.val && decide ((portSt s n.val l.val).osRx ≠ 0) then mapOrderedSet s n.val l.val else s)

/-- DEMAP_RECORD (R257): a region in DIM or OFF, or isolated, demaps nothing (R413, R455). -/
def execDemapRecord (n : PktRegion) (l : Fin 32) (s : State) : Host.Outcome State Fault Refusal :=
  finish s (if isTransparent s n.val l.val && !regionStopped s n.val then demap s n.val l.val else s)

/-- ORDERED_SET_TIMEOUT (R257): 64 µs without a repeat end the standing ordered set; local fault for want of a container stands on. -/
def execOrderedSetTimeout (n : PktRegion) (l : Fin 32) (s : State) : Host.Outcome State Fault Refusal :=
  finish s (if (portSt s n.val l.val).osTx = 0 then s
    else emitSet (modPort s n.val l.val (fun p => { p with osTx := 0 })) n.val l.val 0)

/-! ### Link events (R258) -/

/-- SIGNAL_DETECT: signal on every lane of a DOWN port whose lanes are enabled. -/
def execSignalDetect (n : PktRegion) (l : Fin 32) (s : State) : Host.Outcome State Fault Refusal :=
  finish s (if isPort s n.val l.val && decide (portLink s n.val l.val = 0) && lanesRun s n.val &&
      (portLanes s n.val l.val).all (fun k => bit (get s (F.CMC_LANE_EN_en n.val)) k) then
      setLink ((portLanes s n.val l.val).foldl (fun s k => putB s (F.CMC_LANE_STATUS_sig n.val k) true) s) n.val l.val 1
    else s)

/-- LANE_ADAPT_DONE: every lane has its clock and is adapted, with the lane SNR measured. -/
def execLaneAdaptDone (n : PktRegion) (l : Fin 32) (snr : BitVec 16) (s : State) : Host.Outcome State Fault Refusal :=
  finish s (if portLink s n.val l.val = 1 then
      setLink ((portLanes s n.val l.val).foldl (fun s k =>
        put (putB (putB s (F.CMC_LANE_STATUS_cdr_lock n.val k) true) (F.CMC_LANE_STATUS_adapted n.val k) true)
          (F.CMC_LANE_SNR_snr n.val k) snr.toNat) s) n.val l.val 2
    else s)

/-- ALIGN_LOCK: the port goes UP. -/
def execAlignLock (n : PktRegion) (l : Fin 32) (s : State) : Host.Outcome State Fault Refusal :=
  finish s (if portLink s n.val l.val = 2 then setLink s n.val l.val 3 else s)

/-- ALIGN_LOSS: an UP port, or one in FAULT, returns to ALIGN. -/
def execAlignLoss (n : PktRegion) (l : Fin 32) (s : State) : Host.Outcome State Fault Refusal :=
  finish s (if 3 ≤ portLink s n.val l.val then setLink s n.val l.val 2 else s)

/-- SIGNAL_LOSS: lane `k` of the port loses its signal. -/
def execSignalLoss (n : PktRegion) (l : Fin 32) (s : State) : Host.Outcome State Fault Refusal :=
  finish s (if portLink s n.val l.val ≠ 0 then portDown s n.val l.val else s)

/-- The data bytes of local and remote fault in IEEE 802.3. [PRESUMED: log 193] -/
def localFault : Nat := 1
/-- [PRESUMED: log 193] -/
def remoteFault : Nat := 2

/-- FAULT_ORDERED_SET_RX (R256, R258): a sequence ordered set with the data bytes `d`. Local or remote fault takes an Ethernet port to
FAULT, which answers local fault with remote fault and remote fault with idle; a transparent port maps whatever set changes. -/
def execFaultOrderedSetRx (n : PktRegion) (l : Fin 32) (d : BitVec 24) (s : State) : Host.Outcome State Fault Refusal :=
  let lk := portLink s n.val l.val
  let isFault := decide (d.toNat = localFault) || decide (d.toNat = remoteFault)
  finish s (if lk < 3 then s
    else if isTransparent s n.val l.val ∨ (isEth s n.val l.val ∧ isFault) then
      let t := putB (putB s (F.CMC_PORT_STATUS_rx_lf n.val l.val) (decide (d.toNat = localFault)))
        (F.CMC_PORT_STATUS_rx_rf n.val l.val) (decide (d.toNat = remoteFault))
      if isTransparent s n.val l.val then receivedSet t n.val l.val (256 * d.toNat)
      else
        let t := if lk = 3 then raiseGrey (put t (F.CMC_PORT_STATUS_link n.val l.val) 4) (F.CMC_PORT_EVENT_fault n.val l.val) else t
        emitSet t n.val l.val (if d.toNat = remoteFault then 0 else 256 * remoteFault)
    else s)

/-- FAULT_CLEAR_TIMEOUT (R258): fault ordered sets have been absent for 128 µs; an Ethernet port that answered local fault sends idle again. -/
def execFaultClearTimeout (n : PktRegion) (l : Fin 32) (s : State) : Host.Outcome State Fault Refusal :=
  let t := putB (putB s (F.CMC_PORT_STATUS_rx_lf n.val l.val) false) (F.CMC_PORT_STATUS_rx_rf n.val l.val) false
  finish s (if portLink s n.val l.val = 4 then
      let u := put t (F.CMC_PORT_STATUS_link n.val l.val) 3
      if getB s (F.CMC_PORT_STATUS_rx_lf n.val l.val) then emitSet u n.val l.val 0 else u
    else if isTransparent s n.val l.val then receivedSet t n.val l.val 0
    else s)

/-! ### Flow control (R263 to R265) -/

/-- PAUSE_EXPIRE (R263). -/
def execPauseExpire (n : PktRegion) (l : Fin 32) (p : Fin 8) (s : State) : Host.Outcome State Fault Refusal :=
  let f := F.CMC_PORT_STATUS_peer_paused n.val l.val
  finish s (put s f (setBits (get s f) p.val 1 0))

/-- PAUSE_WATCHDOG (R264): a pause in force for longer than pw_limit is released, and ignored from now on. -/
def execPauseWatchdog (n : PktRegion) (l : Fin 32) (p : Fin 8) (s : State) : Host.Outcome State Fault Refusal :=
  let f := F.CMC_PORT_STATUS_peer_paused n.val l.val
  let g := F.CMC_PORT_STATUS_pw_broken n.val l.val
  finish s (if bit (get s f) p.val then
      let t := put (put s f (setBits (get s f) p.val 1 0)) g (setBits (get s g) p.val 1 1)
      raise (inc t (F.CMC_PW_BREAKS_count n.val l.val)) (F.CMC_PORT_EVENT_pw_break n.val l.val) .amber p.val
    else s)

/-- PAUSE_IGNORE_END (R264): 1 ms without a frame that carries non-zero quanta for the priority. -/
def execPauseIgnoreEnd (n : PktRegion) (l : Fin 32) (p : Fin 8) (s : State) : Host.Outcome State Fault Refusal :=
  let g := F.CMC_PORT_STATUS_pw_broken n.val l.val
  finish s (put s g (setBits (get s g) p.val 1 0))

/-- PAUSE_REFRESH (R265). -/
def execPauseRefresh (n : PktRegion) (l : Fin 32) (s : State) : Host.Outcome State Fault Refusal :=
  finish s (sendReq s n.val l.val (portSt s n.val l.val).txReq (get s (F.CMC_PORT_FC_tx_quanta n.val l.val)))

end Sys2Proof.Machine
end

