-- ==== Sys2Proof/Machine/SecForm.lean ====
section
/-!
DEFINITION. The forms that section bodies share (R48, R279): entries of one size in ascending order of key, region blocks, and
what a check of a section answers.
-/
namespace Sys2Proof.Machine
open Sys2Proof

/-- `n` entries of `size` bytes at the front of `bs`. [DEDUCED: log 34] -/
def entries (n size : Nat) (bs : List Byte) : List (List Byte) :=
  match n with
  | 0 => []
  | k + 1 => bs.take size :: entries k size (bs.drop size)

/-- Every byte of `bs` is 0. -/
def allZero (bs : List Byte) : Bool := bs.all (fun b => decide (b = 0))

/-- Bytes `off` to `off + n − 1` are 0. -/
def zeroAt (bs : List Byte) (off n : Nat) : Bool := allZero (sub bs off n)

/-- The byte at `off`. -/
def byteAt (bs : List Byte) (off : Nat) : Nat := le bs off 1

/-- Keys rise strictly, where the section's rule gives its entries an order. [DEDUCED: log 34] -/
def ascending (ks : List Nat) : Bool :=
  match ks with
  | [] => true
  | [_] => true
  | a :: b :: rest => decide (a < b) && ascending (b :: rest)

/-- No value appears twice. -/
def distinct (ks : List Nat) : Bool :=
  match ks with
  | [] => true
  | a :: rest => !rest.contains a && distinct rest

/-- `lo ≤ v ≤ hi`. -/
def within (v lo hi : Nat) : Bool := decide (lo ≤ v) && decide (v ≤ hi)

/-- A region block (R279): the regions it names and its bytes after the 8-byte header. -/
structure Block where
  mask : Nat
  body : List Byte
  deriving DecidableEq, Repr

/-- The region blocks of a body, at most `fuel` of them; `none` where the form of R279 is broken. -/
def splitBlocks (fuel : Nat) (bs : List Byte) : Option (List Block) :=
  match fuel with
  | 0 => if bs.isEmpty then some [] else none
  | k + 1 =>
    if bs.isEmpty then some []
    else
      let n := le bs 4 4
      if bs.length < 8 ∨ n < 8 ∨ n % 8 ≠ 0 ∨ bs.length < n ∨ byteAt bs 0 = 0 ∨ 15 < byteAt bs 0 ∨ !zeroAt bs 1 3 then none
      else (splitBlocks k (bs.drop n)).map (fun l => ⟨byteAt bs 0, sub bs 8 (n - 8)⟩ :: l)

/-- The 1 to 4 region blocks of a body, with disjoint masks (R279). -/
def regionBlocks (bs : List Byte) : Option (List Block) :=
  match splitBlocks 4 bs with
  | some l =>
    if l.isEmpty || (List.range 4).any (fun r => decide (1 < (l.filter (fun b => bit b.mask r)).length)) then none else some l
  | none => none

/-- The packet regions that a block names. -/
def Block.regions (b : Block) : List Nat := bitsSet 4 b.mask

/-- The packet regions that a body names, with their block. -/
def bodyRegions (bs : List Byte) : List (Nat × List Byte) :=
  ((regionBlocks bs).getD []).flatMap (fun b => b.regions.map (fun n => (n, b.body)))

/-- Whether some block of a body satisfies `p` (counts beyond a capacity, R56 check 7). -/
def anyBlock (bs : List Byte) (p : List Byte → Bool) : Bool := ((regionBlocks bs).getD []).any (fun b => p b.body)

/-- Whether the body has the block form and `p` holds of each region and its block. -/
def eachRegion (bs : List Byte) (p : Nat → List Byte → Bool) : Bool :=
  (regionBlocks bs).isSome && (bodyRegions bs).all (fun e => p e.1 e.2)

/-- A block body holds `len` bytes, with zeros to a multiple of 8 after them. -/
def paddedTo (b : List Byte) (len : Nat) : Bool := decide (b.length = (len + 7) / 8 * 8) && allZero (b.drop len)

/-- Change every region of a body. -/
def applyRegions (bs : List Byte) (c : Cfg) (f : Cfg → Nat → List Byte → Cfg) : Cfg :=
  (bodyRegions bs).foldl (fun c e => f c e.1 e.2) c

/-- Put several fields of a bank. -/
def cfgPuts (c : Cfg) (l : List (Fld × Nat)) : Cfg := l.foldl (fun c e => cfgPut c e.1 e.2) c

/-- A table without the entries whose key lies from `lo` on, `n` of them. -/
def cutRange {α : Type} (t : Tab α) (lo n : Nat) : Tab α := Tab.keep t (fun k => decide (k < lo) || decide (lo + n ≤ k))

/-- A table with entries added. -/
def addAll {α : Type} (t : Tab α) (l : List (Nat × α)) : Tab α := l.foldl (fun t e => Tab.set t e.1 e.2) t

end Sys2Proof.Machine
end

