-- ==== Sys2Proof/Machine/TableAccess.lean ====
section
/-!
DEFINITION. The exact-match store and the table access commands of PRS (R281, R293 to R295).
-/
namespace Sys2Proof.Machine
open Sys2Proof

/-! ### The exact-match store (R281) -/

/-- CRC-32C with another initial value. -/
def crcSeed (seed : Nat) (bs : List Byte) : Nat := (bs.foldl crcByte seed) ^^^ 0xFFFFFFFF

/-- A candidate bucket of key `key` of table `t` (R281): `second` by seed1. [DEDUCED: log 8] -/
def bucketOf (s : State) (n t key : Nat) (second : Bool) : Nat :=
  let seed := if second then get s (F.PRS_EM_SEED1_seed n) else get s (F.PRS_EM_SEED0_seed n)
  crcSeed seed (beBytes 1 t ++ beBytes (tableBits s n t / 8) key) % 131072

/-- Whether entries of table `t` take a slot pair (R281). -/
def isWide (s : State) (n t : Nat) : Bool := decide (256 ≤ tableBits s n t)

/-- Whether slot `i` of a store is taken: by its own entry, or by the pair that begins before it. -/
def slotTaken (s : State) (n : Nat) (ex : Tab ExSlot) (i : Nat) : Bool :=
  (Tab.find ex i).isSome ||
  (decide (i % 2 = 1) && (match Tab.find ex (i - 1) with
    | some x => isWide s n x.tbl
    | none => false))

/-- A free slot, or slot pair, of bucket `b`. [DESIGN CHOICE: log 88] -/
def freeSlot (s : State) (n : Nat) (ex : Tab ExSlot) (b : Nat) (wide : Bool) : Option Nat :=
  if wide then ((List.range 4).map (fun j => 8 * b + 2 * j)).find? (fun i => !slotTaken s n ex i && !slotTaken s n ex (i + 1))
  else ((List.range 8).map (fun j => 8 * b + j)).find? (fun i => !slotTaken s n ex i)

/-- The alternate bucket of an entry that stands in bucket `b`. -/
def otherBucket (s : State) (n : Nat) (x : ExSlot) (b : Nat) : Nat :=
  let b0 := bucketOf s n x.tbl x.key false
  if b0 = b then bucketOf s n x.tbl x.key true else b0

/-- Place entries in their buckets, moving at most `moves` entries to their alternate buckets; `rnd` picks the entry that
yields, which the manual leaves open (R281). [DESIGN CHOICE: log 88] -/
def placeAll (s : State) (n rnd moves : Nat) (ex : Tab ExSlot) (work : List (ExSlot × Nat)) (fuel : Nat) :
    Option (Tab ExSlot) :=
  match fuel, work with
  | _, [] => some ex
  | 0, _ => none
  | fuel + 1, (x, b) :: rest =>
    let wide := isWide s n x.tbl
    match freeSlot s n ex b wide with
    | some i => placeAll s n rnd moves (Tab.set ex i x) rest fuel
    | none =>
      let j := 8 * b + 2 * (rnd % 4)
      let k := if wide then j else 8 * b + rnd % 8
      let at_ := if wide then [j, j + 1] else if (Tab.find ex k).isSome then [k] else [k - 1]
      let gone := at_.filterMap (fun i => (Tab.find ex i).map (fun y => (y, otherBucket s n y b)))
      if moves < gone.length then none
      else
        let ex' := at_.foldl (fun e i => Tab.del e i) ex
        let i := if wide then j else at_.headD k
        placeAll s n (rnd / 8) (moves - gone.length) (Tab.set ex' i x) (rest ++ gone) fuel

/-- The store with a new entry (R281), `none` where it cannot be placed. [DESIGN CHOICE: log 88] -/
def insertNew (s : State) (n : Nat) (x : ExSlot) : Option (Tab ExSlot) :=
  let ex := (pkt s n).prs.exact
  let wide := isWide s n x.tbl
  let b0 := bucketOf s n x.tbl x.key false
  let b1 := bucketOf s n x.tbl x.key true
  let limit := get s (F.PRS_TBL_CFG_size n x.tbl)
  if limit ≠ 0 ∧ limit * 8192 ≤ (ex.filter (fun e => decide (e.2.tbl = x.tbl))).length then none
  else match freeSlot s n ex b0 wide with
    | some i => some (Tab.set ex i x)
    | none => match freeSlot s n ex b1 wide with
      | some i => some (Tab.set ex i x)
      | none => placeAll s n (freeVal s) 32 ex [(x, b0)] 200

/-- Slots valid in either bank (PRS_EM_USE). -/
def emUse (s : State) (n : Nat) : State :=
  put s (F.PRS_EM_USE_used n)
    ((pkt s n).prs.exact.foldl (fun a e => a + (if isWide s n e.2.tbl then 2 else 1)) 0)

/-- Put an exact store. -/
def setExact (s : State) (n : Nat) (ex : Tab ExSlot) : State := emUse (modPrs s n (fun p => { p with exact := ex })) n

/-- An entry with its action replaced in the active bank and in the other one, as chosen. -/
def ExSlot.withAct (x : ExSlot) (s : State) (act : Option Nat) (active other : Bool) : ExSlot :=
  let toOch := if activeBank s then active else other
  let toInd := if activeBank s then other else active
  { x with ind := if toInd then act else x.ind, och := if toOch then act else x.och }

/-- Write or remove the action of a key in the banks chosen (R293, R294): `false` where the store cannot hold it. -/
def exactWrite (s : State) (n t key : Nat) (act : Option Nat) (active other : Bool) : State × Bool :=
  match exactSlot s n t key with
  | some (i, x) =>
    let y := x.withAct s act active other
    let ex := (pkt s n).prs.exact
    (setExact s n (if y.ind.isNone && y.och.isNone then Tab.del ex i else Tab.set ex i y), true)
  | none =>
    match act with
    | none => (s, true)
    | some _ => match insertNew s n (ExSlot.withAct { tbl := t, key := key } s act active other) with
      | some ex => (setExact (stepFree s) n ex, true)
      | none => (raiseGrey s (F.PRS_EVENT_em_full n), false)

/-- The entries of a table leave both banks. -/
def wipeTable (s : State) (n t : Nat) : State :=
  let keep := fun (b : Bank) => { b with
    tern := b.tern.filter (fun e => !(decide (ternKey n t 0 ≤ e.1) && decide (e.1 < ternKey n t 131072))) }
  let s := { s with bank := keep s.bank, other := { s.other with bank := keep s.other.bank } }
  setExact s n ((pkt s n).prs.exact.filter (fun e => decide (e.2.tbl ≠ t)))

/-- Clear the entries of a table in both banks (R283, R284). -/
def clearTable (s : State) (n t : Nat) : State := raiseGrey (wipeTable s n t) (F.PRS_EVENT_table_cleared n)

/-! ### The access window (R295) -/

/-- Results of PRS_TA_RESULT. -/
def taOk : Nat := 0
def taNotStaging : Nat := 1
def taRange : Nat := 2
def taFull : Nat := 3
def taAbsent : Nat := 4
def taExists : Nat := 5
def taBusy : Nat := 6

/-- Put the result of a table access. -/
def taResult (s : State) (n code : Nat) : State :=
  putB (put s (F.PRS_TA_RESULT_code n) code) (F.PRS_TA_RESULT_busy n) false

/-- `k` window words from word `w` on as one number, the first the most significant. [DEDUCED: log 87] -/
def taNum (s : State) (n w k : Nat) : Nat :=
  (List.range k).foldl (fun a i => a * 2 ^ 32 + get s (F.PRS_TA_DATA_bits n (w + i))) 0

/-- Put a number into `k` window words. -/
def taPut (s : State) (n w k v : Nat) : State :=
  (List.range k).foldl (fun s i => put s (F.PRS_TA_DATA_bits n (w + i)) (v / 2 ^ (32 * (k - 1 - i)) % 2 ^ 32)) s

/-- Put a table entry into the window (R295). -/
def taShow (s : State) (n key mask act : Nat) (valid : Bool) : State :=
  put (taPut (taPut s n 0 16 key) n 16 16 mask) (F.PRS_TA_DATA_bits n 32) (act + 65536 * b2n valid)

/-- The table and the index that PRS_TA_ADDR names. -/
def taTbl (s : State) (n : Nat) : Nat := get s (F.PRS_TA_ADDR_tbl n)
def taIdx (s : State) (n : Nat) : Nat := get s (F.PRS_TA_ADDR_index n)

/-- Whether the addressed table is exact. -/
def taExact (s : State) (n : Nat) : Bool := getB s (F.PRS_TBL_CFG_kind n (taTbl s n))

/-- The tables of the bank that a command names: `staged` the other one. -/
def taBank (s : State) (staged : Bool) : Bank := if staged then s.other.bank else s.bank

/-- The tag of the bank that a command names. -/
def taTag (s : State) (staged : Bool) : Bool := if staged then !activeBank s else activeBank s

/-- Whether a write of the named bank is allowed now (R295). -/
def taMayWrite (s : State) (staged : Bool) : Bool := !staged || decide (epcState s = epcStaging)

/-- Write the tables of the bank that a command names: a staged write loads RULES, an active one reaches both banks while
RULES is not loaded (R294, R295). -/
def taModBank (s : State) (staged : Bool) (f : Bank → Bank) : State := if staged then modStaged s 8 f else modBanks s 8 f

/-- As `taModBank`, for an exact key. -/
def taModExact (s : State) (n : Nat) (staged : Bool) (t key : Nat) (act : Option Nat) : State × Bool :=
  if staged then
    let (s, ok) := exactWrite s n t key act false true
    (if ok then setLoaded s 8 else s, ok)
  else exactWrite s n t key act true (!isLoaded s 8)

/-- READ (R295). [DEDUCED: log 87] -/
def taRead (s : State) (n : Nat) (staged : Bool) : State :=
  let t := taTbl s n
  if taExact s n ∨ ternLen s n t ≤ taIdx s n then taResult s n taRange
  else match Tab.find (taBank s staged).tern (ternKey n t (taIdx s n)) with
    | some e => taResult (taShow s n e.key e.mask e.act true) n taOk
    | none => taResult (taShow s n 0 0 0 false) n taAbsent

/-- WRITE of a ternary entry (R295). [DEDUCED: log 87] -/
def taWrite (s : State) (n : Nat) (staged : Bool) : State :=
  let t := taTbl s n
  let key := taNum s n 0 16
  let mask := taNum s n 16 16
  if !taMayWrite s staged then taResult s n taNotStaging
  else if taExact s n ∨ ternLen s n t ≤ taIdx s n ∨ 2 ^ tableBits s n t ≤ key ∨ 2 ^ tableBits s n t ≤ mask then
    taResult s n taRange
  else
    let e : TernEnt := ⟨key, mask, get s (F.PRS_TA_DATA_bits n 32) % 65536⟩
    taResult (taModBank s staged (fun b => { b with tern := Tab.set b.tern (ternKey n t (taIdx s n)) e })) n taOk

/-- INSERT of an exact-match entry (R281, R295). [DEDUCED: log 87] -/
def taInsert (s : State) (n : Nat) (staged : Bool) : State :=
  let t := taTbl s n
  let key := taNum s n 0 16
  if !taMayWrite s staged then taResult s n taNotStaging
  else if !taExact s n ∨ 2 ^ tableBits s n t ≤ key then taResult s n taRange
  else if (lookup s n t key (taTag s staged)).isSome then taResult s n taExists
  else
    let (s, ok) := taModExact s n staged t key (some (get s (F.PRS_TA_DATA_bits n 32) % 65536))
    taResult s n (if ok then taOk else taFull)

/-- DELETE: a ternary entry by index, an exact one by key (R295). [DEDUCED: log 87] -/
def taDelete (s : State) (n : Nat) (staged : Bool) : State :=
  let t := taTbl s n
  if !taMayWrite s staged then taResult s n taNotStaging
  else if taExact s n then
    let key := taNum s n 0 16
    if (lookup s n t key (taTag s staged)).isNone then taResult s n taAbsent
    else taResult (taModExact s n staged t key none).1 n taOk
  else if ternLen s n t ≤ taIdx s n then taResult s n taRange
  else if (Tab.find (taBank s staged).tern (ternKey n t (taIdx s n))).isNone then taResult s n taAbsent
  else taResult (taModBank s staged (fun b => { b with tern := Tab.del b.tern (ternKey n t (taIdx s n)) })) n taOk

/-- LOOKUP of a key (R295): the entry, and its slot or index in word 33. -/
def taLookup (s : State) (n : Nat) (staged : Bool) : State :=
  let t := taTbl s n
  let key := taNum s n 0 16
  let hit := if taExact s n then
      (match exactSlot s n t key with
        | some (i, x) => (x.act (taTag s staged)).map (fun a => (i, a))
        | none => none)
    else ternHit (taBank s staged) n t (ternLen s n t) key
  match hit with
  | none => taResult s n taAbsent
  | some (i, a) =>
    let (k, m) := match (if taExact s n then none else Tab.find (taBank s staged).tern (ternKey n t i)) with
      | some e => (e.key, e.mask)
      | none => (key, 0)
    taResult (put (taShow s n k m a true) (F.PRS_TA_DATA_bits n 33) i) n taOk

/-- ACT_READ (R295). -/
def taActRead (s : State) (n : Nat) (staged : Bool) : State :=
  if 65536 ≤ taIdx s n then taResult s n taRange
  else taResult (taPut s n 0 4 (Tab.getD (taBank s staged).acts (65536 * n + taIdx s n) 0)) n taOk

/-- ACT_WRITE (R295). -/
def taActWrite (s : State) (n : Nat) (staged : Bool) : State :=
  let v := taNum s n 0 4
  if !taMayWrite s staged then taResult s n taNotStaging
  else if 65536 ≤ taIdx s n then taResult s n taRange
  else taResult (taModBank s staged (fun b => { b with acts := Tab.set b.acts (65536 * n + taIdx s n) v })) n taOk

/-- The operation of a table access command (PRS_TA_CMD). -/
def taOp (s : State) (n op : Nat) (staged : Bool) : State :=
  match op with
  | 1 => taRead s n staged
  | 2 => taWrite s n staged
  | 3 => taInsert s n staged
  | 4 => taDelete s n staged
  | 5 => taLookup s n staged
  | 6 => taActRead s n staged
  | 7 => taActWrite s n staged
  | _ => s

/-- Whether an operation writes. -/
def taWrites (op : Nat) : Bool := [2, 3, 4, 7].contains op

/-- A table access command by its op code (PRS_TA_CMD). A staged write waits while the seed copy runs (R60), and a command meanwhile
answers BUSY. [DEDUCED: log 87] -/
def taRun (s : State) (n op : Nat) (staged : Bool) : State :=
  if (pkt s n).prs.taWait.isSome then put s (F.PRS_TA_RESULT_code n) taBusy
  else
    let s := putB (put s (F.PRS_TA_CMD_op n) op) (F.PRS_TA_CMD_bank n) staged
    if staged && taWrites op && decide (epcState s = epcStaging) && getB s F.EPC_STATUS_seeding then
      putB (modPrs s n (fun p => { p with taWait := some op })) (F.PRS_TA_RESULT_busy n) true
    else taOp s n op staged

/-- A staged write that waited for the seed copy runs, with the window as it stands (R60). [DEDUCED: log 87] -/
def taResume (s : State) (n : Nat) : State := match (pkt s n).prs.taWait with
  | some op => taOp (modPrs s n (fun p => { p with taWait := none })) n op true
  | none => s

/-- TA_READ (R295). -/
def execTaRead (r : Requester) (n : PktRegion) (staged : Bool) (s : State) : Host.Outcome State Fault Refusal :=
  finish s (onWrite s r (R.PRS_TA_CMD n.val) (fun s => taRun s n.val 1 staged))

/-- TA_WRITE (R295). -/
def execTaWrite (r : Requester) (n : PktRegion) (staged : Bool) (s : State) : Host.Outcome State Fault Refusal :=
  finish s (onWrite s r (R.PRS_TA_CMD n.val) (fun s => taRun s n.val 2 staged))

/-- TA_INSERT (R281, R295). -/
def execTaInsert (r : Requester) (n : PktRegion) (staged : Bool) (s : State) : Host.Outcome State Fault Refusal :=
  finish s (onWrite s r (R.PRS_TA_CMD n.val) (fun s => taRun s n.val 3 staged))

/-- TA_DELETE (R295). -/
def execTaDelete (r : Requester) (n : PktRegion) (staged : Bool) (s : State) : Host.Outcome State Fault Refusal :=
  finish s (onWrite s r (R.PRS_TA_CMD n.val) (fun s => taRun s n.val 4 staged))

/-- TA_LOOKUP (R295). -/
def execTaLookup (r : Requester) (n : PktRegion) (staged : Bool) (s : State) : Host.Outcome State Fault Refusal :=
  finish s (onWrite s r (R.PRS_TA_CMD n.val) (fun s => taRun s n.val 5 staged))

/-- TA_ACT_READ (R295). -/
def execTaActRead (r : Requester) (n : PktRegion) (staged : Bool) (s : State) : Host.Outcome State Fault Refusal :=
  finish s (onWrite s r (R.PRS_TA_CMD n.val) (fun s => taRun s n.val 6 staged))

/-- TA_ACT_WRITE (R295). -/
def execTaActWrite (r : Requester) (n : PktRegion) (staged : Bool) (s : State) : Host.Outcome State Fault Refusal :=
  finish s (onWrite s r (R.PRS_TA_CMD n.val) (fun s => taRun s n.val 7 staged))

/-- POL_ACC_DONE (R314): the readable accounting bank is consumed. -/
def execPolAccDone (r : Requester) (n : PktRegion) (s : State) : Host.Outcome State Fault Refusal :=
  finish s (onWrite s r (R.POL_ACC_DONE n.val) (fun s => modPkt s n.val (fun p => { p with pol := { p.pol with done := true } })))

end Sys2Proof.Machine
end

