-- ==== Sys2Proof/Machine/CommitRegion.lean ====
section
/-!
DEFINITION. What a commit does to one packet region beside its values (R74, R268, R283, R311, R315), at the commit instant or, for a
region that it finds in DIM or OFF, at X5 of its next exit (R70).
-/
namespace Sys2Proof.Machine
open Sys2Proof

/-- Ports of region `n` that a commit or, with `sealed`, a seal changes, in their settings or their containers, go to DOWN (R268, R271). -/
def commitPorts (s : State) (old : Cfg) (n : Nat) (sealed : Bool) : State :=
  (List.range 32).foldl (fun s l =>
    let a := R.CMC_PORT_CFG n l
    let lanes := (List.range (max (cfgGet old (F.CMC_PORT_CFG_width n l)) (get s (F.CMC_PORT_CFG_width n l)))).map (· + l)
    let moved := lanes.any (fun k => decide (bit (cfgGet old (F.CMC_LANE_EN_en n)) k ≠ bit (get s (F.CMC_LANE_EN_en n)) k))
    let bound := fun (b : Bank) => ((b.downPort ++ b.upPort).filter (fun e => decide (e.2 = 32 * n + l)))
    let fed := ((old.bank.upPort ++ s.bank.upPort).filter (fun e => decide (e.2 = 32 * n + l))).map (fun e => e.1)
    if cfgWord old a ≠ rdWord s a ∨ moved ∨ bound old.bank ≠ bound s.bank then
      let was := (portSt s n l).fault
      let s := showFault (portChanged (lanes.foldl (fun s k => laneDown s n k) s) n l fed.eraseDups sealed) n l
      if was then sendStanding s n l else s
    else showFault s n l) s

/-- A commit changes the weight of child `key` of node `m` (R315): the old one holds until the node's next round. [DEDUCED: log 203] -/
def newWeight (s : State) (n m key old new : Nat) : State :=
  if old = new ∨ (Tab.find (pkt s n).tmg.cur m).isNone ∨ (Tab.find (pkt s n).tmg.oldW key).isSome ∨ childEmpty s n m false then s
  else modTmg s n (fun t => { t with oldW := Tab.set t.oldW key (m, old) })

/-- The commit has given the entity `key` another shaper `i`, `none` for none: it waits on the wheel for that one alone (R310, R312). -/
def newShaper (s : State) (n key : Nat) (i : Option Nat) : State :=
  match i.bind (fun k => meter s n k) with
  | some m => if 0 < m.tokens then offWheel s n key else onWheel s n key m
  | none => offWheel s n key

/-- Entities of region `n` whose shaper the commit changes, takes or gives (R310, R312). -/
def commitShapers (s : State) (old : Cfg) (n : Nat) : State :=
  let qshaper := fun (b : Bank) k => (Tab.find b.queues k).bind (fun (x : SQueue) => if x.shaped then some (k % 16384) else none)
  let nshaper := fun (b : Bank) k => (Tab.find b.nodes k).bind (fun (x : SNode) => x.shaper)
  let qs := ((old.bank.queues ++ s.bank.queues).filter (fun e => decide (e.1 / 16384 = n))).map (fun e => e.1)
  let ns := ((old.bank.nodes ++ s.bank.nodes).filter (fun e => decide (e.1 / 4096 = n))).map (fun e => e.1)
  let s := qs.foldl (fun s k => if qshaper old.bank k = qshaper s.bank k then s else newShaper s n (k % 16384) (qshaper s.bank k)) s
  ns.foldl (fun s k => if nshaper old.bank k = nshaper s.bank k then s else newShaper s n (16384 + k % 4096) (nshaper s.bank k)) s

/-- Queues of region `n` that are no longer in the map, or whose port is gone, are flushed; a queue with another parent loses
its deficit, as does a node that it leaves empty (R74, R305, R315). [DEDUCED: log 195] -/
def commitQueues (s : State) (old : Cfg) (n : Nat) : State :=
  let s := ((pkt s n).tmg.queues.map (fun e => e.1)).foldl (fun s q =>
    let gone := match squeue s n q with
      | none => true
      | some _ => match rootOf s n q with
        | some (_, x) => decide (x.kind = 0) && !isEth s n (x.target % 32)
        | none => false
    if gone then flushQueue s n q else s) s
  let s := s.bank.queues.foldl (fun s e =>
    if e.1 / 16384 = n then match Tab.find old.bank.queues e.1 with
      | some x =>
        if x.parent ≠ e.2.parent then modTmg s n (fun t => { t with deficit := Tab.del t.deficit (4096 + e.1 % 16384) })
        else newWeight s n e.2.parent (4096 + e.1 % 16384) x.weight e.2.weight
      | none => s
    else s) s
  emptied s n false

/-- Nodes of region `n` whose weight the commit changes (R315). [DEDUCED: log 203] -/
def commitNodes (s : State) (old : Cfg) (n : Nat) : State :=
  s.bank.nodes.foldl (fun s e =>
    if e.1 / 4096 = n then match Tab.find old.bank.nodes e.1, e.2.parent with
      | some x, some m => if x.parent = some m then newWeight s n m (e.1 % 4096) x.weight e.2.weight else s
      | _, _ => s
    else s) s

/-- Every meter of region `n` that either bank names: a new one starts, a removed one stops (R309, R311). -/
def commitMeters (s : State) (old : Cfg) (n : Nat) : State :=
  (old.bank.meters ++ s.bank.meters).foldl (fun s e => if e.1 / 131072 = n then meterApply s n (e.1 % 131072) else s) s

/-- Clear the entries of a table in the bank that the commit has made the old one. -/
def clearOld (s : State) (n t : Nat) : State :=
  let s := modOther s (fun c => cfgBank c (fun b => { b with
    tern := b.tern.filter (fun e => !(decide (ternKey n t 0 ≤ e.1) && decide (e.1 < ternKey n t 131072))) }))
  setExact s n (((pkt s n).prs.exact.map (fun e => if e.2.tbl = t then (e.1, e.2.withAct s none false true) else e)).filter
    (fun e => e.2.ind.isSome || e.2.och.isSome))

/-- Whether a commit of the sections in `m` carries rule content for region `n`. -/
def rulesCarried (s : State) (m n : Nat) : Bool :=
  inSecs m 8 && (bodyRegions (Tab.getD s.epc.loaded 8 [])).any (fun e => decide (e.1 = n))

/-- The tables of region `n` whose keys or condition differ from those of the bank `old` (R283). -/
def tablesChanged (s : State) (old : Cfg) (n : Nat) : List Nat :=
  (List.range 8).filter (fun t =>
    ([R.PRS_TBL_CFG n t, R.PRS_TBL_COND n t] ++ (List.range 16).map (fun f => R.PRS_KEY_FLD n t f)).any
      (fun a => decide (cfgWord old a ≠ rdWord s a)))

/-- Tables of region `n` that the commit changes lose their entries in both banks (R283), but for the rule content that the
same commit carries. -/
def commitTables (s : State) (old : Cfg) (m n : Nat) : State :=
  (tablesChanged s old n).foldl (fun s t => if rulesCarried s m n then clearOld s n t else wipeTable s n t) s

/-- What the sections in `m` do to packet region `n`, the bank before them being `old`. -/
def regionTakes (s : State) (old : Cfg) (m n : Nat) : State :=
  let s := if inSecs m 1 then commitPorts s old n false else s
  let s := if inSecs m 1 || inSecs m 9 then commitNodes (commitQueues s old n) old n else s
  let s := if inSecs m 7 then (tablesChanged s old n).foldl (fun s _ => raiseGrey s (F.PRS_EVENT_table_cleared n)) s else s
  let s := if inSecs m 0xA then commitMeters s old n else s
  let s := if inSecs m 9 then commitShapers s old n else s
  if inSecs m 0xB || inSecs m 0xC then (List.range 3).foldl (fun s t => updateLevel s n t) s else s

/-- A region in DIM or OFF has still to take the sections in `m`, since the bank `old` (R70). [DEDUCED: log 223] -/
def owe (s : State) (old : Cfg) (m n : Nat) : State :=
  let x := match Tab.find s.pwr.owed n with
    | some (k, c) => (k ||| m, c)
    | none => (m, old)
  { s with pwr := { s.pwr with owed := Tab.set s.pwr.owed n x } }

/-- A region takes what the commits since its entry have changed (R70, R418). [DEDUCED: log 223] -/
def owedTaken (s : State) (n : Nat) : State :=
  match Tab.find s.pwr.owed n with
  | some (m, old) => regionTakes { s with pwr := { s.pwr with owed := Tab.del s.pwr.owed n } } old m n
  | none => s

end Sys2Proof.Machine
end

