-- ==== Sys2Proof/Machine/Mem.lean ====
section
/-!
DEFINITION. The memories of a packet region (R335 to R338): training, corrected and uncorrectable errors, quarantine and the
failure of a channel.
-/
namespace Sys2Proof.Machine
open Sys2Proof

/-- Whether MEM supports a DIMM (R336). -/
def dimmOk (d : Dimm) : Bool :=
  d.ok && (if d.mr then decide (d.rate = 8800) else decide (d.rate ≤ 6400)) &&
  (decide (d.gib = 32) || decide (d.gib = 64) || decide (d.gib = 96) || decide (d.gib = 128))

/-- What memory channel `c` shows after training. [DESIGN CHOICE: log 98] -/
def showChannel (s : State) (n c : Nat) (d : Option Dimm) (used : Bool) : State :=
  match d with
  | none =>
    putB (putB (putB s (F.MEM_CH_STATUS_present n c) false) (F.MEM_CH_STATUS_trained n c) false) (F.MEM_CH_STATUS_failed n c) false
  | some x =>
    let s := putB (putB s (F.MEM_CH_STATUS_present n c) true) (F.MEM_CH_STATUS_trained n c) used
    let s := putB (putB s (F.MEM_CH_STATUS_type n c) x.mr) (F.MEM_CH_STATUS_failed n c) (!x.ok)
    put (put s (F.MEM_CH_STATUS_rate n c) (x.rate / 100)) (F.MEM_CH_STATUS_gib n c) x.gib

/-- Channels in use (R336): every trained one, without the highest-lettered when three train. [DESIGN CHOICE: log 98] -/
def channelsUsed (dimms : List (Option Dimm)) : List Nat :=
  let ok := (List.range 4).filter (fun c => match dimms.getD c none with
    | some d => dimmOk d
    | none => false)
  if ok.length = 3 then ok.take 2 else ok

/-- Smallest size among the channels in use. -/
def smallest (dimms : List (Option Dimm)) (used : List Nat) : Nat :=
  used.foldl (fun m c => match dimms.getD c none with
    | some d => if m = 0 then d.gib else min m d.gib
    | none => m) 0

/-- The memories of region `n` have trained (R336): tier 1 is ready, tier 2 is as large as its channels make it, unless it
has been withdrawn until the next module reset (R338). [DESIGN CHOICE: log 98] -/
def memTrained (s : State) (n : Nat) (dimms : List (Option Dimm)) : State :=
  let s := putB s (F.MEM_STATUS_hbm_ready n) true
  if getB s (F.MEM_STATUS_t2_failed n) then s
  else
    let used := channelsUsed dimms
    let s := (List.range 4).foldl (fun s c => showChannel s n c (dimms.getD c none) (used.contains c)) s
    let gib := used.length * smallest dimms used
    let s := put (putB s (F.MEM_STATUS_t2_ready n) (decide (0 < gib))) (F.MEM_STATUS_t2_ch n) used.length
    let s := put (put s (F.MEM_T2_SIZE_gib n) gib) (F.BPM_POOL_SIZE_units n 2) (gib * 16384)
    if (List.range 4).all (fun c => match dimms.getD c none with
        | some d => dimmOk d
        | none => false) then s
    else raiseGrey s (F.MEM_EVENT_train_fail n)

/-- Poison the buffers of region `n` that satisfy `p` (R338). -/
def poisonBufs (s : State) (n : Nat) (p : Buf → Bool) : State :=
  modBpm s n (fun b => { b with bufs := b.bufs.map (fun e => if p e.2 then (e.1, { e.2 with poison := true }) else e) })

/-- Add `k` units to the quarantine of a tier, with the Crimson event above 0.1 % of it (R338). [DEDUCED: log 97] -/
def quarantine (s : State) (n t k : Nat) : State :=
  let s := addTo s (F.MEM_QUAR_units n t) k
  if poolSize s n t < 1000 * get s (F.MEM_QUAR_units n t) then raise s (F.MEM_EVENT_quar_limit n) .crimson t else s

/-- Poison and quarantine the chain of tier-0 cell `u` (R338): its cells leave the pool's use. [DEDUCED: log 97] -/
def poisonCell (s : State) (n u : Nat) : State :=
  if (pkt s n).bpm.quar0.contains u then s
  else match (pkt s n).bpm.bufs.find? (fun e => e.2.chain.contains u) with
    | some (_, x) =>
      let k := cellsOf x.bytes.length
      let s := modBpm s n (fun b => { b with quar0 := x.chain ++ b.quar0 })
      quarantine (poisonBufs (uncharge s n x.charged 0 k) n (fun y => y.chain.contains u)) n 0 k
    | none => quarantine (modBpm s n (fun b => { b with quar0 := u :: b.quar0 })) n 0 1

/-- Poison and quarantine unit `u` of tier 1 or 2 (R338): every frame with a byte in it is poisoned, and the unit leaves the
pool's use. -/
def poisonUnit (s : State) (n t u : Nat) : State :=
  let key := 2 ^ 24 * t + u
  let m := Tab.find (pkt s n).bpm.units key
  if (m.getD { owner := 0 }).quarantined then s
  else
    let s := match m with
      | some x => uncharge s n x.owner t 1
      | none => s
    let s := modBpm s n (fun b => { b with
      units := Tab.set b.units key { m.getD { owner := 0 } with quarantined := true }
      open_ := b.open_.filter (fun e => !(decide (e.1 / 2 ^ 20 = t) && decide (e.2 = u))) })
    quarantine (poisonBufs s n (fun x => match x.low with
      | some (t', us) => decide (t' = t) && us.contains u
      | none => false)) n t 1

/-- An uncorrectable error strikes unit `u` of tier `t` (R338). [DEDUCED: log 97] -/
def uncorrectable (s : State) (n t u : Nat) : State := if t = 0 then poisonCell s n u else poisonUnit s n t u

/-- A memory channel fails (R338): every tier-2 frame of the region is poisoned and tier 2 is empty until the next module
reset; FLT gets a block fault. -/
def channelFail (s : State) (n c : Nat) : State :=
  let s := putB (putB s (F.MEM_CH_STATUS_failed n c) true) (F.MEM_STATUS_t2_failed n) true
  let s := poisonBufs s n (fun x => match x.low with
    | some (2, _) => true
    | _ => false)
  let s := put (putB s (F.MEM_STATUS_t2_ready n) false) (F.MEM_STATUS_t2_ch n) 0
  let s := put (put s (F.MEM_T2_SIZE_gib n) 0) (F.BPM_POOL_SIZE_units n 2) 0
  let s := modBpm s n (fun b => { b with
    units := b.units.filter (fun e => decide (e.1 / 2 ^ 24 ≠ 2)), open_ := b.open_.filter (fun e => decide (e.1 / 2 ^ 20 ≠ 2))
    use := b.use.filter (fun e => decide (e.1 % 4 ≠ 2)) })
  let s := updateLevel (put s (F.BPM_POOL_USE_units n 2) 0) n 2
  contained (raiseAt s (F.MEM_EVENT_ch_fail n) .grey c [] 0) n 0x25 c

/-- An uncorrectable error of channel `c` now, with those of the last second (R338): the sixteenth fails the channel. -/
def channelError (s : State) (n c : Nat) : State :=
  let now := ticks s
  let recent := now :: (Tab.getD (pkt s n).mem.ue c []).filter (fun t => decide (now < t + usTicks 1000000))
  let s := modPkt s n (fun p => { p with mem := { p.mem with ue := Tab.set p.mem.ue c recent } })
  if 16 ≤ recent.length ∧ !getB s (F.MEM_CH_STATUS_failed n c) then channelFail s n c else s

/-- A scrub or read of tier `t` (for tier 2 on channel `c`) has corrected `ce` errors and found an uncorrectable one in
unit `bad` (R337, R338). [DEDUCED: log 97] -/
def scrub (s : State) (n t c ce : Nat) (bad : Option Nat) (pct : Nat) (pass : Bool) : State :=
  let s := if ce = 0 then s
    else
      let s := monCount (addTo s (F.RPM_CE_COUNT_count n) ce) n 0x25 0x07 [] ce
      if t = 0 then s
      else if t = 1 then raiseGrey (addTo s (F.MEM_HBM_CE_count n) ce) (F.MEM_EVENT_hbm_ce n)
      else raiseAt (addTo s (F.MEM_CH_CE_count n c) ce) (F.MEM_EVENT_ch_ce n) .grey c [] 0
  let s := if t = 2 then
      let s := put s (F.MEM_CH_SCRUB_pct n c) pct
      if pass then inc s (F.MEM_CH_SCRUB_passes n c) else s
    else s
  match bad with
  | none => s
  | some u =>
    let s := uncorrectable s n t u
    if t = 0 then s
    else if t = 1 then raiseGrey (inc s (F.MEM_HBM_UE_count n)) (F.MEM_EVENT_hbm_ue n)
    else channelError (raiseAt (inc s (F.MEM_CH_UE_count n c)) (F.MEM_EVENT_ch_ue n) .grey c [] 0) n c

/-- PATROL_SCRUB (R337, R338): not while the region sleeps, its memories being in self-refresh or off. -/
def execPatrolScrub (n : PktRegion) (t : Fin 3) (c : Fin 4) (ce : Nat) (bad : Option Nat) (pct : Fin 101) (pass : Bool)
    (s : State) : Host.Outcome State Fault Refusal :=
  finish s (if regionStopped s n.val then s else scrub s n.val t.val c.val ce bad pct.val pass)

end Sys2Proof.Machine
end

