-- ==== Sys2Proof/Machine/Retain.lean ====
section
/-!
DEFINITION. The store of upstream protection by AID (R218 to R222): what an AID retains and copies, and how that is shown.
-/
namespace Sys2Proof.Machine
open Sys2Proof

/-- Bytes in units of 16 KiB. -/
def in16k (b : Nat) : Nat := (b + 16383) / 16384

/-- Protection mode of AID index `a`: 0 NONE, 1 DUAL_LAUNCH, 2 REPLAY. -/
def aidMode (s : State) (a : Nat) : Nat := get s (F.PTH_AID_MODE_mode a)
def aidProt (s : State) (a : Nat) : AidProt := Tab.getD s.pth.aids a {}
def modAid (s : State) (a : Nat) (f : AidProt → AidProt) : State :=
  { s with pth := { s.pth with aids := Tab.upd s.pth.aids a {} f } }

/-- Bytes of a sent segment without its sequence fields and tag. -/
def upBytes (l : List UpSeg) : Nat := l.foldl (fun a g => a + g.payload.length) 0

/-- Bytes in the dual-launch copy store (R215, R220). -/
def copyBytes (s : State) : Nat := s.pth.aids.foldl (fun a e => a + upBytes e.2.copyA + upBytes e.2.copyB) 0

/-- Show what an AID retains. [DEDUCED: log 81] -/
def showAid (s : State) (a : Nat) : State :=
  let x := aidProt s a
  let s := put s (F.PTH_AID_RET_bytes a) (upBytes x.retained + upBytes x.copyA + upBytes x.copyB)
  let s := put s F.PTH_STORE_USE_copy (in16k (copyBytes s))
  putB s F.PTH_STATUS_resend (s.pth.aids.any (fun e => e.2.retained.any (fun g => g.again)))

end Sys2Proof.Machine
end

