-- ==== Sys2Proof/Machine/PwrRegion.lean ====
section
/-!
DEFINITION. Packet region states (R413 to R420): requests and consent, entry E1 to E5 and its abort, wake and exit X1 to X5,
pad release; what a region loses when its power goes or its logic is reset (R335, R412).
-/
namespace Sys2Proof.Machine
open Sys2Proof

/-! ### What a reset clears -/

/-- Put every listed register word that `where_` chooses back to its reset word, but for the fields that `keep` chooses. [DESIGN CHOICE: log 4] -/
def resetWords (s : State) (where_ : Nat → Bool) (keep : Nat → RegRow → FieldRow → Bool) : State :=
  (s.regs.map (fun e => e.1)).foldl (fun s a =>
    if where_ a then wrWord s a (mergeWord (wordFields a (keep a)) (resetWord a) (rdWord s a)) else s) s

/-- Live counters of a range of register offsets go to 0, and their snapshots (R9). -/
def resetLive (s : State) (where_ : Nat → Bool) : State :=
  let out := fun (t : Tab Nat) => t.filter (fun e => !where_ e.1)
  { s with live := out s.live, snap := out s.snap, snapNext := out s.snapNext }

/-- Whether offset `a` lies in packet region `n`'s registers. -/
def inRegion (n a : Nat) : Bool := decide (regionAt a = some n)

/-- What MEM keeps over a region reset without retraining (R335): training results, tier-2 size, a withdrawn tier 2. -/
def keptByReset (n a : Nat) : Bool :=
  decide (a = R.MEM_STATUS n) || decide (a = R.MEM_T2_SIZE n) || decide (a = R.BPM_POOL_SIZE n 2) ||
  (List.range 4).any (fun c => decide (a = R.MEM_CH_STATUS n c))

/-- Retained and copied segments of a region's AIDs are discarded (R229). [DEDUCED: log 81] -/
def dropRetained (s : State) (n : Nat) : State :=
  let gone := fun (l : List UpSeg) => l.filter (fun x => decide (x.region ≠ n))
  (s.pth.aids.map (fun e => e.1)).foldl (fun s a => showAid (modAid s a (fun x => { x with
    retained := gone x.retained, copyA := gone x.copyA, copyB := gone x.copyB, repeatA := gone x.repeatA, repeatB := gone x.repeatB })) a) s

/-- Words of region `n` in which its performance counters hold their values in OFF (R448). -/
def isCounterWord (n a : Nat) : Bool :=
  decide (R.RPM_OVF n = a) || (decide (R.RCTR_LIVE n 0 ≤ a) && decide (a < R.RCTR_LIVE n 32) &&
    (decide ((a - R.RCTR_LIVE n 0) % 32 < 8) || decide (16 ≤ (a - R.RCTR_LIVE n 0) % 32 ∧ (a - R.RCTR_LIVE n 0) % 32 < 24)))

/-- Packet region `n` loses its logic, buffers and queues without a disposition code (R335, R412); configuration fields keep
the committed bank. With `retrain` the memories lose their training too. -/
def packetReset (s : State) (n : Nat) (retrain : Bool) : State :=
  let s := resetWords s (inRegion n) (fun a _ f =>
    decide (f.sec ≠ 0) || (!retrain && keptByReset n a) ||
    (retrain && ((decide (a = R.MEM_STATUS n) && decide (f.lo = 7)) || isCounterWord n a)))
  let s := resetLive s (fun a => inRegion n a || (List.range 4).any (fun k =>
    decide (polKey n k 0 ≤ a) && decide (a < polKey n k 0 + 0x100000)))
  let s := { s with epc := { s.epc with groups := s.epc.groups.filter (fun e => !inRegion n e.1) } }
  let s := { s with pkt := Tab.del s.pkt n, upb := { s.upb with rests := s.upb.rests.filter (fun x => decide (x.region ≠ n)) } }
  let open_ := (List.range 16).foldl (fun m w => if get s (F.PMON_WIN_CTRL_state w) = 2 then m + 2 ^ w else m) 0
  let s := modPkt s n (fun p => { p with tmg := { p.tmg with resetAt := ticks s }, winWait := if retrain then 0 else open_ })
  let s := s.bank.meters.foldl (fun s e => if e.1 / 131072 = n then meterApply s n (e.1 % 131072) else s) s
  showFaults (tsqEmpty (dropRetained s n) n) n

/-! ### Results -/

/-- PWR_REQ_RESULT codes (R414, R416, R417). -/
def pwrOk : Nat := 0
def pwrBusy : Nat := 1
def pwrRefused : Nat := 2
def pwrAborted : Nat := 3
def pwrNotAllowed : Nat := 4
def pwrDrain : Nat := 5

/-- Put the result of a request. -/
def pwrResult (s : State) (code block step : Nat) : State :=
  put (put (put s F.PWR_REQ_RESULT_code code) F.PWR_REQ_RESULT_block block) F.PWR_REQ_RESULT_step step

/-- A region's power store. -/
def regionPwr (s : State) (n : Nat) : RegionPwr := Tab.getD s.pwr.regions n {}
def modRegionPwr (s : State) (n : Nat) (f : RegionPwr → RegionPwr) : State :=
  { s with pwr := { s.pwr with regions := Tab.upd s.pwr.regions n {} f } }

/-- State of packet region `n` (R413): 0 ON, 1 IDLE, 2 DIM, 3 OFF. -/
def regionState (s : State) (n : Nat) : Nat := get s (F.PWR_D_STATE_state n)
def regionBusy (s : State) (n : Nat) : Bool := getB s (F.PWR_D_STATE_busy n)
def regionStep (s : State) (n : Nat) : Nat := get s (F.PWR_D_STATE_step n)

/-- The token's name of region `n`. -/
def regionRamp (n : Nat) : Ramp := if h : n < 4 then .region ⟨n, h⟩ else .line

/-! ### Consent (R415) -/

/-- Whether a pipeline or recirculation queue of region `n` holds a packet. -/
def pipesHold (s : State) (n : Nat) : Bool :=
  let x := (pkt s n).prs
  x.inq.any (fun e => !e.2.isEmpty) || !x.rec0.isEmpty || !x.rec1.isEmpty

/-- Whether a pipeline of region `n` holds a packet with a tag other than the active bank's (R73). -/
def oldTagIn (s : State) (n : Nat) : Bool :=
  let x := (pkt s n).prs
  let old := fun (p : PPkt) => decide (p.tag ≠ activeBank s)
  x.inq.any (fun e => e.2.any old) || x.rec0.any old || x.rec1.any old

/-- Whether region `n` still keeps DRAINING (R73): powered, not isolated, with an old-tag packet. -/
def drains (s : State) (n : Nat) : Bool :=
  let f := fltRegion s n
  oldTagIn s n && decide (regionState s n < 2) && decide (f.step ≤ 1) && !f.held

/-- Whether the queue's tree ends in a port root or a host root. -/
def underPort (s : State) (n q : Nat) : Bool := match rootOf s n q with
  | some (_, x) => decide (x.kind = 0) || decide (x.kind = 2)
  | none => false

/-- The first block of R415 that refuses target `t` of region `n`: its block ID. -/
def refuser (s : State) (n t : Nat) : Option Nat :=
  let deep := decide (2 ≤ t)
  let rows : List (Nat × Bool) := [
    (0x20, (List.range 32).any (fun l => isPort s n l && decide (portLink s n l ≠ 0))),
    (0x25, decide (regionState s n < 2) && !getB s (F.MEM_STATUS_hbm_ready n)),
    (0x21, deep && pipesHold s n),
    (0x22, if t = 3 then (pkt s n).tmg.queues.any (fun e => !e.2.isEmpty)
      else decide (t = 2) && (pkt s n).tmg.queues.any (fun e => !e.2.isEmpty && underPort s n e.1)),
    (0x24, if t = 3 then !(pkt s n).bpm.bufs.isEmpty || (pkt s n).bpm.units.any (fun e => decide (0 < e.2.count))
      else decide (t = 2) && !(pkt s n).bpm.want.isEmpty),
    (0x13, deep && s.upb.windows.any (fun w => match w.idx with
      | some a => decide (get s (F.UPB_AID_CFG_region a) = n)
      | none => false)),
    (0x1A, deep && (List.range 16).any (fun k => getB s (F.HIF_TX_CFG_en (16 * n + k)) &&
      decide (get s (F.HIF_TX_HEAD_index (16 * n + k)) ≠ get s (F.HIF_TX_TAIL_index (16 * n + k))))),
    (0x03, deep && (bit s.epc.quiesced.regions n || (decide (epcState s = epcDraining) && drains s n)))]
  (rows.find? (fun e => e.2)).map (fun e => e.1)

/-! ### Entry (R416, R417) -/

/-- Give region `n` the traffic held for it, or discard it where the region takes none (R23). -/
def releaseHeld (s : State) (n : Nat) : State :=
  if linkClosed s n then dropHeld s n else
  let mine := s.pth.hold.filter (fun e => decide (e.1 = n))
  let s := { s with pth := { s.pth with hold := s.pth.hold.filter (fun e => decide (e.1 ≠ n)) } }
  mine.foldl (fun s e => match e.2 with
    | .line p fw => lineFrame s n p fw
    | .cross _ q f bs => enqueueFor s n q f bs 2) s

/-- Begin entry step `k` of region `n`: pads latch at E4 (R419), held traffic goes at E5 (R416). [DESIGN CHOICE: log 115] -/
def entryStep (s : State) (n k : Nat) : State :=
  let s := put s (F.PWR_D_STATE_step n) k
  let s := if k = 4 then putB s (F.PWR_D_STATE_pads n) true else s
  if k = 5 then dropHeld s n else s

/-- Record the latest refusal or abort of region `n` (R420). -/
def pwrLast (s : State) (n block : Nat) (aborted : Bool) (step : Nat) : State :=
  put (putB (put s (F.PWR_D_LAST_block n) block) (F.PWR_D_LAST_kind n) aborted) (F.PWR_D_LAST_step n) step

/-- Undo an entry before E5 (R416, R417): the region runs on, its pads as they were before, held traffic delivered.
[DEDUCED, DESIGN CHOICE: log 115, 179] -/
def entryUndo (s : State) (n code step : Nat) : State :=
  let s := pwrResult s code 0 step
  let s := put (putB s (F.PWR_D_STATE_busy n) false) (F.PWR_D_STATE_step n) 0
  let s := putB (put s (F.PWR_D_STATE_target n) 0) (F.PWR_D_STATE_pads n) (regionPwr s n).pads
  let s := { s with pwr := { s.pwr with regions := Tab.del s.pwr.regions n } }
  let s := pwrLast (inc s (F.PWR_D_ABORTED_count n)) n 0 true step
  raiseGrey (portsDown (releaseHeld s n) n) F.PWR_EVENT_aborted

/-- Start the entry of a region that is ON towards state `t`, where every block consents (R415, R416). -/
def startEntry (s : State) (n t : Nat) : State :=
  match refuser s n t with
  | some b =>
    let s := pwrLast (inc (pwrResult s pwrRefused b 0) (F.PWR_D_REFUSED_count n)) n b false 0
    raiseGrey s F.PWR_EVENT_refused
  | none =>
    let s := modRegionPwr s n (fun p => { p with pads := getB s (F.PWR_D_STATE_pads n) })
    let s := putB (put s (F.PWR_D_STATE_target n) t) (F.PWR_D_STATE_busy n) true
    entryStep s n 1

/-! ### Exit (R418, R419) -/

/-- Start an exit of region `n` (R418): it asks for the token. -/
def startExit (s : State) (n : Nat) (k : ExitKind) : State :=
  let s := put (putB (put s (F.PWR_D_STATE_target n) 0) (F.PWR_D_STATE_busy n) true) (F.PWR_D_STATE_step n) 6
  let s := modRegionPwr s n (fun p => { p with wake := false, exit := some (k, 1) })
  tokenRequest s (regionRamp n)

/-- Release the latched pads of region `n` (R419): each port then starts from DOWN. -/
def releasePads (s : State) (n : Nat) : State :=
  if regionState s n = 0 ∧ getB s (F.PWR_D_STATE_pads n) then sendStandings (portsDown (putB s (F.PWR_D_STATE_pads n) false) n) n else s

/-- A wake of region `n` (R417, R418): an entry notes it; IDLE ends at once; DIM and OFF start an exit; an exit or an ON region
needs none. [DEDUCED: log 173] -/
def wake (s : State) (n : Nat) : State :=
  if regionBusy s n then
    (if regionStep s n ≤ 5 then modRegionPwr s n (fun p => { p with wake := true }) else s)
  else if inFault s n then s
  else if regionState s n = 1 then portsDown (put s (F.PWR_D_STATE_state n) 0) n
  else if regionState s n = 2 then startExit s n .fromDim
  else if regionState s n = 3 then startExit s n .fromOff
  else s

/-- Whether region `n` can run no transition: FLT isolates it, the module is in the safe state, or its start-up step has not ended. -/
def powerFixed (s : State) (n : Nat) : Bool :=
  inFault s n || getB s F.GLB_SAFE_safe || decide (get s F.PWR_STATUS_step ≤ 3 + n)

/-- A request for state `t` of region `n`, by PWR_REQ or by a schedule entry (R413, R414). From one sleeping state to
another the region first comes ON. [DEDUCED, DESIGN CHOICE: log 115, 179] -/
def powerRequest (s : State) (n t : Nat) : State :=
  if t ≠ 0 ∧ !bit (get s (F.PWR_D_CFG_allow n)) (t - 1) then pwrResult s pwrNotAllowed 0 0
  else if regionBusy s n then (if t = 0 then wake s n else pwrResult s pwrBusy 0 0)
  else if regionState s n = t then pwrResult s pwrOk 0 0
  else if powerFixed s n then pwrResult s pwrBusy 0 0
  else
    let s := wake (pwrResult s pwrOk 0 0) n
    if t = 0 then s
    else if regionState s n = 0 then startEntry s n t
    else modRegionPwr s n (fun p => { p with after := some t })

/-- The end of an entry (R416): the state is reached. OFF loses everything, DIM keeps tier 0; IDLE takes the traffic held for it
(R413); a wake found since E5 began runs a full exit (R417). -/
def entryEnd (s : State) (n : Nat) : State :=
  let t := get s (F.PWR_D_STATE_target n)
  let woken := (regionPwr s n).wake
  let s := pwrResult s pwrOk 0 0
  let s := put (putB (put s (F.PWR_D_STATE_state n) t) (F.PWR_D_STATE_busy n) false) (F.PWR_D_STATE_step n) 0
  let s := { s with pwr := { s.pwr with regions := Tab.del s.pwr.regions n } }
  let s := releaseHeld (if t = 3 then packetReset s n true else s) n
  if woken then wake s n else s

/-- Entry step of region `n` is done (R416, R417): a wake found before E5 undoes it. E1 is done when the pipelines are empty and
no migration is in flight; IDLE goes from E1 to E3 and ends there. -/
def entryDone (s : State) (n : Nat) : State :=
  let k := regionStep s n
  let t := get s (F.PWR_D_STATE_target n)
  if !regionBusy s n || decide (k = 0) || decide (5 < k) then s
  else if k = 1 ∧ (pipesHold s n ∨ (pkt s n).bpm.want ≠ []) then s
  else if k = 5 ∨ (t = 1 ∧ k = 3) then
    (if t = 1 ∧ (regionPwr s n).wake then entryUndo s n pwrAborted k else entryEnd s n)
  else if (regionPwr s n).wake then entryUndo s n pwrAborted (if t = 1 then 3 else k + 1)
  else entryStep s n (if t = 1 then 3 else k + 1)

/-- The step after exit step `k` (R418): X4 is part of X3 where the memories are not in self-refresh. -/
def nextExit (kind : ExitKind) (k : Nat) : Nat := if k = 3 ∧ kind ≠ .fromDim then 5 else k + 1

/-- Admission opens at the end of X5 (R418, R419), and the region takes a committed bank (R70). -/
def exitEnd (s : State) (n : Nat) (kind : ExitKind) : State :=
  let after := (regionPwr s n).after
  let s := put (putB (put s (F.PWR_D_STATE_state n) 0) (F.PWR_D_STATE_busy n) false) (F.PWR_D_STATE_step n) 0
  let s := owedTaken { s with pwr := { s.pwr with regions := Tab.del s.pwr.regions n } } n
  let s := sendStandings (portsDown (if getB s (F.PWR_D_CFG_rel_auto n) then putB s (F.PWR_D_STATE_pads n) false else s) n) n
  let s := if kind = .restart then
      let f := fltRegion s n
      let s := put s (F.FLT_R_TIME_us n) (sat 0xFFFFFF ((ticks s - f.at_) / 1500))
      modFlt s n (fun f => { f with step := 0, degraded := false })
    else s
  match after with
  | some t => powerRequest s n t
  | none => s

/-- Exit step of region `n` is done (R418): X1 ends with the ramp and gives the token up; X3 of an exit from OFF has reset the
logic and waits for the memories. -/
def exitDone (s : State) (n : Nat) : State :=
  match (regionPwr s n).exit with
  | none => s
  | some (kind, k) =>
    if k = 1 ∧ !ramps s (regionRamp n) then s
    else if k = 3 ∧ kind = .fromOff ∧ !getB s (F.MEM_STATUS_hbm_ready n) then s
    else if k = 5 then exitEnd s n kind
    else
      let s := if k = 1 then tokenRelease s (regionRamp n) else s
      modRegionPwr s n (fun p => { p with exit := some (kind, nextExit kind k) })

/-! ### The commands -/

/-- PWR_REQUEST (R414): a write of PWR_REQ with go set. [DESIGN CHOICE: log 115] -/
def pwrRequest (r : Requester) (n t : Nat) (s : State) : State :=
  onWrite s r R.PWR_REQ fun s =>
    match r with
    | .fn _ => inc s F.PWR_REQ_DENY_count
    | _ => powerRequest (put (put s F.PWR_REQ_domain n) F.PWR_REQ_target t) n t

/-- PWR_REQUEST (R414). -/
def execPwrRequest (r : Requester) (n : PktRegion) (target : Fin 4) (s : State) : Host.Outcome State Fault Refusal :=
  finish s (pwrRequest r n.val target.val s)

/-- ENTRY_STEP_DONE (R416, R417). -/
def execEntryStepDone (n : PktRegion) (s : State) : Host.Outcome State Fault Refusal := finish s (entryDone s n.val)

/-- ENTRY_DRAIN_TIMEOUT (R416): E1 not drained in 20 µs aborts the entry. -/
def execEntryDrainTimeout (n : PktRegion) (s : State) : Host.Outcome State Fault Refusal :=
  finish s (if regionBusy s n.val && decide (regionStep s n.val = 1) then entryUndo s n.val pwrDrain 1 else s)

/-- EXIT_STEP_DONE (R418). -/
def execExitStepDone (n : PktRegion) (s : State) : Host.Outcome State Fault Refusal := finish s (exitDone s n.val)

/-- A write of PAD_RELEASE for region `n` (R419). -/
def padRelease (r : Requester) (n : Nat) (s : State) : State := onWrite s r (R.PWR_D_PAD_RELEASE n) (fun s => releasePads s n)

/-- PAD_RELEASE (R419). -/
def execPadRelease (r : Requester) (n : PktRegion) (s : State) : Host.Outcome State Fault Refusal :=
  finish s (padRelease r n.val s)

/-- MEMORY_TRAINING_DONE (R336): in a region whose core runs or whose exit from OFF trains it. At start-up, and only then (R429), the
region takes its POWERPLAN init state (R411). -/
def memoryTraining (s : State) (n : Nat) (dimms : List (Option Dimm)) : State :=
  let inExit := decide ((regionPwr s n).exit = some (.fromOff, 3))
  if getB s (F.MEM_STATUS_hbm_ready n) then s
  else if inExit then memTrained s n dimms
  else if regionState s n = 0 then
    let s := memTrained s n dimms
    let t := if bit s.pwr.initTaken n then 0 else Tab.getD s.bank.pwrInit n 0
    let s := { s with pwr := { s.pwr with initTaken := setBits s.pwr.initTaken n 1 1 } }
    let s := put (put s (F.PWR_D_STATE_state n) t) (F.PWR_D_STATE_target n) t
    let s := if 2 ≤ t then putB s (F.PWR_D_STATE_pads n) true else s
    if t = 3 then packetReset s n true else s
  else s

/-- MEMORY_TRAINING_DONE (R336, R411). -/
def execMemoryTrainingDone (n : PktRegion) (dimms : List (Option Dimm)) (s : State) : Host.Outcome State Fault Refusal :=
  finish s (memoryTraining s n.val dimms)

end Sys2Proof.Machine
end

