-- ==== Sys2Proof/Machine/Windows.lean ====
section
/-!
DEFINITION. Monitor windows (R446, R448, R450): arming them, their start and their end.
-/
namespace Sys2Proof.Machine
open Sys2Proof

/-- The alarms that start and end window `w` (R446). -/
def winStart (w : Nat) : Nat := 136 + 2 * w
def winEnd (w : Nat) : Nat := 137 + 2 * w

/-- The counters that follow window `w`, outside packet regions in DIM or OFF (R446, R448). -/
def winCtrs (s : State) (w : Nat) : List Nat :=
  (s.bank.ctrs.filter (fun e => decide (bits e.2.src 24 8 = w) &&
    (decide (128 ≤ e.1) || decide (get s (F.PWR_D_STATE_state (e.1 / 32)) < 2)))).map (fun e => e.1)

/-- The first start of a periodic window at or after codeword count `c`: start FN and period in frames. -/
def nextStart (fn period c : Nat) : Nat :=
  if c ≤ 5000 * fn then fn else fn + period * ((c - 5000 * fn + 5000 * period - 1) / (5000 * period))

/-- Arm window `w` (R446, R450): at its start, at its next period where that has passed, or marked late when it has none. A
disabled window's alarms are disarmed. Before module line time is valid its alarm cannot be armed (R41) and it stays idle. [DEDUCED: log 137] -/
def windowArm (s : State) (w : Nat) : State :=
  let s := disarm (disarm s (winStart w) almOk) (winEnd w) almOk
  let s := put s (F.PMON_WIN_CTRL_state w) 0
  match baseNow s 0 with
  | none => s
  | some now =>
    if getB s (F.PMON_WIN_CTRL_en w) then
      let fn := get s (F.PMON_WIN_FN_fn w)
      let period := get s (F.PMON_WIN_LEN_period w)
      if now + 2 ≤ 5000 * fn then put (armAt s (winStart w) fn 0 period) (F.PMON_WIN_CTRL_state w) 1
      else if period ≠ 0 then put (armAt s (winStart w) (nextStart fn period (now + 2)) 0 period) (F.PMON_WIN_CTRL_state w) 1
      else put s (F.PMON_WIN_CTRL_state w) 3
    else s

/-- After a renumbering each enabled periodic window is armed again (R448); the others stay disarmed. [DEDUCED: log 149] -/
def windowRenumbered (s : State) (w : Nat) : State :=
  if get s (F.PMON_WIN_LEN_period w) ≠ 0 then windowArm s w else put s (F.PMON_WIN_CTRL_state w) 0

/-- Start of window `w` at frame `fn` (R446): its counters go to 0 and count; its end is armed. [DEDUCED: log 137] -/
def windowStart (s : State) (w fn : Nat) : State :=
  let s := (winCtrs s w).foldl (fun s c => put s (ctrLive c) 0) s
  let s := (List.range 4).foldl (fun s n =>
    if bit (pkt s n).winWait w then modPkt s n (fun p => { p with winWait := setBits p.winWait w 1 0 }) else s) s
  armAt (put s (F.PMON_WIN_CTRL_state w) 2) (winEnd w) (fn + get s (F.PMON_WIN_LEN_len w)) 0 0

/-- End of window `w` (R446): its counters are copied to WRES and stop. A packet region whose counters follow the window
sees its own win_end. [DEDUCED: log 137] -/
def windowEnd (s : State) (w : Nat) : State :=
  let cs := winCtrs s w
  let s := cs.foldl (fun s c => put s (ctrWres c) (get s (ctrLive c))) s
  let s := put s (F.PMON_WIN_CTRL_state w) (if get s (F.PMON_WIN_LEN_period w) = 0 then 0 else 1)
  let s := ((List.range 4).filter (fun n => cs.any (fun c => decide (c / 32 = n)))).foldl
    (fun s n => raiseGrey s (F.RPM_EVENT_win_end n)) s
  raiseGrey s F.PMON_EVENT_win_end

end Sys2Proof.Machine
end

