-- ==== Sys2Proof/Machine/EpcCommit.lean ====
section
/-!
DEFINITION. The commit (R66 to R77): quiesce of structural scopes, the commit instant with what it does to the control region
and the packet regions, the drain and restart bounds, the power schedule a commit arms (R430).
-/
namespace Sys2Proof.Machine
open Sys2Proof

/-! ### Results (R85) -/

def epcOk : Nat := 0
def epcBusy : Nat := 1
def epcNotStaging : Nat := 2
def epcBadHeader : Nat := 3
def epcBadCrc : Nat := 4
def epcBadSig : Nat := 5
def epcSigRequired : Nat := 6
def epcGenStale : Nat := 7
def epcBadSection : Nat := 8
def epcCapacity : Nat := 9
def epcScope : Nat := 10
def epcAgreement : Nat := 11
def epcTooSoon : Nat := 12
def epcNoTime : Nat := 13
def epcPriv : Nat := 14
def epcLocked : Nat := 15
def epcTimeValid : Nat := 16
def epcNothing : Nat := 17
def epcRange : Nat := 18

/-- Put EPC_RESULT. -/
def epcResult (s : State) (code detail : Nat) : State := put (put s F.EPC_RESULT_code code) F.EPC_RESULT_detail detail

/-- Enter an EPC state. -/
def setEpc (s : State) (v : Nat) : State := put s F.EPC_STATUS_state v

/-- What a command answers outside the state it needs (R55, R64, R77): BUSY while a commit runs, else NOT_STAGING. -/
def outside (s : State) : Nat := if epcState s = epcCommitting ∨ epcState s = epcDraining then epcBusy else epcNotStaging

/-! ### Scopes (R74, R75) -/

/-- Whether a scope names anything. -/
def Scope.any (x : Scope) : Bool := decide (x.regions ≠ 0) || decide (x.lanes ≠ 0) || decide (x.chanA ≠ 0) || decide (x.chanB ≠ 0)

/-- The union of two scopes; region 4 stands for every line channel (R209). -/
def Scope.join (x y : Scope) : Scope :=
  let all := if bit y.regions 4 then 2 ^ 64 - 1 else 0
  ⟨x.regions ||| y.regions % 16, x.lanes ||| y.lanes, x.chanA ||| y.chanA ||| all, x.chanB ||| y.chanB ||| all⟩

/-- The scope of all loaded structural sections (R74). -/
def stagedScope (s : State) : Scope :=
  s.epc.scopes.foldl (fun x e => if inSecs (get s F.EPC_STRUCT_sections) e.1 then x.join e.2 else x) {}

/-- What two scopes both name. -/
def Scope.meet (x y : Scope) : Scope := ⟨x.regions &&& y.regions, x.lanes &&& y.lanes, x.chanA &&& y.chanA, x.chanB &&& y.chanB⟩

/-- Set what is quiesced, with EPC_STATUS.quiesce; what is no longer quiesced is ready (R75). -/
def setQuiesced (s : State) (x : Scope) : State :=
  putB { s with epc := { s.epc with quiesced := x, unready := s.epc.unready.meet x } } F.EPC_STATUS_quiesce x.any

/-- Whether the channel of lane pair `p` is quiesced (R74). [DEDUCED: log 46] -/
def chanQuiesced (s : State) (p : Nat) : Bool :=
  bit (if p < 64 then s.epc.quiesced.chanA else s.epc.quiesced.chanB) (laneChan p)

/-- A channel's quiesce ends. -/
def releaseChan (s : State) (p : Nat) : State :=
  let x := s.epc.quiesced
  setQuiesced s (if p < 64 then { x with chanA := setBits x.chanA (laneChan p) 1 0 }
    else { x with chanB := setBits x.chanB (laneChan p) 1 0 })

/-- Quiesce begins for every structural scope (R74), beside what an earlier commit still holds (R75); what is held at the line die for a
region of it is discarded (R23). [DEDUCED: log 46] -/
def quiesceBegin (s : State) : State :=
  let s := setQuiesced s (s.epc.unready.join (stagedScope s))
  (List.range 4).foldl (fun s n => if bit s.epc.quiesced.regions n then dropHeld s n else s) s

/-- Client lanes and packet regions report ready at the commit instant (R75). [DEDUCED: log 46] -/
def releaseAtInstant (s : State) : State := setQuiesced s { s.epc.quiesced with regions := 0, lanes := 0 }

/-! ### The power schedule (R430) -/

/-- Alarm `168 + k` of schedule entry `k`: armed, or marked late; entries beyond n_sched are disarmed. Before module line time
is valid an entry cannot be armed (R41) and stays idle. [DEDUCED: log 137] -/
def armSchedule (s : State) (k : Nat) : State :=
  let s := put (disarm s (168 + k) almOk) (F.PWR_SCHED_CTRL_state k) 0
  if s.bank.nSched ≤ k then s
  else
    match baseNow s 0 with
    | none => s
    | some now =>
      let fn := get s (F.PWR_SCHED_FN_fn k)
      if 5000 * fn < now + 2 then
        raiseGrey (put (armAt s (168 + k) fn 0 0) (F.PWR_SCHED_CTRL_state k) 3) F.PWR_EVENT_sched_late
      else put (armAt s (168 + k) fn 0 0) (F.PWR_SCHED_CTRL_state k) 1

/-- Schedule entry `k` fires (R430): a request under R414; a second one for the region at the same instant is BUSY, unless it asks for ON
(R428). [DEDUCED: log 137] -/
def scheduleFire (old s : State) (k : Nat) : State :=
  let n := get old (F.PWR_SCHED_CTRL_domain k)
  let t := get old (F.PWR_SCHED_CTRL_target k)
  let now := (get old (F.PWR_SCHED_FN_fn k), s.clk.ticks)
  if t ≠ 0 ∧ Tab.find s.pwr.schedAt n = some now then pwrResult s pwrBusy 0 0
  else powerRequest { s with pwr := { s.pwr with schedAt := Tab.set s.pwr.schedAt n now } } n t

/-! ### What a commit does beside the values (R74, R311, R315, R365, R406, R450) -/

/-- The registers of a ring pass to its new owner at 0 (R406). [DEDUCED: log 112] -/
def ringToZero (s : State) (a : Nat) : State :=
  (List.range 16).foldl (fun s i => if (regRowAt (a + 4 * i)).isSome then wrWord s (a + 4 * i) 0 else s) s

/-- Rings whose owner the commit changes stop for their old owner (R406). [DEDUCED: log 112] -/
def commitRings (s : State) (old : Cfg) : State :=
  (List.range 64).foldl (fun s t =>
    let s := if cfgGet old (F.ACW_TX_OWNER_fn t) ≠ txOwner s t then ringToZero (stopTx s t) (R.HIF_TX_BASE t) else s
    if cfgGet old (F.ACW_RX_OWNER_fn t) ≠ rxOwner s t then ringToZero (stopRx s t) (R.HIF_RX_BASE t) else s) s

/-- What the sections in `m` do at the commit instant beside their values, the bank before them being `old`; a packet region in DIM or
OFF does its part at X5 (R70). -/
def commitEffects (s : State) (old : Cfg) (m : Nat) : State :=
  let s := (List.range 4).foldl (fun s n =>
    let s := if inSecs m 7 then commitTables s old m n else s
    if regionAsleep s n then owe s old m n else regionTakes s old m n) s
  let s := if inSecs m 0xE then tsuCommit s else s
  let s := if inSecs m 0xF then (List.range 32).foldl armSchedule s else s
  let s := if inSecs m 0x10 then (List.range 16).foldl windowArm s else s
  if inSecs m 0x11 then commitRings s old else s

/-! ### The commit instant (R67, R70, R76, R77) -/

/-- The line blocks of both paths owe the sections in `m` from path frame `fn` on (R67); a path without lock may owe those of an earlier
commit as well (R76). [DEDUCED: log 198] -/
def lineBegin (s : State) (m fn : Nat) : State :=
  { s with lineOld := activeCfg s, lineCfg := s.other, epc := { s.epc with
      owedA := (if s.epc.lineDueA then s.epc.owedA else 0) ||| m
      owedB := (if s.epc.lineDueB then s.epc.owedB else 0) ||| m
      lineDueA := true, lineDueB := true, atFn := fn } }

/-- Switch the control region and the packet regions (R67): the other bank becomes active, the active one stays as the bank of
old-tag packets (R71), and the line blocks of both paths are due, but one that its own time has switched already. -/
def switchBanks (s : State) (m fn : Nat) : State :=
  let s := if s.epc.early then s else lineBegin s m fn
  let old := activeCfg s
  let new := s.other
  let s := supersede s m
  let s := setActive s (takeCfg m (activeCfg s) new)
  let kept := takeCfg m new old
  let s := { s with other := kept, epc := { s.epc with
      carried := m, early := false, waitA := pathLocked s .a && s.epc.lineDueA, waitB := pathLocked s .b && s.epc.lineDueB } }
  commitEffects s old m

/-- The pipelines and recirculation queues of the packet regions in scope empty before their change (R74, R298): what still waits makes its
passes under the bank of its tag. [DEDUCED: log 225] -/
def scopeEmpties (s : State) : State :=
  (List.range 4).foldl (fun s n => if bit s.epc.quiesced.regions n && !regionStopped s n then drainPipes s n else s) s

/-- The commit instant of a staged commit (R67): the sections that EPC_LOADED names take effect. [DESIGN CHOICE: log 191] -/
def commitInstant (s : State) : State :=
  let s := scopeEmpties s
  let m := get s F.EPC_LOADED_sections
  let s := putB s F.EPC_STATUS_active_bank (!activeBank s)
  let s := put (inc s F.EPC_COMMIT_COUNT_count) F.EPC_GEN_ACTIVE_gen (get s F.EPC_GEN_STAGED_gen)
  let fn := if ltValid s then modFn s else 0
  let s := put s F.EPC_COMMIT_FN_fn fn
  let s := { s with epc := { s.epc with unready := s.epc.quiesced, atTick := ticks s, nowCommit := false } }
  releaseAtInstant (setEpc (switchBanks s m fn) epcCommitting)

/-! ### Bounds (R73, R75) -/

/-- The drain bound (R73): a drain fault for every region that still holds old-tag packets. -/
def drainBound (s : State) : State :=
  if epcState s = epcDraining then
    let named := (List.range 4).filter (fun n => drains s n)
    named.foldl (fun s n => regionFault s n fltDrain 0x03 0) (raiseGrey s F.EPC_EVENT_drain_overrun)
  else s

/-- Whether the last commit still waits for the channel of lane pair `p` (R75). -/
def chanUnready (s : State) (p : Nat) : Bool :=
  bit (if p < 64 then s.epc.unready.chanA else s.epc.unready.chanB) (laneChan p)

/-- The restart bound (R75): a SCOPE fault for each resource of the commit that has not reported ready, whatever state the EPC has
reached since. -/
def restartBound (s : State) : State :=
  let late := (List.range 128).filter (fun p => chanUnready s p)
  if late.isEmpty then s else late.foldl scopeLane (raiseGrey s F.EPC_EVENT_scope_timeout)

/-! ### Return to STAGING (R40, R76) -/

/-- A commit that is no longer armed: what it quiesced is released, but what an earlier commit still holds, and a path whose line blocks
had switched ahead of the instant takes the active bank again (R76). [DEDUCED: log 198] -/
def unarm (s : State) : State :=
  let s := setQuiesced s s.epc.unready
  if s.epc.early then
    let m := s.epc.owedA ||| s.epc.owedB
    let back := fun (s : State) (q : Path) (due : Bool) =>
      if due then s
      else
        let s := setActive s (takeLine m q true (activeCfg s) s.lineOld)
        if inSecs m 2 then (lanesOf q).foldl (fun s p => laneRetarget s p (Tab.getD s.bank.lineInit p 4)) s else s
    let s := back (back s .a s.epc.lineDueA) .b s.epc.lineDueB
    { s with epc := { s.epc with early := false, lineDueA := false, lineDueB := false, owedA := 0, owedB := 0 } }
  else s

/-- An ARMED commit returns to STAGING at a renumbering: a quiesce already begun is released (R76). -/
def epcReturned (s : State) : State :=
  if epcState s = epcArmed then raiseGrey (setEpc (unarm s) epcStaging) F.EPC_EVENT_returned else s

end Sys2Proof.Machine
end

