-- ==== Sys2Proof/Machine/AlarmActs.lean ====
section
/-!
DEFINITION. What a fired alarm on module line time does (R44): snapshot latches (R45, R46, R126, R130, R314), monitor
windows, the commit, power-state changes; and a step of module line time over its alarms (R39).
-/
namespace Sys2Proof.Machine
open Sys2Proof

/-! ### Snapshot latches -/

/-- Whether a live-counter key is a second counter of DFR (R130), or a clear-on-read counter of POL (R314). -/
def isSecKey (k : Nat) : Bool := decide (R.DFR_SEC_CORR 0 ≤ k) && decide (k < R.DFR_SEC_CORR 0 + 0x20 * 128)
def isPolKey (k : Nat) : Bool := decide (polKey 0 0 0 ≤ k) && decide (k < polKey 4 0 0)

/-- Take the captured bank as the readable one (R45). [DEDUCED: log 31] -/
def snapComplete (s : State) : State :=
  match s.ltu.snapPending with
  | none => s
  | some fn =>
    let s := { s with snap := s.snapNext, snapNext := [], ltu := { s.ltu with snapPending := none } }
    let s := (List.range 4).foldl (fun s n =>
      modPkt s n (fun p => { p with pol := ⟨false, p.pol.done⟩ })) s
    put (inc s F.LTU_SNAP_SEQ_seq) F.LTU_SNAP_FN_fn fn

/-- The bank that a latch captures: the live counters, the second counters only at the second latch (R45, R130), every
performance counter (R447). [DEDUCED: log 31] -/
def captured (s : State) (second : Bool) : Tab Nat :=
  let base := Tab.keep s.live (fun k => !isSecKey k)
  let secs := if second then Tab.keep s.live isSecKey else Tab.keep s.snap isSecKey
  let t := secs.foldl (fun t e => Tab.set t e.1 e.2) base
  (List.range 192).foldl (fun t c => if get s (ctrLive c) = 0 then t else Tab.set t (ctrSnap c) (get s (ctrLive c))) t

/-- A latch at codeword count `c` (R45): the bank nobody reads takes the live counters; clear-on-read counters go to 0. A
capture still completing ends first. [DEDUCED: log 153] -/
def latch (s : State) (c : Nat) (second : Bool) : State :=
  let s := snapComplete s
  let s := (List.range 4).foldl (fun s n =>
    if (pkt s n).pol.doneOther then s else raiseGrey s (F.POL_EVENT_acc_overrun n)) s
  let t := captured s second
  { s with
    snapNext := t
    live := Tab.keep s.live (fun k => !isPolKey k && !(second && isSecKey k))
    ltu := { s.ltu with snapPending := some (c / 5000), lastLatch := some c } }

/-- Alarm 132 (R42, R45, R126): SD is judged, the second latch falls, the next second's presence bits
begin, and so does the count of key-stream mismatches (R234). [DEDUCED: log 31] -/
def secondLatch (s : State) (c : Nat) : State :=
  let s := latch ((List.range 128).foldl evalSd s) c true
  let s := { s with lcy := { s.lcy with secMismatch := [] } }
  (List.range 128).foldl report s

/-! ### Dispatch -/

/-- Whether alarm `k` is armed on module line time. -/
def moduleArmed (s : State) (k : Nat) : Bool := alarmArmed s k && decide (alarmBase s k = 0)

/-- The codeword count at which alarm `k` on module line time falls (R37, R43): its own time, but the start of the next frame where it
stands at CW 4,999 of a frame that is shortened. -/
def fallsAt (s : State) (k : Nat) : Nat :=
  let fn := get s (F.LTU_ALM_FN_fn k)
  let short := (decide (fn = modFn s) && decide (getI s F.LTU_SLEW_remain < 0)) || (decide (fn + 1 = modFn s) && s.ltu.shortened)
  if get s (F.LTU_ALM_CTRL_cw k) = 4999 ∧ short then alarmAt s k + 1 else alarmAt s k

/-- Alarms 133 to 135 (R46): a latch, merged with one at the same instant, or skipped and counted; `old` is the state before the instant,
which shows whether the second latch falls on it. [DEDUCED, DESIGN CHOICE: log 153, 186] -/
def progLatch (old s : State) (c : Nat) : State :=
  let near := match s.ltu.lastLatch with
    | some l => decide (c < l + 625000)
    | none => false
  if s.ltu.lastLatch = some c ∨ (moduleArmed old 132 ∧ fallsAt old 132 = c) then s
  else if near || (alarmArmed s 132 && decide (alarmAt s 132 < c + 625000)) then inc s F.LTU_SNAP_SKIP_count
  else latch s c false

/-- What alarm `k` on module line time does at codeword count `c`; `old` is the state at the end of the codeword before, which decides
what a schedule entry asks for and with which latches one merges (R44). A general alarm's firing is its state alone. -/
def moduleAct (old s : State) (k c : Nat) : State :=
  if k = 128 then commitInstant s
  else if k = 129 then quiesceBegin s
  else if k = 130 then drainBound s
  else if k = 131 then restartBound s
  else if k = 132 then secondLatch s c
  else if k < 136 then progLatch old s c
  else if k < 168 then (if k % 2 = 0 then windowStart s ((k - 136) / 2) (c / 5000) else windowEnd s ((k - 136) / 2))
  else if k < 200 then scheduleFire old s (k - 168)
  else s

/-- Alarm `k` has fired (R43): its state, and its next time if it is periodic; a schedule entry shows it (R430). -/
def markFired (s : State) (k : Nat) (late : Bool) : State :=
  let period := get s (F.LTU_ALM_CTRL_period k)
  let s := putB (put s (F.LTU_ALM_STATUS_state k) 3) (F.LTU_ALM_STATUS_late k) late
  let s := if period = 0 then s
    else put (put s (F.LTU_ALM_FN_fn k) (get s (F.LTU_ALM_FN_fn k) + period)) (F.LTU_ALM_STATUS_state k) 1
  if 168 ≤ k ∧ k < 200 then put s (F.PWR_SCHED_CTRL_state (k - 168)) 2 else s

/-- Alarms `a` to `b`. -/
def alarmsFrom (a b : Nat) : List Nat := (List.range (b + 1 - a)).map (· + a)

/-- The classes of R44 in the order of dispatch: snapshot latches, window ends and then starts, commits, power states, general. [DEDUCED: log 206] -/
def dispatchClasses : List (List Nat) := [
  alarmsFrom 132 135, (alarmsFrom 136 167).filter (fun k => decide (k % 2 = 1)) ++ (alarmsFrom 136 167).filter (fun k => decide (k % 2 = 0)),
  alarmsFrom 128 131, alarmsFrom 168 199, alarmsFrom 200 255]

/-- The alarms on module line time that act at codeword count `c`, in the order of R44; in each class one that a shortened frame has
put off comes first (R37). -/
def dueTogether (s : State) (c : Nat) : List Nat :=
  dispatchClasses.flatMap (fun l =>
    let due := l.filter (fun k => moduleArmed s k && decide (fallsAt s k = c))
    due.filter (fun k => decide (alarmAt s k < c)) ++ due.filter (fun k => decide (c ≤ alarmAt s k)))

/-- The alarms of one codeword act together (R44): all have fired before the first acts, so that no action changes which of the others
act, or what they do. [DEDUCED: log 206] -/
def fireTogether (s : State) (l : List Nat) (c : Nat) (late : Bool) : State :=
  let old := reach s 0 c
  l.foldl (fun t k => moduleAct old t k c) (l.foldl (fun t k => markFired t k late) old)

/-- The codeword count of the alarm on module line time that falls first, at or before codeword count `c`. -/
def firstDue (s : State) (c : Nat) : Option Nat :=
  (alarmsFrom 128 255).foldl (fun best k =>
    if moduleArmed s k && decide (fallsAt s k ≤ c) then some (match best with
      | some b => min b (fallsAt s k)
      | none => fallsAt s k)
    else best) none

/-- Every alarm on module line time that falls at or before codeword count `c` fires, in time order and in the order of R44. [DEDUCED: log 206] -/
def dispatchTo (s : State) (c : Nat) (late : Bool) (fuel : Nat) : State :=
  match fuel with
  | 0 => s
  | fuel + 1 => match firstDue s c with
    | none => s
    | some x => dispatchTo (fireTogether s (dueTogether s x) x late) c late fuel

/-- Module line time steps forward to `c` (R39): every alarm it passes fires late, in time order. [DEDUCED: log 26] -/
def stepTo (s : State) (c fuel : Nat) : State := reach (dispatchTo s (c - 1) true fuel) 0 c

/-- SNAPSHOT_COMPLETE (R45). -/
def execSnapshotComplete (s : State) : Host.Outcome State Fault Refusal := finish s (snapComplete s)

end Sys2Proof.Machine
end

