-- ==== Sys2Proof/Machine/LcyBase.lean ====
section
/-!
DEFINITION. The key store's slots (R245, R246), the contexts' epochs and counter limits (R238 to R243), and the functions
that seal and open a segment (R236, R237, R239, R240).
-/
namespace Sys2Proof.Machine
open Sys2Proof

def modLcy (s : State) (f : Lcy → Lcy) : State := { s with lcy := f s.lcy }

/-! ### Slots -/

/-- The slot that holds the root key of a path and direction (R153, R238). -/
def rootSlot (s : State) (q : Path) (up : Bool) : Nat :=
  if up then get s (F.ACT_ROOT_SLOT_up (qn q)) else get s (F.ACT_ROOT_SLOT_down (qn q))

def slotGen (s : State) (k : Nat) : Nat := get s (F.KST_SLOT_GEN_gen k)
def slotIdle (s : State) (k : Nat) : Bool := getB s (F.KST_SLOT_STATUS_slot_idle k)
def slotKey (s : State) (k : Nat) : Option (List Byte) := Tab.find s.lcy.keys k

/-- Load or empty slot `k` (R245, R246). An old key drains until its last captured segment has left. -/
def slotPut (s : State) (k : Nat) (key : Option (List Byte)) : State :=
  let s := if (slotKey s k).isSome then putB s (F.KST_SLOT_STATUS_slot_idle k) false else s
  let s := modLcy s (fun l => { l with keys := Tab.put l.keys k key })
  let s := putB s (F.KST_SLOT_STATUS_valid k) key.isSome
  if key.isSome then inc s (F.KST_SLOT_GEN_gen k) else s

/-- Whether a command would write a slot whose generation has run out (R245). -/
def kstRetired (s : State) (c : KstCmd) : Bool := c.key.isSome && decide (slotGen s c.slot = 0xFFFFFFFF)

/-- A command of the host reaches the front of the queue (R245): BUSY, RETIRED or done. -/
def kstAnswer (s : State) (c : KstCmd) : State :=
  let code := if !slotIdle s c.slot then 1 else if kstRetired s c then 2 else 0
  put (if code = 0 then slotPut s c.slot c.key else s) F.KST_RESULT_code code

/-- The one queue of the key store, in arrival order (R245): the host's commands are answered, the warden's wait until their slot is
idle, and do nothing where it is retired; while the warden is down all wait (R380). -/
def kstRun (s : State) (fuel : Nat) : State :=
  match fuel with
  | 0 => s
  | fuel + 1 => match s.lcy.cmds with
    | [] => s
    | c :: rest =>
      if s.wrd.down || (!c.host && !slotIdle s c.slot) then s
      else
        let s := modLcy s (fun l => { l with cmds := rest })
        kstRun (if c.host then kstAnswer s c else if kstRetired s c then s else slotPut s c.slot c.key) fuel

/-- The queue runs as far as it can. -/
def kstServe (s : State) : State := kstRun s (s.lcy.cmds.length + 1)

/-- A command of the warden joins the queue (R153, R245). -/
def slotCommand (s : State) (k : Nat) (key : Option (List Byte)) : State :=
  kstServe (modLcy s (fun l => { l with cmds := l.cmds ++ [⟨k, key, false⟩] }))

/-- Whether a derived key comes from slot `k` as it was before its last write or erase (R246). -/
def oldKey (s : State) (k : Nat) (d : Derived) : Bool :=
  decide (d.slot = k) && (decide (d.gen ≠ slotGen s k) || (slotKey s k).isNone)

/-- The old key of slot `k` has drained (R246): its derived entries are zeroised, the slot is idle, and the queue
runs on. -/
def slotDrained (s : State) (k : Nat) : State :=
  let old := oldKey s k
  let s := modLcy s (fun l => { l with
    cache := l.cache.filter (fun d => !old d), deriving_ := l.deriving_.filter (fun d => !old d) })
  kstServe (put (putB s (F.KST_SLOT_STATUS_slot_idle k) true) F.LCY_CACHE_used s.lcy.cache.length)

/-! ### Contexts (R238, R242, R243) -/

/-- 0 downstream, 1 upstream. -/
def dirNum (up : Bool) : Nat := b2n up
def ctxKey (q : Path) (up : Bool) (i : Nat) : Nat := 8 * qn q + 4 * b2n up + i
def ctxValid (s : State) (q : Path) (up : Bool) (i : Nat) : Bool := getB s (F.LCY_CTX_STATE_valid (qn q) (dirNum up) i)

/-- A context's registers without an epoch, and nothing asked of the hub. -/
def ctxBlank (s : State) (q : Path) (up : Bool) (i : Nat) : State :=
  let s := wrWord s (R.LCY_CTX_STATE (qn q) (dirNum up) i) 0
  let s := put (put s (F.LCY_CTX_EPOCH_fn (qn q) (dirNum up) i) 0) (F.LCY_CTX_NEXT_fn (qn q) (dirNum up) i) 0
  modLcy s (fun l => { l with reqFn := Tab.del l.reqFn (ctxKey q up i) })

/-- Clear a context's state, with the frames of its uses and its earlier epoch. -/
def ctxClear (s : State) (q : Path) (up : Bool) (i : Nat) : State :=
  let k := ctxKey q up i
  modLcy (ctxBlank s q up i) (fun l => { l with
    lastFn := Tab.keep l.lastFn (fun x => decide (x / 1024 ≠ k))
    prevEpoch := Tab.del l.prevEpoch k })

/-- Give a context an epoch (R242, R244). -/
def ctxEpoch (s : State) (q : Path) (up : Bool) (i fn : Nat) : State :=
  let s := ctxBlank s q up i
  put (putB s (F.LCY_CTX_STATE_valid (qn q) (dirNum up) i) true) (F.LCY_CTX_EPOCH_fn (qn q) (dirNum up) i) fn

/-- Every context of path `q`. -/
def allCtx (s : State) (f : State → Bool → Nat → State) : State :=
  [false, true].foldl (fun s up => (List.range 4).foldl (fun s i => f s up i) s) s

/-- Entry to T0 or T1 clears the path's epochs (R242). -/
def clearEpochs (s : State) (q : Path) : State :=
  put (allCtx s (fun s up i => ctxClear s q up i)) (F.LCY_TX_IDX_idx (qn q)) 0

/-- Entry to T4 (R242). -/
def t4Epochs (s : State) (q : Path) (fn : Nat) : State :=
  ctxEpoch (ctxEpoch (clearEpochs s q) q false 0 fn) q true 0 fn

/-- Mark a context exhausted (R243). -/
def exhaust (s : State) (q : Path) (up : Bool) (i : Nat) : State :=
  raiseGrey (putB s (F.LCY_CTX_STATE_exhausted (qn q) (dirNum up) i) true) F.LCY_EVENT_exhausted

/-- A renumbering from FN `old` to `new` exhausts every context of the lead path (R243): with its epochs in use and before it, and an epoch
that a REKEY has set in the old numbering comes no more. Frame numbers of earlier uses mean nothing any more; a request to the hub is
repeated as many frames later as before. [DEDUCED: log 84] -/
def exhaustPath (s : State) (q : Path) (old new : Nat) : State :=
  allCtx s (fun s up i =>
    let k := ctxKey q up i
    let s := putB (put s (F.LCY_CTX_NEXT_fn (qn q) (dirNum up) i) 0) (F.LCY_CTX_STATE_next_valid (qn q) (dirNum up) i) false
    let s := modLcy s (fun l => { l with
      lastFn := Tab.keep l.lastFn (fun x => decide (x / 1024 ≠ k))
      reqFn := Tab.put l.reqFn k ((Tab.find l.reqFn k).map (fun f => f + new - old))
      prevEpoch := Tab.put l.prevEpoch k ((Tab.find l.prevEpoch k).map (fun e => (e.1, true))) })
    if ctxValid s q up i then exhaust s q up i else s)

/-! ### Keys and IVs -/

/-- The context label (R239). [PRESUMED: log 64] -/
def ctxLabel (s : State) (d : Derived) : List Byte :=
  let q := qn d.path
  beBytes 2 (get s (F.ACT_TID_tid q)) ++ beBytes 2 (d.group % 1024) ++ beBytes 1 (d.idx + 4 * b2n d.up + 8 * q) ++
  beBytes 4 d.gen ++ beBytes 8 (get s F.ACT_LSI_lsi) ++
  beBytes 6 d.epoch ++ beBytes 9 0

/-- The traffic key and the fixed field (R240). [PRESUMED: log 64] -/
def trafficKey (s : State) (d : Derived) (root : List Byte) : List Byte × List Byte :=
  let block := fun (i : Nat) => Config.cmac256 root (beBytes 4 i ++ beBytes 4 0x5A4C4331 ++ beBytes 1 0 ++ ctxLabel s d ++ beBytes 4 288)
  let k := block 1 ++ block 2 ++ block 3
  (sub k 0 32, sub k 32 4)

/-- The IV (R237). -/
def segIv (fixed : List Byte) (chan f p : Nat) : List Byte :=
  fixed ++ beBytes 8 (2 ^ 58 * chan + 2 ^ 22 * (f % 2 ^ 26) + p % 2 ^ 22)

/-- The CRYPTO binding of a SID (R250). -/
def cryptOf (b : Bank) (sid : Nat) : Option CryptEnt := Tab.find b.crypt sid

/-- The epoch of a key index for frame `fn` (R242, R244): the next one from its frame on, the one before the current one for
earlier frames. -/
def epochAt (s : State) (q : Path) (up : Bool) (i fn : Nat) : Option Nat :=
  let next := get s (F.LCY_CTX_NEXT_fn (qn q) (dirNum up) i)
  let e := get s (F.LCY_CTX_EPOCH_fn (qn q) (dirNum up) i)
  if getB s (F.LCY_CTX_STATE_next_valid (qn q) (dirNum up) i) && decide (next ≤ fn) then some next
  else if !ctxValid s q up i then none
  else if fn < e then some (((Tab.find s.lcy.prevEpoch (ctxKey q up i)).map (fun p => p.1)).getD e)
  else some e

/-- Whether epoch `e` of an index, the one in use or the one before it, is exhausted (R243). -/
def isExhausted (s : State) (q : Path) (up : Bool) (i e : Nat) : Bool :=
  (getB s (F.LCY_CTX_STATE_exhausted (qn q) (dirNum up) i) && ctxValid s q up i &&
    decide (e = get s (F.LCY_CTX_EPOCH_fn (qn q) (dirNum up) i))) ||
  decide (Tab.find s.lcy.prevEpoch (ctxKey q up i) = some (e, true))

/-- Why a context cannot be used at frame `fn` (R243, R247 rows 6 and 7): 0x50 without key or epoch, 0x52 where the counter
is refused. -/
def ctxRefuses (s : State) (q : Path) (up : Bool) (i group fn : Nat) : Option Nat :=
  match epochAt s q up i fn with
  | none => some 0x50
  | some e =>
    if (slotKey s (rootSlot s q up)).isNone then some 0x50
    else if isExhausted s q up i e || decide (fn < e) || decide (2 ^ 26 ≤ fn - e) ||
      decide (fn < Tab.getD s.lcy.lastFn (1024 * ctxKey q up i + group) 0) then some 0x52
    else none

/-- Ask the hub for a rekey (R243, R244): reason 1 Amber, 2 exhausted. -/
def rekeyReq (s : State) (q : Path) (up : Bool) (i : Nat) : State :=
  let reason := 1 + b2n (getB s (F.LCY_CTX_STATE_exhausted (qn q) (dirNum up) i))
  let fn := (pathTime s q).fn
  let body := beBytes 1 (dirNum up) ++ beBytes 1 i ++ beBytes 1 reason ++ beBytes 6 fn
  let s := modAct s q (fun a => { a with upq := a.upq ++ [⟨.lcy, 0xA5, body⟩] })
  modLcy s (fun l => { l with reqFn := Tab.set l.reqFn (ctxKey q up i) fn })

/-- A context is used at frame `fn` (R243): its f; at the first use of its epoch with bit 47 set, Amber. A late segment of the epoch
before it warns no more, its index having been rekeyed. [DEDUCED: log 84] -/
def ctxUse (s : State) (q : Path) (up : Bool) (i group fn : Nat) : State :=
  let e := epochAt s q up i fn
  let f := fn - e.getD fn
  let now := decide (e = some (get s (F.LCY_CTX_EPOCH_fn (qn q) (dirNum up) i)))
  let s := put s (F.LCY_CTX_STATE_f (qn q) (dirNum up) i) f
  let s := modLcy s (fun l => { l with lastFn := Tab.set l.lastFn (1024 * ctxKey q up i + group) fn })
  if 2 ^ 25 ≤ f ∧ now ∧ !getB s (F.LCY_CTX_STATE_amber (qn q) (dirNum up) i) then
    rekeyReq (raise (putB s (F.LCY_CTX_STATE_amber (qn q) (dirNum up) i) true) F.LCY_EVENT_amber .amber 0) q up i
  else s

/-- A refused use marks a context whose counter has run out (R243). -/
def ctxRefused (s : State) (q : Path) (up : Bool) (i fn : Nat) : State :=
  match epochAt s q up i fn with
  | none => s
  | some e =>
    if e + 2 ^ 26 ≤ fn ∧ e = get s (F.LCY_CTX_EPOCH_fn (qn q) (dirNum up) i) ∧ !isExhausted s q up i e then exhaust s q up i else s

/-- The upstream sending index for windows of frame `fn` (R244). -/
def txIndexAt (s : State) (q : Path) (fn : Nat) : Nat :=
  let next := fun i => get s (F.LCY_CTX_NEXT_fn (qn q) 1 i)
  let later := (List.range 4).foldl (fun (b : Option Nat) i =>
    if getB s (F.LCY_CTX_STATE_next_valid (qn q) 1 i) && decide (next i ≤ fn) then
      match b with
      | none => some i
      | some j => if next j ≤ next i then some i else some j
    else b) none
  later.getD (get s (F.LCY_TX_IDX_idx (qn q)))

/-- The place of the key of a context at frame `fn`. -/
def derivedAt (s : State) (q : Path) (up : Bool) (i group fn : Nat) : Derived :=
  let k := rootSlot s q up
  ⟨q, up, group, i, (epochAt s q up i fn).getD 0, k, slotGen s k⟩

/-- Traffic key and fixed field of a place whose root is loaded now. -/
def keyOf (s : State) (d : Derived) : List Byte × List Byte :=
  trafficKey s d ((slotKey s d.slot).getD [])

/-- The keys that captured segments use (R246): those in the downstream engines and those of bursts that have not left. -/
def capturedKeys (s : State) : List Derived :=
  s.lcy.waiting.filterMap (fun w => w.opens.map (fun o => o.1)) ++ s.upb.bursts.flatMap (fun b => b.keys)

/-- The derived-key cache with `d` as its most recently used entry; the least recently used entry that no captured segment pins
makes room (R241). With every entry pinned there is no room, and the cache stays as it is. [DESIGN CHOICE: log 83] -/
def cachePut (s : State) (d : Derived) : State :=
  let rest := s.lcy.cache.filter (fun x => decide (x ≠ d))
  let room := if rest.length < 4096 then some rest
    else ((rest.reverse).find? (fun x => !(capturedKeys s).contains x)).map (fun x => rest.erase x)
  match room with
  | none => s
  | some rest => put (modLcy s (fun l => { l with cache := d :: rest })) F.LCY_CACHE_used (rest.length + 1)

/-- LCY's discards (R249). -/
def lcyDiscard (s : State) (ids : List (Nat × Nat)) (code : Nat) : State := discardOf s (F.LCY_DISC_count (code - 0x50)) code ids

end Sys2Proof.Machine
end

