-- ==== Sys2Proof/Machine/Ltu.lean ====
section
/-!
DEFINITION. The line time unit (R32 to R41): path times and their reference channels, the lead path, slew, holdover and
reacquisition, renumbering, second announcements.
-/
namespace Sys2Proof.Machine
open Sys2Proof

def modLtu (s : State) (f : Ltu → Ltu) : State := { s with ltu := f s.ltu }

/-- LTU_STATUS.lead: 0 NONE, 1 A, 2 B, 3 HOLDOVER. -/
def ltuLead (s : State) : Nat := get s F.LTU_STATUS_lead
def lockF (q : Path) : Fld := match q with
  | .a => F.LTU_STATUS_lock_a
  | .b => F.LTU_STATUS_lock_b
def offsetF (q : Path) : Fld := match q with
  | .a => F.LTU_PATH_OFFSET_A_offset
  | .b => F.LTU_PATH_OFFSET_B_offset

/-- Module line time in 1/16 codewords. -/
def mod16 (s : State) : Int := ((16 * cwCount (modFn s) (modCw s) + s.ltu.sub / 6 : Nat) : Int)

/-- Path time in 1/16 codewords. -/
def path16 (s : State) (q : Path) : Int :=
  let t := pathTime s q
  ((16 * cwCount t.fn t.cw + t.sub / 6 : Nat) : Int)

/-- Offset of path `q`, module line time minus path time (R37). -/
def offset (s : State) (q : Path) : Int := getI s (offsetF q)

/-- Show the codewords of slew that remain: those of the lead path's offset (R37). [DEDUCED: log 28] -/
def showSlew (s : State) : State :=
  match leadPath s with
  | none => putI s F.LTU_SLEW_remain 0
  | some q =>
    let r := (offset s q).tdiv 16
    putI s F.LTU_SLEW_remain (if r < -32768 then -32768 else if 32767 < r then 32767 else r)

/-- Put module line time. [DEDUCED: log 28] -/
def setModule (s : State) (c : Nat) : State :=
  put (put (modLtu s (fun l => { l with sub := 0 })) F.LTU_FN_fn (c / 5000)) F.LTU_CW_cw (c % 5000)

/-- Frames that make a renumbering (R37, R39, R40), in codewords. [DEDUCED: log 149] -/
def renumberAt : Int := 15625 * 5000

/-- The announcement in use (R34): the lead path's, else the other's. -/
def annInUse (s : State) : Option SecAnn :=
  let lead := (leadPath s).getD (s.ltu.lastLead.getD .a)
  (annOf s lead).orElse (fun _ => annOf s (otherPath lead))

/-- Follow the announcement in use (R34): a change of offset waits for the boundary that satisfies it. [DEDUCED: log 30] -/
def useAnn (s : State) : State :=
  let s := match s.ltu.annA, s.ltu.annB with
    | some a, some b => if a.fn % 15625 ≠ b.fn % 15625 then raiseGrey s F.LTU_EVENT_sec_mismatch else s
    | _, _ => s
  match annInUse s with
  | none => modLtu (putB s F.LTU_STATUS_sec_valid false) (fun l => { l with pendingOffset := none })
  | some a =>
    let s := putB s F.LTU_STATUS_sec_valid true
    let o := a.fn % 15625
    modLtu s (fun l => { l with pendingOffset := if o = get s F.LTU_SEC_OFFSET_offset then none else some o })

/-- The first second boundary at offset `o` that an alarm can still be armed for at codeword count `c` (R33, R43). -/
def nextSecond (o c : Nat) : Nat :=
  let f := (c + 2 + 4999) / 5000
  f + (o + 15625 - f % 15625) % 15625

/-- Arm alarm 132 for the next second boundary at the offset in force (R42). -/
def armSecond (s : State) : State :=
  let c := cwCount (modFn s) (modCw s)
  armAt (disarm s 132 almOk) 132 (nextSecond (get s F.LTU_SEC_OFFSET_offset) c) 0 15625

/-- The reference channel that R35 gives path `q` now. -/
def chooseRef (s : State) (q : Path) : Option Nat :=
  let home := (act s q).home.filter (fun n => mfLock s (laneOf q n))
  home.orElse (fun _ => (List.range 64).find? (fun n => mfLock s (laneOf q n)))

/-- Bring a path's reference channel up to date (R35), with what LTU_STATUS shows of the lead path's. -/
def updateRef (s : State) (q : Path) : State :=
  let r := chooseRef s q
  let s := match q with
    | .a => modLtu s (fun l => { l with refA := r })
    | .b => modLtu s (fun l => { l with refB := r })
  match leadPath s with
  | some p => if p = q then put s F.LTU_STATUS_ref_ch (r.getD 0) else s
  | none => s

/-- Path `q` becomes the lead path (R36). [DEDUCED, DESIGN CHOICE: log 27, 157] -/
def setLead (s : State) (q : Path) : State :=
  let changed := decide (s.ltu.lastLead ≠ some q)
  let s := put s F.LTU_STATUS_lead (1 + qn q)
  let s := modLtu s (fun l => { l with lastLead := some q, pendingLead := none })
  let s := put s F.LTU_STATUS_ref_ch ((refChan s q).getD 0)
  let s := if changed then raiseGrey s F.LTU_EVENT_lead_change else s
  useAnn s

/-- A renumbering (R40): the received numbering, codeword count `c`, is taken at once. [DEDUCED: log 149] -/
def renumber (s : State) (c : Nat) : State :=
  let old := modFn s
  let s := setModule s c
  let armed := (List.range 256).filter (fun k => decide (k ≠ 132) && alarmArmed s k)
  let s := armed.foldl (fun s k =>
    let s := disarm s k almRenumbered
    if k < 128 then
      match (waitingBursts s k).find? (fun b => decide (b.alarm = alarmAt s k)) with
      | some b => loseBurst s b lostDown
      | none => s
    else s) s
  let s := modLtu (epcReturned s) (fun l => { l with annA := none, annB := none, pendingOffset := none, lastLatch := none })
  let s := { s with epc := { s.epc with atFn := 0 } }
  let s := armSecond (putB s F.LTU_STATUS_sec_valid false)
  let s := (List.range 16).foldl windowRenumbered s
  let s := (armed.filter (fun k => decide (k < 128))).foldl (fun s k => rearmLane s k) s
  let s := match leadPath s with
    | some q => exhaustPath s q old (c / 5000)
    | none => s
  raise (tsuRenumbered (tsuRenumbered s .a) .b) F.LTU_EVENT_renumbered .crimson 0

/-- Measure path `q`'s offset now (R37). On the lead path a reference more than 15,625 frames away is a renumbering; a nearer
one is slewed to. [DEDUCED: log 153] -/
def measureOffset (s : State) (q : Path) : State :=
  let d := mod16 s - path16 s q
  if leadPath s = some q then
    if d < -16 * renumberAt ∨ 16 * renumberAt < d then
      let t := pathTime s q
      putI (putI (renumber s (cwCount t.fn t.cw)) (offsetF q) 0) F.LTU_SLEW_remain 0
    else showSlew (putI s (offsetF q) d)
  else putI s (offsetF q) (sat32 d)

/-- The frames received on path `q`'s reference channels in its lock, newest first: core ticks, and how many frames after the lock's first
(R36, R38). -/
def ticksOf (s : State) (q : Path) : List (Nat × Nat) := match q with
  | .a => s.ltu.ticksA
  | .b => s.ltu.ticksB

/-- The last frame begun on path `q`'s reference channel: channel and FN (R37). -/
def frameOf (s : State) (q : Path) : Option (Nat × Nat) := match q with
  | .a => s.ltu.frameA
  | .b => s.ltu.frameB

/-- Path `q` begins a lock: no frame of it has been received yet. -/
def newLock (s : State) (q : Path) : State := modLtu s (fun l => match q with
  | .a => { l with ticksA := [], frameA := none }
  | .b => { l with ticksB := [], frameB := none })

/-- How many frames `fn` is after frame `f` of the same lock: a change of reference channel may bring a frame twice, or leave one out;
numbering that jumps counts as one frame (R36, R38). -/
def framesOn (f fn : Nat) : Nat := if fn = f then 0 else if fn = f + 2 then 2 else 1

/-- The readings of a lock with that of frame `fn` at tick `t`; `last` is the frame before. The last 15,625 frames are kept. [DEDUCED: log 29] -/
def noteTick (l : List (Nat × Nat)) (last : Option (Nat × Nat)) (fn t : Nat) : List (Nat × Nat) :=
  match l, last with
  | (_, n) :: _, some (_, f) =>
    let d := framesOn f fn
    if d = 0 then l else (t, n + d) :: l.filter (fun e => decide (n + d ≤ e.2 + 15625))
  | _, _ => [(t, 0)]

/-- Frame `fn` begins on channel `n`, path `q`'s reference channel. [DEDUCED: log 29] -/
def noteFrame (s : State) (q : Path) (n fn : Nat) : State := modLtu s (fun l => match q with
  | .a => { l with ticksA := noteTick l.ticksA l.frameA fn s.clk.ticks, frameA := some (n, fn) }
  | .b => { l with ticksB := noteTick l.ticksB l.frameB fn s.clk.ticks, frameB := some (n, fn) })

/-- Frames for which path `q` has held lock (R36). [DEDUCED: log 27] -/
def heldFrames (s : State) (q : Path) : Nat :=
  if pathLocked s q then ((ticksOf s q).head?.map (fun e => e.2)).getD 0 else 0

/-- Frame length of holdover, as (ticks, frames), from the frames received in the lost lock, newest first (R38). [DEDUCED: log 29] -/
def holdLength (l : List (Nat × Nat)) : Nat × Nat :=
  match l.head?, l.getLast? with
  | some a, some b => if a.2 < 124 then (96000, 1) else (a.1 - b.1, a.2 - b.2)
  | _, _ => (96000, 1)

/-- Enter holdover from path `q`'s lead (R38): a slew ends, and so does a freeze. [DESIGN CHOICE: log 187] -/
def enterHoldover (s : State) (q : Path) : State :=
  let s := modLtu s (fun l => { l with holdLen := holdLength (ticksOf s q), holdAcc := 0, pendingLead := none, frozenFor := none })
  let s := put (put (putB s F.LTU_STATUS_frozen false) F.LTU_STATUS_lead 3) F.LTU_HOLD_TIME_frames 0
  raiseGrey (putI s F.LTU_SLEW_remain 0) F.LTU_EVENT_hold_enter

/-- A path has lost its last locked channel (R36, R38): its armed alarms are disarmed with PATH_DOWN. -/
def pathLost (s : State) (q : Path) : State :=
  let s := updateRef (putB s (lockF q) false) q
  let armed := (List.range 256).filter (fun k => alarmArmed s k && decide (alarmBase s k = 1 + qn q))
  let s := armed.foldl (fun s k => disarm s k almPathDown) s
  let s := if s.ltu.pendingLead = some q then modLtu s (fun l => { l with pendingLead := none }) else s
  match leadPath s with
  | none => s
  | some p =>
    if pathLocked s p then s
    else if pathLocked s (otherPath p) then modLtu s (fun l => { l with pendingLead := some (otherPath p) })
    else enterHoldover s p

/-- A path relocks out of holdover (R39): slew, step, freeze or renumber by how far the received time `c` is ahead. -/
def reacquire (s : State) (q : Path) (c : Nat) : State :=
  let now := cwCount (modFn s) (modCw s)
  let d : Int := (c : Int) - (now : Int)
  let s := raiseGrey s F.LTU_EVENT_hold_exit
  let s := setLead s q
  if -64 ≤ d ∧ d ≤ 64 then measureOffset s q
  else if d < -renumberAt ∨ renumberAt < d then putI (renumber s c) (offsetF q) 0
  else if 64 < d then putI (raiseGrey (setModule (stepTo s c 4000256) c) F.LTU_EVENT_step_fwd) (offsetF q) 0
  else
    let s := putB (modLtu s (fun l => { l with frozenFor := some q })) F.LTU_STATUS_frozen true
    raiseGrey s F.LTU_EVENT_freeze

/-- A path has a channel in lock again (R36, R39, R41); its first received codeword is `c`. [DESIGN CHOICE: log 157, 209] -/
def pathGained (s : State) (q : Path) (c : Nat) : State :=
  let s := newLock (setPathTime (updateRef (putB s (lockF q) true) q) q { fn := c / 5000, cw := c % 5000, sub := 0 }) q
  let lead := ltuLead s
  if lead = 0 then
    let s := putI (setModule s c) (offsetF q) 0
    let s := modLtu (setLead s q) (fun l => { l with firstLockFn := some (c / 5000) })
    armSecond s
  else if lead = 3 then reacquire s q c
  else
    let s := measureOffset s q
    let s := if leadPath s = some q then modLtu s (fun l => { l with pendingLead := none }) else s
    match s.ltu.firstLockFn with
    | none => s
    | some f =>
      let pref : Path := if get s F.LTU_CTRL_lead_pref = 2 then .b else .a
      let s := modLtu s (fun l => { l with firstLockFn := none })
      if f = c / 5000 ∧ leadPath s ≠ some pref then modLtu s (fun l => { l with pendingLead := some pref }) else s

/-- The path's lock follows its channels (R35). -/
def ltuLocks (s : State) (q : Path) : State :=
  let any := (lanesOf q).any (fun p => mfLock s p)
  if any then updateRef s q
  else if pathLocked s q then pathLost s q
  else s

/-- Frame `fn` of lane `p` begins while the lane is in multiframe lock (R35 to R39). The next frame of the reference that the lead path
had brings module line time with it; a reference that has changed, or whose numbering has jumped, is only measured (R37, R40). -/
def ltuFrame (s : State) (p fn : Nat) : State :=
  let q := lanePath p
  let n := laneChan p
  let s := if pathLocked s q then updateRef s q else pathGained s q (5000 * fn)
  if refChan s q = some n then
    let follows := match frameOf s q with
      | some (m, f) => decide (m = n) && decide (f + 1 = fn)
      | none => false
    let t := ((5000 * fn : Nat) : Int) + (offset s q).tdiv 16
    let s := noteFrame (setPathTime s q { fn := fn, cw := 0, sub := 0 }) q n fn
    let frozen := s.ltu.frozenFor.isSome
    let s := if follows && !frozen && decide (leadPath s = some q) then reach s 0 t.toNat else s
    tsuFrame (if frozen then s else measureOffset s q) q fn
  else s

/-! ### Module frame boundaries -/

/-- Module line time reaches its next frame boundary (R37, R38): the frame that ends was lengthened or shortened while a slew
runs. -/
def frameBoundary (s : State) : State :=
  if ltuLead s = 0 ∨ getB s F.LTU_STATUS_frozen then s
  else
    let remain := getI s F.LTU_SLEW_remain
    let by_ : Int := if remain = 0 then 0 else if 0 < remain then 16 else -16
    let s := setModule s (5000 * (modFn s + 1))
    let s := modLtu s (fun l => { l with shortened := decide (by_ < 0) })
    let s := if by_ = 0 then s
      else showSlew (putI (putI s (offsetF .a) (sat32 (offset s .a - by_))) (offsetF .b) (sat32 (offset s .b - by_)))
    let s := put s F.LTU_FB_LFC_lfc (s.clk.lfc.toNat / 2 ^ 16)
    if ltuLead s = 3 then incSat s F.LTU_HOLD_TIME_frames else s

/-- Path `q` reaches its next frame boundary. -/
def toPathBoundary (s : State) (q : Path) : State :=
  let t := pathTime s q
  if t.cw = 0 ∧ t.sub = 0 then s else setPathTime s q { fn := t.fn + 1, cw := 0, sub := 0 }

/-- A lead path that has been decided is taken (R36, R37); frozen module line time then waits for it. [DEDUCED, DESIGN CHOICE: log 27, 188] -/
def takeLead (s : State) : State :=
  match s.ltu.pendingLead with
  | none => s
  | some q =>
    if !pathLocked s q then modLtu s (fun l => { l with pendingLead := none })
    else
      let s := setLead (toPathBoundary s q) q
      if s.ltu.frozenFor.isSome then modLtu s (fun l => { l with frozenFor := some q }) else measureOffset s q

/-- The path that lead_pref names, where revert is set (R36). [DEDUCED, DESIGN CHOICE: log 27, 208] -/
def revertTo (s : State) : Option Path :=
  if !getB s F.LTU_CTRL_revert then none
  else if get s F.LTU_CTRL_lead_pref = 1 then some .a
  else if get s F.LTU_CTRL_lead_pref = 2 then some .b else none

/-- The lead path reverts to the preferred path, which has held lock for 15,625 frames (R36). [DEDUCED, DESIGN CHOICE: log 27, 208] -/
def leadRevert (s : State) : State :=
  match revertTo s with
  | none => s
  | some q =>
    if leadPath s = some (otherPath q) ∧ 15625 ≤ heldFrames s q then takeLead (modLtu s (fun l => { l with pendingLead := some q }))
    else s

/-- Received time reaches frozen module line time (R39). -/
def freezeEnd (s : State) : State :=
  match s.ltu.frozenFor with
  | none => s
  | some q =>
    let s := modLtu (putB s F.LTU_STATUS_frozen false) (fun l => { l with frozenFor := none })
    let s := reach s (1 + qn q) (cwCount (modFn s) (modCw s))
    measureOffset s q

/-- A new second offset takes effect (R34): the boundary it gives is now, and the second latch falls on it. [DEDUCED: log 30] -/
def takeOffset (s : State) : State :=
  match s.ltu.pendingOffset with
  | none => s
  | some o =>
    let c := cwCount (modFn s) (modCw s)
    let f := (c + 4999) / 5000
    let f := f + (o + 15625 - f % 15625) % 15625
    let s := reach s 0 (5000 * f)
    let s := modLtu (put s F.LTU_SEC_OFFSET_offset o) (fun l => { l with pendingOffset := none })
    let s := put (put (put s (F.LTU_ALM_FN_fn 132) f) (F.LTU_ALM_CTRL_cw 132) 0) (F.LTU_ALM_STATUS_state 132) 2
    raiseGrey s F.LTU_EVENT_sec_change

/-- Path `q`'s hub announces a second (R33, R34, R350): LTU_SEC_FN and LTU_SEC_TAI hold the most recent announcement of either path. -/
def announce (s : State) (q : Path) (a : SecAnn) : State :=
  let s := put (put s F.LTU_SEC_FN_fn a.fn) F.LTU_SEC_TAI_sec a.tai
  let s := match q with
    | .a => modLtu s (fun l => { l with annA := some a })
    | .b => modLtu s (fun l => { l with annB := some a })
  useAnn (tsuAnnounced s q)

/-- MODULE_FRAME_BOUNDARY (R37). -/
def execModuleFrameBoundary (s : State) : Host.Outcome State Fault Refusal := finish s (frameBoundary s)
/-- SEC_OFFSET_CHANGE (R34). -/
def execSecOffsetChange (s : State) : Host.Outcome State Fault Refusal := finish s (takeOffset s)
/-- FREEZE_END (R39). -/
def execFreezeEnd (s : State) : Host.Outcome State Fault Refusal := finish s (freezeEnd s)
/-- LEAD_PATH_CHANGE (R36). -/
def execLeadPathChange (s : State) : Host.Outcome State Fault Refusal := finish s (takeLead s)
/-- LEAD_REVERT (R36). -/
def execLeadRevert (s : State) : Host.Outcome State Fault Refusal := finish s (leadRevert s)

end Sys2Proof.Machine
end

