-- ==== Sys2Proof/Machine/ActBase.lean ====
section
/-!
DEFINITION. The activation states of a path (R139 to R142, R154, R158, R159): transitions with their effects, the slots
queued upstream (R147), the home channel (R155).
-/
namespace Sys2Proof.Machine
open Sys2Proof

/-- Causes of ACT_CAUSE. -/
def causeDown : Nat := 1
def causeRanging : Nat := 2
def causeLost : Nat := 3
def causeDeact : Nat := 4
def causeHeld : Nat := 5
def causeAuth : Nat := 6
def causeDisabled : Nat := 7
def causeReset : Nat := 8
def causeRetired : Nat := 9

/-- Queue a line control message of class `c` on path `q` (R147, R185). -/
def queueLcm (s : State) (q : Path) (c : LcmClass) (typ : Nat) (body : List Byte) : State :=
  modAct s q (fun a => { a with upq := a.upq ++ [⟨c, typ, body⟩] })

def tidOf (s : State) (q : Path) : Nat := get s (F.ACT_TID_tid (qn q))
def maidOf (s : State) (q : Path) : Nat := get s (F.ACT_TID_maid (qn q))

/-- Show the channel that DFR reads LCM from (R155): ACT_STATE and DFR_HOME. -/
def putHome (s : State) (q : Path) (n : Nat) (valid : Bool) : State :=
  let s := putB (put s (F.ACT_STATE_home (qn q)) n) (F.ACT_STATE_home_valid (qn q)) valid
  match q with
  | .a => putB (put s F.DFR_HOME_home_a n) F.DFR_HOME_valid_a valid
  | .b => putB (put s F.DFR_HOME_home_b n) F.DFR_HOME_valid_b valid

/-- The home or listen channel in use (R155). -/
def homeInUse (s : State) (q : Path) : Nat := get s (F.ACT_STATE_home (qn q))

/-- The hub assigns a home channel (R149, R155); it is also the path's home channel of R35. -/
def assignHome (s : State) (q : Path) (n : Nat) : State :=
  let s := putB (putHome s q n true) (F.ACT_STATE_home_fallback (qn q)) false
  updateRef (modAct s q (fun a => { a with home := some n })) q

/-- Whether a dying gasp can be sent on the path (R159). -/
def showGasp (s : State) (q : Path) : State :=
  let r := decide (actState s q = 4) && getB s (F.ACT_EQD_ranged (qn q) 0)
  let s := putB s (F.ACT_STATE_dg_ready (qn q)) r
  match q with
  | .a => putB s F.ASH_STATUS_dg_ready_a r
  | .b => putB s F.ASH_STATUS_dg_ready_b r

/-- Preload the DYING_GASP slot (R159). [DEDUCED: log 58] -/
def preloadGasp (s : State) (q : Path) : State :=
  let v := some (tidOf s q, get s F.ACT_LSI_lsi)
  match q with
  | .a => { s with pwr := { s.pwr with slotA := v } }
  | .b => { s with pwr := { s.pwr with slotB := v } }

/-- Remove upstream container `t` (R142, R186). -/
def dropUpTrib (s : State) (t : Nat) : State :=
  let s := wrWord (wrWord s (R.UPB_TRIB_CFG t) 0) (R.UPB_TRIB_STATUS t) 0
  { s with upb := { s.upb with tribs := Tab.del s.upb.tribs t } }

/-- Remove the path's containers and standing windows (R142). -/
def dropTribs (s : State) (q : Path) : State :=
  let s := (tribsOf s q F.DFR_TRIB_CFG_valid F.DFR_TRIB_CFG_path).foldl dropDownTrib s
  let s := (tribsOf s q F.UPB_TRIB_CFG_valid F.UPB_TRIB_CFG_path).foldl dropUpTrib s
  { s with upb := { s.upb with pendTrib := s.upb.pendTrib.filter (fun p => decide (p.1 ≠ q)) } }

/-- Clear the path's equalisation delays (R142, R152). -/
def clearEqds (s : State) (q : Path) : State :=
  (List.range 64).foldl (fun s n =>
    if rdWord s (R.ACT_EQD (qn q) n) = 0 then s else wrWord s (R.ACT_EQD (qn q) n) 0) s

/-- The warden forgets the secrets of a registration that has ended (R154). -/
def forgetSecrets (s : State) (q : Path) : State :=
  modAct s q (fun a => { a with challenge := none, response := none, derived := none, confirmTag := none })

/-- The effects of R142. -/
def unregister (s : State) (q : Path) : State :=
  let s := clearEqds (wrWord s (R.ACT_TID (qn q)) 0) q
  let s := dropTribs s q
  let s := match q with
    | .a => putB s F.DFR_HOME_valid_a false
    | .b => putB s F.DFR_HOME_valid_b false
  let s := putB (putB s (F.ACT_STATE_home_valid (qn q)) false) (F.ACT_STATE_home_fallback (qn q)) false
  let s := slotCommand (slotCommand s (rootSlot s q false) none) (rootSlot s q true) none
  let s := modAct s q (fun a => { a with
    home := none, pendEqd := [], pendHome := none, pendTrib := [] })
  updateRef (forgetSecrets s q) q

/-- The listen channel on entry to T1 (R155): the lowest-numbered channel of the path in lock. -/
def listen (s : State) (q : Path) : State :=
  match (List.range 64).find? (fun n => mfLock s (laneOf q n)) with
  | some n => putHome s q n false
  | none => s

/-- Put the path's state (R140); a change is an event. What the state lets the path launch changes with it. -/
def putAct (s : State) (q : Path) (st : Nat) : State :=
  let old := actState s q
  if old = st then s
  else
    let s := raiseGrey (put s (F.ACT_STATE_state (qn q)) st) (F.ACT_EVENT_state_change (qn q))
    let s := if old = 4 ∨ st = 4 then modAct (preloadGasp s q) q (fun a => { a with skewFn := none }) else s
    showGasp s q

/-- A return to T0 or T1 with its cause (R140, R142, R242). [DESIGN CHOICE: log 219] -/
def actReturn (s : State) (q : Path) (st cause : Nat) : State :=
  let old := actState s q
  let s := if 3 ≤ old then unregister s q else s
  let s := put (clearEpochs s q) (F.ACT_CAUSE_cause (qn q)) cause
  let s := putAct (forgetSecrets s q) q st
  let s := modAct s q (fun a => { a with announces := [], frag := none, skip := 0 })
  if st = 1 then listen s q else s

/-- T1 if the path is in lock, else T0. -/
def listenOrDark (s : State) (q : Path) : Nat := if pathLocked s q then 1 else 0

/-- The persistent held state of a path (R158). -/
def putHeld (s : State) (q : Path) (h : Bool) : State :=
  let s := putB s (F.ACT_HOLD_held (qn q)) h
  match q with
  | .a => { s with flash := { s.flash with heldA := h } }
  | .b => { s with flash := { s.flash with heldB := h } }

/-- HOLD is obeyed (R158): T5, dark, remembered. -/
def actHold (s : State) (q : Path) : State :=
  let s := put (putHeld s q true) (F.ACT_CAUSE_cause (qn q)) causeHeld
  raiseGrey (putAct (forgetSecrets s q) q 5) (F.ACT_EVENT_hold (qn q))

/-- The hold ends (R158). [DESIGN CHOICE: log 218] -/
def actRelease (s : State) (q : Path) : State :=
  if actState s q = 5 then
    let s := putHeld s q false
    actReturn s q (listenOrDark s q) (get s (F.ACT_CAUSE_cause (qn q)))
  else s

/-- Registration ends without keys (R140, R153). -/
def authFail (s : State) (q : Path) : State :=
  raise (actReturn s q 1 causeAuth) (F.ACT_EVENT_auth_fail (qn q)) .crimson 0

/-- The path's downstream as ACT sees it (R140, R141): T0 when T1 to T3 lose it, T6 when T4 does, T1 when T0 gains a channel. -/
def actDown (s : State) (q : Path) : State :=
  let st := actState s q
  if pathLocked s q then (if st = 0 then listen (putAct s q 1) q else s)
  else if st = 1 ∨ st = 2 ∨ st = 3 then actReturn s q 0 causeDown
  else if st = 4 then putAct s q 6
  else s

/-- ACT_CTRL.enable has fallen at a commit (R140). -/
def actDisabled (s : State) (q : Path) : State :=
  let st := actState s q
  if !getB s (F.ACT_CTRL_enable (qn q)) ∧ 2 ≤ st ∧ st ≤ 4 then actReturn s q 1 causeDisabled else s

/-- The hub's re-activation clears the path's APR latch (R106, R140). [DEDUCED: log 150] -/
def clearApr (s : State) (q : Path) : State := putB s (aprF q) false

end Sys2Proof.Machine
end

