-- ==== Sys2Proof/Machine/Bnd.lean ====
section
/-!
DEFINITION. Reassembly of fragments (R120, R198) and downstream bonded groups (R190 to R201).
-/
namespace Sys2Proof.Machine
open Sys2Proof

/-! ### Reassembly (R120) -/

def dfrDiscard (s : State) (ids : List (Nat × Nat)) (code : Nat) : State := discardOf s (F.DFR_DISC_count (code - 0x68)) code ids
def bndDiscard (s : State) (ids : List (Nat × Nat)) (code : Nat) : State := discardOf s (F.BND_DISC_count (code - 0x64)) code ids

/-- Count a discard of DFR or BND by its code (R121, R199). -/
def fragDiscard (s : State) (ids : List (Nat × Nat)) (code : Nat) : State :=
  if code < 0x68 then bndDiscard s ids code else dfrDiscard s ids code

/-- Bytes of a buffered segment, as received. -/
def segBytes (g : Seg) : Nat := g.hdr.length + g.payload.length + g.tag.length

/-- Signed distance from `b` to `a` modulo 2³² (R191, R211). -/
def seqDist (a b : Nat) : Int := toSigned 32 ((a + 2 ^ 32 - b % 2 ^ 32) % 2 ^ 32)

/-- The unit that a whole-frame segment makes. -/
def unitOf (g : Seg) (group : Option Nat) : Unit_ :=
  ⟨g.path, g.chan, group, g.sid, g.mseq, 1, g.ptype, g.payload, g.raw⟩

/-- Whether a context is that of a path, channel or group, and SID. -/
def isCtx (q : Path) (idx sid : Nat) (c : Ctx) : Bool := decide (c.path = q ∧ c.idx = idx ∧ c.sid = sid)

/-- The code under which a first fragment discards the frame that is open (R120): that of a segment lost inside its chain, else
DF_REASM_ORPHAN, also where a skip has marked it (R198 gives BN_GAP at its last fragment or timeout only). -/
def orphanCode (c : Ctx) : Nat := if c.mark = some 0x65 then 0x6A else c.mark.getD 0x6A

/-- One segment meets the contexts of its kind: the contexts left, the frame it completes, the codes of what is discarded
(R120, R198). `idx` is its channel or group, `limit` the contexts a path has, `full` the code when they are all open. -/
def reassemble (ctxs : List Ctx) (g : Seg) (idx limit full : Nat) (group : Option Nat) :
    List Ctx × Option Unit_ × List Nat :=
  let others := ctxs.filter (fun c => !isCtx g.path idx g.sid c)
  let open_ := ctxs.find? (isCtx g.path idx g.sid)
  if g.frag = 0 then (ctxs, some (unitOf g group), [])
  else if g.frag = 1 then
    let lost := match open_ with
      | some c => [orphanCode c]
      | none => []
    if limit ≤ (others.filter (fun c => decide (c.path = g.path))).length then (others, none, lost ++ [full])
    else (others ++ [⟨g.path, idx, g.sid, g.payload, g.fn, g.mseq, 1, g.ptype, g.raw, none⟩], none, lost)
  else
    match open_ with
    | none => (ctxs, none, [0x6A])
    | some c =>
      let bytes := c.bytes ++ g.payload
      match c.mark with
      | some m =>
        if m = 0x65 ∧ g.frag = 2 then (ctxs, none, [])
        else (others, none, [m])
      | none =>
        if 16384 < bytes.length then (others, none, [0x6C])
        else if g.frag = 2 then (others ++ [{ c with bytes := bytes, count := c.count + 1 }], none, [])
        else (others, some ⟨c.path, g.chan, group, c.sid, c.mseq, c.count + 1, c.ptype, bytes, c.raw⟩, [])

/-- Show the open contexts of DFR. -/
def showCtxs (s : State) : State :=
  let n := fun q => (s.dfr.ctxs.filter (fun c => decide (c.path = q))).length
  put (put s F.DFR_REASM_OPEN_a (n .a)) F.DFR_REASM_OPEN_b (n .b)

/-- A segment outside bonded groups meets DFR's contexts (R120). -/
def dfrReassemble (s : State) (g : Seg) : State × List Unit_ :=
  let (ctxs, u, lost) := reassemble s.dfr.ctxs g g.chan 4096 0x6F none
  let s := lost.foldl (fun s c => fragDiscard s (chanIds g.path g.chan) c) { s with dfr := { s.dfr with ctxs := ctxs } }
  (showCtxs s, u.toList)

/-- A segment of group `k` meets BND's contexts (R198). -/
def bndReassemble (s : State) (k : Nat) (g : Seg) : State × List Unit_ :=
  let (ctxs, u, lost) := reassemble s.bnd.ctxs g k 2048 0x66 (some k)
  (lost.foldl (fun s c => fragDiscard s (chanIds g.path g.chan) c) { s with bnd := { s.bnd with ctxs := ctxs } }, u.toList)

/-- Mark every open context of a group (R198). -/
def markGroup (s : State) (q : Path) (k : Nat) : State :=
  { s with bnd := { s.bnd with ctxs := s.bnd.ctxs.map (fun c =>
      if c.path = q ∧ c.idx = k ∧ c.mark = none then { c with mark := some 0x65 } else c) } }

/-- Mark the open context of a group and SID in whose chain DFR has lost a segment (R120, R198). -/
def markChain (s : State) (q : Path) (k sid code : Nat) : State :=
  { s with bnd := { s.bnd with ctxs := s.bnd.ctxs.map (fun c =>
      if isCtx q k sid c ∧ c.mark = none then { c with mark := some code } else c) } }

/-- What a group of path `q` releases, in turn: segments, and gaps, whose skip or resync marks the contexts open by then. -/
def bndReassembleAll (s : State) (q : Path) (k : Nat) (l : List Released) : State × List Unit_ :=
  l.foldl (fun a g => match g with
    | .gap lost => (markGroup (lost.foldl (fun s x => markChain s q k x.1 x.2) a.1) q k, a.2)
    | .seg g => let r := bndReassemble (monOut a.1 4 0x14 (chanIds g.path g.chan) (segBytes g)) k g; (r.1, a.2 ++ r.2)) (s, [])

/-! ### Groups -/

def bndGroup (s : State) (q : Path) (k : Nat) : BndGroup := Tab.getD s.bnd.groups (32 * qn q + k) {}
def modGroup (s : State) (q : Path) (k : Nat) (f : BndGroup → BndGroup) : State :=
  { s with bnd := { s.bnd with groups := Tab.upd s.bnd.groups (32 * qn q + k) {} f } }

/-- The downstream group of a channel in path frame `fn`, by the bank of that frame (R69, R190, R192). A group that no longer exists
takes nothing. -/
def downGroup (s : State) (q : Path) (n fn : Nat) : Option Nat :=
  let c := lineCfgAt s q fn
  (List.range 32).find? (fun k => decide (cfgGet c (F.BND_DG_STATUS_valid (qn q) k) = 1) &&
    bit (cfgGet c (F.BND_DG_MEMBERS_members (qn q) k)) n &&
    (decide (s.epc.atFn ≤ fn) || getB s (F.BND_DG_STATUS_valid (qn q) k)))

/-- Bytes buffered in a path's deskew pool. -/
def poolBytes (s : State) (q : Path) : Nat :=
  (List.range 32).foldl (fun a k => (bndGroup s q k).buf.foldl (fun a b => a + segBytes b.seg) a) 0

/-- Show a group's buffer and its path's pool. -/
def showGroup (s : State) (q : Path) (k : Nat) : State :=
  let x := bndGroup s q k
  let s := put s (F.BND_DG_USE_use (qn q) k) (in16k (x.buf.foldl (fun a b => a + segBytes b.seg) 0))
  let s := putB s (F.BND_DG_STATUS_gap (qn q) k) (!x.buf.isEmpty)
  let u := in16k (poolBytes s q)
  match q with
  | .a => putMax (put s F.BND_POOL_USE_a u) F.BND_POOL_PEAK_a u
  | .b => putMax (put s F.BND_POOL_USE_b u) F.BND_POOL_PEAK_b u

def groupSynced (s : State) (q : Path) (k : Nat) : Bool := getB s (F.BND_DG_STATUS_synced (qn q) k)
def groupRp (s : State) (q : Path) (k : Nat) : Nat := get s (F.BND_DG_RP_rp (qn q) k)

/-- Advance a group's release point to `v` and count `n` released segments. -/
def groupAdvance (s : State) (q : Path) (k v n : Nat) : State :=
  let s := putB (put s (F.BND_DG_RP_rp (qn q) k) v) (F.BND_DG_STATUS_synced (qn q) k) true
  put s (F.BND_DG_SEG_count (qn q) k) (get s (F.BND_DG_SEG_count (qn q) k) + n)

/-- The buffered run that starts at `rp`: the segments released, the buffer left, the release point after it. [DEDUCED: log 78] -/
def bndRun (buf : List Buffered) (rp fuel : Nat) : List Seg × List Buffered × Nat :=
  match fuel with
  | 0 => ([], buf, rp)
  | fuel + 1 => match buf.find? (fun b => decide (b.bseq = rp)) with
    | none => ([], buf, rp)
    | some b =>
      let (out, rest, rp') := bndRun (buf.filter (fun x => decide (x.bseq ≠ rp))) ((rp + 1) % 2 ^ 32) fuel
      (b.seg :: out, rest, rp')

/-- Release from `rp` on: `first`, if any, and the run behind it (R193). -/
def bndRelease (s : State) (q : Path) (k : Nat) (first : List Seg) (rp : Nat) : State × List Released :=
  let x := bndGroup s q k
  let (out, rest, rp') := bndRun x.buf rp (x.buf.length + 1)
  let s := modGroup s q k (fun x => { x with buf := rest })
  (showGroup (groupAdvance s q k rp' (first.length + out.length)) q k, (first ++ out).map .seg)

/-- The buffered segment with the lowest value above `rp`. -/
def lowestBuf (buf : List Buffered) (rp : Nat) : Option Buffered := match buf with
  | [] => none
  | b :: rest => match lowestBuf rest rp with
    | some c => if seqDist c.bseq rp < seqDist b.bseq rp then some c else some b
    | none => some b

/-- A segment of group `k` has been lost in DFR (R120, R198): its context is marked where its value is passed in release order; where the
group has no release point, now. -/
def bndLost (s : State) (k : Nat) (g : Seg) (v code : Nat) : State :=
  if groupSynced s g.path k then
    (if 0 ≤ seqDist v (groupRp s g.path k) then modGroup s g.path k (fun x => { x with lost := x.lost ++ [(v, g.sid, code)] }) else s)
  else markChain s g.path k g.sid code

/-- Skip the gap of a group (R194, R198). -/
def bndSkip (s : State) (q : Path) (k : Nat) : State × List Released :=
  let rp := groupRp s q k
  match lowestBuf (bndGroup s q k).buf rp with
  | none => (s, [])
  | some b =>
    let s := addTo s (F.BND_DG_MISSING_count (qn q) k) (seqDist b.bseq rp).toNat
    let lost := (bndGroup s q k).lost
    let s := modGroup s q k (fun x => { x with lost := lost.filter (fun e => decide (0 ≤ seqDist e.1 b.bseq)) })
    let (s, l) := bndRelease (raiseGrey s F.BND_EVENT_gap_skip) q k [] b.bseq
    (s, .gap ((lost.filter (fun e => decide (seqDist e.1 b.bseq < 0))).map (fun e => e.2)) :: l)

/-- All buffered segments in ascending value, gaps skipped (R195, R207). -/
def bndFlush (s : State) (q : Path) (k fuel : Nat) : State × List Released :=
  match fuel with
  | 0 => (s, [])
  | fuel + 1 =>
    if (bndGroup s q k).buf.isEmpty then (s, [])
    else
      let (s, l) := bndSkip s q k
      let (s, m) := bndFlush s q k fuel
      (s, l ++ m)

/-- Resync (R195). -/
def bndResync (s : State) (q : Path) (k : Nat) : State × List Released :=
  let (s, l) := bndFlush s q k ((bndGroup s q k).buf.length + 1)
  let lost := (bndGroup s q k).lost.map (fun e => e.2)
  let s := modGroup s q k (fun x => { x with stray := 0, lost := [] })
  let s := putB (put s (F.BND_DG_RP_rp (qn q) k) 0) (F.BND_DG_STATUS_synced (qn q) k) false
  (raiseGrey (inc s (F.BND_DG_RESYNC_count (qn q) k)) F.BND_EVENT_resync, l ++ [.gap lost])

/-- An arrival that was neither buffered nor released (R195). [DEDUCED: log 78] -/
def bndStray (s : State) (q : Path) (k : Nat) : State × List Released :=
  let n := (bndGroup s q k).stray + 1
  let s := modGroup s q k (fun x => { x with stray := n })
  if 8 ≤ n then bndResync s q k else (s, [])

/-- A late, duplicate or out-of-window segment (R193). -/
def bndLate (s : State) (q : Path) (k chan : Nat) (counted : Bool) : State × List Released :=
  let s := greyOf (bndDiscard s (chanIds q chan) 0x64) F.BND_EVENT_late (chanIds q chan)
  bndStray (if counted then inc s (F.BND_DG_LATE_count (qn q) k) else s) q k

/-- The pool of a path in bytes (R197). -/
def poolLimit (s : State) (q : Path) : Nat := 2 ^ 20 * (match q with
  | .a => get s F.BND_POOL_size_a
  | .b => get s F.BND_POOL_size_b)

/-- The arrivals `seen` of a group with the one of value `v` at codeword count `at_` (R196): only those from which a later arrival can
still measure the largest lag are kept, an arrival 65,535 codewords back only as the highest of its kind, since the register saturates. -/
def seenAdd (seen : List (Nat × Nat)) (v at_ : Nat) : List (Nat × Nat) :=
  if seen.any (fun e => decide (e.2 ≤ at_) && decide (0 ≤ seqDist e.1 v)) then seen
  else
    let l := seen.filter (fun e => decide (e.2 < at_) || decide (0 < seqDist e.1 v))
    let past := fun (e : Nat × Nat) => decide (e.2 + 65535 ≤ at_)
    l.filter (fun e => !past e || !l.any (fun x => past x && decide (0 < seqDist x.1 e.1))) ++ [(v, at_)]

/-- Record the lag of an arrival behind the earliest one with a higher value (R196). -/
def bndLag (s : State) (q : Path) (k v at_ : Nat) : State :=
  let seen := (bndGroup s q k).seen
  let lag := (seen.filter (fun e => decide (0 < seqDist e.1 v))).foldl (fun m e => max m (at_ - e.2)) 0
  modGroup (putMax s (F.BND_DG_SKEW_cw (qn q) k) (sat 65535 lag)) q k (fun x => { x with seen := seenAdd seen v at_ })

/-- A segment of group `k` arrives (R193). [DEDUCED: log 78] -/
def bndArrival (s : State) (k : Nat) (g : Seg) (v : Nat) : State × List Released :=
  let q := g.path
  let at_ := cwCount g.fn g.cw
  if !groupSynced s q k then
    let s := modGroup s q k (fun x => { x with stray := 0, seen := [(v, at_)] })
    bndRelease s q k [g] ((v + 1) % 2 ^ 32)
  else
    let d := seqDist v (groupRp s q k)
    if 1048576 ≤ d ∨ d ≤ -1048576 then bndLate s q k g.chan true
    else
      let s := bndLag s q k v at_
      if d < 0 then bndLate s q k g.chan true
      else if d = 0 then bndRelease (modGroup s q k (fun x => { x with stray := 0 })) q k [g] ((v + 1) % 2 ^ 32)
      else if (bndGroup s q k).buf.any (fun b => decide (b.bseq = v)) then bndLate s q k g.chan false
      else if poolLimit s q < poolBytes s q + segBytes g then bndStray (greyOf (bndDiscard s (chanIds q g.chan) 0x66) F.BND_EVENT_overflow (chanIds q g.chan)) q k
      else
        let s := modGroup s q k (fun x => { x with stray := 0, buf := x.buf ++ [⟨v, at_, g⟩] })
        (showGroup s q k, [])

/-- A segment leaves LCY (R192): frames for PTH. -/
def bndSegment (s : State) (g : Seg) : State × List Unit_ :=
  match g.bseq with
  | none => dfrReassemble s g
  | some v => match downGroup s g.path g.chan g.fn with
    | none => (bndDiscard s (chanIds g.path g.chan) 0x67, [])
    | some k =>
      let (s, l) := bndArrival s k g v
      bndReassembleAll s g.path k l

/-! ### Members (R200, R201) -/

/-- Queue BOND_MEMBER for a member's change, whatever the path's state: only its sending waits for T4 (R200). -/
def bondMember (s : State) (q : Path) (k n : Nat) (up : Bool) : State :=
  let s := greyOf s (if up then F.BND_EVENT_member_up else F.BND_EVENT_member_down) (chanIds q n)
  let code := match reported s (laneOf q n) with
    | some d => if d < 5 then d + 1 else 0
    | none => 0
  queueLcm s q .bnd 0xA2 (beBytes 1 k ++ beBytes 1 n ++ beBytes 1 (b2n up) ++ beBytes 1 (if up then 0 else code) ++
    beBytes 6 (pathTime s q).fn)

/-- The marks of a group's members follow their lanes' defects (R200). -/
def bndMembers (s : State) (q : Path) (k : Nat) : State :=
  let old := get s (F.BND_DG_DOWN_down (qn q) k)
  let members := if getB s (F.BND_DG_STATUS_valid (qn q) k) then get s (F.BND_DG_MEMBERS_members (qn q) k) else 0
  let down := (bitsSet 64 members).filter (fun n => hardDefect s (laneOf q n))
  let new := down.foldl (fun v n => v + 2 ^ n) 0
  if old = new then s
  else
    let s := put (put s (F.BND_DG_DOWN_down (qn q) k) new) (F.BND_DG_STATUS_n_down (qn q) k) down.length
    (bitsSet 64 members).foldl (fun s n =>
      if bit old n = bit new n then s else bondMember s q k n (bit old n)) s

/-- Every group of a path. [DEDUCED: log 78] -/
def bndUpdate (s : State) (q : Path) : State := (List.range 32).foldl (fun s k => bndMembers s q k) s

end Sys2Proof.Machine
end

