-- ==== Sys2Proof/Machine/Pth.lean ====
section
/-!
DEFINITION. Path merge (R211 to R217), the delivery of downstream frames to their packet regions (R23, R25, R117), and the
store of upstream protection (R218 to R222).
-/
namespace Sys2Proof.Machine
open Sys2Proof

/-! ### Frames to their regions -/

/-- A frame leaves the line die for the region that its SID's STREAMS entry names (R213). [DESIGN CHOICE: log 207] -/
def deliverUnit (s : State) (u : Unit_) : State :=
  match Tab.find s.bank.sids u.sid with
  | none => dfrDiscard s (chanIds u.path u.chan) 0x6E
  | some e =>
    let n := e.region
    let lane := laneOf u.path u.chan
    let p : PPkt := { bytes := u.bytes, src := 1, sid := u.sid, pipe := 4 + u.sid % 4,
                      ing := { kind := 1, id := lane, raw := u.raw, tc := getB s F.TSU_CTRL_tc_line } }
    let fw := decide (u.ptype = 1)
    overLink (monCount (monCount s 4 0x15 2 [] u.count) 4 0x15 4 [] u.bytes.length) n (.line p fw) (fun s => lineFrame s n p fw)

/-! ### Merge (R211 to R215) -/

def mergeGroup (s : State) (k : Nat) : MergeGroup := Tab.getD s.pth.groups k {}
def modMerge (s : State) (k : Nat) (f : MergeGroup → MergeGroup) : State :=
  { s with pth := { s.pth with groups := Tab.upd s.pth.groups k {} f } }
def mergeSynced (s : State) (k : Nat) : Bool := getB s (F.PTH_MG_STATUS_synced k)
def mergeRp (s : State) (k : Nat) : Nat := get s (F.PTH_MG_RP_rp k)

/-- Whether a lane's copy is in the merge (R128, R212, R234). -/
def laneMerges (s : State) (p : Nat) : Bool :=
  !hardDefect s p && laneActive s p && (dfrLane s p).merged && !getB s (F.LCY_ENG_STATUS_failed (laneChan p))

/-- Whether path `q` is in the merge for group `k` (R212). [DEDUCED: log 174] -/
def pathMerges (s : State) (k : Nat) (q : Path) : Bool :=
  let x := mergeGroup s k
  match (match q with | .a => x.placeA | .b => x.placeB) with
  | none => false
  | some (n, none) => laneMerges s (laneOf q n)
  | some (_, some g) => (bitsSet 64 (get s (F.BND_DG_MEMBERS_members (qn q) g))).any (fun n => laneMerges s (laneOf q n))

def lastOf (x : MergeGroup) (q : Path) : Option Nat := match q with
  | .a => x.hA
  | .b => x.hB

/-- Bytes held in the merge store. -/
def storeBytes (s : State) : Nat :=
  s.pth.groups.foldl (fun a e => e.2.held.foldl (fun a h => a + h.item.bytes.length) a) 0

/-- The size of the merge store (R215). -/
def storeLimit (s : State) : Nat :=
  2 ^ 20 * (112 - get s F.BND_POOL_size_a - get s F.BND_POOL_size_b - get s F.PTH_TIMERS_dl_pool)

/-- Show a group's state. -/
def showMerge (s : State) (k : Nat) : State :=
  let s := putB s (F.PTH_MG_STATUS_gap k) (!(mergeGroup s k).held.isEmpty)
  let s := putB (putB s (F.PTH_MG_STATUS_in_a k) (pathMerges s k .a)) (F.PTH_MG_STATUS_in_b k) (pathMerges s k .b)
  put s F.PTH_STORE_USE_merge (in16k (storeBytes s))

/-- Release a unit of group `k` (R213): counted to its path, sent on, the release point moved past it. -/
def mergeOut (s : State) (k : Nat) (u : Unit_) (v : Nat) : State :=
  let s := match u.path with
    | .a => put s (F.PTH_MG_FIRST_A_count k) (get s (F.PTH_MG_FIRST_A_count k) + u.count)
    | .b => put s (F.PTH_MG_FIRST_B_count k) (get s (F.PTH_MG_FIRST_B_count k) + u.count)
  let s := putB (put s (F.PTH_MG_RP_rp k) ((v + u.count) % 2 ^ 32)) (F.PTH_MG_STATUS_synced k) true
  deliverUnit s u

/-- Release the held run that starts at the release point. -/
def mergeRun (s : State) (k fuel : Nat) : State :=
  match fuel with
  | 0 => s
  | fuel + 1 => match (mergeGroup s k).held.find? (fun h => decide (h.mseq = mergeRp s k)) with
    | none => s
    | some h =>
      let s := modMerge s k (fun x => { x with held := x.held.filter (fun y => decide (y.mseq ≠ h.mseq)) })
      mergeRun (mergeOut s k h.item h.mseq) k fuel

/-- The lowest held value above the release point. -/
def lowestHeld (l : List Held) (rp : Nat) : Option Held := match l with
  | [] => none
  | h :: rest => match lowestHeld rest rp with
    | some g => if seqDist g.mseq rp < seqDist h.mseq rp then some g else some h
    | none => some h

/-- Skip the gap of group `k` (R214). [DEDUCED: log 174] -/
def mergeSkip (s : State) (k : Nat) : State :=
  let rp := mergeRp s k
  match lowestHeld (mergeGroup s k).held rp with
  | none => s
  | some h =>
    let n := (seqDist h.mseq rp).toNat
    let s := addTo s (F.PTH_MG_SKIP_count k) n
    let s := modMerge (put s (F.PTH_MG_RP_rp k) h.mseq) k (fun x => { x with skipped := ((rp, n) :: x.skipped).take 65536 })
    showMerge (mergeRun s k ((mergeGroup s k).held.length + 1)) k

/-- Whether every path in the merge has passed the release point (R214): no copy of it can still come. -/
def gapPassed (s : State) (k : Nat) : Bool :=
  [Path.a, Path.b].all (fun q => !pathMerges s k q || (match lastOf (mergeGroup s k) q with
    | some h => decide (0 < seqDist h (mergeRp s k))
    | none => false))

/-- Close the gaps of group `k` that no path can fill any more (R214). [DEDUCED: log 79, 174] -/
def closeGaps (s : State) (k fuel : Nat) : State :=
  match fuel with
  | 0 => s
  | fuel + 1 =>
    if !(mergeGroup s k).held.isEmpty && gapPassed s k then closeGaps (mergeSkip s k) k fuel else s

/-- Held units of group `k` in ascending value, and the release point cleared (R213). -/
def mergeResync (s : State) (k fuel : Nat) : State :=
  match fuel with
  | 0 => s
  | fuel + 1 =>
    match lowestHeld (mergeGroup s k).held (mergeRp s k) with
    | none =>
      let s := putB (put s (F.PTH_MG_RP_rp k) 0) (F.PTH_MG_STATUS_synced k) false
      showMerge (modMerge s k (fun x => { x with stray := 0, skipped := [] })) k
    | some h =>
      let s := modMerge s k (fun x => { x with held := x.held.filter (fun y => decide (y.mseq ≠ h.mseq)) })
      mergeResync (mergeOut s k h.item h.mseq) k fuel

/-- The group whose oldest held unit has waited longest (R215). -/
def oldestGap (s : State) : Option Nat :=
  let l := s.pth.groups.filterMap (fun e => match e.2.held.foldl (fun (m : Option Nat) h => some (match m with
      | some t => min t h.at_
      | none => h.at_)) none with
    | some t => some (e.1, t)
    | none => none)
  (l.foldl (fun (b : Option (Nat × Nat)) e => match b with
    | some x => if e.2 < x.2 then some e else some x
    | none => some e) none).map (fun e => e.1)

/-- Units held in every group: as many gaps at most. -/
def heldUnits (s : State) : Nat := s.pth.groups.foldl (fun a e => a + e.2.held.length) 0

/-- A full store skips the oldest gap in the module (R215). [DEDUCED: log 79] -/
def fitStore (s : State) (fuel : Nat) : State :=
  match fuel with
  | 0 => s
  | fuel + 1 =>
    if storeBytes s ≤ storeLimit s then s
    else match oldestGap s with
      | none => s
      | some k => fitStore (mergeSkip (raiseGrey (inc s F.PTH_SKIP_FULL_count) F.PTH_EVENT_skip_full) k) fuel

/-- Whether value `v` has been skipped. -/
def wasSkipped (x : MergeGroup) (v : Nat) : Bool :=
  x.skipped.any (fun e => let d := seqDist v e.1; decide (0 ≤ d) && decide (d < (e.2 : Int)))

/-- A unit with merge value `v` arrives for group `k` (R213). [DEDUCED: log 79] -/
def mergeValue (s : State) (k : Nat) (u : Unit_) (v : Nat) : State :=
  let x := mergeGroup s k
  let d := seqDist v (mergeRp s k)
  let last := some ((v + u.count - 1) % 2 ^ 32)
  let place := some (u.chan, u.group)
  let s := modMerge s k (fun x => match u.path with
    | .a => { x with hA := last, placeA := place }
    | .b => { x with hB := last, placeB := place })
  if mergeSynced s k && (decide (1048576 ≤ d) || decide (d ≤ -1048576)) then
    let s := modMerge (pthDiscard s 0x63) k (fun x => { x with stray := x.stray + 1 })
    if 8 ≤ (mergeGroup s k).stray then mergeResync s k (x.held.length + 1) else showMerge (closeGaps s k (x.held.length + 1)) k
  else
    let s := modMerge s k (fun x => { x with stray := 0 })
    let s := if !mergeSynced s k || decide (d = 0) then mergeRun (mergeOut s k u v) k (x.held.length + 1)
      else if 0 < d then
        if x.held.any (fun h => decide (h.mseq = v)) then pthDiscard s 0x60
        else
          let s := modMerge s k (fun x => { x with held := x.held ++ [⟨v, s.clk.ticks, u⟩] })
          fitStore s (heldUnits s)
      else if d < -65536 ∨ wasSkipped x v then pthDiscard s 0x61
      else pthDiscard s 0x60
    showMerge (closeGaps s k (x.held.length + 2)) k

/-- A frame reaches PTH (R213): a frame without a merge value bypasses the merge. [DEDUCED: log 79] -/
def pthUnit (s : State) (u : Unit_) : State :=
  let s := monCount (monCount s 4 0x15 1 [] u.count) 4 0x15 3 [] u.bytes.length
  match u.mseq with
  | none => deliverUnit s u
  | some v => match Tab.find s.bank.mergeOf u.sid with
    | none => pthDiscard s 0x63
    | some k => mergeValue s k u v

/-- Frames in turn. -/
def pthUnits (s : State) (l : List Unit_) : State := l.foldl pthUnit s

/-- What follows for the merge from a change of defects (R128, R214). -/
def pthMerges (s : State) : State :=
  (s.pth.groups.map (fun e => e.1)).foldl (fun s k => showMerge (closeGaps s k ((mergeGroup s k).held.length + 1)) k) s

/-! ### Retained and copied segments (R218 to R222) -/

/-- Give back the references of retained segments (R221). -/
def releaseSegs (s : State) (l : List UpSeg) : State := l.foldl (fun s g => relRet s g.region g.handle) s

/-- Remove the retained segments that `gone` names. [DEDUCED: log 81] -/
def releaseRetained (s : State) (a : Nat) (gone : UpSeg → Bool) : State :=
  let x := aidProt s a
  let s := releaseSegs s (x.retained.filter gone)
  showAid (modAid s a (fun x => { x with retained := x.retained.filter (fun g => !gone g) })) a

/-- The copies that wait for a path (R220). -/
def copiesOf (s : State) (a : Nat) (q : Path) : List UpSeg := match q with
  | .a => (aidProt s a).copyA
  | .b => (aidProt s a).copyB
def setCopies (s : State) (a : Nat) (q : Path) (l : List UpSeg) : State :=
  showAid (modAid s a (fun x => match q with
    | .a => { x with copyA := l }
    | .b => { x with copyB := l })) a

/-- Count dual-launch copies of AID `a` that PTH discards (R220). -/
def dlDrop (s : State) (a n : Nat) : State :=
  if n = 0 then s else greyOf (addTo s F.PTH_DL_DROP_count n) F.PTH_EVENT_dl_drop [(3, a)]

/-- Discard and count the copies of AID `a` for path `q` that `gone` names (R220). -/
def dropCopies (s : State) (a : Nat) (q : Path) (gone : UpSeg → Bool) : State :=
  let l := copiesOf s a q
  if l.any gone then dlDrop (setCopies s a q (l.filter (fun g => !gone g))) a (l.filter gone).length else s

/-- A copy is older than ret_win (R220). [DEDUCED: log 175] -/
def tooOld (s : State) (g : UpSeg) : Bool := decide (g.at_ + 1500000 * get s F.PTH_TIMERS_ret_win < s.clk.ticks)

/-- Discard every copy older than ret_win (R220). [DEDUCED: log 175] -/
def expireCopies (s : State) : State :=
  (s.pth.aids.map (fun e => e.1)).foldl (fun s a => dropCopies (dropCopies s a .a (tooOld s)) a .b (tooOld s)) s

/-- The sequences restart (R219): values from 0, nothing acknowledged. What is retained stays until it is acknowledged or ret_win has
passed (R222, R224). [DEDUCED: log 81] -/
def restartSequences (s : State) : State :=
  (List.range 512).foldl (fun s a =>
    if aidMode s a = 0 then s
    else
      let s := put (put s (F.PTH_AID_NEXT_mseq a) 0) (F.PTH_AID_ACK_ack a) 0
      modAid s a (fun x => { x with acked := none })) s

end Sys2Proof.Machine
end

