-- ==== Sys2Proof/Machine/Switch.lean ====
section
/-!
DEFINITION. The protection switch (R224 to R226), and what follows in the line region from any change of lanes, locks,
defects, latches or activation states (R106, R128, R140, R200, R214, R224).
-/
namespace Sys2Proof.Machine
open Sys2Proof

def modPth (s : State) (f : Pth → Pth) : State := { s with pth := f s.pth }

/-- States of PTH_STATUS (R224). -/
def psNone : Nat := 0
def psOn (q : Path) : Nat := 1 + qn q
def psHold (q : Path) : Nat := 3 + qn q
def psWtrB : Nat := 6
/-- The protection state (R224). -/
def psState (s : State) : Nat := get s F.PTH_STATUS_state

/-- Causes of PTH_LAST_CAUSE. -/
def swNotT4 : Nat := 1
def swDefect : Nat := 2
def swLatch : Nat := 3
def swHub : Nat := 4
def swForce : Nat := 5
def swRevert : Nat := 6
def swFirst : Nat := 7

def trigMask (s : State) (q : Path) : Nat := match q with
  | .a => get s F.PTH_TRIG_A_mask
  | .b => get s F.PTH_TRIG_B_mask

/-- The fail condition of a path (R224, R234): its cause, 0 for none. -/
def pthFail (s : State) (q : Path) : Nat :=
  if actState s q ≠ 4 then swNotT4
  else if (bitsSet 64 (trigMask s q)).any (fun n => hardDefect s (laneOf q n) || getB s (F.LCY_ENG_STATUS_failed n)) then swDefect
  else if getB s (aprF q) || getB s (fuseF q) then swLatch
  else if (match q with | .a => s.pth.orderedA | .b => s.pth.orderedB) then swHub
  else 0

/-- Resend lists at a switch (R226): with `resend` every REPLAY AID's whole retention list; without it a list that is still being resent
starts again from its first unacknowledged value. -/
def startResend (s : State) (resend : Bool) : State :=
  (s.pth.aids.map (fun e => e.1)).foldl (fun s a =>
    if aidMode s a = 2 ∧ (resend || (aidProt s a).retained.any (fun g => g.again)) then
      showAid (modAid s a (fun x => { x with retained := x.retained.map (fun g => { g with again := true }) })) a
    else s) s

/-- Switch the working path at a codeword of module line time (R223, R225, R226, R228). [DESIGN CHOICE: log 80] -/
def switchTo (s : State) (q : Path) (resend : Bool) (cause : Nat) : State :=
  let s := modPth s (fun p => { p with want := none, holdOff := none })
  let s := putB (put s F.PTH_STATUS_state (psOn q)) F.PTH_STATUS_blocked false
  let s := put (put (inc s F.PTH_SWITCHES_count) F.PTH_LAST_CAUSE_cause cause) F.PTH_LAST_CAUSE_to (1 + qn q)
  let s := raiseGrey (put s F.PTH_LAST_FN_fn (modFn s)) F.PTH_EVENT_switch
  let body := beBytes 1 (qn q) ++ beBytes 1 cause ++ beBytes 6 (modFn s)
  let s := queueLcm (queueLcm s .a .pth 0xA3 body) .b .pth 0xA3 body
  let s := startResend s resend
  if get s F.TSU_CTRL_serve = 3 then servedUpdate s else s

/-- A fail condition begins its hold-off (R225): the length that stands now, and the codeword in which it arose. [DESIGN CHOICE: log 80] -/
def startHold (s : State) : State :=
  if s.pth.holdOff.isSome then s
  else modPth s (fun p => { p with holdOff := some ⟨get s F.PTH_TIMERS_holdoff, s.clk.ticks, modFn s, modCw s⟩ })

/-- A hold-off of length 0 ends with the codeword in which its fail condition arose (R225). [DESIGN CHOICE: log 80] -/
def holdOver (s : State) : Bool := match s.pth.holdOff with
  | none => false
  | some h => decide (h.us = 0) && (decide (modFn s ≠ h.fn) || decide (modCw s ≠ h.cw) || decide (h.tick + 20 ≤ s.clk.ticks))

/-- A request waits until its path qualifies (R225); `was` says that one waited before. [DESIGN CHOICE: log 80] -/
def pthWaits (s : State) (w : Path) (was : Bool) : State :=
  let s := putB (if was then s else raiseGrey s F.PTH_EVENT_blocked) F.PTH_STATUS_blocked true
  put s F.PTH_STATUS_state (if pthFail s w ≠ 0 then psHold w else psOn w)

/-- The state without a request (R224, R225): hold-off under a fail condition, the wait to restore, or in service. -/
def pthRest (s : State) (w : Path) (was : Bool) : State :=
  let o := otherPath w
  if pthFail s w ≠ 0 then
    let s := startHold (put s F.PTH_STATUS_state (psHold w))
    if !holdOver s then s
    else if pthFail s o = 0 then switchTo s o true (pthFail s w)
    else pthWaits (modPth s (fun p => { p with want := some ⟨o, true, pthFail s w, 2⟩ })) w was
  else
    let s := modPth s (fun p => { p with holdOff := none })
    if w = .b ∧ getB s F.PTH_CFG_revert ∧ pthFail s .a = 0 then put s F.PTH_STATUS_state psWtrB
    else put s F.PTH_STATUS_state (psOn w)

/-- Whether a request gives way (R225): it asks for the path that works, it answered a fail condition that has ended, or a fail condition
of higher priority, other than the hub's own order, stands on the working path. [DESIGN CHOICE: log 80] -/
def gives (s : State) (w : Path) (x : PthWant) : Bool :=
  decide (x.target = w) || (decide (x.prio = 2) && decide (pthFail s w = 0)) ||
  (decide (2 < x.prio) && decide (pthFail s w ≠ 0) && decide (pthFail s w ≠ swHub))

/-- PTH's state machine brought up to date (R224, R225): a waiting request is made when its path qualifies. [DESIGN CHOICE: log 80] -/
def pthEval (s : State) : State :=
  let fa := pthFail s .a
  let fb := pthFail s .b
  let s := putB (putB s F.PTH_STATUS_fail_a (decide (fa ≠ 0))) F.PTH_STATUS_fail_b (decide (fb ≠ 0))
  let out := decide (fa = swNotT4) && decide (fb = swNotT4)
  let s := if out then modPth s (fun p => { p with bothOut := true })
    else if s.pth.bothOut then modPth (restartSequences s) (fun p => { p with bothOut := false })
    else s
  let was := getB s F.PTH_STATUS_blocked
  let s := putB s F.PTH_STATUS_blocked false
  match workingPath s with
  | none =>
    if getB s F.PTH_CTRL_lockout then s
    else if fa = 0 then switchTo s .a true swFirst
    else if fb = 0 then switchTo s .b true swFirst
    else s
  | some w =>
    if out then modPth (put s F.PTH_STATUS_state psNone) (fun p => { p with want := none, holdOff := none })
    else if getB s F.PTH_CTRL_lockout then put s F.PTH_STATUS_state (psOn w)
    else
      let s := modPth s (fun p => { p with want := p.want.filter (fun x => !gives s w x) })
      match s.pth.want with
      | some x => if pthFail s x.target = 0 then switchTo s x.target x.resend x.cause else pthWaits s w was
      | none => pthRest s w was

/-- A request of priority `x.prio` (R225): it takes the place of one of the same or a lower priority. [DESIGN CHOICE: log 80] -/
def pthRequest (s : State) (x : PthWant) : State :=
  let take := match s.pth.want with
    | none => true
    | some y => decide (x.prio ≤ y.prio)
  pthEval (if take then modPth s (fun p => { p with want := some x }) else s)

/-- The path skew and its bound (R156, R217). -/
def pathSkew (s : State) : Int := offset s .b - offset s .a

/-- Show the path skew and watch its bound (R217). -/
def skewCheck (s : State) : State :=
  if pathLocked s .a && pathLocked s .b then
    let d := pathSkew s
    let s := putI s F.PTH_SKEW_skew (sat32 d)
    let bound : Int := 1250 * ((get s F.PTH_CFG_win : Int) - 4)
    if bound < d ∨ d < -bound then raiseGrey s F.PTH_EVENT_skew else s
  else s

/-- A path out of T4 loses the dual-launch copies that wait for it (R220). -/
def copiesCheck (s : State) (q : Path) : State :=
  if actState s q = 4 then s
  else (s.pth.aids.map (fun e => e.1)).foldl (fun s a => dropCopies s a q (fun _ => true)) s

/-- What follows in the line region from a change of lanes, locks, defects, latches or activation states. -/
def lineSettle (s : State) : State :=
  let s := ltuLocks (ltuLocks s .a) .b
  let s := actDown (actDown s .a) .b
  let s := aprCheck (aprCheck s .a) .b
  let s := bndUpdate (bndUpdate s .a) .b
  let s := copiesCheck (copiesCheck (skewCheck (pthMerges s)) .a) .b
  let s := pthEval s
  let down := (s.upb.bursts.map (fun b => b.lane)).filter (fun p => !mfLock s p)
  gatesChanged (down.foldl downBursts s)

/-! ### Commands -/

/-- PATH_SWITCH_APPLY (R225, R226): the hub's order takes effect at its frame; it is also a fail condition on the path it
orders the terminal away from (R224). [DEDUCED: log 176] -/
def switchApply (s : State) : State :=
  match s.pth.hubOrder with
  | none => s
  | some x =>
    let s := if ltValid s then reach s 0 (5000 * s.pth.hubFn) else s
    let s := modPth s (fun p => { p with hubOrder := none, orderedA := decide (x.target = .b), orderedB := decide (x.target = .a) })
    lineSettle (if workingPath s = some x.target then s else pthRequest s x)

/-- HOLDOFF_EXPIRE (R225). -/
def holdoffExpire (s : State) : State :=
  match workingPath s with
  | some w =>
    if psState s = psHold w ∧ pthFail s w ≠ 0 ∧ s.pth.want = none then
      lineSettle (pthRequest s ⟨otherPath w, true, pthFail s w, 2⟩)
    else s
  | none => s

/-- WTR_EXPIRE (R225). -/
def wtrExpire (s : State) : State :=
  if psState s = psWtrB ∧ pthFail s .a = 0 then lineSettle (switchTo s .a false swRevert) else s

/-- PTH_FORCE (R225). -/
def pthForce (r : Requester) (q : Path) (s : State) : State :=
  onWrite s r R.PTH_CTRL (fun s =>
    if getB s F.PTH_CTRL_lockout ∨ workingPath s = none ∨ workingPath s = some q then s
    else lineSettle (pthRequest s ⟨q, false, swForce, 4⟩))

/-- PTH_LOCKOUT (R225). [DEDUCED: log 176] -/
def pthLockout (r : Requester) (on : Bool) (s : State) : State :=
  onWrite s r R.PTH_CTRL (fun s => lineSettle (putB s F.PTH_CTRL_lockout on))

/-- PTH_CLEAR (R225): lockout and a waiting force end. -/
def pthClear (r : Requester) (s : State) : State :=
  onWrite s r R.PTH_CTRL (fun s =>
    lineSettle (modPth (putB s F.PTH_CTRL_lockout false) (fun p => { p with want := p.want.filter (fun x => decide (x.prio ≠ 4)) })))

/-- RETENTION_EXPIRE (R222): the AID's oldest retained segment is released and counted. -/
def retentionExpire (s : State) (a : Nat) : State :=
  match (aidProt s a).retained with
  | [] => s
  | g :: _ => greyOf (inc (releaseRetained s a (fun x => decide (x = g))) (F.PTH_AID_EXPIRE_count a)) F.PTH_EVENT_expire [(3, a)]

/-- MERGE_WINDOW_SKIP (R214): the window of the oldest held unit has run out. -/
def mergeWindowSkip (s : State) (k : Nat) : State :=
  if (mergeGroup s k).held.isEmpty then s
  else let s := mergeSkip s k; closeGaps s k ((mergeGroup s k).held.length + 1)

/-- BND_GAP_SKIP (R194): the gap has stood for 2 × skew_max. -/
def bndGapSkip (s : State) (q : Path) (k : Nat) : State :=
  if (bndGroup s q k).buf.isEmpty then s
  else
    let (s, l) := bndSkip s q k
    let (s, us) := bndReassembleAll s q k l
    pthUnits s us

/-- REASSEMBLY_TIMEOUT (R120, R198): no last fragment came in time. -/
def reasmTimeout (s : State) (bonded : Bool) (q : Path) (i sid : Nat) : State :=
  let ctxs := if bonded then s.bnd.ctxs else s.dfr.ctxs
  match ctxs.find? (isCtx q i sid) with
  | none => s
  | some c =>
    let rest := ctxs.filter (fun c => !isCtx q i sid c)
    let s := if bonded then { s with bnd := { s.bnd with ctxs := rest } } else { s with dfr := { s.dfr with ctxs := rest } }
    showCtxs (fragDiscard s (if bonded then [] else chanIds q i) (c.mark.getD 0x6B))

def execPathSwitchApply (s : State) : Host.Outcome State Fault Refusal := finish s (switchApply s)
def execHoldoffExpire (s : State) : Host.Outcome State Fault Refusal := finish s (holdoffExpire s)
def execWtrExpire (s : State) : Host.Outcome State Fault Refusal := finish s (wtrExpire s)
def execPthForce (r : Requester) (q : Path) (s : State) : Host.Outcome State Fault Refusal := finish s (pthForce r q s)
def execPthLockout (r : Requester) (on : Bool) (s : State) : Host.Outcome State Fault Refusal := finish s (pthLockout r on s)
def execPthClear (r : Requester) (s : State) : Host.Outcome State Fault Refusal := finish s (pthClear r s)
def execRetentionExpire (aid : Fin 512) (s : State) : Host.Outcome State Fault Refusal := finish s (retentionExpire s aid.val)
def execMergeWindowSkip (g : Fin 1024) (s : State) : Host.Outcome State Fault Refusal := finish s (mergeWindowSkip s g.val)
def execBndGapSkip (q : Path) (g : Fin 32) (s : State) : Host.Outcome State Fault Refusal := finish s (bndGapSkip s q g.val)
def execReassemblyTimeout (bonded : Bool) (q : Path) (i : Fin 64) (sid : BitVec 20) (s : State) : Host.Outcome State Fault Refusal :=
  finish s (reasmTimeout s bonded q i.val sid.toNat)

end Sys2Proof.Machine
end

