-- ==== Sys2Proof/Machine/Lane.lean ====
section
/-!
DEFINITION. The line lanes (R93, R94, R98 to R102, R106) and the commands of the safety governor (R105, R107): detectors, power
states, trims, gates.
-/
namespace Sys2Proof.Machine
open Sys2Proof

/-! ### Measurements -/

/-- Show a measured receive power. -/
def showRxPwr (s : State) (p : Nat) (c : Int) : State :=
  putB (put s (F.LNK_RX_PWR_pwr p) (rxPwrCode c)) (F.LNK_RX_PWR_valid p) true

/-- A lane that has become ACTIVE measures its light (R92): a power that no command gives. [DESIGN CHOICE: log 199] -/
def firstRxPwr (s : State) (p : Nat) : State := stepFree (putB (put s (F.LNK_RX_PWR_pwr p) (freePwr s)) (F.LNK_RX_PWR_valid p) true)

/-- Show a measured SNR, in 0.01 dB. -/
def showSnr (s : State) (p snr : Nat) : State := put s (F.LNK_RX_SNR_snr p) (sat 65535 snr)

/-- The thresholds of R94 in 0.01 dBm and 0.01 dB. [DEDUCED: log 51] -/
def losAssertAt (s : State) (p : Nat) : Int := 25 * getI s (F.LNK_DET_LOS_assert p)
/-- The power above which LOS clears (R94). [DEDUCED: log 51] -/
def losClearAt (s : State) (p : Nat) : Int := losAssertAt s p + 10 * (get s (F.LNK_DET_LOS_hyst p) : Int)
/-- The signal-to-noise ratio below which LOL asserts (R94). [DEDUCED: log 51] -/
def lolAssertAt (s : State) (p : Nat) : Nat := 25 * get s (F.LNK_DET_LOL_snr p)
/-- The ratio above which LOL clears (R94). [DEDUCED: log 51] -/
def lolClearAt (s : State) (p : Nat) : Nat := lolAssertAt s p + 10 * get s (F.LNK_DET_LOL_hyst p)

/-- After a change of a lane's detectors: what it reports, whether it stays established, and what follows. -/
def laneChanged (s : State) (p : Nat) : State := lineSettle (unestablish (report s p) p)

/-! ### LOS and LOL (R93, R94) -/

/-- LOS_ASSERT (R94): the clock is lost with the light; the equaliser keeps its coefficients (R93). -/
def losAssert (s : State) (p : Nat) (pwr : Int) : State :=
  if laneActive s p && !getB s (F.LNK_LANE_STATUS_los p) && decide (pwr < losAssertAt s p) then
    let s := putB (showRxPwr s p pwr) (F.LNK_LANE_STATUS_los p) true
    let s := modLane s p (fun l => { l with clockLocked := false })
    laneChanged (raiseGrey s (F.LNK_LANE_EVENT_los_set p)) p
  else s

/-- LOS_CLEAR (R94). -/
def losClear (s : State) (p : Nat) (pwr : Int) : State :=
  if laneActive s p && getB s (F.LNK_LANE_STATUS_los p) && decide (losClearAt s p < pwr) then
    let s := putB (showRxPwr s p pwr) (F.LNK_LANE_STATUS_los p) false
    laneChanged (raiseGrey s (F.LNK_LANE_EVENT_los_clr p)) p
  else s

/-- LOL_ASSERT (R94): a cycle slip, which is counted, or an SNR below the threshold. -/
def lolAssert (s : State) (p : Nat) (slip : Bool) (snr : Nat) : State :=
  if laneActive s p && (slip || (!getB s (F.LNK_LANE_STATUS_lol p) && decide (snr < lolAssertAt s p))) then
    let s := showSnr s p snr
    let s := if slip then
        raiseGrey (modLane (inc s (F.LNK_SLIP_count p)) p (fun l => { l with clockLocked := false })) (F.LNK_LANE_EVENT_slip p)
      else s
    if getB s (F.LNK_LANE_STATUS_lol p) then s
    else laneChanged (raiseGrey (putB s (F.LNK_LANE_STATUS_lol p) true) (F.LNK_LANE_EVENT_lol_set p)) p
  else s

/-- LOL_CLEAR (R94): lock is regained, with the SNR above the clear threshold. -/
def lolClear (s : State) (p snr : Nat) : State :=
  if laneActive s p && getB s (F.LNK_LANE_STATUS_lol p) && decide (lolClearAt s p < snr) then
    let s := modLane (showSnr s p snr) p (fun l => { l with clockLocked := true })
    laneChanged (raiseGrey (putB s (F.LNK_LANE_STATUS_lol p) false) (F.LNK_LANE_EVENT_lol_clr p)) p
  else s

/-- CLOCK_LOCK (R93). -/
def clockLock (s : State) (p : Nat) : State :=
  if laneActive s p && !getB s (F.LNK_LANE_STATUS_los p) then modLane s p (fun l => { l with clockLocked := true }) else s

/-- ADAPTATION_COMPLETE (R93). -/
def adaptDone (s : State) (p snr : Nat) : State :=
  if laneActive s p && (laneSt s p).clockLocked && !getB s (F.LNK_LANE_STATUS_adapted p) then
    putB (showSnr s p snr) (F.LNK_LANE_STATUS_adapted p) true
  else s

/-- LANE_ESTABLISHED (R106). [DEDUCED: log 164] -/
def laneEstablished (s : State) (p : Nat) : State :=
  if laneActive s p && !((detected s p).take 3).any (fun b => b) then
    lineSettle (modLane s p (fun l => { l with established := true }))
  else s

/-! ### Wavelength (R98) -/

/-- Show a wavelength error in pm. -/
def showWave (s : State) (p : Nat) (err : Int) : State := putI s (F.OPE_WAVE_err (engineOf p) (p % 16)) err

/-- WAVELENGTH_FAULT (R98): the lane goes dark. -/
def waveFault (s : State) (p : Nat) (err : Int) : State :=
  if laneState s p ≠ 4 ∧ (err < -300 ∨ 300 < err) then
    let s := putB (modLane (showWave s p err) p (fun l => { l with waveDark := true })) (F.LNK_LANE_STATUS_wave_ok p) false
    let s := raiseGrey s (F.LNK_LANE_EVENT_wave_fault p)
    lineSettle (raiseGrey s ⟨R.OPE_EVENT (engineOf p), p % 16, 1⟩)
  else s

/-- WAVELENGTH_RECOVER (R98). -/
def waveRecover (s : State) (p : Nat) (err : Int) : State :=
  if laneState s p ≠ 4 ∧ -200 ≤ err ∧ err ≤ 200 then
    lineSettle (putB (modLane (showWave s p err) p (fun l => { l with waveDark := false })) (F.LNK_LANE_STATUS_wave_ok p) true)
  else s

/-! ### Trims (R96, R102) -/

/-- The applied launch set point (R96, R102): the trimmed one lowered by launch_trim; on class defaults at most 0 dBm. [DEDUCED: log 54] -/
def applySetpoint (s : State) (p : Nat) : State :=
  let l := laneSt s p
  let v := l.calSetpoint + 10 * getI s (F.LNK_LANE_CTRL_launch_trim p)
  let v := if l.calDefault ∧ 0 < v then 0 else v
  if getI s (F.LNK_TX_SETPOINT_pwr p) = v then s else putI s (F.LNK_TX_SETPOINT_pwr p) v

/-- What temperature adds to a lane's bias, in 10 µA: 0.1 µA/°C at 0.1 °C (R102). -/
def biasShift (s : State) (p : Nat) : Int :=
  getI s (F.LNK_TEMPCO_bias_tc p) * (getI s (F.OPE_TEMP_temp (engineOf p)) - (engineSt s (engineOf p)).tCal) / 1000

/-- A lane's bias and heater at its engine's temperature (R102). -/
def applyTemp (s : State) (p : Nat) : State :=
  let l := laneSt s p
  let s := put s (F.LNK_TX_BIAS_bias p) ((l.calBias : Int) + biasShift s p).toNat
  let dt := getI s (F.OPE_TEMP_temp (engineOf p)) - (engineSt s (engineOf p)).tCal
  modLane s p (fun l => { l with heater := (l.calHeater : Int) + getI s (F.LNK_TEMPCO_heat_tc p) * dt / 10 })

/-- A bias written under expert control is the applied value: it stays through later recomputations. [DEDUCED: log 54] -/
def biasWritten (s : State) (p v : Nat) : State := modLane s p (fun l => { l with calBias := ((v : Int) - biasShift s p).toNat })

/-- TRIM_RECOMPUTE (R102): the engine's temperature is measured and its lanes' values follow. [DEDUCED: log 54] -/
def trimRecompute (s : State) (e : Nat) (temp : Int) : State :=
  if enginePowered s e then
    let s := putB (putI s (F.OPE_TEMP_temp e) temp) (F.OPE_STATUS_temp_valid e) true
    (lanesOfEngine e).foldl applyTemp s
  else s

/-- RX_OFFSET_CAL (R102): the new offset applies at once; it needs an ACTIVE lane with LOS clear. -/
def rxOffsetCal (r : Requester) (p : Nat) (offset : Int) (s : State) : State :=
  onWrite s r (R.LNK_RX_OFFSET p) (fun s =>
    if laneActive s p && !getB s (F.LNK_LANE_STATUS_los p) then putI s (F.LNK_RX_OFFSET_offset p) offset else s)

/-! ### Power states (R99 to R101) -/

/-- Whether the line blocks of lane `p`'s path have still to switch to a committed bank (R67). -/
def lineDue (s : State) (q : Path) : Bool := match q with
  | .a => s.epc.lineDueA
  | .b => s.epc.lineDueB

/-- Whether a scope's line channel is ready (R75): its path has switched and its lane is where its entry wants it, or is
refused. FLT's handling must have ended. -/
def chanReady (s : State) (p : Nat) : Bool :=
  let l := laneSt s p
  let why := get s (F.LNK_LANE_PWR_refuse p)
  !lineDue s (lanePath p) && !l.forceOff && l.step.isNone &&
  (decide (laneState s p = laneGoal s p) || (1 ≤ why && why ≤ 3) || l.fltHeld)

/-- A ready channel's quiesce ends. -/
def chanCheck (s : State) (p : Nat) : State :=
  if chanQuiesced s p && decide (epcState s ≠ epcArmed) && chanReady s p then releaseChan s p else s

/-- An engine whose lanes are all OFF is unpowered (R101). -/
def engineIdle (s : State) (e : Nat) : State :=
  if (lanesOfEngine e).all (fun p => decide (laneState s p = 4) && (laneSt s p).step.isNone) then
    putB (putB s (F.OPE_STATUS_powered e) false) (F.OPE_STATUS_temp_valid e) false
  else s

/-- A lane has left ACTIVE: its receiver delivers nothing and no defect is raised for it (R101). [DEDUCED: log 51] -/
def leftActive (s : State) (p : Nat) : State :=
  let s := put s (F.LNK_LANE_STATUS_los p) 0
  let s := putB (put s (F.LNK_LANE_STATUS_lol p) 0) (F.LNK_RX_PWR_valid p) false
  unestablish (freshLane s p) p

/-- What entering state `v` does to the lane's loops and wavelength locker (R93, R99). [DEDUCED: log 52] -/
def enterState (s : State) (p old v : Nat) : State :=
  let s := if 3 ≤ v then modLane (putB s (F.LNK_LANE_STATUS_adapted p) false) p (fun l => { l with clockLocked := false }) else s
  let lock := fun (s : State) (b : Bool) => putB (putB s (F.LNK_LANE_STATUS_wave_ok p) b) (F.OPE_WAVE_locked (engineOf p) (p % 16)) b
  if v = 4 then lock s false
  else if old = 4 then lock (modLane s p (fun l => { l with waveDark := false })) true
  else s

/-- LANE_TRANSITION_DONE (R99, R101): the step's end, the next step, and what follows from the change. [DEDUCED: log 52] -/
def transitionDone (s : State) (p : Nat) : State :=
  match (laneSt s p).step with
  | none => s
  | some v =>
    let old := laneState s p
    let s := modLane s p (fun l => { l with step := none, forceOff := l.forceOff && decide (v ≠ 4) })
    let s := enterState (put s (F.LNK_LANE_PWR_state p) v) p old v
    let s := if old = 0 then leftActive s p else s
    let s := if v = 0 then firstRxPwr (freshLane s p) p else s
    let s := laneAdvance s p
    let s := if v = 4 then engineIdle s (engineOf p) else s
    lineSettle (report (chanCheck s p) p)

/-- LANE_TARGET_WRITE (R100): the expert form of the lane's init_state; 5 to 7 are discarded. [DEDUCED: log 53] -/
def targetWrite (r : Requester) (p v : Nat) (s : State) : State :=
  onWrite s r (R.LNK_LANE_PWR p) (fun s =>
    if 4 < v then s
    else
      let s := putExpert s 2 (F.LNK_LANE_PWR_target p) v
      let s := modBanks s 2 (fun b => { b with lineInit := Tab.set b.lineInit p v })
      chanCheck (laneAdvance s p) p)

/-- LANE_REFUSE_CLEARED (R100): a reason has ended. The lane leaves ACTIVE once none holds; `refuse` shows one that still does. -/
def refuseCleared (s : State) (p : Nat) : State :=
  if laneActive s p then chanCheck (laneAdvance s p) p else s

/-- An engine's supplies have settled. -/
def enginePut (s : State) (e : Fin 8) : State :=
  let s := tokenRelease s (.engine e)
  putB (modEngine s e.val (fun x => { x with ramping := false })) (F.OPE_STATUS_powered e.val) true

/-- ENGINE_POWERED (R101): the exits that wait for the engine begin. -/
def enginePower (s : State) (e : Fin 8) : State :=
  if (engineSt s e.val).ramping && pastS7 s e.val then (lanesOfEngine e.val).foldl laneAdvance (enginePut s e) else s

/-! ### The safety governor (R105, R107) -/

/-- SAF_CEIL_WRITE (R105): lower only. -/
def ceilWrite (r : Requester) (q : Path) (v : Int) (s : State) : State :=
  onWriteP0 s r (ceilReg q) (fun s => if v ≤ ceilOf s q then setCeil s q v else s)

/-- FUSE_COMPARATOR_TRIP (R105). [DEDUCED: log 150] -/
def fuseTrip (q : Path) (s : State) : State :=
  let s := putB s (fuseF q) true
  lineSettle (match q with
    | .a => raiseGrey s F.SAF_EVENT_fuse_a
    | .b => raiseGrey s F.SAF_EVENT_fuse_b)

/-- SAF_FUSE_CLR (R105). -/
def fuseClr (r : Requester) (a b : Bool) (s : State) : State :=
  onWriteP0 s r R.SAF_FUSE_CLR (fun s =>
    lineSettle (whenB b (fun s => putB s (fuseF .b) false) (whenB a (fun s => putB s (fuseF .a) false) s)))

/-- Put the kill bits (R107). -/
def putKill (s : State) (a b : Bool) : State := lineSettle (putB (putB s (killF .a) a) (killF .b) b)

/-- SAF_KILL (R107). -/
def safKill (r : Requester) (a b : Bool) (s : State) : State := onWrite s r R.SAF_CTRL (fun s => putKill s a b)

/-- The LASER_EN input (R107). [DEDUCED: log 151] -/
def laserLow (s : State) : State :=
  let fell := s.pins.laserEn
  let s := putB (tapSettle { s with pins := { s.pins with laserEn := false } }) F.SAF_STATUS_laser_en false
  lineSettle (whenB fell (fun s => raiseGrey s F.SAF_EVENT_laser_en_low) s)
/-- LASER_EN rises: its gate ends (R107). [DEDUCED: log 151] -/
def laserHigh (s : State) : State :=
  lineSettle (putB (tapSettle { s with pins := { s.pins with laserEn := true } }) F.SAF_STATUS_laser_en true)

def execLosAssert (l : Lane) (pwr : Int) (s : State) : Host.Outcome State Fault Refusal := finish s (losAssert s l.val pwr)
def execLosClear (l : Lane) (pwr : Int) (s : State) : Host.Outcome State Fault Refusal := finish s (losClear s l.val pwr)
def execLolAssert (l : Lane) (slip : Bool) (snr : Nat) (s : State) : Host.Outcome State Fault Refusal :=
  finish s (lolAssert s l.val slip snr)
def execLolClear (l : Lane) (snr : Nat) (s : State) : Host.Outcome State Fault Refusal := finish s (lolClear s l.val snr)
def execLaneEstablished (l : Lane) (s : State) : Host.Outcome State Fault Refusal := finish s (laneEstablished s l.val)
def execClockLock (l : Lane) (s : State) : Host.Outcome State Fault Refusal := finish s (clockLock s l.val)
def execAdaptationComplete (l : Lane) (snr : Nat) (s : State) : Host.Outcome State Fault Refusal := finish s (adaptDone s l.val snr)
def execWavelengthFault (l : Lane) (err : Int) (s : State) : Host.Outcome State Fault Refusal := finish s (waveFault s l.val err)
def execWavelengthRecover (l : Lane) (err : Int) (s : State) : Host.Outcome State Fault Refusal := finish s (waveRecover s l.val err)
def execLaneTargetWrite (r : Requester) (l : Lane) (target : Fin 8) (s : State) : Host.Outcome State Fault Refusal :=
  finish s (targetWrite r l.val target.val s)
def execLaneTransitionDone (l : Lane) (s : State) : Host.Outcome State Fault Refusal := finish s (transitionDone s l.val)
def execLaneRefuseCleared (l : Lane) (s : State) : Host.Outcome State Fault Refusal := finish s (refuseCleared s l.val)
def execEnginePowered (e : Fin 8) (s : State) : Host.Outcome State Fault Refusal := finish s (enginePower s e)
def execTrimRecompute (e : Fin 8) (temp : Int) (s : State) : Host.Outcome State Fault Refusal := finish s (trimRecompute s e.val temp)
def execRxOffsetCal (r : Requester) (l : Lane) (offset : Int) (s : State) : Host.Outcome State Fault Refusal :=
  finish s (rxOffsetCal r l.val offset s)
def execSafCeilWrite (r : Requester) (q : Path) (ceil : BitVec 16) (s : State) : Host.Outcome State Fault Refusal :=
  finish s (ceilWrite r q (toSigned 16 ceil.toNat) s)
def execFuseComparatorTrip (q : Path) (s : State) : Host.Outcome State Fault Refusal := finish s (fuseTrip q s)
def execSafFuseClr (r : Requester) (clrA clrB : Bool) (s : State) : Host.Outcome State Fault Refusal :=
  finish s (fuseClr r clrA clrB s)
def execSafKill (r : Requester) (killA killB : Bool) (s : State) : Host.Outcome State Fault Refusal :=
  finish s (safKill r killA killB s)
def execLaserEnLow (s : State) : Host.Outcome State Fault Refusal := finish s (laserLow s)
def execLaserEnHigh (s : State) : Host.Outcome State Fault Refusal := finish s (laserHigh s)

end Sys2Proof.Machine
end

