-- ==== Sys2Proof/Machine/Grants.lean ====
section
/-!
DEFINITION. Grant maps (R161 to R164): their entries, what makes one malformed, the windows of the terminal; the wake and the
read-ahead that a decoded window asks for (R184, R333).
-/
namespace Sys2Proof.Machine
open Sys2Proof

/-- The STREAMS index that binds a granted AID on a path (R163, R187). -/
def aidIndex (c : Cfg) (q : Path) (aid : Nat) : Option Nat :=
  (List.range 512).find? (fun a => decide (cfgGet c (F.UPB_AID_CFG_valid a) = 1) &&
    decide (cfgGet c (F.UPB_AID_CFG_aid a) = aid) && bit (cfgGet c (F.UPB_AID_CFG_paths a)) (qn q))

/-- The entries of a map and how many of its codewords before its end are lost (R115, R162). [DEDUCED: log 67] -/
def mapEntries (m : List (Option (List Nat))) : List Nat × Nat :=
  match m with
  | [] => ([], 0)
  | none :: rest => let (es, k) := mapEntries rest; (es, k + 1)
  | some l :: rest =>
    let here := (l.take 107).takeWhile (fun e => decide (bits e 32 16 ≠ 0))
    if here.length < 107 then (here, 0) else let (es, k) := mapEntries rest; (here ++ es, k)

/-- The window that entry `e` of the map of path frame `fn - 1` gives on lane `p`; `idx` is its STREAMS index (R161). [DEDUCED: log 67] -/
def windowOf (p fn e : Nat) (idx : Option Nat) : Window :=
  { lane := p, fn := fn, aid := bits e 32 16, idx := idx, start := bits e 19 13, len := bits e 6 13, pre := bits e 4 2,
    rpt := bit e 3, lcm := bit e 2, frag := bit e 1, cont := bit e 0 }

/-- Whether codewords `a` to `a + n` and `b` to `b + m` overlap. -/
def overlap (a n b m : Nat) : Bool := decide (a < b + m) && decide (b < a + n)

/-- Codewords of a container (R122). -/
def contCodewords (rate : Nat) : Nat := if rate = 1 then 2491 else 1246

/-- What UPB_TRIB_CFG[t] holds for path `q` in path frame `fn`: an assignment or removal that waits takes part from its apply_fn on (R186).
[DESIGN CHOICE: log 71] -/
def standCfg (s : State) (q : Path) (t fn : Nat) : Option Nat :=
  match (s.upb.pendTrib.filter (fun p => decide (p.1 = q) && decide (p.2.t = t) && decide (p.2.applyFn ≤ fn))).getLast? with
  | some p => p.2.cfg
  | none =>
    if getB s (F.UPB_TRIB_CFG_valid t) ∧ get s (F.UPB_TRIB_CFG_path t) = qn q then some (rdWord s (R.UPB_TRIB_CFG t)).toNat else none

/-- Length in codewords of the standing window that `w` describes on path `q` (R186). -/
def standLen (s : State) (q : Path) (w : Nat) : Nat := (act s q).minGuard + 1 + contCodewords (bits w 20 1)

/-- The standing windows of lane `p` in path frame `fn`, (first, length) (R186), without container `but`'s. -/
def standingIn (s : State) (p fn but : Nat) : List (Nat × Nat) :=
  (List.range 32).filterMap (fun t => if t = but then none else match standCfg s (lanePath p) t fn with
    | some w => if bits w 13 6 = laneChan p then some (bits w 0 13, standLen s (lanePath p) w) else none
    | none => none)

/-- Whether window `w` is well formed after the well-formed windows `before` of its map (R164). [DEDUCED: log 67] -/
def wellFormed (s : State) (before : List Window) (w : Window) : Bool :=
  let q := lanePath w.lane
  let g := (act s q).minGuard
  decide (w.start ≤ 4999) && decide (w.len ≠ 0) && decide (w.start + w.len ≤ 5000) &&
  (if w.cont then before.any (fun x => decide (x.start + x.len = w.start))
   else decide (g + 1 ≤ w.len) && decide (get s (F.UPB_PRE_plen (qn q) w.pre) ≠ 0)) &&
  !before.any (fun x => overlap x.start x.len w.start w.len) &&
  !(standingIn s w.lane w.fn 32).any (fun x => overlap x.1 x.2 w.start w.len)

/-- The terminal's windows of a map, and how many of its entries are malformed (R163, R164). -/
def ownWindows (s : State) (p fn : Nat) (es : List Nat) : List Window × Nat :=
  let q := lanePath p
  let c := lineCfgAt s q fn
  es.foldl (fun (a : List Window × Nat) e =>
    let aid := bits e 32 16
    let idx := aidIndex c q aid
    if aid ≠ maidOf s q ∧ idx.isNone then a
    else
      let w := windowOf p fn e (if aid = maidOf s q then none else idx)
      if wellFormed s a.1 w then (a.1 ++ [w], a.2) else (a.1, a.2 + 1)) ([], 0)

/-! ### What waits for a path frame (R151, R186) -/

/-- Delays whose frame path time has reached are taken into ACT_EQD (R151). [DEDUCED: log 61] -/
def applyEqds (s : State) (q : Path) : State :=
  let due := (act s q).pendEqd.filter (fun e => decide (e.applyFn ≤ (pathTime s q).fn))
  if due.isEmpty then s
  else
    let s := due.foldl (fun s e =>
      putB (put s (F.ACT_EQD_eqd (qn q) e.chan) e.eqd) (F.ACT_EQD_ranged (qn q) e.chan) true) s
    showGasp (modAct s q (fun a => { a with pendEqd := a.pendEqd.filter (fun e => !due.contains e) })) q

/-- Standing windows whose frame path time has reached are taken into UPB_TRIB_CFG (R186). -/
def applyUpTribs (s : State) (q : Path) : State :=
  let due := s.upb.pendTrib.filter (fun p => decide (p.1 = q) && decide (p.2.applyFn ≤ (pathTime s q).fn))
  due.foldl (fun s p =>
    let s := { s with upb := { s.upb with pendTrib := s.upb.pendTrib.erase p } }
    match p.2.cfg with
    | none => dropUpTrib s p.2.t
    | some w => wrWord s (R.UPB_TRIB_CFG p.2.t) (BitVec.ofNat 32 w)) s

/-- What waits for the path frame that has come. -/
def pathFrameDue (s : State) (q : Path) : State := applyUpTribs (applyEqds s q) q

/-! ### Wake and read-ahead (R184, R333) -/

/-- Frames of an AID root's subtree in the filler's order, up to `budget` bytes; the picks run on a copy of the state. -/
def aheadFrames (s : State) (e : PickEnv) (m budget fuel : Nat) : List QFrame :=
  match fuel with
  | 0 => []
  | fuel + 1 => match pickRoot s e m with
    | none => []
    | some c => match takeFrame s e c with
      | (_, none) => []
      | (s, some f) => if budget < f.len then [] else f :: aheadFrames s e m (budget - f.len) fuel

/-- The scheduler root of a STREAMS index (R187). -/
def aidRoot (c : Cfg) (a : Nat) : Nat := Tab.getD c.bank.roots a 4096

/-- The retained segments that the filler would resend first, up to `budget` bytes: queue and buffer of each whose data lies below tier 0,
and what is left of the budget (R226, R333). -/
def resendAhead (s : State) (n budget : Nat) (l : List UpSeg) : List (Nat × Nat) × Nat := match l with
  | [] => ([], budget)
  | g :: rest =>
    if budget < g.payload.length then ([], 0)
    else
      let (k, left) := resendAhead s n (budget - g.payload.length) rest
      match bufOf s n g.handle with
      | some x => (if x.low.isSome then (x.queue.getD 0, g.handle) :: k else k, left)
      | none => (k, left)

/-- TMG asks for promotion of what window `w` would take (R333). -/
def readAhead (s : State) (w : Window) (a : Nat) : State :=
  let c := lineCfgAt s (lanePath w.lane) w.fn
  let n := cfgGet c (F.UPB_AID_CFG_region a)
  let m := aidRoot c a
  match snode s n m with
  | none => s
  | some x =>
    let fuel := (pkt s n).tmg.queues.foldl (fun k e => k + e.2.length) 1
    let again := (aidProt s a).retained.filter (fun g => g.again && decide (g.region = n))
    let (old, left) := resendAhead s n (642 * w.len) again
    let low := (aheadFrames s ⟨n, x, [], true⟩ m left fuel).filter (fun f => !inTier0 s n f)
    let new := ((old ++ low.map (fun f => (f.q, f.bid))).filter
      (fun f => !(pkt s n).bpm.want.any (fun w => decide (w.2.2.2 = f.2)))).eraseDups
    modBpm s n (fun b => { b with want := b.want ++ new.map (fun f => (w.lane, w.start, f.1, f.2)) })

/-- Whether region `n` runs an entry to DIM or OFF, in which a grant's wake is noted (R417, R418). -/
def entersSleep (s : State) (n : Nat) : Bool :=
  regionBusy s n && decide (regionStep s n ≤ 5) && decide (2 ≤ get s (F.PWR_D_STATE_target n))

/-- What follows for a decoded window's region (R184, R333). [DEDUCED: log 173] -/
def windowDecoded (s : State) (w : Window) : State :=
  match w.idx with
  | none => s
  | some a =>
    let n := cfgGet (lineCfgAt s (lanePath w.lane) w.fn) (F.UPB_AID_CFG_region a)
    let s := if (regionAsleep s n || entersSleep s n) && getB s (F.PWR_D_CFG_wake_grant n) then wake s n else s
    if regionAsleep s n then s else readAhead s w a

/-- Count `k` windows of path `q` under reason `r` (R165). -/
def unused (s : State) (q : Path) (r k : Nat) : State := addTo s (F.UPB_P_UNUSED_count (qn q) r) k

end Sys2Proof.Machine
end

