-- ==== Sys2Proof/Machine/Burst.lean ====
section
/-!
DEFINITION. How a burst is laid out (R166 to R175): header, LCM and report blocks, allocation segments, capacity; the bursts
that ACT requests (R174); the dying gasp in the first window that ASH can reach (R159, R425).
-/
namespace Sys2Proof.Machine
open Sys2Proof

/-- A burst's information bytes: `sym` symbols follow the delimiter to the end of its last window (R169). -/
def infoBytes (sym : Nat) : Nat :=
  let r := sym % 2720
  (5140 * (sym / 2720) + (if 155 ≤ r then 10 * (r / 5 - 30) else 0)) / 8

/-- The burst header (R170). [DEDUCED: log 145] -/
def burstHeader (tid chan path : Nat) (lcm rpt dg trib : Bool) (bsn wfn : Nat) : List Byte :=
  let flags := 1024 * chan + 512 * path + 256 * b2n lcm + 128 * b2n rpt + 64 * b2n dg + 32 * b2n trib
  let h := beBytes 2 tid ++ beBytes 2 flags ++ beBytes 4 bsn ++ beBytes 4 wfn
  h ++ beBytes 4 (crc32c h)

/-- The header of an allocation segment (R172). [DEDUCED: log 145] -/
def allocHeader (aid rep len : Nat) (tint : Bool) : List Byte :=
  let v := beBytes 2 aid ++ beBytes 2 rep ++ beBytes 3 (4 * len + 2 * b2n tint)
  v ++ beBytes 1 (crc8 v)

/-- `bs` filled with zeros, or cut, to `n` bytes. -/
def fit (n : Nat) (bs : List Byte) : List Byte := (padTo n bs).take n

/-- A 64-byte LCM slot (R131). -/
def lcmSlot (dest typ : Nat) (body : List Byte) : List Byte :=
  let x := beBytes 2 dest ++ beBytes 1 typ ++ beBytes 1 body.length ++ (body ++ List.replicate (56 - body.length) 0)
  x ++ beBytes 4 (crc32c x)

/-- An empty LCM slot: type 0x00 (R131, R185). -/
def emptySlot : List Byte := lcmSlot 0 0 []

/-- An upstream LCM slot (R131, R145). -/
def upSlot (s : State) (q : Path) (typ : Nat) (body : List Byte) : List Byte := lcmSlot (act s q).hubId typ body

/-- The next burst sequence number of path `q` (R170). [DEDUCED: log 170] -/
def takeBsn (s : State) (q : Path) : State × Nat := (inc s (F.UPB_P_BSN_bsn (qn q)), get s (F.UPB_P_BSN_bsn (qn q)))

/-! ### The equalisation delay (R151, R152, R175) -/

/-- The delay of channel `n` of path `q` for windows of path frame `fn`. [DEDUCED: log 167] -/
def eqdAt (s : State) (q : Path) (n fn : Nat) : Nat := match eqdPending s q n fn with
  | some e => e.eqd
  | none => get s (F.ACT_EQD_eqd (qn q) n)

/-- Codeword and fine delay of a burst whose first window starts at codeword count `at_`, under delay `eqd` (R175). -/
def launchAt (s : State) (q : Path) (n at_ eqd : Nat) : Nat × Nat :=
  let e : Int := (eqd : Int) + getI s (F.UPB_CH_OFFSET_offset (qn q) n)
  ((((at_ : Nat) : Int) + e / 43520).toNat, (e % 43520).toNat)

/-! ### Discovery and ranging bursts (R174) -/

/-- Whether two bursts as launched, (alarm, fine delay, length), overlap. -/
def burstsOverlap (a af n b bf m : Nat) : Bool :=
  decide (43520 * a + af < 43520 * (b + m) + bf) && decide (43520 * b + bf < 43520 * (a + n) + af)

/-- Granted and standing bursts on lane `p` that a discovery or ranging burst overlaps give way to it: their windows count as unused (R165).
[DEDUCED: log 169] -/
def yieldTo (s : State) (p a fine len : Nat) : State :=
  let past := (waitingBursts s p).filter (fun b => needsRange b.kind && burstsOverlap b.alarm b.fine b.len a fine len)
  past.foldl (fun s b => unused (keepBursts s (fun x => decide (x ≠ b))) (lanePath p) 7 b.wins) s

/-- Length in codewords of the discovery and of the ranging burst. -/
def discoveryLen : Nat := 12
def rangingLen : Nat := 6

/-- A burst that ACT requests on channel `n` of path `q` at codeword count `at_`: kind, TID, whole length, preamble, LCM slot
and delay. [DEDUCED: log 169] -/
def requestBurst (s : State) (q : Path) (n at_ eqd : Nat) (k : BurstKind) (tid len plen : Nat) (slot : Option (List Byte)) :
    State :=
  let (s, bsn) := takeBsn s q
  let (a, fine) := launchAt s q n at_ eqd
  let hdr := burstHeader tid n (qn q) slot.isSome false false false bsn (at_ / 5000 % 2 ^ 32)
  let lcm := match slot with
    | some x => x ++ emptySlot
    | none => []
  let s := yieldTo s (laneOf q n) a fine len
  queueBurst s { kind := k, lane := laneOf q n, pos := at_, guard := 1, len := len, pre := 0, plen := plen, alarm := a, fine := fine,
                 bsn := bsn, info := fit (infoBytes (codedSymbols len 1 plen)) (hdr ++ lcm), segs := [],
                 acts := b2n slot.isSome, reps := [], wins := 0, mgmt := true }

/-! ### The dying gasp (R159, R425) -/

/-- Whether ASH still looks for a window on path `q`. -/
def gaspWanted (s : State) (q : Path) : Bool := match q with
  | .a => s.pwr.gaspA
  | .b => s.pwr.gaspB
def setGasp (s : State) (q : Path) (v : Bool) : State := match q with
  | .a => { s with pwr := { s.pwr with gaspA := v } }
  | .b => { s with pwr := { s.pwr with gaspB := v } }

/-- ASH sends the gasp in the window of `len` codewords at codeword count `pos` on CH_00 (R159, R174): the window's guard and
preamble, a header with dg set, and an LCM block with DYING_GASP in slot 0. It is charged and never held (R104), and dark or cut only
under the first five gates (R107). [DEDUCED: log 170, 182] -/
def gaspSend (s : State) (q : Path) (pos len pre plen : Nat) : State :=
  let slot := (match q with
    | .a => s.pwr.slotA
    | .b => s.pwr.slotB).getD (0, 0)
  let p := laneOf q 0
  if safGate s p true then s
  else
    let body := beBytes 8 slot.2 ++ beBytes 1 s.pwr.gaspCause ++ beBytes 6 (pathTime s q).fn
    let (a, fine) := launchAt s q 0 pos (eqdAt s q 0 (pos / 5000))
    let g := (act s q).minGuard
    let s := chargePath (setGasp s q false) q p ((a + len - 1) / 125) (len - g)
    let (s, bsn) := takeBsn s q
    let hdr := burstHeader slot.1 0 (qn q) true false true false bsn (pos / 5000 % 2 ^ 32)
    let b : Burst := { kind := .gasp, lane := p, pos := pos, guard := g, len := len, pre := pre, plen := plen, alarm := a, fine := fine,
                       bsn := bsn, info := fit (infoBytes (codedSymbols len g plen)) (hdr ++ upSlot s q 0x88 body ++ emptySlot), segs := [],
                       acts := 0, reps := [], wins := 0, mgmt := true, admitted := true, launched := true }
    let s := sendLight (inc s (F.UPB_P_BURSTS_count (qn q))) b
    let s := { s with upb := { s.upb with bursts := s.upb.bursts ++ [b] } }
    let s := match q with
      | .a => putB (putB s F.ASH_LAST_sent_a true) F.GLB_SAFE_gasp_a true
      | .b => putB (putB s F.ASH_LAST_sent_b true) F.GLB_SAFE_gasp_b true
    endBursts (raiseGrey s F.ASH_EVENT_gasp)

/-- Whether ASH can still reach a window of path `q` that starts at codeword count `pos`. [DEDUCED: log 58] -/
def gaspReach (s : State) (q : Path) (pos : Nat) : Bool := decide ((baseNow s (1 + qn q)).getD 0 + 2 ≤ pos)

/-- The windows of path `q`'s management AID on CH_00 that ASH can still reach, as (codeword count, length, preamble kind and symbols):
those among `ws`, and those whose bursts have been filled and not launched. -/
def gaspWindows (s : State) (q : Path) (ws : List Window) : List (Nat × Nat × Nat × Nat) :=
  let own := (ws.filter (fun w => decide (w.lane = laneOf q 0) && w.idx.isNone && !w.cont)).map (fun w =>
    (cwCount w.fn w.start, w.len, get s (F.UPB_PRE_kind (qn q) w.pre), get s (F.UPB_PRE_plen (qn q) w.pre)))
  let filled := ((waitingBursts s (laneOf q 0)).filter (fun b => decide (b.kind = .granted) && b.mgmt)).map (fun b =>
    (b.pos, b.len, b.pre, b.plen))
  (own ++ filled).filter (fun x => gaspReach s q x.1)

/-- ASH uses the first window that it can still reach (R159), among `ws` and the filled ones. [DEDUCED: log 58] -/
def gaspTry (s : State) (q : Path) (ws : List Window) : State :=
  if gaspWanted s q then
    match (gaspWindows s q ws).foldl (fun o x => match o with
      | none => some x
      | some y => if x.1 < y.1 then some x else some y) (none : Option (Nat × Nat × Nat × Nat)) with
    | some (pos, len, pre, plen) => gaspSend s q pos len pre plen
    | none => s
  else s

/-- A map that ASH decodes on CH_00 of path `q` after the main rails have fallen (R425). -/
def gaspMap (s : State) (q : Path) (fn : Nat) (grants : List (List Nat)) : State :=
  let s := reach s (1 + qn q) (5000 * fn + 60)
  let aids := (mapEntries (grants.map some)).1.filter (fun e => decide (bits e 32 16 = maidOf s q))
  gaspTry s q (ownWindows s (laneOf q 0) (fn + 1) aids).1

/-- GRANT_MAP_DECODE (R162 to R164). In the safe state a map of CH_00 is ASH's (R425). -/
def decodeMap (s : State) (p : Nat) : State :=
  match s.upb.maps.find? (fun m => decide (m.1 = p)) with
  | none => s
  | some m =>
    let q := lanePath p
    let s := { s with upb := { s.upb with maps := s.upb.maps.erase m } }
    let s := reach s (1 + qn q) (5000 * m.2.1 + 60)
    let (es, lost) := mapEntries m.2.2
    let s := if lost = 0 then s else greyOf (unused s q 6 lost) F.UPB_EVENT_map_lost [(4, p)]
    let (ws, bad) := ownWindows s p (m.2.1 + 1) es
    let s := if bad = 0 then s else greyOf (unused s q 4 bad) F.UPB_EVENT_grant_bad [(4, p)]
    let s := { s with upb := { s.upb with windows := s.upb.windows ++ ws } }
    if getB s F.GLB_SAFE_safe then (if laneChan p = 0 then gaspTry s q ws else s) else ws.foldl windowDecoded s

def execGrantMapDecode (l : Lane) (s : State) : Host.Outcome State Fault Refusal := finish s (decodeMap s l.val)

end Sys2Proof.Machine
end

