-- ==== Sys2Proof/Machine/Act.lean ====
section
/-!
DEFINITION. Activation (R140 to R158): the line control messages of the home channel, discovery, ranging, registration, home
channel, containers, hold, and the timers of ACT.
-/
namespace Sys2Proof.Machine
open Sys2Proof

/-! ### Acceptance of a message (R143, R144) -/

/-- Whether a message of a type may come to `dest` in the state of the path whose TID is `tid` (R143, R144, R149, R223, R244). [DEDUCED: log 59] -/
def lcmDestOk (typ dest tid st : Nat) : Bool :=
  let mine := decide (dest = tid) && decide (tid ≠ 0) && (decide (st = 3) || decide (st = 4) || decide (st = 6))
  let all := decide (dest = 0xFFFF) && decide (1 ≤ st) && decide (st ≤ 5)
  match typ with
  | 0x01 | 0x02 | 0x0F => all
  | 0x03 => decide (dest = 0xFFFE) && decide (st = 2)
  | 0x04 => decide (dest = 0xFFFE) && (decide (st = 2) || decide (st = 3))
  | 0x0D | 0x0E => mine || all
  | 0x21 | 0x22 | 0x23 => mine && decide (st = 4)
  | _ => mine

/-- Whether a message's lsi, where its body begins with one, is the terminal's (R144). -/
def lcmLsiOk (s : State) (typ : Nat) (body : List Byte) : Bool :=
  match typ with
  | 0x04 | 0x0D | 0x0E | 0x0F | 0x10 => decide (be body 0 8 = get s F.ACT_LSI_lsi)
  | _ => true

/-- Take the oldest message that DFR has passed, if it is of type `typ`, and act on its body where it is accepted. `known` says
whether its body names only what exists; otherwise it is discarded (R143, R167). [DEDUCED: log 59] -/
def takeLcm (s : State) (q : Path) (typ : Nat) (known : List Byte → Bool) (k : State → List Byte → State) : State :=
  match (act s q).inbox with
  | [] => s
  | x :: rest =>
    if be x 2 1 ≠ typ then s
    else
      let s := modAct s q (fun a => { a with inbox := rest })
      let body := sub x 4 (be x 3 1)
      if lcmDestOk typ (be x 0 2) (tidOf s q) (actState s q) && lcmLsiOk s typ body then
        if known body then k (inc s (F.ACT_LCM_RX_count (qn q))) body else inc s (F.ACT_LCM_UNKNOWN_count (qn q))
      else s

/-- A message whose body names nothing that could be missing. -/
def anyBody (_ : List Byte) : Bool := true

/-- Byte `i` of a body names a channel. -/
def chanAt (i : Nat) (b : List Byte) : Bool := decide (be b i 1 ≤ 63)

/-- A container's channel and rate exist, or it is removed (R144, R185). -/
def tribBody (b : List Byte) : Bool := decide (be b 4 1 = 0xFF) || (chanAt 1 b && decide (be b 4 1 ≤ 1))

/-- An assignment for which a reason to refuse it holds is answered, whatever else its body holds (R157, R186); `reason` is what
the body's index, channel, first codeword and rate give. -/
def tribKnown (reason : Nat → Nat → Nat → Nat → Nat) (b : List Byte) : Bool :=
  tribBody b || decide (reason (be b 0 1) (be b 1 1) (be b 2 2) (be b 4 1) ≠ 0)

/-- Queue a fragmented message (R146). -/
def queueFragments (s : State) (q : Path) (typ : Nat) (data : List Byte) : State :=
  let n := max 1 ((data.length + 53) / 54)
  (List.range n).foldl (fun s i =>
    queueLcm s q .act typ (beBytes 1 i ++ beBytes 1 n ++ sub data (54 * i) 54)) s

/-! ### PATH_PARAMS and TIME_ANNOUNCE (R140, R144, R167) -/

/-- Length and kind of entry `i` of the preamble table in a PATH_PARAMS. -/
def preLen (b : List Byte) (i : Nat) : Nat := be b (2 + 4 * i) 2
def preKind (b : List Byte) (i : Nat) : Nat := be b (4 + 4 * i) 1

/-- The preamble table is legal (R167). -/
def preambleOk (b : List Byte) : Bool :=
  (List.range 4).all (fun i =>
    (decide (preLen b i = 0) || (decide (16 ≤ preLen b i) && decide (preLen b i ≤ 512) && decide (preLen b i % 16 = 0))) &&
    decide (preKind b i ≤ 2))

def pathParams (s : State) (q : Path) (b : List Byte) : State :=
  let s := modAct s q (fun a => { a with
    discOpen := bit (be b 0 1) 0, hubSig := bit (be b 0 1) 1, minGuard := be b 1 1 })
  let s := (List.range 4).foldl (fun s i =>
    put (put s (F.UPB_PRE_plen (qn q) i) (preLen b i)) (F.UPB_PRE_kind (qn q) i) (preKind b i)) s
  if actState s q = 1 ∧ (act s q).discOpen ∧ getB s (F.ACT_CTRL_enable (qn q)) then
    let s := clearApr (put s (F.ACT_ANN_COUNT_n (qn q)) 0) q
    lineSettle (putAct (modAct s q (fun a => { a with skip := 0, announces := [] })) q 2)
  else s

def timeAnnounce (s : State) (q : Path) (b : List Byte) : State := announce s q ⟨be b 0 6, be b 6 6⟩

/-! ### Discovery (R148, R149) -/

/-- Whether the terminal answers a DISCOVERY window of `len` codewords on channel `chan` after its backoff. [DEDUCED: log 66] -/
def discovery (s : State) (q : Path) (draw : Nat) (b : List Byte) : State :=
  let chan := be b 0 1
  let len := be b 9 2
  let a := act s q
  if !a.discOpen ∨ chan ≠ homeInUse s q then s
  else if 0 < a.skip then modAct s q (fun a => { a with skip := a.skip - 1 })
  else if len < discoveryLen then raiseGrey s (F.ACT_EVENT_range_fit (qn q))
  else
    let at_ := cwCount (be b 1 6) (be b 7 2) + draw % (len - discoveryLen + 1)
    let body := beBytes 8 (get s F.ACT_LSI_lsi) ++ beBytes 2 0x6425 ++ beBytes 1 0xB0 ++ beBytes 1 (qn q) ++
      beBytes 1 (get s (F.ACT_ANN_COUNT_n (qn q)))
    let s := modAct s q (fun a => { a with announces := a.announces ++ [be b 11 1] })
    requestBurst s q chan at_ 0 .discovery 0xFFFE discoveryLen 27200 (some (upSlot s q 0x80 body))

/-- No ASSIGN_TID has come by the end of the frame after the window of the oldest ANNOUNCE (R148). [DEDUCED: log 66] -/
def unanswered (s : State) (q : Path) (draw : Nat) : State :=
  match (act s q).announces with
  | [] => s
  | most :: rest =>
    if actState s q = 2 then
      let n := sat 15 (get s (F.ACT_ANN_COUNT_n (qn q)) + 1)
      let s := put s (F.ACT_ANN_COUNT_n (qn q)) n
      modAct s q (fun a => { a with announces := rest, skip := draw % min (2 ^ n) (max 1 most) })
    else s

/-- The values of an ASSIGN_TID are taken (R140, R149, R155). -/
def takeTid (s : State) (q : Path) (b : List Byte) : State :=
  let s := put (put s (F.ACT_TID_tid (qn q)) (be b 8 2)) (F.ACT_TID_maid (qn q)) (be b 10 2)
  assignHome (modAct s q (fun a => { a with announces := [] })) q (be b 12 1)

/-- The message ASSIGN_TID (R149). [DEDUCED: log 165] -/
def assignTid (s : State) (q : Path) (b : List Byte) : State :=
  let tid := be b 8 2
  if tid = 0 ∨ tid = 0xFFFE ∨ tid = 0xFFFF then s
  else if actState s q = 3 then
    if tid = tidOf s q then s
    else lineSettle (takeTid (raiseGrey (unregister s q) (F.ACT_EVENT_state_change (qn q))) q b)
  else lineSettle (putAct (takeTid s q b) q 3)

/-! ### Ranging (R150, R151) -/

def rangeWindow (s : State) (q : Path) (b : List Byte) : State :=
  let chan := be b 0 1
  if actState s q = 3 ∨ actState s q = 4 then
    let s := applyEqds s q
    let at_ := cwCount (be b 1 6) (be b 7 2)
    let eqd := eqdAt s q chan (be b 1 6)
    -- turn-off lies 4.0 ns, 13,600 units, after the last symbol, which is one symbol before the end of the burst (R97)
    if 43520 * be b 9 2 < eqd + 43520 * rangingLen - 16 + 13600 then raiseGrey s (F.ACT_EVENT_range_fit (qn q))
    else requestBurst s q chan at_ eqd .ranging (tidOf s q) rangingLen 10880 none
  else s

/-- The message EQ_DELAY (R151). [DEDUCED: log 61] -/
def eqDelay (s : State) (q : Path) (b : List Byte) : State :=
  let chan := be b 0 1
  let eqd := be b 1 4
  if 680000000 < eqd then
    let s := queueLcm s q .act 0x81 (beBytes 1 chan ++ beBytes 1 1 ++ beBytes 4 (get s (F.ACT_EQD_eqd (qn q) chan)))
    raiseGrey s (F.ACT_EVENT_eqd_range (qn q))
  else
    let s := applyEqds s q
    let next := if be b 5 6 ≤ (pathTime s q).fn then (pathTime s q).fn + 1 else be b 5 6
    let keep := (act s q).pendEqd.filter (fun e => decide (e.chan ≠ chan) || decide (e.applyFn < next))
    let s := modAct s q (fun a => { a with pendEqd := keep ++ [⟨chan, eqd, next⟩] })
    queueLcm s q .act 0x81 (beBytes 1 chan ++ beBytes 1 0 ++ beBytes 4 eqd)

/-! ### Registration (R153, R154) -/

def certReq (s : State) (q : Path) (_ : List Byte) : State :=
  if actState s q = 3 then queueFragments s q 0x82 (s.flash.cert.take 1080) else s

/-- The message being received is discarded (R146). [DEDUCED: log 60] -/
def fragDrop (s : State) (q : Path) : State :=
  if (act s q).frag.isSome then
    raiseGrey (inc (modAct s q (fun a => { a with frag := none })) (F.ACT_LCM_UNKNOWN_count (qn q))) (F.ACT_EVENT_frag_drop (qn q))
  else s

/-- Bytes of `lsi ‖ tid` of path `q`. -/
def lsiTid (s : State) (q : Path) : List Byte := beBytes 8 (get s F.ACT_LSI_lsi) ++ beBytes 2 (tidOf s q)

/-- A complete AUTH_CHALLENGE (R153): the hub's signature is checked where it is required. [DEDUCED: log 166] -/
def challenge (s : State) (q : Path) (m : List Byte) : State :=
  let signed := Config.ecdsaVerify s.flash.anchorKey (Config.sha384 (sub m 0 129 ++ lsiTid s q)) (sub m 129 96)
  let s := forgetSecrets s q
  if m.length < 129 then lineSettle (authFail s q)
  else if getB s (F.ACT_CTRL_hub_auth (qn q)) ∧ !((act s q).hubSig && decide (225 ≤ m.length) && signed) then
    lineSettle (authFail s q)
  else modAct s q (fun a => { a with challenge := some m })

/-- The data of fragments 0 to `n - 1`. [DEDUCED: log 60] -/
def fragData (parts : Tab (List Byte)) (n : Nat) : List Byte := (List.range n).flatMap (fun i => Tab.getD parts i [])

/-- A fragment of AUTH_CHALLENGE (R146, R153). [DEDUCED: log 60, 166] -/
def challengeFragment (s : State) (q : Path) (b : List Byte) : State :=
  if actState s q ≠ 3 then s
  else
    let i := be b 0 1
    let n := be b 1 1
    let data := b.drop 2
    let s := if i = 0 then fragDrop s q else s
    let old := (act s q).frag
    if n = 0 ∨ 20 < n ∨ n ≤ i ∨ (i + 1 < n ∧ data.length ≠ 54) ∨ old.any (fun f => decide (f.count ≠ n)) then fragDrop s q
    else
      let parts := Tab.set (match old with
        | some f => f.parts
        | none => []) i data
      if parts.length = n then challenge (modAct s q (fun a => { a with frag := none })) q (fragData parts n)
      else modAct s q (fun a => { a with frag := some ⟨n, parts⟩ })

/-- Block `i` of the derivation from Z (R153, SP 800-108). [PRESUMED: log 64] -/
def rootBlock (z ctx : List Byte) (i : Nat) : List Byte :=
  Config.hmacSha384 z (beBytes 4 i ++ beBytes 4 0x5A524B31 ++ beBytes 1 0 ++ ctx ++ beBytes 4 768)

/-- The warden has finished (R153): AUTH_RESPONSE goes out; the 96 bytes are derived from Z. -/
def respond (s : State) (q : Path) : State :=
  let a := act s q
  match a.challenge with
  | none => s
  | some m =>
    if a.response.isSome ∨ actState s q ≠ 3 ∨ s.wrd.down then s
    else
      let eph := freeVal s
      let s := stepFree s
      let rnd := freeVal s
      let s := stepFree s
      let key := fit 97 (Config.ephPublic eph)
      let path := beBytes 1 (qn q)
      let sig := fit 96 (Config.ecdsaSign rnd (Config.sha384 (sub m 0 129 ++ key ++ lsiTid s q ++ path)))
      let z := Config.ecdhSecret eph (sub m 32 97)
      let ctx := lsiTid s q ++ path ++ sub m 0 32
      let keys := fit 96 (fit 48 (rootBlock z ctx 1) ++ fit 48 (rootBlock z ctx 2))
      let s := modAct s q (fun a => { a with response := some (key ++ sig), derived := some keys })
      queueFragments s q 0x83 (key ++ sig)

/-- CONFIRM goes out once both root slots are written (R153). [DEDUCED: log 63] -/
def sendConfirm (s : State) (q : Path) : State :=
  match (act s q).confirmTag with
  | none => s
  | some tag =>
    if s.lcy.cmds.any (fun c => decide (c.slot = rootSlot s q false) || decide (c.slot = rootSlot s q true)) then s
    else queueLcm (modAct s q (fun a => { a with confirmTag := none })) q .act 0x84 (fit 16 tag)

/-- Registration ends because root slot `k` is retired (R153): a Crimson event names the slot. [DESIGN CHOICE: log 65] -/
def slotRetired (s : State) (q : Path) (k : Nat) : State :=
  let s := actReturn s q 1 causeRetired
  lineSettle (offer s 0x1700 .crimson 6 0x17 k k 2)

/-- The message KEY_CONFIRM (R153). [DEDUCED: log 63, 166] -/
def keyConfirm (s : State) (q : Path) (b : List Byte) : State :=
  let a := act s q
  if actState s q ≠ 3 then s
  else
    let t := Config.sha384 (a.challenge.getD [] ++ a.response.getD [])
    match a.derived with
    | none => lineSettle (authFail s q)
    | some d =>
      let kc := d.drop 64
      let down := rootSlot s q false
      let up := rootSlot s q true
      if b ≠ fit 16 (Config.cmac256 kc (beBytes 1 1 ++ t)) then lineSettle (authFail s q)
      else if slotGen s down = 0xFFFFFFFF then slotRetired s q down
      else if slotGen s up = 0xFFFFFFFF then slotRetired s q up
      else
        let s := slotCommand (slotCommand s down (some (sub d 0 32))) up (some (sub d 32 32))
        sendConfirm (modAct s q (fun a => { a with confirmTag := some (Config.cmac256 kc (beBytes 1 2 ++ t)) })) q

/-- The path enters T4: upstream groups start their sequence at 0 (R204). [DEDUCED: log 63] -/
def enterT4 (s : State) (q : Path) : State :=
  let s := (List.range 32).foldl (fun s g => put s (F.BND_UG_NEXT_bseq (qn q) g) 0) s
  putAct s q 4

/-- The message REGISTERED (R140). [DEDUCED: log 63] -/
def registered (s : State) (q : Path) (_ : List Byte) : State :=
  if actState s q = 3 then
    let fn := (pathTime s q).fn
    let s := t4Epochs (put s (F.ACT_REG_FN_fn (qn q)) fn) q fn
    lineSettle (enterT4 (forgetSecrets s q) q)
  else s

/-! ### Home channel (R155) -/

/-- The message HOME_ASSIGN (R155). [DESIGN CHOICE: log 168] -/
def homeAssign (s : State) (q : Path) (b : List Byte) : State :=
  modAct s q (fun a => { a with pendHome := some (be b 0 1, be b 1 6) })

/-- An assigned home channel comes into use (R155). [DEDUCED, DESIGN CHOICE: log 61, 168] -/
def homeApply (s : State) (q : Path) : State :=
  match (act s q).pendHome with
  | none => s
  | some (n, fn) =>
    let s := reach s (1 + qn q) (5000 * fn)
    lineSettle (assignHome (modAct s q (fun a => { a with pendHome := none })) q n)

/-- The channel that LCM reception falls back to (R155). [DEDUCED: log 62] -/
def fallbackChan (s : State) (q : Path) : Option Nat :=
  (List.range 64).find? (fun n => decide (some n ≠ (act s q).home) && decide (n ≠ homeInUse s q) &&
    mfLock s (laneOf q n) && !hardDefect s (laneOf q n))

/-- A home channel that fails is replaced (R155). [DEDUCED: log 62] -/
def homeFallback (s : State) (q : Path) : State :=
  let old := homeInUse s q
  if (actState s q = 3 ∨ actState s q = 4) ∧ hardDefect s (laneOf q old) then
    match fallbackChan s q with
    | none => s
    | some n =>
      let s := putB (putHome s q n true) (F.ACT_STATE_home_fallback (qn q)) true
      queueLcm (raiseGrey s (F.ACT_EVENT_home_fallback (qn q))) q .act 0x86 (beBytes 1 old ++ beBytes 1 n)
  else s

/-! ### Containers (R157) -/

/-- Whether port `k`, of a PORTMAP binding, is a transparent-mode port of a container's rate (R254). -/
def tribPortOk (s : State) (port : Option Nat) (rate : Nat) : Bool := match port with
  | none => false
  | some k => isTransparent s (k / 32) (k % 32) && decide (get s (F.CMC_PORT_CFG_rate (k / 32) (k % 32)) = rate)

/-- The register word of a container or standing window. -/
def tribWord (q : Path) (chan first rate : Nat) : Nat := first + 2 ^ 13 * chan + 2 ^ 19 * qn q + 2 ^ 20 * rate + 2 ^ 21

/-- Refusal reasons (R145). -/
def nackRange : Nat := 1
def nackOverlap : Nat := 2
def nackIndex : Nat := 3
def nackPort : Nat := 4
def nackOwned : Nat := 5

/-- Ranges, (first, length), of the other downstream containers of a channel, assigned or waiting. -/
def otherConts (s : State) (q : Path) (t chan : Nat) : List (Nat × Nat) :=
  let now := ((tribsOf s q F.DFR_TRIB_CFG_valid F.DFR_TRIB_CFG_path).filter
    (fun u => decide (u ≠ t) && decide (get s (F.DFR_TRIB_CFG_chan u) = chan))).map
      (fun u => (get s (F.DFR_TRIB_CFG_first_cw u), contCodewords (get s (F.DFR_TRIB_CFG_rate u))))
  let later := (act s q).pendTrib.filterMap (fun p => match p.cfg with
    | some w => if p.t ≠ t ∧ bits w 13 6 = chan then some (bits w 0 13, contCodewords (bits w 20 1)) else none
    | none => none)
  now ++ later

/-- Why a TRIB_ASSIGN is refused, 0 where it is not (R157). No port has a rate that does not exist. -/
def tribReason (s : State) (q : Path) (t chan first rate : Nat) : Nat :=
  if 31 < t then nackIndex
  else if rate ≠ 0xFF ∧ (first < 40 ∨ 5000 < first + contCodewords rate) then nackRange
  else if rate ≠ 0xFF ∧ (otherConts s q t chan).any (fun x => overlap x.1 x.2 first (contCodewords rate)) then nackOverlap
  else if rate ≠ 0xFF ∧ !tribPortOk s (Tab.find s.bank.downPort t) rate then nackPort
  else if getB s (F.DFR_TRIB_CFG_valid t) ∧ get s (F.DFR_TRIB_CFG_path t) ≠ qn q then nackOwned
  else 0

def tribAssign (s : State) (q : Path) (b : List Byte) : State :=
  let t := be b 0 1
  let chan := be b 1 1
  let rate := be b 4 1
  let r := tribReason s q t chan (be b 2 2) rate
  if r = 0 then
    let cfg := if rate = 0xFF then none else some (tribWord q chan (be b 2 2) rate)
    modAct s q (fun a => { a with pendTrib := a.pendTrib.filter (fun p => decide (p.t ≠ t)) ++ [⟨t, cfg, be b 5 6⟩] })
  else raiseGrey (queueLcm s q .act 0x87 (beBytes 1 t ++ beBytes 1 r)) (F.ACT_EVENT_trib_nack (qn q))

/-- A container assignment comes into use (R157). [DEDUCED: log 61] -/
def tribApply (s : State) (q : Path) (t : Nat) : State :=
  match (act s q).pendTrib.find? (fun p => decide (p.t = t)) with
  | none => s
  | some p =>
    let s := reach s (1 + qn q) (5000 * p.applyFn)
    let s := dropDownTrib (modAct s q (fun a => { a with pendTrib := a.pendTrib.erase p })) t
    match p.cfg with
    | none => s
    | some w => showTribFault (wrWord s (R.DFR_TRIB_CFG t) (BitVec.ofNat 32 w)) t

/-! ### Orders of the hub and timers (R140, R158) -/

def deactivate (s : State) (q : Path) (_ : List Byte) : State :=
  if actState s q = 2 ∨ actState s q = 3 ∨ actState s q = 4 then lineSettle (actReturn s q 1 causeDeact) else s

def holdPath (s : State) (q : Path) (_ : List Byte) : State :=
  if 1 ≤ actState s q ∧ actState s q ≤ 4 then lineSettle (actHold s q) else s

def releasePath (s : State) (q : Path) (_ : List Byte) : State := lineSettle (actRelease s q)

/-- The message RESUME (R140). [DEDUCED: log 165] -/
def resume (s : State) (q : Path) (_ : List Byte) : State :=
  if actState s q = 6 ∧ pathLocked s q then lineSettle (enterT4 (clearApr s q) q) else s

def to3Expire (s : State) (q : Path) : State :=
  if actState s q = 3 then lineSettle (actReturn s q 1 causeRanging) else s

def to6Expire (s : State) (q : Path) : State :=
  if actState s q = 6 then lineSettle (actReturn s q (listenOrDark s q) causeLost) else s

/-! ### Skew reports (R156) -/

/-- Whether a report is due on path `q`. [DEDUCED: log 152] -/
def skewDue (s : State) (q : Path) (d : Int) : Bool := match (act s q).skewFn with
  | none => true
  | some f =>
    let old := getI s (F.ACT_LAST_SKEW_skew (qn q))
    let thr : Int := (get s (F.ACT_SKEW_CFG_thr (qn q)) : Nat)
    decide (f + get s (F.ACT_SKEW_CFG_period (qn q)) ≤ modFn s) || decide (thr < d - old) || decide (thr < old - d)

/-- SKEW_REPORT is sent (R156). [DEDUCED: log 152] -/
def skewReport (s : State) (q : Path) : State :=
  let d := sat32 (pathSkew s)
  if actState s q = 4 ∧ getB s (F.ACT_CTRL_skew_en (qn q)) ∧ pathLocked s .a ∧ pathLocked s .b ∧ skewDue s q d then
    let s := modAct (putI s (F.ACT_LAST_SKEW_skew (qn q)) d) q (fun a => { a with skewFn := some (modFn s) })
    queueLcm s q .act 0x85 (beBytes 4 (ofSigned 32 d) ++ beBytes 6 (modFn s))
  else s

/-! ### Commands -/

def execPathParams (q : Path) (s : State) : Host.Outcome State Fault Refusal := finish s (takeLcm s q 0x01 preambleOk (fun s b => pathParams s q b))
def execTimeAnnounce (q : Path) (s : State) : Host.Outcome State Fault Refusal := finish s (takeLcm s q 0x02 anyBody (fun s b => timeAnnounce s q b))
def execDiscovery (q : Path) (draw : Nat) (s : State) : Host.Outcome State Fault Refusal :=
  finish s (takeLcm s q 0x03 anyBody (fun s b => discovery s q draw b))
def execAnnounceUnanswered (q : Path) (draw : Nat) (s : State) : Host.Outcome State Fault Refusal := finish s (unanswered s q draw)
def execAssignTid (q : Path) (s : State) : Host.Outcome State Fault Refusal := finish s (takeLcm s q 0x04 (chanAt 12) (fun s b => assignTid s q b))
def execRangeWindow (q : Path) (s : State) : Host.Outcome State Fault Refusal := finish s (takeLcm s q 0x05 (chanAt 0) (fun s b => rangeWindow s q b))
def execEqDelay (q : Path) (s : State) : Host.Outcome State Fault Refusal := finish s (takeLcm s q 0x06 (chanAt 0) (fun s b => eqDelay s q b))
/-- CERT_REQ (R153). The message waits while the warden is down (R380). -/
def execCertReq (q : Path) (s : State) : Host.Outcome State Fault Refusal := finish s (if s.wrd.down then s else takeLcm s q 0x07 anyBody (fun s b => certReq s q b))
/-- AUTH_CHALLENGE (R153). The fragment waits while the warden is down (R380). -/
def execAuthChallenge (q : Path) (s : State) : Host.Outcome State Fault Refusal :=
  finish s (if s.wrd.down then s else takeLcm s q 0x08 anyBody (fun s b => challengeFragment s q b))
def execAuthResponseReady (q : Path) (s : State) : Host.Outcome State Fault Refusal := finish s (respond s q)
/-- KEY_CONFIRM (R153). The message waits while the warden is down (R380). -/
def execKeyConfirm (q : Path) (s : State) : Host.Outcome State Fault Refusal :=
  finish s (if s.wrd.down then s else takeLcm s q 0x09 anyBody (fun s b => keyConfirm s q b))
/-- REGISTERED (R140). The message waits while the warden is down (R380). -/
def execRegistered (q : Path) (s : State) : Host.Outcome State Fault Refusal := finish s (if s.wrd.down then s else takeLcm s q 0x0A anyBody (fun s b => registered s q b))
def execHomeAssign (q : Path) (s : State) : Host.Outcome State Fault Refusal := finish s (takeLcm s q 0x0B (chanAt 0) (fun s b => homeAssign s q b))
def execHomeAssignApply (q : Path) (s : State) : Host.Outcome State Fault Refusal := finish s (homeApply s q)
def execTribAssign (q : Path) (s : State) : Host.Outcome State Fault Refusal :=
  finish s (takeLcm s q 0x0C (tribKnown (tribReason s q)) (fun s b => tribAssign s q b))
def execTribAssignApply (q : Path) (t : Fin 256) (s : State) : Host.Outcome State Fault Refusal := finish s (tribApply s q t.val)
def execDeactivate (q : Path) (s : State) : Host.Outcome State Fault Refusal := finish s (takeLcm s q 0x0D anyBody (fun s b => deactivate s q b))
def execHold (q : Path) (s : State) : Host.Outcome State Fault Refusal := finish s (takeLcm s q 0x0E anyBody (fun s b => holdPath s q b))
def execRelease (q : Path) (s : State) : Host.Outcome State Fault Refusal := finish s (takeLcm s q 0x0F anyBody (fun s b => releasePath s q b))
def execResume (q : Path) (s : State) : Host.Outcome State Fault Refusal := finish s (takeLcm s q 0x10 anyBody (fun s b => resume s q b))
def execActHoldClr (r : Requester) (q : Path) (s : State) : Host.Outcome State Fault Refusal :=
  finish s (onWriteP0 s r (R.ACT_HOLD (qn q)) (fun s => lineSettle (actRelease s q)))
def execLcmFragmentTimeout (q : Path) (s : State) : Host.Outcome State Fault Refusal := finish s (fragDrop s q)
def execTo3Expire (q : Path) (s : State) : Host.Outcome State Fault Refusal := finish s (to3Expire s q)
def execTo6Expire (q : Path) (s : State) : Host.Outcome State Fault Refusal := finish s (to6Expire s q)
def execHomeFallback (q : Path) (s : State) : Host.Outcome State Fault Refusal := finish s (homeFallback s q)
def execSkewReport (s : State) : Host.Outcome State Fault Refusal := finish s (skewReport (skewReport s .a) .b)

end Sys2Proof.Machine
end

