-- ==== Sys2Proof/Machine/Mch.lean ====
section
/-!
DEFINITION. The line management channel (R132 to R138): blocks into messages, messages to the sink, upstream messages into the
transmit buffer and out in MGT_UP slots (R185).
-/
namespace Sys2Proof.Machine
open Sys2Proof

def modMch (s : State) (f : Mch → Mch) : State := { s with mch := f s.mch }

/-- Bytes in 16-byte units. -/
def in16 (n : Nat) : Nat := (n + 15) / 16

def rxBytes (s : State) : Nat := s.mch.rxBuf.foldl (fun a m => a + m.2.length) 0
def txBytes (s : State) : Nat := s.mch.txBuf.foldl (fun a m => a + m.length) 0 - s.mch.txSent

/-- Show the buffer levels. -/
def showMch (s : State) : State :=
  put (put s F.MCH_STATUS_rx_level (in16 (rxBytes s))) F.MCH_STATUS_tx_level (sat 4095 (in16 (txBytes s)))

/-- The path that path_sel selects (R133). -/
def mchPath (s : State) : Option Path := match get s F.MCH_CTRL_path_sel with
  | 0 => leadPath s
  | 1 => some .a
  | 2 => some .b
  | _ => none

/-! ### Framing of the UART (R135) -/

/-- Byte stuffing. -/
def stuff (bs : List Byte) : List Byte :=
  bs.flatMap (fun b => if b = 0x7E ∨ b = 0x7D then [0x7D, b ^^^ 0x20] else [b])

/-- A message as MGT_UART0 sends it. -/
def uartFrame (msg : List Byte) : List Byte := [0x7E] ++ stuff (msg ++ leBytes 4 (crc32c msg)) ++ [0x7E]

/-- Byte unstuffing; `none` where 0x7D stands before a flag. -/
def unstuff (bs : List Byte) : Option (List Byte) :=
  match bs with
  | [] => some []
  | b :: rest =>
    if b = 0x7D then (match rest with
      | [] => none
      | c :: rest => if c = 0x7E then none else (unstuff rest).map (fun l => (c ^^^ 0x20) :: l))
    else (unstuff rest).map (fun l => b :: l)

/-- The message of a received frame, between its flags. -/
def uartMessage (bs : List Byte) : Option (List Byte) :=
  let inner := bs.filter (fun b => decide (b ≠ 0x7E))
  let bad := decide (inner.getLast? = some 0x7D)
  match unstuff inner with
  | none => none
  | some l =>
    let n := l.length - 4
    if bad || decide (l.length < 5) || decide (4096 < n) || decide (le l n 4 ≠ crc32c (l.take n)) then none else some (l.take n)

/-! ### Receive (R133, R134) -/

/-- Core ticks that MGT_UART0 takes for `n` bytes: ten bits each at 100 MHz ÷ div. -/
def uartTicks (s : State) (n : Nat) : Nat := 150 * max 8 (get s F.MCH_UART_div) * n

/-- A message that MCH discards for buffer or sink (R134). -/
def mchRxDrop (s : State) : State := raiseGrey (inc s F.MCH_RX_DROP_count) F.MCH_EVENT_rx_drop

/-- The first message leaves the receive buffer. -/
def mchPop (s : State) : State := showMch (modMch s (fun m => { m with rxBuf := m.rxBuf.drop 1, uartAt := none }))

/-- The sink of a buffered message: the one a commit found it under, else the one selected now (R134, R138). [DESIGN CHOICE: log 77] -/
def sinkOf (s : State) (m : Option Nat × List Byte) : Nat := m.1.getD (get s F.MCH_CTRL_sink)

/-- Serve the sink (R134): `posts` are the receive descriptors that HIF reads next. [DESIGN CHOICE: log 77] -/
def mchServe (s : State) (posts : List RxPost) (fuel : Nat) : State :=
  match fuel with
  | 0 => s
  | fuel + 1 => match s.mch.rxBuf with
    | [] => s
    | m :: _ =>
      let sink := sinkOf s m
      let t := get s F.MCH_CTRL_ring
      if s.mch.uartAt.isSome then s
      else if sink = 0 then mchServe (mchPop (mchRxDrop s)) posts fuel
      else if sink = 1 then modMch s (fun x => { x with uartAt := some (s.clk.ticks + uartTicks s (uartFrame m.2).length) })
      else if sink = 2 then s
      else if rxDrains s t then mchServe (mchPop (hifDiscard s 0x7B)) posts fuel
      else if rxReady s t then (match posts with
        | [] => s
        | p :: ps => mchServe (mchPop (inc (rxMessage s t m.2 p) F.MCH_RX_MSG_count)) ps fuel)
      else s

/-- MGT_UART0 has sent the message it was sending. -/
def uartDone (s : State) : State :=
  match s.mch.uartAt, s.mch.rxBuf with
  | some t, m :: _ =>
    if t ≤ s.clk.ticks then
      let s := mchPop (inc (emit s (.uart0 (uartFrame m.2))) F.MCH_RX_MSG_count)
      mchServe s [] (s.mch.rxBuf.length + 1)
    else s
  | _, _ => s

/-- A complete message (R134). -/
def mchMessage (s : State) (msg : List Byte) (posts : List RxPost) : State :=
  let began := s.mch.rxSink
  if began = 0 ∨ 2 ^ 18 < rxBytes s + msg.length then mchRxDrop s
  else
    let cap := if began = get s F.MCH_CTRL_sink then none else some began
    let s := showMch (modMch s (fun m => { m with rxBuf := m.rxBuf ++ [(cap, msg)] }))
    mchServe s posts (s.mch.rxBuf.length + 1)

/-- The message in progress is discarded (R133). -/
def mchBad (s : State) : State :=
  if s.mch.rxOpen.isSome then
    raiseGrey (inc (modMch s (fun m => { m with rxOpen := none })) F.MCH_RX_BAD_count) F.MCH_EVENT_rx_bad
  else s

/-- The path in use takes the selected one at a first block (R133). -/
def mchTakePath (s : State) (q : Path) : State :=
  if get s F.MCH_STATUS_path = 1 + qn q then s
  else
    let old := get s F.MCH_STATUS_path
    let s := put s F.MCH_STATUS_path (1 + qn q)
    if old = 0 then s else raiseGrey s F.MCH_EVENT_path_change

/-- A commit has selected another path while a message is in progress: the message finishes under the old path, and no message begins
before it has (R138). [DESIGN CHOICE: log 77] -/
def finishing (s : State) : Bool := s.mch.rxOpen.isSome && decide (s.mch.rxSel ≠ get s F.MCH_CTRL_path_sel)

/-- A management block of path `q`'s home channel, `none` where its codeword is lost (R132, R133). [DESIGN CHOICE: log 216] -/
def mgtBlock (s : State) (q : Path) (b : Option (List Byte)) (posts : List RxPost) : State :=
  let inUse := decide (get s F.MCH_STATUS_path = 1 + qn q)
  match b with
  | none => if inUse then mchBad s else s
  | some b =>
    if beNat (b.drop 637) ≠ crc32c (b.take 637) then (if inUse then mchBad s else s)
    else if be b 0 2 = 0xFFFF ∨ be b 0 2 ≠ tidOf s q ∨ tidOf s q = 0 then s
    else
      let h := be b 2 3
      let first := bit h 23
      let last := bit h 22
      let seq := bits h 16 6
      let data := (b.drop 5).take (bits h 6 10)
      if first then
        let s := if inUse then mchBad s else s
        if mchPath s ≠ some q ∨ finishing s then s
        else
          let s := mchBad (mchTakePath s q)
          let s := modMch s (fun m => { m with rxSink := get s F.MCH_CTRL_sink, rxSel := get s F.MCH_CTRL_path_sel })
          if last then mchMessage s data posts else modMch s (fun m => { m with rxOpen := some (seq, data) })
      else if !inUse then s
      else match s.mch.rxOpen with
        | none => s
        | some (k, got) =>
          let got := got ++ data
          if seq ≠ (k + 1) % 64 ∨ 4096 < got.length then mchBad s
          else if last then mchMessage (modMch s (fun m => { m with rxOpen := none })) got posts
          else modMch s (fun m => { m with rxOpen := some (seq, got) })

/-! ### Transmit (R135 to R137, R185) -/

/-- Discard an upstream message. -/
def mchTxDrop (s : State) : State := raiseGrey (inc s F.MCH_TX_DROP_count) F.MCH_EVENT_tx_drop

/-- An upstream message enters the transmit buffer, or is discarded (R137). [DESIGN CHOICE: log 217] -/
def mchEnqueue (s : State) (msg : List Byte) : State :=
  if msg.isEmpty ∨ 4096 < msg.length ∨ 65536 < txBytes s + msg.length then mchTxDrop s
  else showMch (modMch s (fun m => { m with txBuf := m.txBuf ++ [msg] }))

/-- The body of the next MGT_UP slot on path `q`, if one goes there (R185). -/
def mchSlot (s : State) (q : Path) : Option (State × List Byte) :=
  match s.mch.txBuf with
  | [] => none
  | msg :: rest =>
    let path := match s.mch.txPath with
      | some p => some p
      | none => mchPath s
    if path ≠ some q then none
    else
      let sent := s.mch.txSent
      let seq := match q with
        | .a => s.mch.txSeqA
        | .b => s.mch.txSeqB
      let data := (msg.drop sent).take 55
      let last := decide (msg.length ≤ sent + 55)
      let ctl := 128 * b2n (decide (sent = 0)) + 64 * b2n last + seq
      let s := modMch s (fun m => match q with
        | .a => { m with txSeqA := (seq + 1) % 64 }
        | .b => { m with txSeqB := (seq + 1) % 64 })
      let s := if last then inc (modMch s (fun m => { m with txBuf := rest, txSent := 0, txPath := none })) F.MCH_TX_MSG_count
        else modMch s (fun m => { m with txSent := sent + 55, txPath := some q })
      some (showMch s, beBytes 1 ctl ++ data)

/-- Whether transmit ring `t` is the one whose descriptors are upstream management messages (R137): the ring that MCH_CTRL.ring
numbers, with the host-ring sink selected. [DESIGN CHOICE: log 77] -/
def mgtRing (s : State) (t : Nat) : Bool := decide (get s F.MCH_CTRL_sink = 3) && decide (get s F.MCH_CTRL_ring = t)

/-- A descriptor of that ring (R137, R397): an upstream message, written back as its bytes enter the buffer or are discarded.
[DESIGN CHOICE: log 77] -/
def mgtDescriptor (s : State) (t : Nat) (d : TxDesc) : State :=
  let (s, ref) := takeDescriptor s t
  if d.len = 0 ∨ 16384 < d.len then txRefused s ref 0x79
  else if d.bad then txRefused s ref 0x7A
  else writeBack (mchEnqueue s (d.bytes.take d.len ++ List.replicate (d.len - d.bytes.length) 0)) ref 0 0 false false false

/-! ### Commands -/

/-- TX_DESCRIPTOR (R137, R396 to R398). -/
def execTxDescriptor (t : Fin 64) (d : TxDesc) (s : State) : Host.Outcome State Fault Refusal :=
  finish s (if !txReady s t.val then s else if mgtRing s t.val then mgtDescriptor s t.val d else txDescriptor s t.val d)

/-- The SPI target's next message (R136); not one that MGT_UART0 is sending, which finishes there (R138). -/
def spiHead (s : State) : List Byte := match s.mch.rxBuf with
  | [] => []
  | m :: _ => if s.mch.uartAt.isNone ∧ sinkOf s m = 2 then m.2 else []

/-- MCH_UART_FRAME_RX (R135). -/
def execMchUartFrameRx (bytes : List Byte) (s : State) : Host.Outcome State Fault Refusal :=
  finish s (if get s F.MCH_CTRL_sink ≠ 1 then s
    else match uartMessage bytes with
      | none => mchTxDrop s
      | some m => mchEnqueue s m)

/-- SPI_STATUS (R136). -/
def execSpiStatus (s : State) : Host.Outcome State Fault Refusal :=
  finish s (emit s (.spi (beBytes 2 (spiHead s).length ++ beBytes 2 ((65536 - txBytes s) / 16))))

/-- SPI_READ (R134, R136). -/
def execSpiRead (s : State) : Host.Outcome State Fault Refusal :=
  let m := spiHead s
  let t := emit s (.spi (beBytes 2 m.length ++ m))
  finish s (if m.isEmpty then t
    else
      let t := mchPop (inc t F.MCH_RX_MSG_count)
      mchServe t [] (t.mch.rxBuf.length + 1))

/-- SPI_WRITE (R136, R137). -/
def execSpiWrite (msg : List Byte) (s : State) : Host.Outcome State Fault Refusal :=
  finish s (if get s F.MCH_CTRL_sink = 2 then mchEnqueue s msg else s)

end Sys2Proof.Machine
end

