-- ==== Sys2Proof/Machine/Lcy.lean ====
section
/-!
DEFINITION. The line cipher downstream (R233 to R247): the decision on each segment, derivations, engines and their retest,
rekeying, and the commands of the key store (R245, R246).
-/
namespace Sys2Proof.Machine
open Sys2Proof

/-! ### Engines (R234) -/

def engineFailed (s : State) (e : Nat) : Bool := getB s (F.LCY_ENG_STATUS_failed e)

/-- The two key streams of engine `e` differ on a segment of `sid` captured under configuration `c` (R234, R250). [DESIGN CHOICE: log 83] -/
def keyMismatch (s : State) (c : Cfg) (e : Nat) (q : Path) (sid : Nat) : State :=
  let s := raiseFor (inc s (F.LCY_ENG_MISMATCH_count e)) F.LCY_EVENT_mismatch .crimson 4 e (e + 256 * qn q + 4096 * sid)
  let n := Tab.getD s.lcy.secMismatch e 0 + 1
  let s := modLcy s (fun l => { l with secMismatch := Tab.set l.secMismatch e n })
  if n < max 1 (cfgGet c F.LCY_CTRL_mismatch_thr) ∨ engineFailed s e then s
  else
    let s := inc (putB s (F.LCY_ENG_STATUS_failed e) true) F.LCY_STATUS_failed
    lineSettle (contained (raiseFor s F.LCY_EVENT_engine_fail .crimson 4 e 0) 4 0x16 e)

/-- Bytes that wait in downstream engine `n`. -/
def engineBytes (s : State) (n : Nat) : Nat :=
  (s.lcy.waiting.filter (fun w => decide (w.seg.chan = n))).foldl (fun a w => a + segBytes w.seg) 0

/-- Show an engine's buffer. -/
def showEngine (s : State) (n : Nat) : State := put s (F.LCY_ENG_STATUS_level n) (in16 (engineBytes s n))

/-! ### Segments on their way (R235, R247) -/

/-- The place of a segment lost in DFR marks the contexts it belongs to (R120, R198): those of its channel and SID, or of its group and
SID; one whose header was lost, all those of its channel. [DESIGN CHOICE: log 213] -/
def markLost (s : State) (g : Seg) (code : Nat) : State :=
  match g.bseq with
  | some v => match downGroup s g.path g.chan g.fn with
    | none => s
    | some k => bndLost s k g v code
  | none => { s with dfr := { s.dfr with ctxs := s.dfr.ctxs.map (fun c =>
      if c.path = g.path ∧ c.idx = g.chan ∧ (g.sid = 0 ∨ c.sid = g.sid) ∧ c.mark = none then { c with mark := some code } else c) } }

/-- A segment leaves its engine. -/
def lcyPass (s : State) (g : Seg) : State :=
  match g.lost with
  | some code => markLost s g code
  | none =>
    let ids := [(4, 64 * qn g.path + g.chan)]
    let s := monOut s 4 0x16 ids (segBytes g)
    let s := if g.bseq.isSome then monIn s 4 0x14 ids (segBytes g) else s
    let (s, us) := bndSegment s g
    pthUnits s us

/-- A segment is decrypted and leaves (R234, R236, R247 rows 8 to 10). [DEDUCED: log 82] -/
def lcyOpen (s : State) (w : LcyWait) : State :=
  let g := w.seg
  if g.lost.isNone && engineFailed s g.chan then lcyDiscard s (chanIds g.path g.chan) 0x57
  else match w.opens with
  | none => lcyPass s g
  | some (_, key, iv) =>
    if w.mismatch then lcyDiscard (keyMismatch s (lineCfgAt s g.path g.fn) g.chan g.path g.sid) (chanIds g.path g.chan) 0x53
    else match Config.gcmOpen key iv g.hdr g.payload g.tag with
      | none => lcyDiscard s (chanIds g.path g.chan) 0x51
      | some pt => lcyPass s { g with payload := fit g.payload.length pt }

/-- Whether the merge has already released or holds a segment's value (R235). -/
def mergeHas (s : State) (g : Seg) : Bool :=
  match g.mseq, Tab.find s.bank.mergeOf g.sid with
  | some v, some k =>
    let x := mergeGroup s k
    let d := seqDist v (mergeRp s k)
    mergeSynced s k && ((decide (d < 0) && decide (-65536 ≤ d) && !wasSkipped x v) || x.held.any (fun h => decide (h.mseq = v)))
  | _, _ => false

/-- R247, rows 1 to 7: the code of a refused segment, or the key group whose context it captures, none for one that passes in
clear or unopened; the Bool says that it is bypassed. The binding is that of the segment's frame (R67, R250). [DEDUCED: log 82] -/
def lcyDecide (s : State) (g : Seg) : Except Nat (Option Nat × Bool) :=
  if engineFailed s g.chan then .error 0x57
  else
    let b := lineCfgAt s g.path g.fn
    let c := cryptOf b.bank g.sid
    if !g.enc then (if c.any (fun c => c.downReq) then .error 0x54 else .ok (none, false))
    else match c with
      | none => .error 0x55
      | some c =>
        if decide (cfgGet b F.LCY_CTRL_bypass = 1) && g.bseq.isNone && decide (g.frag = 0) && mergeHas s g then .ok (none, true)
        else if 262144 < engineBytes s g.chan + segBytes g then .error 0x56
        else match ctxRefuses s g.path false g.keyIdx c.group g.fn with
          | some code => .error code
          | none => .ok (some c.group, false)

/-- Ask for a derivation, or count a hit (R240, R241). -/
def lcyKey (s : State) (d : Derived) : State :=
  if s.lcy.cache.contains d then cachePut (inc s F.LCY_CACHE_HIT_count) d
  else if s.lcy.deriving_.contains d then s
  else inc (modLcy s (fun l => { l with deriving_ := l.deriving_ ++ [d] })) F.LCY_CACHE_MISS_count

/-- Segments whose key is ready leave their engines, each in its arrival order (R233). -/
def lcyRelease (s : State) (l : List LcyWait) (held : List Nat) : State :=
  match l with
  | [] => s
  | w :: rest =>
    let ready := match w.opens with
      | none => true
      | some o => s.lcy.cache.contains o.1 || engineFailed s w.seg.chan
    if held.contains w.seg.chan || !ready then lcyRelease s rest (w.seg.chan :: held)
    else
      let s := showEngine (modLcy s (fun l => { l with waiting := l.waiting.erase w })) w.seg.chan
      lcyRelease (lcyOpen s w) rest held

/-- A captured segment joins its engine and leaves when its turn and its key have come. -/
def lcyEnter (s : State) (w : LcyWait) : State :=
  let s := showEngine (modLcy s (fun l => { l with waiting := l.waiting ++ [w] })) w.seg.chan
  lcyRelease s s.lcy.waiting []

/-- LCY_SEGMENT: the oldest segment of a channel enters its engine (R247). [DEDUCED: log 82] -/
def lcySegment (s : State) (q : Path) (chan : Nat) (mismatch : Bool) : State :=
  match s.dfr.out.find? (fun g => decide (g.path = q) && decide (g.chan = chan)) with
  | none => s
  | some g =>
    let s := { s with dfr := { s.dfr with out := s.dfr.out.erase g } }
    if g.lost.isSome then lcyEnter s ⟨g, none, false⟩
    else
      let s := monIn s 4 0x16 [(4, 64 * qn q + chan)] (segBytes g)
      match lcyDecide s g with
      | .error code => lcyDiscard (if code = 0x52 then ctxRefused s q false g.keyIdx g.fn else s) (chanIds q chan) code
      | .ok (none, by_) => lcyEnter (if by_ then put s F.LCY_BYPASS_count (get s F.LCY_BYPASS_count + 1) else s) ⟨g, none, false⟩
      | .ok (some group, _) =>
        let d := derivedAt s q false g.keyIdx group g.fn
        let (key, fixed) := keyOf s d
        let iv := segIv fixed chan (g.fn - d.epoch) g.offset
        lcyEnter (lcyKey (ctxUse s q false g.keyIdx group g.fn) d) ⟨g, some (d, key, iv), mismatch⟩

/-- KEY_DERIVATION_DONE: the oldest derivation completes, unless every entry of the cache is pinned (R240, R241). -/
def derivationDone (s : State) : State :=
  match s.lcy.deriving_ with
  | [] => s
  | d :: rest =>
    let t := cachePut (modLcy s (fun l => { l with deriving_ := rest })) d
    if t.lcy.cache.contains d then lcyRelease t t.lcy.waiting [] else s

/-! ### Rekeying (R243, R244) -/

/-- A REKEY body names a direction and a key index. -/
def rekeyBody (b : List Byte) : Bool := decide (be b 0 1 ≤ 1) && decide (be b 1 1 ≤ 3)

/-- The message REKEY: an epoch accepted or refused, and REKEY_ACK (R244). [DEDUCED: log 84] -/
def rekey (s : State) (q : Path) (b : List Byte) : State :=
  let up := decide (be b 0 1 = 1)
  let i := be b 1 1
  let fn := be b 2 6
  let now := (pathTime s q).fn
  let refused := decide (fn < now + 2) || decide (now + 15625 < fn) || (up && decide (i = get s (F.LCY_TX_IDX_idx (qn q))))
  let ack := beBytes 1 (b2n up) ++ beBytes 1 i ++ beBytes 1 (b2n refused) ++ beBytes 6 fn
  let s := queueLcm s q .lcy 0xA4 ack
  if refused then raiseGrey s F.LCY_EVENT_rekey_refused
  else
    let s := put s (F.LCY_CTX_NEXT_fn (qn q) (dirNum up) i) fn
    let s := putB s (F.LCY_CTX_STATE_next_valid (qn q) (dirNum up) i) true
    raiseGrey (modLcy s (fun l => { l with reqFn := Tab.del l.reqFn (ctxKey q up i) })) F.LCY_EVENT_rekey

/-- REKEY_EPOCH_START: a pending epoch comes into use at epoch_fn:0 of the path's time; segments of earlier frames keep the previous
one, and upstream the sending index becomes this one (R244). [DEDUCED: log 84] -/
def epochStart (s : State) (q : Path) (up : Bool) (i : Nat) : State :=
  if getB s (F.LCY_CTX_STATE_next_valid (qn q) (dirNum up) i) then
    let fn := get s (F.LCY_CTX_NEXT_fn (qn q) (dirNum up) i)
    let s := reach s (1 + qn q) (5000 * fn)
    let old := if ctxValid s q up i then
        some (get s (F.LCY_CTX_EPOCH_fn (qn q) (dirNum up) i), getB s (F.LCY_CTX_STATE_exhausted (qn q) (dirNum up) i)) else none
    let s := ctxEpoch s q up i fn
    let s := modLcy s (fun l => { l with prevEpoch := Tab.put l.prevEpoch (ctxKey q up i) old })
    if up then put s (F.LCY_TX_IDX_idx (qn q)) i else s
  else s

/-- REKEY_REQ is repeated while its condition stands (R244). [DEDUCED: log 84] -/
def rekeyRepeat (s : State) (q : Path) (up : Bool) (i : Nat) : State :=
  match Tab.find s.lcy.reqFn (ctxKey q up i) with
  | none => s
  | some f => if f + 15625 ≤ (pathTime s q).fn then rekeyReq s q up i else s

/-! ### Engine test (R234) -/

/-- A requester starts the test of a failed engine (R234). [DESIGN CHOICE: log 83] -/
def engineRetest (r : Requester) (e : Nat) (s : State) : State :=
  onWrite s r (R.LCY_ENG_CTRL e) (fun s => putB s (F.LCY_ENG_STATUS_retest_busy e) true)

/-- The test ends: a pass brings the engine back, a failure leaves it out of use (R234). [DESIGN CHOICE: log 83] -/
def retestDone (s : State) (e : Nat) (pass : Bool) : State :=
  if getB s (F.LCY_ENG_STATUS_retest_busy e) then
    let s := putB s (F.LCY_ENG_STATUS_retest_busy e) false
    if pass ∧ engineFailed s e then
      lineSettle (put (putB s (F.LCY_ENG_STATUS_failed e) false) F.LCY_STATUS_failed (get s F.LCY_STATUS_failed - 1))
    else s
  else s

/-! ### Key store (R245, R246) -/

/-- KST_KEY as bytes: word 0 holds the highest bits. -/
def kstKey (s : State) : List Byte := (List.range 8).flatMap (fun w => beBytes 4 (get s (F.KST_KEY_bits w)))

/-- A KST command of a P0 requester joins the queue with KST_KEY as it stands, which is then cleared (R245). -/
def kstCommand (s : State) (write : Bool) : State :=
  let c : KstCmd := ⟨get s F.KST_SEL_slot, if write then some (kstKey s) else none, true⟩
  let s := kstServe (modLcy s (fun l => { l with cmds := l.cmds ++ [c] }))
  (List.range 8).foldl (fun s w => put s (F.KST_KEY_bits w) 0) s

/-- KEY_SLOT_DRAINED: the last segment that had captured slot `k`'s old key has left. -/
def keySlotDrained (s : State) (k : Nat) : State :=
  if slotIdle s k || (capturedKeys s).any (oldKey s k) then s else sendConfirm (sendConfirm (slotDrained s k) .a) .b

/-! ### Commands -/

def execLcySegment (q : Path) (chan : Fin 64) (mismatch : Bool) (s : State) : Host.Outcome State Fault Refusal :=
  finish s (lcySegment s q chan.val mismatch)
def execKeyDerivationDone (s : State) : Host.Outcome State Fault Refusal := finish s (derivationDone s)
def execEngineRetest (r : Requester) (e : Fin 128) (s : State) : Host.Outcome State Fault Refusal := finish s (engineRetest r e.val s)
def execRetestDone (e : Fin 128) (pass : Bool) (s : State) : Host.Outcome State Fault Refusal := finish s (retestDone s e.val pass)
def execRekey (q : Path) (s : State) : Host.Outcome State Fault Refusal := finish s (takeLcm s q 0x23 rekeyBody (fun s b => rekey s q b))
def execRekeyEpochStart (q : Path) (up : Bool) (i : Fin 4) (s : State) : Host.Outcome State Fault Refusal :=
  finish s (epochStart s q up i.val)
def execRekeyReqRepeat (q : Path) (up : Bool) (i : Fin 4) (s : State) : Host.Outcome State Fault Refusal :=
  finish s (rekeyRepeat s q up i.val)
def execKstWrite (r : Requester) (s : State) : Host.Outcome State Fault Refusal :=
  finish s (onWriteP0 s r R.KST_CMD (fun s => kstCommand s true))
def execKstErase (r : Requester) (s : State) : Host.Outcome State Fault Refusal :=
  finish s (onWriteP0 s r R.KST_CMD (fun s => kstCommand s false))
def execKeySlotDrained (slot : Fin 256) (s : State) : Host.Outcome State Fault Refusal := finish s (keySlotDrained s slot.val)

end Sys2Proof.Machine
end

