-- ==== Sys2Proof/Machine/Fill.lean ====
section
/-!
DEFINITION. The grant filler (R181 to R185): segments with their sequence fields and encryption, fragments, copies, resends and
retention, reports, and the burst built from a window and its continuations.
-/
namespace Sys2Proof.Machine
open Sys2Proof

/-! ### What the filling of a window knows -/

/-- A window as it is filled: path, channel, path frame, start codeword of the burst's first window, the bank of R68, guard and
preamble, launch; the window's AID index, region, protection mode, bonded group; the offset of its SID segments in the
information stream and how many bytes they may take; whether frames may be fragmented. -/
structure FillEnv where
  q : Path
  chan : Nat
  fn : Nat
  start : Nat
  cfg : Cfg
  guard : Nat
  plen : Nat
  alarm : Nat
  fine : Nat
  idx : Nat
  region : Nat
  mode : Nat
  group : Option Nat
  base : Nat
  room : Nat
  frag : Bool

/-- What has been placed: the state, the bytes of the allocation segment so far, its segments, and whether the next encryption
finds its two key streams different, and the keys that its segments have captured (R246). -/
structure Fill where
  st : State
  out : List Byte
  segs : List UpSeg
  mis : Bool
  keys : List Derived := []

/-- Change the state of a filling. [DEDUCED: log 68] -/
def Fill.on (x : Fill) (f : State → State) : Fill := { x with st := f x.st }

/-- Symbols of path time, from codeword 0, at which the codeword with information byte `o` of the burst leaves (R166, R175). -/
def symAt (e : FillEnv) (o : Nat) : Nat :=
  2720 * (e.alarm + e.guard) + e.fine / 16 + e.plen + 64 + 2720 * (8 * o / 5140)

/-- Path time now, in symbols. -/
def symNow (s : State) (q : Path) : Nat :=
  let t := pathTime s q
  2720 * cwCount t.fn t.cw + 2720 * t.sub / 96

/-- Raw time at which the codeword with information byte `o` leaves, in steps of 1/16 ns (R357). A symbol is 12.8 ns / 2,720. -/
def egressRaw (s : State) (e : FillEnv) (o : Nat) : Nat :=
  let x := rawTime s + (symAt e o - symNow s e.q) * 8388608 / 27200
  x / 4096 * 4096 % 2 ^ 64

/-! ### Encryption (R235 to R237, R248) -/

/-- Whether frames of a SID are encrypted upstream, in the bank of the window's frame (R67, R250). -/
def upEnc (c : Cfg) (sid : Nat) : Bool := (cryptOf c.bank sid).any (fun c => c.upEnc)

/-- The key group of a SID. -/
def keyGroupOf (c : Cfg) (sid : Nat) : Nat := match cryptOf c.bank sid with
  | some c => c.group
  | none => 0

/-- Why the context of a SID refuses its frames in this window (R248). -/
def upRefuses (s : State) (e : FillEnv) (sid : Nat) : Option Nat :=
  if upEnc e.cfg sid then ctxRefuses s e.q true (txIndexAt s e.q e.fn) (keyGroupOf e.cfg sid) e.fn else none

/-- Count a frame that its context refuses (R243, R248). -/
def upDiscard (s : State) (e : FillEnv) (code : Nat) : State :=
  lcyDiscard (if code = 0x52 then ctxRefused s e.q true (txIndexAt s e.q e.fn) e.fn else s) (chanIds e.q e.chan) code

/-- The time at which the engine would have encrypted `len` bytes more, and the one at which it would begin (R235). -/
def bookEnd (s : State) (e : FillEnv) (len : Nat) : Nat × Nat :=
  let b := max (320 * s.clk.ticks) (Tab.getD s.lcy.booked e.chan 0)
  (b, b + 5 * len)

/-- The time at which information byte `o` leaves, in the engine's units. [DEDUCED: log 67] -/
def leaveAt (s : State) (e : FillEnv) (o : Nat) : Nat := 320 * s.clk.ticks + (symAt e o - symNow s e.q) * 6144 / 2720

/-- How a segment meets the window: it goes in, it does not fit, or its encryption would come too late. -/
inductive FitResult where
  | ok | full | short
  deriving DecidableEq, Repr

/-- Bytes that a segment of this window takes beside its payload. -/
def segExtra (e : FillEnv) (enc : Bool) : Nat := 8 + 4 * b2n (decide (e.mode ≠ 0)) + 4 * b2n e.group.isSome + 16 * b2n enc

/-- Whether a segment with `len` payload bytes can be placed next (R181, R235). [DEDUCED: log 70] -/
def canPlace (e : FillEnv) (x : Fill) (enc : Bool) (len : Nat) : FitResult :=
  let need := segExtra e enc + len
  if e.room < x.out.length + need then .full
  else if enc then
    let o := e.base + x.out.length
    let (b, t) := bookEnd x.st e len
    if leaveAt x.st e o < b + 80 ∨ leaveAt x.st e (o + need - 1) < t then .short else .ok
  else .ok

/-- A frame waits because its encryption cannot be booked (R235). -/
def tooShort (s : State) (e : FillEnv) : State := inc s (F.LCY_ENG_SHORT_count (64 + e.chan))

/-- The header and sequence fields of a segment (R117). [DEDUCED: log 145] -/
def segHeader (g : UpSeg) (idx : Nat) : List Byte :=
  let v := beBytes 7 ((2 ^ 44 * g.sid + 2 ^ 30 * g.payload.length + 2 ^ 28 * g.frag + 2 ^ 27 * b2n g.enc +
    (if g.enc then 2 ^ 25 * idx else 0) + 2 ^ 24 * b2n g.mseq.isSome + 2 ^ 23 * b2n g.bseq.isSome) / 256)
  let seq := fun (v : Option Nat) => match v with
    | some k => beBytes 4 k
    | none => []
  v ++ beBytes 1 (crc8 v) ++ seq g.mseq ++ seq g.bseq

/-- Encrypt a segment whose header stands at byte `o` of the information stream (R236, R237, R240, R241). -/
def sealSeg (s : State) (e : FillEnv) (sid o : Nat) (hdr payload : List Byte) : State × List Byte × List Derived :=
  let i := txIndexAt s e.q e.fn
  let k := keyGroupOf e.cfg sid
  let d := derivedAt s e.q true i k e.fn
  let (key, fixed) := keyOf s d
  let iv := segIv fixed e.chan (e.fn - d.epoch) (643 * e.start + o)
  let (ct, tag) := Config.gcmSeal key iv hdr payload
  let s := inc s (if s.lcy.cache.contains d then F.LCY_CACHE_HIT_count else F.LCY_CACHE_MISS_count)
  let s := cachePut (ctxUse s e.q true i k e.fn) d
  let n := e.chan
  let (_, t) := bookEnd s e payload.length
  let s := modLcy s (fun l => { l with booked := Tab.set l.booked n t })
  let ids := [(4, 64 * qn e.q + n)]
  let s := monOut (monIn s 4 0x16 ids payload.length) 4 0x16 ids payload.length
  (s, fit payload.length ct ++ fit 16 tag, [d])

/-- A segment to be repeated at the head of the AID's next fill on the same path (R234). -/
def repeatLater (s : State) (e : FillEnv) (g : UpSeg) : State :=
  modAid s e.idx (fun x => match e.q with
    | .a => { x with repeatA := x.repeatA ++ [g] }
    | .b => { x with repeatB := x.repeatB ++ [g] })

/-- Place a segment whose bytes leave as `sent`: it takes its bonding value (R202), is encrypted, and on a key-stream mismatch
goes out as zeros (R234). -/
def placeSeg (e : FillEnv) (x : Fill) (g : UpSeg) (sent : List Byte) : Fill :=
  let (s, bseq) := match e.group with
    | none => (x.st, none)
    | some k =>
      (inc (inc x.st (F.BND_UG_NEXT_bseq (qn e.q) k)) (F.BND_UG_SEG_count (qn e.q) k), some (get x.st (F.BND_UG_NEXT_bseq (qn e.q) k)))
  let g := { g with bseq := bseq }
  let hdr := segHeader g (txIndexAt s e.q e.fn)
  let miss := g.enc && x.mis
  let (s, body, keys) := if g.enc then sealSeg s e g.sid (e.base + x.out.length) hdr sent else (s, sent, [])
  let body := if miss then List.replicate body.length 0 else body
  let s := if miss ∧ e.mode = 2 then repeatLater s e g else s
  let s := if miss then keyMismatch s e.cfg (64 + e.chan) e.q g.sid else s
  { st := s, out := x.out ++ hdr ++ body, segs := x.segs ++ [g], mis := x.mis && !g.enc, keys := (keys ++ x.keys).eraseDups }

/-- A segment's bytes as they leave on its own egress (R359): the correction field is where the frame's ingress found it. -/
def sentBytes (e : FillEnv) (x : Fill) (frag : Nat) (ing : Ingress) (payload : List Byte) : Fill × List Byte :=
  match ing.ptp with
  | none => (x, payload)
  | some o =>
    if frag ≤ 1 ∧ o + 16 ≤ payload.length then
      let (s, bs) := tcCorrect x.st ing (getB x.st F.TSU_CTRL_tc_line) (egressRaw x.st e (e.base + x.out.length)) payload
      ({ x with st := s }, bs)
    else (x, payload)

/-! ### Segments that have been filled before: repeats, copies, resends -/

/-- Whether the data of a retained segment lies below tier 0, so that it waits for its promotion (R27, R333). -/
def segLow (s : State) (g : UpSeg) : Bool := (bufOf s g.region g.handle).any (fun x => x.low.isSome)

/-- Serve given segments in order until one does not go in: those that are left, and whether `count` counts them as resent. A poisoned
retained segment is released without being sent (R338). -/
def serveSegs (e : FillEnv) (count : Bool) (x : Fill) (l : List UpSeg) : Fill × List UpSeg :=
  match l with
  | [] => (x, [])
  | g :: rest =>
    if e.mode = 2 ∧ isPoisoned x.st g.region g.handle then
      serveSegs e count (x.on (fun s => releaseRetained s e.idx (fun y => decide (y.mseq = g.mseq)))) rest
    else if e.mode = 2 ∧ segLow x.st g then (x, g :: rest)
    else match upRefuses x.st e g.sid with
    | some code =>
      serveSegs e count (x.on (fun s =>
        let s := upDiscard s e code
        if e.mode = 2 then releaseRetained s e.idx (fun y => decide (y.mseq = g.mseq)) else s)) rest
    | none =>
      let g := { g with enc := upEnc e.cfg g.sid }
      match canPlace e x g.enc g.payload.length with
      | .full => (x, g :: rest)
      | .short => (x.on (fun s => tooShort s e), g :: rest)
      | .ok =>
        let (x, sent) := sentBytes e x g.frag g.ing g.payload
        let x := placeSeg e x g sent
        serveSegs e count (if count then x.on (fun s => inc s (F.PTH_AID_RESENT_count e.idx)) else x) rest

/-- The repeats that wait on the path (R234). -/
def repeatsOf (s : State) (a : Nat) (q : Path) : List UpSeg := match q with
  | .a => (aidProt s a).repeatA
  | .b => (aidProt s a).repeatB
def setRepeats (s : State) (a : Nat) (q : Path) (l : List UpSeg) : State :=
  modAid s a (fun x => match q with
    | .a => { x with repeatA := l }
    | .b => { x with repeatB := l })

/-- Serve the repeats; `true` where all have gone. A repeat whose segment has been acknowledged meanwhile is not sent. -/
def serveRepeats (e : FillEnv) (x : Fill) : Fill × Bool :=
  let l := (repeatsOf x.st e.idx e.q).filter (fun g => (aidProt x.st e.idx).retained.any (fun y => decide (y.mseq = g.mseq)))
  let (x, rest) := serveSegs e false (x.on (fun s => setRepeats s e.idx e.q [])) l
  (x.on (fun s => setRepeats s e.idx e.q (rest ++ repeatsOf s e.idx e.q)), rest.isEmpty)

/-- Serve the path's copy queue, in mseq order, without the copies older than ret_win; `true` where all have gone (R220). -/
def serveCopies (e : FillEnv) (x : Fill) : Fill × Bool :=
  let s := dropCopies x.st e.idx e.q (tooOld x.st)
  let (x, rest) := serveSegs e false { x with st := setCopies s e.idx e.q [] } (copiesOf s e.idx e.q)
  (x.on (fun s => setCopies s e.idx e.q rest), rest.isEmpty)

/-- Serve what is still to be resent of the retention list, in its order (R226); `true` where it has been drained. -/
def serveResend (e : FillEnv) (x : Fill) : Fill × Bool :=
  let (x, rest) := serveSegs e true x ((aidProt x.st e.idx).retained.filter (fun g => g.again))
  (x.on (fun s => showAid (modAid s e.idx (fun y => { y with retained := y.retained.map (fun g =>
    { g with again := g.again && rest.any (fun h => decide (h.mseq = g.mseq)) }) })) e.idx), rest.isEmpty)

/-! ### New frames -/

/-- A filled segment is protected: a copy for the other path (R220), or retained by reference (R221); one whose reference would be the
256th is not retained (R324). [DEDUCED: log 81] -/
def protect (s : State) (e : FillEnv) (g : UpSeg) : State :=
  if e.mode = 1 then
    let s := expireCopies s
    let o := otherPath e.q
    if actState s o ≠ 4 ∨ 2 ^ 20 * get s F.PTH_TIMERS_dl_pool < copyBytes s + g.payload.length then dlDrop s e.idx 1
    else setCopies s e.idx o (copiesOf s e.idx o ++ [g])
  else if e.mode = 2 then
    match takeRet s g.region g.handle with
    | some s => showAid (modAid s e.idx (fun x => { x with retained := x.retained ++ [g] })) e.idx
    | none => raiseGrey s (F.BPM_EVENT_ref_limit g.region)
  else s

/-- Place a segment of frame `f` filled for the first time: it takes its merge value (R219). `payload` is what is kept of it,
`sent` what leaves. [DEDUCED: log 70] -/
def placeNew (e : FillEnv) (x : Fill) (f : QFrame) (sid frag : Nat) (payload sent : List Byte) : Fill :=
  let m := if e.mode = 0 then none else some (get x.st (F.PTH_AID_NEXT_mseq e.idx))
  let g : UpSeg := { aid := e.idx, sid := sid, frag := frag, mseq := m, bseq := none, enc := upEnc e.cfg sid, payload := payload,
                     region := e.region, handle := f.bid, at_ := x.st.clk.ticks, ing := f.ing }
  let x := if e.mode = 0 then x else x.on (fun s => inc s (F.PTH_AID_NEXT_mseq e.idx))
  let x := x.on (fun s => monCount s 4 0x13 3 ((3, e.idx) :: chanIds e.q e.chan) payload.length)
  let x := if e.mode = 0 then x else x.on (fun s => monOut (monIn s 4 0x15 [(3, e.idx)] payload.length) 4 0x15 [(3, e.idx)] payload.length)
  let x := if e.group.isNone then x else
    x.on (fun s => monOut (monIn s 4 0x14 ((3, e.idx) :: chanIds e.q e.chan) payload.length) 4 0x14 ((3, e.idx) :: chanIds e.q e.chan) payload.length)
  let x := placeSeg e x g sent
  x.on (fun s => protect s e (x.segs.getLast?.getD g))

/-- A frame's first bytes leave by the line: its timestamp record and write-back (R358, R360). -/
def frameLeaves (e : FillEnv) (x : Fill) (f : QFrame) (bs : List Byte) : Fill :=
  let raw := egressRaw x.st e (e.base + x.out.length)
  x.on (fun s =>
    let s := if f.ts && !f.copy then tsqPush s e.region f.ing 1 (laneOf e.q e.chan) 0 raw f.meta_ f.q bs else s
    fate s f.tx 0 (some (descTime s raw)))

/-- Payload bytes of a fragment that would end the window (R182), 0 where fewer than 64 fit or it may not be made. [DEDUCED: log 172] -/
def fragLen (e : FillEnv) (x : Fill) (enc : Bool) : Nat :=
  let k := min 16383 (e.room - x.out.length - segExtra e enc)
  if e.frag ∧ 64 ≤ k ∧ canPlace e x enc k = .ok then k else 0

/-- Keep a fragment remainder (R182). -/
def addRest (s : State) (r : Remainder) : State := { s with upb := { s.upb with rests := s.upb.rests ++ [r] } }
def dropRest (s : State) (r : Remainder) : State := { s with upb := { s.upb with rests := s.upb.rests.erase r } }

/-- A remainder is discarded because no window came in time (R182). [DEDUCED: log 172] -/
def abandonRest (s : State) (r : Remainder) : State :=
  let s := relEntry (dropRest s r) r.region r.frame
  greyOf (inc s (F.UPB_P_FRAG_ABANDON_count (qn (lanePath r.lane)))) F.UPB_EVENT_frag_abandon [(3, r.idx), (4, r.lane)]

/-- A remainder whose buffer is poisoned is dropped (R338). -/
def poisonRest (s : State) (r : Remainder) : State :=
  greyOf (bpmDrop (relEntry (dropRest s r) r.region r.frame) r.region r.frame.q 0x41) (F.BPM_EVENT_poison r.region) [(2, r.frame.q)]

/-- Serve the AID's remainders (R182, R203): the queues that may not be served in this window, and whether a fragment has ended
it. -/
def serveRests (e : FillEnv) (x : Fill) (l : List Remainder) : Fill × List Nat × Bool :=
  match l with
  | [] => (x, [], false)
  | r :: rest =>
    let q := r.frame.q
    if r.lane ≠ laneOf e.q e.chan ∧ (e.group.isNone ∨ lanePath r.lane ≠ e.q) then
      let (x, b, ended) := serveRests e x rest
      (x, q :: b, ended)
    else if r.fn + get x.st F.UPB_CTRL_frag_to < e.fn then serveRests e (x.on (fun s => abandonRest s r)) rest
    else if isPoisoned x.st r.region r.frame.bid then serveRests e (x.on (fun s => poisonRest s r)) rest
    else
      let sid := Tab.getD e.cfg.bank.qbind (16384 * e.region + q) r.frame.sid
      let enc := upEnc e.cfg sid
      match upRefuses x.st e sid with
      | some code => serveRests e (x.on (fun s => relEntry (upDiscard (dropRest s r) e code) r.region r.frame)) rest
      | none =>
        match canPlace e x enc r.rest.length with
        | .ok =>
          let x := placeNew e (x.on (fun s => dropRest s r)) r.frame sid 3 r.rest r.rest
          serveRests e (x.on (fun s => relEntry s r.region r.frame)) rest
        | .short =>
          let (x, b, ended) := serveRests e (x.on (fun s => tooShort s e)) rest
          (x, q :: b, ended)
        | .full =>
          let k := fragLen e x enc
          if k = 0 then
            let (x, b, ended) := serveRests e x rest
            (x, q :: b, ended)
          else
            let r' := { r with lane := laneOf e.q e.chan, rest := r.rest.drop k, fn := e.fn }
            (placeNew e (x.on (fun s => addRest (dropRest s r) r')) r.frame sid 2 (r.rest.take k) (r.rest.take k), [q], true)

/-- Serve the AID's scheduler subtree until the window is full or no eligible frame remains (R27, R181, R182, R248). [DEDUCED: log 70] -/
def serveQueues (e : FillEnv) (m : Nat) (root : SNode) (x : Fill) (blocked : List Nat) (fuel : Nat) : Fill :=
  match fuel with
  | 0 => x
  | fuel + 1 =>
    let env : PickEnv := ⟨e.region, root, blocked, false⟩
    match pickRoot x.st env m with
    | none => x
    | some c => match (queueOf x.st e.region c.q).head?, Tab.find e.cfg.bank.qbind (16384 * e.region + c.q) with
      | some f, some sid =>
        let taken := x.on (fun s => (takeFrame s env c).1)
        let bs := (bufBytes x.st e.region f.bid).take f.len
        if isPoisoned x.st e.region f.bid then
          serveQueues e m root (taken.on (fun s => poisonDrop s e.region f)) blocked fuel
        else match upRefuses x.st e sid with
          | some code =>
            serveQueues e m root (taken.on (fun s =>
              frameLost (upDiscard (relEntry s e.region f) e code) e.region f.ing (f.ts && !f.copy) f.tx f.meta_ f.q code bs)) blocked fuel
          | none =>
            let enc := upEnc e.cfg sid
            match canPlace e x enc bs.length with
            | .ok =>
              let y := frameLeaves e taken f bs
              let (y, sent) := sentBytes e y 0 f.ing bs
              let y := placeNew e y f sid 0 bs sent
              serveQueues e m root (y.on (fun s => relEntry s e.region f)) blocked fuel
            | .short => serveQueues e m root (x.on (fun s => tooShort s e)) (c.q :: blocked) fuel
            | .full =>
              let k := fragLen e x enc
              if k = 0 then serveQueues e m root x (c.q :: blocked) fuel
              else
                let y := frameLeaves e taken f bs
                let (y, sent) := sentBytes e y 0 f.ing bs
                let r : Remainder := { idx := e.idx, lane := laneOf e.q e.chan, region := e.region, frame := f, rest := sent.drop k, fn := e.fn }
                placeNew e (y.on (fun s => addRest s r)) f sid 1 (bs.take k) (sent.take k)
      | _, _ => serveQueues e m root x (c.q :: blocked) fuel

/-- The STREAMS and SCHEDTREE of bank `c` in place of the active ones (R68). -/
def useStreams (s : State) (c : Cfg) : State :=
  { s with bank := { s.bank with
      roots := c.bank.roots, sids := c.bank.sids, qbind := c.bank.qbind, nodes := c.bank.nodes, queues := c.bank.queues } }

/-- The new frames of a window: remainders, then the subtree of the AID's root. [DEDUCED: log 70] -/
def serveNew (e : FillEnv) (x : Fill) : Fill :=
  let keep := activeCfg x.st
  let x := x.on (fun s => useStreams s e.cfg)
  let (x, blocked, ended) := serveRests e x (x.st.upb.rests.filter (fun r => decide (r.idx = e.idx)))
  let m := aidRoot e.cfg e.idx
  let x := if ended then x
    else match snode x.st e.region m with
      | none => x
      | some root =>
        let fuel := (pkt x.st e.region).tmg.queues.foldl (fun k v => k + v.2.length + 1) 1
        serveQueues e m root x blocked fuel
  x.on (fun s => useStreams s keep)

/-- The order of R220, R226 and R234: repeats, then copies or resends, and new frames once those have gone. -/
def serveAid (e : FillEnv) (x : Fill) : Fill :=
  let (x, done) := serveRepeats e x
  if !done then x
  else
    let (x, done) := if e.mode = 1 then serveCopies e x else if e.mode = 2 then serveResend e x else (x, true)
    if done then serveNew e x else x

/-! ### Reports (R172, R178 to R180) -/

/-- The encoding of an occupancy of `x` bytes with exponents from `e` on (R178). [DEDUCED: log 69] -/
def repFrom (x e fuel : Nat) : Nat :=
  let u := 64 * 2 ^ e
  let m := (x + u - 1) / u
  match fuel with
  | 0 => 2048 * e + min m 2047
  | fuel + 1 => if m ≤ 2047 then 2048 * e + m else repFrom x (e + 1) fuel
/-- The coding of an occupancy in a report (R178). [DEDUCED: log 69] -/
def encodeRep (x : Nat) : Nat := repFrom x 0 30

/-- The upstream bonded group of an AID on a path (R202, R206). -/
def aidGroup (c : Cfg) (q : Path) (a : Nat) : Option Nat := match q with
  | .a => if cfgGet c (F.BND_AID_GROUP_valid_a a) = 1 then some (cfgGet c (F.BND_AID_GROUP_group_a a)) else none
  | .b => if cfgGet c (F.BND_AID_GROUP_valid_b a) = 1 then some (cfgGet c (F.BND_AID_GROUP_group_b a)) else none

/-- The occupancy of AID `a` in bytes (R179, R226), `group` saying whether its segments carry a bonding sequence. -/
def occupancy (s : State) (c : Cfg) (a : Nat) (group : Bool) : Nat :=
  let n := cfgGet c (F.UPB_AID_CFG_region a)
  let m := aidRoot c a
  let t := useStreams s c
  let seq := 8 + 4 * b2n (decide (cfgGet c (F.PTH_AID_MODE_mode a) ≠ 0)) + 4 * b2n group
  let per := fun (q : Nat) => seq + 16 * b2n (upEnc c (Tab.getD c.bank.qbind (16384 * n + q) 0))
  let queued := (pkt s n).tmg.queues.foldl (fun k e =>
    if (aboveQueue t n e.1).contains m then e.2.foldl (fun k f => k + per e.1 + f.len) k else k) 0
  let rests := (s.upb.rests.filter (fun r => decide (r.idx = a))).foldl (fun k r => k + per r.frame.q + r.rest.length) 0
  let x := aidProt s a
  let again := x.retained.filter (fun g => g.again)
  (again ++ x.repeatA ++ x.repeatB).foldl (fun k g => k + segSize g) (queued + rests)

/-- Whether the region is quiesced, in reset or OFF, so that the report is unknown (R178). -/
def reportUnknown (s : State) (n : Nat) : Bool :=
  let f := Tab.getD s.flt.regions n {}
  regionIsOff s n || bit s.epc.quiesced.regions n || decide (f.step ≠ 0) || f.held

/-- The report of AID `a` on a path (R178). [DEDUCED: log 69] -/
def reportOf (s : State) (c : Cfg) (q : Path) (a : Nat) : Nat :=
  if reportUnknown s (cfgGet c (F.UPB_AID_CFG_region a)) then 0xFFFF
  else encodeRep (occupancy s c a (aidGroup c q a).isSome)

/-- The tint bit of a region's AIDs (R172, R189, R328). -/
def tintOf (s : State) (n : Nat) : Bool := decide (1 + get s F.UPB_CTRL_tint_src ≤ get s (F.BPM_STATUS_region_lvl n))

/-- The AID indices of the next report block on a path (R180). -/
def reportAids (s : State) (c : Cfg) (q : Path) : List Nat :=
  let last := match q with
    | .a => s.upb.repA
    | .b => s.upb.repB
  let bound := (List.range 512).filter (fun a =>
    decide (cfgGet c (F.UPB_AID_CFG_valid a) = 1) && bit (cfgGet c (F.UPB_AID_CFG_paths a)) (qn q))
  (bound.filter (fun a => decide (last < a)) ++ bound.filter (fun a => decide (a ≤ last))).take 32

/-- The report block of a burst on a path (R171, R180), and the AIDs it names with their reports. -/
def reportBlock (s : State) (c : Cfg) (q : Path) : State × List Byte × List (Nat × Nat × Option Bool) :=
  let l := reportAids s c q
  let reps := l.map (fun a => (a, reportOf s c q a, (none : Option Bool)))
  let bytes := reps.flatMap (fun r => beBytes 2 (cfgGet c (F.UPB_AID_CFG_aid r.1)) ++ beBytes 2 r.2.1)
  let s := match l.getLast? with
    | none => s
    | some a => { s with upb := (match q with
        | .a => { s.upb with repA := a }
        | .b => { s.upb with repB := a }) }
  (s, fit 128 bytes, reps)

/-! ### Upstream LCM slots (R147, R185, R200, R223, R244) -/

def lcmRank (c : LcmClass) : Nat := match c with
  | .act => 0
  | .pth => 1
  | .lcy => 2
  | .bnd => 3

/-- The next message of the line blocks on a path; the messages of BND wait for T4 (R200). -/
def nextLcm (s : State) (q : Path) : Option UpLcm :=
  let l := (act s q).upq.filter (fun m => decide (m.cls ≠ .bnd) || decide (actState s q = 4))
  [0, 1, 2, 3].foldl (fun r k => match r with
    | some m => some m
    | none => l.find? (fun m => decide (lcmRank m.cls = k))) none

/-- One slot of an LCM block, and how many ACT messages it holds. -/
def takeSlot (s : State) (q : Path) : State × List Byte × Nat :=
  match nextLcm s q with
  | some m => (modAct s q (fun a => { a with upq := a.upq.erase m }), upSlot s q m.typ m.body, b2n (decide (m.cls = .act)))
  | none => match mchSlot s q with
    | some (s, body) => (s, upSlot s q 0xA1 body, 0)
    | none => (s, emptySlot, 0)

/-- The LCM block of a burst (R171). -/
def lcmBlock (s : State) (q : Path) : State × List Byte × Nat :=
  let (s, x, a) := takeSlot s q
  let (s, y, b) := takeSlot s q
  (s, x ++ y, a + b)

/-! ### A burst from its windows (R165 to R173, R176, R183, R184) -/

/-- Whether a window of AID index `a` can carry frames now, with what is counted where it cannot (R183, R184, R203, R221, R226,
R234). -/
def servable (s : State) (c : Cfg) (q : Path) (chan a : Nat) : State × Bool :=
  let n := cfgGet c (F.UPB_AID_CFG_region a)
  let mode := cfgGet c (F.PTH_AID_MODE_mode a)
  let standby := decide (mode ≠ 1) && decide (workingPath s ≠ some q)
  let s := if standby ∧ mode = 2 ∧ (workingPath s).isSome then inc s F.PTH_STBY_WIN_count else s
  let (s, member) := match aidGroup c q a with
    | none => (s, true)
    | some k =>
      if bit (cfgGet c (F.BND_UG_MEMBERS_members (qn q) k)) chan then (inc s (F.BND_UG_WIN_count (qn q) k), true)
      else (greyOf (inc s (F.BND_UG_NONMEMBER_count (qn q) k)) F.BND_EVENT_nonmember ((3, a) :: chanIds q chan), false)
  let s := if regionAsleep s n then greyOf s F.UPB_EVENT_wake_miss ((3, a) :: chanIds q chan) else s
  (s, !standby && member && !regionOff s n && !engineFailed s (64 + chan))

/-- Count read-ahead that has not come in time (R333). [DEDUCED: log 72] -/
def readAheadLate (s : State) (n lane start : Nat) : State :=
  let late := (pkt s n).bpm.want.filter (fun w => decide (w.1 = lane) && decide (w.2.1 = start))
  if late.isEmpty then s
  else
    modBpm (raiseGrey (addTo s (F.BPM_RA_LATE_count n) late.length) (F.BPM_EVENT_ra_late n)) n (fun b =>
      { b with want := b.want.filter (fun w => !(decide (w.1 = lane) && decide (w.2.1 = start))) })

/-- The allocation segment of window `w` of AID index `a` in `size` bytes at byte `off` of the information stream. [DEDUCED: log 145] -/
def fillAlloc (e : FillEnv) (x : Fill) (w : Window) (a off size : Nat) : Fill × List Byte × Nat × Bool :=
  let c := e.cfg
  let n := cfgGet c (F.UPB_AID_CFG_region a)
  let (s, serve) := servable x.st c e.q e.chan a
  let s := inc (worked s n) (F.UPB_AID_WIN_count a)
  let e := { e with idx := a, region := n, mode := cfgGet c (F.PTH_AID_MODE_mode a), group := aidGroup c e.q a, base := off + 8,
                    room := size - 8, frag := w.frag }
  let before := x.segs.length
  let x := { x with st := s, out := [] }
  let x := if serve then serveAid e x else x
  let x := x.on (fun s =>
    let s := readAheadLate s n w.lane w.start
    let s := if x.segs.length = before then inc s (F.UPB_AID_EMPTY_count a) else s
    if e.mode = 0 then s else showAid s a)
  let rep := reportOf x.st c e.q a
  let tint := tintOf x.st n
  (x, fit size (allocHeader w.aid rep x.out.length tint ++ x.out), rep, tint)

/-- The allocation segment of one window in `size` bytes at byte `off`, and the report it shows; the management AID's is empty and
reports nothing (R179). -/
def fillWindow (e : FillEnv) (x : Fill) (w : Window) (off size : Nat) : Fill × List Byte × List (Nat × Nat × Option Bool) :=
  match w.idx with
  | none => (x, fit size (allocHeader w.aid 0 0 false), [])
  | some a =>
    let (x, bytes, rep, tint) := fillAlloc e x w a off size
    (x, bytes, [(a, rep, some tint)])

/-- The windows that continue `w`, in order (R164, R166). -/
def contChain (l : List Window) (w : Window) (fuel : Nat) : List Window :=
  match fuel with
  | 0 => []
  | fuel + 1 =>
    match l.find? (fun x => x.cont && decide (x.lane = w.lane) && decide (x.fn = w.fn) && decide (x.start = w.start + w.len)) with
    | none => []
    | some x => x :: contChain l x fuel

/-- Why a window of path frame `fn` on lane `p` is not filled (R165), in the order of its table: for a burst of kind `k`, `mgmt` where its
windows are the management AID's, and `a`, `fine` and `len` as it would be launched. [DEDUCED: log 68, 169] -/
def unusedReason (s : State) (p fn : Nat) (k : BurstKind) (mgmt : Bool) (a fine len : Nat) : Option Nat :=
  let q := lanePath p
  let special := s.upb.bursts.any (fun b => decide (b.lane = p) && (decide (b.kind = .discovery) || decide (b.kind = .ranging)) &&
    burstsOverlap b.alarm b.fine b.len a fine len)
  if !permits s q k mgmt then some 0
  else if !rangedAt s q (laneChan p) fn then some 1
  else if !lightReady s p then some 2
  else if !mfLock s p then some 3
  else if chanQuiesced s p then some 5
  else if special then some 7
  else none

/-- What the filling of a window knows of its burst. -/
def fillEnv (s : State) (q : Path) (n fn start g plen alarm fine : Nat) : FillEnv :=
  { q := q, chan := n, fn := fn, start := start, cfg := lineCfgAt s q fn, guard := g, plen := plen, alarm := alarm, fine := fine,
    idx := 0, region := 0, mode := 0, group := none, base := 0, room := 0, frag := false }

/-- The places of the continuation windows `l` in the information stream, from byte `off` on (R173). -/
def contPlaces (off : Nat) (l : List Window) : List (Nat × Nat × Nat) :=
  match l with
  | [] => []
  | w :: rest => (w.start, off, 642 * w.len) :: contPlaces (off + 642 * w.len) rest

/-- Fill the burst of window `w`, which `conts` continue (R171 to R173): header, blocks and its own allocation segment; each
continuation is filled at its own fill point (R176). -/
def fillBurst (s : State) (w : Window) (conts : List Window) (mis : Bool) : State :=
  let q := lanePath w.lane
  let n := laneChan w.lane
  let g := (act s q).minGuard
  let plen := get s (F.UPB_PRE_plen (qn q) w.pre)
  let wins := w :: conts
  let len := wins.foldl (fun k x => k + x.len) 0
  let rpt := w.rpt && decide (actState s q = 4)
  let (alarm, fine) := launchAt s q n (cwCount w.fn w.start) (eqdAt s q n w.fn)
  let info := infoBytes (codedSymbols len g plen)
  let (s, bsn) := takeBsn s q
  let hdr := burstHeader (tidOf s q) n (qn q) w.lcm rpt false false bsn (w.fn % 2 ^ 32)
  let (s, lcm, acts) := if w.lcm then lcmBlock s q else (s, [], 0)
  let rptLen := if rpt then 128 else 0
  let off := 16 + lcm.length + rptLen
  let first := info - off - conts.foldl (fun k x => k + 642 * x.len) 0
  let e := fillEnv s q n w.fn w.start g plen alarm fine
  let (x, alloc, reps) := fillWindow e { st := s, out := [], segs := [], mis := mis } w off first
  let (s, block, reps') := if rpt then reportBlock x.st e.cfg q else (x.st, [], [])
  queueBurst s { kind := .granted, lane := w.lane, pos := cwCount w.fn w.start, guard := g, len := len,
                 pre := get s (F.UPB_PRE_kind (qn q) w.pre), plen := plen, alarm := alarm, fine := fine, bsn := bsn,
                 info := fit info (hdr ++ lcm ++ block ++ alloc), segs := x.segs, acts := acts, reps := reps' ++ reps,
                 wins := wins.length, mgmt := wins.all (fun x => x.idx.isNone), conts := contPlaces (off + first) conts, keys := x.keys }

/-- Bytes `off` on of `bs` replaced by `new`. -/
def replaceAt (bs : List Byte) (off : Nat) (new : List Byte) : List Byte := bs.take off ++ new ++ bs.drop (off + new.length)

/-- Fill the continuation window `w` of burst `b`, whose allocation segment takes `size` bytes at byte `off` (R173, R176). A burst that is
on its way already shows the window's report and bytes now; with its last continuation its light is complete.
[DEDUCED, DESIGN CHOICE: log 204, 220] -/
def fillCont (s : State) (b : Burst) (w : Window) (off size : Nat) (mis : Bool) : State :=
  let q := lanePath w.lane
  let n := laneChan w.lane
  let e := fillEnv s q n w.fn (b.pos % 5000) b.guard b.plen b.alarm b.fine
  let (x, alloc, reps) := fillWindow e { st := s, out := [], segs := [], mis := mis } w off size
  let b' := { b with info := replaceAt b.info off alloc, segs := b.segs ++ x.segs, reps := b.reps ++ reps, keys := b.keys ++ x.keys
                     conts := b.conts.filter (fun c => decide (c.1 ≠ w.start)) }
  let s := { x.st with upb := { x.st.upb with bursts := x.st.upb.bursts.map (fun y => if y = b then b' else y) } }
  if b.launched then
    let s := sentAlloc s { b' with segs := x.segs } reps ((x.segs.map (fun g => g.aid)).eraseDups)
    if b'.conts.isEmpty then sendLight s b' else s
  else s

/-- A continuation window that is not filled: its bytes stay zero. -/
def skipCont (s : State) (b : Burst) (w : Window) : State :=
  let b' := { b with conts := b.conts.filter (fun c => decide (c.1 ≠ w.start)) }
  let s := { s with upb := { s.upb with bursts := s.upb.bursts.map (fun y => if y = b then b' else y) } }
  if b.launched && b'.conts.isEmpty then sendLight s b' else s

/-- The fill point of continuation window `w` (R165, R176). One whose burst has been lost before is part of that loss (R177). -/
def contFill (s : State) (w : Window) (mis : Bool) : State :=
  let q := lanePath w.lane
  match s.upb.bursts.find? (fun b => decide (b.lane = w.lane) && decide (b.pos / 5000 = w.fn) && b.conts.any (fun c => decide (c.1 = w.start))) with
  | none => s
  | some b =>
    match unusedReason s w.lane w.fn .granted w.idx.isNone 0 0 0, b.conts.find? (fun c => decide (c.1 = w.start)) with
    | none, some c => fillCont s b w c.2.1 c.2.2 mis
    | some r, _ => unused (skipCont s b w) q r 1
    | _, _ => s

/-- The earliest decoded window on a lane at a start codeword. -/
def windowAt (s : State) (p start : Nat) : Option Window :=
  (s.upb.windows.filter (fun w => decide (w.lane = p) && decide (w.start = start))).foldl
    (fun (b : Option Window) w => match b with
      | some x => if w.fn < x.fn then some w else some x
      | none => some w) none

/-- The fill point of a burst's first window `w` (R165, R176, R181): it is filled, or the burst's windows count as unused. -/
def firstFill (s : State) (w : Window) (mis : Bool) : State :=
  let p := w.lane
  let q := lanePath p
  let conts := contChain s.upb.windows w s.upb.windows.length
  let drop := fun (s : State) (l : List Window) => { s with upb := { s.upb with windows := s.upb.windows.filter (fun x => !l.contains x) } }
  let len := (w :: conts).foldl (fun k x => k + x.len) 0
  let (a, fine) := launchAt s q (laneChan p) (cwCount w.fn w.start) (eqdAt s q (laneChan p) w.fn)
  match unusedReason s p w.fn .granted w.idx.isNone a fine len with
  | some r => unused (drop s conts) q r (1 + conts.length)
  | none =>
    let mine := if actState s q = 3 then conts.takeWhile (fun x => x.idx.isNone) else conts
    let s := if mine.length = conts.length then s else unused (drop s (conts.drop mine.length)) q 0 (conts.length - mine.length)
    if get s (F.UPB_PRE_plen (qn q) w.pre) = 0 then greyOf (unused (drop s mine) q 4 (1 + mine.length)) F.UPB_EVENT_grant_bad [(4, p)]
    else fillBurst s w mine mis

/-- Fill window `w`, which leaves the list of those that wait (R165, R176, R181). -/
def fillWaiting (s : State) (w : Window) (mis : Bool) : State :=
  let t := { s with upb := { s.upb with windows := s.upb.windows.filter (fun x => decide (x ≠ w)) } }
  if w.cont then contFill t w mis else firstFill t w mis

/-! ### The order of fills (R176, R202) -/

/-- Note that the window that begins at `pos` has been filled before its command; older notes go. -/
def noteEarly (s : State) (k : BurstKind) (p pos : Nat) : State :=
  let now := (baseNow s (1 + qn (lanePath p))).getD 0
  let kept := s.upb.early.filter (fun e => decide (lanePath e.2.1 ≠ lanePath p) || decide (now < e.2.2))
  { s with upb := { s.upb with early := (k, p, pos) :: kept } }

/-- The upstream group for which window `w` is filled (R202). -/
def windowGroup (s : State) (w : Window) : Option (Path × Nat) :=
  let q := lanePath w.lane
  w.idx.bind (fun a => (aidGroup (lineCfgAt s q w.fn) q a).map (fun k => (q, k)))

/-- The burst on its way that continuation `w` belongs to. -/
def burstOfCont (s : State) (w : Window) : Option Burst :=
  s.upb.bursts.find? (fun b => decide (b.lane = w.lane) && decide (b.pos / 5000 = w.fn) && b.conts.any (fun c => decide (c.1 = w.start)))

/-- Where the burst of window `w` stands in the order of R202: first codeword of its first window, then lane. -/
def burstPlace (s : State) (w : Window) : Nat × Nat :=
  (if w.cont then (burstOfCont s w).elim (cwCount w.fn w.start) (fun b => b.pos) else cwCount w.fn w.start, w.lane)

/-- The continuation of the group that comes first in the order of R202 and before `p`. -/
def earlierCont (s : State) (g : Option (Path × Nat)) (p : Nat × Nat) : Option Window :=
  let before := fun (a b : Nat × Nat) => decide (a.1 < b.1) || (decide (a.1 = b.1) && decide (a.2 < b.2))
  (s.upb.windows.filter (fun x => x.cont && decide (windowGroup s x = g) && (burstOfCont s x).isSome && before (burstPlace s x) p)).foldl
    (fun (b : Option Window) x => match b with
      | some y => if before (burstPlace s x) (burstPlace s y) ∨ (burstPlace s x = burstPlace s y ∧ x.start < y.start) then some x else b
      | none => some x) none

/-- Before a window of a bonded group is filled, at place `p` of R202's order, the continuations of its earlier bursts are, since the
sequence values follow that order. [DESIGN CHOICE: log 220] -/
def fillContsFirst (s : State) (g : Option (Path × Nat)) (p : Nat × Nat) (fuel : Nat) : State := match fuel with
  | 0 => s
  | fuel + 1 => match g, earlierCont s g p with
    | some _, some x => fillContsFirst (noteEarly (fillWaiting s x false) .granted x.lane (cwCount x.fn x.start)) g p fuel
    | _, _ => s

/-- Fill window `w`, after what R202 puts before it. -/
def fillInOrder (s : State) (w : Window) (mis : Bool) : State :=
  fillWaiting (fillContsFirst s (windowGroup s w) (burstPlace s w) s.upb.windows.length) w mis

/-- Steps of 1/96 codeword from now to codeword `c` of path `q`. -/
def stepsUntil (s : State) (q : Path) (c : Nat) : Int :=
  96 * (c : Int) - (96 * cwCount (pathTime s q).fn (pathTime s q).cw + (pathTime s q).sub)

/-- FRAG_ABANDON (R182): the oldest remainder of the AID has waited frag_to frames. -/
def fragAbandon (s : State) (a : Nat) : State :=
  match s.upb.rests.find? (fun r => decide (r.idx = a)) with
  | none => s
  | some r => abandonRest (reach s (1 + qn (lanePath r.lane)) (5000 * (r.fn + get s F.UPB_CTRL_frag_to + 1) - 800)) r

def execFragAbandon (aid : Fin 512) (s : State) : Host.Outcome State Fault Refusal := finish s (fragAbandon s aid.val)

end Sys2Proof.Machine
end

