-- ==== Sys2Proof/Machine/AlarmFire.lean ====
section
/-!
DEFINITION. ALARM_FIRE (R42 to R44, R175): an armed alarm reaches its time.
-/
namespace Sys2Proof.Machine
open Sys2Proof

/-- Alarm `k` on a path's time fires (R43): a burst-launch alarm starts its burst, whose launch power is measured as `uw`; a general
alarm only fires. -/
def firePath (s : State) (k uw : Nat) : State :=
  let s := markFired (reach s (alarmBase s k) (alarmAt s k)) k false
  if k < 128 then burstLaunch s k uw else s

/-- The alarms of lower number on the path's time of alarm `k` that fall on its codeword: they act before it (R44). -/
def pathBefore (s : State) (k : Nat) : List Nat :=
  (alarmsFrom 0 255).filter (fun j => decide (j < k) && alarmArmed s j && decide (alarmBase s j = alarmBase s k) &&
    decide (alarmAt s j = alarmAt s k))

/-- An armed alarm fires on time (R43, R44). On module line time everything that falls before it or with it fires, in the order of
dispatch. On a path's time the alarms of lower number at its codeword act first; the launch power of such a burst is a free value,
as no measurement of it has come. [DESIGN CHOICE: log 156] -/
def alarmFires (s : State) (k uw : Nat) : State :=
  if !alarmArmed s k then s
  else if alarmBase s k = 0 then dispatchTo s (fallsAt s k) false 4000256
  else firePath ((pathBefore s k).foldl (fun s j => stepFree (firePath s j (freeVal s % 2 ^ 16))) s) k uw

def execAlarmFire (k : Fin 256) (uw : BitVec 16) (s : State) : Host.Outcome State Fault Refusal := finish s (alarmFires s k.val uw.toNat)

end Sys2Proof.Machine
end

