-- ==== Sys2Proof/Machine/Cpl.lean ====
section
/-!
DEFINITION. The policy cluster (R368 to R381): checking an image, start, confirmation, watchdog, the mailbox and the injection
rings.
-/
namespace Sys2Proof.Machine
open Sys2Proof

def modCpl (s : State) (f : Cpl → Cpl) : State := { s with cpl := f s.cpl }

/-! ### Images (R369 to R371) -/

/-- The header's layout (R369). [DEDUCED: log 103] -/
def fwHeaderOk (b : List Byte) : Bool :=
  let sig := le b 0x24 4
  decide (64 ≤ b.length) && decide (le b 0 4 = 0x49505A47) && decide (be b 4 2 = 0x0100) && decide (le b 6 2 = 64) &&
  decide (le b 8 2 = 0x6425) && decide (le b 0x0A 1 ≤ 0xB0) && decide (le b 0x0B 1 = 0) && decide (le b 0x0C 4 = b.length) &&
  decide (b.length ≤ 12 * 2 ^ 20) && decide (le b 0x10 4 ≠ 0) && decide (le b 0x18 4 % 64 = 0) && decide (le b 0x1C 4 ≤ 0xEC0000) &&
  decide (le b 0x18 4 + le b 0x1C 4 ≤ sig) && decide (le b 0x20 4 < max 1 (le b 0x1C 4)) && decide (sig + 104 = b.length) &&
  (sub b 0x28 20).all (fun x => decide (x = 0))

/-- The image CRC: the crc field and the signature block taken as zero (R369). -/
def fwCrcOk (b : List Byte) : Bool :=
  let sig := le b 0x24 4
  let z := sub b 0 0x3C ++ List.replicate 4 0 ++ sub b 0x40 (sig - 0x40) ++ List.replicate (b.length - sig) 0
  decide (crc32c z = le b 0x3C 4)

/-- WRD_RESULT codes. -/
def wrdOk : Nat := 0
def wrdBusy : Nat := 1
def wrdPriv : Nat := 2
def wrdBadHeader : Nat := 3
def wrdBadSig : Nat := 4
def wrdRollback : Nat := 5
def wrdRunningSlot : Nat := 6
def wrdFlashFail : Nat := 7
def wrdKeyRevoked : Nat := 8
def wrdLocked : Nat := 9
def wrdBadCal : Nat := 10

/-- The signature check of an image (R370, R371): a policy image against the key that its block names, a warden image against
the fused key. [DEDUCED: log 103] -/
def fwSig (s : State) (warden : Bool) (b : List Byte) : Nat :=
  let sig := le b 0x24 4
  let k := le b sig 4
  let good := fun (key : List Byte) => Config.ecdsaVerify key (Config.sha384 (sub b 0 sig)) (sub b (sig + 8) 96)
  if warden then (if good s.flash.gunathKey then wrdOk else wrdBadSig)
  else if k < 4 ∧ bit (get s F.WRD_KEYS_revoked) k then wrdKeyRevoked
  else match Tab.find s.flash.polKeys k with
    | none => wrdBadSig
    | some key => if good key then wrdOk else wrdBadSig

/-- Steps 1 to 4 of R371: WRD_RESULT's code. A warden image has a floor of its own (R373). [DEDUCED, DESIGN CHOICE: log 103, 229] -/
def fwCheck (s : State) (warden : Bool) (b : List Byte) : Nat :=
  if !fwHeaderOk b || !fwCrcOk b then wrdBadHeader
  else if fwSig s warden b ≠ wrdOk then fwSig s warden b
  else if le b 0x10 4 < (if warden then s.flash.wrdFloor else get s F.WRD_MIN_SVN_svn) then wrdRollback
  else wrdOk

/-- The slot that an image makes (R371): on trial. -/
def fwSlot (b : List Byte) : FwSlot := ⟨b, le b 0x10 4, le b 0x14 4, true⟩

/-- A policy slot: A or B. -/
def polSlot (s : State) (b : Bool) : Option FwSlot := if b then s.flash.polB else s.flash.polA
def putPolSlot (s : State) (b : Bool) (x : Option FwSlot) : State :=
  let s := { s with flash := if b then { s.flash with polB := x } else { s.flash with polA := x } }
  let i := b2n b
  put (put s (F.CPL_IMG_VER_value i) ((x.map (fun f => f.version)).getD 0)) (F.CPL_IMG_SVN_value i) ((x.map (fun f => f.svn)).getD 0)

/-! ### The mailbox (R375, R376) -/

def mbxState (s : State) (k : Nat) : Nat := get s (F.CPL_MBX_STATE_state k)
def mbxDropped (s : State) : State := inc s F.CPL_MBX_DROP_count

/-- The result byte of slot `k`'s body. -/
def mbxResult (k : Nat) : Fld := ⟨0xA10000 + 0x80 * k + 4, 16, 8⟩

/-- Whether requester `r` may use slot `k` from the host side: its owner, the cluster and the warden. -/
def mbxAllowed (s : State) (r : Requester) (k : Nat) : Bool := match r with
  | .fn i => decide (get s (F.ACW_MBX_OWNER_fn k) = i.val)
  | _ => true

/-- Slot `k` becomes DONE with a result and raises its vector (R375, R376). -/
def mbxDone (s : State) (k v : Nat) : State :=
  let s := put (put (put s (mbxResult k) v) (F.CPL_MBX_STATE_result k) v) (F.CPL_MBX_STATE_state k) 3
  deliverOwned s (128 + k) (get s (F.ACW_MBX_OWNER_fn k))

/-- MBX_POST (R375). -/
def mbxPost (s : State) (r : Requester) (k : Nat) : State :=
  if mbxAllowed s r k && decide (mbxState s k = 0) then put s (F.CPL_MBX_STATE_state k) 1 else mbxDropped s

/-- MBX_ACK (R375). -/
def mbxAck (s : State) (r : Requester) (k : Nat) : State :=
  if mbxAllowed s r k && decide (mbxState s k = 3) then put s (F.CPL_MBX_STATE_state k) 0 else mbxDropped s

/-- MBX_CLAIM (R375): by firmware that runs. -/
def mbxClaim (s : State) (k : Nat) : State :=
  if cplRunning s && decide (mbxState s k = 1) then put s (F.CPL_MBX_STATE_state k) 2 else s

/-- MBX_COMPLETE (R375): the slot's result is the one that firmware wrote into its body. -/
def mbxComplete (s : State) (k : Nat) : State :=
  if cplRunning s && decide (mbxState s k = 2) then mbxDone s k (get s (mbxResult k)) else s

/-- MBX_TIMEOUT (R376). -/
def mbxTimeout (s : State) (k : Nat) : State :=
  if mbxState s k = 1 then mbxDone (raiseGrey s F.CPL_EVENT_mbx_timeout) k 1 else s

/-! ### Start and stop (R372, R373, R380) -/

/-- Cluster states. -/
def cplOff : Nat := 0
def cplBooting : Nat := 1
def cplRun : Nat := 2
def cplHalted : Nat := 3
def cplFailed : Nat := 4
def cplState (s : State) : Nat := get s F.CPL_STATUS_state

/-- The cluster stops in state `v` with no core up: TAKEN slots end with FW_RESET (R376). [DEDUCED: log 109] -/
def cplStop (s : State) (v : Nat) : State :=
  let s := put (put (putB s F.CPL_STATUS_trial false) F.CPL_STATUS_cores_up 0) F.CPL_STATUS_state v
  (List.range 64).foldl (fun s k => if mbxState s k = 2 then mbxDone s k 2 else s) (modCpl s (fun c => { c with kicked := 0 }))

/-- A cluster reset, counted with its cause. -/
def cplReset (s : State) (cause v : Nat) : State := put (inc (cplStop s v) F.CPL_RESETS_count) F.CPL_RESETS_cause cause

/-- The cluster starts from slot `b`: the warden verifies and loads it (R372). -/
def cplBoot (s : State) (b : Bool) : State := putB (put s F.CPL_STATUS_state cplBooting) F.CPL_STATUS_slot b

/-- The slot for the next start. -/
def bootPref (s : State) : Bool := getB s F.WRD_STATUS_boot_pref

/-- Whether slot `b` verifies now (R371 steps 1 to 4). -/
def slotBoots (s : State) (b : Bool) : Bool := match polSlot s b with
  | some f => decide (fwCheck s false f.bytes = wrdOk)
  | none => false

/-- CLUSTER_CORES_RELEASED (R372): the chosen slot, else the other one; with neither the cluster is FAILED. -/
def coresReleased (s : State) : State :=
  if cplState s ≠ cplBooting ∨ s.wrd.down then s
  else
    let want := getB s F.CPL_STATUS_slot
    let b := if slotBoots s want then want else !want
    match polSlot s b with
    | none => raise (cplStop s cplFailed) F.CPL_EVENT_failed .black 0
    | some f =>
      if !slotBoots s b then raise (cplStop s cplFailed) F.CPL_EVENT_failed .black 0
      else
        let s := sramWrite s 0 (sub f.bytes (le f.bytes 0x18 4) (le f.bytes 0x1C 4))
        let s := putB (putB (put s F.CPL_STATUS_state cplRun) F.CPL_STATUS_slot b) F.CPL_STATUS_trial f.trial
        modCpl (put s F.CPL_STATUS_cores_up 0xFF) (fun c => { c with kicked := 0, startedAt := ticks s })

/-- CPL_CTRL.restart (R372): a FAILED cluster takes it at P1 or above only (R380). [DESIGN CHOICE: log 108] -/
def cplRestart (s : State) (r : Requester) : State :=
  if cplState s = cplFailed ∧ !isP1 r then s
  else
    let s := if cplState s = cplFailed then modCpl s (fun c => { c with wdtResets := [] }) else s
    cplBoot (cplReset s 2 cplOff) (bootPref s)

/-- CPL_CTRL.halt. [DEDUCED: log 109] -/
def cplHalt (s : State) : State :=
  if cplState s = cplBooting ∨ cplState s = cplRun then cplReset s 3 cplHalted else s

/-- The cluster's trial slot is confirmed (R373). -/
def trialConfirm (s : State) : State :=
  if cplRunning s && getB s F.CPL_STATUS_trial then
    let b := getB s F.CPL_STATUS_slot
    match polSlot s b with
    | none => s
    | some f =>
      let s := putB (putPolSlot s b (some { f with trial := false })) F.CPL_STATUS_trial false
      putMax s F.WRD_MIN_SVN_svn f.svn
  else s

/-- A trial is abandoned (R373): the cluster restarts from the other slot, which is preferred from now on. [DEDUCED: log 109] -/
def trialRevert (s : State) : State :=
  let other := !getB s F.CPL_STATUS_slot
  let s := putB (cplReset s 4 cplOff) F.WRD_STATUS_boot_pref other
  cplBoot (raiseGrey s F.CPL_EVENT_trial_revert) other

/-- The cluster's trial has had its 60 s (R373). -/
def trialTimeout (s : State) : State := if cplRunning s && getB s F.CPL_STATUS_trial then trialRevert s else s

/-- WDT_KICK (R380). -/
def wdtKick (s : State) (v : Nat) : State := modCpl s (fun c => { c with kicked := (c.kicked ||| v) % 256 })

/-- 600 s in core ticks. -/
def tenMinutes : Nat := 600 * 1500000000

/-- The cluster's watchdog resets it (R380): the third within 600 s leaves it FAILED; a trial reverts. [DEDUCED: log 109] -/
def wdtReset (s : State) : State :=
  let s := raiseGrey s F.CPL_EVENT_wdt
  let past := (s.cpl.wdtResets.filter (fun t => decide (ticks s < t + tenMinutes)))
  let s := modCpl s (fun c => { c with wdtResets := ticks s :: past })
  if 3 ≤ past.length + 1 then raise (cplReset s 1 cplFailed) F.CPL_EVENT_failed .black 1
  else if getB s F.CPL_STATUS_trial then trialRevert s
  else cplBoot (cplReset s 1 cplOff) (getB s F.CPL_STATUS_slot)

/-- CLUSTER_WDT_EXPIRE (R380): the period of core `c` ends. A core of core_mask that has kicked in it goes on. [DEDUCED: log 109] -/
def wdtExpire (s : State) (c : Nat) : State :=
  if !cplRunning s || !bit (get s F.CPL_WDT_core_mask) c then s
  else if bit s.cpl.kicked c then modCpl s (fun x => { x with kicked := setBits x.kicked c 1 0 })
  else wdtReset s

/-! ### Injection (R378, R379) -/

def cplDiscard (s : State) (k : Nat) : State := discard s (F.CPL_DISC_count k) (0x70 + k)

/-- Bytes that firmware writes into shared SRAM, below the slow-path rings (R368). [DEDUCED: log 90] -/
def firmwareWrite (s : State) (off : Nat) (bs : List Byte) : State := sramWrite s off (bs.take (0xF00000 - off))

/-- INJECT_DESCRIPTOR (R378): firmware has written `desc` at the tail of ring `i` and `frame` at the offset it names; once the
descriptor is valid, it is consumed and its frame goes to its region, where one that is not ON discards it at the line die (R298).
[DEDUCED: log 90] -/
def inject (s : State) (i : Nat) (desc frame : List Byte) : State :=
  let t := get s (F.CPL_INJ_TAIL_index i)
  let s := if cplRunning s then
      firmwareWrite (firmwareWrite s (le desc 0 4) frame) (0xEC0000 + 0x4000 * i + 16 * t) (desc.take 16)
    else s
  let d := sramRead s (0xEC0000 + 0x4000 * i + 16 * t) 16
  let off := le d 0 4
  let len := le d 4 2
  let n := i / 4
  if !cplRunning s || decide (t = get s (F.CPL_INJ_HEAD_index i)) || !bit (le d 6 1) 7 then s
  else
    let s := put s (F.CPL_INJ_TAIL_index i) ((t + 1) % 1024)
    if len < 14 ∨ 16384 < len ∨ 0xEC0000 < off + len then raiseGrey (cplDiscard s 1) F.CPL_EVENT_inj_bad
    else
      let p : PPkt := {
        bytes := sramRead s off len, ing := { kind := 2, raw := rawTime s }, src := 2, pipe := 4 + i % 4, re := bit (le d 6 1) 0 }
      overLink (monIn s 5 0x19 [] len) n (.line p false) (fun s => lineFrame s n p false)

/-! ### Commands -/

def execClusterRestart (r : Requester) (s : State) : Host.Outcome State Fault Refusal :=
  finish s (onWrite s r R.CPL_CTRL (fun s => cplRestart s r))
def execClusterHalt (r : Requester) (s : State) : Host.Outcome State Fault Refusal := finish s (onWrite s r R.CPL_CTRL cplHalt)
def execClusterCoresReleased (s : State) : Host.Outcome State Fault Refusal := finish s (coresReleased s)
/-- WDT_KICK: a core restarts its watchdog by writing its bit (R380). [DEDUCED: log 154] -/
def execWdtKick (r : Requester) (v : BitVec 8) (s : State) : Host.Outcome State Fault Refusal :=
  finish s (onWrite s r R.CPL_WDT_KICK (fun s => wdtKick s v.toNat))
def execClusterWdtExpire (c : Fin 8) (s : State) : Host.Outcome State Fault Refusal := finish s (wdtExpire s c.val)
/-- MBX_POST: a mailbox is posted by its owner (R375). [DEDUCED: log 154] -/
def execMbxPost (r : Requester) (k : Fin 64) (s : State) : Host.Outcome State Fault Refusal :=
  finish s (onWrite s r R.CPL_MBX_POST (fun s => mbxPost s r k.val))
def execMbxClaim (k : Fin 64) (s : State) : Host.Outcome State Fault Refusal := finish s (mbxClaim s k.val)
def execMbxComplete (k : Fin 64) (s : State) : Host.Outcome State Fault Refusal := finish s (mbxComplete s k.val)
def execMbxAck (r : Requester) (k : Fin 64) (s : State) : Host.Outcome State Fault Refusal :=
  finish s (onWrite s r R.CPL_MBX_ACK (fun s => mbxAck s r k.val))
def execMbxTimeout (k : Fin 64) (s : State) : Host.Outcome State Fault Refusal := finish s (mbxTimeout s k.val)
/-- INJECT_DESCRIPTOR: the next descriptor of an injection ring is taken (R378). [DEDUCED: log 154] -/
def execInjectDescriptor (i : Fin 16) (desc frame : List Byte) (s : State) : Host.Outcome State Fault Refusal :=
  finish s (inject s i.val desc frame)

end Sys2Proof.Machine
end

