-- ==== Sys2Proof/Machine/Cal.lean ====
section
/-!
DEFINITION. The calibration store (R463 to R467): the checks of a file, the trims that S0 loads from it, the class defaults.
-/
namespace Sys2Proof.Machine
open Sys2Proof

/-- Bytes of the CAL file (R463). -/
def calBytes : Nat := 5312

/-- The CRC of a file: its crc field taken as zero. -/
def calCrc (b : List Byte) : Nat := crc32c (sub b 0 0x3C ++ List.replicate 4 0 ++ sub b 0x40 (calBytes - 0x40))

/-- The file that the partition holds: an erased byte reads 0xFF. -/
def calStored (s : State) : List Byte := (s.flash.cal ++ List.replicate calBytes 0xFF).take calBytes

/-- The checks of R464 against the module's LSI: 0 VALID, 1 ABSENT, 2 CORRUPT, 3 FOREIGN. [DEDUCED: log 107] -/
def calCheck (s : State) (b : List Byte) : Nat :=
  if le b 0 4 ≠ 0x41435A47 then 1
  else if le b 4 2 ≠ 1 ∨ le b 6 2 ≠ 0x6425 ∨ le b 0x18 4 ≠ calBytes ∨ calCrc b ≠ le b 0x3C 4 then 2
  else if le b 8 8 ≠ get s F.ACT_LSI_lsi then 3
  else 0

/-- The record of line lane pair `p`, and of client lane `k`. [DEDUCED: log 107] -/
def calLane (b : List Byte) (p : Nat) : List Byte := sub b (0xC0 + 32 * p) 32
def calClient (b : List Byte) (k : Nat) : List Byte := sub b (0x10C0 + 8 * k) 8

/-- A two's-complement 16-bit field of a record. -/
def s16 (b : List Byte) (off : Nat) : Int := toSigned 16 (le b off 2)

/-- A line record is used (R464): valid, and its set point and heater in range. [DEDUCED: log 107] -/
def calLaneOk (r : List Byte) : Bool :=
  bit (le r 18 1) 0 && decide (100 ≤ s16 r 6) && decide (s16 r 6 ≤ 400) && decide (le r 4 2 ≤ 10000)

/-- Class nominals of R465 by quantity: 0 bias, 1 mod, 2 heater, 3 set point, 4 and 5 temperature coefficients, 6 rx_delay,
7 cal_rx, 8 cal_tx, 9 t_cal. [DESIGN CHOICE: log 9] -/
def nominal (quantity engine : Nat) : Nat := Config.classNominal quantity engine % 65536

/-- Line lane `p` takes its record's trims, or its class defaults (R102, R465). -/
def calLineLane (s : State) (b : Option (List Byte)) (p : Nat) : State :=
  let r := (b.map (fun f => calLane f p)).getD []
  let ok := b.isSome && calLaneOk r
  let e := engineOf p
  let pick := fun (off q : Nat) => if ok then le r off 2 else nominal q e
  let s := modLane s p (fun l => { l with
    calBias := pick 0 0, calMod := pick 2 1, calHeater := pick 4 2, calSetpoint := toSigned 16 (pick 6 3)
    calBiasTc := toSigned 16 (pick 10 4), calHeatTc := toSigned 16 (pick 12 5), rxDelay := pick 16 6, calDefault := !ok })
  let s := put (put s (F.LNK_TEMPCO_bias_tc p) (pick 10 4)) (F.LNK_TEMPCO_heat_tc p) (pick 12 5)
  let s := put (put s (F.LNK_TX_MOD_mod p) (pick 2 1)) (F.LNK_RX_OFFSET_offset p) (if ok then le r 8 2 else 0)
  applyTemp (applySetpoint s p) p

/-- Client lane `k` takes its record's constants, or its class defaults (R465). -/
def calClientLane (s : State) (b : Option (List Byte)) (k : Nat) : State :=
  let r := (b.map (fun f => calClient f k)).getD []
  let ok := b.isSome && bit (le r 4 1) 0
  put (put s (F.TSU_PORT_RX_cal k) (if ok then le r 0 2 else nominal 7 k)) (F.TSU_PORT_TX_cal k) (if ok then le r 2 2 else nominal 8 k)

/-- Whether some client lane of a file runs on defaults. -/
def clientsDefault (b : Option (List Byte)) : Bool := match b with
  | none => true
  | some f => (List.range 128).any (fun k => !bit (le (calClient f k) 4 1) 0)

/-- Engines with a lane on class defaults, as a mask. -/
def enginesDefault (s : State) : Nat :=
  (List.range 8).foldl (fun m e => if (lanesOfEngine e).any (fun p => (laneSt s p).calDefault) then m + 2 ^ e else m) 0

/-- The file that S0 loaded, if it was valid. -/
def calFile (s : State) : Option (List Byte) := if s.wrd.calLoaded.isEmpty then none else some s.wrd.calLoaded

/-- The trims of the loaded file into LNK and OPE (R102). -/
def calLine (s : State) : State :=
  let b := calFile s
  let s := (List.range 8).foldl (fun s e =>
    modEngine s e (fun x => { x with tCal := match b with
      | some f => s16 f (0x40 + 16 * e)
      | none => toSigned 16 (nominal 9 e) })) s
  let s := (List.range 128).foldl (fun s p => calLineLane s b p) s
  (List.range 8).foldl (fun s e => putB s (F.OPE_STATUS_cal_default e) (bit (enginesDefault s) e)) s

/-- Line lane `p` takes its record's a_line, or its class default (R464, R465). -/
def calAsym (s : State) (b : Option (List Byte)) (p : Nat) : State :=
  let r := (b.map (fun f => calLane f p)).getD []
  put s (F.TSU_LINE_ASYM_asym (qn (lanePath p)) (laneChan p)) (if b.isSome && calLaneOk r then le r 14 2 else 0)

/-- The constants of the loaded file into TSU (R464). -/
def calClients (s : State) : State :=
  (List.range 128).foldl (fun s k => calAsym (calClientLane s (calFile s) k) (calFile s) k) s

/-- Whether the stored file differs from the loaded one (R467). -/
def calPending (s : State) : Bool :=
  if calCheck s (calStored s) = 0 then decide (calStored s ≠ s.wrd.calLoaded) else !s.wrd.calLoaded.isEmpty

/-- The partition now holds `b`, and WRD_CAL_STATUS shows whether that differs from the loaded file (R467). -/
def calPut (s : State) (b : List Byte) : State :=
  let s := { s with flash := { s.flash with cal := b } }
  putB s F.WRD_CAL_STATUS_pending (calPending s)

/-- S0 loads the store (R464): its state, the trims, and the event of R102 for each engine on class defaults. -/
def calLoad (s : State) : State :=
  let b := calStored s
  let v := calCheck s b
  let s := { s with wrd := { s.wrd with calLoaded := if v = 0 then b else [] } }
  let s := calClients (calLine s)
  let m := enginesDefault s
  let s := put (put s F.WRD_CAL_STATUS_state v) F.WRD_CAL_STATUS_source (if v = 0 then le b 0x10 1 else 0)
  let s := putB (put s F.WRD_CAL_STATUS_engines_default m) F.WRD_CAL_STATUS_clients_default (clientsDefault (calFile s))
  let s := putB s F.WRD_CAL_STATUS_pending (calPending s)
  (bitsSet 8 m).foldl (fun s e => offer s 0x3111 .crimson 4 0x31 e m v) s

/-- The stored file with every lane's current receiver offset (R466): source 3, crc recomputed. -/
def calWithRx (s : State) : List Byte :=
  let b := (List.range 128).foldl (fun b p => overwrite b (0xC0 + 32 * p + 8) (leBytes 2 (get s (F.LNK_RX_OFFSET_offset p)))) (calStored s)
  let b := overwrite b 0x10 [3]
  overwrite b 0x3C (leBytes 4 (calCrc b))

end Sys2Proof.Machine
end

