-- ==== Sys2Proof/Machine/GroupRules.lean ====
section
/-!
DEFINITION. The rules of the agreement groups, each over the member words of its group: R95, R129, R270, R284, R319, R344,
R392, R449. A verdict is the result code, the first offending member and the rule; the first rule broken decides.
-/
namespace Sys2Proof.Machine
open Sys2Proof

/-- A failed check: result, member, rule (R81, R84). -/
abbrev Verdict := Option (Nat × Nat × Nat)

/-- The first failed check of a list. [DEDUCED: log 47] -/
def firstFail (l : List Verdict) : Verdict := l.findSome? (fun v => v)

/-- A check that fails with `code` at member `m` and rule `k`. -/
def failIf (b : Bool) (code m k : Nat) : Verdict := if b then some (code, m, k) else none

/-! ### Detectors and defect thresholds (R95, R129) -/

/-- R95 over the words LNK_DET_LOS and LNK_DET_LOL; the members are the four fields in register order. [DEDUCED: log 162] -/
def detRules (los lol : Nat) : Verdict :=
  let a := toSigned 8 (bits los 0 8)
  let h := bits los 8 8
  let snr := bits lol 0 8
  let h2 := bits lol 8 8
  firstFail [
    failIf (decide (a < -120) || decide (-64 < a)) sealRange 0 1,
    failIf (decide (-1500 < 25 * a + 10 * (h : Int))) sealDisagree 0 2,
    failIf (decide (h < 5) || decide (30 < h)) sealRange 1 3,
    failIf (decide (h2 < 5) || decide (30 < h2)) sealRange 3 3,
    failIf (decide (snr < 32) || decide (80 < snr)) sealRange 2 4]

/-- R129 over the words DFR_EXC, DFR_SD_SET and DFR_SD_CLR. [DEDUCED: log 162] -/
def thrRules (exc sdSet sdClr : Nat) : Verdict :=
  firstFail [
    failIf (decide (bits exc 0 8 = 0) || decide (bits exc 16 4 = 0)) sealRange 0 1,
    failIf (decide (bits exc 0 8 ≤ bits exc 8 8)) sealDisagree 0 2,
    failIf (decide (600000000 < sdSet)) sealDisagree 1 3,
    failIf (decide (sdSet ≤ sdClr)) sealDisagree 2 3]

/-! ### Ports (R270) -/

/-- Fields of a CMC_PORT_CFG word. -/
def cfgWidth (w : Nat) : Nat := bits w 0 4
def cfgRate (w : Nat) : Nat := bits w 4 1
def cfgMode (w : Nat) : Nat := bits w 5 1

/-- Rules 1 to 5 of R270 over the 32 port words and the lane enables. [DEDUCED: log 48] -/
def portRules (cfg : List Nat) (en : Nat) : Verdict :=
  let w := fun l => cfgWidth (cfg.getD l 0)
  let lanes := List.range 32
  let inPort := fun k => lanes.any (fun l => decide (l ≤ k) && decide (k < l + w l))
  firstFail (
    lanes.map (fun l => failIf (!([0, 1, 2, 4, 8].contains (w l))) sealRange l 1) ++
    lanes.map (fun l => failIf (decide (w l ≠ 0) && decide (l % w l ≠ 0)) sealDisagree l 2) ++
    lanes.map (fun k => failIf (decide (w k ≠ 0) && lanes.any (fun l => decide (l < k) && decide (k < l + w l))) sealDisagree k 3) ++
    lanes.map (fun k => failIf (decide (inPort k ≠ bit en k)) sealDisagree 32 4) ++
    lanes.map (fun l => failIf (decide (w l ≠ 0) && decide (cfgMode (cfg.getD l 0) = 1) && decide (w l ≠ 1)) sealDisagree l 5))

/-! ### Tables (R284) -/

/-- Fields of PRS_TBL_CFG and PRS_KEY_FLD words. -/
def tblEn (w : Nat) : Bool := bit w 0
def tblExact (w : Nat) : Bool := bit w 1
def tblWidth (w : Nat) : Nat := bits w 2 2
def tblNFld (w : Nat) : Nat := bits w 4 5
def tblFirst (w : Nat) : Nat := bits w 16 7
def tblSize (w : Nat) : Nat := bits w 24 8
def fldMeta (w : Nat) : Bool := bit w 0
def fldCls (w : Nat) : Nat := bits w 1 5
def fldOcc (w : Nat) : Nat := bits w 6 3
def fldWidth (w : Nat) : Nat := bits w 9 7 + 1
def fldOff (w : Nat) : Nat := bits w 16 12

/-- Width of a metadata item (R280). -/
def metaWidth (i : Nat) : Nat := ([2, 7, 20, 15, 2, 16, 3, 32, 1] : List Nat).getD i 0

/-- The tables of a region: PRS_TBL_CFG and PRS_KEY_FLD words by table. -/
structure TblWords where
  cfg : List Nat
  fld : List (List Nat)
  deriving DecidableEq, Repr

/-- The tables that are in use or named: all whose words are not all 0 (R283); the enabled ones; and the fields of each: (table, field,
word). [DEDUCED: log 48] -/
def TblWords.named (t : TblWords) : List Nat :=
  (List.range 8).filter (fun i => decide (t.cfg.getD i 0 ≠ 0) || (t.fld.getD i []).any (fun w => decide (w ≠ 0)))
def TblWords.on (t : TblWords) : List Nat := t.named.filter (fun i => tblEn (t.cfg.getD i 0))
def TblWords.flds (t : TblWords) : List (Nat × Nat × Nat) :=
  t.named.flatMap (fun i => (List.range (min 16 (tblNFld (t.cfg.getD i 0)))).map (fun f => (i, f, (t.fld.getD i []).getD f 0)))

/-- Rules 1 and 5 of R284. -/
def tblRange (t : TblWords) : Verdict :=
  firstFail (
    t.named.map (fun i =>
      let c := t.cfg.getD i 0
      failIf (decide ((if tblExact c then 1 else 2) < tblWidth c) || decide (tblNFld c = 0) || decide (16 < tblNFld c)) sealRange i 1) ++
    t.flds.map (fun x => failIf (decide (6 < fldOcc x.2.2)) sealRange (16 + 16 * x.1 + x.2.1) 1) ++
    t.flds.map (fun x =>
      failIf (!fldMeta x.2.2 && decide (3072 < fldOff x.2.2 + fldWidth x.2.2)) sealRange (16 + 16 * x.1 + x.2.1) 5))

/-- Rules 2 to 4 of R284, with the classes of the region's graph. -/
def tblAgree (t : TblWords) (classes : List Nat) : Verdict :=
  let range := fun i => (tblFirst (t.cfg.getD i 0), tblFirst (t.cfg.getD i 0) + tblSize (t.cfg.getD i 0))
  let tern := t.on.filter (fun i => !tblExact (t.cfg.getD i 0))
  firstFail (
    t.named.map (fun i =>
      let used := (t.flds.filter (fun x => decide (x.1 = i))).foldl (fun a x => a + fldWidth x.2.2) 0
      failIf (decide (128 * 2 ^ tblWidth (t.cfg.getD i 0) < used)) sealDisagree i 2) ++
    t.flds.map (fun x =>
      let w := x.2.2
      let bad := if fldMeta w then decide (metaWidth (fldCls w) < fldOff w + fldWidth w) else !classes.contains (fldCls w)
      failIf bad sealDisagree (16 + 16 * x.1 + x.2.1) 3) ++
    tern.map (fun i => failIf (decide (tblSize (t.cfg.getD i 0) = 0) || decide (128 < (range i).2) ||
      tern.any (fun j => decide (j < i) && decide ((range j).1 < (range i).2) && decide ((range i).1 < (range j).2))) sealDisagree i 4))

/-- The rules of R284 in their order. [DEDUCED: log 48] -/
def tblRules (t : TblWords) (classes : List Nat) : Verdict :=
  match tblRange t with
  | some (c, m, 1) => some (c, m, 1)
  | r => firstFail [tblAgree t classes, r]

/-! ### Meters (R319) -/

/-- R319 over the settings of a meter. [DEDUCED: log 48] -/
def mtrRules (c : MtrCfg) : Verdict :=
  let o := toSigned 8 c.overhead
  let lo := if c.packets then 1 else 64
  let hi := if c.packets then 4000000000 else 1600000000
  let short := if c.packets then decide (c.burst * 1000000000 < c.rate * c.period * 64)
    else decide (c.burst * 125000 < c.rate * c.period)
  firstFail [
    failIf (decide (o < -32) || decide (c.period = 0)) sealRange 0 1,
    failIf (decide (c.rate < lo) || decide (hi < c.rate)) sealRange 1 2,
    failIf (decide (c.burst = 0)) sealRange 2 3,
    failIf short sealDisagree 2 4]

/-! ### Owners (R344) -/

/-- Rules 1 and 2 of R344 over an owner's reserves and caps. [DEDUCED: log 48] -/
def ownRules (res cap : List Nat) : Verdict :=
  let most : List Nat := [262144, 9437184, 8388608]
  firstFail (
    (List.range 3).map (fun t => failIf (decide (cap.getD t 0 < res.getD t 0)) sealDisagree (2 * t) 1) ++
    (List.range 3).map (fun t => failIf (decide (most.getD t 0 < cap.getD t 0)) sealRange (2 * t + 1) 2))

/-- Rule 3 of R344 in one region: owners by local ID, Shade level of each tier, units of each pool. -/
def ownSums (owners : List OwnCfg) (shade size : List Nat) : Verdict :=
  firstFail ((List.range 3).map (fun t =>
    let sum := (owners.filter (fun o => o.en)).foldl (fun a o => a + o.res.getD t 0) 0
    failIf (decide (size.getD t 0 * (100 - shade.getD t 0) < 100 * sum)) sealDisagree (2 * t) 3))

/-! ### Access windows (R392) -/

/-- Spans that no window of a function other than the PF may overlap (R392): ACW, EPC, PWR, KST, WRD, SAF, ASH. -/
def guardedSpans : List (Nat × Nat) := [(0x60000, 0x70000), (0x20000, 0x30000), (0x30000, 0x40000), (0x800000, 0x900000),
  (0xA0000, 0xB0000), (0x1C0000, 0x1D0000), (0xB0000, 0xC0000)]

/-- R392 over a window. [DEDUCED: log 48] -/
def acwRules (w : AcwWin) : Verdict :=
  firstFail [
    failIf (decide (w.base % 4 ≠ 0)) sealRange 0 1,
    failIf (decide (w.limit % 4 ≠ 0) || decide (w.limit ≤ w.base) || decide (0x10000000 < w.limit)) sealRange 1 1,
    failIf (decide (w.req / 2 ^ 17 ≠ 0)) sealRange 2 2,
    failIf (decide (bits w.req 1 15 ≠ 0) && guardedSpans.any (fun p => decide (w.base < p.2) && decide (p.1 < w.limit)))
      sealDisagree 0 3]

/-! ### Performance counters (R444, R445, R449) -/

/-- The blocks that global counter `c` may count (R444, R4). -/
def ctrBlocks (c : Nat) : List Nat :=
  if c < 128 then [0x20, 0x21, 0x22, 0x23, 0x24, 0x25, 0x26]
  else if c < 160 then [0x10, 0x11, 0x12, 0x13, 0x14, 0x15, 0x16, 0x18, 0x31, 0x33]
  else if c < 184 then [0x01, 0x02, 0x03, 0x06, 0x07, 0x08, 0x09, 0x19, 0x1A]
  else [0x04, 0x05, 0x17, 0x30, 0x32]

/-- The block that owns disposition code `k` (R299). -/
def codeOwner (k : Nat) : Nat :=
  if k = 0 then 0 else if k < 0x10 then 0x20 else if k < 0x30 then 0x21 else if k = 0x30 then 0x23
  else if k < 0x40 then 0x22 else if k < 0x50 then 0x24 else if k < 0x60 then 0x16 else if k < 0x64 then 0x15
  else if k < 0x68 then 0x14 else if k < 0x70 then 0x11 else if k < 0x78 then 0x19 else if k < 0x80 then 0x1A else 0

/-- Whether block `b` supports qualifier kind `k` (R445). -/
def kindOk (b k : Nat) : Bool :=
  if k = 0 then true
  else if k = 1 then [0x20, 0x21, 0x22, 0x23].contains b
  else if k = 2 then [0x22, 0x24].contains b
  else if k = 3 then [0x13, 0x22, 0x15, 0x14].contains b
  else [0x10, 0x11, 0x13, 0x14, 0x16, 0x31].contains b

/-- R449 over the selection of counter `c`; the members are CTR_SRC, CTR_QVAL and CTR_QMASK. [DEDUCED: log 48] -/
def ctrRules (c src : Nat) : Verdict :=
  let b := bits src 0 8
  let e := bits src 8 8
  let k := bits src 16 3
  let w := bits src 24 8
  let eventOk := decide (e ≤ 7) || (decide (0x10 ≤ e) && decide (e ≤ 0x2F)) || (decide (0x80 ≤ e) && decide (codeOwner (e - 0x80) = b))
  firstFail [
    failIf ((decide (15 < w) && decide (w ≠ 0xFF)) || decide (4 < k)) sealRange 0 1,
    failIf (!(ctrBlocks c).contains b) sealDisagree 0 2,
    failIf (!eventOk) sealDisagree 0 3,
    failIf (!kindOk b k) sealDisagree 0 4]

end Sys2Proof.Machine
end

