-- ==== Sys2Proof/Machine/SelWin.lean ====
section
/-!
DEFINITION. Registers that show an entry of a bank's table: the selection windows of ACW (R392), of the monitors (R449), of the
meters (R319) and of the owners (R343), the queue and node registers of TMG (R320), BPM_Q_OWNER (R344) and DFR_SID_DATA
(R137). The entry is the bank's; each has its word here, and a word's change in the table.
-/
namespace Sys2Proof.Machine
open Sys2Proof

/-! ### Entries as words -/

/-- A window's word `j`: ACW_BASE, ACW_LIMIT, ACW_REQ, ACW_FLAGS (R392). -/
def AcwWin.word (w : AcwWin) (j : Nat) : Nat :=
  if j = 0 then w.base else if j = 1 then w.limit else if j = 2 then w.req else b2n w.en + 2 * b2n w.rd + 4 * b2n w.wr

/-- A window with word `j` replaced. -/
def AcwWin.put (w : AcwWin) (j v : Nat) : AcwWin :=
  if j = 0 then { w with base := v % 2 ^ 28 } else if j = 1 then { w with limit := v % 2 ^ 29 }
  else if j = 2 then { w with req := v } else { w with en := bit v 0, rd := bit v 1, wr := bit v 2 }

/-- A counter selection's word `j`: CTR_SRC, CTR_QVAL, CTR_QMASK (R449). -/
def CtrCfg.word (c : CtrCfg) (j : Nat) : Nat := if j = 0 then c.src else if j = 1 then c.qval else c.qmask
def CtrCfg.put (c : CtrCfg) (j v : Nat) : CtrCfg :=
  if j = 0 then { c with src := v } else if j = 1 then { c with qval := v } else { c with qmask := v }

/-- A meter's word `j`: CFG, RATE, BURST (R319). -/
def MtrCfg.word (c : MtrCfg) (j : Nat) : Nat :=
  if j = 0 then b2n c.en + 2 * b2n c.packets + 2 ^ 8 * (c.overhead % 256) + 2 ^ 16 * (c.period % 65536)
  else if j = 1 then c.rate else c.burst
def MtrCfg.put (c : MtrCfg) (j v : Nat) : MtrCfg :=
  if j = 0 then { c with en := bit v 0, packets := bit v 1, overhead := bits v 8 8, period := bits v 16 16 }
  else if j = 1 then { c with rate := v } else { c with burst := v }

/-- An owner's word `j`: 0 CFG, 1 FC, 2 TONE, and 2·t + 4, 2·t + 5 its reserve and cap in tier t (R341, R344). -/
def OwnCfg.word (c : OwnCfg) (j : Nat) : Nat :=
  if j = 0 then b2n c.en + 2 * b2n c.retry + 2 ^ 8 * c.faultThr + 2 ^ 16 * c.profile
  else if j = 1 then c.fcLane + 2 ^ 5 * b2n c.fcEn + 2 ^ 8 * c.fcPri + 2 ^ 16 * c.retryNs
  else if j = 2 then c.toneRate
  else if j % 2 = 0 then c.res.getD ((j - 4) / 2) 0 else c.cap.getD ((j - 4) / 2) 0
def OwnCfg.put (c : OwnCfg) (j v : Nat) : OwnCfg :=
  if j = 0 then { c with en := bit v 0, retry := bit v 1, faultThr := bits v 8 8, profile := bits v 16 4 }
  else if j = 1 then { c with fcLane := bits v 0 5, fcEn := bit v 5, fcPri := bits v 8 8, retryNs := bits v 16 16 }
  else if j = 2 then { c with toneRate := v }
  else if j % 2 = 0 then { c with res := setNth c.res ((j - 4) / 2) (v % 2 ^ 24) }
  else { c with cap := setNth c.cap ((j - 4) / 2) (v % 2 ^ 24) }

/-! ### Which entry a register shows -/

/-- The table entry behind the register word at offset `o` of packet region `n`. -/
def regionView (s : State) (n o : Nat) : Option View :=
  if 0x200204 ≤ o ∧ o < 0x200210 then some (.mtr (131072 * n + get s (F.TMG_MTR_SEL_idx n)) ((o - 0x200204) / 4))
  else if 0x300104 ≤ o ∧ o < 0x300110 then some (.mtr (131072 * n + 65536 + get s (F.POL_MTR_SEL_idx n)) ((o - 0x300104) / 4))
  else if 0x600204 ≤ o ∧ o < 0x600210 then some (.ctr (32 * n + get s (F.RCTR_SEL_ctr n)) ((o - 0x600204) / 4))
  else if 0x400104 ≤ o ∧ o < 0x400110 then some (.own (1024 * n + get s (F.BPM_OWN_SEL_owner n)) ((o - 0x400104) / 4))
  else if 0x400110 ≤ o ∧ o < 0x400128 then some (.own (1024 * n + get s (F.BPM_OWN_SEL_owner n)) (4 + (o - 0x400110) / 4))
  else if 0x410000 ≤ o ∧ o < 0x420000 then some (.qowner (16384 * n + (o - 0x410000) / 4))
  else if 0x210000 ≤ o ∧ o < 0x250000 ∧ o % 16 < 8 then some (.queue (16384 * n + (o - 0x210000) / 16) (o % 16 / 4))
  else if 0x250000 ≤ o ∧ o < 0x260000 ∧ o % 16 < 8 then some (.node (4096 * n + (o - 0x250000) / 16) (o % 16 / 4))
  else none

/-- The table entry behind the register word at `a`. -/
def viewAt (s : State) (a : Nat) : Option View :=
  match regionAt a with
  | some n => regionView s n (a % 0x1000000)
  | none =>
    if 0x60004 ≤ a ∧ a < 0x60014 then some (.acw (get s F.ACW_SEL_win) ((a - 0x60004) / 4))
    else if 0x50204 ≤ a ∧ a < 0x50210 then some (.ctr (128 + get s F.PCTR_SEL_ctr) ((a - 0x50204) / 4))
    else if a = R.DFR_SID_DATA then some (.sid (32768 * get s F.DFR_SID_ADDR_path + get s F.DFR_SID_ADDR_word))
    else none

/-- A queue's word: TMG_Q_CFG but for pfc_held, TMG_Q_LIMIT; parent 0x1FFF while it is not in the map (R320). -/
def queueWord (b : Bank) (q j : Nat) : Nat :=
  match Tab.find b.queues q with
  | some x => if j = 0 then x.parent + 2 ^ 16 * b2n x.en + 2 ^ 17 * b2n x.shaped else x.limit
  | none => if j = 0 then 0x1FFF else 0

/-- A node's word: TMG_N_CFG, TMG_N_SCHED (R320). A node outside the tree shows parent 0x1FFF and no shaper. -/
def nodeWord (b : Bank) (m j : Nat) : Nat :=
  match Tab.find b.nodes m with
  | some x =>
    if j = 0 then x.parent.getD 0x1FFF + 2 ^ 13 * x.level + 2 ^ 15 * x.kind + 2 ^ 17 * b2n x.weighted +
      2 ^ 18 * (match x.shaper with
        | some i => i - 16384
        | none => 0x1FFF)
    else x.weight + 2 ^ 16 * x.rank + 2 ^ 24 * (x.target % 64)
  | none => if j = 0 then 0x1FFF + 2 ^ 18 * 0x1FFF else 0

/-- The word of an entry in bank `b`. -/
def View.word (b : Bank) (v : View) : Nat := match v with
  | .acw w j => (Tab.getD b.windows w {}).word j
  | .ctr c j => (Tab.getD b.ctrs c {}).word j
  | .mtr k j => (Tab.getD b.meters k {}).word j
  | .own o j => (Tab.getD b.owners o {}).word j
  | .queue q j => queueWord b q j
  | .node m j => nodeWord b m j
  | .qowner q => Tab.getD b.qowner q 0
  | .sid w => (Tab.getD b.sidFilter w 0).toNat

/-- Bank `b` with the word of an entry replaced, where a write may replace it: a queue outside the map and a node outside the
tree have nothing to write. [DEDUCED: log 50] -/
def View.put (b : Bank) (v : View) (x : Nat) : Bank := match v with
  | .acw w j => { b with windows := Tab.upd b.windows w {} (fun e => e.put j x) }
  | .ctr c j => { b with ctrs := Tab.upd b.ctrs c {} (fun e => e.put j x) }
  | .mtr k j => { b with meters := Tab.upd b.meters k {} (fun e => e.put j x) }
  | .own o j => { b with owners := Tab.upd b.owners o {} (fun e => e.put j x) }
  | .queue q j => match Tab.find b.queues q with
    | some e => { b with queues := Tab.set b.queues q (if j = 0 then { e with en := bit x 16 } else { e with limit := x }) }
    | none => b
  | .node m j => match Tab.find b.nodes m with
    | some e => if j = 1 then { b with nodes := Tab.set b.nodes m { e with weight := bits x 0 12 } } else b
    | none => b
  | .qowner q => { b with qowner := Tab.set b.qowner q (x % 1024) }
  | .sid w => { b with sidFilter := if x = 0 then Tab.del b.sidFilter w else Tab.set b.sidFilter w (BitVec.ofNat 32 x) }

end Sys2Proof.Machine
end

