-- ==== Sys2Proof/Machine/Seal.lean ====
section
/-!
DEFINITION. Agreement groups and seals (R80 to R84): member writes, the seal and its check, what a sealed value does at once
(R271, R284, R311, R449), the hold limit.
-/
namespace Sys2Proof.Machine
open Sys2Proof

/-! ### Members -/

/-- The member registers of the group with SEAL register `g`, in the group's order. -/
def groupMembers (g : Nat) : List Nat :=
  let run := fun (base n : Nat) => (List.range n).map (fun j => base + 4 * j)
  if g < 0x1000000 then
    if g = R.DFR_THR_SEAL then run (g - 12) 3
    else if g = R.ACW_SEAL then run (g - 16) 4
    else if g = R.PCTR_SEAL then run (g - 12) 3
    else run (g - 8) 2
  else
    let o := g % 0x1000000
    let b := g - o
    if o = 4 then (List.range 32).map (fun l => b + 0x1000 + 64 * l) ++ [b]
    else if o = 0x100008 then
      (List.range 8).map (fun t => b + 0x100400 + 16 * t) ++ (List.range 8).map (fun t => b + 0x100404 + 16 * t) ++
      (List.range 8).flatMap (fun t => run (b + 0x100600 + 64 * t) 16)
    else if o = 0x400128 then run (b + 0x400110) 6
    else run (g - 12) 3

/-- The group has a /P0 member (R81): the access windows' group. -/
def groupP0 (g : Nat) : Bool := decide (g = R.ACW_SEAL)

/-- The value of a member in effect. -/
def memberNow (s : State) (a : Nat) : Nat := match viewAt s a with
  | some v => v.word s.bank
  | none => (rdWord s a).toNat

/-- The bits of a member word that belong to the group: its AG fields. -/
def memberMask (a : Nat) (v : Nat) : Nat :=
  (wordFields a (fun _ f => f.stage == .ag)).foldl (fun x f => setBits x f.1 f.2 (bits v f.1 f.2)) 0

/-- What a read of a member returns (R80): its pending value while the group is HELD or CHECKING. -/
def memberRead (s : State) (g a : Nat) : Nat :=
  match (groupSt s g).bind (fun x => Tab.find x.pend a) with
  | some w => w.toNat
  | none => memberNow s a

/-- State of a group: 0 CONSISTENT, 1 HELD, 2 CHECKING. -/
def groupState (s : State) (g : Nat) : Nat := get s (sealState g)

/-- A write of a member (R80): pending, and the group HELD; discarded while the group is CHECKING. -/
def memberWrite (s : State) (g a v : Nat) : State :=
  if groupState s g = 2 then s
  else
    let x := (groupSt s g).getD {}
    let x := { x with pend := Tab.set x.pend a (BitVec.ofNat 32 (memberMask a v)) }
    put { s with epc := { s.epc with groups := Tab.set s.epc.groups g x } } (sealState g) 1

/-! ### The rules of a group (R81) -/

/-- Classes of region `n`'s parse graph. -/
def graphClasses (b : Bank) (n : Nat) : List Nat := match Tab.find b.graph n with
  | some g => g.nodes.map (fun e => e.2.cls)
  | none => []

/-- Ports named by a valid downstream or upstream container, as local lanes of region `n` (R270). -/
def tribPorts (s : State) (n : Nat) : List Nat :=
  let ports := (List.range 32).filterMap (fun t => if getB s (F.DFR_TRIB_CFG_valid t) then Tab.find s.bank.downPort t else none) ++
    (List.range 32).filterMap (fun t => if getB s (F.UPB_TRIB_CFG_valid t) then Tab.find s.bank.upPort t else none)
  (ports.filter (fun k => decide (k / 32 = n))).map (fun k => k % 32)

/-- Rule 6 of R270: a port named by a valid container keeps its rate, width and mode. -/
def portKept (s : State) (n : Nat) (cfg : List Nat) : Verdict :=
  firstFail ((List.range 32).map (fun l =>
    failIf ((tribPorts s n).contains l && decide (bits (cfg.getD l 0) 0 6 ≠ bits (rdWord s (R.CMC_PORT_CFG n l)).toNat 0 6)) sealDisagree l 6))

/-- The owners of region `n` in a bank, by local ID. -/
def regionOwners (b : Bank) (n : Nat) : Tab OwnCfg :=
  (b.owners.filter (fun e => decide (e.1 / 1024 = n))).map (fun e => (e.1 % 1024, e.2))

/-- The check of a packet region's group at offset `o`, with member values `v`. -/
def regionVerdict (s : State) (n o : Nat) (v : List Nat) : Verdict :=
  let at_ := fun i => v.getD i 0
  if o = 4 then firstFail [portRules (v.take 32) (at_ 32), portKept s n (v.take 32)]
  else if o = 0x100008 then
    tblRules ⟨v.take 8, (List.range 8).map (fun t => (v.drop (16 + 16 * t)).take 16)⟩ (graphClasses s.bank n)
  else if o = 0x400128 then
    let res := [at_ 0, at_ 2, at_ 4]
    let cap := [at_ 1, at_ 3, at_ 5]
    let sel := get s (F.BPM_OWN_SEL_owner n)
    let own := Tab.upd (regionOwners s.bank n) sel {} (fun c => { c with res := res, cap := cap })
    firstFail [ownRules res cap, ownSums (own.map (fun e => e.2))
      ((List.range 3).map (fun t => get s (F.BPM_POOL_THR_shade n t))) ((List.range 3).map (fun t => poolSize s n t))]
  else if o = 0x600210 then ctrRules (32 * n + get s (F.RCTR_SEL_ctr n)) (at_ 0)
  else mtrRules ((({} : MtrCfg).put 0 (at_ 0)).put 1 (at_ 1) |>.put 2 (at_ 2))

/-- The check of the group at `g` with member values `v` (R81). [DEDUCED: log 47] -/
def groupVerdict (s : State) (g : Nat) (v : List Nat) : Verdict :=
  let at_ := fun i => v.getD i 0
  match regionAt g with
  | some n => regionVerdict s n (g % 0x1000000) v
  | none =>
    if g = R.DFR_THR_SEAL then thrRules (at_ 0) (at_ 1) (at_ 2)
    else if g = R.ACW_SEAL then acwRules ((((({} : AcwWin).put 0 (at_ 0)).put 1 (at_ 1)).put 2 (at_ 2)).put 3 (at_ 3))
    else if g = R.PCTR_SEAL then ctrRules (128 + get s F.PCTR_SEL_ctr) (at_ 0)
    else detRules (at_ 0) (at_ 1)

/-! ### Values that take effect -/

/-- Put a sealed member word: into the active bank, and the other one while section `i` is not loaded (R62). -/
def memberApply (s : State) (i a v : Nat) : State :=
  match viewAt s a with
  | some x => modBanks s i (fun b => x.put b v)
  | none => (wordFields a (fun _ f => f.stage == .ag)).foldl (fun s f => putExpert s i ⟨a, f.1, f.2⟩ (bits v f.1 f.2)) s

/-- What a seal does beside the values: changed ports go to DOWN (R271), changed tables lose their entries (R284), a meter takes
its settings (R311), a counter goes to 0 (R449). -/
def sealEffects (s : State) (g : Nat) (old : Cfg) : State :=
  match regionAt g with
  | some n =>
    let o := g % 0x1000000
    if o = 4 then commitPorts s old n true
    else if o = 0x100008 then
      (List.range 8).foldl (fun s t =>
        let was := (cfgWord old (R.PRS_TBL_CFG n t)).toNat
        let now := (rdWord s (R.PRS_TBL_CFG n t)).toNat
        let slices := fun w => if tblExact w then 0 else w / 2 ^ 16
        let fields := (List.range 16).any (fun f => decide (cfgWord old (R.PRS_KEY_FLD n t f) ≠ rdWord s (R.PRS_KEY_FLD n t f)))
        if bits was 1 15 ≠ bits now 1 15 ∨ slices was ≠ slices now ∨ fields then clearTable s n t else s) s
    else if o = 0x200210 then meterApply s n (get s (F.TMG_MTR_SEL_idx n))
    else if o = 0x300110 then meterApply s n (65536 + get s (F.POL_MTR_SEL_idx n))
    else if o = 0x600210 then put s (ctrLive (32 * n + get s (F.RCTR_SEL_ctr n))) 0
    else s
  | none => if g = R.PCTR_SEAL then put s (ctrLive (128 + get s F.PCTR_SEL_ctr)) 0 else s

/-! ### The seal -/

/-- Whether a seal of group `g` meets a commit that carries its section (R83). [DEDUCED: log 161] -/
def sealMeetsCommit (s : State) (g : Nat) : Bool :=
  (decide (epcState s = epcCommitting) || decide (epcState s = epcDraining)) && inSecs s.epc.carried (groupSec g)

/-- A write of SEAL.seal (R81): the check begins; R83 looks at the state in which it completes. [DEDUCED: log 47] -/
def sealStart (s : State) (r : Requester) (g : Nat) : State :=
  if groupState s g = 2 then s
  else if groupState s g = 0 then sealResult s g sealNotHeld 0 0
  else if groupP0 g && !isP0 s r then sealResult s g sealPriv 0 0
  else put s (sealState g) 2

/-- A write of SEAL.abandon (R81). -/
def sealAbandon (s : State) (g : Nat) : State :=
  if groupState s g = 2 then s
  else if groupState s g = 0 then sealResult s g sealNotHeld 0 0
  else sealResult (groupClear s g) g sealAbandoned 0 0

/-- The check ends (R81): the values take effect together, or are discarded; a check that would end in COMMITTING or DRAINING
leaves them held (R83). [DEDUCED: log 47, 161] -/
def sealDone (s : State) (g : Nat) : State :=
  if groupState s g ≠ 2 then s
  else if sealMeetsCommit s g then sealResult (put s (sealState g) 1) g sealEpochBusy 0 0
  else
    let v := (groupMembers g).map (memberRead s g)
    match groupVerdict s g v with
    | some (code, m, k) => inc (sealResult (groupClear s g) g code m k) F.EPC_SEAL_FAIL_count
    | none =>
      let old := activeCfg s
      let pend := ((groupSt s g).getD {}).pend
      let s := pend.foldl (fun s e => memberApply s (groupSec g) e.1 e.2.toNat) (groupClear s g)
      sealEffects (sealResult s g sealOk 0 0) g old

/-- The hold limit passes (R82). -/
def holdTimeout (s : State) (g : Nat) : State :=
  if groupState s g = 1 then
    let s := sealResult (groupClear s g) g sealTimeout 0 0
    match spanAt g with
    | some p => raiseFor s F.EPC_EVENT_hold_timeout .amber p.region 0 (2 ^ 24 * p.blk + (g - p.base))
    | none => s
  else s

/-- The SEAL register at `a`, if there is one. -/
def isSeal (a : Nat) : Bool := (groupMembers a).headD 0 ≠ 0 && decide (groupOf ((groupMembers a).headD 0) = some a)

/-! ### Commands -/

/-- GROUP_MEMBER_WRITE (R80). -/
def execGroupMemberWrite (r : Requester) (a : BitVec 28) (v : Word) (s : State) : Host.Outcome State Fault Refusal :=
  finish s (match groupOf a.toNat with
    | some g => (if groupP0 g then onWriteP0 else onWrite) s r a.toNat (fun s => memberWrite s g a.toNat v.toNat)
    | none => s)

/-- SEAL (R81). -/
def execSeal (r : Requester) (a : BitVec 28) (s : State) : Host.Outcome State Fault Refusal :=
  finish s (if isSeal a.toNat then onWrite s r a.toNat (fun s => sealStart s r a.toNat) else s)

/-- SEAL_ABANDON (R81). -/
def execSealAbandon (r : Requester) (a : BitVec 28) (s : State) : Host.Outcome State Fault Refusal :=
  finish s (if isSeal a.toNat then onWrite s r a.toNat (fun s => sealAbandon s a.toNat) else s)

/-- SEAL_CHECK_DONE (R81). -/
def execSealCheckDone (a : BitVec 28) (s : State) : Host.Outcome State Fault Refusal := finish s (sealDone s a.toNat)

/-- GROUP_HOLD_TIMEOUT (R82). -/
def execGroupHoldTimeout (a : BitVec 28) (s : State) : Host.Outcome State Fault Refusal := finish s (holdTimeout s a.toNat)

end Sys2Proof.Machine
end

