-- ==== Sys2Proof/Machine/SecCtl.lean ====
section
/-!
DEFINITION. The sections that govern the control region and the values without a section of their own: TIME (R366, R367),
POWERPLAN (R429, R430), MONITORS (R450), ACCESS (R394), TUNING (R78, R79 and the parameter tables of the block chapters).
-/
namespace Sys2Proof.Machine
open Sys2Proof

/-! ### TIME (R366, R367) -/

/-- The port entries of a body. -/
def timePorts (b : List Byte) : List (List Byte) := entries (byteAt b 0x2A) 8 (b.drop 48)

/-- Capacity of R366. -/
def timeOver (b : List Byte) : Bool := decide (128 < byteAt b 0x2A)

/-- The load's rules of R367. -/
def timeOk (b : List Byte) : Bool :=
  decide (byteAt b 0x2A ≤ 128) && decide (b.length = 48 + 8 * byteAt b 0x2A) && decide (byteAt b 0 ≤ 3) &&
  within (byteAt b 1) 1 10 && decide (byteAt b 2 ≤ 3) && decide (byteAt b 3 ≤ 3) && decide (byteAt b 4 ≤ 31) &&
  decide (byteAt b 5 < 8) && decide (le b 8 4 ≤ 4000000000) && decide (le b 12 4 ≤ 4000000000) &&
  [0x18, 0x20].all (fun o => decide (byteAt b o ≤ 3) && decide (byteAt b (o + 1) < 8) && within (le b (o + 2) 2) 1 500) &&
  decide (byteAt b 0x28 ≤ 3) && decide (byteAt b 0x29 ≤ 1) && zeroAt b 0x2B 5 &&
  ascending ((timePorts b).map (fun e => byteAt e 0)) &&
  (timePorts b).all (fun e => decide (byteAt e 0 < 128) && decide (byteAt e 1 < 2) && zeroAt e 2 2)

/-- TIME into a bank. [DEDUCED: log 146] -/
def timeApply (b : List Byte) (c : Cfg) : Cfg :=
  let fl := byteAt b 5
  let c := cfgPuts c [(F.TSU_CTRL_serve, byteAt b 0), (F.TSU_CTRL_slew, byteAt b 1), (F.TSU_CTRL_desc_dom, byteAt b 2),
    (F.TSU_CTRL_local_src, byteAt b 3), (F.TSU_CTRL_ptp_class, byteAt b 4), (F.TSU_CTRL_tc_line, fl),
    (F.TSU_CTRL_tod_en, fl / 2), (F.TSU_CTRL_auto_set, fl / 4), (F.TSU_UTC_OFF_off, le b 6 2),
    (F.TSU_D_TEQ_teq 0, le b 8 4), (F.TSU_D_TEQ_teq 1, le b 12 4), (F.TSU_D_FASYM_asym 0, le b 16 4),
    (F.TSU_D_FASYM_asym 1, le b 20 4), (F.TSU_REF_CFG_dom, byteAt b 0x28), (F.TSU_REF_CFG_en, byteAt b 0x29)]
  let c := [0, 1].foldl (fun c k =>
    let o := 0x18 + 8 * k
    let f := byteAt b (o + 1)
    cfgPuts c [(F.TSU_PPS_CFG_dom k, byteAt b o), (F.TSU_PPS_CFG_en k, f), (F.TSU_PPS_CFG_invert k, f / 2),
      (F.TSU_PPS_CFG_squelch k, f / 4), (F.TSU_PPS_CFG_width k, le b (o + 2) 2), (F.TSU_PPS_DELAY_delay k, le b (o + 4) 4)]) c
  let c := cfgBank c (fun k => { k with timePorts := (timePorts b).map (fun e => byteAt e 0) })
  let c := (List.range 128).foldl (fun c p =>
    cfgPuts c [(F.TSU_PORT_CFG_tc_en p, 0), (F.TSU_PORT_RX_board p, 0), (F.TSU_PORT_TX_board p, 0)]) c
  (timePorts b).foldl (fun c e =>
    let p := byteAt e 0
    cfgPuts c [(F.TSU_PORT_CFG_tc_en p, byteAt e 1), (F.TSU_PORT_RX_board p, le e 4 2), (F.TSU_PORT_TX_board p, le e 6 2)]) c

/-! ### POWERPLAN (R429, R430) -/

/-- Schedule entry `k`. -/
def planEntry (b : List Byte) (k : Nat) : List Byte := sub b (40 + 16 * k) 16

/-- Whether an allow mask allows state `t`; ON is always allowed (R430). -/
def planAllows (allow t : Nat) : Bool := decide (t = 0) || (decide (t ≤ 3) && bit allow (t - 1))

/-- The load's rules of R430. -/
def planOk (b : List Byte) : Bool :=
  decide (byteAt b 0 ≤ 32) && zeroAt b 1 7 && decide (b.length = 40 + 16 * byteAt b 0) &&
  (List.range 4).all (fun n =>
    let e := sub b (8 + 8 * n) 8
    decide (byteAt e 0 < 8) && decide (byteAt e 1 < 4) && planAllows (byteAt e 0) (byteAt e 2) && zeroAt e 3 5) &&
  (List.range (byteAt b 0)).all (fun k =>
    let e := planEntry b k
    decide (byteAt e 0 ≤ 3) && planAllows (byteAt b (8 + 8 * byteAt e 0)) (byteAt e 1) && zeroAt e 2 2 && zeroAt e 10 6)

/-- POWERPLAN into a bank. [DEDUCED: log 146] -/
def planApply (b : List Byte) (c : Cfg) : Cfg :=
  let c := (List.range 4).foldl (fun c n =>
    let e := sub b (8 + 8 * n) 8
    cfgPuts c [(F.PWR_D_CFG_allow n, byteAt e 0), (F.PWR_D_CFG_rel_auto n, byteAt e 1), (F.PWR_D_CFG_wake_grant n, byteAt e 1 / 2)]) c
  let c := (List.range 32).foldl (fun c k =>
    let e := if k < byteAt b 0 then planEntry b k else []
    cfgPuts c [(F.PWR_SCHED_FN_fn k, le e 4 6), (F.PWR_SCHED_CTRL_domain k, byteAt e 0), (F.PWR_SCHED_CTRL_target k, byteAt e 1)]) c
  cfgBank c (fun k => { k with pwrInit := (List.range 4).map (fun n => (n, byteAt b (10 + 8 * n))), nSched := byteAt b 0 })

/-! ### MONITORS (R450) -/

/-- Windows, counters and rate limits of a body. -/
def monWins (b : List Byte) : List (List Byte) := entries (byteAt b 0) 16 (b.drop 16)
def monCtrs (b : List Byte) : List (List Byte) := entries (le b 4 2) 16 (b.drop (16 + 16 * byteAt b 0))
def monRates (b : List Byte) : List (List Byte) := entries (le b 8 4) 8 (b.drop (16 + 16 * (byteAt b 0 + le b 4 2)))

/-- The selection word of a counter entry. -/
def monSrc (e : List Byte) : Nat := byteAt e 2 + 2 ^ 8 * byteAt e 3 + 2 ^ 16 * (byteAt e 4 % 8) + 2 ^ 24 * byteAt e 1

/-- Capacities of R450. -/
def monitorsOver (b : List Byte) : Bool := decide (16 < byteAt b 0) || decide (192 < le b 4 2) || decide (65536 < le b 8 4)

/-- The load's rules of R450. -/
def monitorsOk (b : List Byte) : Bool :=
  decide (byteAt b 0 ≤ 16) && zeroAt b 1 3 && decide (le b 4 2 ≤ 192) && zeroAt b 6 2 && decide (le b 8 4 ≤ 65536) && zeroAt b 12 4 &&
  decide (b.length = 16 + 16 * (byteAt b 0 + le b 4 2) + 8 * le b 8 4) &&
  ascending ((monWins b).map (fun e => byteAt e 0)) &&
  (monWins b).all (fun e => decide (byteAt e 0 < 16) && decide (byteAt e 1 < 2) && zeroAt e 2 2 && decide (1 ≤ le e 10 2) &&
    (decide (le e 12 2 = 0) || decide (le e 10 2 < le e 12 2)) && zeroAt e 14 2) &&
  ascending ((monCtrs b).map (fun e => byteAt e 0)) &&
  (monCtrs b).all (fun e => decide (byteAt e 0 < 192) && decide (byteAt e 4 < 8) && decide (byteAt e 5 < 4) && zeroAt e 6 2 &&
    (ctrRules (byteAt e 0) (monSrc e)).isNone) &&
  ascending ((monRates b).map (fun e => le e 0 2)) &&
  (monRates b).all (fun e => decide (le e 2 2 ≤ 1024) && within (le e 4 2) 1 256 && zeroAt e 6 2)

/-- MONITORS into a bank. -/
def monitorsApply (b : List Byte) (c : Cfg) : Cfg :=
  let c := (List.range 16).foldl (fun c w =>
    let e := ((monWins b).find? (fun e => decide (byteAt e 0 = w))).getD []
    cfgPuts c [(F.PMON_WIN_FN_fn w, le e 4 6), (F.PMON_WIN_LEN_len w, le e 10 2), (F.PMON_WIN_LEN_period w, le e 12 2),
      (F.PMON_WIN_CTRL_en w, byteAt e 1)]) c
  let c := (List.range 192).foldl (fun c k =>
    let e := ((monCtrs b).find? (fun e => decide (byteAt e 0 = k))).getD []
    cfgPuts c [(ctrEn k, byteAt e 5), (ctrIntEn k, byteAt e 5 / 2)]) c
  cfgBank c (fun k => { k with
    ctrs := addAll [] ((monCtrs b).map (fun e => (byteAt e 0, ({ src := monSrc e, qval := le e 8 4, qmask := le e 12 4 } : CtrCfg))))
    rateLimit := addAll [] ((monRates b).map (fun e => (le e 0 2, (le e 2 2, le e 4 2)))) })

/-! ### ACCESS (R394) -/

/-- The windows of a body, and one as data. -/
def accWins (b : List Byte) : List (List Byte) := entries (le b 0 2) 16 (b.drop 16)
def accWin (e : List Byte) : AcwWin := {
  base := le e 8 4, limit := le e 12 4, req := le e 4 4, en := bit (byteAt e 1) 0, rd := bit (byteAt e 1) 1, wr := bit (byteAt e 1) 2 }

/-- Capacity and the load's rules of R394. -/
def accessOver (b : List Byte) : Bool := decide (256 < le b 0 2)
def accessOk (b : List Byte) : Bool :=
  let own := sub b (16 + 16 * le b 0 2) 192
  decide (b.length = 208 + 16 * le b 0 2) && zeroAt b 2 14 && distinct ((accWins b).map (fun e => byteAt e 0)) &&
  (accWins b).all (fun e => decide (byteAt e 1 < 8) && zeroAt e 2 2 && (acwRules (accWin e)).isNone) &&
  own.all (fun x => decide (x.toNat ≤ 15) || decide (x.toNat = 0xFF))

/-- ACCESS into a bank. -/
def accessApply (b : List Byte) (c : Cfg) : Cfg :=
  let o := 16 + 16 * le b 0 2
  let c := (List.range 64).foldl (fun c k => cfgPuts c [(F.ACW_TX_OWNER_fn k, byteAt b (o + k)),
    (F.ACW_RX_OWNER_fn k, byteAt b (o + 64 + k)), (F.ACW_MBX_OWNER_fn k, byteAt b (o + 128 + k))]) c
  cfgBank c (fun k => { k with windows := addAll [] ((accWins b).map (fun e => (byteAt e 0, accWin e))) })

/-! ### TUNING (R78, R79) -/

/-- A parameter of the block chapters: block, parameter, regions that have the block, instances, range, default. -/
structure TuneParam where
  block : Nat
  param : Nat
  regions : Nat
  insts : Nat
  lo : Nat
  hi : Nat
  dflt : Nat
  deriving DecidableEq, Repr

/-- Parameters of FLT (R453), ACT (R160), UPB (R189), BND (R210), MCH (R138), CPL (R382). -/
def tuneLine : List TuneParam := [
  ⟨0x08, 1, 0x20, 1, 10, 10000, 100⟩, ⟨0x08, 2, 0x20, 6, 0, 1, 1⟩, ⟨0x08, 3, 0x20, 1, 1, 15, 3⟩,
  ⟨0x12, 1, 0x10, 2, 0, 1, 1⟩, ⟨0x12, 2, 0x10, 2, 0, 1, 1⟩, ⟨0x12, 3, 0x10, 2, 16, 65535, 15625⟩,
  ⟨0x12, 4, 0x10, 2, 16, 65535, 3125⟩, ⟨0x12, 5, 0x10, 2, 1, 255, 16⟩, ⟨0x12, 6, 0x10, 2, 1, 255, 8⟩,
  ⟨0x12, 7, 0x10, 2, 125, 65535, 15625⟩, ⟨0x12, 8, 0x10, 2, 1, 255, 16⟩, ⟨0x13, 1, 0x10, 1, 1, 15, 2⟩,
  ⟨0x13, 2, 0x10, 1, 0, 2, 0⟩, ⟨0x14, 1, 0x10, 64, 1, 20, 20⟩, ⟨0x18, 1, 0x10, 1, 0, 3, 1⟩, ⟨0x18, 2, 0x10, 1, 0, 2, 0⟩,
  ⟨0x18, 3, 0x10, 1, 0, 63, 0⟩, ⟨0x18, 4, 0x10, 1, 8, 868, 8⟩, ⟨0x19, 1, 0x20, 1, 10, 10000, 1000⟩,
  ⟨0x19, 2, 0x20, 1, 1, 10000, 100⟩, ⟨0x19, 3, 0x20, 1, 1, 255, 255⟩]

/-- Parameters of CMC (R269), PRS (R297), TMG (R320). -/
def tunePacket : List TuneParam := [
  ⟨0x20, 1, 0xF, 32, 1518, 16384, 9600⟩, ⟨0x20, 2, 0xF, 32, 0, 1, 1⟩, ⟨0x20, 3, 0xF, 32, 0, 2, 0⟩, ⟨0x20, 4, 0xF, 32, 0, 255, 255⟩,
  ⟨0x20, 5, 0xF, 32, 1, 10000, 100⟩, ⟨0x20, 6, 0xF, 32, 1, 65535, 65535⟩, ⟨0x20, 7, 0xF, 32, 1, 65535, 32768⟩,
  ⟨0x20, 8, 0xF, 32, 0, 7, 1⟩, ⟨0x21, 1, 0xF, 1, 1, 50000, 2000⟩, ⟨0x21, 2, 0xF, 1, 64, 65535, 4096⟩,
  ⟨0x22, 1, 0xF, 32, 0, 0xFFFFFF, 0xFAC688⟩]

/-- Every parameter but the group parameter of R129. -/
def tuneParams : List TuneParam := tuneLine ++ tunePacket

/-- The field that a parameter sets, in region `n` and instance `i`. -/
def tuneField (block param n i : Nat) : Option Fld :=
  match block, param with
  | 0x08, 1 => some F.FLT_CTRL_hang_us
  | 0x08, 2 => some ⟨R.FLT_CTRL, i, 1⟩
  | 0x08, 3 => some F.FLT_CTRL_reset_limit
  | 0x12, 1 => some (F.ACT_CTRL_enable i)
  | 0x12, 2 => some (F.ACT_CTRL_skew_en i)
  | 0x12, 3 => some (F.ACT_TIMER_A_to3 i)
  | 0x12, 4 => some (F.ACT_TIMER_A_to6 i)
  | 0x12, 5 => some (F.ACT_TIMER_B_home_to i)
  | 0x12, 6 => some (F.ACT_TIMER_B_frag_to i)
  | 0x12, 7 => some (F.ACT_SKEW_CFG_period i)
  | 0x12, 8 => some (F.ACT_SKEW_CFG_thr i)
  | 0x13, 1 => some F.UPB_CTRL_frag_to
  | 0x13, 2 => some F.UPB_CTRL_tint_src
  | 0x14, 1 => some (F.BND_DG_STATUS_skew_max (i / 32) (i % 32))
  | 0x18, 1 => some F.MCH_CTRL_sink
  | 0x18, 2 => some F.MCH_CTRL_path_sel
  | 0x18, 3 => some F.MCH_CTRL_ring
  | 0x18, 4 => some F.MCH_UART_div
  | 0x19, 1 => some F.CPL_WDT_period
  | 0x19, 2 => some F.CPL_MBX_TO_ms
  | 0x19, 3 => some F.CPL_WDT_core_mask
  | 0x20, 1 => some (F.CMC_PORT_MAC_maxlen n i)
  | 0x20, 2 => some (F.CMC_PORT_MAC_pad_en n i)
  | 0x20, 3 => some (F.CMC_PORT_FC_mode n i)
  | 0x20, 4 => some (F.CMC_PORT_FC_rx_mask n i)
  | 0x20, 5 => some (F.CMC_PORT_PW_limit n i)
  | 0x20, 6 => some (F.CMC_PORT_FC_tx_quanta n i)
  | 0x20, 7 => some (F.CMC_PORT_PW_tx_refresh n i)
  | 0x20, 8 => some (F.CMC_LANE_TXEQ_preset n i)
  | 0x21, 1 => some (F.PRS_SLOW_RATE_rate n)
  | 0x21, 2 => some (F.PRS_SLOW_RATE_burst n)
  | 0x22, 1 => some (F.TMG_PFC_MAP_map n i)
  | _, _ => none

/-- The words of a body. -/
def wordsOf (b : List Byte) : List Nat := (entries (b.length / 4) 4 b).map leNat

/-- A record at the front of `ws` (R78), if its length fits (R79). -/
def recordAt (ws : List Nat) : Option (TuneRec × Nat) :=
  let w := fun (i : Nat) => ws.getD i 0
  let count := bits (w 1) 0 16
  let width := bits (w 2) 24 8
  let len := bits (w 2) 0 16
  if ws.length < 3 ∨ len ≠ 3 + count * width ∨ ws.length < len ∨ count = 0 ∨ width = 0 then none
  else some ({ block := bits (w 0) 24 8, regions := bits (w 0) 16 8, param := bits (w 0) 0 16, first := bits (w 1) 16 16
               width := width, group := bit (w 2) 16, values := (ws.drop 3).take (count * width) }, len)

/-- The load's rules of R79 over one record. [DEDUCED: log 35] -/
def recordOk (r : TuneRec) : Bool :=
  if r.block = 0x11 ∧ r.param = 0x8001 then
    r.group && decide (r.width = 3) && decide (r.first = 0) && decide (r.values.length = 3) && decide (r.regions &&& 0xEF = 0)
  else match tuneParams.find? (fun p => decide (p.block = r.block) && decide (p.param = r.param)) with
    | none => false
    | some p => !r.group && decide (r.width = 1) && decide (r.regions &&& (255 - p.regions) = 0) &&
        decide (r.first + r.values.length ≤ p.insts) && r.values.all (fun v => within v p.lo p.hi)

/-- The records of a body; the index of the first one that R79 refuses. [DEDUCED: log 35] -/
def tuneRecords (fuel i : Nat) (ws : List Nat) : List TuneRec × Option Nat :=
  match fuel with
  | 0 => ([], none)
  | k + 1 =>
    if ws.isEmpty then ([], none)
    else match recordAt ws with
      | none => ([], some i)
      | some (r, len) =>
        if recordOk r then
          let rest := tuneRecords k (i + 1) (ws.drop len)
          (r :: rest.1, rest.2)
        else ([], some i)

/-- The records of a body, and the index of a refused one. [DEDUCED: log 35] -/
def tuning (b : List Byte) : List TuneRec × Option Nat :=
  if b.length % 4 ≠ 0 then ([], some 0) else tuneRecords (b.length / 4 + 1) 0 (wordsOf b)

/-- A parameter's value in every region and instance of a record. -/
def tunePut (c : Cfg) (block param regions first : Nat) (values : List Nat) : Cfg :=
  let regs := if regions % 16 ≠ 0 then bitsSet 4 regions else if regions = 0 then [] else [0]
  regs.foldl (fun c n => (values.zipIdx first).foldl (fun c e => match tuneField block param n e.2 with
    | some f => cfgPut c f e.1
    | none => c) c) c

/-- TUNING into a bank: every parameter at its default, then the records in order. [DESIGN CHOICE: log 207] -/
def tuningApply (b : List Byte) (c : Cfg) : Cfg :=
  let c := tuneParams.foldl (fun c p => tunePut c p.block p.param p.regions 0 (List.replicate p.insts p.dflt)) c
  (tuning b).1.foldl (fun c r =>
    if r.group then
      (if r.regions = 0 then c else [R.DFR_EXC, R.DFR_SD_SET, R.DFR_SD_CLR].zipIdx.foldl (fun c e =>
        cfgPutWord c e.1 (mergeWord (wordFields e.1 (fun _ f => decide (f.sec = 18))) (cfgWord c e.1)
          (BitVec.ofNat 32 (r.values.getD e.2 0)))) c)
    else tunePut c r.block r.param r.regions r.first r.values) c

end Sys2Proof.Machine
end

