-- ==== Sys2Proof/Machine/SecLine.lean ====
section
/-!
DEFINITION. The sections that govern the line region: LINEMAP (R108), BONDSET (R208, R209), PATHSET (R232), STREAMS (R187,
R188), CRYPTO (R250). For each: whether a body's counts exceed a capacity, whether its content passes the load's rules,
and what it puts into a bank.
-/
namespace Sys2Proof.Machine
open Sys2Proof

/-! ### LINEMAP (R108) -/

/-- The entry of lane pair `p`. -/
def lineEntry (b : List Byte) (p : Nat) : List Byte := sub b (8 + 8 * p) 8

/-- The load's rules of R108. -/
def linemapOk (s : State) (b : List Byte) : Bool :=
  decide (b.length = 1032) && decide (byteAt b 0 < 4) && zeroAt b 1 7 &&
  (List.range 128).all (fun p =>
    let e := lineEntry b p
    let fl := byteAt e 0
    let init := byteAt e 1
    let trim := toSigned 8 (byteAt e 6)
    decide (fl < 32) && decide (init ≤ 4) && decide (-30 ≤ trim) && decide (trim ≤ 0) && zeroAt e 7 1 &&
    !(bit fl 1 && !bit fl 0) && !(decide (init ≠ 4) && !bit fl 0)) &&
  [Path.a, Path.b].all (fun q => !bit (byteAt b 0) (qn q) || (match refChan s q with
    | some n => decide (byteAt (lineEntry b (laneOf q n)) 1 = 0)
    | none => true))

/-- LINEMAP into a bank: `target` takes each entry's init_state (R100), of a disabled path too. -/
def linemapApply (b : List Byte) (c : Cfg) : Cfg :=
  let init := fun p => byteAt (lineEntry b p) 1
  let c := (List.range 128).foldl (fun c p =>
    let e := lineEntry b p
    let fl := byteAt e 0
    cfgPuts c [(F.LNK_LANE_CTRL_rx_en p, fl), (F.LNK_LANE_CTRL_tx_en p, fl / 2), (F.LNK_LANE_CTRL_precode_rx p, fl / 4),
      (F.LNK_LANE_CTRL_precode_tx p, fl / 8), (F.LNK_LANE_CTRL_eq_freeze p, fl / 16),
      (F.LNK_LANE_CTRL_launch_trim p, byteAt e 6), (F.LNK_LANE_PWR_target p, init p),
      (F.LNK_DET_LOS_assert p, byteAt e 2), (F.LNK_DET_LOS_hyst p, byteAt e 3),
      (F.LNK_DET_LOL_snr p, byteAt e 4), (F.LNK_DET_LOL_hyst p, byteAt e 5)]) c
  cfgBank c (fun k => { k with linePaths := byteAt b 0, lineInit := (List.range 128).map (fun p => (p, init p)) })

/-! ### BONDSET (R208, R209) -/

/-- Counts of the header. -/
def bondDg (b : List Byte) : Nat := byteAt b 0
def bondUg (b : List Byte) : Nat := byteAt b 1
def bondN (b : List Byte) : Nat := le b 2 2

/-- The downstream groups, the upstream groups and the bindings of a body. -/
def bondDown (b : List Byte) : List (List Byte) := entries (bondDg b) 16 (b.drop 16)
def bondUp (b : List Byte) : List (List Byte) := entries (bondUg b) 16 (b.drop (16 + 16 * bondDg b))
def bondBind (b : List Byte) : List (List Byte) := entries (bondN b) 4 (b.drop (16 + 16 * (bondDg b + bondUg b)))

/-- Capacities of R208. -/
def bondOver (b : List Byte) : Bool := decide (64 < bondDg b) || decide (64 < bondUg b) || decide (1024 < bondN b)

/-- One direction's groups: keys, sizes, and no channel twice on a path. -/
def bondGroupsOk (gs : List (List Byte)) : Bool :=
  distinct (gs.map (fun e => 32 * byteAt e 0 + byteAt e 1)) &&
  gs.all (fun e => decide (byteAt e 0 < 2) && decide (byteAt e 1 < 32) && decide (2 ≤ popcount 64 (le e 8 8))) &&
  [0, 1].all (fun q => (List.range 64).all (fun n =>
    decide ((gs.filter (fun e => decide (byteAt e 0 = q) && bit (le e 8 8) n)).length ≤ 1)))

/-- The load's rules of R209. -/
def bondOk (b : List Byte) : Bool :=
  decide (b.length = 16 + 16 * (bondDg b + bondUg b) + 4 * bondN b) && decide (byteAt b 4 ≤ 16) && decide (byteAt b 5 ≤ 16) &&
  bondGroupsOk (bondDown b) && bondGroupsOk (bondUp b) &&
  distinct ((bondBind b).map (fun e => 2 * le e 0 2 + byteAt e 2)) &&
  (bondBind b).all (fun e => decide (le e 0 2 < 512) && decide (byteAt e 2 < 2) && decide (byteAt e 3 < 32))

/-- BONDSET into a bank. -/
def bondApply (b : List Byte) (c : Cfg) : Cfg :=
  let find := fun (gs : List (List Byte)) (q g : Nat) => gs.find? (fun e => decide (byteAt e 0 = q) && decide (byteAt e 1 = g))
  let mem := fun (o : Option (List Byte)) => match o with
    | some e => le e 8 8
    | none => 0
  let c := cfgPuts c [(F.BND_POOL_size_a, byteAt b 4), (F.BND_POOL_size_b, byteAt b 5)]
  let c := [0, 1].foldl (fun c q => (List.range 32).foldl (fun c g =>
    let d := find (bondDown b) q g
    let u := find (bondUp b) q g
    cfgPuts c [(F.BND_DG_MEMBERS_members q g, mem d), (F.BND_DG_STATUS_valid q g, b2n d.isSome),
      (F.BND_UG_MEMBERS_members q g, mem u), (F.BND_UG_STATUS_valid q g, b2n u.isSome),
      (F.BND_UG_STATUS_aids q g,
        ((bondBind b).filter (fun e => decide (byteAt e 2 = q) && decide (byteAt e 3 = g))).length)]) c) c
  (List.range 512).foldl (fun c a =>
    let on := fun q => (bondBind b).find? (fun e => decide (le e 0 2 = a) && decide (byteAt e 2 = q))
    let grp := fun (o : Option (List Byte)) => match o with
      | some e => byteAt e 3
      | none => 0
    cfgPuts c [(F.BND_AID_GROUP_group_a a, grp (on 0)), (F.BND_AID_GROUP_valid_a a, b2n (on 0).isSome),
      (F.BND_AID_GROUP_group_b a, grp (on 1)), (F.BND_AID_GROUP_valid_b a, b2n (on 1).isSome)]) c

/-! ### PATHSET (R232) -/

/-- The map and the AID entries of a body. -/
def pathMap (b : List Byte) : List (List Byte) := entries (le b 12 4) 8 (b.drop 32)
def pathAids (b : List Byte) : List (List Byte) := entries (le b 8 2) 4 (b.drop (32 + 8 * le b 12 4))

/-- Capacities of R232. -/
def pathsetOver (b : List Byte) : Bool := decide (512 < le b 8 2) || decide (65536 < le b 12 4)

/-- The load's rules of R232. -/
def pathsetOk (b : List Byte) : Bool :=
  decide (b.length = 32 + 8 * le b 12 4 + 4 * le b 8 2) &&
  within (byteAt b 0) 1 40 && decide (byteAt b 1 < 2) && decide (0 < le b 4 2) && within (byteAt b 6) 1 40 &&
  decide (byteAt b 7 ≤ 32) && zeroAt b 10 2 &&
  ascending ((pathMap b).map (fun e => le e 0 4)) &&
  (pathMap b).all (fun e => within (le e 0 4) 1 (2 ^ 20 - 1) && decide (le e 4 2 < 1024) && zeroAt e 6 2) &&
  ascending ((pathAids b).map (fun e => le e 0 2)) &&
  (pathAids b).all (fun e => decide (le e 0 2 < 512) && decide (byteAt e 2 ≤ 2) && zeroAt e 3 1)

/-- PATHSET into a bank. -/
def pathsetApply (b : List Byte) (c : Cfg) : Cfg :=
  let c := cfgPuts c [(F.PTH_CFG_win, byteAt b 0), (F.PTH_CFG_revert, byteAt b 1), (F.PTH_CFG_wtr, le b 4 2),
    (F.PTH_TIMERS_holdoff, le b 2 2), (F.PTH_TIMERS_ret_win, byteAt b 6), (F.PTH_TIMERS_dl_pool, byteAt b 7),
    (F.PTH_TRIG_A_mask, le b 16 8), (F.PTH_TRIG_B_mask, le b 24 8)]
  let c := (List.range 512).foldl (fun c a => cfgPut c (F.PTH_AID_MODE_mode a) 0) c
  let c := (pathAids b).foldl (fun c e => cfgPut c (F.PTH_AID_MODE_mode (le e 0 2)) (byteAt e 2)) c
  cfgBank c (fun k => { k with mergeOf := addAll [] ((pathMap b).map (fun e => (le e 0 4, le e 4 2))) })

/-! ### STREAMS (R187, R188) -/

/-- Counts, and the three arrays of a body. -/
def strAidN (b : List Byte) : Nat := le b 0 2
def strSidN (b : List Byte) : Nat := le b 4 4
def strQbN (b : List Byte) : Nat := le b 8 4
def strAids (b : List Byte) : List (List Byte) := entries (strAidN b) 8 (b.drop 16)
def strSids (b : List Byte) : List (List Byte) := entries (strSidN b) 8 (b.drop (16 + 8 * strAidN b))
def strQbs (b : List Byte) : List (List Byte) := entries (strQbN b) 8 (b.drop (16 + 8 * (strAidN b + strSidN b)))

/-- Capacities of R188. -/
def streamsOver (b : List Byte) : Bool := decide (512 < strAidN b) || decide (65536 < strSidN b) || decide (65536 < strQbN b)

/-- The load's rules of R188. -/
def streamsOk (b : List Byte) : Bool :=
  decide (b.length = 16 + 8 * (strAidN b + strSidN b + strQbN b)) &&
  ascending ((strAids b).map (fun e => le e 0 2)) && distinct ((strAids b).map (fun e => le e 2 2)) &&
  (strAids b).all (fun e => decide (le e 0 2 < 512) && !([0, 0xFFFE, 0xFFFF].contains (le e 2 2)) && decide (byteAt e 4 < 4) &&
    decide (byteAt e 5 < 4)) &&
  ascending ((strSids b).map (fun e => le e 0 4)) &&
  (strSids b).all (fun e => within (le e 0 4) 1 (2 ^ 20 - 1) && decide (byteAt e 4 < 8) && decide (byteAt e 5 < 4)) &&
  ascending ((strQbs b).map (fun e => 65536 * byteAt e 0 + le e 2 2)) &&
  (strQbs b).all (fun e => decide (byteAt e 0 < 4) && decide (le e 2 2 < 16384) &&
    (strSids b).any (fun x => decide (le x 0 4 = le e 4 4) && bit (byteAt x 4) 2))

/-- The SID filter of a set of SID entries (R119, R187): word `32,768·path + ⌊sid / 32⌋`. -/
def sidFilterOf (sids : List (Nat × SidEnt)) : Tab Word :=
  sids.foldl (fun t e => [0, 1].foldl (fun t q =>
    if bit e.2.flags q then Tab.upd t (32768 * q + e.1 / 32) 0 (fun w => w ||| BitVec.ofNat 32 (2 ^ (e.1 % 32))) else t) t) []

/-- STREAMS into a bank. -/
def streamsApply (b : List Byte) (c : Cfg) : Cfg :=
  let sids := (strSids b).map (fun e => (le e 0 4, ({ flags := byteAt e 4, region := byteAt e 5 } : SidEnt)))
  let c := (List.range 512).foldl (fun c a => cfgPuts c [(F.UPB_AID_CFG_aid a, 0), (F.UPB_AID_CFG_region a, 0),
    (F.UPB_AID_CFG_paths a, 0), (F.UPB_AID_CFG_valid a, 0)]) c
  let c := (strAids b).foldl (fun c e =>
    let a := le e 0 2
    cfgPuts c [(F.UPB_AID_CFG_aid a, le e 2 2), (F.UPB_AID_CFG_region a, byteAt e 4), (F.UPB_AID_CFG_paths a, byteAt e 5),
      (F.UPB_AID_CFG_valid a, 1)]) c
  cfgBank c (fun k => { k with
    roots := addAll [] ((strAids b).map (fun e => (le e 0 2, le e 6 2)))
    sids := addAll [] sids
    sidFilter := sidFilterOf sids
    qbind := addAll [] ((strQbs b).map (fun e => (16384 * byteAt e 0 + le e 2 2, le e 4 4))) })

/-! ### CRYPTO (R250) -/

/-- The map entries of a body. -/
def cryptMap (b : List Byte) : List (List Byte) := entries (le b 0 4) 8 (b.drop 16)

/-- Capacity and load rules of R250. -/
def cryptoOver (b : List Byte) : Bool := decide (65536 < le b 0 4)
def cryptoOk (b : List Byte) : Bool :=
  decide (b.length = 16 + 8 * le b 0 4) && decide (byteAt b 4 < 2) && within (byteAt b 5) 1 15 && zeroAt b 6 10 &&
  ascending ((cryptMap b).map (fun e => le e 0 4)) &&
  (cryptMap b).all (fun e => within (le e 0 4) 1 (2 ^ 20 - 1) && decide (le e 4 2 < 1024) && decide (byteAt e 6 < 4) && zeroAt e 7 1)

/-- CRYPTO into a bank. -/
def cryptoApply (b : List Byte) (c : Cfg) : Cfg :=
  let c := cfgPuts c [(F.LCY_CTRL_bypass, byteAt b 4), (F.LCY_CTRL_mismatch_thr, byteAt b 5)]
  cfgBank c (fun k => { k with crypt := addAll [] ((cryptMap b).map (fun e =>
    (le e 0 4, ({ group := le e 4 2, downReq := bit (byteAt e 6) 0, upEnc := bit (byteAt e 6) 1 } : CryptEnt)))) })

end Sys2Proof.Machine
end

