-- ==== Sys2Proof/Machine/SecPacket.lean ====
section
/-!
DEFINITION. The sections that govern the packet regions: PORTMAP (R267, R268), PARSEGRAPH (R279), TABLELAYOUT (R283), RULES
(R296), SCHEDTREE (R316, R317), METERS (R318), OWNERS (R341), TIERPOLICY (R342). For each: whether a body's counts exceed
a capacity, whether its content passes the load's rules, and what it puts into a bank.
-/
namespace Sys2Proof.Machine
open Sys2Proof

/-! ### PORTMAP (R267, R268) -/

/-- The entry of client lane `k`, and its word in the form of CMC_PORT_CFG. -/
def portEntry (b : List Byte) (k : Nat) : List Byte := sub b (4 * k) 4
def portWord (b : List Byte) (k : Nat) : Nat :=
  let e := portEntry b k
  byteAt e 0 % 16 + 16 * (byteAt e 1 % 2) + 32 * (byteAt e 2 % 2)

/-- Lane enables of region `n`. -/
def portEnables (b : List Byte) (n : Nat) : Nat :=
  (List.range 32).foldl (fun a l => a + 2 ^ l * (byteAt (portEntry b (32 * n + l)) 3 % 2)) 0

/-- Downstream and upstream bindings: container and port, unbound ones left out. [DESIGN CHOICE: log 36] -/
def portBinds (b : List Byte) (off : Nat) : List (Nat × Nat) :=
  ((List.range 32).map (fun t => (t, byteAt b (off + t)))).filter (fun e => decide (e.2 ≠ 0xFF))

/-- The load's rules of R268. [DESIGN CHOICE: log 36] -/
def portmapOk (b : List Byte) : Bool :=
  let bindOk := fun (k : Nat) => decide (k < 128) && decide (byteAt (portEntry b k) 0 = 1) && decide (byteAt (portEntry b k) 2 = 1)
  decide (b.length = 576) &&
  (List.range 128).all (fun k =>
    let e := portEntry b k
    [0, 1, 2, 4, 8].contains (byteAt e 0) && decide (byteAt e 1 < 2) && decide (byteAt e 2 < 2)) &&
  (List.range 4).all (fun n =>
    (portRules ((List.range 32).map (fun l => portWord b (32 * n + l))) (portEnables b n)).isNone) &&
  [0x200, 0x220].all (fun off => (portBinds b off).all (fun e => bindOk e.2) && distinct ((portBinds b off).map (fun e => e.2)))

/-- PORTMAP into a bank. -/
def portmapApply (b : List Byte) (c : Cfg) : Cfg :=
  let c := (List.range 128).foldl (fun c k => cfgPuts c [
    (F.CMC_PORT_CFG_width (k / 32) (k % 32), portWord b k), (F.CMC_PORT_CFG_rate (k / 32) (k % 32), portWord b k / 16),
    (F.CMC_PORT_CFG_mode (k / 32) (k % 32), portWord b k / 32)]) c
  let c := (List.range 4).foldl (fun c n => cfgPut c (F.CMC_LANE_EN_en n) (portEnables b n)) c
  let c := (List.range 32).foldl (fun c t =>
    cfgPuts c [(F.DFR_TRIB_PORT_port t, byteAt b (0x200 + t)), (F.UPB_TRIB_PORT_port t, byteAt b (0x220 + t))]) c
  cfgBank c (fun k => { k with downPort := portBinds b 0x200, upPort := portBinds b 0x220 })

/-! ### PARSEGRAPH (R279) -/

/-- The nodes and edges of a block. -/
def graphNodes (b : List Byte) : List (List Byte) := entries (byteAt b 0) 16 (b.drop 8)
def graphEdges (b : List Byte) : List (List Byte) := entries (le b 2 2) 12 (b.drop (8 + 16 * byteAt b 0))

/-- Capacities of R279. -/
def graphOver (b : List Byte) : Bool := decide (64 < byteAt b 0) || decide (512 < le b 2 2)

/-- A node as data. -/
def graphNode (e : List Byte) : GNode := {
  cls := byteAt e 1, fromField := bit (byteAt e 2) 0, term := bit (byteAt e 2) 1, ck := bits (byteAt e 2) 2 3
  frag := bits (byteAt e 2) 5 2, fixedLen := byteAt e 3, lfOff := le e 4 2, lfWidth := byteAt e 6, lfMult := byteAt e 7
  lfAdd := byteAt e 8, minLen := byteAt e 9, nkOff := le e 10 2, nkWidth := byteAt e 12, ckOff := le e 13 2 }

/-- The load's rules of R279 over one block. -/
def graphOk (b : List Byte) : Bool :=
  let ids := (graphNodes b).map (fun e => byteAt e 0)
  decide (1 ≤ byteAt b 0) && paddedTo b (8 + 16 * byteAt b 0 + 12 * le b 2 2) && distinct ids && ids.contains (byteAt b 4) &&
  (graphNodes b).all (fun e =>
    let x := graphNode e
    decide (byteAt e 0 < 64) && within x.cls 1 31 && !bit (byteAt e 2) 7 && decide (x.ck ≤ 4) && decide (x.frag ≤ 2) &&
    within x.lfWidth 1 16 && decide (1 ≤ x.lfMult) && decide (1 ≤ x.minLen) && decide (x.nkWidth ≤ 32) &&
    decide (x.lfOff ≤ 3071) && decide (x.nkOff ≤ 3071) && decide (x.ckOff ≤ 3071)) &&
  (graphEdges b).all (fun e => ids.contains (byteAt e 0) && ids.contains (byteAt e 1))

/-- PARSEGRAPH into a bank. -/
def graphApply (body : List Byte) (c : Cfg) : Cfg :=
  applyRegions body c (fun c n b => cfgBank c (fun k => { k with graph := Tab.set k.graph n {
    start := byteAt b 4
    nodes := addAll [] ((graphNodes b).map (fun e => (byteAt e 0, graphNode e)))
    edges := (graphEdges b).map (fun e => ⟨byteAt e 0, byteAt e 1, le e 4 4, le e 8 4⟩) } }))

/-! ### TABLELAYOUT (R283) -/

/-- The table entries of a block. -/
def layoutTables (b : List Byte) : List (List Byte) := entries (byteAt b 0) 80 (b.drop 16)

/-- The words of a block's tables, disabled where no entry names one. -/
def layoutWords (b : List Byte) : TblWords :=
  let at_ := fun (t : Nat) => (layoutTables b).find? (fun e => decide (byteAt e 0 = t))
  { cfg := (List.range 8).map (fun t => match at_ t with
      | some e => le e 8 4
      | none => 0)
    fld := (List.range 8).map (fun t => match at_ t with
      | some e => (List.range 16).map (fun f => le e (16 + 4 * f) 4)
      | none => List.replicate 16 0) }

/-- Capacity and the load's rules of R283. -/
def layoutOver (b : List Byte) : Bool := decide (8 < byteAt b 0)
def layoutOk (b : List Byte) : Bool :=
  paddedTo b (16 + 80 * byteAt b 0) && distinct ((layoutTables b).map (fun e => byteAt e 0)) &&
  (layoutTables b).all (fun e => decide (byteAt e 0 < 8) && within (bits (le e 8 4) 4 5) 1 16) && (tblRange (layoutWords b)).isNone

/-- Put a register word's fields of section `i` into a bank. -/
def cfgPutSec (c : Cfg) (i a v : Nat) : Cfg :=
  cfgPutWord c a (mergeWord (wordFields a (fun _ f => decide (f.sec = i))) (cfgWord c a) (BitVec.ofNat 32 v))

/-- TABLELAYOUT into a bank. -/
def layoutApply (body : List Byte) (c : Cfg) : Cfg :=
  applyRegions body c (fun c n b =>
    let w := layoutWords b
    let c := cfgPuts c [(F.PRS_EM_SEED0_seed n, le b 4 4), (F.PRS_EM_SEED1_seed n, le b 8 4)]
    (List.range 8).foldl (fun c t =>
      let cond := match (layoutTables b).find? (fun e => decide (byteAt e 0 = t)) with
        | some e => le e 12 4
        | none => 0
      let c := cfgPutSec (cfgPutSec c 7 (R.PRS_TBL_CFG n t) (w.cfg.getD t 0)) 7 (R.PRS_TBL_COND n t) cond
      (List.range 16).foldl (fun c f => cfgPutSec c 7 (R.PRS_KEY_FLD n t f) ((w.fld.getD t []).getD f 0)) c) c)

/-- The state with the staged table layout in force: exact entries of the staged bank are placed by it. -/
def stagedLayout (s : State) : State :=
  { s with regs := (takeRegs (activeCfg s) s.other (fun _ _ f => decide (f.sec = 7))).regs }

/-! ### RULES (R296) -/

/-- Counts, defaults, sessions, actions, ternary and exact entries of a block. -/
def ruleActN (b : List Byte) : Nat := le b 0 4
def ruleTernN (b : List Byte) : Nat := le b 4 4
def ruleExactN (b : List Byte) : Nat := le b 8 4
def ruleActs (b : List Byte) : List (List Byte) := entries (ruleActN b) 20 (b.drop 216)
def ruleTerns (b : List Byte) : List (List Byte) := entries (ruleTernN b) 140 (b.drop (216 + 20 * ruleActN b))
def ruleExacts (b : List Byte) : List (List Byte) :=
  entries (ruleExactN b) 36 (b.drop (216 + 20 * ruleActN b + 140 * ruleTernN b))
def ruleSession (b : List Byte) (k : Nat) : List Byte := sub b (88 + 8 * k) 8

/-- Counts beyond the tables of R281 and R285. -/
def rulesOver (b : List Byte) : Bool := decide (65536 < ruleActN b) || decide (131072 < ruleTernN b) || decide (1048576 < ruleExactN b)

/-- An action that the load accepts (R296): its code, and a destination where it must have one. -/
def actionOk (a : Nat) : Bool :=
  let dcode := bits a 41 8
  let prim := bits a 126 2
  (decide (dcode = 0) || within dcode 0x20 0x2F) && ((decide (prim ≠ 1) && decide (prim ≠ 3)) || bit a 125)

/-- The load's rules of R296 over the block of region `n`, with the table layout of `s`. -/
def rulesOk (s : State) (n : Nat) (b : List Byte) : Bool :=
  paddedTo b (216 + 20 * ruleActN b + 140 * ruleTernN b + 36 * ruleExactN b) &&
  distinct ((ruleActs b).map (fun e => le e 0 2)) && (ruleActs b).all (fun e => actionOk (le e 4 16)) &&
  distinct ((ruleTerns b).map (fun e => 2 ^ 32 * byteAt e 0 + le e 4 4)) &&
  (ruleTerns b).all (fun e =>
    let t := byteAt e 0
    decide (t < 8) && !getB s (F.PRS_TBL_CFG_kind n t) && decide (le e 4 4 < ternLen s n t) &&
    decide (be e 12 64 < 2 ^ tableBits s n t) && decide (be e 76 64 < 2 ^ tableBits s n t)) &&
  distinct ((ruleExacts b).map (fun e => 2 ^ 256 * byteAt e 0 + be e 4 32)) &&
  (ruleExacts b).all (fun e =>
    let t := byteAt e 0
    decide (t < 8) && getB s (F.PRS_TBL_CFG_kind n t) && decide (be e 4 32 < 2 ^ tableBits s n t))

/-- Clear the staged rule state of region `n` (R294). -/
def rulesClear (s : State) (n : Nat) : State :=
  let s := modOther s (fun c => cfgBank c (fun k => { k with
    acts := cutRange k.acts (65536 * n) 65536, tern := cutRange k.tern (2 ^ 20 * n) (2 ^ 20) }))
  let ex := ((pkt s n).prs.exact.map (fun e => (e.1, e.2.withAct s none false true))).filter
    (fun e => e.2.ind.isSome || e.2.och.isSome)
  setExact s n ex

/-- RULES of region `n` into the staged bank; `none` where an exact entry cannot be placed (R296). -/
def rulesPut (s : State) (n : Nat) (b : List Byte) : Option State :=
  let s := rulesClear s n
  let s := modOther s (fun c =>
    let c := (List.range 32).foldl (fun c l => cfgPut c (F.PRS_PORT_CFG_def_act n l) (le b (16 + 2 * l) 2)) c
    let c := cfgPuts c [(F.PRS_LINE_DEF_def_act n, le b 80 2), (F.PRS_HOST_DEF_def_act n, le b 82 2)]
    let c := (List.range 16).foldl (fun c k =>
      let e := ruleSession b k
      cfgPuts c [(F.PRS_MIR_DEST_queue n k, le e 0 2), (F.PRS_MIR_DEST_slow n k, byteAt e 3 / 2), (F.PRS_MIR_DEST_en n k, byteAt e 3),
        (F.PRS_MIR_CTRL_trunc n k, byteAt e 2), (F.PRS_MIR_CTRL_sample n k, le e 4 2)]) c
    cfgBank c (fun k => { k with
      ruled := if k.ruled.contains n then k.ruled else k.ruled ++ [n]
      acts := addAll k.acts ((ruleActs b).map (fun e => (65536 * n + le e 0 2, le e 4 16)))
      tern := addAll k.tern ((ruleTerns b).map (fun e =>
        (ternKey n (byteAt e 0) (le e 4 4), ⟨be e 12 64, be e 76 64, le e 8 2⟩))) }))
  (ruleExacts b).foldl (fun o e => o.bind (fun s =>
    let s' := exactWrite (stagedLayout s) n (byteAt e 0) (be e 4 32) (some (le e 2 2)) false true
    if s'.2 then some (emUse { s'.1 with regs := s.regs } n) else none)) (some s)

/-! ### SCHEDTREE (R316, R317) -/

/-- The nodes and queues of a block, as data by local ID. -/
def treeNodeN (b : List Byte) : Nat := le b 0 2
def treeQueueN (b : List Byte) : Nat := le b 2 2
def treeNodeEs (b : List Byte) : List (List Byte) := entries (treeNodeN b) 16 (b.drop 8)
def treeQueueEs (b : List Byte) : List (List Byte) := entries (treeQueueN b) 16 (b.drop (8 + 16 * treeNodeN b))

/-- A node and a queue as data. -/
def treeNode (e : List Byte) : SNode := {
  parent := if le e 2 2 = 0xFFFF then none else some (le e 2 2)
  kind := byteAt e 4, level := byteAt e 5, weighted := decide (byteAt e 6 = 1), rank := byteAt e 7, weight := le e 8 2
  shaper := if le e 10 2 = 0xFFFF then none else some (le e 10 2)
  target := byteAt e 12 }
def treeQueue (e : List Byte) : SQueue := {
  parent := le e 2 2, rank := byteAt e 4, en := bit (byteAt e 5) 0, shaped := bit (byteAt e 5) 1
  weight := le e 6 2, limit := le e 8 4 }

/-- Capacities of R317. -/
def treeOver (b : List Byte) : Bool := decide (4096 < treeNodeN b) || decide (16384 < treeQueueN b)

/-- The load's rules of R317 over one block. -/
def treeOk (b : List Byte) : Bool :=
  let ns : Tab SNode := (treeNodeEs b).map (fun e => (le e 0 2, treeNode e))
  let qs : Tab SQueue := (treeQueueEs b).map (fun e => (le e 0 2, treeQueue e))
  let ranks := fun (m : Nat) =>
    (ns.filter (fun e => decide (e.2.parent = some m))).map (fun e => e.2.rank) ++
    (qs.filter (fun e => decide (e.2.parent = m))).map (fun e => e.2.rank)
  paddedTo b (8 + 16 * (treeNodeN b + treeQueueN b)) && distinct (ns.map (fun e => e.1)) && distinct (qs.map (fun e => e.1)) &&
  distinct (ns.filterMap (fun e => e.2.shaper)) &&
  (treeNodeEs b).all (fun e => decide (byteAt e 6 < 2)) &&
  ns.all (fun e =>
    let x := e.2
    decide (e.1 < 4096) && decide (x.kind ≤ 3) && decide (x.level ≤ 3) && within x.weight 1 4095 &&
    (match x.shaper with
      | some i => within i 16384 20479
      | none => true) &&
    (if x.kind = 3 then (match x.parent with
        | some p => (Tab.find ns p).any (fun y => decide (y.level + 1 = x.level))
        | none => false)
      else x.parent.isNone && decide (x.level = 0)) &&
    (decide (x.kind ≠ 0) || decide (x.target < 32)) && (decide (x.kind ≠ 2) || decide (x.target < 64)) &&
    (x.weighted || distinct (ranks e.1))) &&
  qs.all (fun e => decide (e.1 < 16384) && (Tab.find ns e.2.parent).isSome && within e.2.weight 1 4095)

/-- SCHEDTREE into a bank. [DEDUCED: log 146] -/
def treeApply (body : List Byte) (c : Cfg) : Cfg :=
  applyRegions body c (fun c n b => cfgBank c (fun k => { k with
    nodes := addAll (cutRange k.nodes (4096 * n) 4096) ((treeNodeEs b).map (fun e => (4096 * n + le e 0 2, treeNode e)))
    queues := addAll (cutRange k.queues (16384 * n) 16384) ((treeQueueEs b).map (fun e => (16384 * n + le e 0 2, treeQueue e))) }))

/-! ### METERS (R318) -/

/-- The entries of a block, and one as settings. -/
def meterEs (b : List Byte) : List (List Byte) := entries (le b 0 4) 16 (b.drop 8)
def meterOf (e : List Byte) : MtrCfg := {
  en := bit (byteAt e 1) 1, packets := bit (byteAt e 1) 0, overhead := byteAt e 2, period := le e 6 2, rate := le e 8 4, burst := le e 12 4 }

/-- Capacity and the load's rules of R318. -/
def metersOver (b : List Byte) : Bool := decide (86016 < le b 0 4)
def metersOk (b : List Byte) : Bool :=
  paddedTo b (8 + 16 * le b 0 4) && ascending ((meterEs b).map (fun e => 65536 * byteAt e 0 + le e 4 2)) &&
  (meterEs b).all (fun e => decide (byteAt e 0 < 2) && (decide (byteAt e 0 = 1) || decide (le e 4 2 < 20480)) &&
    (mtrRules (meterOf e)).isNone)

/-- METERS into a bank: each meter that a region's block does not name is disabled. -/
def metersApply (body : List Byte) (c : Cfg) : Cfg :=
  applyRegions body c (fun c n b => cfgBank c (fun k => { k with
    meters := addAll (cutRange k.meters (131072 * n) 131072)
      ((meterEs b).map (fun e => (131072 * n + 65536 * byteAt e 0 + le e 4 2, meterOf e))) }))

/-! ### OWNERS (R341) -/

/-- The owners and the queue map of a block, and one owner as data. -/
def ownerEs (b : List Byte) : List (List Byte) := entries (le b 0 2) 40 (b.drop 8)
def qmapEs (b : List Byte) : List (List Byte) := entries (le b 4 2) 4 (b.drop (8 + 40 * le b 0 2))
def ownerOf (e : List Byte) : OwnCfg := {
  en := bit (byteAt e 2) 0, retry := bit (byteAt e 2) 1, faultThr := byteAt e 3
  res := [le e 4 4, le e 12 4, le e 20 4], cap := [le e 8 4, le e 16 4, le e 24 4]
  toneRate := le e 28 4, retryNs := le e 32 2, fcLane := byteAt e 34 % 32, fcEn := decide (byteAt e 34 ≠ 0xFF)
  fcPri := byteAt e 35, profile := byteAt e 36 }

/-- Capacities of R341. -/
def ownersOver (b : List Byte) : Bool := decide (1024 < le b 0 2) || decide (16384 < le b 4 2)

/-- The load's rules of R341 over one block. -/
def ownersOk (b : List Byte) : Bool :=
  decide (le b 0 2 ≤ 1024) && decide (le b 2 2 < 1024) && decide (le b 4 2 ≤ 16384) && zeroAt b 6 2 &&
  paddedTo b (8 + 40 * le b 0 2 + 4 * le b 4 2) &&
  ascending ((ownerEs b).map (fun e => le e 0 2)) &&
  (ownerEs b).all (fun e => decide (le e 0 2 < 1024) && decide (byteAt e 2 < 4) && decide (1 ≤ byteAt e 3) &&
    within (le e 32 2) 64 4096 && (decide (byteAt e 34 < 32) || decide (byteAt e 34 = 0xFF)) && decide (byteAt e 36 < 16) &&
    zeroAt e 37 3 && (ownRules (ownerOf e).res (ownerOf e).cap).isNone) &&
  ascending ((qmapEs b).map (fun e => le e 0 2)) &&
  (qmapEs b).all (fun e => decide (le e 0 2 < 16384) && decide (le e 2 2 < 1024))

/-- OWNERS into a bank. -/
def ownersApply (body : List Byte) (c : Cfg) : Cfg :=
  applyRegions body c (fun c n b =>
    let c := cfgPut c (F.BPM_RET_OWNER_owner n) (le b 2 2)
    cfgBank c (fun k => { k with
      owned := if k.owned.contains n then k.owned else k.owned ++ [n]
      owners := addAll (cutRange k.owners (1024 * n) 1024) ((ownerEs b).map (fun e => (1024 * n + le e 0 2, ownerOf e)))
      qowner := addAll (cutRange k.qowner (16384 * n) 16384) ((qmapEs b).map (fun e => (16384 * n + le e 0 2, le e 2 2))) }))

/-! ### TIERPOLICY (R342) -/

/-- The profiles of a block. -/
def profEs (b : List Byte) : List (List Byte) := entries (byteAt b 0) 16 (b.drop 40)

/-- Capacity of R342. -/
def tierOver (b : List Byte) : Bool := decide (16 < byteAt b 0)

/-- The load's rules of R342 over one block. -/
def tierOk (b : List Byte) : Bool :=
  within (byteAt b 0) 1 16 && zeroAt b 1 1 && within (le b 2 2) 1 168 && within (le b 4 2) 1 168 && zeroAt b 6 2 &&
  (List.range 8).all (fun k => decide (1 ≤ byteAt b (8 + k))) && paddedTo b (40 + 16 * byteAt b 0) &&
  (List.range 3).all (fun t =>
    let e := sub b (16 + 8 * t) 8
    decide (1 ≤ byteAt e 0) && decide (byteAt e 0 < byteAt e 1) && decide (byteAt e 1 < byteAt e 2) && decide (byteAt e 2 ≤ 99) &&
    within (byteAt e 3) 1 20 && decide (byteAt e 3 < byteAt e 0) && zeroAt e 4 4) &&
  distinct ((profEs b).map (fun e => byteAt e 0)) &&
  (profEs b).all (fun e => decide (byteAt e 0 < 16) && decide (byteAt e 1 < 2) && zeroAt e 2 2 && decide (le e 4 4 ≤ 16777216) &&
    decide (le e 8 4 ≤ 1000000) && decide (le e 12 4 ≤ 3600000))

/-- TIERPOLICY into a bank. [DEDUCED, DESIGN CHOICE: log 146, 207] -/
def tierApply (body : List Byte) (c : Cfg) : Cfg :=
  applyRegions body c (fun c n b =>
    let c := cfgPuts c [(F.MEM_SCRUB_scrub1 n, le b 2 2), (F.MEM_SCRUB_scrub2 n, le b 4 2)]
    let c := [1, 2].foldl (fun c t =>
      let o := 8 + 4 * (t - 1)
      cfgPuts c [(F.BPM_ARB_w_pro n t, byteAt b o), (F.BPM_ARB_w_dem n t, byteAt b (o + 1)),
        (F.BPM_ARB_w_move n t, byteAt b (o + 2)), (F.BPM_ARB_w_hop n t, byteAt b (o + 3))]) c
    let c := (List.range 3).foldl (fun c t =>
      let e := sub b (16 + 8 * t) 8
      cfgPuts c [(F.BPM_POOL_THR_tint n t, byteAt e 0), (F.BPM_POOL_THR_tone n t, byteAt e 1),
        (F.BPM_POOL_THR_shade n t, byteAt e 2), (F.BPM_POOL_THR_hyst n t, byteAt e 3)]) c
    let c := (List.range 16).foldl (fun c p => cfgPut c (F.BPM_PROF_CFG_valid n p) 0) c
    (profEs b).foldl (fun c e =>
      let p := byteAt e 0
      cfgPuts c [(F.BPM_PROF_CFG_direct2 n p, byteAt e 1), (F.BPM_PROF_CFG_valid n p, 1), (F.BPM_PROF_HEAD_bytes n p, le e 4 4),
        (F.BPM_PROF_AGE0_us n p, le e 8 4), (F.BPM_PROF_AGE1_ms n p, le e 12 4)]) c)

end Sys2Proof.Machine
end

