-- ==== Sys2Proof/Machine/SecArm.lean ====
section
/-!
DEFINITION. The arm check (R63): agreement between the sections of the staged bank (R108, R188, R209, R215, R232, R250, R283,
R296, R317, R341, R342, R367), the TUNING group records (R79), and what the scopes must name (R51, R108, R188, R209, R268,
R279, R283, R316).
-/
namespace Sys2Proof.Machine
open Sys2Proof

/-- A refusal of the arm check: result code and detail. -/
abbrev Bad := Option (Nat × Nat)

/-- A refusal with `code` and `detail` where `b` holds. -/
def badIf (b : Bool) (code detail : Nat) : Bad := if b then some (code, detail) else none

/-- The first refusal of a list. -/
def firstBad (l : List Bad) : Bad := l.findSome? (fun x => x)

/-! ### Agreement -/

/-- A one-bit field of a bank. -/
def cfgB (c : Cfg) (f : Fld) : Bool := decide (cfgGet c f = 1)

/-- The state with the staged tables in place of the active ones, to look at the staged tree. -/
def stagedView (s : State) : State := { s with bank := s.other.bank }

/-- Whether client port `l` of region `n` is an Ethernet port in bank `c`. -/
def isEthernet (c : Cfg) (n l : Nat) : Bool :=
  decide (cfgGet c (F.CMC_PORT_CFG_width n l) ≠ 0) && !cfgB c (F.CMC_PORT_CFG_mode n l)

/-- LINEMAP: the rules of R95 on every entry. [DEDUCED: log 162] -/
def detDisagree (c : Cfg) : Bool :=
  (List.range 128).any (fun p => (detRules (cfgWord c (R.LNK_DET_LOS p)).toNat (cfgWord c (R.LNK_DET_LOL p)).toNat).isSome)

/-- Bytes that the deskew pool of path `q` must hold (R197). -/
def poolBound (c : Cfg) (q : Nat) : Nat :=
  (List.range 32).foldl (fun a g => a + (if cfgB c (F.BND_DG_STATUS_valid q g) then
    popcount 64 (cfgGet c (F.BND_DG_MEMBERS_members q g)) * cfgGet c (F.BND_DG_STATUS_skew_max q g) * 9959 else 0)) 0

/-- BONDSET (R209). -/
def bondDisagree (c : Cfg) : Bool :=
  let bindBad := fun (a q grp : Nat) (on : Bool) =>
    on && (!cfgB c (F.UPB_AID_CFG_valid a) || !bit (cfgGet c (F.UPB_AID_CFG_paths a)) q || !cfgB c (F.BND_UG_STATUS_valid q grp))
  let lanesBad := fun (q m : Nat) (f : Nat → Fld) => (bitsSet 64 m).any (fun n => !cfgB c (f (64 * q + n)))
  (List.range 512).any (fun a =>
    bindBad a 0 (cfgGet c (F.BND_AID_GROUP_group_a a)) (cfgB c (F.BND_AID_GROUP_valid_a a)) ||
    bindBad a 1 (cfgGet c (F.BND_AID_GROUP_group_b a)) (cfgB c (F.BND_AID_GROUP_valid_b a))) ||
  [0, 1].any (fun q => (List.range 32).any (fun g =>
    lanesBad q (cfgGet c (F.BND_DG_MEMBERS_members q g)) F.LNK_LANE_CTRL_rx_en ||
    lanesBad q (cfgGet c (F.BND_UG_MEMBERS_members q g)) F.LNK_LANE_CTRL_tx_en)) ||
  decide (cfgGet c F.BND_POOL_size_a * 2 ^ 20 < poolBound c 0) || decide (cfgGet c F.BND_POOL_size_b * 2 ^ 20 < poolBound c 1)

/-- PATHSET (R232), the merge store apart. -/
def pathDisagree (c : Cfg) : Bool :=
  c.bank.mergeOf.any (fun e => decide ((Tab.getD c.bank.sids e.1 {}).flags % 4 ≠ 3)) ||
  (List.range 512).any (fun a => decide (cfgGet c (F.PTH_AID_MODE_mode a) ≠ 0) &&
    !(cfgB c (F.UPB_AID_CFG_valid a) && decide (cfgGet c (F.UPB_AID_CFG_paths a) = 3)))

/-- The merge store would be below 49 MiB (R215). -/
def storeShort (c : Cfg) : Bool :=
  decide (112 < 49 + cfgGet c F.BND_POOL_size_a + cfgGet c F.BND_POOL_size_b + cfgGet c F.PTH_TIMERS_dl_pool)

/-- The AID indices of a bank: index, region, root. -/
def aidRoots (c : Cfg) : List (Nat × Nat × Nat) :=
  ((List.range 512).filter (fun a => cfgB c (F.UPB_AID_CFG_valid a))).map (fun a =>
    (a, cfgGet c (F.UPB_AID_CFG_region a), Tab.getD c.bank.roots a 4096))

/-- STREAMS (R188). -/
def streamsDisagree (s : State) : Bool :=
  let v := stagedView s
  let b := v.bank
  let underAid := fun (n q : Nat) => (rootOf v n q).any (fun e => decide (e.2.kind = 1))
  (aidRoots s.other).any (fun e => decide (4096 ≤ e.2.2) || !(snode v e.2.1 e.2.2).any (fun x => decide (x.kind = 1))) ||
  b.queues.any (fun e => underAid (e.1 / 16384) (e.1 % 16384) && (Tab.find b.qbind e.1).isNone) ||
  b.qbind.any (fun e => !underAid (e.1 / 16384) (e.1 % 16384))

/-- The table words of region `n` in a bank. -/
def tblWordsOf (c : Cfg) (n : Nat) : TblWords := {
  cfg := (List.range 8).map (fun t => (cfgWord c (R.PRS_TBL_CFG n t)).toNat)
  fld := (List.range 8).map (fun t => (List.range 16).map (fun f => (cfgWord c (R.PRS_KEY_FLD n t f)).toNat)) }

/-- TABLELAYOUT: rules 2 to 4 of R284 (R283). -/
def layoutDisagree (c : Cfg) : Bool :=
  (List.range 4).any (fun n => (tblAgree (tblWordsOf c n) (graphClasses c.bank n)).isSome)

/-- RULES of region `n` (R296). [DEDUCED: log 37] -/
def rulesDisagreeIn (s : State) (n : Nat) : Bool :=
  let c := s.other
  let b := c.bank
  let tag := !activeBank s
  let acts := b.acts.filter (fun e => decide (e.1 / 65536 = n))
  let terns := b.tern.filter (fun e => decide (e.1 / 2 ^ 20 = n))
  let exacts := (pkt s n).prs.exact.filterMap (fun e => (e.2.act tag).map (fun a => (e.2.tbl, a)))
  let refs := terns.map (fun e => e.2.act) ++ exacts.map (fun e => e.2) ++
    (List.range 32).map (fun l => cfgGet c (F.PRS_PORT_CFG_def_act n l)) ++
    [cfgGet c (F.PRS_LINE_DEF_def_act n), cfgGet c (F.PRS_HOST_DEF_def_act n)]
  let off := fun (t : Nat) => !cfgB c (F.PRS_TBL_CFG_en n t)
  let nodeOk := fun (m : Nat) => (Tab.find b.graph n).any (fun g => (Tab.find g.nodes m).isSome)
  let session := fun (k : Nat) => cfgB c (F.PRS_MIR_DEST_en n k)
  (b.ruled.contains n || !acts.isEmpty || refs.any (fun a => decide (a ≠ 0)) || !terns.isEmpty || !exacts.isEmpty ||
    (List.range 16).any session) &&
  (refs.any (fun a => (Tab.find acts (65536 * n + a)).isNone) ||
   acts.any (fun e => (bit e.2 125 && (Tab.find b.queues (bits e.2 109 16)).isNone) || (bit e.2 65 && !nodeOk (bits e.2 57 8))) ||
   (List.range 16).any (fun k => session k && !cfgB c (F.PRS_MIR_DEST_slow n k) &&
     (Tab.find b.queues (cfgGet c (F.PRS_MIR_DEST_queue n k))).isNone) ||
   terns.any (fun e => off (e.1 / 2 ^ 17 % 8)) || exacts.any (fun e => off e.1))

/-- RULES of every region. -/
def rulesDisagree (s : State) : Bool := (List.range 4).any (fun n => rulesDisagreeIn s n)

/-- SCHEDTREE of region `n` (R317). -/
def treeDisagreeIn (s : State) (n : Nat) : Bool :=
  let c := s.other
  let v := stagedView s
  let ns := treeNodes v n
  let roots := fun (k : Nat) => ns.filter (fun e => decide (e.2.kind = k))
  let used := fun (i : Nat) =>
    if i < 16384 then (squeue v n i).any (fun q => q.shaped) else ns.any (fun e => decide (e.2.shaper = some i))
  (roots 0).any (fun e => !isEthernet c n e.2.target) || !distinct ((roots 0).map (fun e => e.2.target)) ||
  (roots 1).any (fun e => decide (((aidRoots c).filter (fun a => decide (a.2.1 = n) && decide (a.2.2 = e.1))).length ≠ 1)) ||
  decide (16 < (roots 2).length) ||
  v.bank.meters.any (fun e => decide (e.1 / 131072 = n) && decide (e.1 % 131072 < 65536) && e.2.en && !used (e.1 % 131072))

/-- OWNERS and TIERPOLICY of region `n` (R341, R342); one for which no OWNERS block has been put, and which has no queue, has none to
check. [DEDUCED: log 37] -/
def ownersDisagreeIn (s : State) (n : Nat) : Bool :=
  let c := s.other
  let own := regionOwners c.bank n
  let off := fun (o : Nat) => !(Tab.getD own o {}).en
  let qmap := c.bank.qowner.filter (fun e => decide (e.1 / 16384 = n))
  let qs := c.bank.queues.filter (fun e => decide (e.1 / 16384 = n))
  (c.bank.owned.contains n || !own.isEmpty || !qmap.isEmpty || !qs.isEmpty) &&
  ((ownSums (own.map (fun e => e.2)) ((List.range 3).map (fun t => cfgGet c (F.BPM_POOL_THR_shade n t)))
      ((List.range 3).map (fun t => poolSize s n t))).isSome ||
   qmap.any (fun e => off e.2) || (off 0 && qs.any (fun e => (Tab.find qmap e.1).isNone)) ||
   off (cfgGet c (F.BPM_RET_OWNER_owner n)) || own.any (fun e => !cfgB c (F.BPM_PROF_CFG_valid n e.2.profile)))

/-- CRYPTO (R250). -/
def cryptoDisagree (c : Cfg) : Bool := c.bank.crypt.any (fun e => (Tab.find c.bank.sids e.1).isNone)

/-- TIME (R367). -/
def timeDisagree (s : State) : Bool :=
  let c := s.other
  let k := cfgGet c F.TSU_CTRL_ptp_class
  c.bank.timePorts.any (fun p => !isEthernet c (p / 32) (p % 32)) ||
  (decide (k ≠ 0) && (List.range 4).any (fun n => !(graphClasses c.bank n).contains k))

/-- The index of the first TUNING group record that breaks R129 (R79). -/
def tuningDisagree (s : State) : Option Nat :=
  match Tab.find s.epc.loaded 0x12 with
  | none => none
  | some b => ((tuning b).1.zipIdx.find? (fun e => e.1.group &&
      (thrRules (e.1.values.getD 0 0) (e.1.values.getD 1 0) (e.1.values.getD 2 0)).isSome)).map (fun e => e.2)

/-- The agreement rules of the staged bank, sections in ascending order, then the group records. -/
def agreement (s : State) : Bad :=
  let c := s.other
  firstBad [
    badIf (detDisagree c) epcAgreement 2, badIf (bondDisagree c) epcAgreement 3, badIf (pathDisagree c) epcAgreement 4,
    badIf (storeShort c) epcAgreement (if isLoaded s 4 then 4 else 3), badIf (streamsDisagree s) epcAgreement 5,
    badIf (layoutDisagree c) epcAgreement 7, badIf (rulesDisagree s) epcAgreement 8,
    badIf ((List.range 4).any (fun n => treeDisagreeIn s n)) epcAgreement 9,
    badIf ((List.range 4).any (fun n => ownersDisagreeIn s n)) epcAgreement (if isLoaded s 0xB then 0xB else 0xC),
    badIf (cryptoDisagree c) epcAgreement 0xD, badIf (timeDisagree s) epcAgreement 0xE,
    (tuningDisagree s).map (fun i => (epcAgreement, i))]

/-! ### Scope (R51, R52, R63) -/

/-- The scope of section `i`: empty where the section is not structural. -/
def scopeOf (s : State) (i : Nat) : Scope :=
  if inSecs (get s F.EPC_STRUCT_sections) i then Tab.getD s.epc.scopes i {} else {}

/-- Whether a scope names the channel of lane pair `p`. -/
def Scope.names (x : Scope) (p : Nat) : Bool := bit (if p < 64 then x.chanA else x.chanB) (p % 64)

/-- Whether the fields of section `i` in the word at `a` differ between two banks. -/
def secDiffers (i : Nat) (c d : Cfg) (a : Nat) : Bool :=
  (wordFields a (fun _ f => decide (f.sec = i))).any (fun f =>
    decide (bits (cfgWord c a).toNat f.1 f.2 ≠ bits (cfgWord d a).toNat f.1 f.2))

/-- PORTMAP: a lane whose entry changes, or a lane of a port whose binding changes, is not named (R268). -/
def portScopeBad (c d : Cfg) (x : Scope) : Bool :=
  let moved := fun (k : Nat) => secDiffers 1 c d (R.CMC_PORT_CFG (k / 32) (k % 32)) ||
    decide (bit (cfgGet c (F.CMC_LANE_EN_en (k / 32))) (k % 32) ≠ bit (cfgGet d (F.CMC_LANE_EN_en (k / 32))) (k % 32))
  let binds := fun (new old : Tab Nat) => (List.range 32).flatMap (fun t =>
    if Tab.find new t = Tab.find old t then [] else (Tab.find new t).toList ++ (Tab.find old t).toList)
  (List.range 128).any (fun k => moved k && !bit x.lanes k) ||
  (binds c.bank.downPort d.bank.downPort ++ binds c.bank.upPort d.bank.upPort).any (fun k =>
    (List.range (max 1 (cfgGet c (F.CMC_PORT_CFG_width (k / 32) (k % 32))))).any (fun j => !bit x.lanes (k + j)))

/-- LINEMAP: a lane whose entry changes, or a channel of a path that is enabled or disabled, is not named (R108). [DEDUCED: log 159] -/
def lineScopeBad (c d : Cfg) (x : Scope) : Bool :=
  (List.range 128).any (fun p =>
    (decide (bit c.bank.linePaths (p / 64) ≠ bit d.bank.linePaths (p / 64)) ||
     [R.LNK_LANE_CTRL p, R.LNK_LANE_PWR p, R.LNK_DET_LOS p, R.LNK_DET_LOL p].any (fun a => secDiffers 2 c d a)) && !x.names p)

/-- BONDSET: a channel whose membership changes, or region 4 for a pool that changes, is not named (R209). -/
def bondScopeBad (c d : Cfg) (x : Scope) : Bool :=
  (decide ((cfgWord c R.BND_POOL) ≠ cfgWord d R.BND_POOL) && !bit x.regions 4) ||
  [0, 1].any (fun q => (List.range 32).any (fun g =>
    let m := (cfgGet c (F.BND_DG_MEMBERS_members q g) ^^^ cfgGet d (F.BND_DG_MEMBERS_members q g)) |||
      (cfgGet c (F.BND_UG_MEMBERS_members q g) ^^^ cfgGet d (F.BND_UG_MEMBERS_members q g))
    (bitsSet 64 m).any (fun n => !x.names (64 * q + n))))

/-- STREAMS: a region whose AID layout changes is not named (R188). -/
def streamsScopeBad (c d : Cfg) (x : Scope) : Bool :=
  let new := aidRoots c
  let old := aidRoots d
  (new.any (fun e => !old.contains e && !bit x.regions e.2.1)) || (old.any (fun e => !new.contains e && !bit x.regions e.2.1))

/-- The parts of region `n`'s tree that are its shape (R316). -/
def treeShape (b : Bank) (n : Nat) : List (Nat × SNode) × List (Nat × SQueue) :=
  ((b.nodes.filter (fun e => decide (e.1 / 4096 = n))).map (fun e => (e.1, { e.2 with weight := 0 })),
   (b.queues.filter (fun e => decide (e.1 / 16384 = n))).map (fun e => (e.1, { e.2 with weight := 0, en := false, limit := 0 })))

/-- What the scopes must name, sections in ascending order. [DEDUCED: log 159] -/
def scopeCheck (s : State) : Bad :=
  let c := s.other
  let d := activeCfg s
  let region := fun (i : Nat) (changed : Nat → Bool) =>
    badIf (isLoaded s i && (List.range 4).any (fun n => changed n && !bit (scopeOf s i).regions n)) epcScope i
  let layoutWords := fun (n : Nat) => [R.PRS_EM_SEED0 n, R.PRS_EM_SEED1 n] ++ (List.range 8).flatMap (fun t =>
    [R.PRS_TBL_CFG n t, R.PRS_TBL_COND n t] ++ (List.range 16).map (fun f => R.PRS_KEY_FLD n t f))
  firstBad [
    badIf (isLoaded s 1 && portScopeBad c d (scopeOf s 1)) epcScope 1,
    badIf (isLoaded s 2 && lineScopeBad c d (scopeOf s 2)) epcScope 2,
    badIf (isLoaded s 3 && bondScopeBad c d (scopeOf s 3)) epcScope 3,
    badIf (isLoaded s 5 && streamsScopeBad c d (scopeOf s 5)) epcScope 5,
    region 6 (fun n => decide (Tab.find c.bank.graph n ≠ Tab.find d.bank.graph n)),
    region 7 (fun n => (layoutWords n).any (fun a => secDiffers 7 c d a)),
    region 9 (fun n => decide (treeShape c.bank n ≠ treeShape d.bank n))]

/-- The arm check over the staged bank (R63): NOTHING, agreement, then scope. -/
def armCheck (s : State) : Bad :=
  if get s F.EPC_LOADED_sections = 0 then some (epcNothing, 0) else firstBad [agreement s, scopeCheck s]

end Sys2Proof.Machine
end

