-- ==== Sys2Proof/Machine/Image.lean ====
section
/-!
DEFINITION. Loading a structure image (R48 to R57): header, section table, CRCs, signature, privilege, generation, then the
sections' kinds, capacities and contents, each against the staged bank.
-/
namespace Sys2Proof.Machine
open Sys2Proof

/-! ### The sections together -/

/-- Kind of section `i` (R51): 0 unknown, 1 S, 2 T, 3 S/T. -/
def secKind (i : Nat) : Nat :=
  if i = 5 ∨ i = 9 then 3 else if [1, 2, 3, 6, 7].contains i then 1 else if 1 ≤ i ∧ i ≤ 0x12 then 2 else 0

/-- Whether a body's counts exceed the capacities of its chapter (R56 check 7). -/
def secOver (i : Nat) (b : List Byte) : Bool :=
  match i with
  | 0x03 => bondOver b
  | 0x04 => pathsetOver b
  | 0x05 => streamsOver b
  | 0x06 => anyBlock b graphOver
  | 0x07 => anyBlock b layoutOver
  | 0x08 => anyBlock b rulesOver
  | 0x09 => anyBlock b treeOver
  | 0x0A => anyBlock b metersOver
  | 0x0B => anyBlock b ownersOver
  | 0x0C => anyBlock b tierOver
  | 0x0D => cryptoOver b
  | 0x0E => timeOver b
  | 0x10 => monitorsOver b
  | 0x11 => accessOver b
  | _ => false

/-- Whether a body passes the load rules of its chapter (R56 check 8). [DEDUCED: log 158] -/
def secOk (s : State) (i : Nat) (b : List Byte) : Bool :=
  match i with
  | 0x01 => portmapOk b
  | 0x02 => linemapOk s b
  | 0x03 => bondOk b
  | 0x04 => pathsetOk b
  | 0x05 => streamsOk b
  | 0x06 => eachRegion b (fun _ x => graphOk x)
  | 0x07 => eachRegion b (fun _ x => layoutOk x)
  | 0x08 => eachRegion b (fun n x => rulesOk (stagedLayout s) n x)
  | 0x09 => eachRegion b (fun _ x => treeOk x)
  | 0x0A => eachRegion b (fun _ x => metersOk x)
  | 0x0B => eachRegion b (fun _ x => ownersOk x)
  | 0x0C => eachRegion b (fun _ x => tierOk x)
  | 0x0D => cryptoOk b
  | 0x0E => timeOk b
  | 0x0F => planOk b
  | 0x10 => monitorsOk b
  | 0x11 => accessOk b
  | 0x12 => (tuning b).2.isNone
  | _ => false

/-- The detail of a content failure: the record's index in TUNING (R79), else the section. -/
def secDetail (i : Nat) (b : List Byte) : Nat := if i = 0x12 then (tuning b).2.getD 0 else i

/-- A section's content into a bank; RULES apart. -/
def secCfg (i : Nat) (b : List Byte) (c : Cfg) : Cfg :=
  match i with
  | 0x01 => portmapApply b c
  | 0x02 => linemapApply b c
  | 0x03 => bondApply b c
  | 0x04 => pathsetApply b c
  | 0x05 => streamsApply b c
  | 0x06 => graphApply b c
  | 0x07 => layoutApply b c
  | 0x09 => treeApply b c
  | 0x0A => metersApply b c
  | 0x0B => ownersApply b c
  | 0x0C => tierApply b c
  | 0x0D => cryptoApply b c
  | 0x0E => timeApply b c
  | 0x0F => planApply b c
  | 0x10 => monitorsApply b c
  | 0x11 => accessApply b c
  | 0x12 => tuningApply b c
  | _ => c

/-- A section's content into the staged bank; `none` where an insert fails (R296). -/
def secApply (s : State) (i : Nat) (b : List Byte) : Option State :=
  if i = 8 then (bodyRegions b).foldl (fun o e => o.bind (fun s => rulesPut s e.1 e.2)) (some s)
  else some (modOther s (secCfg i b))

/-! ### The image (R49, R50) -/

/-- A section-table entry (R50), with the body and the scope descriptor it names. -/
structure SecEntry where
  id : Nat
  flags : Nat
  ver : Nat
  off : Nat
  len : Nat
  crc : Nat
  scopeOff : Nat
  rsv : Nat
  deriving DecidableEq, Repr

/-- Entry of 24 bytes as data. -/
def secEntry (e : List Byte) : SecEntry := {
  id := byteAt e 0, flags := byteAt e 1, ver := le e 2 2, off := le e 4 4, len := le e 8 4, crc := le e 12 4
  scopeOff := le e 16 4, rsv := le e 20 4 }

/-- Header fields of an image. -/
def imgSigned (b : List Byte) : Bool := bit (byteAt b 0x0B) 0
def imgLen (b : List Byte) : Nat := le b 0x0C 4
def imgCount (b : List Byte) : Nat := le b 0x10 2
def imgGen (b : List Byte) : Nat := le b 0x14 4
def imgTable (b : List Byte) : Nat := le b 0x18 4
def imgSig (b : List Byte) : Nat := le b 0x1C 4

/-- The end of what the signature or the length bounds. -/
def imgEnd (b : List Byte) : Nat := if imgSigned b then imgSig b else imgLen b

/-- The section table. -/
def imgEntries (b : List Byte) : List SecEntry := (entries (imgCount b) 24 (b.drop (imgTable b))).map secEntry

/-- The body of an entry. -/
def imgBody (b : List Byte) (e : SecEntry) : List Byte := sub b e.off e.len

/-- The scope descriptor of an entry (R52). -/
def imgScope (b : List Byte) (e : SecEntry) : Scope :=
  let d := sub b e.scopeOff 40
  { regions := le d 0 4 % 32, lanes := le d 8 16, chanA := le d 24 8, chanB := le d 32 8 }

/-- Whether the header and the layout of an image of `len` bytes are as in R49, but for the entries. -/
def headerOk (b : List Byte) (len : Nat) : Bool :=
  decide (64 ≤ b.length) && decide (le b 0 4 = 0x53465A47) && decide (byteAt b 4 = 2) && decide (byteAt b 5 ≤ 1) &&
  decide (le b 6 2 = 64) && decide (le b 8 2 = 0x6425) && decide (byteAt b 0x0A ≤ 0xB0) && decide (byteAt b 0x0B < 4) &&
  decide (imgLen b = len) && decide (b.length = len) && decide (len ≤ 4194304) && within (imgCount b) 1 18 && zeroAt b 0x12 2 &&
  decide (imgGen b ≠ 0) && decide (imgTable b % 8 = 0) && decide (64 ≤ imgTable b) &&
  decide (imgTable b + 24 * imgCount b ≤ imgEnd b) && zeroAt b 0x24 24 &&
  (if imgSigned b then decide (imgSig b + 104 = len) else decide (imgSig b = 0))

/-- The first entry whose body or scope descriptor lies outside the bounds of R49. [DEDUCED: log 158] -/
def entryOutside (b : List Byte) : Option SecEntry :=
  (imgEntries b).find? (fun e => decide (e.off < 64) || decide (imgEnd b < e.off + e.len) ||
    (bit e.flags 1 && (decide (e.scopeOff < 64) || decide (imgEnd b < e.scopeOff + 40))))

/-- The image as its CRC is taken: the crc field and the signature block as zero (R49). -/
def crcImage (b : List Byte) : List Byte :=
  let n := imgEnd b
  sub b 0 0x3C ++ List.replicate 4 0 ++ sub b 0x40 (n - 0x40) ++ List.replicate (b.length - n) 0

/-- Check 1 of R56. [DEDUCED: log 33] -/
def checkHeader (b : List Byte) (len : Nat) : Bad :=
  if headerOk b len then (entryOutside b).map (fun e => (epcBadHeader, e.id)) else some (epcBadHeader, 0)

/-- Check 2 of R56. [DEDUCED: log 33] -/
def checkCrc (b : List Byte) : Bad :=
  if crc32c (crcImage b) ≠ le b 0x3C 4 then some (epcBadCrc, 0)
  else ((imgEntries b).find? (fun e => decide (crc32c (imgBody b e) ≠ e.crc))).map (fun e => (epcBadCrc, e.id))

/-- The image holds an ACCESS section. -/
def hasAccess (b : List Byte) : Bool := (imgEntries b).any (fun e => decide (e.id = 0x11))

/-- Checks 3 to 5 of R56. -/
def checkRights (s : State) (p0 : Bool) (b : List Byte) : Bad :=
  let key := Tab.find s.flash.imgKeys (le b (imgSig b) 4)
  let good := match key with
    | some k => Config.ecdsaVerify k (Config.sha384 (sub b 0 (imgSig b))) (sub b (imgSig b + 8) 96)
    | none => false
  firstBad [
    badIf (!imgSigned b && (hasAccess b || getB s F.EPC_CTRL_require_sig)) epcSigRequired 0,
    badIf (imgSigned b && !good) epcBadSig 0, badIf (hasAccess b && !p0) epcPriv 0,
    badIf (decide (imgGen b ≤ get s F.EPC_GEN_ACTIVE_gen)) epcGenStale 0]

/-- Check 6 of R56: ID in ascending order, kind flag, scope, layout version, and what the table's form asks. [DEDUCED: log 33, 158] -/
def checkKinds (b : List Byte) : Bad :=
  let es := imgEntries b
  firstBad (es.zipIdx.map (fun x =>
    let e := x.1
    let k := secKind e.id
    let st := bit e.flags 0
    let after := decide (x.2 = 0) || (match nth es (x.2 - 1) with
      | some p => decide (p.id < e.id)
      | none => true)
    badIf (decide (k = 0) || !after || decide (4 ≤ e.flags) || decide (e.rsv ≠ 0) || decide (e.off % 8 ≠ 0) ||
      (!bit e.flags 1 && decide (e.scopeOff ≠ 0)) || (decide (k = 1) && !st) || (decide (k = 2) && st) ||
      (st && !bit e.flags 1) || decide (e.ver ≠ 1) || (decide (e.id = 0x12) && decide (byteAt b 5 = 0))) epcBadSection e.id))

/-- Checks 1 to 7 of R56 on an image of `len` bytes. -/
def checkImage (s : State) (p0 : Bool) (b : List Byte) (len : Nat) : Bad :=
  match checkHeader b len with
  | some x => some x
  | none => firstBad [checkCrc b, checkRights s p0 b, checkKinds b,
      ((imgEntries b).find? (fun e => secOver e.id (imgBody b e))).map (fun e => (epcCapacity, e.id))]

/-- Check 8 of R56 and the load itself, section by section; the refusal, or the state with the sections in the staged bank. -/
def loadSections (s : State) (es : List (Nat × List Byte)) : Bad × State :=
  match es with
  | [] => (none, s)
  | (i, b) :: rest =>
    if secOk s i b then
      match secApply s i b with
      | some t => loadSections t rest
      | none => (some (epcCapacity, i), s)
    else (some (epcBadSection, secDetail i b), s)

/-- What a successful load marks (R57). [DEDUCED: log 40] -/
def markLoaded (s : State) (b : List Byte) : State :=
  let s := (imgEntries b).foldl (fun s e =>
    let s := setLoaded s e.id
    let s := put s F.EPC_STRUCT_sections (setBits (get s F.EPC_STRUCT_sections) (e.id - 1) 1 (b2n (bit e.flags 0)))
    { s with epc := { s.epc with
        loaded := Tab.set s.epc.loaded e.id (imgBody b e)
        scopes := if bit e.flags 1 then Tab.set s.epc.scopes e.id (imgScope b e) else Tab.del s.epc.scopes e.id } }) s
  put s F.EPC_GEN_STAGED_gen (imgGen b)

/-- Load an image into the staged bank (R55 to R57): the refusal, or the state with the image loaded. A failed load leaves the
staged bank as it was. [DEDUCED: log 33] -/
def loadImage (s : State) (p0 : Bool) (b : List Byte) (len : Nat) : Bad × State :=
  match checkImage s p0 b len with
  | some x => (some x, s)
  | none =>
    match loadSections s ((imgEntries b).map (fun e => (e.id, imgBody b e))) with
    | (some x, _) => (some x, s)
    | (none, t) => (none, markLoaded t b)

end Sys2Proof.Machine
end

