-- ==== Sys2Proof/Machine/EpcCmd.lean ====
section
/-!
DEFINITION. The commands of the epoch and commit controller (R55, R59 to R65, R67, R73, R75, R77): staging, loads, arm and cancel,
the immediate commit, the switch of a path's line blocks, the boot commit.
-/
namespace Sys2Proof.Machine
open Sys2Proof

/-- Change the commit machinery. -/
def modEpc (s : State) (f : Epc → Epc) : State := { s with epc := f s.epc }

/-! ### Staging (R59 to R61) -/

/-- The end of the seed copy (R60): the staged bank is the active one, with the line values of a path that has still to
switch as they will be. -/
def seedCopy (s : State) : State :=
  let c := activeCfg s
  let shared := s.epc.lineDueA && s.epc.lineDueB
  let c := if s.epc.lineDueA then takeLine s.epc.owedA .a shared c s.lineCfg else c
  let c := if s.epc.lineDueB then takeLine s.epc.owedB .b shared c s.lineCfg else c
  let s := { s with other := c }
  let act := fun (x : ExSlot) => if activeBank s then x.och else x.ind
  let s := (List.range 4).foldl (fun s n =>
    setExact s n (((pkt s n).prs.exact.map (fun e => (e.1, e.2.withAct s (act e.2) false true))).filter
      (fun e => e.2.ind.isSome || e.2.och.isSome))) s
  put s F.EPC_GEN_STAGED_gen (get s F.EPC_GEN_ACTIVE_gen)

/-- The ST fields of the register word at `a`, as (lowest bit, width, section); without the /P0 ones for a requester below
P0. [DEDUCED: log 159] -/
def stagedFields (a : Nat) (p0 : Bool) : List (Nat × Nat × Nat) :=
  match regRowAt a with
  | none => []
  | some (r, h) => r.fields.filterMap (fun f =>
      let lo := max f.lo (8 * h)
      let hi := min (f.lo + f.w) (8 * h + 32)
      if decide (f.stage = .st) && (!f.p0 || p0) && decide (lo < hi) then some (lo - 8 * h, hi - lo, f.sec) else none)

/-- Put the ST fields of a word into the staged bank, which loads their sections (R61). [DEDUCED: log 20] -/
def stagedPut (s : State) (a : Nat) (v : Option View) (w : Word) : State :=
  let fs := stagedFields a true
  let m := fs.map (fun f => (f.1, f.2.1))
  let s := match v with
    | some e => modOther s (fun c => cfgBank c (fun b =>
        e.put b (mergeWord m (BitVec.ofNat 32 (e.word b)) w).toNat))
    | none => modOther s (fun c => cfgPutWord c a (mergeWord m (cfgWord c a) w))
  fs.foldl (fun s f => setLoaded s f.2.2) s

/-- A write of a word with ST fields (R61): into the staged bank in STAGING, after the seed copy; else discarded and counted
field by field. A field of /P0 takes no write from below P0. [DEDUCED: log 32] -/
def stagedWrite (s : State) (r : Requester) (a : Nat) (w : Word) : State :=
  let fs := stagedFields a (isP0 s r)
  if fs.isEmpty then s
  else if epcState s ≠ epcStaging then addTo s F.EPC_ST_DISCARD_count fs.length
  else if getB s F.EPC_STATUS_seeding then
    modEpc s (fun e => { e with waiting := e.waiting ++ [(a, viewAt s a, w)] })
  else stagedPut s a (viewAt s a) w

/-- EPC_CTRL.open (R59, R60). [DEDUCED: log 32] -/
def epcOpen (s : State) : State :=
  if epcState s = epcStaging then epcResult s epcOk 0
  else if epcState s = epcIdle ∨ epcState s = epcDone then
    let s := put (put s F.EPC_LOADED_sections 0) F.EPC_STRUCT_sections 0
    let s := putB (put s F.EPC_QDROP_count 0) F.EPC_STATUS_seeding true
    let s := modEpc s (fun e => { e with scopes := [], loaded := [], waiting := [] })
    epcResult (setEpc s epcStaging) epcOk 0
  else epcResult s epcBusy 0

/-- SEED_COPY_DONE (R60): the staged writes that waited follow. [DEDUCED: log 32] -/
def seedDone (s : State) : State :=
  if getB s F.EPC_STATUS_seeding then
    let s := putB (seedCopy s) F.EPC_STATUS_seeding false
    let s := s.epc.waiting.foldl (fun s e => stagedPut s e.1 e.2.1 e.2.2) (modEpc s (fun e => { e with waiting := [] }))
    (List.range 4).foldl taResume s
  else s

/-! ### Loads (R55 to R57) -/

/-- EPC_LOAD.go (R55). [DESIGN CHOICE: log 190] -/
def epcLoad (s : State) (p0 : Bool) : State :=
  if epcState s ≠ epcStaging then epcResult s (outside s) 0
  else if s.epc.load.isSome then epcResult s epcBusy 0
  else putB (modEpc s (fun e => { e with load := some { p0 := p0, len := get s F.EPC_IMG_LEN_len } })) F.EPC_STATUS_load_busy true

/-- The outcome of a load: EPC_RESULT, and load_fail where it is not OK. [DEDUCED: log 40] -/
def loadEnd (s : State) (code detail : Nat) : State :=
  let s := epcResult (putB (modEpc s (fun e => { e with load := none })) F.EPC_STATUS_load_busy false) code detail
  if code = epcOk then s else raise s F.EPC_EVENT_load_fail .grey code

/-- IMAGE_LOAD_DONE (R55 to R57): the image has been read as `b`. An abandoned load, or one that ends outside STAGING, writes
nothing. [DEDUCED: log 40] -/
def loadDone (s : State) (b : List Byte) : State :=
  match s.epc.load with
  | none => s
  | some j =>
    if !j.live then loadEnd s epcNotStaging 0
    else if epcState s ≠ epcStaging then loadEnd s (outside s) 0
    else if getB s F.EPC_STATUS_seeding then s
    else match loadImage s j.p0 b j.len with
      | (some x, _) => loadEnd s x.1 x.2
      | (none, t) => loadEnd t epcOk 0

/-! ### Arm, cancel, abandon, acknowledge (R59, R63 to R66) -/

/-- q_lead or scope_timeout out of range (R64). -/
def armRange (s : State) : Bool := decide (get s F.EPC_ARM_CTRL_q_lead = 0) || decide (get s F.EPC_ARM_CTRL_scope_timeout < 16)

/-- A refused arm or now. -/
def armRefused (s : State) (code detail : Nat) : State := raise (epcResult s code detail) F.EPC_EVENT_arm_fail .grey code

/-- A check begins. -/
def checkStart (s : State) (k : CheckKind) : State :=
  putB (modEpc s (fun e => { e with check := some k })) F.EPC_STATUS_checking true

/-- A check ends. -/
def checkEnd (s : State) : State := putB (modEpc s (fun e => { e with check := none })) F.EPC_STATUS_checking false

/-- EPC_CTRL.arm (R59, R63, R64). [DESIGN CHOICE: log 38] -/
def epcArm (s : State) : State :=
  if epcState s ≠ epcStaging then epcResult s (outside s) 0
  else if s.epc.check.isSome then epcResult s epcBusy 0
  else if armRange s then armRefused s epcRange 0
  else checkStart s (.arm (get s F.EPC_ARM_FN_fn) (get s F.EPC_ARM_CTRL_q_lead) (get s F.EPC_ARM_CTRL_scope_timeout))

/-- Whether some staged section is structural. -/
def isStructural (s : State) : Bool := decide (get s F.EPC_STRUCT_sections ≠ 0)

/-- The time constraints of R64 at the end of the check. -/
def armTime (s : State) (fn lead : Nat) : Bad :=
  match baseNow s 0 with
  | none => some (epcNoTime, 0)
  | some now =>
    badIf (decide (fn < modFn s + 2) || (isStructural s &&
      (decide (fn < modFn s + lead + 1) || decide (5000 * (fn - lead) < now + 2)))) epcTooSoon 0

/-- The alarms of an armed commit (R66). -/
def armAlarms (s : State) (fn lead bound : Nat) : State :=
  let s := armAt s 128 fn 0 0
  let s := if isStructural s then armAt s 129 (fn - lead) 0 0 else s
  armAt (armAt s 130 fn 1563 0) 131 (fn + bound) 0 0

/-- ARM_CHECK_DONE (R63, R64, R66). [DESIGN CHOICE: log 38] -/
def armDone (s : State) : State :=
  match s.epc.check with
  | some (.arm fn lead bound) =>
    let s := checkEnd s
    match firstBad [armCheck s, armTime s fn lead] with
    | some x => armRefused s x.1 x.2
    | none => epcResult (armAlarms (setEpc s epcArmed) fn lead bound) epcOk 0
  | _ => s

/-- EPC_CTRL.cancel (R65): LOCKED once alarm 128 locks or the quiesce of a structural scope has begun, and while the commit runs.
[DEDUCED: log 160] -/
def epcCancel (s : State) : State :=
  if epcState s = epcCommitting ∨ epcState s = epcDraining then epcResult s epcLocked 0
  else if epcState s ≠ epcArmed then epcResult s (outside s) 0
  else if alarmState s 128 = 2 ∨ (isStructural s ∧ alarmState s 129 = 3) then epcResult s epcLocked 0
  else
    let s := [128, 129, 130, 131].foldl (fun s k => disarm s k almOk) s
    epcResult (setEpc (unarm s) epcStaging) epcOk 0

/-- EPC_CTRL.abandon (R55, R59): the staged bank is given up, with any check, seed copy, waiting write and load. [DEDUCED: log 39, 160] -/
def epcAbandon (s : State) : State :=
  if epcState s ≠ epcStaging then epcResult s (outside s) 0
  else
    let s := putB (checkEnd s) F.EPC_STATUS_seeding false
    let s := modEpc s (fun e => { e with waiting := [], load := e.load.map (fun j => { j with live := false }) })
    epcResult ((List.range 4).foldl taResume (setEpc s epcIdle)) epcOk 0

/-- EPC_CTRL.ack (R59). [DEDUCED: log 160] -/
def epcAck (s : State) : State :=
  if epcState s ≠ epcDone then epcResult s (outside s) 0 else epcResult (setEpc s epcIdle) epcOk 0

/-- EPC_CTRL.now (R59, R64, R77). [DESIGN CHOICE: log 38] -/
def epcNow (s : State) : State :=
  if epcState s ≠ epcStaging then epcResult s (outside s) 0
  else if s.epc.check.isSome then epcResult s epcBusy 0
  else if ltValid s then epcResult s epcTimeValid 0
  else if armRange s then armRefused s epcRange 0
  else checkStart s .now

/-! ### The switch of a path's line blocks (R67, R69, R76) -/

/-- A SID's bit in the filter of path `q` (R119). -/
def bankSidPasses (b : Bank) (q : Path) (sid : Nat) : Bool :=
  (Tab.getD b.sidFilter (32768 * qn q + sid / 32) 0).getLsbD (sid % 32)

/-- STREAMS: frames in reassembly whose SID the commit removes from the filter are discarded (R69). [DESIGN CHOICE: log 44] -/
def dropSids (s : State) (q : Path) : State :=
  let gone := fun (c : Ctx) => decide (c.path = q) && !bankSidPasses s.bank q c.sid
  let lost := (s.dfr.ctxs.filter gone).map (fun c => chanIds q c.idx) ++ (s.bnd.ctxs.filter gone).map (fun _ => [])
  let s := { s with dfr := { s.dfr with ctxs := s.dfr.ctxs.filter (fun c => !gone c) }
                    bnd := { s.bnd with ctxs := s.bnd.ctxs.filter (fun c => !gone c) } }
  showCtxs (lost.foldl (fun s ids => dfrDiscard s ids 0x6E) s)

/-- BONDSET: a downstream group that the commit deletes is flushed and its contexts are discarded (R207). [DEDUCED, DESIGN CHOICE: log 44, 177] -/
def dropGroup (s : State) (q : Path) (k : Nat) : State :=
  let (s, l) := bndFlush s q k ((bndGroup s q k).buf.length + 1)
  let (s, us) := bndReassembleAll s q k l
  let s := pthUnits s us
  let mine := fun (c : Ctx) => decide (c.path = q ∧ c.idx = k)
  let lost := (s.bnd.ctxs.filter mine).length
  let s := { s with bnd := { s.bnd with ctxs := s.bnd.ctxs.filter (fun c => !mine c) } }
  let s := (List.range lost).foldl (fun s _ => bndDiscard s [] 0x65) s
  let s := putB (put s (F.BND_DG_RP_rp (qn q) k) 0) (F.BND_DG_STATUS_synced (qn q) k) false
  showGroup { s with bnd := { s.bnd with groups := Tab.del s.bnd.groups (32 * qn q + k) } } q k

/-- PATHSET: merge groups that no SID names any more are released (R232), and AIDs that leave a mode lose what it kept.
[DEDUCED, DESIGN CHOICE: log 44, 177] -/
def pathsetSwitch (s : State) (modes : List Nat) : State :=
  let s := (s.pth.groups.map (fun e => e.1)).foldl (fun s k =>
    if s.bank.mergeOf.any (fun e => decide (e.2 = k)) then s else mergeResync s k ((mergeGroup s k).held.length + 1)) s
  let s := (List.range 512).foldl (fun s a =>
    let was := modes.getD a 0
    let s := if was = 2 ∧ aidMode s a ≠ 2 then releaseRetained s a (fun _ => true) else s
    if was = 1 ∧ aidMode s a ≠ 1 then setCopies (setCopies s a .a []) a .b [] else s) s
  fitStore s (heldUnits s)

/-- LINEMAP: lane `p` moves to its init_state; FLT's handling of a lane that the scope names is over (R454). -/
def linemapLane (s : State) (p : Nat) : State :=
  let named := Scope.names (Tab.getD s.epc.scopes 2 {}) p
  let s := if named then modLane s p (fun l => { l with fltHeld := false, fltRetry := false }) else s
  applySetpoint (laneRetarget s p (Tab.getD s.bank.lineInit p 4)) p

/-- The sections that the line blocks of path `q` have still to take (R67). -/
def owedBy (s : State) (q : Path) : Nat := match q with
  | .a => s.epc.owedA
  | .b => s.epc.owedB

/-- The line blocks of path `q` have the values of the committed bank (R67). What both paths share is taken with the first of them.
[DEDUCED: log 43] -/
def lineTakes (s : State) (q : Path) : State :=
  let s := setActive s (takeLine (owedBy s q) q (s.epc.lineDueA && s.epc.lineDueB) (activeCfg s) s.lineCfg)
  modEpc s (fun e => match q with
    | .a => { e with lineDueA := false, waitA := false, owedA := 0 }
    | .b => { e with lineDueB := false, waitB := false, owedB := 0 })

/-- What the switch of path `q`'s line blocks from their state in `old` does beside their values: an upstream group that the commit deletes starts at
0 if it is created again (R204). -/
def lineEffects (old s : State) (q : Path) : State :=
  let m := owedBy old q
  let s := if inSecs m 5 then dropSids s q else s
  let s := if inSecs m 3 then
      let valid := fun (f : Nat → Fld) => (List.range 32).filter (fun k => getB old (f k))
      (valid (F.BND_DG_STATUS_valid (qn q))).foldl (fun s k => if getB s (F.BND_DG_STATUS_valid (qn q) k) then s else dropGroup s q k)
        ((valid (F.BND_UG_STATUS_valid (qn q))).foldl (fun s k =>
          if getB s (F.BND_UG_STATUS_valid (qn q) k) then s else put s (F.BND_UG_NEXT_bseq (qn q) k) 0) s)
    else s
  let s := if old.epc.lineDueA && old.epc.lineDueB && (inSecs m 4 || inSecs m 3) then
      pathsetSwitch s ((List.range 512).map (fun a => aidMode old a)) else s
  let s := if inSecs m 2 then (lanesOf q).foldl linemapLane s else s
  let s := (lanesOf q).foldl chanCheck (actDisabled s q)
  lineSettle s

/-- The line blocks of path `q` take the committed bank (R67, R76). -/
def lineSwitch (s : State) (q : Path) : State := lineEffects s (lineTakes s q) q

/-- Whether path `q`'s own time runs ahead of module line time while a commit is ARMED (R67): its boundary comes before the instant.
[DEDUCED: log 198] -/
def runsAhead (s : State) (q : Path) : Bool :=
  decide (epcState s = epcArmed) && (match baseNow s 0, baseNow s (1 + qn q) with
    | some m, some p => decide (m < p)
    | _, _ => false)

/-- The line blocks of path `q` have nothing of the armed commit still to take. [DEDUCED: log 198] -/
def hasSwitched (s : State) (q : Path) : Bool := s.epc.early && !lineDue s q

/-- LINE_BANK_SWITCH (R67, R76): a path with lock reaches FN:0 of the commit FN in its own time, ahead of the commit instant or behind it,
or locks later. [DEDUCED: log 43] -/
def lineBankSwitch (s : State) (q : Path) : State :=
  if !pathLocked s q then s
  else if runsAhead s q && !hasSwitched s q then
    let fn := get s (F.LTU_ALM_FN_fn 128)
    let s := if s.epc.early then s else lineBegin s (get s F.EPC_LOADED_sections) fn
    lineSwitch (modEpc (reach s (1 + qn q) (5000 * fn)) (fun e => { e with early := true })) q
  else if lineDue s q && !s.epc.early then lineSwitch (reach s (1 + qn q) (5000 * s.epc.atFn)) q
  else s

/-! ### The rest of a commit (R67, R73, R75, R77) -/

/-- NOW_CHECK_DONE (R77): the commit instant is the end of the check, for every block. -/
def nowDone (s : State) : State :=
  match s.epc.check with
  | some .now =>
    let s := checkEnd s
    match armCheck s with
    | some x => armRefused s x.1 x.2
    | none =>
      let s := commitInstant (quiesceBegin (epcResult s epcOk 0))
      modEpc (lineSwitch (lineSwitch s .a) .b) (fun e => { e with nowCommit := true, atFn := 0 })
  | _ => s

/-- Whether COMMITTING waits for the switch of path `q` (R67): it held lock at the commit instant and holds it still. -/
def waitsFor (s : State) (q : Path) : Bool :=
  (match q with | .a => s.epc.waitA | .b => s.epc.waitB) && pathLocked s q

/-- COMMIT_ACKNOWLEDGED (R59, R67). [DEDUCED: log 41] -/
def commitAck (s : State) : State :=
  if epcState s = epcCommitting ∧ !waitsFor s .a ∧ !waitsFor s .b then setEpc s epcDraining else s

/-- Core ticks in codewords: a codeword is 19.2 ticks. [DEDUCED: log 41] -/
def ticksCw (t : Nat) : Nat := 5 * t / 96

/-- DRAIN_DONE (R59, R73). [DEDUCED: log 41] -/
def drainDone (s : State) : State :=
  if epcState s = epcDraining ∧ (List.range 4).all (fun n => !drains s n) then
    let t := sat 65535 (ticksCw (ticks s - s.epc.atTick))
    raiseGrey (setEpc (putMax (put s F.EPC_DRAIN_TIME_cw t) F.EPC_DRAIN_MAX_cw t) epcDone) F.EPC_EVENT_done
  else s

/-- SCOPE_READY (R75): client lanes and regions are ready at the commit instant, channels where `chanReady` says. [DEDUCED: log 45] -/
def scopeReady (s : State) (x : ScopeRes) : State :=
  if epcState s = epcArmed then s
  else match x with
    | .clientLane k => setQuiesced s { s.epc.quiesced with lanes := setBits s.epc.quiesced.lanes k.val 1 0 }
    | .region n => setQuiesced s { s.epc.quiesced with regions := setBits s.epc.quiesced.regions n.val 1 0 }
    | .chan l => chanCheck s l.val

/-- The boot load that failed (R77): no lane and no packet region is enabled. [DEDUCED: log 42] -/
def bootFailed (s : State) (code : Nat) : State :=
  let s := { s with bank := { s.bank with
    lineInit := (List.range 128).foldl (fun t p => Tab.set t p 4) []
    pwrInit := (List.range 4).foldl (fun t n => Tab.set t n 3) [] } }
  raise (put s F.EPC_STATUS_boot_result code) F.EPC_EVENT_load_fail .black code

/-- The boot commit (R77): the default image from flash into Indigo, applied at once; the EPC stays in IDLE and nothing is
quiesced. [DEDUCED, DESIGN CHOICE: log 42, 191] -/
def bootCommit (s : State) : State :=
  let b := s.flash.image
  let len := le b 0x0C 4
  let t := putB { s with other := activeCfg s } F.EPC_STATUS_active_bank true
  match loadImage t true (b.take len) len with
  | (some x, _) => bootFailed s x.1
  | (none, t) =>
    let m := get t F.EPC_LOADED_sections
    let t := put (put (inc t F.EPC_COMMIT_COUNT_count) F.EPC_GEN_ACTIVE_gen (get t F.EPC_GEN_STAGED_gen)) F.EPC_STATUS_boot_result epcOk
    let t := switchBanks (putB t F.EPC_STATUS_active_bank false) m 0
    let t := lineSwitch (lineSwitch t .a) .b
    let t := put (put t F.EPC_LOADED_sections 0) F.EPC_STRUCT_sections 0
    modEpc t (fun e => { e with loaded := [], scopes := [], carried := 0 })

/-- The boot commit is applied, and S2 may start (R409). -/
def bootApply (s : State) : State :=
  let s := bootCommit s
  { s with pwr := { s.pwr with booted := true } }

/-! ### Commands -/

def execEpcOpen (r : Requester) (s : State) : Host.Outcome State Fault Refusal := finish s (onWrite s r R.EPC_CTRL epcOpen)
def execSeedCopyDone (s : State) : Host.Outcome State Fault Refusal := finish s (seedDone s)
def execEpcLoad (r : Requester) (s : State) : Host.Outcome State Fault Refusal :=
  finish s (onWrite s r R.EPC_LOAD (fun s => epcLoad s (isP0 s r)))
def execImageLoadDone (b : List Byte) (s : State) : Host.Outcome State Fault Refusal := finish s (loadDone s b)
def execEpcArm (r : Requester) (s : State) : Host.Outcome State Fault Refusal := finish s (onWrite s r R.EPC_CTRL epcArm)
def execArmCheckDone (s : State) : Host.Outcome State Fault Refusal := finish s (armDone s)
def execEpcCancel (r : Requester) (s : State) : Host.Outcome State Fault Refusal := finish s (onWrite s r R.EPC_CTRL epcCancel)
def execEpcAbandon (r : Requester) (s : State) : Host.Outcome State Fault Refusal := finish s (onWrite s r R.EPC_CTRL epcAbandon)
def execEpcAck (r : Requester) (s : State) : Host.Outcome State Fault Refusal := finish s (onWrite s r R.EPC_CTRL epcAck)
def execEpcNow (r : Requester) (s : State) : Host.Outcome State Fault Refusal := finish s (onWrite s r R.EPC_CTRL epcNow)
def execNowCheckDone (s : State) : Host.Outcome State Fault Refusal := finish s (nowDone s)
def execNowDrainBound (s : State) : Host.Outcome State Fault Refusal := finish s (if s.epc.nowCommit then drainBound s else s)
def execNowRestartBound (s : State) : Host.Outcome State Fault Refusal := finish s (if s.epc.nowCommit then restartBound s else s)
def execLineBankSwitch (q : Path) (s : State) : Host.Outcome State Fault Refusal := finish s (lineBankSwitch s q)
def execCommitAcknowledged (s : State) : Host.Outcome State Fault Refusal := finish s (commitAck s)
def execDrainDone (s : State) : Host.Outcome State Fault Refusal := finish s (drainDone s)
def execScopeReady (x : ScopeRes) (s : State) : Host.Outcome State Fault Refusal := finish s (scopeReady s x)

end Sys2Proof.Machine
end

