-- ==== Sys2Proof/Machine/Evr.lean ====
section
/-!
DEFINITION. The event recorder's own commands (R433 to R443) and the monitors' (R446, R447): flush, reading windows, the
authorised clear, rate limits, operating time, counters.
-/
namespace Sys2Proof.Machine
open Sys2Proof

def modEvr (s : State) (f : Evr → Evr) : State := { s with evr := f s.evr }

/-! ### Flush and store failure (R436, R443) -/

/-- Every record of the log reaches flash. -/
def flushAll (s : State) : State :=
  refreshLog (modEvr s (fun e => { e with log := e.log.map (fun r => { r with flushed := true }) }))

/-- A log memory has failed (R443): the record goes to Jet; from then on the log admits Black and Crimson into Jet alone. [DESIGN CHOICE: log 134] -/
def storeFailed (s : State) (f : StoreFail) : State :=
  let s := put s F.EVR_STATUS_store 1
  let s := if f.flash then putB s F.EVR_STATUS_flash_fail true else putB s F.EVR_STATUS_ram_fail true
  let s := offer s 0x0521 .black 6 0x05 0 (if f.flash then 2 else 1) f.addr.toNat
  raise s F.EVR_EVENT_store_failed .black (if f.flash then 2 else 1)

/-- EVR_FLUSH_TICK (R436, R443): the records whose deadline has come are flushed, or a memory fails. [DESIGN CHOICE: log 134] -/
def flushTick (s : State) (fail : Option StoreFail) : State :=
  match fail with
  | some f => storeFailed s f
  | none => if getB s F.EVR_STATUS_store || s.evr.closed then s else flushAll s

/-- EVR_FLUSH. -/
def flushNow (s : State) : State := if getB s F.EVR_STATUS_store || s.evr.closed then s else flushAll s

/-! ### Reading windows (R440) -/

def logWin (s : State) (r : Requester) : LogWin := Tab.getD s.evr.wins (reqNum r) {}
def modWin (s : State) (r : Requester) (f : LogWin → LogWin) : State :=
  modEvr s (fun e => { e with wins := Tab.upd e.wins (reqNum r) {} f })

/-- EVR_CURSOR_WRITE: the copy begins. [DEDUCED: log 135] -/
def cursorWrite (s : State) (r : Requester) (c : Word) : State := modWin s r (fun w => { w with cursor := c.toNat, busy := true })

/-- The records that a window load may copy (R443): with a failed store, those of the memory that survives. -/
def readable (s : State) : List Rec :=
  if !getB s F.EVR_STATUS_store then s.evr.log
  else if getB s F.EVR_STATUS_ram_fail then
    (if getB s F.EVR_STATUS_flash_fail then [] else s.evr.log.filter (fun r => r.flushed))
  else s.evr.log.drop (s.evr.log.length - 65536)

/-- Up to `n` records from a cursor. [DEDUCED: log 135] -/
def recordsFrom (s : State) (c n : Nat) : List Rec := ((readable s).filter (fun r => seqAtOrAfter r.seq c)).take n

/-- WINDOW_COPY_DONE (R440). [DEDUCED: log 135] -/
def windowCopied (s : State) (r : Requester) : State :=
  let w := logWin s r
  if !w.busy then s
  else
    let l := recordsFrom s w.cursor 64
    let gap := match l with
      | [] => false
      | x :: _ => decide (x.seq % 2 ^ 32 ≠ w.cursor % 2 ^ 32)
    modWin s r (fun w => { w with busy := false, recs := l, gen := get s F.EVR_GEN_gen, gap := gap })

/-! ### The authorised clear (R441) -/

/-- EVR_CLR_CTRL.challenge (R441, R387). EVR_CLR_UPTO must lie before EVR_SEQ_NEXT. [DESIGN CHOICE: log 133] -/
def clrChallenge (s : State) : State :=
  if s.evr.locked then put s F.EVR_CLR_CTRL_result 3
  else if s.wrd.down then s
  else if !seqAfter (get s F.EVR_SEQ_NEXT_seq) (get s F.EVR_CLR_UPTO_seq) then put s F.EVR_CLR_CTRL_result 2
  else
    let n := freeBytes s 32
    let s := (List.range 8).foldl (fun s w => put s (F.EVR_CLR_NONCE_bits w) (be n (4 * w) 4)) (stepFree s)
    modEvr (put s F.EVR_CLR_CTRL_result 0) (fun e => { e with nonceAt := some (ticks s) })

/-- EVR_CLR_CTRL.respond (R441). [DESIGN CHOICE: log 133] -/
def clrRespond (s : State) : State := modEvr s (fun e => { e with verifying := true })

/-- Bytes of a register array, most significant byte of each word first. -/
def arrayBytes (s : State) (f : Nat → Fld) (k : Nat) : List Byte := (List.range k).flatMap (fun w => beBytes 4 (get s (f w)))

/-- The message of a clear's signature (R441). -/
def clrMessage (s : State) : List Byte :=
  Config.sha384 (arrayBytes s F.EVR_CLR_NONCE_bits 8 ++ beBytes 8 (get s F.ACT_LSI_lsi) ++ beBytes 4 (get s F.EVR_CLR_UPTO_seq) ++ [0x4C, 0x43])

/-- The records up to EVR_CLR_UPTO go, and LOG_CLEARED is written (R441). Of an empty range it has no first and last seq. [DESIGN CHOICE: log 133] -/
def clearLog (s : State) : State :=
  let upto := get s F.EVR_CLR_UPTO_seq
  let gone := s.evr.log.filter (fun r => seqAtOrAfter upto r.seq)
  let first := ((gone.head?).map (fun r => r.seq)).getD (freeVal s % 2 ^ 32)
  let last := ((gone.getLast?).map (fun r => r.seq)).getD (freeVal (stepFree s) % 2 ^ 32)
  let s := if gone.isEmpty then stepFree (stepFree s) else s
  let s := inc (modEvr s (fun e => { e with log := e.log.filter (fun r => !seqAtOrAfter upto r.seq) })) F.EVR_GEN_gen
  let d := freeVal s
  offerArgs (stepFree (refreshLog s)) 0x0520 .amber 6 0x05 0 [first, last, gone.length, d % 2 ^ 32]

/-- CLR_VERIFY_DONE (R441): three failures in a row lock challenges. [DESIGN CHOICE: log 133] -/
def clrVerify (s : State) : State :=
  if !s.evr.verifying || s.wrd.down then s
  else
    let fresh := match s.evr.nonceAt with
      | some t => decide (ticks s - t ≤ usTicks 10000000)
      | none => false
    let ok := fresh && Config.ecdsaVerify s.flash.rootKey (clrMessage s) (arrayBytes s F.EVR_CLR_SIG_bits 24)
    let s := modEvr s (fun e => { e with verifying := false, nonceAt := none })
    if ok then raiseGrey (clearLog (modEvr (put s F.EVR_CLR_CTRL_result 1) (fun e => { e with fails := 0 }))) F.EVR_EVENT_cleared
    else
      let n := s.evr.fails + 1
      let s := modEvr (put s F.EVR_CLR_CTRL_result 2) (fun e => { e with fails := n % 3, locked := e.locked || decide (3 ≤ n) })
      raise s F.EVR_EVENT_clr_fail .amber 0

/-! ### Rate limits and operating time (R433, R438, R439) -/

/-- The severity under which a code is limited. -/
def sevOfCode (s : State) (code : Nat) : Sev := match Tab.getD s.evr.sevs code 3 with
  | 0 => .black
  | 1 => .crimson
  | 2 => .amber
  | _ => .grey

/-- RATE_LIMIT_REFILL (R438, R439): a bucket that is full again needs no entry. [DEDUCED: log 132] -/
def refillBuckets (s : State) : State :=
  let next := fun (e : Nat × Nat) =>
    let (r, b) := rateOf s e.1 (sevOfCode s e.1)
    if 1000 * b ≤ e.2 + r then none else some (e.1, e.2 + r)
  modEvr s (fun e => { e with tokens := e.tokens.filterMap next, agg := min 16384000 (e.agg + 8192) })

/-- EVR_RL_CFG_WRITE (R439): the limit of the code that EVR_RL_SEL names, as far as R439 lets it, with a full bucket. [DEDUCED: log 132] -/
def rlCfgWrite (s : State) (w : Word) : State :=
  let code := get s F.EVR_RL_SEL_code
  let r := sat 1024 (bits w.toNat 0 11)
  let b := max 1 (sat 256 (bits w.toNat 16 9))
  let s := modBanks s 0x10 (fun k => { k with rateLimit := Tab.set k.rateLimit code (r, b) })
  modEvr s (fun e => { e with tokens := Tab.del e.tokens code })

/-- OP_TIME_SAVE (R433). -/
def opTimeSave (s : State) : State := modEvr s (fun e => { e with savedOp := get s F.EVR_OPTIME_sec })

/-! ### Monitors (R446, R447) -/

/-- A write of counter `c` (R447): a preset while it is disabled. [DESIGN CHOICE: log 136] -/
def counterWrite (s : State) (c v : Nat) : State := if getB s (ctrEn c) then s else put s (ctrLive c) v

/-! ### Commands -/

def execEvrFlushTick (fail : Option StoreFail) (s : State) : Host.Outcome State Fault Refusal := finish s (flushTick s fail)
def execEvrFlush (r : Requester) (s : State) : Host.Outcome State Fault Refusal := finish s (onWrite s r R.EVR_CTRL flushNow)
def execEvrCursorWrite (r : Requester) (c : Word) (s : State) : Host.Outcome State Fault Refusal :=
  finish s (onWrite s r R.EVR_CURSOR (fun s => cursorWrite s r c))
def execWindowCopyDone (r : Requester) (s : State) : Host.Outcome State Fault Refusal := finish s (windowCopied s r)
def execEvrClrChallenge (r : Requester) (s : State) : Host.Outcome State Fault Refusal :=
  finish s (onWrite s r R.EVR_CLR_CTRL (fun s => if isP1 r then clrChallenge s else s))
def execEvrClrRespond (r : Requester) (s : State) : Host.Outcome State Fault Refusal :=
  finish s (onWrite s r R.EVR_CLR_CTRL (fun s => if isP1 r then clrRespond s else s))
def execClrVerifyDone (s : State) : Host.Outcome State Fault Refusal := finish s (clrVerify s)
def execClrLockoutExpire (s : State) : Host.Outcome State Fault Refusal := finish s (modEvr s (fun e => { e with locked := false }))
def execRateLimitRefill (s : State) : Host.Outcome State Fault Refusal := finish s (refillBuckets s)
def execEvrRlCfgWrite (r : Requester) (w : Word) (s : State) : Host.Outcome State Fault Refusal :=
  finish s (onWrite s r R.EVR_RL_CFG (fun s => rlCfgWrite s w))
def execOpTimeTick (s : State) : Host.Outcome State Fault Refusal := finish s (inc s F.EVR_OPTIME_sec)
def execOpTimeSave (s : State) : Host.Outcome State Fault Refusal := finish s (opTimeSave s)
def execCounterWrite (r : Requester) (c : Fin 192) (v : BitVec 64) (s : State) : Host.Outcome State Fault Refusal :=
  finish s (onWrite s r (ctrLive c.val).addr (fun s => counterWrite s c.val v.toNat))
def execPmonFreeze (r : Requester) (on : Bool) (s : State) : Host.Outcome State Fault Refusal :=
  finish s (onWrite s r R.PMON_CTRL (fun s => putB s F.PMON_CTRL_freeze on))

end Sys2Proof.Machine
end

