-- ==== Sys2Proof/Machine/Wrd.lean ====
section
/-!
DEFINITION. The warden (R370 to R373, R380, R466): its commands, the flash writes they start, its watchdog.
-/
namespace Sys2Proof.Machine
open Sys2Proof

def modWrd (s : State) (f : Wrd → Wrd) : State := { s with wrd := f s.wrd }

/-- A warden command ends with a code. -/
def wrdEnd (s : State) (code : Nat) : State :=
  let s := putB (put s F.WRD_RESULT_code code) F.WRD_RESULT_busy false
  if code = wrdOk then raiseGrey s F.WRD_EVENT_cmd_done else raise s F.WRD_EVENT_cmd_fail .grey code

/-- A flash write begins. [DEDUCED: log 104] -/
def wrdJob (s : State) (j : WrdJob) : State :=
  put (putB (modWrd s (fun w => { w with job := some j })) F.WRD_RESULT_busy true) F.WRD_RESULT_pct 0

/-- A warden slot: A or B. -/
def wrdSlot (s : State) (b : Bool) : Option FwSlot := if b then s.flash.wrdB else s.flash.wrdA
def putWrdSlot (s : State) (b : Bool) (x : Option FwSlot) : State :=
  { s with flash := if b then { s.flash with wrdB := x } else { s.flash with wrdA := x } }

/-- The policy slot that the cluster runs, if it runs one. -/
def runsSlot (s : State) (b : Bool) : Bool :=
  (decide (cplState s = cplBooting) || decide (cplState s = cplRun)) && decide (getB s F.CPL_STATUS_slot = b)

/-- POLICY_WRITE (R371): the checks, then the slot is erased and written. -/
def policyWrite (s : State) (b : Bool) (img : List Byte) : State :=
  let c := fwCheck s false img
  if c ≠ wrdOk then wrdEnd s c
  else if runsSlot s b then wrdEnd s wrdRunningSlot
  else wrdJob (putPolSlot s b none) (.policy b img)

/-- WARDEN_WRITE (R373): as POLICY_WRITE, for a warden slot. -/
def wardenWrite (s : State) (b : Bool) (img : List Byte) : State :=
  let c := fwCheck s true img
  if c ≠ wrdOk then wrdEnd s c
  else if getB s F.WRD_STATUS_wslot = b then wrdEnd s wrdRunningSlot
  else wrdJob (putWrdSlot s b none) (.warden b img)

/-- KEY_ADD (R370). An index that holds a key already takes no other; the manual gives that refusal no code. [DESIGN CHOICE: log 105] -/
def keyAdd (s : State) (k : Nat) (key : List Byte) : State :=
  if bit (get s F.WRD_KEYS_revoked) k then wrdEnd s wrdKeyRevoked
  else if bit (get s F.WRD_KEYS_valid) k then wrdEnd (stepFree s) (1 + freeVal s % 15)
  else
    let s := { s with flash := { s.flash with polKeys := Tab.set s.flash.polKeys k (key.take 97) } }
    wrdEnd (put s F.WRD_KEYS_valid (setBits (get s F.WRD_KEYS_valid) k 1 1)) wrdOk

/-- KEY_REVOKE (R370). [DESIGN CHOICE: log 105] -/
def keyRevoke (s : State) (k : Nat) : State :=
  let s := { s with flash := { s.flash with polKeys := Tab.del s.flash.polKeys k } }
  let s := put s F.WRD_KEYS_valid (setBits (get s F.WRD_KEYS_valid) k 1 0)
  wrdEnd (put s F.WRD_KEYS_revoked (setBits (get s F.WRD_KEYS_revoked) k 1 1)) wrdOk

/-- Lock or unlock the calibration store. -/
def calLock (s : State) (open_ : Bool) : State :=
  putB { s with cal := { s.cal with unlocked := open_ } } F.WRD_CAL_STATUS_unlocked open_

/-- CAL_UNLOCK (R466). -/
def calUnlock (s : State) : State :=
  if get s F.WRD_LEN_len = get s F.ACT_LSI_lsi % 2 ^ 24 then wrdEnd (calLock s true) wrdOk else wrdEnd (calLock s false) wrdLocked

/-- CAL_WRITE and CAL_SAVE_RX (R466): the partition is erased once the file has passed R464. -/
def calWrite (s : State) (b : List Byte) : State :=
  let f := (b ++ List.replicate calBytes 0xFF).take calBytes
  if !s.cal.unlocked then wrdEnd s wrdLocked
  else if calCheck s f ≠ 0 then wrdEnd s wrdBadCal
  else wrdJob (calPut s []) (.cal f)

/-- CAL_READ (R466): with the PF's requester ID. [DESIGN CHOICE: log 230] -/
def calRead (s : State) : State := wrdEnd (emit s (.hostWrite 0 (get s F.WRD_ADDR_addr) (calStored s))) wrdOk

/-- Whether a command is P0 only. -/
def WrdReq.p0 (x : WrdReq) : Bool := match x with
  | .wardenWrite _ _ | .keyAdd _ _ | .keyRevoke _ | .calUnlock | .calWrite _ | .calSaveRx => true
  | _ => false

/-- The warden runs a command of a requester at P0 or not, at P1 or not: PRIV below the level it asks (R370, R371, R373, R466). [DEDUCED: log 104] -/
def wrdRun (s : State) (x : WrdReq) (p0 p1 : Bool) : State :=
  if (x.p0 && !p0) || (!p0 && !p1) then wrdEnd s wrdPriv
  else match x with
    | .policyWrite b img => policyWrite s b img
    | .wardenWrite b img => wardenWrite s b img
    | .keyAdd k key => keyAdd s k key
    | .keyRevoke k => keyRevoke s k
    | .setPref b => wrdEnd (putB s F.WRD_STATUS_boot_pref b) wrdOk
    | .calUnlock => calUnlock s
    | .calWrite f => calWrite s f
    | .calSaveRx => calWrite s (calWithRx s)
    | .calRead => calRead s

/-- The op, slot and key that a command's WRD_CMD word holds. -/
def WrdReq.fields (x : WrdReq) : Nat × Option Bool × Option Nat := match x with
  | .policyWrite b _ => (1, some b, none)
  | .wardenWrite b _ => (2, some b, none)
  | .keyAdd k _ => (3, none, some k)
  | .keyRevoke k => (4, none, some k)
  | .setPref b => (5, some b, none)
  | .calUnlock => (6, none, none)
  | .calWrite _ => (7, none, none)
  | .calSaveRx => (8, none, none)
  | .calRead => (9, none, none)

/-- A write of WRD_CMD with go (R371, R466): BUSY while a command runs or waits; a command waits while the warden is down
(R380). [DEDUCED: log 104] -/
def wrdCommand (s : State) (r : Requester) (x : WrdReq) : State :=
  let s := put s F.WRD_CMD_op x.fields.1
  let s := match x.fields.2.1 with
    | some b => putB s F.WRD_CMD_slot b
    | none => s
  let s := match x.fields.2.2 with
    | some k => put s F.WRD_CMD_key k
    | none => s
  if getB s F.WRD_RESULT_busy then raise (put s F.WRD_RESULT_code wrdBusy) F.WRD_EVENT_cmd_fail .grey wrdBusy
  else if s.wrd.down then
    putB (modWrd s (fun w => { w with waiting := some (x, isP0 s r, isP1 r) })) F.WRD_RESULT_busy true
  else wrdRun s x (isP0 s r) (isP1 r)

/-- The end of a flash write: the read-back is good or not. -/
def policyDone (s : State) (ok : Bool) : State :=
  match s.wrd.job with
  | some (.policy b img) =>
    let s := put (modWrd s (fun w => { w with job := none })) F.WRD_RESULT_pct 100
    if ok then wrdEnd (putPolSlot s b (some (fwSlot img))) wrdOk else wrdEnd s wrdFlashFail
  | _ => s

/-- The warden slot is written (R373): the new image runs from the next module reset. -/
def wardenDone (s : State) (ok : Bool) : State :=
  match s.wrd.job with
  | some (.warden b img) =>
    let s := put (modWrd s (fun w => { w with job := none })) F.WRD_RESULT_pct 100
    if ok then
      let s := putWrdSlot s b (some (fwSlot img))
      wrdEnd { s with flash := { s.flash with wrdPref := b } } wrdOk
    else wrdEnd s wrdFlashFail
  | _ => s

/-- A write of the partition that does not end well leaves it partly written (R467): a prefix of the file, of a length the
manual does not give. [DESIGN CHOICE: log 106] -/
def calPartly (s : State) (f : List Byte) : State :=
  stepFree (calPut s (f.take (4 + freeVal s % (calBytes - 4))))

/-- The end of a CAL write: the store is locked again (R466). -/
def calDone (s : State) (ok : Bool) : State :=
  match s.wrd.job with
  | some (.cal f) =>
    let s := put (modWrd s (fun w => { w with job := none })) F.WRD_RESULT_pct 100
    let s := if ok then calPut s f else calPartly s f
    wrdEnd (calLock s false) (if ok then wrdOk else wrdFlashFail)
  | _ => s

/-- A write that runs is cut short (R467): the slot stays empty, the partition partly written. [DESIGN CHOICE: log 106] -/
def jobCut (s : State) : State :=
  match s.wrd.job with
  | none => s
  | some j =>
    let s := modWrd s (fun w => { w with job := none })
    match j with
    | .cal f => calPartly s f
    | _ => s

/-- The warden stops: a reset of its core (R380, R412). The PF loses P0 with it (R388). [DESIGN CHOICE: log 106] -/
def wardenStop (s : State) : State :=
  dropP0 (putB (jobCut (modWrd s (fun w => { w with down := true }))) F.WRD_STATUS_running false)

/-- The image on trial that the warden runs (R373). [DESIGN CHOICE: log 229] -/
def wardenTrial (s : State) : Option FwSlot :=
  if s.wrd.down then none else (wrdSlot s (getB s F.WRD_STATUS_wslot)).filter (fun f => f.trial)

/-- CPL_CTRL.confirm (R373): the slots that the cluster and the warden run on trial are confirmed, each with its floor. [DESIGN CHOICE: log 229] -/
def confirmTrials (s : State) : State :=
  let s := trialConfirm s
  match wardenTrial s with
  | none => s
  | some f =>
    let s := putWrdSlot s (getB s F.WRD_STATUS_wslot) (some { f with trial := false })
    { s with flash := { s.flash with wrdFloor := max s.flash.wrdFloor f.svn } }

/-- The warden is reset: a command that ran fails; an image on trial is abandoned for the other slot (R373).
[DEDUCED, DESIGN CHOICE: log 110, 229] -/
def wardenFails (s : State) : State :=
  let trial := (wardenTrial s).isSome
  let b := getB s F.WRD_STATUS_wslot
  let cut := s.wrd.job.isSome
  let s := wardenStop s
  let s := if cut then wrdEnd s wrdFlashFail else s
  if trial then
    raiseGrey { modWrd s (fun w => { w with slot := some !b }) with flash := { s.flash with wrdPref := !b } } F.CPL_EVENT_trial_revert
  else s

/-- WARDEN_WDT_EXPIRE (R380). [DEDUCED: log 110] -/
def wardenExpire (s : State) : State := if s.wrd.down then s else raiseGrey (inc (wardenFails s) F.WRD_RESETS_count) F.WRD_EVENT_wdt

/-- TRIAL_TIMEOUT (R373): of the trials that run, the one that began first has had its 60 s. [DESIGN CHOICE: log 229] -/
def trialDue (s : State) : State :=
  let cluster := cplRunning s && getB s F.CPL_STATUS_trial
  if (wardenTrial s).isSome && !(cluster && decide (s.cpl.startedAt < s.wrd.startedAt)) then wardenFails s else trialTimeout s

/-- The warden runs the image of slot `b`. -/
def wardenRuns (s : State) (b : Bool) : State :=
  let s := putB (putB s F.WRD_STATUS_running true) F.WRD_STATUS_wslot b
  put (modWrd s (fun w => { w with down := false, slot := some b, startedAt := ticks s })) F.WRD_VER_version
    (((wrdSlot s b).map (fun f => f.version)).getD 0)

/-- The slot that the warden can start from: `p`, else the other; it must verify (R373). [DEDUCED: log 110] -/
def wardenPick (s : State) (p : Bool) : Option Bool :=
  let ok := fun (b : Bool) => match wrdSlot s b with
    | some f => decide (fwCheck s true f.bytes = wrdOk)
    | none => false
  if ok p then some p else if ok (!p) then some (!p) else none

/-- The slot of the next start: after a watchdog reset the one that ran, unless its trial was abandoned; from a module reset on the preferred
one, which the last WARDEN_WRITE named (R373). [DEDUCED: log 110] -/
def wardenNext (s : State) : Bool := s.wrd.slot.getD s.flash.wrdPref

/-- WARDEN_RESTART_DONE (R380): the commands that waited proceed, and the boot commit where S1 has ended without a warden (R409). -/
def wardenRestart (s : State) : State :=
  if !s.wrd.down then s
  else match wardenPick s (wardenNext s) with
    | none => s
    | some b =>
      let s := wardenRuns s b
      let s := if s.pwr.controlOn && !s.pwr.booted then bootApply s else s
      let s := kstServe s
      let s := sendConfirm (sendConfirm s .a) .b
      match s.wrd.waiting with
      | none => s
      | some (x, p0, p1) => wrdRun (putB (modWrd s (fun w => { w with waiting := none })) F.WRD_RESULT_busy false) x p0 p1

/-! ### Commands -/

/-- A write of WRD_CMD. -/
def wrdWrite (s : State) (r : Requester) (x : WrdReq) : State := onWrite s r R.WRD_CMD (fun s => wrdCommand s r x)

def execPolicyWrite (r : Requester) (slot : Bool) (img : List Byte) (s : State) : Host.Outcome State Fault Refusal :=
  finish s (wrdWrite s r (.policyWrite slot img))
def execPolicyWriteDone (ok : Bool) (s : State) : Host.Outcome State Fault Refusal := finish s (policyDone s ok)
def execWardenWrite (r : Requester) (slot : Bool) (img : List Byte) (s : State) : Host.Outcome State Fault Refusal :=
  finish s (wrdWrite s r (.wardenWrite slot img))
def execWardenWriteDone (ok : Bool) (s : State) : Host.Outcome State Fault Refusal := finish s (wardenDone s ok)
def execKeyAdd (r : Requester) (k : Fin 4) (key : List Byte) (s : State) : Host.Outcome State Fault Refusal :=
  finish s (wrdWrite s r (.keyAdd k.val key))
def execKeyRevoke (r : Requester) (k : Fin 4) (s : State) : Host.Outcome State Fault Refusal := finish s (wrdWrite s r (.keyRevoke k.val))
def execSetPref (r : Requester) (slot : Bool) (s : State) : Host.Outcome State Fault Refusal := finish s (wrdWrite s r (.setPref slot))
def execCalUnlock (r : Requester) (s : State) : Host.Outcome State Fault Refusal := finish s (wrdWrite s r .calUnlock)
def execCalUnlockExpire (s : State) : Host.Outcome State Fault Refusal := finish s (if s.cal.unlocked then calLock s false else s)
def execCalWrite (r : Requester) (file : List Byte) (s : State) : Host.Outcome State Fault Refusal :=
  finish s (wrdWrite s r (.calWrite file))
def execCalWriteDone (ok : Bool) (s : State) : Host.Outcome State Fault Refusal := finish s (calDone s ok)
def execCalSaveRx (r : Requester) (s : State) : Host.Outcome State Fault Refusal := finish s (wrdWrite s r .calSaveRx)
def execCalRead (r : Requester) (s : State) : Host.Outcome State Fault Refusal := finish s (wrdWrite s r .calRead)
def execTrialConfirm (r : Requester) (s : State) : Host.Outcome State Fault Refusal := finish s (onWrite s r R.CPL_CTRL confirmTrials)
def execTrialTimeout (s : State) : Host.Outcome State Fault Refusal := finish s (trialDue s)
def execWardenWdtExpire (s : State) : Host.Outcome State Fault Refusal := finish s (wardenExpire s)
def execWardenRestartDone (s : State) : Host.Outcome State Fault Refusal := finish s (wardenRestart s)

end Sys2Proof.Machine
end

