-- ==== Sys2Proof/Machine/Resets.lean ====
section
/-!
DEFINITION. What the resets of R412 clear and keep: power-on, module reset, and the line and control region resets of R457.
-/
namespace Sys2Proof.Machine
open Sys2Proof

/-! ### Registers that a reset keeps (R9) -/

/-- Whether a register field is fused (R9), so that no reset changes it. -/
def isFused (r : RegRow) (f : FieldRow) : Bool :=
  decide (r.base = R.ACT_LSI) || (decide (r.base = R.HIF_ID) && decide (f.lo = 16))

/-- The registers whose fields are all of level AON (R9). [DESIGN CHOICE: log 4] -/
def aonRegs : List Nat := [
  R.KST_SLOT_STATUS 0, R.KST_SLOT_GEN 0, R.WRD_MIN_SVN, R.WRD_KEYS, R.WRD_RESETS, R.PWR_RESET_CAUSE, R.ASH_LAST, R.ASH_LAST_FN,
  R.EVR_SEQ_NEXT, R.EVR_SEQ_OLDEST, R.EVR_GEN, R.EVR_COUNT, R.EVR_DROP 0, R.EVR_OPTIME, R.EVR_PCYCLE, R.GLB_LAST_SAFE,
  R.GLB_LAST_SAFE_FN, R.GLB_CON_CTRL]

/-- Whether a field keeps its value across a module reset: fused, AON, or a fuse latch (R105, R412). [DEDUCED: log 121] -/
def keptByModule (r : RegRow) (f : FieldRow) : Bool :=
  isFused r f || aonRegs.contains r.base ||
  (decide (r.base = R.WRD_STATUS) && decide (f.lo = F.WRD_STATUS_boot_pref.lo)) ||
  (decide (r.base = R.EVR_STATUS) && decide (f.lo ≤ F.EVR_STATUS_flash_fail.lo)) ||
  (decide (r.base = R.SAF_STATUS) && (decide (f.lo = (fuseF .a).lo) || decide (f.lo = (fuseF .b).lo))) ||
  (decide (r.base = R.ASH_STATUS) && decide (f.lo = F.ASH_STATUS_vash_ok.lo))

/-- Whether a field keeps its value at power-on: fused, or kept in non-volatile storage (R9): slot generations, the keys of
the identity partition (R370), op_time and the cycle count (R433), the sequence number, which never restarts (R431). [DEDUCED: log 121] -/
def keptByPower (r : RegRow) (f : FieldRow) : Bool :=
  isFused r f || [R.KST_SLOT_GEN 0, R.WRD_KEYS, R.EVR_OPTIME, R.EVR_PCYCLE, R.EVR_SEQ_NEXT].contains r.base

/-- The configuration that stands before the first commit: window 0 of R393 and nothing else. -/
def resetBank : Bank := { windows := [(0, resetWindow)] }

/-! ### Module reset and power-on (R412) -/

/-- What both resets clear: every structure beside the registers but the flash, the event memories and the pins. -/
def cleared (s : State) : State :=
  { regs := s.regs, pending := s.pending, free := s.free, outbox := s.outbox, bank := resetBank, flash := s.flash
    evr := { log := s.evr.log, jet := s.evr.jet, savedOp := s.evr.savedOp }
    pins := { s.pins with thermTripN := true }, tap := s.tap }

/-- The AON's first record after power-on or a module reset (R435). -/
def powerOnRecord (s : State) (cause : Nat) : State :=
  offer (put s F.PWR_RESET_CAUSE_cause cause) 0x0522 .grey 6 0x05 0 cause 0

/-- Both APR latches are set (R106, R412). [DEDUCED: log 150] -/
def setApr (s : State) : State := putB (putB s (aprF .a) true) (aprF .b) true

/-- EVR tests both memories again at a module reset (R443). [DESIGN CHOICE: log 134] -/
def testStores (s : State) (bad : Option StoreFail) : State :=
  let s := putB (putB (putB s F.EVR_STATUS_store false) F.EVR_STATUS_ram_fail false) F.EVR_STATUS_flash_fail false
  match bad with
  | some f => storeFailed s f
  | none => s

/-- A module reset with its cause (R412): start-up begins at S0, but after a thermal trip PWR holds the module in reset until its sensors
have cooled. A flash write that runs is cut short. [DEDUCED: log 121] -/
def moduleReset (s : State) (cause : Nat) (bad : Option StoreFail) : State :=
  let s := jobCut s
  let keys := s.lcy.keys
  let empty := s.pwr.bankEmpty
  let hold := s.pwr.thermalHold
  let s := cleared (resetWords s (fun _ => true) (fun _ r f => keptByModule r f))
  let s := { s with lcy := { keys := keys }, pwr := { bankEmpty := empty, thermalHold := hold, inReset := hold } }
  let s := (List.range 256).foldl (fun s k => if slotIdle s k then s else putB s (F.KST_SLOT_STATUS_slot_idle k) true) s
  let s := putB (refreshLog (setApr s)) F.PWR_STATUS_pwr_good s.pins.pwrGood
  let s := put s F.GLB_GPIO_IN_val s.pins.gpio
  powerOnRecord (testStores s bad) cause

/-- POWER_ON (R412): everything but the flash and what is kept in non-volatile storage is cleared; the log is what had reached
flash (R436); op_time is the saved one, and the cycle is counted (R433). [DEDUCED: log 121] -/
def powerOn (s : State) : State :=
  let log := s.evr.log.filter (fun r => r.flushed)
  let op := s.evr.savedOp
  let s := cleared (resetWords (jobCut s) (fun _ => true) (fun _ r f => keptByPower r f))
  let s := { s with evr := { s.evr with log := log }, tap := {} }
  let s := put (incSat s F.EVR_PCYCLE_count) F.EVR_OPTIME_sec op
  let s := putB (putB (refreshLog s) F.PWR_STATUS_pwr_good s.pins.pwrGood) F.ASH_STATUS_vash_ok true
  let s := put s F.GLB_GPIO_IN_val s.pins.gpio
  powerOnRecord s 1

/-! ### Line region (R457) -/

/-- Whether offset `a` lies in a register of region `r` (R28). -/
def inRegionOf (r a : Nat) : Bool := match spanAt a with
  | some p => decide (p.region = r)
  | none => false

/-- The paths as the line region's start finds them: T5 while held (R158), else T0 with the cause of a reset (R142). The warden
writes hub_auth from the identity partition (ACT_CTRL). [DEDUCED: log 122, 123] -/
def startPaths (s : State) (cause : Nat) : State :=
  [Path.a, .b].foldl (fun s q =>
    let held := match q with
      | .a => s.flash.heldA
      | .b => s.flash.heldB
    let auth := match q with
      | .a => s.flash.hubAuthA
      | .b => s.flash.hubAuthB
    let s := putB (putB s (F.ACT_CTRL_hub_auth (qn q)) auth) (F.ACT_HOLD_held (qn q)) held
    let s := if held then put s (F.ACT_STATE_state (qn q)) 5 else s
    showGasp (put s (F.ACT_CAUSE_cause (qn q)) (if held then causeHeld else cause)) q) s

/-- Line blocks that are due to switch to a committed bank take it now; what an armed commit makes due waits. -/
def lineTakesBank (s : State) : State :=
  if epcState s = epcArmed then s
  else [Path.a, .b].foldl (fun s q => if lineDue s q then lineSwitch s q else s) s

/-- The references that the line region holds on frames of packet regions, retained segments and remainders, are given back (R221, R324).
[DEDUCED: log 202] -/
def giveBack (s : State) : State :=
  let s := s.pth.aids.foldl (fun s e => releaseSegs s e.2.retained) s
  s.upb.rests.foldl (fun s r => relEntry s r.region r.frame) s

/-- A line region reset (R457): the line blocks lose everything but the committed bank; line blocks still due to switch take it
now. The root slots of both paths are erased (R142). Trims load again. [DEDUCED: log 122, 202] -/
def lineReset (s : State) : State :=
  let s := giveBack (lineTakesBank s)
  let s := [Path.a, .b].foldl (fun s q => slotCommand (slotCommand s (rootSlot s q false) none) (rootSlot s q true) none) s
  let s := resetWords s (inRegionOf 4) (fun _ r f => decide (f.sec ≠ 0) || isFused r f)
  let s := resetLive s (inRegionOf 4)
  let s := { s with
    epc := { s.epc with groups := s.epc.groups.filter (fun e => !inRegionOf 4 e.1) }
    lnk := {}, dfr := {}, mch := {}, actA := {}, actB := {}, upb := {}, bnd := {}, pth := {}
    lcy := { keys := s.lcy.keys, cmds := s.lcy.cmds } }
  let s := (List.range 256).foldl (fun s k => if slotIdle s k then s else slotDrained s k) s
  let s := (List.range 8).foldl (fun s e => match h : decide (e < 8) with
    | true => tokenRelease s (.engine ⟨e, by simpa using h⟩)
    | false => s) s
  let s := s.bank.downPort.foldl (fun s e => showTribFault s e.1) s
  lineSettle (startPaths (calLine s) causeReset)

/-- Line lanes move towards their LINEMAP init_state (R411, R457). -/
def lanesStart (s : State) : State :=
  (List.range 128).foldl (fun s p => laneRetarget s p (Tab.getD s.bank.lineInit p 4)) s

/-! ### Control region (R457) -/

/-- Whether offset `a` lies in a counter that sits in the AON: 184 to 191 (R444). -/
def aonCounter (a : Nat) : Bool := decide (R.PCTR_LIVE 56 ≤ a) && decide (a < R.PCTR_LIVE 56 + 0x100)

/-- What a reset of the control region leaves in its registers: staged-by-commit, fused and AON fields, the AON's counters, the resets counted since module
reset (FLT_R_RESETS), the committed generation and the active bank (R457). -/
def keptByControl (a : Nat) (r : RegRow) (f : FieldRow) : Bool :=
  decide (f.sec ≠ 0) || isFused r f || aonRegs.contains r.base ||
  aonCounter a || decide (r.base = R.FLT_R_RESETS 0) || decide (r.base = R.EPC_GEN_ACTIVE) ||
  (decide (r.base = R.EPC_STATUS) && decide (f.lo = F.EPC_STATUS_active_bank.lo))

/-- The PCIe link goes down (R457, R458): the PF loses P0 and every ring stops, as at PERST_N. [DEDUCED: log 122] -/
def linkDown (s : State) : State :=
  let s := (List.range 16).foldl stopRingsOf (dropP0 s)
  put (put (put s F.HIF_LINK_speed 0) F.HIF_LINK_width 0) F.HIF_LINK_flit 0

/-- A control region reset (R457): the EPC returns to IDLE with its active bank, an ARMED commit and every alarm are lost, line
time is invalid, the PCIe link is down, the cluster starts again. [DEDUCED: log 122] -/
def controlReset (s : State) : State :=
  let s := lineTakesBank (linkDown (if epcState s = epcArmed then unarm s else s))
  let resets := s.cpl.wdtResets
  let n := get s F.CPL_RESETS_count
  let s := resetWords s (inRegionOf 5) keptByControl
  let s := resetLive s (fun a => inRegionOf 5 a && !aonCounter a)
  let s := put s F.CPL_RESETS_count n
  let s := { s with
    epc := { groups := s.epc.groups.filter (fun e => !inRegionOf 5 e.1) }
    ltu := {}, hif := {}, tsu := {}, shadows := [], snapNext := [], cpl := { wdtResets := resets }
    i2c := [] }
  let s := (List.range 4).foldl (fun s n => put s (F.TSU_TSQ_LEVEL_level n) (pkt s n).tsq.recs.length) s
  cplBoot (calClients (put s F.GLB_GPIO_IN_val s.pins.gpio)) (bootPref s)

end Sys2Proof.Machine
end

