-- ==== Sys2Proof/Machine/SafeState.lean ====
section
/-!
DEFINITION. The safe state (R458, R459): its entry, the dying gasp it orders, the closing of the log; what enters it: the
thermal trip, the input collapse, the loss of the AON's integrity; what ends it: a module reset (R412).
-/
namespace Sys2Proof.Machine
open Sys2Proof

/-- Whether the path's gasp can be sent (R159). [DEDUCED: log 128] -/
def gaspReady (s : State) (q : Path) : Bool := getB s (F.ACT_STATE_dg_ready (qn q))

/-- Path FN of the collapse for ASH_LAST_FN: of the first path that can send a gasp, else of the first with path time, else
module FN. [DEDUCED: log 58] -/
def gaspFn (s : State) : Nat :=
  if gaspReady s .a then (pathTime s .a).fn
  else if gaspReady s .b then (pathTime s .b).fn
  else if pathLocked s .a then (pathTime s .a).fn
  else if pathLocked s .b then (pathTime s .b).fn
  else if ltValid s then modFn s else 0

/-- Step 2 of R458: ASH takes over with cause 1 for a collapse, 2 otherwise, and uses the windows already decoded, filled ones first.
[DEDUCED: log 58] -/
def gaspStart (s : State) (code : Nat) : State :=
  let c := if code = 2 then 1 else 2
  let s := putB (putB s F.ASH_LAST_sent_a false) F.ASH_LAST_sent_b false
  let s := put (putB (put s F.ASH_LAST_cause c) F.ASH_LAST_valid true) F.ASH_LAST_FN_fn (gaspFn s)
  let s := { s with pwr := { s.pwr with gaspA := gaspReady s .a, gaspB := gaspReady s .b, gaspCause := c } }
  [Path.a, Path.b].foldl (fun s q => gaspTry s q s.upb.windows) s

/-- Step 3 of R458 for packet region `n`: its transition ends, its pads latch, its power goes. [DEDUCED: log 128] -/
def safeRegion (s : State) (n : Nat) : State :=
  let s := packetReset (putB (endTransition s n) (F.PWR_D_STATE_pads n) true) n true
  put (put s (F.PWR_D_STATE_state n) 3) (F.PWR_D_STATE_target n) 3

/-- Step 3 of R458: every region but the AON and ASH loses its power; no ramp goes on, no alarm is left, the cluster stops and
the commit machinery keeps nothing but its active bank. -/
def safeRegions (s : State) : State :=
  let s := (List.range 4).foldl safeRegion s
  let s := linkDown s
  let s := put (put (putB s F.CPL_STATUS_trial false) F.CPL_STATUS_cores_up 0) F.CPL_STATUS_state cplOff
  let s := resetWords s (fun a => decide (0x11000 ≤ a) && decide (a < 0x12000)) (fun _ _ _ => false)
  let s := resetWords s (fun a => decide (a = R.EPC_STATUS)) (fun _ _ f => decide (f.lo = F.EPC_STATUS_active_bank.lo))
  let s := (s.pwr.queue ++ s.pwr.overdue).foldl tokenRelease s
  let s := put s F.PWR_TOKEN_holder 31
  { s with epc := {}, cpl := { s.cpl with kicked := 0 }
           pwr := { s.pwr with stepRunning := false, stopped := true, controlOn := false, lineOn := false } }

/-- The module enters the safe state with cause `code` (R458), unless it is in it already (R459). [DEDUCED: log 128] -/
def safeEnter (s : State) (code : Nat) : State :=
  if getB s F.GLB_SAFE_safe then s
  else
    let fn := if ltValid s then modFn s else 0
    let s := put (put s F.GLB_LAST_SAFE_cause code) F.GLB_LAST_SAFE_FN_fn fn
    let s := put (putB s F.GLB_SAFE_safe true) F.GLB_SAFE_cause code
    let s := putB (gatesChanged s) F.GLB_SAFE_lasers_dark true
    safeRegions (gaspStart s code)

/-! ### What enters it -/

/-- THERMAL_TRIP (R423, R412): the safe state with THERM_TRIP_N low, which goes low for that entry alone (R458); and the module is held
until every sensor is below 100 °C. [DEDUCED: log 119] -/
def thermalTrip (s : State) : State :=
  let s := raiseGrey (putB s F.PWR_STATUS_trip true) F.PWR_EVENT_trip
  let safe := getB s F.GLB_SAFE_safe
  let s := { s with pins := { s.pins with thermTripN := s.pins.thermTripN && safe }, pwr := { s.pwr with thermalHold := true } }
  safeEnter s 1

/-- INPUT_COLLAPSE (R425): `good` is the level of PWR_GOOD. A flash write is cut short (R467), op_time is saved (R433), in a safe state of
another cause too. [DEDUCED: log 120, 180] -/
def inputCollapse (s : State) (good : Bool) : State :=
  let s := { s with pins := { s.pins with pwrGood := good } }
  let s := putB s F.PWR_STATUS_pwr_good good
  let s := raiseGrey (putB s F.PWR_STATUS_input_fail true) F.PWR_EVENT_input_fail
  safeEnter (opTimeSave (jobCut s)) 2

/-- AON_INTEGRITY_LOSS (R457, R451 kind 8). [DEDUCED: log 126] -/
def aonLoss (s : State) : State :=
  safeEnter (fltRecord s F.FLT_EVENT_region_fault .black 6 fltAon 0x04 0) 4

/-! ### In it -/

/-- ASH_GASP_GIVEUP (R425): no reachable window on path `q` within 3 ms. -/
def gaspGiveUp (s : State) (q : Path) : State :=
  if gaspWanted s q then
    raiseGrey (setGasp s q false) (match q with
      | .a => F.ASH_EVENT_miss_a
      | .b => F.ASH_EVENT_miss_b)
  else s

/-- LOG_CLOSE (R425, R435, R436, step 5 of R458): INPUT_LOST is written, every record is flushed, the log is closed. [DEDUCED: log 120] -/
def logClose (s : State) : State :=
  if !getB s F.GLB_SAFE_safe || s.evr.closed then s
  else
    let s := offer s 0x0523 .black 6 0x05 0 (rdWord s R.ASH_LAST).toNat 0
    let s := flushNow s
    putB (modEvr s (fun e => { e with closed := true })) F.GLB_SAFE_log_closed true

/-- BANK_DISCHARGE (R426): after a collapse, once the gasp and the log close have ended or 50 ms have passed. [DEDUCED: log 120] -/
def bankDischarge (s : State) : State :=
  if getB s F.PWR_STATUS_input_fail then
    let s := setGasp (setGasp { s with pwr := { s.pwr with bankEmpty := true } } .a false) .b false
    putB s F.ASH_STATUS_vash_ok false
  else s

/-! ### What ends it (R412, R459) -/

/-- RESET_N low for 10 µs (R412); a boundary-scan instruction that it lets act, acts (R480). [DEDUCED: log 119, 140, 178] -/
def resetLow (s : State) (bad : Option StoreFail) : State :=
  let s := moduleReset s 2 bad
  tapSettle { s with pins := { s.pins with resetN := false } }

/-- THERMAL_HOLD_RELEASE (R412): every sensor reads below 100 °C. A module held in reset restarts. [DEDUCED: log 119] -/
def holdRelease (s : State) (bad : Option StoreFail) : State :=
  if !s.pwr.thermalHold then s
  else if s.pwr.inReset then moduleReset { s with pwr := { s.pwr with thermalHold := false } } 4 bad
  else { s with pwr := { s.pwr with thermalHold := false } }

/-- POWER_GOOD_RESTORED (R425): PWR_GOOD high for 100 ms, the hold-up bank charged again; after a collapse the warden resets the module.
[DEDUCED: log 120, 180] -/
def powerGood (s : State) (bad : Option StoreFail) : State :=
  let s := { s with pins := { s.pins with pwrGood := true }, pwr := { s.pwr with bankEmpty := false } }
  let s := putB (putB s F.PWR_STATUS_pwr_good true) F.ASH_STATUS_vash_ok true
  if getB s F.GLB_SAFE_safe ∧ get s F.GLB_SAFE_cause = 2 then moduleReset s 3 bad
  else s

/-! ### Commands -/

def execPowerOn (s : State) : Host.Outcome State Fault Refusal := finish s (powerOn s)
def execResetNLow (bad : Option StoreFail) (s : State) : Host.Outcome State Fault Refusal := finish s (resetLow s bad)
def execInputCollapse (good : Bool) (s : State) : Host.Outcome State Fault Refusal := finish s (inputCollapse s good)
def execAshGaspGiveup (q : Path) (s : State) : Host.Outcome State Fault Refusal := finish s (gaspGiveUp s q)
def execLogClose (s : State) : Host.Outcome State Fault Refusal := finish s (logClose s)
def execPowerGoodRestored (bad : Option StoreFail) (s : State) : Host.Outcome State Fault Refusal := finish s (powerGood s bad)
def execBankDischarge (s : State) : Host.Outcome State Fault Refusal := finish s (bankDischarge s)
def execAonIntegrityLoss (s : State) : Host.Outcome State Fault Refusal := finish s (aonLoss s)
def execThermalHoldRelease (bad : Option StoreFail) (s : State) : Host.Outcome State Fault Refusal :=
  finish s (holdRelease s bad)

end Sys2Proof.Machine
end

