-- ==== Sys2Proof/Machine/Startup.lean ====
section
/-!
DEFINITION. Start-up (R409 to R411), the power-peak token's grants and its 10 ms limit (R19, R422), the temperature levels
(R423).
-/
namespace Sys2Proof.Machine
open Sys2Proof

def modPwr (s : State) (f : Pwr → Pwr) : State := { s with pwr := f s.pwr }

/-- The start-up step that comes or runs: 0 to 7 for S0 to S7, 8 when done. -/
def startStepNo (s : State) : Nat := get s F.PWR_STATUS_step

/-- The ramp of start-up step `k` (R409): none for S0. -/
def stepRamp (s : State) (k : Nat) : Option Ramp :=
  if k = 1 then some .control
  else if k = 2 then some .line
  else if h : 3 ≤ k ∧ k < 7 then some (.region ⟨k - 3, by omega⟩)
  else if h : k = 7 ∧ s.pwr.s7Engine < 8 then some (.engine ⟨s.pwr.s7Engine, h.2⟩)
  else none

/-- Whether the next step's preconditions hold (R409): the step before it has ended; for S1 PWR_GOOD is high (and RESET_N, which
the command says); for S2 the boot commit is applied. -/
def stepMay (s : State) : Bool :=
  let k := startStepNo s
  !s.pwr.stepRunning && !s.pwr.stopped && !s.pwr.inReset && !getB s F.GLB_SAFE_safe && decide (k < 8) &&
  (decide (k ≠ 1) || s.pins.pwrGood) && (decide (k ≠ 2) || s.pwr.booted)

/-- S0's work (R373, R464): the warden picks and runs an image, and CAL is loaded. Without an image that verifies no warden
runs. -/
def stepZero (s : State) : State := match wardenPick s (wardenNext s) with
  | some b => calLoad (wardenRuns s b)
  | none => s

/-- START_STEP (R409): the step begins and asks for the token; S0 has no ramp under it. S7 runs once per engine. [DEDUCED: log 117] -/
def startStep (s : State) : State :=
  if !stepMay s then s
  else
    let k := startStepNo s
    let s := if k = 1 then { s with pins := { s.pins with resetN := true } } else s
    let first := decide (k ≠ 7) || decide (s.pwr.s7Engine = 0)
    let s := modPwr s (fun p => { p with stepRunning := true, rampsDone := false, stepAt := if first then ticks s else p.stepAt })
    match stepRamp s k with
    | some r => tokenRequest s r
    | none => stepZero s

/-- The domain of step `k` is up (R409, R411): S1 the cluster starts and the warden applies the boot commit; S2 the paths start;
S3 to S6 a packet region's core runs and its memories train; S7 an engine is powered. [DEDUCED: log 117, 179] -/
def stepWork (s : State) (k : Nat) : State :=
  if k = 1 then
    let s := cplBoot (modPwr s (fun p => { p with controlOn := true })) (bootPref s)
    if s.wrd.down then s else bootApply s
  else if k = 2 then lineSettle (startPaths (modPwr s (fun p => { p with lineOn := true })) 0)
  else if 3 ≤ k ∧ k < 7 then sendStandings (owedTaken (put s (F.PWR_D_STATE_state (k - 3)) 0) (k - 3)) (k - 3)
  else if h : k = 7 ∧ s.pwr.s7Engine < 8 then enginePut s ⟨s.pwr.s7Engine, h.2⟩
  else s

/-- The sequence goes on with the next step, or the next engine of S7; the step's length is shown. [DEDUCED: log 117] -/
def stepNext (s : State) (k : Nat) : State :=
  let s := modPwr s (fun p => { p with stepRunning := false, s7Engine := if k = 7 then p.s7Engine + 1 else p.s7Engine })
  if k = 7 ∧ s.pwr.s7Engine < 8 then s
  else
    let s := put s (F.PWR_STEP_TIME_us k) (sat 0xFFFFFF ((ticks s - s.pwr.stepAt) / 1500))
    put s F.PWR_STATUS_step (k + 1)

/-- Whether the running step's ramp is over or may end now: it holds or held the token. -/
def stepRamped (s : State) (k : Nat) : Bool := match stepRamp s k with
  | none => true
  | some r => s.pwr.rampsDone || ramps s r

/-- Forget a step's ramp. -/
def stepRelease (s : State) (k : Nat) : State := match stepRamp s k with
  | none => s
  | some r => tokenRelease s r

/-- STEP_SETTLED (R409): the ramps are done, the supply has settled, 5 ms have passed. The lanes of an engine start with it
(R411). [DEDUCED: log 117] -/
def stepSettled (s : State) : State :=
  let k := startStepNo s
  if !s.pwr.stepRunning || !stepRamped s k then s
  else
    let e := s.pwr.s7Engine
    let s := stepNext (stepWork (stepRelease s k) k) k
    if k = 7 then (lanesOfEngine e).foldl (fun s p => laneRetarget s p (Tab.getD s.bank.lineInit p 4)) s else s

/-- STEP_SETTLE_TIMEOUT (R410): S0 to S2 stop the sequence in the safe state; a packet region stays OFF with an FLT fault, an
engine stays OFF, and the sequence goes on. [DEDUCED: log 155] -/
def stepTimeout (s : State) : State :=
  let k := startStepNo s
  if !s.pwr.stepRunning then s
  else
    let s := raise (putB (stepRelease s k) F.PWR_STATUS_seq_fail true) F.PWR_EVENT_seq_fail .black k
    if k ≤ 2 then safeEnter (modPwr s (fun p => { p with stopped := true })) 3
    else if k < 7 then
      let s := modPwr s (fun p => { p with initTaken := setBits p.initTaken (k - 3) 1 1 })
      stepNext (fltRecord s F.FLT_EVENT_region_fault .black (k - 3) fltStartup 0x04 0) k
    else stepNext (modEngine s s.pwr.s7Engine (fun x => { x with ramping := false })) k

/-! ### The token (R19, R422) -/

/-- Whether the holder's ramp has an end of its own among the commands: X1 of an exit (R418). -/
def endsItself (s : State) (r : Ramp) : Bool := match r with
  | .region n => match (regionPwr s n.val).exit with
    | some (_, k) => decide (k = 1)
    | none => false
  | _ => false

/-- The next ramp in request order (R19); while the control region resets, its own and the line region's restart come before a
packet region's (R462). -/
def tokenNext (s : State) : Option Ramp :=
  let ctl := decide ((fltRegion s 5).step ≠ 0)
  s.pwr.queue.find? (fun r => !ctl || decide (r = .control) || decide (r = .line))

/-- TOKEN_GRANT (R19, R422): a holder without a ramp end of its own has ended its ramp and releases the token first; then the
next ramp takes it. [DEDUCED, DESIGN CHOICE: log 116, 200] -/
def tokenGrant (s : State) : State :=
  match tokenHolder s with
  | some r =>
    if endsItself s r then s
    else
      let done := decide (stepRamp s (startStepNo s) = some r) && s.pwr.stepRunning
      grantNext (modPwr (tokenRelease s r) (fun p => { p with rampsDone := p.rampsDone || done }))
  | none => grantNext s
where
  /-- The next ramp takes the token. -/
  grantNext (s : State) : State := match tokenNext s with
    | none => s
    | some r =>
      let rest := s.pwr.queue.filter (fun x => decide (x ≠ r))
      let s := tokenTake { s with pwr := { s.pwr with queue := r :: rest } }
      match r with
      | .engine e => modEngine s e.val (fun x => { x with ramping := true })
      | _ => s

/-- TOKEN_TIMEOUT (R422): the holder loses the token at 10 ms and completes its ramp without it. [DEDUCED, DESIGN CHOICE: log 116, 155] -/
def tokenTimeout (s : State) : State := match tokenHolder s with
  | none => s
  | some r => raiseGrey (put (modPwr s (fun p => { p with overdue := r :: p.overdue })) F.PWR_TOKEN_holder 31) F.PWR_EVENT_token_timeout

/-! ### Temperature (R423) -/

/-- Show a sensor's reading, in 0.1 °C. -/
def showTemp (s : State) (x : Sensor) (t : Int) : State := match x with
  | .die k => putI s (F.PWR_TEMP_temp k.val) t
  | .hbm n => putI s (F.MEM_HBM_TEMP_temp n.val) t
  | .engine e => putI s (F.OPE_TEMP_temp e.val) t

/-- The number of a sensor in an event's cause value. -/
def sensorNo (x : Sensor) : Nat := match x with
  | .die k => k.val
  | .hbm n => 4 + n.val
  | .engine e => 8 + e.val

/-- Show which sensors are at warning and at throttle, and apply the throttle to the packet dies' tier-0 pools (R329). [DEDUCED: log 118] -/
def showLevels (s : State) : State :=
  let hot := fun (x : Sensor) => s.pwr.throttleSet.contains x
  let s := (List.range 4).foldl (fun s k => match h : decide (k < 4) with
    | true =>
      let x : Sensor := .die ⟨k, by simpa using h⟩
      putB (putB s (F.PWR_TEMP_warn k) (s.pwr.warnSet.contains x)) (F.PWR_TEMP_throttle k) (hot x)
    | false => s) s
  let s := putB (putB s F.PWR_THROTTLE_pd0 (hot (.die 0))) F.PWR_THROTTLE_pd1 (hot (.die 1))
  let s := putB s F.PWR_THROTTLE_line (hot (.die 2))
  let s := put s F.PWR_THROTTLE_hbm (b2n (hot (.hbm 0)) + 2 * b2n (hot (.hbm 1)) + 4 * b2n (hot (.hbm 2)) + 8 * b2n (hot (.hbm 3)))
  (List.range 4).foldl backpressure s

/-- A sensor without a repeat in a list. -/
def addSensor (l : List Sensor) (x : Sensor) : List Sensor := if l.contains x then l else l ++ [x]

/-- TEMP_WARNING: 100 °C. [DEDUCED: log 118] -/
def tempWarning (s : State) (x : Sensor) (t : Int) : State :=
  if t < 1000 then s
  else
    let new := !s.pwr.warnSet.contains x
    let s := showLevels (modPwr (showTemp s x t) (fun p => { p with warnSet := addSensor p.warnSet x }))
    if new then raise s F.PWR_EVENT_warn .amber (sensorNo x) else s

/-- TEMP_THROTTLE: 105 °C. [DEDUCED: log 118] -/
def tempThrottle (s : State) (x : Sensor) (t : Int) : State :=
  if t < 1050 then s
  else
    let s := tempWarning s x t
    let new := !s.pwr.throttleSet.contains x
    let s := showLevels (modPwr s (fun p => { p with throttleSet := addSensor p.throttleSet x }))
    if new then raise s F.PWR_EVENT_throttle .crimson (sensorNo x) else s

/-- TEMP_CLEAR: below 102 °C the throttle ends, below 97 °C the warning. [DEDUCED: log 118] -/
def tempClear (s : State) (x : Sensor) (t : Int) : State :=
  let s := showTemp s x t
  let s := if t < 1020 then modPwr s (fun p => { p with throttleSet := p.throttleSet.filter (fun y => decide (y ≠ x)) }) else s
  let s := if t < 970 then modPwr s (fun p => { p with warnSet := p.warnSet.filter (fun y => decide (y ≠ x)) }) else s
  showLevels s

/-! ### Commands -/

def execStartStep (s : State) : Host.Outcome State Fault Refusal := finish s (startStep s)
def execStepSettled (s : State) : Host.Outcome State Fault Refusal := finish s (stepSettled s)
def execStepSettleTimeout (s : State) : Host.Outcome State Fault Refusal := finish s (stepTimeout s)
def execTokenGrant (s : State) : Host.Outcome State Fault Refusal := finish s (tokenGrant s)
def execTokenTimeout (s : State) : Host.Outcome State Fault Refusal := finish s (tokenTimeout s)
def execTempWarning (x : Sensor) (t : Int) (s : State) : Host.Outcome State Fault Refusal := finish s (tempWarning s x t)
def execTempThrottle (x : Sensor) (t : Int) (s : State) : Host.Outcome State Fault Refusal := finish s (tempThrottle s x t)
def execTempClear (x : Sensor) (t : Int) (s : State) : Host.Outcome State Fault Refusal := finish s (tempClear s x t)
def execThermalTrip (x : Sensor) (t : Int) (s : State) : Host.Outcome State Fault Refusal :=
  finish s (if t < 1150 then s else thermalTrip (tempThrottle s x t))

end Sys2Proof.Machine
end

