-- ==== Sys2Proof/Machine/Faults.lean ====
section
/-!
DEFINITION. Faults and their handling by FLT and the AON sequencer (R451 to R457, R462).
-/
namespace Sys2Proof.Machine
open Sys2Proof

/-- The regions that a step of region `r`'s handling covers: the control region resets the line region with it (R457). -/
def coveredBy (r : Nat) : List Nat := if r = 5 then [5, 4] else [r]

/-- Change FLT's store of every region that `r`'s handling covers. -/
def modCovered (s : State) (r : Nat) (f : FltRegion → FltRegion) : State := (coveredBy r).foldl (fun s x => modFlt s x f) s

/-- The automatic resets of region `r` in the last 600 s (R456). -/
def recentResets (s : State) (r : Nat) : List Nat := (fltRegion s r).resets.filter (fun t => decide (ticks s < t + tenMinutes))

/-- Begin F2 of region `r` (R455), and count the reset. -/
def startF2 (s : State) (r : Nat) : State :=
  let s := modCovered s r (fun f => { f with step := 2, held := false })
  put (inc s (F.FLT_R_RESETS_total r)) (F.FLT_R_RESETS_window r) (sat 15 (recentResets s r).length)

/-- Region `r` is held, isolated (R456). -/
def holdRegion (s : State) (r : Nat) (v : Sev) : State :=
  raiseFor (modCovered s r (fun f => { f with step := 0, held := true })) F.FLT_EVENT_held v r r (get s (F.FLT_R_CAUSE_kind r))

/-- F1 is done (R455, R456): a region without auto_reset is held; an automatic reset past the limit will end powered off. -/
def f1Done (s : State) (r : Nat) : State :=
  let f := fltRegion s r
  if f.manual then startF2 s r
  else if !bit (get s F.FLT_CTRL_auto_reset) r then holdRegion s r .grey
  else
    let past := recentResets s r
    if max 1 (get s F.FLT_CTRL_reset_limit) ≤ past.length then
      modCovered s r (fun f => { f with step := 2, overLimit := true })
    else startF2 (modFlt s r (fun f => { f with resets := ticks s :: past })) r

/-- The reset of F2 (R455, R457): a packet region loses what it holds and stands without power, memories keep their training. -/
def f2Work (s : State) (r : Nat) : State :=
  if r < 4 then put (put (packetReset s r false) (F.PWR_D_STATE_state r) 3) (F.PWR_D_STATE_target r) 3
  else if r = 4 then lineReset s
  else if r = 5 then controlReset (lineReset s)
  else s

/-- F2 is done: over the limit the region is held, powered off, with a Black event (R456); else F3 asks for the token. -/
def f2Done (s : State) (r : Nat) : State :=
  let s := f2Work s r
  if (fltRegion s r).overLimit then holdRegion s r .black
  else
    let s := modCovered s r (fun f => { f with step := 3 })
    if r < 4 then startExit s r .restart
    else if r = 4 then tokenRequest s .line
    else tokenRequest (tokenRequest s .line) .control

/-- The end of F3 of the line or the control region (R457), once its ramps have had the token. A packet region's F3 ends with X5
of its exit (R418). -/
def f3Done (s : State) (r : Nat) : State :=
  let waits := s.pwr.queue.contains .line || (decide (r = 5) && s.pwr.queue.contains .control)
  if r < 4 ∨ waits then s
  else
    let s := tokenRelease (if r = 5 then tokenRelease s .control else s) .line
    let s := (coveredBy r).foldl (fun s x =>
      put s (F.FLT_R_TIME_us x) (sat 0xFFFFFF ((ticks s - (fltRegion s x).at_) / 1500))) s
    let s := modCovered s r (fun f => { f with step := 0, degraded := false, manual := false })
    let s := lanesStart s
    if r = 5 then raiseGrey s F.FLT_EVENT_ctrl_restart else s

/-- REGION_STEP_DONE (R455): the next step begins, or the region is held. While the control region resets, the line region goes
with it (R457). [DEDUCED: log 124] -/
def regionStepDone (s : State) (r : Nat) : State :=
  let k := (fltRegion s r).step
  if getB s F.GLB_SAFE_safe || (decide (r = 4) && inFault s 5) then s
  else if k = 1 then f1Done s r
  else if k = 2 then f2Done s r
  else if k = 3 then f3Done s r
  else s

/-- An ordered reset of a HELD region (R456, R461): F2 and F3 run, and the count is zeroed. [DEDUCED: log 125] -/
def restartHeld (s : State) (r : Nat) : State :=
  if getB s F.GLB_SAFE_safe || !(fltRegion s r).held || (decide (r = 4) && inFault s 5) then s
  else startF2 (modCovered s r (fun f => { f with resets := [], overLimit := false, manual := true })) r

/-- FLT_REGION_RESET (R456): at P1 or above. [DEDUCED: log 125, 182] -/
def fltReset (r : Requester) (n : Nat) (s : State) : State :=
  onWrite s r (R.FLT_R_CTRL n) (fun s => if isP1 r then restartHeld s n else s)

/-- A fault of a die-to-die link (R21, R451): one report, recorded once, a region fault for both regions of the die, each with
its cause. [DEDUCED: log 181] -/
def linkFault (s : State) (region block cell : Nat) : State :=
  let s := fltRecord s F.FLT_EVENT_region_fault .crimson region fltLink block cell
  let d := region / 2 * 2
  if getB s F.GLB_SAFE_safe then s
  else [d, d + 1].foldl (fun s r =>
    let s := put (put s (F.FLT_R_CAUSE_kind r) fltLink) (F.FLT_R_CAUSE_block r) block
    if inFault s r then s else isolate s r false) s

/-- FAULT_REPORT (R451): what each kind does. [DEDUCED: log 124, 181] -/
def faultReport (s : State) (region kind block cell : Nat) : State :=
  if kind = fltContained then contained s region block cell
  else if kind = fltScope then
    (if region = 4 ∧ cell < 128 then scopeLane s cell else regionReport s region fltScope block cell)
  else if kind = fltLink then
    (if region < 4 then linkFault s region block cell else reportOnly s region fltLink block cell)
  else if kind = fltStartup then
    let s := fltRecord s F.FLT_EVENT_region_fault .black region fltStartup block cell
    if region < 4 ∨ block = 0x31 then s else safeEnter s 3
  else if kind = fltAon then safeEnter (fltRecord s F.FLT_EVENT_region_fault .black 6 fltAon block cell) 4
  else if kind = 0 ∨ 8 < kind then s
  else regionReport s region kind block cell
where
  /-- A report that names no region which its kind could handle is recorded alone. -/
  reportOnly (s : State) (region kind block cell : Nat) : State :=
    fltRecord s F.FLT_EVENT_region_fault .crimson region kind block cell
  /-- A region fault; the AON (6) is not isolated. -/
  regionReport (s : State) (region kind block cell : Nat) : State :=
    if 5 < region then reportOnly s region kind block cell else regionFault s region kind block cell

/-- Whether a root of region `n` has a frame that the scheduler may serve: none that PFC holds, whose shaper waits on the wheel, or whose
ring has no descriptor (R452). -/
def rootWork (s : State) (n m : Nat) (x : SNode) : Bool :=
  x.parent.isNone && (decide (x.kind = 0) || (decide (x.kind = 2) && rxReady s (x.target % 64))) &&
  (pickRoot s ⟨n, x, [], false⟩ m).isSome

/-- Whether work waits that block `block` of region `region` may do (R452), where State holds what it would be: a packet in the
pipelines, a frame that the scheduler may serve, a descriptor of a transmit ring. Of any other block the report says so. [DEDUCED: log 224] -/
def hangWork (s : State) (region block : Nat) : Bool :=
  if region < 4 ∧ block = 0x21 then pipesHold s region
  else if region < 4 ∧ block = 0x22 then
    s.bank.nodes.any (fun e => decide (e.1 / 4096 = region) && rootWork s region (e.1 % 4096) e.2)
  else if region = 5 ∧ block = 0x1A then
    (List.range 64).any (fun t => getB s (F.HIF_TX_CFG_en t) &&
      decide (get s (F.HIF_TX_READ_index t) ≠ get s (F.HIF_TX_TAIL_index t)))
  else true

/-- HANG_DETECT (R452): a block on whose input work waits. -/
def hangDetect (s : State) (region block cell : Nat) : State :=
  if hangWork s region block then regionFault s region fltHang block cell else s

/-- SCOPE_LANE_RETRY_TIMEOUT (R454): a retried lane that is not ready is held OFF and reported; FLT's handling ends. [DEDUCED: log 45, 155] -/
def laneRetryTimeout (s : State) (p : Nat) : State :=
  if !(laneSt s p).fltRetry then s
  else
    let ready := chanReady s p
    let s := modLane s p (fun l => { l with fltRetry := false, forceOff := false, fltHeld := !ready })
    if ready then s
    else chanCheck (laneAdvance (contained s 4 0x10 p) p) p

/-- HEARTBEAT_MISS (R457): the AON resets the control and line regions together. [DEDUCED: log 126] -/
def heartbeatMiss (s : State) : State := if getB s F.GLB_SAFE_safe || inFault s 5 then s else isolate s 5 false

/-! ### Commands -/

def execFaultReport (region : Fin 7) (kind : Fin 9) (block : BitVec 8) (cell : BitVec 16) (s : State) :
    Host.Outcome State Fault Refusal := finish s (faultReport s region.val kind.val block.toNat cell.toNat)
def execRegionStepDone (r : Fin 6) (s : State) : Host.Outcome State Fault Refusal := finish s (regionStepDone s r.val)
def execHangDetect (region : Fin 6) (block : BitVec 8) (cell : BitVec 16) (s : State) : Host.Outcome State Fault Refusal :=
  finish s (hangDetect s region.val block.toNat cell.toNat)
def execFltRegionReset (r : Requester) (n : Fin 6) (s : State) : Host.Outcome State Fault Refusal := finish s (fltReset r n.val s)
def execScopeLaneRetryTimeout (l : Lane) (s : State) : Host.Outcome State Fault Refusal := finish s (laneRetryTimeout s l.val)
def execHeartbeatMiss (s : State) : Host.Outcome State Fault Refusal := finish s (heartbeatMiss s)

end Sys2Proof.Machine
end

