-- ==== Sys2Proof/Machine/Console.lean ====
section
/-!
DEFINITION. The console on MGT_UART1 (R461), the I2C masters (R481, R482), the GPIO pins (R483) and the boundary-scan TAP (R480).
-/
namespace Sys2Proof.Machine
open Sys2Proof

/-! ### Console (R461) -/

/-- Status bytes of a reply. -/
def conOk : Nat := 0
def conDenied : Nat := 1
def conRange : Nat := 3
def conBusy : Nat := 4

/-- A reply as MGT_UART1 sends it: status byte and data in the framing of R135. -/
def conFrame (status : Nat) (data : List Byte) : List Byte := uartFrame (beBytes 1 status ++ data)

/-- A request is served: counted, with its reply. [DEDUCED, DESIGN CHOICE: log 138, 232] -/
def conReply (s : State) (status : Nat) (data : List Byte) : State :=
  let s := inc s F.GLB_CON_COUNT_cmds
  emit (if status = conDenied then inc s F.GLB_CON_COUNT_denied else s) (.console (conFrame status data))

/-- A command marked ctl: DENIED unless GLB_CON_CTRL.ctl_en is 1. [DEDUCED: log 138] -/
def conCtl (s : State) (k : State → State) : State := if getB s F.GLB_CON_CTRL_ctl_en then k s else conReply s conDenied []

/-- CONSOLE_IDENT. -/
def conIdent (s : State) : State :=
  conReply s conOk (beBytes 2 (get s F.GLB_PART_part) ++ beBytes 1 (get s F.GLB_STEP_step) ++ beBytes 8 (lsi s) ++
    beBytes 4 (get s F.EVR_OPTIME_sec) ++ beBytes 3 (get s F.EVR_PCYCLE_count))

/-- CONSOLE_STATUS. -/
def conStatus (s : State) : State :=
  conReply s conOk ([R.GLB_SAFE, R.FLT_STATUS, R.PWR_STATUS].flatMap (fun a => beBytes 4 (rdWord s a).toNat))

/-- CONSOLE_JET_READ: record `j` of the Jet store, zeros where it is empty (R442). -/
def conJet (s : State) (j : Nat) : State :=
  if 15 < j then conReply s conRange []
  else conReply s conOk (match nth s.evr.jet j with
    | some r => recBytes r
    | none => List.replicate 64 0)

/-- CONSOLE_LOG_READ: up to 8 records from `seq` (R440, R443). -/
def conLog (s : State) (seq : Nat) : State :=
  let l := recordsFrom s seq 8
  conReply s conOk (beBytes 1 l.length ++ l.flatMap recBytes)

/-- CONSOLE_LASER_OFF: the kill bits of the mask are set (R107). [DEDUCED: log 138] -/
def conLaserOff (s : State) (mask : Nat) : State :=
  conReply (putKill s (getB s (killF .a) || bit mask 0) (getB s (killF .b) || bit mask 1)) conOk []

/-- CONSOLE_SAFE_ENTER (R458). -/
def conSafe (s : State) : State := safeEnter (conReply s conOk []) 5

/-- CONSOLE_REGION_RESET (R460, R462): BUSY while FLT resets the region, and in the safe state, where no region has power. [DEDUCED: log 125, 138] -/
def conRegionReset (s : State) (r : Nat) : State :=
  conCtl s fun s =>
    if 5 < r then conReply s conRange []
    else if getB s F.GLB_SAFE_safe || decide ((fltRegion s r).step ≠ 0) || (decide (r = 4) && inFault s 5) then conReply s conBusy []
    else
      let s := conReply s conOk []
      if (fltRegion s r).held then restartHeld s r else isolate s r true

/-- CONSOLE_MODULE_RESET (R412): the reply goes out before the reset. [DEDUCED: log 138] -/
def conModuleReset (s : State) (bad : Option StoreFail) : State :=
  conCtl s fun s => moduleReset (conReply s conOk []) 5 bad

/-! ### I2C (R481, R482) -/

def i2cSt (s : State) (b : Nat) : I2c := Tab.getD s.i2c b {}

/-- The first `n` bytes of a bus's data words. -/
def i2cBytes (s : State) (b n : Nat) : List Byte :=
  ((List.range 32).flatMap (fun w => leBytes 4 (get s (F.GLB_I2C_DATA_bits b w)))).take n

/-- A length field, 0 to 128; a longer one has no meaning, so a free value stands for it. -/
def i2cLen (s : State) (n : Nat) : Nat := if n ≤ 128 then n else freeVal s % 129

/-- A write of GLB_I2C_CMD: discarded with BUSY while the master is busy; with go it starts one transaction on an enabled
master, after the nine clocks that a control region reset left owing. [DEDUCED: log 139] -/
def i2cCommand (s : State) (b : Nat) (w : Word) : State :=
  if getB s (F.GLB_I2C_RESULT_busy b) then put s (F.GLB_I2C_RESULT_code b) 5
  else
    let s := put (put s (F.GLB_I2C_CMD_addr b) w.toNat) (F.GLB_I2C_CMD_wlen b) (w.toNat / 2 ^ 8)
    let s := put s (F.GLB_I2C_CMD_rlen b) (w.toNat / 2 ^ 16)
    if bit w.toNat 31 && getB s (F.GLB_I2C_CTRL_en b) then
      let out : Output := .i2c b (get s (F.GLB_I2C_CMD_addr b)) (i2cBytes s b (i2cLen s (get s (F.GLB_I2C_CMD_wlen b))))
        (i2cLen (stepFree s) (get s (F.GLB_I2C_CMD_rlen b))) (i2cSt s b).owesClear
      let s := putB (emit (stepFree (stepFree s)) out) (F.GLB_I2C_RESULT_busy b) true
      { s with i2c := Tab.set s.i2c b { i2cSt s b with owesClear := false } }
    else s

/-- Bytes into a bus's data words, from the first. [DEDUCED: log 139] -/
def i2cStore (s : State) (b : Nat) (bs : List Byte) : State :=
  let all := overwrite (i2cBytes s b 128) 0 (bs.take 128)
  (List.range 32).foldl (fun s w => put s (F.GLB_I2C_DATA_bits b w) (le all (4 * w) 4)) s

/-- I2C_DONE: the transaction ends with a code, at byte `at_`, with the bytes it read. [DEDUCED: log 139] -/
def i2cDone (s : State) (b code at_ : Nat) (bs : List Byte) : State :=
  if !getB s (F.GLB_I2C_RESULT_busy b) then s
  else
    let s := put (putB s (F.GLB_I2C_RESULT_busy b) false) (F.GLB_I2C_RESULT_code b) code
    i2cStore (put s (F.GLB_I2C_RESULT_done b) (at_ / 8)) b bs

/-! ### GPIO (R483) -/

/-- The levels of the pins: a driven pin has its output value, an open-drain pin that releases has the outside level. [DEDUCED: log 141] -/
def gpioLevels (s : State) : Nat :=
  let out := get s F.GLB_GPIO_OUT_val
  let drives := get s F.GLB_GPIO_DIR_out
  let od := get s F.GLB_GPIO_OD_od
  (List.range 32).foldl (fun v k =>
    let driven := bit drives k && !(bit od k && bit out k)
    v + 2 ^ k * b2n (if driven then bit out k else bit s.pins.gpio k)) 0

/-- Bring GLB_GPIO_IN to the pins, with the events of the edges that RISE and FALL select. [DEDUCED: log 141] -/
def gpioSettle (s : State) : State :=
  let old := get s F.GLB_GPIO_IN_val
  let new := gpioLevels s
  let s := put s F.GLB_GPIO_IN_val new
  (List.range 32).foldl (fun s k =>
    let hit := (bit new k && !bit old k && bit (get s F.GLB_GPIO_RISE_en) k) || (!bit new k && bit old k && bit (get s F.GLB_GPIO_FALL_en) k)
    if hit then raiseGrey s ⟨R.GLB_GPIO_EVENT, k, 1⟩ else s) s

/-- GPIO_EDGE: the outside drives pin `k` to a level. [DEDUCED: log 141] -/
def gpioEdge (s : State) (k : Nat) (level : Bool) : State :=
  gpioSettle { s with pins := { s.pins with gpio := setBits s.pins.gpio k 1 (b2n level) } }

/-! ### TAP (R480) -/

/-- Load an instruction (TRST_N being high), with RESET_N's level where it is given; what drives the lands starts anew. [DEDUCED: log 140] -/
def tapLoad (s : State) (i : TapInstr) (resetN : Bool) : State :=
  tapSettle { s with tap := { s.tap with ir := i, acts := .bypass }, pins := { s.pins with trstN := true, resetN := resetN } }

/-- SAMPLE/PRELOAD: the levels sampled come out, in an order the manual does not give; the values shifted in are preloaded. [DEDUCED: log 140] -/
def tapSample (s : State) (vals : List Bool) : State :=
  let v := freeVal s
  let s := tapLoad s .samplePreload s.pins.resetN
  stepFree (emit { s with tap := { s.tap with preload := vals } } (.tdo v))

/-! ### Commands -/

def execConsoleIdent (s : State) : Host.Outcome State Fault Refusal := finish s (conIdent s)
def execConsoleStatus (s : State) : Host.Outcome State Fault Refusal := finish s (conStatus s)
def execConsoleJetRead (j : BitVec 8) (s : State) : Host.Outcome State Fault Refusal := finish s (conJet s j.toNat)
def execConsoleLogRead (seq : BitVec 32) (s : State) : Host.Outcome State Fault Refusal := finish s (conLog s seq.toNat)
def execConsoleLaserOff (mask : BitVec 8) (s : State) : Host.Outcome State Fault Refusal := finish s (conLaserOff s mask.toNat)
def execConsoleSafeEnter (s : State) : Host.Outcome State Fault Refusal := finish s (conSafe s)
def execConsoleRegionReset (r : BitVec 8) (s : State) : Host.Outcome State Fault Refusal := finish s (conRegionReset s r.toNat)
def execConsoleModuleReset (bad : Option StoreFail) (s : State) : Host.Outcome State Fault Refusal := finish s (conModuleReset s bad)
def execI2cCommand (r : Requester) (b : Fin 4) (w : Word) (s : State) : Host.Outcome State Fault Refusal :=
  finish s (onWrite s r (R.GLB_I2C_CMD b.val) (fun s => i2cCommand s b.val w))
def execI2cDone (b : Fin 4) (code : Fin 5) (at_ : Fin 256) (bs : List Byte) (s : State) : Host.Outcome State Fault Refusal :=
  finish s (i2cDone s b.val code.val at_.val bs)
def execGpioEdge (k : Fin 32) (level : Bool) (s : State) : Host.Outcome State Fault Refusal := finish s (gpioEdge s k.val level)
def execExtest (resetLow : Bool) (s : State) : Host.Outcome State Fault Refusal := finish s (tapLoad s .extest (!resetLow))
def execIdcode (s : State) : Host.Outcome State Fault Refusal := finish s (emit (tapLoad s .idcode s.pins.resetN) (.tdo 0x26425B47))
def execSamplePreload (vals : List Bool) (s : State) : Host.Outcome State Fault Refusal := finish s (tapSample s vals)
def execClamp (resetLow : Bool) (s : State) : Host.Outcome State Fault Refusal := finish s (tapLoad s .clamp (!resetLow))
def execHighz (resetLow : Bool) (s : State) : Host.Outcome State Fault Refusal := finish s (tapLoad s .highz (!resetLow))
def execExtestPulse (resetLow : Bool) (s : State) : Host.Outcome State Fault Refusal := finish s (tapLoad s .extestPulse (!resetLow))
def execExtestTrain (resetLow : Bool) (s : State) : Host.Outcome State Fault Refusal := finish s (tapLoad s .extestTrain (!resetLow))
def execBypass (s : State) : Host.Outcome State Fault Refusal := finish s (tapLoad s .bypass s.pins.resetN)

end Sys2Proof.Machine
end

