-- ==== Sys2Proof/Machine/RegRead.lean ====
section
/-!
DEFINITION. Reading a register over the bus (R7, R29, R30, R47, R80, R389, R440): the word a register shows, clear-on-read fields,
and the read shadow of a 64-bit register.
-/
namespace Sys2Proof.Machine
open Sys2Proof

/-! ### Words that are not kept in the register file -/

/-- The mailbox bodies (R375), which have no field table. [DEDUCED: log 23] -/
def isMbxBody (a : Nat) : Bool := decide (0xA10000 ≤ a) && decide (a < 0xA12000) && decide (a % 4 = 0)

/-- Half `h` (0 or 4) of a 64-bit value. [DEDUCED: log 21] -/
def halfOf (v h : Nat) : Nat := if h = 0 then v % 2 ^ 32 else v / 2 ^ 32 % 2 ^ 32

/-- The snapshot entry behind the register word at `a`, with its half (R45, R130, R266, R281, R314, R447). -/
def snapAt (s : State) (a : Nat) : Option (Nat × Nat) :=
  let pair := some (a - a % 8, a % 8)
  match regionAt a with
  | some n =>
    let o := a % 0x1000000
    if 0x40000 ≤ o ∧ o < 0x48000 then pair
    else if 0x100500 ≤ o ∧ o < 0x100580 then pair
    else if 0x601000 ≤ o ∧ o < 0x601400 ∧ 8 ≤ o % 32 ∧ o % 32 < 16 then pair
    else if 0x300118 ≤ o ∧ o < 0x300120 then some (polKey n 0 (get s (F.POL_MTR_SEL_idx n)), o % 8)
    else if 0x300120 ≤ o ∧ o < 0x300128 then some (polKey n 1 (get s (F.POL_MTR_SEL_idx n)), o % 8)
    else if 0x300208 ≤ o ∧ o < 0x300210 then some (polKey n 2 (get s (F.POL_ACC_SEL_idx n)), o % 8)
    else if 0x300210 ≤ o ∧ o < 0x300218 then some (polKey n 3 (get s (F.POL_ACC_SEL_idx n)), o % 8)
    else none
  | none =>
    if 0x220000 ≤ a ∧ a < 0x221000 then some (a, 0)
    else if 0x51000 ≤ a ∧ a < 0x51800 ∧ 8 ≤ a % 32 ∧ a % 32 < 16 then pair
    else none

/-- The root above node `m` of region `n`. -/
def nodeRoot (s : State) (n m : Nat) : Option SNode := ((upFrom s n m 5).getLast?).bind (fun k => snode s n k)

/-- Whether node `m` is eligible (R305). -/
def nodeEligible (s : State) (n m : Nat) : Bool := match nodeRoot s n m with
  | some x => (pick s ⟨n, x, [], false⟩ m 5).isSome
  | none => false

/-- Whether the head frame of queue `q` is held by the peer (R307). -/
def queueHeld (s : State) (n q : Nat) : Bool := match queueOf s n q, rootOf s n q with
  | f :: _, some (_, x) => pfcHeld s n x f
  | _, _ => false

/-- Tokens of meter `k` in whole units, signed. -/
def meterTokens (s : State) (n k : Nat) : Nat := match meter s n k with
  | some m => ofSigned 32 (m.tokens / (2 ^ 48 : Int))
  | none => 0

/-- Words of packet region `n` that its tables give. -/
def regionWord (s : State) (n o : Nat) : Option Nat :=
  let reg := (rdWord s (0x1000000 * (n + 1) + o)).toNat
  if 0x8000 ≤ o ∧ o < 0x8400 ∧ o % 32 = 0 then some (setBits reg 3 1 (b2n (!laneDrives s n ((o - 0x8000) / 32))))
  else if o = 0x100004 then
    some (setBits (setBits reg 0 1 (b2n (Tab.find s.bank.graph n).isSome)) 1 1
      (b2n ((List.range 8).any (fun t => getB s (F.PRS_TBL_CFG_en n t)))))
  else if o = 0x200000 then some (b2n (!(treeNodes s n).isEmpty) + 2 * b2n (bit s.epc.quiesced.regions n))
  else if 0x200004 ≤ o ∧ o < 0x200010 then
    some ((pkt s n).tmg.wheel.filter (fun e => decide (wheelLevel (cycles s n) e.2 = (o - 0x200004) / 4))).length
  else if o = 0x200214 then some (meterTokens s n (get s (F.TMG_MTR_SEL_idx n)))
  else if o = 0x300114 then some (meterTokens s n (65536 + get s (F.POL_MTR_SEL_idx n)))
  else if 0x210000 ≤ o ∧ o < 0x250000 ∧ 8 ≤ o % 16 then some (halfOf (qbytes s n ((o - 0x210000) / 16)) (o % 8))
  else if 0x250000 ≤ o ∧ o < 0x260000 ∧ o % 16 = 8 then
    let m := (o - 0x250000) / 16
    some (b2n (nodeEligible s n m) + 2 * b2n (Tab.find (pkt s n).tmg.wheel (16384 + m)).isSome)
  else if o = 0x400000 then some (setBits reg 9 1 (b2n (getB s (F.MEM_STATUS_t2_ready n))))
  else if 0x40012C ≤ o ∧ o < 0x400138 then some (ownUse s n (get s (F.BPM_OWN_SEL_owner n)) ((o - 0x40012C) / 4))
  else if o = 0x400138 then
    let (c, susp) := Tab.getD (pkt s n).bpm.faults (get s (F.BPM_OWN_SEL_owner n)) (0, false)
    some (c + 2 ^ 8 * b2n susp)
  else none

/-- A value of a domain as TSU_*_SEC, TSU_*_NS and TSU_*_FRAC show it: word `j` of seconds LO, HI, ns, fraction. -/
def timeWord (v : Int) (j : Nat) : Nat :=
  if j = 0 then halfOf (secOf v) 0 else if j = 1 then halfOf (secOf v) 4 else if j = 2 then nsOf v else fracOf v

/-- Registers of the TSU that are held per requester (R354, TSU_LATCH), and the oldest records (R360). -/
def tsuWord (s : State) (r : Requester) (a : Nat) : Option Nat :=
  let lat := Tab.getD s.tsu.lat (reqNum r) {}
  let conv := Tab.getD s.tsu.conv (reqNum r) {}
  if 0x80018 ≤ a ∧ a < 0x80020 then some (halfOf lat.raw (a % 8))
  else if 0x80020 ≤ a ∧ a < 0x80060 then
    let j := a % 16 / 4
    match lat.vals.getD ((a - 0x80020) / 16) none with
    | some v => some (timeWord v j)
    | none => some (if j = 2 then 2 ^ 31 else 0)
  else if 0x80400 ≤ a ∧ a < 0x80408 then some (halfOf conv.raw (a % 8))
  else if a = R.TSU_CONV_DOM then some (conv.dom + 2 ^ 8 * b2n conv.stale)
  else if 0x8040C ≤ a ∧ a < 0x8041C then some (timeWord conv.val ((a - 0x8040C) / 4))
  else if 0x84000 ≤ a ∧ a < 0x84400 ∧ 0x20 ≤ a % 0x100 ∧ a % 0x100 < 0x40 then
    some (((pkt s ((a - 0x84000) / 0x100)).tsq.recs.headD []).getD ((a % 0x100 - 0x20) / 4) 0)
  else none

/-- Words of the event recorder: Jet (R442), the requester's window (R440), the selected code's limit (R439). -/
def evrWord (s : State) (r : Requester) (a : Nat) : Option Nat :=
  let w := logWin s r
  let word := fun (x : Option Rec) (j : Nat) => match x with
    | some e => recWord e j
    | none => 0
  if a = R.EVR_CURSOR then some w.cursor
  else if a = R.EVR_WIN_STATUS then some (w.recs.length + 2 ^ 8 * b2n w.gap + 2 ^ 9 * b2n w.busy)
  else if a = R.EVR_WIN_GEN then some w.gen
  else if a = R.EVR_RL_CFG then
    let code := get s F.EVR_RL_SEL_code
    let (q, b) := rateOf s code (sevOfCode s code)
    some (q + 2 ^ 16 * b)
  else if 0x40800 ≤ a ∧ a < 0x40C00 then some (word (nth s.evr.jet ((a - 0x40800) / 64)) (a % 64 / 4))
  else if 0x41000 ≤ a ∧ a < 0x42000 then some (word (nth w.recs ((a - 0x41000) / 64)) (a % 64 / 4))
  else none

/-- The lane pair whose word the register at `a` holds, if it is instance 0's register at `r` in another lane's block. -/
def laneReg (r a : Nat) : Option Nat := if r ≤ a ∧ a < r + 0x40000 ∧ (a - r) % 0x800 = 0 then some ((a - r) / 0x800) else none

/-- A register whose value its block holds: P0 of the PF (R387) and the ceilings (R105). -/
def heldWord (s : State) (a : Nat) : Option Nat :=
  if a = R.HIF_P0_CTRL then some (setBits (rdWord s a).toNat 8 1 (b2n s.hif.p0))
  else if a = R.SAF_CEIL_A then some (ofSigned 16 s.saf.ceilA)
  else if a = R.SAF_CEIL_B then some (ofSigned 16 s.saf.ceilB)
  else none

/-- A measured value that no command gives: the hold-up bank's voltage, 12,100 mV at most and below 1,000 mV once it has been
discharged (R424, R425), a DIMM's temperature, and the receive power and SNR of an ACTIVE lane, which vary without an event (R92). -/
def measured_ (s : State) (a : Nat) : Option Nat :=
  if a = R.PWR_HOLD then
    let mv := if s.pwr.bankEmpty then freeVal s % 1000 else freeVal s % 12101
    some (mv + 2 ^ 16 * b2n (decide (11000 ≤ mv)))
  else if (laneReg (R.LNK_RX_PWR 0) a).any (fun p => laneActive s p) then some (freePwr s + 2 ^ 16)
  else if (laneReg (R.LNK_RX_SNR 0) a).any (fun p => laneActive s p) then some (freeVal s % 2 ^ 16)
  else match regionAt a with
    | some _ =>
      let o := a % 0x1000000
      if 0x500040 ≤ o ∧ o < 0x5000C0 ∧ o % 32 = 0x10 then some (freeVal s % 2 ^ 16) else none
    | none => none

/-! ### The word a register shows -/

/-- The ring that the register at `a` belongs to: transmit or receive, and its number (R395). -/
def ringAt (a : Nat) : Option (Bool × Nat) :=
  if 0xB01000 ≤ a ∧ a < 0xB02000 then some (true, (a - 0xB01000) / 64)
  else if 0xB03000 ≤ a ∧ a < 0xB04000 then some (false, (a - 0xB03000) / 64)
  else none

/-- The function that owns a ring. -/
def ringOwner (s : State) (x : Bool × Nat) : Nat := if x.1 then txOwner s x.2 else rxOwner s x.2

/-- Whether the register at `a` is a ring's whose owner is in its FLR (R403). -/
def ringInFlr (s : State) (a : Nat) : Bool := match ringAt a with
  | some x => inFlr s (ringOwner s x)
  | none => false

/-- The word of a bank's table that the register at `a` shows, with the live bit of a queue. -/
def viewWord (s : State) (v : View) : Nat := match v with
  | .queue q 0 => v.word s.bank + 2 ^ 18 * b2n (queueHeld s (q / 16384) (q % 16384))
  | _ => v.word s.bank

/-- The word at `a` with write-only bits as 0 (R7). -/
def maskWo (a v : Nat) : Nat := (wordFields a (fun _ f => f.acc == .wo)).foldl (fun v f => setBits v f.1 f.2 0) v

/-- The live word at `a` for requester `r`. [DESIGN CHOICE: log 22] -/
def liveWord (s : State) (r : Requester) (a : Nat) : Nat :=
  if ringInFlr s a then 0
  else match groupOf a with
    | some g => memberRead s g a
    | none => match viewAt s a with
      | some v => viewWord s v
      | none => match snapAt s a with
        | some (k, h) => halfOf (Tab.getD s.snap k 0) h
        | none =>
          let other := (tsuWord s r a).orElse (fun _ => (evrWord s r a).orElse (fun _ => (heldWord s a).orElse (fun _ => measured_ s a)))
          match other with
          | some v => v
          | none => match (regionAt a).bind (fun n => regionWord s n (a % 0x1000000)) with
            | some v => v
            | none => maskWo a (rdWord s a).toNat

/-- Whether the register at `a` shows what waits for a path frame: equalisation delays and standing windows (R151, R186), or what
follows from them. -/
def inLineCfg (a : Nat) : Bool := match spanAt a with
  | some p => decide (p.blk = 0x12) || decide (p.blk = 0x13) || decide (p.blk = 0x33)
  | none => false

/-- What is brought up to date before a read: the energy windows of the governor (R103), what waits for a path frame, the count of recent resets (R456).
[DESIGN CHOICE: log 22] -/
def refresh (s : State) (a : Nat) : State :=
  if 0x1C0000 ≤ a ∧ a < 0x1D0000 then showEnergy (showEnergy s .a) .b
  else if inLineCfg a then pathFrameDue (pathFrameDue s .a) .b
  else if 0x70020 ≤ a ∧ a < 0x70080 then
    let n := (a - 0x70020) / 16
    put s (F.FLT_R_RESETS_window n) (sat 15 (recentResets s n).length)
  else s

/-- Clear the clear-on-read fields of the word at `a` (R7). [DEDUCED: log 143] -/
def clearOnRead (s : State) (a : Nat) : State :=
  (wordFields a (fun _ f => f.acc == .rc)).foldl (fun s f => put s ⟨a, f.1, f.2⟩ 0) s

/-- Requester `r`'s shadows (R47). [DEDUCED: log 21] -/
def shadowOf (s : State) (r : Requester) : Shadow := Tab.getD s.shadows (reqNum r) {}
def modShadow (s : State) (r : Requester) (f : Shadow → Shadow) : State :=
  { s with shadows := Tab.upd s.shadows (reqNum r) {} f }

/-- A read of the defined word at `a`, half `h` of its register: the value and what the read does (R7, R47). -/
def readReg (s : State) (r : Requester) (a h : Nat) (pair : Bool) : State × Nat :=
  let v := liveWord s r a
  let free := (measured_ s a).isSome
  let t := clearOnRead (if free then stepFree s else s) a
  if !pair then (t, v)
  else if h = 0 then (modShadow t r (fun x => { x with rd := some (a, BitVec.ofNat 32 (liveWord s r (a + 4))) }), v)
  else match (shadowOf s r).rd with
    | some (lo, w) => if lo + 4 = a then (t, w.toNat) else (t, v)
    | none => (t, v)

/-- A read of the word at `a` by requester `r`: refused (R389), all ones from a region that does not answer (R30), 0 and counted
from an undefined offset (R29), else the register. The value goes back to the requester. [DEDUCED: log 16, 17] -/
def busRead (r : Requester) (a : Nat) (s : State) : State :=
  if cutOff s r then s
  else if !permitted s r a false then emit (deny s r a false) (.readData 0)
  else if sleeping s a then emit s (.readData 0xFFFFFFFF)
  else if isMbxBody a then emit (accessed s a) (.readData (rdWord s a).toNat)
  else match regRowAt a with
    | none => emit (inc s F.HIF_UNMAPPED_count) (.readData 0)
    | some (row, h) =>
      let (t, v) := readReg (refresh (accessed s a) a) r a h row.pair
      emit t (.readData v)

end Sys2Proof.Machine
end

