-- ==== Sys2Proof/Machine/RegWrite.lean ====
section
/-!
DEFINITION. Writing a register over the bus (R7, R29, R30, R47, R61, R62, R80, R389, R395): fields that take effect at once, staged
fields, group members, registers whose write starts an action, and the write shadow of a 64-bit register. One write that
sets several self-clearing bits of a register acts by the lowest of them.
-/
namespace Sys2Proof.Machine
open Sys2Proof

/-! ### Fields -/

/-- The fields of the word at `a` that a write reaches at once, as (lowest bit, width, access, section); without the /P0 ones for
a requester below P0 (R7). -/
def nowFields (a : Nat) (p0 : Bool) : List (Nat × Nat × Acc × Nat) :=
  match regRowAt a with
  | none => []
  | some (r, h) => r.fields.filterMap (fun f =>
      let lo := max f.lo (8 * h)
      let hi := min (f.lo + f.w) (8 * h + 32)
      if decide (f.stage = .now) && (!f.p0 || p0) && decide (lo < hi) then some (lo - 8 * h, hi - lo, f.acc, f.sec) else none)

/-- A write of one field (R7, R62): its value, an expert value of a section, or a clear of the bits written as 1. [DEDUCED: log 143] -/
def fieldWrite (s : State) (a v : Nat) (f : Nat × Nat × Acc × Nat) : State :=
  let x : Fld := ⟨a, f.1, f.2.1⟩
  let w := bits v f.1 f.2.1
  match f.2.2.1 with
  | .rw => if f.2.2.2 = 0 then put s x w else putExpert s f.2.2.2 x w
  | .wo => put s x w
  | .w1c => put s x (get s x - (get s x &&& w))
  | _ => s

/-- The fields of a word that a write reaches at once; an event or enable register brings its interrupt up to date (R404). [DEDUCED: log 143] -/
def plainWrite (s : State) (r : Requester) (a v : Nat) : State :=
  let t := (nowFields a (isP0 s r)).foldl (fun s f => fieldWrite s a v f) s
  if isEventReg a || isEventReg (a - 4) then updateIrq t a else t

/-- A write of a group member (R80); of a group with /P0 members at P0 only. -/
def memberPart (s : State) (r : Requester) (a v : Nat) : State := match groupOf a with
  | some g => if groupP0 g && !isP0 s r then s else memberWrite s g a v
  | none => s

/-- A write of a word: staged fields, group members and the rest. [DEDUCED: log 143] -/
def wordWrite (s : State) (r : Requester) (a v : Nat) : State :=
  memberPart (stagedWrite (plainWrite s r a v) r a (BitVec.ofNat 32 v)) r a v

/-! ### Registers whose write starts an action -/

/-- The SEAL register that guards a selection register, with the event of a blocked write (R319, R343, R392, R449). [DEDUCED: log 19] -/
def selectGuard (a : Nat) : Option (Nat × Fld) :=
  if a = R.ACW_SEL then some (R.ACW_SEAL, F.ACW_EVENT_sel_blocked)
  else if a = R.PCTR_SEL then some (R.PCTR_SEAL, F.PMON_EVENT_sel_blocked)
  else match regionAt a with
    | none => none
    | some n =>
      if a = R.TMG_MTR_SEL n then some (R.TMG_MTR_SEAL n, F.TMG_EVENT_sel_blocked n)
      else if a = R.POL_MTR_SEL n then some (R.POL_MTR_SEAL n, F.POL_EVENT_sel_blocked n)
      else if a = R.BPM_OWN_SEL n then some (R.BPM_OWN_SEAL n, F.BPM_EVENT_sel_blocked n)
      else if a = R.RCTR_SEL n then some (R.RCTR_SEAL n, F.RPM_EVENT_sel_blocked n)
      else none

/-- A write of a selection register: discarded while its group is not CONSISTENT. [DEDUCED: log 19] -/
def selectWrite (s : State) (r : Requester) (a v g : Nat) (ev : Fld) : State :=
  if groupState s g ≠ 0 then (if groupP0 g && !isP0 s r then s else raiseGrey s ev) else plainWrite s r a v

/-- A write of a SEAL register (R81). -/
def sealWrite (s : State) (r : Requester) (a v : Nat) : State :=
  if bit v 1 then sealAbandon s a else if bit v 0 then sealStart s r a else s

/-- The lowest of the bits `l` that `v` sets. [DEDUCED: log 18] -/
def lowestOf (v : Nat) (l : List Nat) : Option Nat := l.find? (fun i => bit v i)

/-- Registers of the line region, the SAF and the KST. [DEDUCED: log 18, 144] -/
def lineAction (s : State) (r : Requester) (a v : Nat) : Option State :=
  let p := (a - 0x100000) / 0x800
  if 0x100000 ≤ a ∧ a < 0x140000 ∧ a = R.LNK_LANE_PWR p then some (targetWrite r p (bits v 0 3) s)
  else if 0x100000 ≤ a ∧ a < 0x140000 ∧ a = R.LNK_RX_OFFSET p then
    let s := plainWrite s r a v
    some (if bit v 16 then stepFree (rxOffsetCal r p (toSigned 16 (freeVal s % 2 ^ 16)) s) else s)
  else if 0x100000 ≤ a ∧ a < 0x140000 ∧ a = R.LNK_TX_BIAS p then some (biasWritten (plainWrite s r a v) p (bits v 0 16))
  else if 0x100000 ≤ a ∧ a < 0x140000 ∧ a = R.LNK_TEMPCO p then some (applyTemp (plainWrite s r a v) p)
  else if a = R.SAF_CTRL then some (safKill r (bit v 0) (bit v 1) s)
  else if a = R.SAF_CEIL_A then some (ceilWrite r .a (toSigned 16 (v % 2 ^ 16)) s)
  else if a = R.SAF_CEIL_B then some (ceilWrite r .b (toSigned 16 (v % 2 ^ 16)) s)
  else if a = R.SAF_FUSE_CLR then some (fuseClr r (bit v 0) (bit v 1) s)
  else if a = R.ACT_HOLD 0 ∨ a = R.ACT_HOLD 1 then
    some (if bit v 1 && isP0 s r then lineSettle (actRelease s (if a = R.ACT_HOLD 0 then .a else .b)) else s)
  else if a = R.PTH_CTRL then
    let s := pthLockout r (bit v 2) s
    some (match lowestOf v [0, 1, 3] with
      | some 0 => pthForce r .a s
      | some 1 => pthForce r .b s
      | some _ => pthClear r s
      | none => s)
  else if 0x702000 ≤ a ∧ a < 0x703000 ∧ a = R.LCY_ENG_CTRL ((a - 0x702000) / 32) then
    some (if bit v 0 then engineRetest r ((a - 0x702000) / 32) s else s)
  else if a = R.KST_CMD then
    some (if !isP0 s r then s else match lowestOf v [0, 1] with
      | some 0 => kstCommand s true
      | some _ => kstCommand s false
      | none => s)
  else none

/-- Clear the valid bit of the slow-path descriptors from ring index `h` on: the ones that firmware has read (R377). -/
def consumeSlow (s : State) (n h k : Nat) : State :=
  (List.range k).foldl (fun s i =>
    let off := spSlot n ((h + i) % 8192) + 9
    sramWrite s off [BitVec.ofNat 8 (setBits (beNat (sramRead s off 1)) 7 1 0)]) s

/-- The command that WRD_CMD names; its data come from host memory, whose content is free (R371, R466). [DEDUCED: log 24] -/
def wrdRequest (s : State) (v : Nat) : Option WrdReq :=
  let data := freeBytes s (get s F.WRD_LEN_len)
  match bits v 0 4 with
  | 1 => some (.policyWrite (bit v 8) data)
  | 2 => some (.wardenWrite (bit v 8) data)
  | 3 => some (.keyAdd (bits v 12 2) (freeBytes s 97))
  | 4 => some (.keyRevoke (bits v 12 2))
  | 5 => some (.setPref (bit v 8))
  | 6 => some .calUnlock
  | 7 => some (.calWrite (freeBytes s 5312))
  | 8 => some .calSaveRx
  | 9 => some .calRead
  | _ => none

/-- Registers of the policy cluster and the warden. [DEDUCED: log 18] -/
def cplAction (s : State) (r : Requester) (a v : Nat) : Option State :=
  if a = R.CPL_CTRL then some (match lowestOf v [0, 1, 2] with
    | some 0 => cplRestart s r
    | some 1 => cplHalt s
    | some _ => confirmTrials s
    | none => s)
  else if a = R.CPL_WDT_KICK then some (wdtKick s (bits v 0 8))
  else if a = R.CPL_MBX_POST then some (mbxPost s r (bits v 0 6))
  else if a = R.CPL_MBX_ACK then some (mbxAck s r (bits v 0 6))
  else if a = R.CPL_FW_DISP then
    some (if bits v 0 8 = 0x70 then cplDiscard s 0 else if bits v 0 8 = 0x71 then cplDiscard s 1 else s)
  else if 0xA00080 ≤ a ∧ a < 0xA000C0 ∧ a % 16 = 4 then
    let n := (a - 0xA00080) / 16
    let h := get s (F.CPL_SP_TAIL_index n)
    some (plainWrite (consumeSlow s n h ((bits v 0 13 + 8192 - h) % 8192)) r a v)
  else if a = R.WRD_CMD then
    let s := plainWrite s r a v
    some (if bit v 31 then match wrdRequest s v with
      | some x => stepFree (wrdCommand s r x)
      | none => s
    else s)
  else none

/-- Registers of the time unit. [DEDUCED: log 99] -/
def tsuAction (s : State) (r : Requester) (a v : Nat) : Option State :=
  let d := (a - 0x80100) / 64
  if a = R.TSU_CTRL then
    let s := wordWrite s r a v
    some (if bit v 31 then residClear s else s)
  else if a = R.TSU_LATCH then some (if bit v 0 then latchWrite r s else s)
  else if a = R.TSU_CONV_DOM then some (convWrite r (Tab.getD s.tsu.conv (reqNum r) {}).raw (bits v 0 2) s)
  else if 0x80100 ≤ a ∧ a < 0x801C0 ∧ a = R.TSU_D_RATE d then some (rateWrite d (BitVec.ofNat 32 v) s)
  else if 0x80100 ≤ a ∧ a < 0x801C0 ∧ a = R.TSU_D_STEP d then some (stepWrite d (BitVec.ofNat 32 v) s)
  else if 0x80100 ≤ a ∧ a < 0x801C0 ∧ a = R.TSU_D_SET_NS d then some (setWrite d (BitVec.ofNat 32 v) s)
  else if 0x84000 ≤ a ∧ a < 0x84400 ∧ a % 0x100 = 8 then some (if bit v 0 then tsqPop s ((a - 0x84000) / 0x100) else s)
  else none

/-- The other registers of the control region and the AON. [DEDUCED: log 18] -/
def controlAction (s : State) (r : Requester) (a v : Nat) : Option State :=
  let k := (a - 0x11000) / 16
  if 0x11000 ≤ a ∧ a < 0x12000 ∧ a = R.LTU_ALM_CTRL k then
    some (if bit v 15 then alarmArm r k (BitVec.ofNat 32 v) s
      else if !alarmOpen k || !isP1 r then alarmResult s k almClass
      else if alarmState s k = 2 then alarmResult s k almLocked
      else
        let s := put (put s (F.LTU_ALM_CTRL_cw k) (bits v 0 13)) (F.LTU_ALM_CTRL_period k) (bits v 16 16)
        if 200 ≤ k then put s (F.LTU_ALM_CTRL_timebase k) (bits v 13 2) else s)
  else if 0x11000 ≤ a ∧ a < 0x12000 ∧ a = R.LTU_ALM_STATUS k then
    some (if bit v 31 then alarmDisarm r k s else if !alarmOpen k || !isP1 r then alarmResult s k almClass else s)
  else if a = R.EPC_CTRL then
    let s := plainWrite s r a v
    some (match lowestOf v [0, 1, 2, 3, 4, 5] with
      | some 0 => epcOpen s
      | some 1 => epcArm s
      | some 2 => epcCancel s
      | some 3 => epcAbandon s
      | some 4 => epcAck s
      | some _ => epcNow s
      | none => s)
  else if a = R.EPC_LOAD then some (if bit v 0 then epcLoad s (isP0 s r) else s)
  else if a = R.HIF_P0_CTRL then some (match lowestOf v [0, 1, 2] with
    | some 0 => p0Challenge s
    | some 1 => p0Respond s
    | some _ => dropP0 s
    | none => s)
  else if a = R.HIF_RX_REL then
    let t := bits v 16 6
    some (ringWrite s r a (rxOwner s t) (fun s => rxRelease s t (bits v 0 16)))
  else if a = R.PWR_REQ then some (match r with
    | .fn _ => inc s F.PWR_REQ_DENY_count
    | _ => if bit v 31 then pwrRequest r (bits v 0 2) (bits v 4 2) s else plainWrite s r a v)
  else if 0x30100 ≤ a ∧ a < 0x30200 ∧ a % 64 = 8 then some (if bit v 0 then padRelease r ((a - 0x30100) / 64) s else s)
  else if a = R.EVR_CTRL then some (if bit v 0 then flushNow s else s)
  else if a = R.EVR_CURSOR then some (cursorWrite s r (BitVec.ofNat 32 v))
  else if a = R.EVR_CLR_CTRL then
    some (if !isP1 r then s else match lowestOf v [0, 1] with
      | some 0 => clrChallenge s
      | some _ => clrRespond s
      | none => s)
  else if a = R.EVR_RL_CFG then some (rlCfgWrite s (BitVec.ofNat 32 v))
  else if 0x70020 ≤ a ∧ a < 0x70080 ∧ a % 16 = 0 then some (if bit v 0 then fltReset r ((a - 0x70020) / 16) s else s)
  else if 0x1000 ≤ a ∧ a < 0x1400 ∧ a % 256 = 4 then some (i2cCommand s ((a - 0x1000) / 256) (BitVec.ofNat 32 v))
  else if 0x1400 ≤ a ∧ a < 0x1420 then some (gpioSettle (plainWrite s r a v))
  else none

/-- Registers of packet region `n`. -/
def packetAction (s : State) (r : Requester) (n a v : Nat) : Option State :=
  if a = R.PRS_TA_CMD n then some (if bit v 31 then taRun s n (bits v 0 3) (bit v 4) else plainWrite s r a v)
  else if a = R.POL_ACC_DONE n then
    some (if bit v 0 then modPkt s n (fun p => { p with pol := { p.pol with done := true } }) else s)
  else if a = R.BPM_OWN_RESTORE n then some (if bit v 31 && isP1 r then ownerRestore s n (bits v 0 10) else s)
  else if a = R.BPM_HOP_CMD n then
    let s := plainWrite s r a v
    some (if !bit v 31 then s else match bits v 0 3 with
      | 1 => hopFree s n
      | 2 => hopAddref s n
      | 3 => hopRead s n (bits v 8 8)
      | _ => s)
  else none

/-- What a write of the word at `a` starts, where it starts something. -/
def busAction (s : State) (r : Requester) (a v : Nat) : Option State :=
  if isSeal a then some (sealWrite s r a v)
  else match selectGuard a with
    | some (g, ev) => some (selectWrite s r a v g ev)
    | none => match regionAt a with
      | some n => packetAction s r n a v
      | none =>
        (lineAction s r a v).orElse (fun _ => (cplAction s r a v).orElse (fun _ => (tsuAction s r a v).orElse (fun _ =>
          controlAction s r a v)))

/-- A write of a defined 32-bit register. [DEDUCED: log 85] -/
def regWrite (s : State) (r : Requester) (a v : Nat) : State := (busAction s r a v).getD (wordWrite s r a v)

/-! ### 64-bit registers (R47) -/

/-- A performance counter's number by the offset of its LIVE register (R444). -/
def liveCounter (a : Nat) : Option Nat :=
  if 0x51000 ≤ a ∧ a < 0x51800 ∧ a % 32 = 0 then some (128 + (a - 0x51000) / 32)
  else match regionAt a with
    | some n =>
      let o := a % 0x1000000
      if 0x601000 ≤ o ∧ o < 0x601400 ∧ o % 32 = 0 then some (32 * n + (o - 0x601000) / 32) else none
    | none => none

/-- Both halves of the register whose LO half is at `a` take effect at once; without `lo`, the low half stays as it is. [DEDUCED: log 20] -/
def pairWrite (s : State) (r : Requester) (a : Nat) (lo : Option Nat) (hi : Nat) : State :=
  let low := lo.getD (liveWord s r a)
  match liveCounter a with
  | some c => counterWrite s c (low + 2 ^ 32 * hi)
  | none =>
    if a = R.TSU_CONV_IN then convWrite r (low + 2 ^ 32 * hi) (Tab.getD s.tsu.conv (reqNum r) {}).dom s
    else if 0x11000 ≤ a ∧ a < 0x12000 then
      let k := (a - 0x11000) / 16
      if !alarmOpen k || !isP1 r then alarmResult s k almClass
      else if alarmState s k = 2 then alarmResult s k almLocked
      else put s (F.LTU_ALM_FN_fn k) (low + 2 ^ 32 * hi)
    else
      let s := match lo with
        | some v => if (stagedFields a true).isEmpty ∨ epcState s = epcStaging then wordWrite s r a v else s
        | none => s
      wordWrite s r (a + 4) hi

/-- A write of half `h` at `a` of a 64-bit register: LO waits in the shadow, HI writes (R47). [DEDUCED: log 20] -/
def halfWrite (s : State) (r : Requester) (a h v : Nat) : State :=
  if h = 0 then modShadow s r (fun x => { x with wr := some (a, BitVec.ofNat 32 v) })
  else match (shadowOf s r).wr with
    | some (lo, w) =>
      if lo + 4 = a then pairWrite (modShadow s r (fun x => { x with wr := none })) r lo (some w.toNat) v
      else pairWrite s r (a - 4) none v
    | none => pairWrite s r (a - 4) none v

/-! ### The bus -/

/-- A write of a mailbox body (R375): by the owner of a FREE slot, by firmware in a TAKEN one; else discarded and counted. [DEDUCED: log 23] -/
def mbxBodyWrite (s : State) (r : Requester) (a : Nat) (v : Word) : State :=
  let k := (a - 0xA10000) / 0x80
  let mine := match r with
    | .fn _ => mbxAllowed s r k && decide (mbxState s k = 0)
    | .core _ => decide (mbxState s k = 2)
    | .warden => false
  if mine then wrWord s a v else mbxDropped s

/-- A ring whose enable a write has cleared stops (R403). -/
def ringStops (s : State) (x : Bool × Nat) (was : Bool) : State :=
  if x.1 then (if was && !getB s (F.HIF_TX_CFG_en x.2) then stopTx s x.2 else s)
  else (if was && !getB s (F.HIF_RX_CFG_en x.2) then stopRx s x.2 else s)

/-- A write that has passed every check: a mailbox body, an undefined offset (R29), or a register. -/
def writeHere (s : State) (r : Requester) (a : Nat) (v : Word) : State :=
  if isMbxBody a then mbxBodyWrite (accessed s a) r a v
  else match regRowAt a with
    | none => inc s F.HIF_UNMAPPED_count
    | some (row, h) =>
      let s := accessed s a
      if row.pair then halfWrite s r a h v.toNat else regWrite s r a v.toNat

/-- A write of the word at `a` by requester `r`. [DEDUCED: log 16, 17] -/
def busWrite (r : Requester) (a : Nat) (v : Word) (s : State) : State :=
  if cutOff s r then s
  else match ringAt a with
    | some x =>
      let was := if x.1 then getB s (F.HIF_TX_CFG_en x.2) else getB s (F.HIF_RX_CFG_en x.2)
      ringWrite s r a (ringOwner s x) (fun s => ringStops (writeHere s r a v) x was)
    | none => onWrite s r a (fun s => writeHere s r a v)

end Sys2Proof.Machine
end

