-- ==== Sys2Proof/Machine/Bus.lean ====
section
/-!
DEFINITION. The commands of the bus (R7, R28 to R30, R47, R61, R386 to R391): reads and writes of a register, of the halves of a
64-bit register, and of staged fields.
-/
namespace Sys2Proof.Machine
open Sys2Proof

/-- REGISTER_READ (R7, R28 to R30, R386 to R391). -/
def execRegisterRead (r : Requester) (a : BitVec 28) (s : State) : Host.Outcome State Fault Refusal :=
  finish s (busRead r a.toNat s)

/-- REGISTER_WRITE (R7, R28 to R30, R386 to R391, R395). -/
def execRegisterWrite (r : Requester) (a : BitVec 28) (v : Word) (s : State) : Host.Outcome State Fault Refusal :=
  finish s (busWrite r a.toNat v s)

/-- READ_LO_64 (R47): a read, which at a 64-bit register's LO half copies HI into the requester's read shadow. -/
def execReadLo64 (r : Requester) (a : BitVec 28) (s : State) : Host.Outcome State Fault Refusal :=
  finish s (busRead r a.toNat s)

/-- WRITE_LO_64 (R47): a write, which at a 64-bit register's LO half is held in the requester's write shadow. -/
def execWriteLo64 (r : Requester) (a : BitVec 28) (v : Word) (s : State) : Host.Outcome State Fault Refusal :=
  finish s (busWrite r a.toNat v s)

/-- WRITE_HI_64 (R47): a write, which at a 64-bit register's HI half takes effect with the low half that is held. -/
def execWriteHi64 (r : Requester) (a : BitVec 28) (v : Word) (s : State) : Host.Outcome State Fault Refusal :=
  finish s (busWrite r a.toNat v s)

/-- STAGED_WRITE (R60, R61): a write, whose ST fields go to the staged bank. -/
def execStagedWrite (r : Requester) (a : BitVec 28) (v : Word) (s : State) : Host.Outcome State Fault Refusal :=
  finish s (busWrite r a.toNat v s)

end Sys2Proof.Machine
end

