-- ==== Sys2Proof/Machine/Dfr.lean ====
section
/-!
DEFINITION. One downstream frame of a lane (R109 to R134): delineation, header and multiframe lock, defects, grant map, LCM,
management blocks, containers, segments.
-/
namespace Sys2Proof.Machine
open Sys2Proof

/-! ### The header (R112) -/

def hdrFn (h : List Byte) : Nat := be h 0 6
def hdrHub (h : List Byte) : Nat := be h 9 2
def hdrAis (h : List Byte) : Bool := bit (be h 6 1) 0
def hdrGm (h : List Byte) : Nat := bits (be h 7 1) 3 5
def hdrLcm (h : List Byte) : Nat := bits (be h 7 2) 7 4
def hdrMgt (h : List Byte) : Nat := bits (be h 8 1) 4 3

/-- The header's CRC checks, and its codeword is not uncorrectable (R112, R115). -/
def hdrCrcOk (f : DsFrame) : Bool := decide (be f.hdr 32 4 = crc32c (f.hdr.take 32)) && !f.uncorr.contains 0

/-- The header names this lane's path and channel. -/
def hdrHere (f : DsFrame) (p : Nat) : Bool :=
  decide (bits (be f.hdr 6 1) 7 1 = qn (lanePath p)) && decide (bits (be f.hdr 6 1) 1 6 = laneChan p)

/-- A good header (R112). -/
def hdrGood (f : DsFrame) (p : Nat) : Bool := hdrCrcOk f && decide (bits (be f.hdr 8 1) 0 4 = 1) && hdrHere f p

/-- A header with a good CRC that names another path or channel (R112). -/
def hdrMisrouted (f : DsFrame) (p : Nat) : Bool := hdrCrcOk f && !hdrHere f p

/-! ### Delineation and multiframe lock (R113, R114) -/

/-- Delineation by one frame, and whether the lane processes it (R113). [DEDUCED: log 75] -/
def delineate (s : State) (p : Nat) (f : DsFrame) : State × Bool :=
  let hit := decide (f.syncErr ≤ 6)
  let st := get s (F.DFR_CH_STATUS_delin p)
  if st = 0 then
    if hit && hdrGood f p then
      (modDfrLane (put s (F.DFR_CH_STATUS_delin p) 1) p (fun d => { d with goodFn := some (hdrFn f.hdr) }), false)
    else (s, false)
  else if st = 1 then
    if hit then (modDfrLane (put s (F.DFR_CH_STATUS_delin p) 2) p (fun d => { d with miss := 0 }), true) else (hunt s p, false)
  else if hit then (modDfrLane s p (fun d => { d with miss := 0 }), true)
  else
    let n := (dfrLane s p).miss + 1
    if 2 ≤ n then (hunt s p, false) else (modDfrLane s p (fun d => { d with miss := n }), true)

/-- Multiframe lock by one processed header (R114): the state, and whether the header was missed. [DEDUCED: log 75] -/
def mfHeader (s : State) (p : Nat) (f : DsFrame) : State × Bool :=
  let good := hdrGood f p
  let fn := hdrFn f.hdr
  let d := dfrLane s p
  if mfLock s p then
    let e := (d.expFn + 1) % fnMod
    if good && decide (fn = e) then (modDfrLane s p (fun d => { d with expFn := e, hdrMiss := 0 }), false)
    else
      let s := modDfrLane s p (fun d => { d with expFn := e, hdrMiss := d.hdrMiss + 1 })
      if 3 ≤ d.hdrMiss + 1 then
        let s := putB s (F.DFR_CH_STATUS_mf_lock p) false
        (modDfrLane s p (fun d => { d with hdrMiss := 0, goodFn := if good then some fn else none }), true)
      else (s, true)
  else if !good then (modDfrLane s p (fun d => { d with goodFn := none }), true)
  else if (match d.goodFn with | some g => decide (fn = (g + 1) % fnMod) | none => false) then
    let s := putB s (F.DFR_CH_STATUS_mf_lock p) true
    (modDfrLane s p (fun d => { d with expFn := fn, hdrMiss := 0 }), false)
  else (modDfrLane s p (fun d => { d with goodFn := some fn }), false)

/-- AIS-L by one good header (R126). -/
def aisHeader (s : State) (p : Nat) (f : DsFrame) : State :=
  if hdrGood f p then
    modDfrLane s p (fun d =>
      if hdrAis f.hdr then { d with aisOn := d.aisOn + 1, aisOff := 0, aisDet := d.aisDet || decide (3 ≤ d.aisOn + 1) }
      else { d with aisOff := d.aisOff + 1, aisOn := 0, aisDet := d.aisDet && decide (d.aisOff + 1 < 3) })
  else s

/-- The first codeword, plus 5,000, at which `k` of 256 consecutive codewords of the rising list `l` are uncorrectable. -/
def fecHit (l : List Nat) (k : Nat) : Option Nat :=
  match l with
  | [] => none
  | a :: rest => match (a :: rest)[k - 1]? with
    | none => none
    | some b => if b ≤ a + 255 then some b else fecHit rest k

/-- The codeword of this frame from which FEC-EXC stands (R126). -/
def fecFrom (s : State) (p : Nat) (f : DsFrame) : Option Nat :=
  let l := (dfrLane s p).fecTail ++ f.uncorr.map (· + 5000)
  (fecHit l (max 1 (get s F.DFR_EXC_exc_set))).map (· - 5000)

/-- FEC-EXC at the end of a processed frame (R126). [DEDUCED: log 76] -/
def fecFrame (s : State) (p : Nat) (f : DsFrame) : State :=
  let on := (fecFrom s p f).isSome
  let n := if f.uncorr.length ≤ get s F.DFR_EXC_exc_clear then (dfrLane s p).fecClean + 1 else 0
  let off := decide (get s F.DFR_EXC_exc_frames ≤ n)
  modDfrLane s p (fun d => { d with
    fecTail := f.uncorr.filter (fun c => decide (4745 ≤ c)), fecClean := n, fecDet := on || (d.fecDet && !off) })

/-- The second counters of a processed frame (R130). [DEDUCED: log 76] -/
def secFrame (s : State) (p : Nat) (f : DsFrame) (missed : Bool) : State :=
  let s := liveAdd s (R.DFR_SEC_CORR p) f.corrected
  let s := liveAdd s (R.DFR_SEC_UNCORR p) f.uncorr.length
  liveAdd s (R.DFR_SEC_FRAMES p) (65536 + b2n (missed || !f.uncorr.isEmpty))

/-! ### Line control messages (R131, R143) -/

/-- The lengths of the downstream message types that the manual defines. [DEDUCED: log 59] -/
def lcmLenOk (typ len : Nat) : Bool :=
  match typ with
  | 0x01 => decide (len = 18)
  | 0x02 | 0x03 => decide (len = 12)
  | 0x04 => decide (len = 13)
  | 0x05 | 0x06 | 0x0C | 0x20 => decide (len = 11)
  | 0x07 | 0x0A => decide (len = 0)
  | 0x08 => decide (2 ≤ len) && decide (len ≤ 56)
  | 0x09 => decide (len = 16)
  | 0x0B => decide (len = 7)
  | 0x0D | 0x0E | 0x0F | 0x10 | 0x22 | 0x23 => decide (len = 8)
  | 0x21 => decide (6 ≤ len) && decide (len ≤ 54) && decide (len % 6 = 0)
  | _ => false

/-- DFR passes one slot of the home channel to ACT (R131); a reserved type or a wrong length is counted (R143). [DEDUCED: log 59] -/
def lcmSlotRx (s : State) (q : Path) (x : List Byte) : State :=
  let typ := be x 2 1
  let dest := be x 0 2
  if be x 60 4 ≠ crc32c (x.take 60) then inc s F.DFR_LCM_BAD_count
  else if typ = 0 then s
  else if (dest = tidOf s q ∧ dest ≠ 0) ∨ dest = 0xFFFF ∨ dest = 0xFFFE then
    if lcmLenOk typ (be x 3 1) then modAct s q (fun a => { a with inbox := a.inbox ++ [x] })
    else inc s (F.ACT_LCM_UNKNOWN_count (qn q))
  else s

/-- Slots from number `i` on, ten to a codeword from 25 on, of the `n` codewords in use. -/
def lcmSlots (s : State) (q : Path) (uncorr : List Nat) (n i : Nat) (l : List (List Byte)) : State :=
  match l with
  | [] => s
  | x :: rest =>
    let s := if n ≤ i / 10 ∨ uncorr.contains (25 + i / 10) then s else lcmSlotRx s q x
    lcmSlots s q uncorr n (i + 1) rest

/-- The LCM of a frame of the channel that ACT reads (R115, R131). [DESIGN CHOICE: log 215] -/
def lcmFrame (s : State) (q : Path) (f : DsFrame) (n : Nat) : State :=
  let lost := (f.uncorr.filter (fun c => decide (25 ≤ c) && decide (c < 25 + n))).length
  lcmSlots (addTo s F.DFR_LCM_BAD_count (10 * lost)) q f.uncorr n 0 f.lcm

/-- The management blocks of that frame (R115, R132). -/
def mgtFrame (s : State) (q : Path) (f : DsFrame) (n : Nat) (posts : List RxPost) : State :=
  let s := (List.range n).foldl (fun s i =>
    mgtBlock s q (if f.uncorr.contains (33 + i) then none else f.mgt[i]?) []) s
  mchServe s posts (s.mch.rxBuf.length + 1)

/-! ### Containers (R122 to R125) -/

/-- The bitwise majority of three 16-bit values. -/
def majority (a b c : Nat) : Nat := (a &&& b) ||| (a &&& c) ||| (b &&& c)

/-- Whether byte `i` of container `t` lies in an uncorrectable codeword. -/
def contHurt (first : Nat) (uncorr : List Nat) (i : Nat) : Bool :=
  uncorr.any (fun c => decide (first + 8 * i / 5140 ≤ c) && decide (c ≤ first + (8 * i + 7) / 5140))

/-- The pointer of a container in one frame (R125): the new processing state, the pointer and the justification in use, and
whether the frame was accepted or adopted. [DEDUCED, DESIGN CHOICE: log 73, 211] -/
def pointer (x : TribRx) (ptr n : Nat) (w : List Byte) : TribRx × Nat × Nat × Bool :=
  let v := majority (be w 0 2) (be w 2 2) (be w 4 2)
  let got := v / 4
  let jc := v % 4
  let e := (ptr + n + (if x.lastJc = 1 then 1 else 0) - (if x.lastJc = 2 then 1 else 0)) % n
  let ones := if 16 ≤ w.length ∧ w.all (fun b => decide (b = 0xFF)) then x.onesRun + 1 else 0
  let ais := x.aisDet || decide (3 ≤ ones)
  if got = e ∧ jc ≠ 3 then
    let ok := x.okRun + 1
    ({ x with noAccept := 0, newRun := 0, onesRun := ones, okRun := ok, lastJc := jc
              lopDet := x.lopDet && decide (ok < 3), aisDet := ais && decide (ok < 3) }, e, jc, true)
  else
    let cand := decide (got < n) && (decide (jc = 3) || decide (jc = 0))
    let run := if cand then (if x.newRun ≠ 0 ∧ x.newPtr = got then x.newRun + 1 else 1) else 0
    if 3 ≤ run then
      ({ x with noAccept := 0, newRun := 0, onesRun := ones, okRun := 0, lastJc := 0, aisDet := ais }, got, 0, true)
    else
      let no := x.noAccept + 1
      ({ x with noAccept := no, newPtr := got, newRun := run, onesRun := ones, okRun := 0, lastJc := 0
                lopDet := x.lopDet || decide (8 ≤ no), aisDet := ais }, e, 0, false)

/-- Container `t` in one frame of its lane (R123 to R125). [DEDUCED: log 73] -/
def contFrame (s : State) (p t : Nat) (f : DsFrame) : State :=
  let n := if getB s (F.DFR_TRIB_CFG_rate t) then 6250 else 3125
  let first := get s (F.DFR_TRIB_CFG_first_cw t)
  let bs := match f.tribs.find? (fun e => decide (e.1 = t)) with
    | some e => e.2
    | none => []
  let (x, ptr, jc, ok) := pointer (tribRx s t) (get s (F.DFR_TRIB_STATUS_ptr t)) n (bs.take 16)
  let s := { s with dfr := { s.dfr with tribs := Tab.set s.dfr.tribs t x } }
  let s := put s (F.DFR_TRIB_STATUS_ptr t) ptr
  let s := put s (F.DFR_TRIB_STATUS_invalid t) (if ok then 0 else sat 15 (get s (F.DFR_TRIB_STATUS_invalid t) + 1))
  let s := if jc = 1 then inc s (F.DFR_TRIB_PJ_count t) else if jc = 2 then inc s (F.DFR_TRIB_NJ_count t) else s
  let s := showTrib s p t
  match Tab.find s.bank.downPort t with
  | none => s
  | some k =>
    if hardDefect s p || !isTransparent s (k / 32) (k % 32) || (portSt s (k / 32) (k % 32)).fault then s
    else
      let from_ := if jc = 1 then 528 else if jc = 2 then 16 else 272
      let data := ((bs.take (272 + 256 * n)).drop from_).mapIdx (fun i b => (b, contHurt first f.uncorr (from_ + i)))
      modPort s (k / 32) (k % 32) (fun x => { x with demap := x.demap ++ data })

/-! ### Segments (R116 to R119) -/

/-- The codewords that containers of lane `p` take: first and count, by rising first codeword. -/
def contSpans (s : State) (p : Nat) : List (Nat × Nat) :=
  ((contsOn s p).map (fun t => (get s (F.DFR_TRIB_CFG_first_cw t), contCodewords (get s (F.DFR_TRIB_CFG_rate t))))).foldl
    (fun l e => l.takeWhile (fun x => decide (x.1 < e.1)) ++ e :: l.dropWhile (fun x => decide (x.1 < e.1))) []

/-- The codeword of information bit `b` of the payload area (R116). -/
def bitCw (spans : List (Nat × Nat)) (b : Nat) : Nat := spans.foldl (fun c e => if e.1 ≤ c then c + e.2 else c) (40 + b / 5140)

/-- The codeword of the first bit of byte `i`, and of the last bit of the byte before byte `i`: a byte may straddle two codewords. -/
def payloadCw (spans : List (Nat × Nat)) (i : Nat) : Nat := bitCw spans (8 * i)
def endCw (spans : List (Nat × Nat)) (i : Nat) : Nat := bitCw spans (8 * i - 1)

/-- Bytes of the payload area. -/
def areaBytes (spans : List (Nat × Nat)) : Nat := (4960 - spans.foldl (fun a e => a + e.2) 0) * 5140 / 8

/-- What the parser of a payload area needs: codewords of containers, uncorrectable codewords outside them, path, channel,
frame, raw time of the frame. -/
structure AreaEnv where
  spans : List (Nat × Nat)
  uncorr : List Nat
  path : Path
  chan : Nat
  fn : Nat
  raw : Nat

/-- Whether bytes `o` to `o + n` of the area touch an uncorrectable codeword. -/
def hurtAt (e : AreaEnv) (o n : Nat) : Bool :=
  let a := payloadCw e.spans o
  let b := endCw e.spans (o + n)
  e.uncorr.any (fun c => decide (a ≤ c) && decide (c ≤ b))

/-- Eight bytes, with the zeros that follow the listed ones. -/
def hdr8 (bs : List Byte) : List Byte := let h := bs.take 8; h ++ List.replicate (8 - h.length) 0

/-- The hec of a segment header checks (R117). -/
def hecOk (h : List Byte) : Bool := decide (crc8 (h.take 7) = be h 7 1)

/-- The whole length of the segment of header value `v` (R117). -/
def segLen (v : Nat) : Nat := 8 + 4 * bits v 24 1 + 4 * bits v 23 1 + bits v 30 14 + 16 * bits v 27 1

/-- Whether a candidate header at byte `o` is accepted in a search (R118). -/
def candidate (e : AreaEnv) (bs : List Byte) (o : Nat) : Bool :=
  let h := hdr8 bs
  let n := segLen (beNat h)
  hecOk h && !hurtAt e o 8 && decide (o + n ≤ areaBytes e.spans) &&
    (decide (areaBytes e.spans < o + n + 8) || hecOk (hdr8 (bs.drop n)))

/-- The next accepted header at or after byte `o` (R118). [DEDUCED: log 74] -/
def searchHdr (e : AreaEnv) (bs : List Byte) (o : Nat) : Option (List Byte × Nat) :=
  match bs with
  | [] => none
  | b :: rest => if candidate e (b :: rest) o then some (b :: rest, o) else searchHdr e rest (o + 1)

/-- The segment with header value `v` at byte `o` (R117), its first bit's instant at a resolution of 1/16 ns (R357). -/
def segmentAt (e : AreaEnv) (bs : List Byte) (o v : Nat) : Seg :=
  let m := bits v 24 1
  let b := bits v 23 1
  let h := 8 + 4 * m + 4 * b
  let len := bits v 30 14
  let all := bs ++ List.replicate (segLen v - bs.length) 0
  let cw := payloadCw e.spans o
  { path := e.path, chan := e.chan, fn := e.fn, offset := o, cw := cw, sid := bits v 44 20, frag := bits v 28 2,
    enc := bit v 27, keyIdx := bits v 25 2, mseq := if m = 1 then some (be all 8 4) else none,
    bseq := if b = 1 then some (be all (8 + 4 * m) 4) else none, ptype := bits v 8 8, hdr := all.take h,
    payload := (all.drop h).take len, tag := if bit v 27 then (all.drop (h + len)).take 16 else [],
    raw := (e.raw + cw * 4194304 / 5) / 4096 * 4096 }

/-- The segments of an area from byte `o` on (R116, R118): `none` for a search, else a segment and whether it touches an
uncorrectable codeword. Behind the listed bytes lie zeros, an idle header, which may be damaged too. [DEDUCED: log 74] -/
def parseArea (e : AreaEnv) (bs : List Byte) (o fuel : Nat) : List (Option (Seg × Bool)) :=
  match fuel with
  | 0 => []
  | fuel + 1 =>
    let area := areaBytes e.spans
    if area < o + 8 then []
    else if bs.isEmpty then (if hurtAt e o 8 then [none] else [])
    else
      let h := hdr8 bs
      let v := beNat h
      if hurtAt e o 8 || !hecOk h || decide (area < o + segLen v) then
        match searchHdr e (bs.drop 1) (o + 1) with
        | none => [none]
        | some (rest, o') => none :: parseArea e rest o' fuel
      else if v = 0 then []
      else
        let n := segLen v
        some (segmentAt e bs o v, hurtAt e o n) :: parseArea e (bs.drop n) (o + n) fuel

/-- Whether the SID filter of path `q` holds `sid` in path frame `fn` (R69, R119). -/
def sidPasses (s : State) (q : Path) (fn sid : Nat) : Bool :=
  bit (Tab.getD (lineCfgAt s q fn).bank.sidFilter (32768 * qn q + sid / 32) 0).toNat (sid % 32)

/-- A segment, or the place of a lost one, on its way to its cipher engine. -/
def dfrOut (s : State) (g : Seg) : State := { s with dfr := { s.dfr with out := s.dfr.out ++ [g] } }

/-- What DFR does with one parsed segment (R118, R119, R74). [DESIGN CHOICE: log 212] -/
def segRx (s : State) (e : AreaEnv) (g : Option (Seg × Bool)) : State :=
  let p := laneOf e.path e.chan
  let ids := chanIds e.path e.chan
  match g with
  | none =>
    dfrOut (dfrDiscard s ids 0x68)
      { path := e.path, chan := e.chan, fn := e.fn, offset := 0, cw := 0, sid := 0, frag := 2, enc := false, keyIdx := 0,
        mseq := none, bseq := none, ptype := 0, hdr := [], payload := [], tag := [], raw := 0, lost := some 0x68 }
  | some (g, hurt) =>
    let bytes := g.hdr.length + g.payload.length + g.tag.length
    let s := monIn s 4 0x11 ids bytes
    if chanQuiesced s p then inc s F.EPC_QDROP_count
    else if hurt then
      let s := dfrDiscard s ids 0x69
      if g.frag = 0 then s else dfrOut s { g with payload := [], tag := [], lost := some 0x69 }
    else if !sidPasses s e.path e.fn g.sid then inc s (F.DFR_CH_FOREIGN_count p)
    else if 1 < g.ptype then dfrDiscard s ids 0x6D
    else dfrOut (monOut (inc s (F.DFR_CH_SEG_count p)) 4 0x11 ids bytes) g

/-- The payload area of a frame, up to codeword `stop` (R116 to R119). [DESIGN CHOICE: log 214] -/
def payloadFrame (s : State) (p : Nat) (f : DsFrame) (fn stop : Nat) : State :=
  let spans := contSpans s p
  let free := fun c => !spans.any (fun x => decide (x.1 ≤ c) && decide (c < x.1 + x.2))
  let raw := rawAbs s - 4096 * (laneSt s p).rxDelay
  let e : AreaEnv := ⟨spans, f.uncorr.filter free, lanePath p, laneChan p, fn, raw⟩
  let before := fun (g : Option (Seg × Bool)) => match g with
    | none => true
    | some (g, _) => decide (endCw spans (g.offset + g.hdr.length + g.payload.length + g.tag.length) < stop)
  ((parseArea e f.payload 0 (f.payload.length + 2)).filter before).foldl (fun s g => segRx s e g) s

/-! ### The frame -/

/-- What a locked lane without a defect up to FEC-EXC delivers of a frame (R128): its grant map, LCM, management blocks and segments
before codeword `stop`. -/
def deliverFrame (s : State) (p : Nat) (f : DsFrame) (fn stop : Nat) (posts : List RxPost) : State :=
  let q := lanePath p
  let good := hdrGood f p
  let gm := if good then hdrGm f.hdr else min 24 f.grants.length
  let lcm := min (stop - 25) (if good then hdrLcm f.hdr else 8)
  let mgt := min (stop - 33) (if good then min 4 (hdrMgt f.hdr) else min 4 f.mgt.length)
  let map := (List.range gm).map (fun i => if f.uncorr.contains (i + 1) ∨ stop ≤ i + 1 then none else some (f.grants.getD i []))
  let s := { s with upb := { s.upb with maps := s.upb.maps ++ [(p, fn, map)] } }
  let home := decide (homeInUse s q = laneChan p) && decide (actState s q ≠ 0)
  let s := if home then mgtFrame (lcmFrame s q f lcm) q f mgt posts else s
  payloadFrame s p f fn stop

/-- A frame that the lane processes in SYNC. [DESIGN CHOICE: log 210] -/
def processFrame (s : State) (p : Nat) (f : DsFrame) (posts : List RxPost) : State :=
  let q := lanePath p
  let (s, missed) := mfHeader s p f
  let s := secFrame (aisHeader s p f) p f missed
  let ids := [(4, 64 * qn q + laneChan p)]
  let s := monCount (monCount s 4 0x10 1 ids 5000) 4 0x10 2 ids 5000
  let s := monCount (monCount s 4 0x10 3 ids 3400000) 4 0x10 4 ids 3400000
  let s := if hdrGood f p then modAct s q (fun a => { a with hubId := hdrHub f.hdr }) else s
  let locked := mfLock s p
  let fn := (dfrLane s p).expFn
  let s := if locked then put s (F.DFR_CH_FN_fn p) fn
    else if hdrGood f p then put s (F.DFR_CH_FN_fn p) (hdrFn f.hdr) else s
  let s := if locked then putI s (F.UPB_CH_OFFSET_offset (qn q) (laneChan p)) f.offset else s
  let s := unestablish (report s p) p
  let s := if locked then pathFrameDue (ltuFrame s p fn) q else s
  let s := lineSettle s
  let hit := fecFrom s p f
  let s := if locked then
      let s := (contsOn s p).foldl (fun s t => contFrame s p t f) s
      if hardDefect s p then s else deliverFrame s p f fn (hit.getD 5000) posts
    else s
  lineSettle (unestablish (report (fecFrame s p f) p) p)

/-- DOWNSTREAM_FRAME (R113). In the safe state only ASH's receivers of CH_00 run (R425). -/
def downstreamFrame (s : State) (p : Nat) (f : DsFrame) (posts : List RxPost) : State :=
  if getB s F.GLB_SAFE_safe then
    if laneChan p = 0 ∧ gaspWanted s (lanePath p) then
      let fn := if hdrGood f p then hdrFn f.hdr else (pathTime s (lanePath p)).fn + 1
      gaspMap s (lanePath p) fn f.grants
    else s
  else if isolated s 4 || !laneActive s p then s
  else
    let s := if hardDefect s p || (dfrLane s p).merged then s else modDfrLane s p (fun d => { d with merged := true })
    let (t, run) := delineate s p f
    let s := if (run || decide (f.syncErr ≤ 6)) && hdrMisrouted f p then raiseGrey t (F.DFR_CH_EVENT_misroute p) else t
    if run then processFrame s p f posts else lineSettle (unestablish (report s p) p)

def execDownstreamFrame (l : Lane) (f : DsFrame) (posts : List RxPost) (s : State) : Host.Outcome State Fault Refusal :=
  finish s (downstreamFrame s l.val f posts)

end Sys2Proof.Machine
end

