-- ==== Sys2Proof/Machine/Upb.lean ====
section
/-!
DEFINITION. Standing windows of upstream containers (R123, R124, R186, R256), and the hub's messages to the upstream side: container
assignments, acknowledgements, switch orders (R185, R222, R223).
-/
namespace Sys2Proof.Machine
open Sys2Proof

/-! ### Assignments (R186) -/

/-- Standing windows, (first, length), of the path's other containers on a channel, assigned or waiting. -/
def otherStands (s : State) (q : Path) (t chan : Nat) : List (Nat × Nat) :=
  let later := s.upb.pendTrib.filterMap (fun p => match p.2.cfg with
    | some w => if p.1 = q ∧ p.2.t ≠ t ∧ bits w 13 6 = chan then some (bits w 0 13, standLen s q w) else none
    | none => none)
  standingIn s (laneOf q chan) (pathTime s q).fn t ++ later

/-- Why an UP_TRIB_ASSIGN is refused, 0 where it is not (R145, R186). -/
def upTribReason (s : State) (q : Path) (t chan first rate : Nat) : Nat :=
  let len := (act s q).minGuard + 1 + contCodewords rate
  if 31 < t then nackIndex
  else if rate ≠ 0xFF ∧ 5000 < first + len then nackRange
  else if rate ≠ 0xFF ∧ (otherStands s q t chan).any (fun x => overlap x.1 x.2 first len) then nackOverlap
  else if rate ≠ 0xFF ∧ !tribPortOk s (Tab.find s.bank.upPort t) rate then nackPort
  else if getB s (F.UPB_TRIB_CFG_valid t) ∧ get s (F.UPB_TRIB_CFG_path t) ≠ qn q then nackOwned
  else 0

def upTribAssign (s : State) (q : Path) (b : List Byte) : State :=
  let t := be b 0 1
  let chan := be b 1 1
  let rate := be b 4 1
  let r := upTribReason s q t chan (be b 2 2) rate
  if r = 0 then
    let cfg := if rate = 0xFF then none else some (tribWord q chan (be b 2 2) rate)
    let keep := s.upb.pendTrib.filter (fun p => decide (p.2.t ≠ t) || decide (p.2.applyFn < be b 5 6))
    { s with upb := { s.upb with pendTrib := keep ++ [(q, ⟨t, cfg, be b 5 6⟩)] } }
  else greyOf (queueLcm s q .act 0xA0 (beBytes 1 t ++ beBytes 1 r)) F.UPB_EVENT_trib_nack (chanIds q chan)

/-! ### The standing burst (R123, R124, R186, R256) -/

/-- Units of a container's client block (R122). -/
def contUnits (rate : Nat) : Nat := if rate = 1 then 6250 else 3125

/-- The pointer word (R124). -/
def pointerWord (ptr jc : Nat) : List Byte :=
  let v := beBytes 2 (4 * ptr + jc)
  v ++ v ++ v ++ List.replicate 10 0

/-- Whether the client port of container `t` is not UP or receives local fault (R186, R256). [DESIGN CHOICE: log 71] -/
def tribFault (s : State) (t : Nat) : Bool :=
  let k := get s (F.UPB_TRIB_PORT_port t)
  decide (portLink s (k / 32) (k % 32) ≠ 3) || getB s (F.CMC_PORT_STATUS_rx_lf (k / 32) (k % 32))

/-- A mapper's records with idle fill after them, up to `n` bytes at least (R256). -/
def idleFilled (buffer : List (Bool × List Byte)) (n : Nat) : List (Bool × List Byte) :=
  buffer ++ List.replicate ((n - streamLen buffer + 7) / 8) (false, recordHdr 0 0 false 0)

/-- What is left of records after `n` bytes: the end of one that the container cuts stays with the stream. -/
def recordsAfter (l : List (Bool × List Byte)) (n : Nat) : List (Bool × List Byte) := match l with
  | [] => []
  | r :: rest => if r.2.length ≤ n then recordsAfter rest (n - r.2.length) else (r.1, r.2.drop n) :: rest

/-- Build container `t` at `rate` for one frame, `excess` being the client's bytes of the frame beyond N units (R123, R124, R186): its
state and its bytes. The first frame carries a new pointer and no justification. [DESIGN CHOICE: log 71] -/
def buildContainer (s : State) (t rate : Nat) (excess : Int) : State × List Byte :=
  let x := Tab.getD s.upb.tribs t {}
  let n := contUnits rate
  let ptr := x.next.getD 0
  let e := x.excess + excess
  let neg := x.next.isSome && decide (256 ≤ e)
  let pos := x.next.isSome && decide (e ≤ -256)
  let jc := if x.next.isNone then 3 else if pos then 1 else if neg then 2 else 0
  let units := if neg then n + 1 else if pos then n - 1 else n
  let stream := idleFilled x.buffer (256 * units)
  let data := ((stream.map (fun r => r.2)).flatten).take (256 * units)
  let rest := recordsAfter stream (256 * units)
  let fault := tribFault s t
  let word := if fault then List.replicate 16 0xFF else pointerWord ptr jc
  let empty := List.replicate 256 (0 : Byte)
  let body := if neg then data else if pos then empty ++ empty ++ data else empty ++ data
  let e' : Int := if neg then e - 256 else if pos then e + 256 else e
  let next := if pos then (ptr + 1) % n else if neg then (ptr + n - 1) % n else ptr
  let s := { s with upb := { s.upb with tribs := Tab.set s.upb.tribs t { x with
    excess := e', buffer := rest, moved := x.moved - 768 * units, next := some next, unused := false } } }
  let s := if neg then inc s (F.UPB_TRIB_NJ_count t) else if pos then inc s (F.UPB_TRIB_PJ_count t) else s
  (putB (put s (F.UPB_TRIB_STATUS_ptr t) ptr) (F.UPB_TRIB_STATUS_ais_t t) fault, word ++ body)

/-- The next standing window of container `t` on path `q`: its path frame and the register word that describes it. It is the first one
that has not begun, that no burst was built for, and whose frame the assignment covers (R186); a burst far ahead is one of the numbering
before a renumbering. [DEDUCED, DESIGN CHOICE: log 71, 205] -/
def nextStand (s : State) (q : Path) (t : Nat) : Option (Nat × Nat) :=
  let now := (baseNow s (1 + qn q)).getD 0
  let last := (Tab.getD s.upb.tribs t {}).lastFn
  ((List.range 3).map (fun k => now / 5000 + k)).findSome? (fun fn => match standCfg s q t fn with
    | none => none
    | some w => if now < cwCount fn (bits w 0 13) ∧ last.all (fun l => decide (l < fn) || decide (now / 5000 + 3 ≤ l)) then some (fn, w) else none)

/-- The path whose frames carry container `t`, now or once its assignment applies. [DEDUCED: log 205] -/
def standPath (s : State) (t : Nat) : Path :=
  if getB s (F.UPB_TRIB_CFG_valid t) then pathOf (get s (F.UPB_TRIB_CFG_path t))
  else match s.upb.pendTrib.find? (fun p => decide (p.2.t = t)) with
    | some p => p.1
    | none => .a

/-- Build the standing burst of container `t` for its window in path frame `fn`, which `w` describes (R186). -/
def buildStanding (s : State) (q : Path) (t fn w : Nat) (excess : Int) : State :=
  let chan := bits w 13 6
  let p := laneOf q chan
  let pos := cwCount fn (bits w 0 13)
  let g := (act s q).minGuard
  let len := standLen s q w
  let (a, fine) := launchAt s q chan pos (eqdAt s q chan fn)
  match unusedReason s p fn (.standing t) false a fine len with
  | some r => mapperHeld (unused s q r 1) t
  | none =>
    let (s, cont) := buildContainer s t (bits w 20 1) excess
    let (s, bsn) := takeBsn s q
    let hdr := burstHeader (tidOf s q) chan (qn q) false false false true bsn (fn % 2 ^ 32)
    queueBurst s { kind := .standing t, lane := p, pos := pos, guard := g, len := len, pre := get s (F.UPB_PRE_kind (qn q) 0), plen := 2441,
                   alarm := a, fine := fine, bsn := bsn, info := hdr ++ fit (5140 * contCodewords (bits w 20 1) / 8) cont, segs := [],
                   acts := 0, reps := [], wins := 1, mgmt := false }

/-- The fill point of container `t`'s standing window in path frame `fn`. -/
def fillStanding (s : State) (q : Path) (t fn w : Nat) (excess : Int) : State :=
  buildStanding { s with upb := { s.upb with tribs := Tab.upd s.upb.tribs t {} (fun x => { x with lastFn := some fn }) } } q t fn w excess

/-! ### Windows whose fill points coincide (R176) -/

/-- The standing windows whose fill points come `d` steps from now: lane, container, path frame and register word of each. -/
def standsDue (s : State) (d : Int) : List (Nat × Nat × Nat × Nat) :=
  (List.range 32).filterMap (fun t =>
    let q := standPath s t
    (nextStand s q t).bind (fun x =>
      if pathLocked s q ∧ stepsUntil s q (cwCount x.1 (bits x.2 0 13)) = d then some (laneOf q (bits x.2 13 6), t, x) else none))

/-- The granted windows whose fill points come `d` steps from now. -/
def windowsDue (s : State) (d : Int) : List Window :=
  s.upb.windows.filter (fun w => pathLocked s (lanePath w.lane) && decide (stepsUntil s (lanePath w.lane) (cwCount w.fn w.start) = d))

/-- Before a window of lane `p` is filled whose first codeword is `c`, those on the lanes before it are whose fill points coincide with
its own: ascending order of path and then channel (R176). [DESIGN CHOICE: log 220] -/
def fillBefore (s : State) (p c : Nat) : State :=
  let d := stepsUntil s (lanePath p) c
  let ws := windowsDue s d
  let ts := standsDue s d
  (List.range p).foldl (fun s l =>
    let s := (ws.filter (fun w => decide (w.lane = l) && s.upb.windows.contains w)).foldl (fun s w =>
      noteEarly (fillInOrder s w false) .granted l (cwCount w.fn w.start)) s
    (ts.filter (fun x => decide (x.1 = l))).foldl (fun s x =>
      noteEarly (fillStanding s (lanePath l) x.2.1 x.2.2.1 x.2.2.2 0) (.standing x.2.1) l (cwCount x.2.2.1 (bits x.2.2.2 0 13))) s) s

/-- The note of a window of kind `k` that has been filled before its command, where `own` accepts its lane and first codeword. -/
def earlyNote (s : State) (k : BurstKind) (own : Nat → Nat → Bool) : Option (BurstKind × Nat × Nat) :=
  s.upb.early.find? (fun e => decide (e.1 = k) && own e.2.1 e.2.2 && decide ((baseNow s (1 + qn (lanePath e.2.1))).getD 0 < e.2.2))

/-- Take a note away, its command having come. -/
def dropNote (s : State) (e : BurstKind × Nat × Nat) : State := { s with upb := { s.upb with early := s.upb.early.erase e } }

/-- WINDOW_FILL (R27, R176, R181): a window's fill point, 800 codewords before its start. [DEDUCED: log 68] -/
def windowFill (s : State) (p start : Nat) (mis : Bool) : State :=
  match earlyNote s .granted (fun l pos => decide (l = p) && decide (pos % 5000 = start)), windowAt s p start with
  | some e, _ => dropNote s e
  | none, none => s
  | none, some w =>
    let q := lanePath p
    let s := fillBefore s p (cwCount w.fn w.start)
    fillInOrder (pathFrameDue (reach s (1 + qn q) (cwCount w.fn w.start - 800)) q) w mis

/-- STANDING_BURST (R176, R186): the fill point of container `t`'s next standing window; its burst then goes to the SAF and out at its
alarm like every other one, or the window counts as unused. The client's bytes of a window that has been filled before count for
the next one. -/
def standingBurst (s : State) (t : Nat) (excess : Int) : State :=
  let q := standPath s t
  match earlyNote s (.standing t) (fun _ _ => true), nextStand s q t with
  | some e, _ =>
    let s := dropNote s e
    { s with upb := { s.upb with tribs := Tab.upd s.upb.tribs t {} (fun x => { x with excess := x.excess + excess }) } }
  | none, none => s
  | none, some (fn, w) =>
    let s := fillBefore s (laneOf q (bits w 13 6)) (cwCount fn (bits w 0 13))
    fillStanding (pathFrameDue (reach s (1 + qn q) (cwCount fn (bits w 0 13) - 800)) q) q t fn w excess

def execWindowFill (l : Lane) (start : Nat) (mismatch : Bool) (s : State) : Host.Outcome State Fault Refusal :=
  finish s (windowFill s l.val start mismatch)

/-! ### Acknowledgements and switch orders (R222, R223) -/

/-- One entry of a PATH_ACK. -/
def ackEntry (s : State) (q : Path) (aid v : Nat) : State :=
  match aidIndex (activeCfg s) q aid with
  | none => s
  | some a =>
    if aidMode s a ≠ 2 then s
    else if 0 < seqDist v ((get s (F.PTH_AID_NEXT_mseq a) + 2 ^ 32 - 1) % 2 ^ 32) then greyOf (inc s F.PTH_ACK_BAD_count) F.PTH_EVENT_ack_bad [(3, a)]
    else if seqDist v ((aidProt s a).acked.getD (2 ^ 32 - 1)) ≤ 0 then s
    else
      let s := modAid (put s (F.PTH_AID_ACK_ack a) v) a (fun x => { x with acked := some v })
      releaseRetained s a (fun g => decide (seqDist (g.mseq.getD 0) v ≤ 0))

def pathAck (s : State) (q : Path) (b : List Byte) : State :=
  (List.range (b.length / 6)).foldl (fun s i => ackEntry s q (be b (6 * i) 2) (be b (6 * i + 2) 4)) s

/-- A PATH_SWITCH body names a path and a choice. -/
def switchBody (b : List Byte) : Bool := decide (be b 0 1 ≤ 1) && decide (be b 1 1 ≤ 1)

/-- The hub orders a switch for a frame of module line time (R223, R225). [DEDUCED: log 176] -/
def pathSwitchMsg (s : State) (_ : Path) (b : List Byte) : State :=
  let fn := be b 2 6
  modPth s (fun p => { p with
    hubOrder := some ⟨pathOf (be b 0 1), decide (be b 1 1 = 1), swHub, 3⟩
    hubFn := if fn ≤ modFn s then modFn s + 1 else fn })

def execUpTribAssign (q : Path) (s : State) : Host.Outcome State Fault Refusal := finish s (takeLcm s q 0x20 (tribKnown (upTribReason s q)) (fun s b => upTribAssign s q b))
/-- STANDING_BURST with the client's excess or deficit in the frame, in bytes (R186). -/
def execStandingBurst (t : Fin 32) (excess deficit : Nat) (s : State) : Host.Outcome State Fault Refusal :=
  finish s (standingBurst s t.val ((excess : Int) - deficit))
def execPathAck (q : Path) (s : State) : Host.Outcome State Fault Refusal := finish s (takeLcm s q 0x21 anyBody (fun s b => pathAck s q b))
def execPathSwitchMsg (q : Path) (s : State) : Host.Outcome State Fault Refusal := finish s (takeLcm s q 0x22 switchBody (fun s b => pathSwitchMsg s q b))

end Sys2Proof.Machine
end

