-- ==== Sys2Proof/Machine/Dispatch.lean ====
section
/-!
DEFINITION. One arm per command: the direct call of its meaning.
-/
namespace Sys2Proof.Machine
open Sys2Proof

/-- The effect of one command on everything but the queue. -/
def exec (i : Instr) (s : State) : Host.Outcome State Fault Refusal :=
  match i with
  | .resetNLow bad => Sys2Proof.Machine.execResetNLow bad s
  | .alarmArm r k ctrl => Sys2Proof.Machine.execAlarmArm r k ctrl s
  | .alarmDisarm r k => Sys2Proof.Machine.execAlarmDisarm r k s
  | .alarmLock k => Sys2Proof.Machine.execAlarmLock k s
  | .alarmFire k uw => Sys2Proof.Machine.execAlarmFire k uw s
  | .readLo64 r a => Sys2Proof.Machine.execReadLo64 r a s
  | .writeLo64 r a v => Sys2Proof.Machine.execWriteLo64 r a v s
  | .writeHi64 r a v => Sys2Proof.Machine.execWriteHi64 r a v s
  | .downstreamFrame l f posts => Sys2Proof.Machine.execDownstreamFrame l f posts s
  | .losAssert l pwr => Sys2Proof.Machine.execLosAssert l pwr s
  | .losClear l pwr => Sys2Proof.Machine.execLosClear l pwr s
  | .lolAssert l slip snr => Sys2Proof.Machine.execLolAssert l slip snr s
  | .lolClear l snr => Sys2Proof.Machine.execLolClear l snr s
  | .laneEstablished l => Sys2Proof.Machine.execLaneEstablished l s
  | .clockLock l => Sys2Proof.Machine.execClockLock l s
  | .adaptationComplete l snr => Sys2Proof.Machine.execAdaptationComplete l snr s
  | .wavelengthFault l err => Sys2Proof.Machine.execWavelengthFault l err s
  | .wavelengthRecover l err => Sys2Proof.Machine.execWavelengthRecover l err s
  | .laneTargetWrite r l target => Sys2Proof.Machine.execLaneTargetWrite r l target s
  | .laneTransitionDone l => Sys2Proof.Machine.execLaneTransitionDone l s
  | .laneRefuseCleared l => Sys2Proof.Machine.execLaneRefuseCleared l s
  | .enginePowered e => Sys2Proof.Machine.execEnginePowered e s
  | .trimRecompute e temp => Sys2Proof.Machine.execTrimRecompute e temp s
  | .rxOffsetCal r l offset => Sys2Proof.Machine.execRxOffsetCal r l offset s
  | .safBurstPresent l => Sys2Proof.Machine.execSafBurstPresent l s
  | .safCeilWrite r q ceil => Sys2Proof.Machine.execSafCeilWrite r q ceil s
  | .fuseComparatorTrip q => Sys2Proof.Machine.execFuseComparatorTrip q s
  | .safFuseClr r clrA clrB => Sys2Proof.Machine.execSafFuseClr r clrA clrB s
  | .safKill r killA killB => Sys2Proof.Machine.execSafKill r killA killB s
  | .reassemblyTimeout bonded q n sid => Sys2Proof.Machine.execReassemblyTimeout bonded q n sid s
  | .mchUartFrameRx bytes => Sys2Proof.Machine.execMchUartFrameRx bytes s
  | .spiWrite msg => Sys2Proof.Machine.execSpiWrite msg s
  | .pathParams q => Sys2Proof.Machine.execPathParams q s
  | .timeAnnounce q => Sys2Proof.Machine.execTimeAnnounce q s
  | .discovery q draw => Sys2Proof.Machine.execDiscovery q draw s
  | .announceUnanswered q draw => Sys2Proof.Machine.execAnnounceUnanswered q draw s
  | .assignTid q => Sys2Proof.Machine.execAssignTid q s
  | .rangeWindow q => Sys2Proof.Machine.execRangeWindow q s
  | .eqDelay q => Sys2Proof.Machine.execEqDelay q s
  | .certReq q => Sys2Proof.Machine.execCertReq q s
  | .authChallenge q => Sys2Proof.Machine.execAuthChallenge q s
  | .authResponseReady q => Sys2Proof.Machine.execAuthResponseReady q s
  | .keyConfirm q => Sys2Proof.Machine.execKeyConfirm q s
  | .registered q => Sys2Proof.Machine.execRegistered q s
  | .homeAssign q => Sys2Proof.Machine.execHomeAssign q s
  | .homeAssignApply q => Sys2Proof.Machine.execHomeAssignApply q s
  | .tribAssign q => Sys2Proof.Machine.execTribAssign q s
  | .tribAssignApply q t => Sys2Proof.Machine.execTribAssignApply q t s
  | .deactivate q => Sys2Proof.Machine.execDeactivate q s
  | .hold q => Sys2Proof.Machine.execHold q s
  | .release q => Sys2Proof.Machine.execRelease q s
  | .resume q => Sys2Proof.Machine.execResume q s
  | .actHoldClr r q => Sys2Proof.Machine.execActHoldClr r q s
  | .lcmFragmentTimeout q => Sys2Proof.Machine.execLcmFragmentTimeout q s
  | .to3Expire q => Sys2Proof.Machine.execTo3Expire q s
  | .to6Expire q => Sys2Proof.Machine.execTo6Expire q s
  | .homeFallback q => Sys2Proof.Machine.execHomeFallback q s
  | .grantMapDecode l => Sys2Proof.Machine.execGrantMapDecode l s
  | .windowFill l start mismatch => Sys2Proof.Machine.execWindowFill l start mismatch s
  | .fragAbandon aid => Sys2Proof.Machine.execFragAbandon aid s
  | .upTribAssign q => Sys2Proof.Machine.execUpTribAssign q s
  | .standingBurst t excess deficit => Sys2Proof.Machine.execStandingBurst t excess deficit s
  | .lcySegment q chan mismatch => Sys2Proof.Machine.execLcySegment q chan mismatch s
  | .bndGapSkip q g => Sys2Proof.Machine.execBndGapSkip q g s
  | .mergeWindowSkip g => Sys2Proof.Machine.execMergeWindowSkip g s
  | .pathAck q => Sys2Proof.Machine.execPathAck q s
  | .pathSwitchMsg q => Sys2Proof.Machine.execPathSwitchMsg q s
  | .pthForce r q => Sys2Proof.Machine.execPthForce r q s
  | .pthLockout r on => Sys2Proof.Machine.execPthLockout r on s
  | .pthClear r => Sys2Proof.Machine.execPthClear r s
  | .retentionExpire aid => Sys2Proof.Machine.execRetentionExpire aid s
  | .engineRetest r e => Sys2Proof.Machine.execEngineRetest r e s
  | .retestDone e pass => Sys2Proof.Machine.execRetestDone e pass s
  | .rekey q => Sys2Proof.Machine.execRekey q s
  | .rekeyEpochStart q up k => Sys2Proof.Machine.execRekeyEpochStart q up k s
  | .rekeyReqRepeat q up k => Sys2Proof.Machine.execRekeyReqRepeat q up k s
  | .kstWrite r => Sys2Proof.Machine.execKstWrite r s
  | .kstErase r => Sys2Proof.Machine.execKstErase r s
  | .keySlotDrained slot => Sys2Proof.Machine.execKeySlotDrained slot s
  | .clientFrameRx n l bs pcs corr uncorr => Sys2Proof.Machine.execClientFrameRx n l bs pcs corr uncorr s
  | .clientFrameTx n l => Sys2Proof.Machine.execClientFrameTx n l s
  | .signalDetect n l => Sys2Proof.Machine.execSignalDetect n l s
  | .laneAdaptDone n l snr => Sys2Proof.Machine.execLaneAdaptDone n l snr s
  | .alignLock n l => Sys2Proof.Machine.execAlignLock n l s
  | .alignLoss n l => Sys2Proof.Machine.execAlignLoss n l s
  | .signalLoss n l => Sys2Proof.Machine.execSignalLoss n l s
  | .faultOrderedSetRx n l d => Sys2Proof.Machine.execFaultOrderedSetRx n l d s
  | .faultClearTimeout n l => Sys2Proof.Machine.execFaultClearTimeout n l s
  | .pauseExpire n l p => Sys2Proof.Machine.execPauseExpire n l p s
  | .pauseWatchdog n l p => Sys2Proof.Machine.execPauseWatchdog n l p s
  | .pauseRefresh n l => Sys2Proof.Machine.execPauseRefresh n l s
  | .transparentFrameRx n l bs err => Sys2Proof.Machine.execTransparentFrameRx n l bs err s
  | .orderedSetRepeat n l => Sys2Proof.Machine.execOrderedSetRepeat n l s
  | .demapRecord n l => Sys2Proof.Machine.execDemapRecord n l s
  | .orderedSetTimeout n l => Sys2Proof.Machine.execOrderedSetTimeout n l s
  | .prsPass n k => Sys2Proof.Machine.execPrsPass n k s
  | .allocRetry n => Sys2Proof.Machine.execAllocRetry n s
  | .taRead r n staged => Sys2Proof.Machine.execTaRead r n staged s
  | .taWrite r n staged => Sys2Proof.Machine.execTaWrite r n staged s
  | .taInsert r n staged => Sys2Proof.Machine.execTaInsert r n staged s
  | .taDelete r n staged => Sys2Proof.Machine.execTaDelete r n staged s
  | .taLookup r n staged => Sys2Proof.Machine.execTaLookup r n staged s
  | .taActRead r n staged => Sys2Proof.Machine.execTaActRead r n staged s
  | .taActWrite r n staged => Sys2Proof.Machine.execTaActWrite r n staged s
  | .dequeue n m post => Sys2Proof.Machine.execDequeue n m post s
  | .meterRefill n policer k => Sys2Proof.Machine.execMeterRefill n policer k s
  | .wheelRelease n node k => Sys2Proof.Machine.execWheelRelease n node k s
  | .polAccDone r n => Sys2Proof.Machine.execPolAccDone r n s
  | .demotionScan n => Sys2Proof.Machine.execDemotionScan n s
  | .promotionDone n q => Sys2Proof.Machine.execPromotionDone n q s
  | .hopFree r n => Sys2Proof.Machine.execHopFree r n s
  | .hopAddref r n => Sys2Proof.Machine.execHopAddref r n s
  | .hopRead r n chunk => Sys2Proof.Machine.execHopRead r n chunk s
  | .ownerRestore r n o => Sys2Proof.Machine.execOwnerRestore r n o s
  | .patrolScrub n t c ce bad pct pass => Sys2Proof.Machine.execPatrolScrub n t c ce bad pct pass s
  | .memoryTrainingDone n dimms => Sys2Proof.Machine.execMemoryTrainingDone n dimms s
  | .tsuRateWrite r d rho => Sys2Proof.Machine.execTsuRateWrite r d rho s
  | .tsuStepWrite r d ns => Sys2Proof.Machine.execTsuStepWrite r d ns s
  | .tsuSet r d v => Sys2Proof.Machine.execTsuSet r d v s
  | .domainHoldover d => Sys2Proof.Machine.execDomainHoldover d s
  | .ppsInEdge k => Sys2Proof.Machine.execPpsInEdge k s
  | .tsuConvert r raw d => Sys2Proof.Machine.execTsuConvert r raw d s
  | .tsuLatch r => Sys2Proof.Machine.execTsuLatch r s
  | .residClr r => Sys2Proof.Machine.execResidClr r s
  | .ppsOutEdge k => Sys2Proof.Machine.execPpsOutEdge k s
  | .tsqPop r n => Sys2Proof.Machine.execTsqPop r n s
  | .policyWrite r slot img => Sys2Proof.Machine.execPolicyWrite r slot img s
  | .policyWriteDone ok => Sys2Proof.Machine.execPolicyWriteDone ok s
  | .wardenWrite r slot img => Sys2Proof.Machine.execWardenWrite r slot img s
  | .keyAdd r k key => Sys2Proof.Machine.execKeyAdd r k key s
  | .keyRevoke r k => Sys2Proof.Machine.execKeyRevoke r k s
  | .setPref r slot => Sys2Proof.Machine.execSetPref r slot s
  | .clusterRestart r => Sys2Proof.Machine.execClusterRestart r s
  | .clusterHalt r => Sys2Proof.Machine.execClusterHalt r s
  | .trialConfirm r => Sys2Proof.Machine.execTrialConfirm r s
  | .wdtKick r v => Sys2Proof.Machine.execWdtKick r v s
  | .clusterWdtExpire c => Sys2Proof.Machine.execClusterWdtExpire c s
  | .mbxPost r k => Sys2Proof.Machine.execMbxPost r k s
  | .mbxClaim k => Sys2Proof.Machine.execMbxClaim k s
  | .mbxComplete k => Sys2Proof.Machine.execMbxComplete k s
  | .mbxAck r k => Sys2Proof.Machine.execMbxAck r k s
  | .mbxTimeout k => Sys2Proof.Machine.execMbxTimeout k s
  | .injectDescriptor k desc frame => Sys2Proof.Machine.execInjectDescriptor k desc frame s
  | .p0Challenge r => Sys2Proof.Machine.execP0Challenge r s
  | .p0Respond r => Sys2Proof.Machine.execP0Respond r s
  | .p0Drop r => Sys2Proof.Machine.execP0Drop r s
  | .flr fn => Sys2Proof.Machine.execFlr fn s
  | .flrComplete fn => Sys2Proof.Machine.execFlrComplete fn s
  | .ringDisable r id => Sys2Proof.Machine.execRingDisable r id s
  | .txDescriptor t d => Sys2Proof.Machine.execTxDescriptor t d s
  | .writebackTimeout t k => Sys2Proof.Machine.execWritebackTimeout t k s
  | .rxRelease r t k => Sys2Proof.Machine.execRxRelease r t k s
  | .interruptCoalesceTimeout id => Sys2Proof.Machine.execInterruptCoalesceTimeout id s
  | .pwrRequest r n target => Sys2Proof.Machine.execPwrRequest r n target s
  | .entryStepDone n => Sys2Proof.Machine.execEntryStepDone n s
  | .entryDrainTimeout n => Sys2Proof.Machine.execEntryDrainTimeout n s
  | .exitStepDone n => Sys2Proof.Machine.execExitStepDone n s
  | .padRelease r n => Sys2Proof.Machine.execPadRelease r n s
  | .tempWarning x t => Sys2Proof.Machine.execTempWarning x t s
  | .tempThrottle x t => Sys2Proof.Machine.execTempThrottle x t s
  | .tempClear x t => Sys2Proof.Machine.execTempClear x t s
  | .thermalTrip x t => Sys2Proof.Machine.execThermalTrip x t s
  | .inputCollapse good => Sys2Proof.Machine.execInputCollapse good s
  | .ashGaspGiveup q => Sys2Proof.Machine.execAshGaspGiveup q s
  | .powerGoodRestored bad => Sys2Proof.Machine.execPowerGoodRestored bad s
  | .evrFlushTick fail => Sys2Proof.Machine.execEvrFlushTick fail s
  | .evrFlush r => Sys2Proof.Machine.execEvrFlush r s
  | .evrCursorWrite r c => Sys2Proof.Machine.execEvrCursorWrite r c s
  | .windowCopyDone r => Sys2Proof.Machine.execWindowCopyDone r s
  | .evrClrChallenge r => Sys2Proof.Machine.execEvrClrChallenge r s
  | .evrClrRespond r => Sys2Proof.Machine.execEvrClrRespond r s
  | .evrRlCfgWrite r w => Sys2Proof.Machine.execEvrRlCfgWrite r w s
  | .counterWrite r c v => Sys2Proof.Machine.execCounterWrite r c v s
  | .pmonFreeze r on => Sys2Proof.Machine.execPmonFreeze r on s
  | .groupMemberWrite r a v => Sys2Proof.Machine.execGroupMemberWrite r a v s
  | .seal r a => Sys2Proof.Machine.execSeal r a s
  | .sealAbandon r a => Sys2Proof.Machine.execSealAbandon r a s
  | .sealCheckDone a => Sys2Proof.Machine.execSealCheckDone a s
  | .groupHoldTimeout a => Sys2Proof.Machine.execGroupHoldTimeout a s
  | .epcOpen r => Sys2Proof.Machine.execEpcOpen r s
  | .epcLoad r => Sys2Proof.Machine.execEpcLoad r s
  | .imageLoadDone b => Sys2Proof.Machine.execImageLoadDone b s
  | .stagedWrite r a v => Sys2Proof.Machine.execStagedWrite r a v s
  | .epcArm r => Sys2Proof.Machine.execEpcArm r s
  | .epcCancel r => Sys2Proof.Machine.execEpcCancel r s
  | .epcAbandon r => Sys2Proof.Machine.execEpcAbandon r s
  | .epcAck r => Sys2Proof.Machine.execEpcAck r s
  | .epcNow r => Sys2Proof.Machine.execEpcNow r s
  | .lineBankSwitch q => Sys2Proof.Machine.execLineBankSwitch q s
  | .scopeReady x => Sys2Proof.Machine.execScopeReady x s
  | .faultReport region kind block cell => Sys2Proof.Machine.execFaultReport region kind block cell s
  | .regionStepDone r => Sys2Proof.Machine.execRegionStepDone r s
  | .hangDetect region block cell => Sys2Proof.Machine.execHangDetect region block cell s
  | .fltRegionReset r n => Sys2Proof.Machine.execFltRegionReset r n s
  | .scopeLaneRetryTimeout l => Sys2Proof.Machine.execScopeLaneRetryTimeout l s
  | .consoleJetRead j => Sys2Proof.Machine.execConsoleJetRead j s
  | .consoleLogRead seq => Sys2Proof.Machine.execConsoleLogRead seq s
  | .consoleLaserOff mask => Sys2Proof.Machine.execConsoleLaserOff mask s
  | .consoleRegionReset r => Sys2Proof.Machine.execConsoleRegionReset r s
  | .consoleModuleReset bad => Sys2Proof.Machine.execConsoleModuleReset bad s
  | .calUnlock r => Sys2Proof.Machine.execCalUnlock r s
  | .calWrite r file => Sys2Proof.Machine.execCalWrite r file s
  | .calSaveRx r => Sys2Proof.Machine.execCalSaveRx r s
  | .calRead r => Sys2Proof.Machine.execCalRead r s
  | .i2cCommand r b v => Sys2Proof.Machine.execI2cCommand r b v s
  | .i2cDone b code at_ bs => Sys2Proof.Machine.execI2cDone b code at_ bs s
  | .gpioEdge k level => Sys2Proof.Machine.execGpioEdge k level s
  | .extest resetLow => Sys2Proof.Machine.execExtest resetLow s
  | .samplePreload vals => Sys2Proof.Machine.execSamplePreload vals s
  | .clamp resetLow => Sys2Proof.Machine.execClamp resetLow s
  | .highz resetLow => Sys2Proof.Machine.execHighz resetLow s
  | .extestPulse resetLow => Sys2Proof.Machine.execExtestPulse resetLow s
  | .extestTrain resetLow => Sys2Proof.Machine.execExtestTrain resetLow s
  | .registerWrite r a v => Sys2Proof.Machine.execRegisterWrite r a v s
  | .registerRead r a => Sys2Proof.Machine.execRegisterRead r a s
  | .pauseIgnoreEnd n l p => Sys2Proof.Machine.execPauseIgnoreEnd n l p s
  | .wardenWriteDone ok => Sys2Proof.Machine.execWardenWriteDone ok s
  | .calWriteDone ok => Sys2Proof.Machine.execCalWriteDone ok s
  | .pcieLinkTrained speed width => Sys2Proof.Machine.execPcieLinkTrained speed width s
  | .thermalHoldRelease bad => Sys2Proof.Machine.execThermalHoldRelease bad s
  | .powerOn => Sys2Proof.Machine.execPowerOn s
  | .startStep => Sys2Proof.Machine.execStartStep s
  | .stepSettled => Sys2Proof.Machine.execStepSettled s
  | .stepSettleTimeout => Sys2Proof.Machine.execStepSettleTimeout s
  | .tokenGrant => Sys2Proof.Machine.execTokenGrant s
  | .tokenTimeout => Sys2Proof.Machine.execTokenTimeout s
  | .moduleFrameBoundary => Sys2Proof.Machine.execModuleFrameBoundary s
  | .secOffsetChange => Sys2Proof.Machine.execSecOffsetChange s
  | .snapshotComplete => Sys2Proof.Machine.execSnapshotComplete s
  | .freezeEnd => Sys2Proof.Machine.execFreezeEnd s
  | .leadPathChange => Sys2Proof.Machine.execLeadPathChange s
  | .leadRevert => Sys2Proof.Machine.execLeadRevert s
  | .laserEnLow => Sys2Proof.Machine.execLaserEnLow s
  | .laserEnHigh => Sys2Proof.Machine.execLaserEnHigh s
  | .spiStatus => Sys2Proof.Machine.execSpiStatus s
  | .spiRead => Sys2Proof.Machine.execSpiRead s
  | .skewReport => Sys2Proof.Machine.execSkewReport s
  | .keyDerivationDone => Sys2Proof.Machine.execKeyDerivationDone s
  | .pathSwitchApply => Sys2Proof.Machine.execPathSwitchApply s
  | .holdoffExpire => Sys2Proof.Machine.execHoldoffExpire s
  | .wtrExpire => Sys2Proof.Machine.execWtrExpire s
  | .domainRebase => Sys2Proof.Machine.execDomainRebase s
  | .todMessage => Sys2Proof.Machine.execTodMessage s
  | .trialTimeout => Sys2Proof.Machine.execTrialTimeout s
  | .wardenWdtExpire => Sys2Proof.Machine.execWardenWdtExpire s
  | .perstNAssert => Sys2Proof.Machine.execPerstNAssert s
  | .p0VerifyDone => Sys2Proof.Machine.execP0VerifyDone s
  | .p0LockoutExpire => Sys2Proof.Machine.execP0LockoutExpire s
  | .logClose => Sys2Proof.Machine.execLogClose s
  | .bankDischarge => Sys2Proof.Machine.execBankDischarge s
  | .clrVerifyDone => Sys2Proof.Machine.execClrVerifyDone s
  | .rateLimitRefill => Sys2Proof.Machine.execRateLimitRefill s
  | .opTimeTick => Sys2Proof.Machine.execOpTimeTick s
  | .opTimeSave => Sys2Proof.Machine.execOpTimeSave s
  | .seedCopyDone => Sys2Proof.Machine.execSeedCopyDone s
  | .armCheckDone => Sys2Proof.Machine.execArmCheckDone s
  | .nowCheckDone => Sys2Proof.Machine.execNowCheckDone s
  | .nowDrainBound => Sys2Proof.Machine.execNowDrainBound s
  | .nowRestartBound => Sys2Proof.Machine.execNowRestartBound s
  | .commitAcknowledged => Sys2Proof.Machine.execCommitAcknowledged s
  | .drainDone => Sys2Proof.Machine.execDrainDone s
  | .heartbeatMiss => Sys2Proof.Machine.execHeartbeatMiss s
  | .aonIntegrityLoss => Sys2Proof.Machine.execAonIntegrityLoss s
  | .consoleIdent => Sys2Proof.Machine.execConsoleIdent s
  | .consoleStatus => Sys2Proof.Machine.execConsoleStatus s
  | .consoleSafeEnter => Sys2Proof.Machine.execConsoleSafeEnter s
  | .calUnlockExpire => Sys2Proof.Machine.execCalUnlockExpire s
  | .idcode => Sys2Proof.Machine.execIdcode s
  | .bypass => Sys2Proof.Machine.execBypass s
  | .clrLockoutExpire => Sys2Proof.Machine.execClrLockoutExpire s
  | .clusterCoresReleased => Sys2Proof.Machine.execClusterCoresReleased s
  | .wardenRestartDone => Sys2Proof.Machine.execWardenRestartDone s
  | .servedSlewEnd => Sys2Proof.Machine.execServedSlewEnd s

end Sys2Proof.Machine
end

