-- ==== Sys2Proof/Machine/Tick.lean ====
section
/-!
DEFINITION. One core clock tick, 1/1.5 GHz, which passes when no command waits: the LFC and the line times count (R32, R37, R346),
residency counters and cycle counters count (R420, R445), launched bursts end, the UART drains, dual-launch copies grow old (R220), a
hold-off of length 0 ends (R225), and assignments whose apply_fn has
come are applied. Every other event in time is a command.
-/
namespace Sys2Proof.Machine
open Sys2Proof

/-- A tick of a line time of last codeword `last`: `d` of 96 parts of a codeword, fewer than 96. At the frame's end it waits for the
command of the next boundary. -/
def LineTime.tick (t : LineTime) (d last : Nat) : LineTime :=
  if t.sub + d < 96 then { t with sub := t.sub + d }
  else if t.cw < last then { t with cw := t.cw + 1, sub := t.sub + d - 96 }
  else t

/-- Path times run while the path holds lock (R35). -/
def tickPath (s : State) (q : Path) : State :=
  if pathLocked s q then setPathTime s q ((pathTime s q).tick 5 4999) else s

/-- What a core tick adds to module line time, in 1/96 codewords, and what is left of the division: 5 parts, or in holdover the share
that a frame of the average length gives (R38). -/
def tickParts (s : State) : Nat × Nat :=
  if get s F.LTU_STATUS_lead = 3 then
    let (a, n) := s.ltu.holdLen
    let x := s.ltu.holdAcc + 480000 * n
    (min 95 (x / a), x % a)
  else (5, 0)

/-- Module line time runs once it is valid, unless it is frozen (R39, R41); a shortened frame ends after codeword 4,998 (R37). [DEDUCED: log 28] -/
def tickModule (s : State) : State :=
  if get s F.LTU_STATUS_lead = 0 ∨ getB s F.LTU_STATUS_frozen then s
  else
    let last := if getI s F.LTU_SLEW_remain < 0 then 4998 else 4999
    let (d, acc) := tickParts s
    let t := LineTime.tick ⟨modFn s, modCw s, s.ltu.sub⟩ d last
    { put s F.LTU_CW_cw t.cw with ltu := { s.ltu with sub := t.sub, holdAcc := acc } }

/-- A microsecond of residency (R420): each packet region in its state, each engine ON or OFF. -/
def residency (s : State) : State :=
  let s := (List.range 4).foldl (fun s n => inc s (F.PWR_D_RES_us n (get s (F.PWR_D_STATE_state n)))) s
  (List.range 8).foldl (fun s e => inc s (F.PWR_E_RES_us e (if getB s (F.OPE_STATUS_powered e) then 0 else 1))) s

/-- Whether packet region `n` holds work: packets in its pipelines, a promotion, an allocation that waits. -/
def hasWork (s : State) (n : Nat) : Bool :=
  let p := pkt s n
  p.prs.inq.any (fun e => !e.2.isEmpty) || !p.prs.rec0.isEmpty || !p.prs.rec1.isEmpty || !p.bpm.want.isEmpty || !p.bpm.retry.isEmpty

/-- Work that regions hold keeps their clock gates open (R413). -/
def holdGates (s : State) : State := (List.range 4).foldl (fun s n => if hasWork s n then worked s n else s) s

/-- Whether packet region `n`'s clocks run: in IDLE up to 1 µs after its last work (R413, R448). [DESIGN CHOICE: log 136] -/
def gateOpen (s : State) (n : Nat) : Bool :=
  decide (get s (F.PWR_D_STATE_state n) ≠ 1) || (pkt s n).workAt.any (fun t => decide (s.clk.ticks ≤ t + 1500))

/-- Clock cycles of the tick in counters that select event 0x00 (R445): one of the core clock; of the warden's 400 MHz clock, for
counters 184 to 191, 4 in 15 ticks. -/
def countCycles (s : State) : State :=
  let n := s.clk.ticks
  s.bank.ctrs.foldl (fun s e =>
    if bits e.2.src 8 8 = 0 ∧ bits e.2.src 16 3 = 0 ∧ ctrRuns s e.1 ∧ (128 ≤ e.1 ∨ gateOpen s (e.1 / 32)) then
      ctrAdd s e.1 (if 184 ≤ e.1 then 4 * n / 15 - 4 * (n - 1) / 15 else 1)
    else s) s

/-- The LFC advances by 0xAAAA_AAAB units of 2⁻³² ns a tick (R346). -/
def Clock.tick (c : Clock) : Clock :=
  { lfc := c.lfc + 0xAAAAAAAB, ticks := c.ticks + 1, usPhase := if 1499 ≤ c.usPhase then 0 else c.usPhase + 1 }

/-- One core tick. [DESIGN CHOICE: log 1] -/
def tick (s : State) : State :=
  let s := { s with clk := s.clk.tick }
  let s := if s.clk.usPhase = 0 then residency s else s
  let s := tickModule (tickPath (tickPath s .a) .b)
  let s := expireCopies (uartDone (endBursts (countCycles (holdGates s))))
  let s := if holdOver s && s.pth.want.isNone then lineSettle s else s
  applyUpTribs (applyUpTribs (applyEqds (applyEqds s .a) .b) .a) .b

end Sys2Proof.Machine
end

