-- ==== Sys2Proof/Machine/Step.lean ====
section
/-!
DEFINITION. One step of the block: the command at the front of the queue runs; with no command waiting a core tick passes.
-/
namespace Sys2Proof.Machine
open Sys2Proof

/-- Take the command at the front of the queue and run it on the rest; on an empty queue, one core tick. [DESIGN CHOICE: log 1, 2] -/
def step (s : State) : Host.Outcome State Fault Refusal :=
  match s.pending with
  | [] => finish s (tick s)
  | c :: rest => exec c { s with pending := rest }

/-- `s` with the command that the table word `w` spells at the front of its queue; `s` itself where it spells none. [DESIGN CHOICE: log 2] -/
def State.withFetchWord (s : State) (nbits w : Nat) : State :=
  match decodeTableWord nbits w with
  | some c => { s with pending := c :: s.pending }
  | none => s

end Sys2Proof.Machine
end

