-- ==== Sys2Proof/Safety.lean ====
section
/-!
DEFINITION. What claims are stated in: the end of a command, what shows at the block's outputs, the canonical form of a sparse
table, and the conditions under which a register access reaches its register.
-/
namespace Sys2Proof.Machine
open Sys2Proof

/-- The state a command leaves in place of `s` when its effect is `t`: the outputs that follow from `t`, and the queue that the command
found. -/
def settled (s t : State) : State := settle { t with pending := s.pending }

/-- The status words that `settle` brings up to date; it writes no other register. -/
def settleWords : List Nat := [
  F.FLT_STATUS_state.addr, F.TSU_RESID_r.addr, F.TSU_STATUS_slewing.addr, (F.TSU_D_STATE_meas_ok 0).addr, (F.TSU_D_STATE_meas_ok 1).addr,
  (F.TSU_D_STATE_meas_ok 2).addr, F.LTU_STATUS_slewing.addr, F.SAF_STATUS_safe.addr, F.PWR_STATUS_safe.addr,
  F.ASH_STATUS_rx_a.addr, F.EPC_HELD_COUNT_count.addr]

/-- What the outputs show: LASER_EN in SAF_STATUS (R107), the safe state in SAF_STATUS and PWR_STATUS (R458), slewing in LTU_STATUS while
codewords remain (R37), the measured state of each region in FLT_STATUS (R455 to R458), and the ALERT_N pin. -/
def OutputsSettled (s : State) : Prop :=
  getB s F.SAF_STATUS_laser_en = s.pins.laserEn ∧
  getB s F.SAF_STATUS_safe = getB s F.GLB_SAFE_safe ∧
  getB s F.PWR_STATUS_safe = getB s F.GLB_SAFE_safe ∧
  getB s F.LTU_STATUS_slewing = decide (get s F.LTU_SLEW_remain ≠ 0) ∧
  get s F.FLT_STATUS_state = (List.range 6).foldl (fun v r => v + 2 ^ (3 * r) * fltState s r) 0 ∧
  s.pins.alertN = !(getB s F.GLB_SAFE_safe || !s.pwr.warnSet.isEmpty)

/-- A register file in its canonical form: offsets strictly rising, no word listed at its reset value. -/
def Canonical (t : Tab Word) : Prop := Tab.sorted t = true ∧ ∀ e ∈ t, e.2 ≠ resetWord e.1

/-- An access of `r` to the word at `a` that every check lets through: `r` is connected, a window permits it, the region answers. -/
def Reaches (s : State) (r : Requester) (a : Nat) (write : Bool) : Prop :=
  cutOff s r = false ∧ permitted s r a write = true ∧ sleeping s a = false

/-- A write of `r` to the word at `a` that reaches its register with P0 rights. -/
def ReachesP0 (s : State) (r : Requester) (a : Nat) : Prop := Reaches s r a true ∧ isP0 s r = true

end Sys2Proof.Machine
end

