-- ==== Sys2Proof/Certificates/Slice0/Obligations.lean ====
section
/-!
DEFINITION. The statements for the provers. Every statement names the rules of the manual it rests on; a statement about one command
gives the state it leaves as an explicit change of the state it meets, so that it is the command's frame as well.
-/
open Sys2Proof Sys2Proof.Machine

/-- With a command at the front of the queue, step of the state is exec of that command on the state with the queue's rest.
(95_what_each_step_holds.md) -/
def Obligations.StepRunsFrontCommand : Prop :=
  ∀ (c : Instr) (rest : List Instr) (s : State), s.pending = c :: rest →
    Machine.step s = Machine.exec c { s with pending := rest }

/-- With no command waiting, step answers a next state with an empty queue, the LFC advanced by 0xAAAA_AAAB units (R345) and one more core tick
counted. That a tick is what an empty queue does is the model's choice, log entry 1. (15_network_time.md, R345) -/
def Obligations.IdleStepIsCoreTick : Prop :=
  ∀ s : State, s.pending = [] → ∃ t, Machine.step s = .next t ∧ t.pending = [] ∧
    t.clk.lfc = s.clk.lfc + 0xAAAAAAAB ∧ t.clk.ticks = s.clk.ticks + 1

/-- For every command of the table and every state, exec answers a next state, and the queue that waits behind the command is as it was.
(95_what_each_step_holds.md) -/
def Obligations.EveryCommandCompletes : Prop :=
  ∀ (c : Instr) (s : State), ∃ t, Machine.exec c s = .next t ∧ t.pending = s.pending

/-- From every state, a step that answers a next state leaves the outputs in agreement with it: SAF_STATUS shows LASER_EN and the safe state,
PWR_STATUS the safe state, LTU_STATUS slewing, FLT_STATUS the measured state of each region, and ALERT_N is low exactly in the safe state or
while a temperature warns. (R37, R107, R423, R455, R458) -/
def Obligations.StepSettlesOutputs : Prop :=
  ∀ s t : State, Machine.step s = .next t → OutputsSettled t

/-- After reset the LFC is 0, no path leads, the active bank is Indigo and the EPC is IDLE with no section loaded, GLB_PART and GLB_STEP read
the module's codes, only access window 0 stands, both ceilings are 21.5 dBm, P0 is not held, and no command waits; the outputs agree with
this state, and settling it again changes nothing. (R9, R37, R41, R58, R59, R105, R107, R345, R393, R458) -/
def Obligations.ResetState : Prop :=
  State.reset.clk.lfc = 0 ∧ get State.reset F.LTU_STATUS_lead = 0 ∧ get State.reset F.EPC_STATUS_active_bank = 0 ∧
  get State.reset F.EPC_STATUS_state = 0 ∧ get State.reset F.EPC_LOADED_sections = 0 ∧ get State.reset F.GLB_PART_part = 0x6425 ∧
  get State.reset F.GLB_STEP_step = 0xB0 ∧ State.reset.bank.windows = [(0, resetWindow)] ∧ State.reset.pending = [] ∧
  State.reset.saf.ceilA = 215 ∧ State.reset.saf.ceilB = 215 ∧ State.reset.hif.p0 = false ∧
  OutputsSettled State.reset ∧ settle State.reset = State.reset

/-- In every state, a field of at most 32 bits that is put reads back its value at its width, and every field of another word, or of other bits
of the word, reads as before. (R7) -/
def Obligations.FieldPutGet : Prop :=
  ∀ (s : State) (f g : Fld) (v : Nat), f.lo + f.w ≤ 32 → g.lo + g.w ≤ 32 →
    get (put s f v) f = v % 2 ^ f.w ∧
    (g.addr ≠ f.addr ∨ g.lo + g.w ≤ f.lo ∨ f.lo + f.w ≤ g.lo → get (put s f v) g = get s g)

/-- If the register file lists its words at strictly rising offsets and none at its reset value, it does so after every put of a field, also of
one that spans both halves of a 64-bit register. (R7, R9) -/
def Obligations.PutKeepsCanonical : Prop :=
  ∀ (s : State) (f : Fld) (v : Nat), Canonical s.regs → Canonical (put s f v).regs

/-- If the register file lists its words at strictly rising offsets and none at its reset value, every step that answers a next state leaves it
so; the register file after reset is in that form. (R7, R9) -/
def Obligations.StepKeepsCanonical : Prop :=
  Canonical State.reset.regs ∧
  ∀ s t : State, Canonical s.regs → Machine.step s = .next t → Canonical t.regs

/-- From every state: a step gives the PF P0 only where its command is P0_VERIFY_DONE; a step leaves both ceilings no higher unless its command
can bring a module reset (POWER_ON, RESET_N_LOW, CONSOLE_MODULE_RESET, POWER_GOOD_RESTORED, THERMAL_HOLD_RELEASE); an idle step changes
neither of them and no window; and a register access, staged write, group write or seal by a requester below P0 changes no access window, a
write of EPC_CTRL apart, whose commit switches the banks. (R105, R387, R388, R390) -/
def Obligations.StepKeepsPrivileges : Prop :=
  (∀ (s t : State) (c : Instr) (rest : List Instr), s.pending = c :: rest → Machine.step s = .next t →
    (c ≠ .p0VerifyDone → t.hif.p0 = true → s.hif.p0 = true) ∧
    (c ≠ .powerOn → (∀ bad, c ≠ .resetNLow bad ∧ c ≠ .consoleModuleReset bad ∧ c ≠ .powerGoodRestored bad ∧ c ≠ .thermalHoldRelease bad) →
      t.saf.ceilA ≤ s.saf.ceilA ∧ t.saf.ceilB ≤ s.saf.ceilB)) ∧
  (∀ (s t : State), s.pending = [] → Machine.step s = .next t →
    t.hif.p0 = s.hif.p0 ∧ t.saf.ceilA = s.saf.ceilA ∧ t.saf.ceilB = s.saf.ceilB ∧ t.bank.windows = s.bank.windows) ∧
  (∀ (s t : State) (r : Requester) (a : BitVec 28) (v : Word) (c : Instr), isP0 s r = false → a.toNat ≠ R.EPC_CTRL →
    c ∈ [Instr.registerRead r a, .registerWrite r a v, .readLo64 r a, .writeLo64 r a v, .writeHi64 r a v, .stagedWrite r a v,
      .groupMemberWrite r a v, .seal r a, .sealAbandon r a] →
    Machine.exec c s = .next t → t.bank.windows = s.bank.windows)

/-- Settling a state changes no register word outside the listed status words, and nothing else of the state but the REF10M figure and ALERT_N.
(R37, R107, R423, R458) -/
def Obligations.SettleFrame : Prop :=
  ∀ s : State,
    (∀ a, a ∉ settleWords → rdWord (settle s) a = rdWord s a) ∧
    settle s = { s with regs := (settle s).regs, tsu := { s.tsu with ref10m := (settle s).tsu.ref10m },
                        pins := { s.pins with alertN := (settle s).pins.alertN } }

/-- A read by a requester that is cut off changes nothing. A read or write that no window permits is counted as denied and a read returns 0. In
a region that answers no access a read returns all ones and a write is discarded. Every denied access counts; once one is recorded, a later
one leaves the recorded address and requester. (The answers of an isolated region and of an undefined offset in a sleeping one are the
model's reading, log entries 16 and 185.) (R30, R389, R457, R458) -/
def Obligations.AccessNotServed : Prop :=
  (∀ (s : State) (r : Requester) (a : BitVec 28) (v : Word),
    (cutOff s r = true →
      Machine.exec (.registerRead r a) s = .next (settled s s) ∧ Machine.exec (.readLo64 r a) s = .next (settled s s)) ∧
    (cutOff s r = false → permitted s r a.toNat false = false →
      Machine.exec (.registerRead r a) s = .next (settled s (emit (deny s r a.toNat false) (.readData 0))) ∧
      Machine.exec (.readLo64 r a) s = .next (settled s (emit (deny s r a.toNat false) (.readData 0)))) ∧
    (cutOff s r = false → permitted s r a.toNat false = true → sleeping s a.toNat = true →
      Machine.exec (.registerRead r a) s = .next (settled s (emit s (.readData 0xFFFFFFFF)))) ∧
    (ringAt a.toNat = none → cutOff s r = false → permitted s r a.toNat true = false →
      Machine.exec (.registerWrite r a v) s = .next (settled s (deny s r a.toNat true)) ∧
      Machine.exec (.writeLo64 r a v) s = .next (settled s (deny s r a.toNat true)) ∧
      Machine.exec (.writeHi64 r a v) s = .next (settled s (deny s r a.toNat true)) ∧
      Machine.exec (.stagedWrite r a v) s = .next (settled s (deny s r a.toNat true))) ∧
    (ringAt a.toNat = none → cutOff s r = false → permitted s r a.toNat true = true → sleeping s a.toNat = true →
      Machine.exec (.registerWrite r a v) s = .next (settled s s) ∧ Machine.exec (.stagedWrite r a v) s = .next (settled s s))) ∧
  (∀ (s : State) (r : Requester) (a : Nat) (w : Bool), a < 2 ^ 28 →
    get (deny s r a w) F.ACW_DENY_count = (get s F.ACW_DENY_count + 1) % 2 ^ F.ACW_DENY_count.w ∧
    (getB s F.ACW_EVENT_deny = true →
      rdWord (deny s r a w) R.ACW_DENY_ADDR = rdWord s R.ACW_DENY_ADDR ∧ rdWord (deny s r a w) R.ACW_DENY_REQ = rdWord s R.ACW_DENY_REQ))

/-- An access that is let through to an offset outside every span, or to one that no register map defines, completes in every form: a read
returns 0, a write is discarded, and HIF_UNMAPPED counts it; nothing else changes. (R29) -/
def Obligations.UnmappedAccess : Prop :=
  ∀ (s : State) (r : Requester) (a : BitVec 28) (v : Word), regRowAt a.toNat = none → isMbxBody a.toNat = false →
    let counted := inc s F.HIF_UNMAPPED_count
    (Reaches s r a.toNat false →
      Machine.exec (.registerRead r a) s = .next (settled s (emit counted (.readData 0))) ∧
      Machine.exec (.readLo64 r a) s = .next (settled s (emit counted (.readData 0)))) ∧
    (ringAt a.toNat = none → Reaches s r a.toNat true →
      Machine.exec (.registerWrite r a v) s = .next (settled s counted) ∧
      Machine.exec (.writeLo64 r a v) s = .next (settled s counted) ∧
      Machine.exec (.writeHi64 r a v) s = .next (settled s counted) ∧
      Machine.exec (.stagedWrite r a v) s = .next (settled s counted))

/-- A read of GLB_PART, GLB_STEP or GLB_CON_CTRL answers the register's word and changes nothing but the monitors' counts of accesses. A write
of GLB_CON_CTRL at P0 writes ctl_en, below P0 nothing; a write of the read-only GLB_PART changes nothing else either. (R7, R460,
00_scope.md) -/
def Obligations.PlainRegisterAccess : Prop :=
  ∀ (s : State) (r : Requester),
    (∀ a : BitVec 28, a = 0x0 ∨ a = 0x4 ∨ a = 0x18 → Reaches s r a.toNat false →
      Machine.exec (.registerRead r a) s = .next (settled s (emit (accessed s a.toNat) (.readData (rdWord (accessed s a.toNat) a.toNat).toNat)))) ∧
    (∀ v : Word, Reaches s r 0x18 true →
      Machine.exec (.registerWrite r 0x18 v) s =
        .next (settled s (if isP0 s r then put (accessed s 0x18) F.GLB_CON_CTRL_ctl_en (v.toNat % 2) else accessed s 0x18))) ∧
    (∀ v : Word, Reaches s r 0 true → Machine.exec (.registerWrite r 0 v) s = .next (settled s (accessed s 0)))

/-- A read of LTU_FN's LO half returns it and shadows HI for the requester. A read of HI returns the shadow while it belongs to the register,
and the live half otherwise. A write of EPC_ARM_FN's LO half only fills the requester's write shadow. A write of HI with the matching shadow
writes both halves and empties it; one without it writes HI and leaves LO (the last is the model's choice, log entry 20). (R47) -/
def Obligations.SixtyFourBitPairs : Prop :=
  ∀ (s : State) (r : Requester) (v : Word),
    (Reaches s r 0x10008 false →
      Machine.exec (.readLo64 r 0x10008) s = .next (settled s (emit
        (modShadow (accessed s 0x10008) r (fun x => { x with rd := some (0x10008, rdWord (accessed s 0x10008) 0x1000C) }))
        (.readData (rdWord (accessed s 0x10008) 0x10008).toNat)))) ∧
    (∀ w : Word, Reaches s r 0x1000C false → (shadowOf s r).rd = some (0x10008, w) →
      Machine.exec (.registerRead r 0x1000C) s = .next (settled s (emit (accessed s 0x1000C) (.readData w.toNat)))) ∧
    (Reaches s r 0x1000C false → (∀ x, (shadowOf s r).rd = some x → x.1 ≠ 0x10008) →
      Machine.exec (.registerRead r 0x1000C) s = .next (settled s (emit (accessed s 0x1000C)
        (.readData (rdWord (accessed s 0x1000C) 0x1000C).toNat)))) ∧
    (Reaches s r 0x2000C true →
      Machine.exec (.writeLo64 r 0x2000C v) s =
        .next (settled s (modShadow (accessed s 0x2000C) r (fun x => { x with wr := some (0x2000C, v) })))) ∧
    (∀ w : Word, Reaches s r 0x20010 true → (shadowOf s r).wr = some (0x2000C, w) →
      ∃ t, Machine.exec (.writeHi64 r 0x20010 v) s = .next t ∧
        get t F.EPC_ARM_FN_fn = w.toNat + 2 ^ 32 * (v.toNat % 2 ^ 16) ∧ (shadowOf t r).wr = none) ∧
    (Reaches s r 0x20010 true → (∀ x, (shadowOf s r).wr = some x → x.1 ≠ 0x2000C) →
      ∃ t, Machine.exec (.writeHi64 r 0x20010 v) s = .next t ∧
        get t F.EPC_ARM_FN_fn = (rdWord (accessed s 0x20010) 0x2000C).toNat + 2 ^ 32 * (v.toNat % 2 ^ 16))

/-- Arming alarm k from its fields answers RANGE for a CW above 4,999 or, from alarm 200 on, timebase 3; NO_TIME on module line time while it is
not valid; PATH_DOWN on a path without a channel in lock; LATE_ARM for a time less than 2 codewords ahead. In these cases the alarm is not
armed, whatever it was before, and nothing else changes. Otherwise the alarm is armed, late is clear and the result is OK. (That RANGE is
answered before NO_TIME and PATH_DOWN where several hold is the model's choice, log entry 231.) (R41, R43, 02_line_time.md) -/
def Obligations.AlarmArmResult : Prop :=
  ∀ (s : State) (k : Nat), k < 256 →
    let bad := 4999 < get s (F.LTU_ALM_CTRL_cw k) ∨ (200 ≤ k ∧ get s (F.LTU_ALM_CTRL_timebase k) = 3)
    (bad → armNow s k = alarmRefused s k 7) ∧
    (¬ bad → alarmBase s k = 0 → get s F.LTU_STATUS_lead = 0 → armNow s k = alarmRefused s k 5) ∧
    (∀ q : Path, ¬ bad → alarmBase s k = 1 + qn q → pathLocked s q = false → armNow s k = alarmRefused s k 4) ∧
    (∀ now, ¬ bad → baseNow s (alarmBase s k) = some now → alarmAt s k < now + 2 → armNow s k = alarmRefused s k 1) ∧
    (∀ c, c < 8 → alarmArmed (alarmRefused s k c) k = false ∧ get (alarmRefused s k c) (F.LTU_ALM_STATUS_result k) = c ∧
      (alarmArmed s k = false → alarmRefused s k c = put s (F.LTU_ALM_STATUS_result k) c) ∧
      (alarmArmed s k = true → alarmRefused s k c = put (put s (F.LTU_ALM_STATUS_state k) 0) (F.LTU_ALM_STATUS_result k) c)) ∧
    (∀ now, ¬ bad → baseNow s (alarmBase s k) = some now → now + 2 ≤ alarmAt s k →
      armNow s k = put (putB (put s (F.LTU_ALM_STATUS_state k) 1) (F.LTU_ALM_STATUS_late k) false) (F.LTU_ALM_STATUS_result k) 0 ∧
      alarmState (armNow s k) k = 1 ∧ get (armNow s k) (F.LTU_ALM_STATUS_result k) = 0)

/-- A requester's arm writes the time fields and arms the alarm; an alarm of a hardware owner, or a write below P1, answers CLASS; a locked
alarm answers LOCKED. A disarm frees an armed alarm and answers LOCKED on a locked one. An armed alarm locks two codewords before its time.
When an alarm on a path's time fires, the alarms of lower number at its codeword act first; it reads FIRED or has a next period, and an
upstream alarm launches its burst. One on module line time acts after what falls before it or ahead of it in the dispatch of its codeword.
(How strong the lower alarms' own bursts are is free, log entry 156; that CLASS is a refused arm's answer, and how the alarms of one
codeword follow each other, are the model's reading, log entries 25 and 206.) (R42, R43, R44) -/
def Obligations.AlarmCommands : Prop :=
  ∀ (s : State) (r : Requester) (k : Fin 256) (ctrl : Word) (uw : BitVec 16),
    (Reaches s r (R.LTU_ALM_CTRL k) true → alarmOpen k = true → isP1 r = true → alarmState s k ≠ 2 → k.val < 200 →
      Machine.exec (.alarmArm r k ctrl) s = .next (settled s (armNow
        (put (put s (F.LTU_ALM_CTRL_cw k) (bits ctrl.toNat 0 13)) (F.LTU_ALM_CTRL_period k) (bits ctrl.toNat 16 16)) k))) ∧
    (Reaches s r (R.LTU_ALM_CTRL k) true → alarmOpen k = true → isP1 r = true → alarmState s k ≠ 2 → 200 ≤ k.val →
      Machine.exec (.alarmArm r k ctrl) s = .next (settled s (armNow
        (put (put (put s (F.LTU_ALM_CTRL_cw k) (bits ctrl.toNat 0 13)) (F.LTU_ALM_CTRL_period k) (bits ctrl.toNat 16 16))
          (F.LTU_ALM_CTRL_timebase k) (bits ctrl.toNat 13 2)) k))) ∧
    (Reaches s r (R.LTU_ALM_CTRL k) true → (alarmOpen k = false ∨ isP1 r = false) →
      Machine.exec (.alarmArm r k ctrl) s = .next (settled s (put s (F.LTU_ALM_STATUS_result k) 3))) ∧
    (Reaches s r (R.LTU_ALM_CTRL k) true → alarmOpen k = true → isP1 r = true → alarmState s k = 2 →
      Machine.exec (.alarmArm r k ctrl) s = .next (settled s (put s (F.LTU_ALM_STATUS_result k) 2))) ∧
    (Reaches s r (R.LTU_ALM_STATUS k) true → alarmOpen k = true → isP1 r = true → alarmState s k = 1 →
      Machine.exec (.alarmDisarm r k) s =
        .next (settled s (put (put s (F.LTU_ALM_STATUS_state k) 0) (F.LTU_ALM_STATUS_result k) 0))) ∧
    (Reaches s r (R.LTU_ALM_STATUS k) true → alarmOpen k = true → isP1 r = true → alarmState s k = 2 →
      Machine.exec (.alarmDisarm r k) s = .next (settled s (put s (F.LTU_ALM_STATUS_result k) 2))) ∧
    (alarmState s k = 1 →
      Machine.exec (.alarmLock k) s =
        .next (settled s (put (reach s (alarmBase s k) (alarmAt s k - 2)) (F.LTU_ALM_STATUS_state k) 2))) ∧
    (alarmArmed s k = true → alarmBase s k ≠ 0 →
      Machine.exec (.alarmFire k uw) s = .next (settled s
        (firePath ((pathBefore s k).foldl (fun u j => stepFree (firePath u j (freeVal u % 2 ^ 16))) s) k uw.toNat))) ∧
    (∀ j, 200 ≤ j → get (reach s (alarmBase s j) (alarmAt s j)) (F.LTU_ALM_CTRL_period j) = 0 → ∀ w,
      firePath s j w = putB (put (reach s (alarmBase s j) (alarmAt s j)) (F.LTU_ALM_STATUS_state j) 3) (F.LTU_ALM_STATUS_late j) false) ∧
    (∀ j w, j < 128 → firePath s j w = burstLaunch (markFired (reach s (alarmBase s j) (alarmAt s j)) j false) j w) ∧
    (let c := fallsAt s k
     let u := moduleAct (reach s 0 c) (markFired (reach s 0 c) k false) k c
     alarmArmed s k = true → alarmBase s k = 0 → firstDue s c = some c → dueTogether s c = [k.val] → firstDue u c = none →
      Machine.exec (.alarmFire k uw) s = .next (settled s u)) ∧
    (alarmArmed s k = true → alarmBase s k = 0 →
      Machine.exec (.alarmFire k uw) s = .next (settled s (dispatchTo s (fallsAt s k) false 4000256)))

/-- With a lead path, not frozen and with no slew left, the frame boundary advances FN by 1 modulo 2^48, sets CW and its fraction to 0 and
LTU_FB_LFC to the LFC; in holdover the hold time counts up to its limit and otherwise it keeps its value; the clock, the active bank and
both path times are unchanged. SEC_OFFSET_CHANGE, FREEZE_END, LEAD_PATH_CHANGE, LEAD_REVERT and SNAPSHOT_COMPLETE do what was decided: the
new seconds offset at the next frame that starts a second under it, with alarm 132 moved there; the end of a freeze with a new offset
measurement; the change of lead at the path's boundary, given up if the path has no lock, and in a freeze measured at its end; the return to
the preferred path once it has held lock for 15,625 frames; the snapshot's values, FN and sequence number. Nothing is pending afterwards,
and nothing happens where nothing is pending. (A change of lead in a freeze is the model's choice, log entry 188.) (R32, R34, R36, R37, R38,
R39, R45) -/
def Obligations.LineTimeChanges : Prop :=
  ∀ s : State,
    (get s F.LTU_STATUS_lead ≠ 0 → getB s F.LTU_STATUS_frozen = false → getI s F.LTU_SLEW_remain = 0 →
      ∃ t, Machine.exec .moduleFrameBoundary s = .next t ∧
        get t F.LTU_FN_fn = (get s F.LTU_FN_fn + 1) % 2 ^ 48 ∧ get t F.LTU_CW_cw = 0 ∧ t.ltu.sub = 0 ∧
        get t F.LTU_FB_LFC_lfc = s.clk.lfc.toNat / 2 ^ 16 ∧
        (get s F.LTU_STATUS_lead = 3 → get t F.LTU_HOLD_TIME_frames =
          sat (2 ^ F.LTU_HOLD_TIME_frames.w - 1) (get s F.LTU_HOLD_TIME_frames + 1)) ∧
        (get s F.LTU_STATUS_lead ≠ 3 → get t F.LTU_HOLD_TIME_frames = get s F.LTU_HOLD_TIME_frames) ∧
        t.clk = s.clk ∧ t.bank = s.bank ∧ t.ltu.timeA = s.ltu.timeA ∧ t.ltu.timeB = s.ltu.timeB) ∧
    (s.ltu.pendingOffset = none → Machine.exec .secOffsetChange s = .next (settled s s)) ∧
    (∀ o, s.ltu.pendingOffset = some o → o < 15625 → ∃ f, f % 15625 = o ∧ cwCount (modFn s) (modCw s) ≤ 5000 * f ∧
      (∀ g, g % 15625 = o → cwCount (modFn s) (modCw s) ≤ 5000 * g → f ≤ g) ∧
      Machine.exec .secOffsetChange s = .next (settled s (raiseGrey
        (put (put (put (modLtu (put (reach s 0 (5000 * f)) F.LTU_SEC_OFFSET_offset o) (fun l => { l with pendingOffset := none }))
          (F.LTU_ALM_FN_fn 132) f) (F.LTU_ALM_CTRL_cw 132) 0) (F.LTU_ALM_STATUS_state 132) 2) F.LTU_EVENT_sec_change))) ∧
    (∀ q, s.ltu.frozenFor = some q →
      let u := modLtu (putB s F.LTU_STATUS_frozen false) (fun l => { l with frozenFor := none })
      Machine.exec .freezeEnd s = .next (settled s (measureOffset (reach u (1 + qn q) (cwCount (modFn u) (modCw u))) q))) ∧
    (∀ q, s.ltu.pendingLead = some q → pathLocked s q = true →
      let u := setLead (toPathBoundary s q) q
      Machine.exec .leadPathChange s = .next (settled s
        (if u.ltu.frozenFor.isSome then modLtu u (fun l => { l with frozenFor := some q }) else measureOffset u q))) ∧
    (∀ q, s.ltu.pendingLead = some q → pathLocked s q = false →
      Machine.exec .leadPathChange s = .next (settled s (modLtu s (fun l => { l with pendingLead := none })))) ∧
    (∀ q, revertTo s = some q → leadPath s = some (otherPath q) → 15625 ≤ heldFrames s q →
      let u := modLtu s (fun l => { l with pendingLead := some q })
      let v := setLead (toPathBoundary u q) q
      Machine.exec .leadRevert s = .next (settled s
        (if v.ltu.frozenFor.isSome then modLtu v (fun l => { l with frozenFor := some q }) else measureOffset v q))) ∧
    (revertTo s = none → Machine.exec .leadRevert s = .next (settled s s)) ∧
    (∀ fn, s.ltu.snapPending = some fn → ∃ t, Machine.exec .snapshotComplete s = .next t ∧ t.snap = s.snapNext ∧ t.snapNext = [] ∧
      t.ltu.snapPending = none ∧ get t F.LTU_SNAP_FN_fn = fn % 2 ^ F.LTU_SNAP_FN_fn.w ∧
      get t F.LTU_SNAP_SEQ_seq = (get s F.LTU_SNAP_SEQ_seq + 1) % 2 ^ F.LTU_SNAP_SEQ_seq.w)

/-- On an ACTIVE lane LOS asserts below its threshold, shows the power, takes the recovered clock and raises los_set; it clears above the clear
threshold and raises los_clr; LOL asserts on an SNR below its threshold and clears on one above, with the clock locked again. A measurement
on the other side of its threshold changes nothing. (R93, R94) -/
def Obligations.LightDetectors : Prop :=
  ∀ (s : State) (l : Lane) (pwr : Int) (snr : Nat), laneActive s l = true →
    (getB s (F.LNK_LANE_STATUS_los l) = false → pwr < losAssertAt s l →
      Machine.exec (.losAssert l pwr) s = .next (settled s (laneChanged (raiseGrey
        (modLane (putB (showRxPwr s l pwr) (F.LNK_LANE_STATUS_los l) true) l (fun x => { x with clockLocked := false }))
        (F.LNK_LANE_EVENT_los_set l)) l))) ∧
    (getB s (F.LNK_LANE_STATUS_los l) = true → losClearAt s l < pwr →
      Machine.exec (.losClear l pwr) s = .next (settled s (laneChanged (raiseGrey
        (putB (showRxPwr s l pwr) (F.LNK_LANE_STATUS_los l) false) (F.LNK_LANE_EVENT_los_clr l)) l))) ∧
    (getB s (F.LNK_LANE_STATUS_lol l) = false → snr < lolAssertAt s l → getB (showSnr s l snr) (F.LNK_LANE_STATUS_lol l) = false →
      Machine.exec (.lolAssert l false snr) s = .next (settled s (laneChanged (raiseGrey
        (putB (showSnr s l snr) (F.LNK_LANE_STATUS_lol l) true) (F.LNK_LANE_EVENT_lol_set l)) l))) ∧
    (getB s (F.LNK_LANE_STATUS_lol l) = true → lolClearAt s l < snr →
      Machine.exec (.lolClear l snr) s = .next (settled s (laneChanged (raiseGrey
        (putB (modLane (showSnr s l snr) l (fun x => { x with clockLocked := true })) (F.LNK_LANE_STATUS_lol l) false)
        (F.LNK_LANE_EVENT_lol_clr l)) l))) ∧
    (losAssertAt s l ≤ pwr → Machine.exec (.losAssert l pwr) s = .next (settled s s)) ∧
    (pwr ≤ losClearAt s l → Machine.exec (.losClear l pwr) s = .next (settled s s)) ∧
    (lolAssertAt s l ≤ snr → Machine.exec (.lolAssert l false snr) s = .next (settled s s)) ∧
    (snr ≤ lolClearAt s l → Machine.exec (.lolClear l snr) s = .next (settled s s))

/-- CLOCK_LOCK takes effect on an ACTIVE lane without LOS, ADAPTATION_COMPLETE on one with the clock, LANE_ESTABLISHED on one without LOS, LOL
and LOF. A wavelength error beyond 0.3 nm darkens the lane and raises both events, one within 0.2 nm ends that, and one within 0.3 nm is no
fault. (R93, R98, R106) -/
def Obligations.LaneComesUp : Prop :=
  ∀ (s : State) (l : Lane) (snr : Nat) (err : Int),
    (laneActive s l = true → getB s (F.LNK_LANE_STATUS_los l) = false →
      Machine.exec (.clockLock l) s = .next (settled s (modLane s l (fun x => { x with clockLocked := true })))) ∧
    (laneActive s l = true → (laneSt s l).clockLocked = true → getB s (F.LNK_LANE_STATUS_adapted l) = false →
      Machine.exec (.adaptationComplete l snr) s =
        .next (settled s (putB (put s (F.LNK_RX_SNR_snr l) (sat 65535 snr)) (F.LNK_LANE_STATUS_adapted l) true))) ∧
    (laneActive s l = true → ((detected s l).take 3).any (fun b => b) = false →
      Machine.exec (.laneEstablished l) s = .next (settled s (lineSettle (modLane s l (fun x => { x with established := true }))))) ∧
    (laneState s l ≠ 4 → (err < -300 ∨ 300 < err) →
      Machine.exec (.wavelengthFault l err) s = .next (settled s (lineSettle (raiseGrey (raiseGrey
        (putB (modLane (showWave s l err) l (fun x => { x with waveDark := true })) (F.LNK_LANE_STATUS_wave_ok l) false)
        (F.LNK_LANE_EVENT_wave_fault l)) ⟨R.OPE_EVENT (engineOf l), l % 16, 1⟩)))) ∧
    (laneState s l ≠ 4 → -200 ≤ err → err ≤ 200 →
      Machine.exec (.wavelengthRecover l err) s = .next (settled s (lineSettle
        (putB (modLane (showWave s l err) l (fun x => { x with waveDark := false })) (F.LNK_LANE_STATUS_wave_ok l) true)))) ∧
    (-300 ≤ err → err ≤ 300 → Machine.exec (.wavelengthFault l err) s = .next (settled s s))

/-- A lane target of 0 to 4 becomes the target and init_state and the lane takes its next step; 5 to 7 are discarded. A step that ends puts its
state, measures the received power where the lane becomes ACTIVE, and the next step follows. A lane whose refusal reason is gone goes on. An
engine whose supplies have settled is powered, gives the token up, and its lanes go on. A new engine temperature is shown and moves its
lanes. A calibrated RX offset is taken on an ACTIVE lane with light. (That a lane's first power measurement comes as it becomes ACTIVE is
the model's choice, log entry 199.) (R99, R100, R101, R102) -/
def Obligations.LanePower : Prop :=
  ∀ (s : State) (r : Requester) (l : Lane) (e : Fin 8) (v : Fin 8) (t : Int),
    (Reaches s r (R.LNK_LANE_PWR l) true → v.val ≤ 4 →
      Machine.exec (.laneTargetWrite r l v) s = .next (settled s (chanCheck (laneAdvance
        (modBanks (putExpert s 2 (F.LNK_LANE_PWR_target l) v) 2 (fun b => { b with lineInit := Tab.set b.lineInit l v })) l) l))) ∧
    (4 < v.val → Reaches s r (R.LNK_LANE_PWR l) true → Machine.exec (.laneTargetWrite r l v) s = .next (settled s s)) ∧
    (∀ w, (laneSt s l).step = some w →
      let u := enterState (put (modLane s l (fun x => { x with step := none, forceOff := x.forceOff && decide (w ≠ 4) }))
        (F.LNK_LANE_PWR_state l) w) l (laneState s l) w
      let u := if laneState s l = 0 then leftActive u l else u
      let u := laneAdvance (if w = 0 then firstRxPwr (freshLane u l) l else u) l
      Machine.exec (.laneTransitionDone l) s =
        .next (settled s (lineSettle (report (chanCheck (if w = 4 then engineIdle u (engineOf l) else u) l) l)))) ∧
    ((laneSt s l).step = none → Machine.exec (.laneTransitionDone l) s = .next (settled s s)) ∧
    (laneActive s l = true →
      Machine.exec (.laneRefuseCleared l) s = .next (settled s (chanCheck (laneAdvance s l) l))) ∧
    ((engineSt s e).ramping = true → pastS7 s e = true →
      Machine.exec (.enginePowered e) s = .next (settled s ((lanesOfEngine e).foldl laneAdvance
        (putB (modEngine (tokenRelease s (.engine e)) e (fun x => { x with ramping := false })) (F.OPE_STATUS_powered e) true)))) ∧
    (enginePowered s e = true →
      Machine.exec (.trimRecompute e t) s = .next (settled s ((lanesOfEngine e).foldl applyTemp
        (putB (putI s (F.OPE_TEMP_temp e) t) (F.OPE_STATUS_temp_valid e) true)))) ∧
    (Reaches s r (R.LNK_RX_OFFSET l) true → laneActive s l = true → getB s (F.LNK_LANE_STATUS_los l) = false →
      Machine.exec (.rxOffsetCal r l t) s = .next (settled s (putI s (F.LNK_RX_OFFSET_offset l) t)))

/-- A P0 write lowers a fibre's ceiling and never raises it; below P0 it is discarded. A fuse trip latches and raises its event; only a P0 write
releases it. SAF_CTRL takes its kill bits. LASER_EN low shows in SAF_STATUS, raises its event and closes every gate; LASER_EN high shows and
opens them again; the TAP's loaded instruction acts as the pins now allow. (R105, R107) -/
def Obligations.SafetyGovernor : Prop :=
  ∀ (s : State) (r : Requester) (c : BitVec 16) (x y : Bool),
    (ReachesP0 s r R.SAF_CEIL_A → toSigned 16 c.toNat ≤ s.saf.ceilA →
      Machine.exec (.safCeilWrite r .a c) s = .next (settled s { s with saf := { s.saf with ceilA := toSigned 16 c.toNat } })) ∧
    (ReachesP0 s r R.SAF_CEIL_B → toSigned 16 c.toNat ≤ s.saf.ceilB →
      Machine.exec (.safCeilWrite r .b c) s = .next (settled s { s with saf := { s.saf with ceilB := toSigned 16 c.toNat } })) ∧
    (Reaches s r R.SAF_CEIL_A true → (isP0 s r = false ∨ s.saf.ceilA < toSigned 16 c.toNat) →
      Machine.exec (.safCeilWrite r .a c) s = .next (settled s s)) ∧
    (Reaches s r R.SAF_CEIL_B true → (isP0 s r = false ∨ s.saf.ceilB < toSigned 16 c.toNat) →
      Machine.exec (.safCeilWrite r .b c) s = .next (settled s s)) ∧
    Machine.exec (.fuseComparatorTrip .a) s =
      .next (settled s (lineSettle (raiseGrey (putB s F.SAF_STATUS_fuse_a true) F.SAF_EVENT_fuse_a))) ∧
    Machine.exec (.fuseComparatorTrip .b) s =
      .next (settled s (lineSettle (raiseGrey (putB s F.SAF_STATUS_fuse_b true) F.SAF_EVENT_fuse_b))) ∧
    (ReachesP0 s r R.SAF_FUSE_CLR →
      Machine.exec (.safFuseClr r true false) s = .next (settled s (lineSettle (putB s F.SAF_STATUS_fuse_a false))) ∧
      Machine.exec (.safFuseClr r false true) s = .next (settled s (lineSettle (putB s F.SAF_STATUS_fuse_b false))) ∧
      Machine.exec (.safFuseClr r true true) s =
        .next (settled s (lineSettle (putB (putB s F.SAF_STATUS_fuse_a false) F.SAF_STATUS_fuse_b false)))) ∧
    (Reaches s r R.SAF_FUSE_CLR true → isP0 s r = false → Machine.exec (.safFuseClr r x y) s = .next (settled s s)) ∧
    (Reaches s r R.SAF_CTRL true →
      Machine.exec (.safKill r x y) s = .next (settled s (lineSettle (putB (putB s F.SAF_CTRL_kill_a x) F.SAF_CTRL_kill_b y)))) ∧
    (s.pins.laserEn = true →
      Machine.exec .laserEnLow s = .next (settled s (lineSettle (raiseGrey
        (putB (tapSettle { s with pins := { s.pins with laserEn := false } }) F.SAF_STATUS_laser_en false) F.SAF_EVENT_laser_en_low)))) ∧
    Machine.exec .laserEnHigh s = .next (settled s (lineSettle
      (putB (tapSettle { s with pins := { s.pins with laserEn := true } }) F.SAF_STATUS_laser_en true)))

/-- At 64 codewords before its alarm the earliest waiting burst of a lane is presented, after the bursts of its fibre that start earlier, or
start with it on a lower lane: on a channel with multiframe lock to the admission check, on one without it is lost as DOWN. On fibre A a
burst whose window would exceed the ceiling's energy is counted as held, raises held_a and is lost as HELD. (Which length is charged, and in
which bin of the window, is the model's choice, log entry 163.) (R104) -/
def Obligations.BurstAdmission : Prop :=
  ∀ (s : State) (l : Lane) (b : Burst),
    earliest ((waitingBursts s l).filter (fun x => !x.admitted)) = some b →
    let u := reach s (1 + qn (lanePath l)) (b.alarm - 64)
    (mfLock u l = true → Machine.exec (.safBurstPresent l) s = .next (settled s (presentBurst u b u.upb.bursts.length))) ∧
    (mfLock u l = true → firstPresented (presentedBefore u b) = none →
      Machine.exec (.safBurstPresent l) s = .next (settled s (presentOne u b))) ∧
    (∀ x n, firstPresented (presentedBefore u b) = some x →
      presentBurst u b (n + 1) =
        presentBurst (if mfLock u x.lane then presentOne u x else rearmLane (loseBurst u x 3) x.lane) b n) ∧
    (mfLock u l = false → Machine.exec (.safBurstPresent l) s = .next (settled s (rearmLane (loseBurst u b 3) l))) ∧
    (lanePath b.lane = .a →
      withinBudget (windowEnergy u .a ((b.alarm + b.len - 1) / 125) + laneUw u b.lane * (b.len - b.guard + 1)) (ceilOf u .a) = false →
      presentOne u b = rearmLane (loseBurst (raiseGrey (inc u F.SAF_HELD_A_count) F.SAF_EVENT_held_a) b 0) b.lane)

/-- An ARMED commit is cancelled while its alarm has not locked and the quiesce of a structural scope has not begun: the EPC is STAGING again
with result OK, its four alarms are not armed, and both banks and the loaded sections are unchanged. After that, and while the commit runs,
a cancel answers LOCKED and changes nothing else. (What a cancel answers in other states, and that it takes back a path's switch ahead of
the instant, is the model's reading, log entries 160 and 198.) (R65) -/
def Obligations.CommitCancel : Prop :=
  ∀ (s : State) (r : Requester), Reaches s r R.EPC_CTRL true →
    ((epcState s = epcCommitting ∨ epcState s = epcDraining) →
      Machine.exec (.epcCancel r) s = .next (settled s (put (put s F.EPC_RESULT_code 15) F.EPC_RESULT_detail 0))) ∧
    (epcState s = epcArmed → alarmState s 128 ≠ 2 → ¬ (get s F.EPC_STRUCT_sections ≠ 0 ∧ alarmState s 129 = 3) →
      ∃ t, Machine.exec (.epcCancel r) s = .next t ∧ epcState t = epcStaging ∧
        get t F.EPC_RESULT_code = epcOk ∧ (∀ k, 128 ≤ k → k ≤ 131 → alarmArmed t k = false) ∧
        t.other = s.other ∧ get t F.EPC_LOADED_sections = get s F.EPC_LOADED_sections ∧ (s.epc.early = false → t.bank = s.bank)) ∧
    (epcState s = epcArmed → (alarmState s 128 = 2 ∨ (get s F.EPC_STRUCT_sections ≠ 0 ∧ alarmState s 129 = 3)) →
      Machine.exec (.epcCancel r) s = .next (settled s (put (put s F.EPC_RESULT_code 15) F.EPC_RESULT_detail 0)))

/-- In IDLE or DONE, open gives STAGING with no section loaded or structural, and the seed copy starts; its end copies the configuration of the
active bank and clears seeding, then the staged writes that waited follow, also those of the table ports. A staged write (shown for
TSU_UTC_OFF) is discarded and counted outside STAGING, waits during the seed copy, and otherwise puts the field into the staged bank and
loads its section, with the field in effect as before. A load in STAGING keeps the requester's rights and the length. Ack in DONE and
abandon in STAGING return to IDLE; abandon ends the check and the seed copy, drops the waiting writes, and a running load no longer counts.
In COMMITTING and DRAINING arm, now, abandon, ack and open answer BUSY. (That abandon ends a check and drops the waiting writes, and the
answers outside the states that take a command, are the model's reading, log entries 39 and 160.) (R55, R58, R59, R60, R61) -/
def Obligations.StagingPeriod : Prop :=
  ∀ (s : State) (r : Requester),
    (Reaches s r R.EPC_CTRL true → (epcState s = epcIdle ∨ epcState s = epcDone) →
      ∃ t, Machine.exec (.epcOpen r) s = .next t ∧ epcState t = epcStaging ∧ get t F.EPC_LOADED_sections = 0 ∧
        get t F.EPC_STRUCT_sections = 0 ∧ getB t F.EPC_STATUS_seeding = true ∧ get t F.EPC_RESULT_code = epcOk ∧
        t.bank = s.bank ∧ t.other = s.other ∧ t.epc.loaded = [] ∧ t.epc.scopes = []) ∧
    (getB s F.EPC_STATUS_seeding = true →
      Machine.exec .seedCopyDone s = .next (settled s ((List.range 4).foldl taResume (s.epc.waiting.foldl (fun u e => stagedPut u e.1 e.2.1 e.2.2)
        (modEpc (putB (seedCopy s) F.EPC_STATUS_seeding false) (fun e => { e with waiting := [] })))))) ∧
    (getB s F.EPC_STATUS_seeding = true → s.epc.waiting = [] → (∀ n, n < 4 → (pkt s n).prs.taWait = none) →
      Machine.exec .seedCopyDone s = .next (settled s (modEpc (putB (seedCopy s) F.EPC_STATUS_seeding false) (fun e => { e with waiting := [] })))) ∧
    (s.epc.lineDueA = false → s.epc.lineDueB = false → (seedCopy s).other = activeCfg s) ∧
    (∀ v : Word, Reaches s r R.TSU_UTC_OFF true →
      (epcState s ≠ epcStaging → Machine.exec (.stagedWrite r (BitVec.ofNat 28 R.TSU_UTC_OFF) v) s =
        .next (settled s (addTo (accessed s R.TSU_UTC_OFF) F.EPC_ST_DISCARD_count 1))) ∧
      (epcState s = epcStaging → getB s F.EPC_STATUS_seeding = true →
        Machine.exec (.stagedWrite r (BitVec.ofNat 28 R.TSU_UTC_OFF) v) s =
          .next (settled s (modEpc (accessed s R.TSU_UTC_OFF) (fun e => { e with waiting := e.waiting ++ [(R.TSU_UTC_OFF, none, v)] })))) ∧
      (epcState s = epcStaging → getB s F.EPC_STATUS_seeding = false →
        ∃ t, Machine.exec (.stagedWrite r (BitVec.ofNat 28 R.TSU_UTC_OFF) v) s = .next t ∧ cfgGet t.other F.TSU_UTC_OFF_off = v.toNat % 2 ^ 16 ∧
          bit (get t F.EPC_LOADED_sections) 13 = true ∧ t.bank = s.bank ∧ get t F.TSU_UTC_OFF_off = get s F.TSU_UTC_OFF_off)) ∧
    (Reaches s r R.EPC_LOAD true → epcState s = epcStaging → s.epc.load = none →
      Machine.exec (.epcLoad r) s = .next (settled s (putB
        (modEpc s (fun e => { e with load := some { p0 := isP0 s r, len := get s F.EPC_IMG_LEN_len } })) F.EPC_STATUS_load_busy true))) ∧
    (Reaches s r R.EPC_CTRL true → epcState s = epcDone →
      Machine.exec (.epcAck r) s = .next (settled s (epcResult (setEpc s epcIdle) epcOk 0))) ∧
    (Reaches s r R.EPC_CTRL true → epcState s = epcStaging →
      ∃ t, Machine.exec (.epcAbandon r) s = .next t ∧ epcState t = epcIdle ∧ getB t F.EPC_STATUS_seeding = false ∧
        getB t F.EPC_STATUS_checking = false ∧ t.epc.check = none ∧ t.epc.waiting = [] ∧ t.bank = s.bank ∧
        (∀ j, t.epc.load = some j → j.live = false)) ∧
    (Reaches s r R.EPC_CTRL true → (epcState s = epcCommitting ∨ epcState s = epcDraining) →
      Machine.exec (.epcArm r) s = .next (settled s (epcResult s epcBusy 0)) ∧
      Machine.exec (.epcNow r) s = .next (settled s (epcResult s epcBusy 0)) ∧
      Machine.exec (.epcAbandon r) s = .next (settled s (epcResult s epcBusy 0)) ∧
      Machine.exec (.epcAck r) s = .next (settled s (epcResult s epcBusy 0)) ∧
      Machine.exec (.epcOpen r) s = .next (settled s (epcResult s epcBusy 0)))

/-- When the load of a live staging period completes, an image that passes every check has written the staged bank and the result is OK; one
that fails a check leaves everything else as it was, and answers that check's code and detail with load_fail. A load whose staging period
was abandoned answers NOT_STAGING. (R55, R56, R57) -/
def Obligations.ImageLoadEnd : Prop :=
  ∀ (s : State) (b : List Byte) (j : LoadJob), s.epc.load = some j → getB s F.EPC_STATUS_seeding = false →
    let ended (u : State) := putB (modEpc u (fun e => { e with load := none })) F.EPC_STATUS_load_busy false;
    let fails (c d : Nat) := raise (epcResult (ended s) c d) F.EPC_EVENT_load_fail .grey c;
    (j.live = true → epcState s = epcStaging →
      Machine.exec (.imageLoadDone b) s = .next (settled s (match loadImage s j.p0 b j.len with
        | (none, t) => epcResult (ended t) epcOk 0
        | (some x, _) => if x.1 = epcOk then epcResult (ended s) x.1 x.2 else fails x.1 x.2))) ∧
    (j.live = false → Machine.exec (.imageLoadDone b) s = .next (settled s (fails epcNotStaging 0)))

/-- In STAGING an arm whose q_lead or scope timeout is out of range answers RANGE with arm_fail; otherwise the check starts with the values held
at the arm. A check that finds nothing gives ARMED with result OK and alarms 128, 130 and 131, and 129 when a structural section is staged,
at the times R66 gives; one that fails answers its code and detail. An immediate commit answers TIME_VALID while a path leads, and
otherwise, with q_lead and scope timeout in range, starts its check. (Which of several causes is answered is the model's choice, log entry
38.) (R63, R64, R66, R77) -/
def Obligations.CommitArm : Prop :=
  ∀ (s : State) (r : Requester),
    (Reaches s r R.EPC_CTRL true → epcState s = epcStaging → s.epc.check = none → armRange s = true →
      Machine.exec (.epcArm r) s = .next (settled s (raise (epcResult s epcRange 0) F.EPC_EVENT_arm_fail .grey epcRange))) ∧
    (Reaches s r R.EPC_CTRL true → epcState s = epcStaging → s.epc.check = none → armRange s = false →
      Machine.exec (.epcArm r) s = .next (settled s (putB (modEpc s (fun e =>
        { e with check := some (.arm (get s F.EPC_ARM_FN_fn) (get s F.EPC_ARM_CTRL_q_lead) (get s F.EPC_ARM_CTRL_scope_timeout)) })) F.EPC_STATUS_checking true))) ∧
    (∀ fn lead bound, s.epc.check = some (.arm fn lead bound) →
      let u := putB (modEpc s (fun e => { e with check := none })) F.EPC_STATUS_checking false
      (firstBad [armCheck u, armTime u fn lead] = none →
        Machine.exec .armCheckDone s = .next (settled s (epcResult (armAlarms (setEpc u epcArmed) fn lead bound) epcOk 0))) ∧
      (∀ x, firstBad [armCheck u, armTime u fn lead] = some x →
        Machine.exec .armCheckDone s = .next (settled s (raise (epcResult u x.1 x.2) F.EPC_EVENT_arm_fail .grey x.1)))) ∧
    (∀ u fn lead bound,
      (get u F.EPC_STRUCT_sections ≠ 0 →
        armAlarms u fn lead bound = armAt (armAt (armAt (armAt u 128 fn 0 0) 129 (fn - lead) 0 0) 130 fn 1563 0) 131 (fn + bound) 0 0) ∧
      (get u F.EPC_STRUCT_sections = 0 →
        armAlarms u fn lead bound = armAt (armAt (armAt u 128 fn 0 0) 130 fn 1563 0) 131 (fn + bound) 0 0)) ∧
    (Reaches s r R.EPC_CTRL true → epcState s = epcStaging → s.epc.check = none → get s F.LTU_STATUS_lead ≠ 0 →
      Machine.exec (.epcNow r) s = .next (settled s (epcResult s epcTimeValid 0))) ∧
    (Reaches s r R.EPC_CTRL true → epcState s = epcStaging → s.epc.check = none → get s F.LTU_STATUS_lead = 0 → armRange s = false →
      Machine.exec (.epcNow r) s = .next (settled s (putB (modEpc s (fun e => { e with check := some .now })) F.EPC_STATUS_checking true)))

/-- An immediate commit that passes its check quiesces, switches and switches both paths' line blocks at once. A path's line blocks switch at
the commit's frame, also where the path's own time runs ahead of the commit instant; a cancel ends what that began and releases what was
quiesced. COMMITTING ends when no path is waited for. DRAINING ends when no region holds a packet of the old tag, with the drain time and
its maximum recorded, and gives DONE. The bounds of an immediate commit act on one that runs. A client lane or region that is ready is no
longer quiesced. (The switch ahead of the instant, and what a cancel does to it, is the model's reading of R67, log entry 198.) (R59, R66,
R67, R73, R75, R77) -/
def Obligations.CommitPhases : Prop :=
  ∀ (s : State) (q : Path) (k : Fin 128) (n : PktRegion),
    (s.epc.check = some .now → armCheck (checkEnd s) = none →
      Machine.exec .nowCheckDone s = .next (settled s (modEpc (lineSwitch (lineSwitch
        (commitInstant (quiesceBegin (epcResult (checkEnd s) epcOk 0))) .a) .b) (fun e => { e with nowCommit := true, atFn := 0 })))) ∧
    (s.epc.nowCommit = true → Machine.exec .nowDrainBound s = .next (settled s (drainBound s))) ∧
    (s.epc.nowCommit = true → Machine.exec .nowRestartBound s = .next (settled s (restartBound s))) ∧
    (lineDue s q = true → pathLocked s q = true → runsAhead s q = false → s.epc.early = false →
      Machine.exec (.lineBankSwitch q) s = .next (settled s (lineSwitch (reach s (1 + qn q) (5000 * s.epc.atFn)) q))) ∧
    (pathLocked s q = true → runsAhead s q = true → hasSwitched s q = false →
      let fn := get s (F.LTU_ALM_FN_fn 128)
      let u := if s.epc.early then s else lineBegin s (get s F.EPC_LOADED_sections) fn
      Machine.exec (.lineBankSwitch q) s = .next (settled s
        (lineSwitch (modEpc (reach u (1 + qn q) (5000 * fn)) (fun e => { e with early := true })) q))) ∧
    (pathLocked s q = false → Machine.exec (.lineBankSwitch q) s = .next (settled s s)) ∧
    (∀ r, Reaches s r R.EPC_CTRL true → epcState s = epcArmed → alarmState s 128 ≠ 2 →
      ¬ (get s F.EPC_STRUCT_sections ≠ 0 ∧ alarmState s 129 = 3) →
      ∃ t, Machine.exec (.epcCancel r) s = .next t ∧ t.epc.quiesced = s.epc.unready ∧ t.epc.early = false ∧
        (s.epc.early = false → t.epc = { s.epc with quiesced := s.epc.unready }) ∧
        (s.epc.early = true → t.epc.lineDueA = false ∧ t.epc.lineDueB = false)) ∧
    (epcState s = epcCommitting → waitsFor s .a = false → waitsFor s .b = false →
      Machine.exec .commitAcknowledged s = .next (settled s (put s F.EPC_STATUS_state 4))) ∧
    (epcState s = epcCommitting → (waitsFor s .a = true ∨ waitsFor s .b = true) →
      Machine.exec .commitAcknowledged s = .next (settled s s)) ∧
    (epcState s = epcDraining → (∀ m, m < 4 → drains s m = false) →
      let w := sat 65535 (ticksCw (s.clk.ticks - s.epc.atTick))
      Machine.exec .drainDone s = .next (settled s (raiseGrey
        (put (putMax (put s F.EPC_DRAIN_TIME_cw w) F.EPC_DRAIN_MAX_cw w) F.EPC_STATUS_state 5) F.EPC_EVENT_done))) ∧
    (epcState s ≠ epcArmed →
      Machine.exec (.scopeReady (.clientLane k)) s =
        .next (settled s (setQuiesced s { s.epc.quiesced with lanes := setBits s.epc.quiesced.lanes k.val 1 0 })) ∧
      Machine.exec (.scopeReady (.region n)) s =
        .next (settled s (setQuiesced s { s.epc.quiesced with regions := setBits s.epc.quiesced.regions n.val 1 0 })))

/-- At the commit instant the active bank toggles, EPC_COMMIT_COUNT counts, EPC_GEN_ACTIVE takes the staged generation and the commit FN is
recorded. The staged bank's loaded sections become the configuration of the control-region and packet-region blocks and the former ones its
own, and both paths' line blocks are due. When path q's line blocks switch, the fields of its registers in the sections they are owed become
those of the committed bank and no field of another block changes; with the second path the fields that both share change too. (The order of
a path's switch and the commit instant is the model's reading, log entry 43.) (R58, R67) -/
def Obligations.BankSwitch : Prop :=
  (∀ s : State,
    let u := scopeEmpties s
    let v := put (inc (putB u F.EPC_STATUS_active_bank (!activeBank u)) F.EPC_COMMIT_COUNT_count) F.EPC_GEN_ACTIVE_gen (get u F.EPC_GEN_STAGED_gen)
    let fn := if get v F.LTU_STATUS_lead = 0 then 0 else modFn v
    activeBank v = !activeBank u ∧ get v F.EPC_GEN_ACTIVE_gen = get u F.EPC_GEN_STAGED_gen ∧
    get v F.EPC_COMMIT_COUNT_count = (get u F.EPC_COMMIT_COUNT_count + 1) % 2 ^ F.EPC_COMMIT_COUNT_count.w ∧
    commitInstant s = releaseAtInstant (put (switchBanks
      (modEpc (put v F.EPC_COMMIT_FN_fn fn) (fun e => { e with unready := e.quiesced, atTick := v.clk.ticks, nowCommit := false }))
      (get u F.EPC_LOADED_sections) fn) F.EPC_STATUS_state 3)) ∧
  (∀ (s : State) (m fn : Nat),
    let x := if s.epc.early then s else lineBegin s m fn
    let u := supersede x m
    let c := takeCfg m (activeCfg u) x.other
    switchBanks s m fn = commitEffects { u with
      regs := c.regs, bank := c.bank, other := takeCfg m x.other (activeCfg x), epc := { u.epc with
        carried := m, early := false, waitA := pathLocked (setActive u c) .a && u.epc.lineDueA,
        waitB := pathLocked (setActive u c) .b && u.epc.lineDueB } } (activeCfg x) m) ∧
  (∀ (s : State) (m fn : Nat),
    lineBegin s m fn = { s with lineOld := activeCfg s, lineCfg := s.other, epc := { s.epc with
      owedA := (if s.epc.lineDueA then s.epc.owedA else 0) ||| m, owedB := (if s.epc.lineDueB then s.epc.owedB else 0) ||| m,
      lineDueA := true, lineDueB := true, atFn := fn } }) ∧
  (∀ (s : State) (q : Path),
    let c := takeLine (owedBy s q) q (s.epc.lineDueA && s.epc.lineDueB) (activeCfg s) s.lineCfg
    lineSwitch s q = lineEffects s { s with regs := c.regs, bank := c.bank, epc := (match q with
      | .a => { s.epc with lineDueA := false, waitA := false, owedA := 0 }
      | .b => { s.epc with lineDueB := false, waitB := false, owedB := 0 }) } q) ∧
  (∀ (m : Nat) (q : Path) (shared : Bool) (dst src : Cfg) (a : Nat) (r : RegRow) (f : FieldRow), regRowAt a = some (r, 0) →
    f ∈ r.fields → f.lo + f.w ≤ 32 →
    (cfgGet (takeCfg m dst src) ⟨a, f.lo, f.w⟩ = cfgGet (if inSecs m f.sec && !isLineReg a then src else dst) ⟨a, f.lo, f.w⟩) ∧
    (cfgGet (takeLine m q shared dst src) ⟨a, f.lo, f.w⟩ =
      cfgGet (if inSecs m f.sec && isLineReg a && (match lineFieldPath a r f with
        | some p => decide (p = q)
        | none => shared) then src else dst) ⟨a, f.lo, f.w⟩)) ∧
  (∀ (s : State) (f : Fld), cfgGet (activeCfg s) f = get s f)

/-- A permitted write of a group's member goes to the group and not to the register; of a P0 group below P0 it is discarded. A seal of a HELD
group starts its check; one of an idle group, or its abandon, answers NOT_HELD. Abandon drops the held values as ABANDONED. A check that
ends while a commit changes banks answers EPOCH_BUSY and keeps the group HELD. One that fails drops the values, answers code, member and
rule and counts; one that passes applies every held value. The hold limit drops them as TIMEOUT and raises hold_timeout. (R80, R81, R82,
R83) -/
def Obligations.AgreementGroups : Prop :=
  ∀ (s : State) (r : Requester) (a : BitVec 28) (v : Word),
    (∀ g, groupOf a.toNat = some g → groupP0 g = false → Reaches s r a.toNat true →
      Machine.exec (.groupMemberWrite r a v) s = .next (settled s (memberWrite s g a.toNat v.toNat))) ∧
    (∀ g, groupOf a.toNat = some g → groupP0 g = true → ReachesP0 s r a.toNat →
      Machine.exec (.groupMemberWrite r a v) s = .next (settled s (memberWrite s g a.toNat v.toNat))) ∧
    (∀ g, groupOf a.toNat = some g → groupP0 g = true → Reaches s r a.toNat true → isP0 s r = false →
      Machine.exec (.groupMemberWrite r a v) s = .next (settled s s)) ∧
    (isSeal a.toNat = true → Reaches s r a.toNat true → groupState s a.toNat = 1 → groupP0 a.toNat = false →
      Machine.exec (.seal r a) s = .next (settled s (put s (sealState a.toNat) 2))) ∧
    (isSeal a.toNat = true → Reaches s r a.toNat true → groupState s a.toNat = 0 →
      Machine.exec (.seal r a) s = .next (settled s (sealResult s a.toNat sealNotHeld 0 0)) ∧
      Machine.exec (.sealAbandon r a) s = .next (settled s (sealResult s a.toNat sealNotHeld 0 0))) ∧
    (isSeal a.toNat = true → Reaches s r a.toNat true → groupState s a.toNat = 1 →
      Machine.exec (.sealAbandon r a) s = .next (settled s (sealResult (groupClear s a.toNat) a.toNat sealAbandoned 0 0))) ∧
    (groupState s a.toNat = 2 → sealMeetsCommit s a.toNat = true →
      Machine.exec (.sealCheckDone a) s = .next (settled s (sealResult (put s (sealState a.toNat) 1) a.toNat 3 0 0))) ∧
    (groupState s a.toNat = 2 → sealMeetsCommit s a.toNat = false →
      (∀ x, groupVerdict s a.toNat ((groupMembers a.toNat).map (memberRead s a.toNat)) = some x →
        Machine.exec (.sealCheckDone a) s =
          .next (settled s (inc (sealResult (groupClear s a.toNat) a.toNat x.1 x.2.1 x.2.2) F.EPC_SEAL_FAIL_count))) ∧
      (groupVerdict s a.toNat ((groupMembers a.toNat).map (memberRead s a.toNat)) = none →
        Machine.exec (.sealCheckDone a) s = .next (settled s (sealEffects (sealResult
          (((groupSt s a.toNat).getD {}).pend.foldl (fun x e => memberApply x (groupSec a.toNat) e.1 e.2.toNat) (groupClear s a.toNat))
          a.toNat sealOk 0 0) a.toNat (activeCfg s))))) ∧
    (∀ p, groupState s a.toNat = 1 → spanAt a.toNat = some p →
      Machine.exec (.groupHoldTimeout a) s = .next (settled s (raiseFor (sealResult (groupClear s a.toNat) a.toNat sealTimeout 0 0)
        F.EPC_EVENT_hold_timeout .amber p.region 0 (2 ^ 24 * p.blk + (a.toNat - p.base)))))

/-- A module reset starts the clock, line time, the commit machinery, the lanes, the governor, framing, both paths, upstream, bonding,
protection and packet structures again, restores the reset bank, and keeps the KST's keys, the flash and the queue. RESET_N does so with
cause 2, staying in reset while a thermal hold stands; the release of a hold that keeps the module in reset does so with cause 4, of any
other hold it only ends the hold; a restored input after a collapse with cause 3, while without a safe state for that cause it only shows
power good. Power-on clears the KST's keys too and keeps the flash. Each of these completes in every state. (R9, R412, R425, R436) -/
def Obligations.ModuleReset : Prop :=
  ∀ (s : State) (bad : Option StoreFail),
    (∀ c, let t := moduleReset s c bad
      t.clk = {} ∧ t.ltu = {} ∧ t.epc = {} ∧ t.lnk = {} ∧ t.saf = {} ∧ t.dfr = {} ∧ t.actA = {} ∧ t.actB = {} ∧ t.upb = {} ∧ t.bnd = {} ∧
      t.pth = {} ∧ t.pkt = [] ∧ t.bank = resetBank ∧ t.shadows = [] ∧ t.lcy.keys = (jobCut s).lcy.keys ∧ t.flash = (jobCut s).flash ∧
      t.pending = (jobCut s).pending ∧ t.hif.p0 = false ∧ t.saf.ceilA = 215 ∧ t.saf.ceilB = 215 ∧
      t.pwr = { bankEmpty := (jobCut s).pwr.bankEmpty, thermalHold := (jobCut s).pwr.thermalHold, inReset := (jobCut s).pwr.thermalHold }) ∧
    Machine.exec (.resetNLow bad) s = .next (settled s (tapSettle
      { moduleReset s 2 bad with pins := { (moduleReset s 2 bad).pins with resetN := false } })) ∧
    (s.pwr.thermalHold = true → s.pwr.inReset = true →
      Machine.exec (.thermalHoldRelease bad) s =
        .next (settled s (moduleReset { s with pwr := { s.pwr with thermalHold := false } } 4 bad))) ∧
    (s.pwr.thermalHold = true → s.pwr.inReset = false →
      Machine.exec (.thermalHoldRelease bad) s = .next (settled s { s with pwr := { s.pwr with thermalHold := false } })) ∧
    (s.pwr.thermalHold = false → Machine.exec (.thermalHoldRelease bad) s = .next (settled s s)) ∧
    (let u := putB (putB { s with pins := { s.pins with pwrGood := true }, pwr := { s.pwr with bankEmpty := false } } F.PWR_STATUS_pwr_good true)
        F.ASH_STATUS_vash_ok true;
      (getB u F.GLB_SAFE_safe = true → get u F.GLB_SAFE_cause = 2 →
        Machine.exec (.powerGoodRestored bad) s = .next (settled s (moduleReset u 3 bad))) ∧
      ((getB u F.GLB_SAFE_safe = false ∨ get u F.GLB_SAFE_cause ≠ 2) → Machine.exec (.powerGoodRestored bad) s = .next (settled s u)) ∧
      (getB u F.GLB_SAFE_safe = true → get u F.GLB_SAFE_cause = 2 →
        ∃ t, Machine.exec (.powerGoodRestored bad) s = .next t ∧ t.clk = {} ∧ t.epc = {} ∧ t.lnk = {} ∧ t.pkt = [] ∧ t.bank = resetBank ∧
          t.pins.pwrGood = true)) ∧
    (∃ t, Machine.exec (.resetNLow bad) s = .next t ∧ t.clk = {} ∧ t.epc = {} ∧ t.lnk = {} ∧ t.pkt = [] ∧ t.bank = resetBank ∧
      t.pending = s.pending ∧ t.pwr.thermalHold = s.pwr.thermalHold ∧ t.pwr.inReset = s.pwr.thermalHold ∧ t.pins.resetN = false) ∧
    (s.pwr.thermalHold = true → s.pwr.inReset = true → ∃ t, Machine.exec (.thermalHoldRelease bad) s = .next t ∧
      t.clk = {} ∧ t.epc = {} ∧ t.lnk = {} ∧ t.pkt = [] ∧ t.bank = resetBank ∧ t.pwr.thermalHold = false) ∧
    Machine.exec .powerOn s = .next (settled s (powerOn s)) ∧
    (powerOn s).clk = {} ∧ (powerOn s).ltu = {} ∧ (powerOn s).epc = {} ∧ (powerOn s).pkt = [] ∧ (powerOn s).bank = resetBank ∧
    (powerOn s).lcy.keys = [] ∧ (powerOn s).flash = (jobCut s).flash ∧ (powerOn s).hif.p0 = false

/-- Entering the safe state records the cause and the FN, shows it, darkens the lasers, starts the gasp and takes the regions' power; in the
safe state a second cause enters nothing again. A temperature of 115 °C trips, drives THERM_TRIP_N low unless the module is in the safe
state already, holds and enters with cause 1, a lower one does nothing; an input collapse is recorded and saves operating time in every
state and enters with cause 2; a loss of AON integrity enters with cause 4. (R412, R424, R425, R458, R459, R462) -/
def Obligations.SafeStateEntry : Prop :=
  ∀ (s : State) (x : Sensor) (t : Int) (good : Bool),
    (∀ c, getB s F.GLB_SAFE_safe = true → safeEnter s c = s) ∧
    (∀ c, getB s F.GLB_SAFE_safe = false → safeEnter s c = safeRegions (gaspStart (putB (gatesChanged
      (put (putB (put (put s F.GLB_LAST_SAFE_cause c) F.GLB_LAST_SAFE_FN_fn (if ltValid s then modFn s else 0)) F.GLB_SAFE_safe true)
        F.GLB_SAFE_cause c)) F.GLB_SAFE_lasers_dark true) c)) ∧
    (1150 ≤ t → ∃ u, u = raiseGrey (putB (tempThrottle s x t) F.PWR_STATUS_trip true) F.PWR_EVENT_trip ∧
      Machine.exec (.thermalTrip x t) s = .next (settled s (safeEnter
        { u with pins := { u.pins with thermTripN := u.pins.thermTripN && getB u F.GLB_SAFE_safe }, pwr := { u.pwr with thermalHold := true } } 1))) ∧
    (t < 1150 → Machine.exec (.thermalTrip x t) s = .next (settled s s)) ∧
    Machine.exec (.inputCollapse good) s = .next (settled s (safeEnter (opTimeSave (jobCut (raiseGrey (putB
      (putB { s with pins := { s.pins with pwrGood := good } } F.PWR_STATUS_pwr_good good) F.PWR_STATUS_input_fail true)
      F.PWR_EVENT_input_fail))) 2)) ∧
    Machine.exec .aonIntegrityLoss s = .next (settled s (safeEnter
      (fltRecord s F.FLT_EVENT_region_fault .black 6 fltAon 0x04 0) 4))

/-- A gasp that finds no window in time is given up and raises its path's miss event; one not wanted changes nothing. LOG_CLOSE in the safe
state records INPUT_LOST, flushes the log and closes it, once; elsewhere it does nothing. After an input failure the bank's discharge ends
both gasps and shows that VASH is gone. Outside the safe state a thermal trip, an input collapse and a loss of AON integrity complete: the
start-up sequence stops, the commit machinery is empty, and the control and line regions have no power. (R412, R424, R425, R426, R435, R458) -/
def Obligations.SafeStateEnd : Prop :=
  ∀ s : State,
    (gaspWanted s .a = true →
      Machine.exec (.ashGaspGiveup .a) s = .next (settled s (raiseGrey (setGasp s .a false) F.ASH_EVENT_miss_a))) ∧
    (gaspWanted s .b = true →
      Machine.exec (.ashGaspGiveup .b) s = .next (settled s (raiseGrey (setGasp s .b false) F.ASH_EVENT_miss_b))) ∧
    (getB s F.GLB_SAFE_safe = true → s.evr.closed = false →
      Machine.exec .logClose s = .next (settled s (putB (modEvr (flushNow
        (offer s 0x0523 .black 6 0x05 0 (rdWord s R.ASH_LAST).toNat 0)) (fun e => { e with closed := true })) F.GLB_SAFE_log_closed true))) ∧
    ((getB s F.GLB_SAFE_safe = false ∨ s.evr.closed = true) → Machine.exec .logClose s = .next (settled s s)) ∧
    (getB s F.PWR_STATUS_input_fail = true →
      Machine.exec .bankDischarge s = .next (settled s (putB (setGasp (setGasp
        { s with pwr := { s.pwr with bankEmpty := true } } .a false) .b false) F.ASH_STATUS_vash_ok false))) ∧
    (getB s F.PWR_STATUS_input_fail = false → Machine.exec .bankDischarge s = .next (settled s s)) ∧
    (gaspWanted s .a = false → Machine.exec (.ashGaspGiveup .a) s = .next (settled s s)) ∧
    (gaspWanted s .b = false → Machine.exec (.ashGaspGiveup .b) s = .next (settled s s)) ∧
    (∀ (x : Sensor) (c : Int), 1150 ≤ c →
      getB (raiseGrey (putB (tempThrottle s x c) F.PWR_STATUS_trip true) F.PWR_EVENT_trip) F.GLB_SAFE_safe = false →
      ∃ t, Machine.exec (.thermalTrip x c) s = .next t ∧ t.epc = {} ∧ t.pwr.stopped = true ∧ t.pwr.controlOn = false ∧ t.pwr.lineOn = false) ∧
    (∀ good : Bool,
      getB (opTimeSave (jobCut (raiseGrey (putB (putB { s with pins := { s.pins with pwrGood := good } } F.PWR_STATUS_pwr_good good)
        F.PWR_STATUS_input_fail true) F.PWR_EVENT_input_fail))) F.GLB_SAFE_safe = false →
      ∃ t, Machine.exec (.inputCollapse good) s = .next t ∧ t.epc = {} ∧ t.pwr.stopped = true ∧ t.pwr.controlOn = false ∧ t.pwr.lineOn = false) ∧
    (getB (fltRecord s F.FLT_EVENT_region_fault .black 6 fltAon 0x04 0) F.GLB_SAFE_safe = false →
      ∃ t, Machine.exec .aonIntegrityLoss s = .next t ∧ t.epc = {} ∧ t.pwr.stopped = true ∧ t.pwr.controlOn = false ∧ t.pwr.lineOn = false)

/-- A step that may start asks for the token where it has a ramp, or does S0's work; one that may not changes nothing. When its supplies have
settled its work is done and the next step is due; after S7 the engine's lanes go to their targets. Steps S0 to S2 that do not settle end in
the safe state with cause 3; S3 to S6 give an FLT record and are passed over; S7 is passed over and its engine stays off. A free token goes
to the region whose request is next, and to nobody where nobody asks; a holder at its limit loses it and raises token_timeout. (R19, R409,
R410, R422) -/
def Obligations.StartUpSequence : Prop :=
  ∀ s : State,
    (∀ r, stepMay s = true → stepRamp s (startStepNo s) = some r →
      Machine.exec .startStep s = .next (settled s (tokenRequest (modPwr
        (if startStepNo s = 1 then { s with pins := { s.pins with resetN := true } } else s) (fun p =>
        { p with stepRunning := true, rampsDone := false
                 stepAt := if startStepNo s = 7 ∧ s.pwr.s7Engine ≠ 0 then p.stepAt else s.clk.ticks })) r))) ∧
    (stepMay s = true → startStepNo s = 0 →
      Machine.exec .startStep s = .next (settled s (stepZero
        (modPwr s (fun p => { p with stepRunning := true, rampsDone := false, stepAt := s.clk.ticks }))))) ∧
    (stepMay s = false → Machine.exec .startStep s = .next (settled s s)) ∧
    (s.pwr.stepRunning = true → stepRamped s (startStepNo s) = true → startStepNo s ≠ 7 →
      Machine.exec .stepSettled s =
        .next (settled s (stepNext (stepWork (stepRelease s (startStepNo s)) (startStepNo s)) (startStepNo s)))) ∧
    (s.pwr.stepRunning = true → stepRamped s 7 = true → startStepNo s = 7 →
      Machine.exec .stepSettled s = .next (settled s ((lanesOfEngine s.pwr.s7Engine).foldl
        (fun u p => laneRetarget u p (Tab.getD u.bank.lineInit p 4)) (stepNext (stepWork (stepRelease s 7) 7) 7)))) ∧
    (s.pwr.stepRunning = true →
      let k := startStepNo s
      let u := raise (putB (stepRelease s k) F.PWR_STATUS_seq_fail true) F.PWR_EVENT_seq_fail .black k
      (k ≤ 2 → Machine.exec .stepSettleTimeout s = .next (settled s (safeEnter (modPwr u (fun p => { p with stopped := true })) 3))) ∧
      (2 < k → k < 7 → Machine.exec .stepSettleTimeout s =
        .next (settled s (stepNext (fltRecord (modPwr u (fun p =>
          { p with initTaken := setBits p.initTaken (k - 3) 1 1 })) F.FLT_EVENT_region_fault .black (k - 3) fltStartup 0x04 0) k))) ∧
      (7 ≤ k → Machine.exec .stepSettleTimeout s = .next (settled s
        (stepNext (modEngine u u.pwr.s7Engine (fun x => { x with ramping := false })) k)))) ∧
    (∀ n : PktRegion, tokenHolder s = none → tokenNext s = some (.region n) →
      Machine.exec .tokenGrant s = .next (settled s (tokenTake { s with pwr := { s.pwr with
        queue := Ramp.region n :: s.pwr.queue.filter (fun x => decide (x ≠ .region n)) } }))) ∧
    (tokenHolder s = none → tokenNext s = none → Machine.exec .tokenGrant s = .next (settled s s)) ∧
    (∀ r, tokenHolder s = some r →
      Machine.exec .tokenTimeout s = .next (settled s (raiseGrey
        (put (modPwr s (fun p => { p with overdue := r :: p.overdue })) F.PWR_TOKEN_holder 31) F.PWR_EVENT_token_timeout)))

/-- A reading of 100 °C joins the warnings and, where it is new, raises an Amber warning; one of 105 °C joins the throttles and, where it is
new, raises a Crimson throttle; a clear below 97 °C ends the sensor's throttle and warning, one below 102 °C its throttle, one of 102 °C or
more only shows the reading. Below 100 °C there is no warning. (R423) -/
def Obligations.Temperature : Prop :=
  ∀ (s : State) (x : Sensor) (t : Int),
    (1000 ≤ t → s.pwr.warnSet.contains x = false →
      Machine.exec (.tempWarning x t) s = .next (settled s (raise (showLevels
        (modPwr (showTemp s x t) (fun p => { p with warnSet := addSensor p.warnSet x }))) F.PWR_EVENT_warn .amber (sensorNo x)))) ∧
    (1000 ≤ t → s.pwr.warnSet.contains x = true →
      Machine.exec (.tempWarning x t) s = .next (settled s (showLevels
        (modPwr (showTemp s x t) (fun p => { p with warnSet := addSensor p.warnSet x }))))) ∧
    (t < 1000 → Machine.exec (.tempWarning x t) s = .next (settled s s)) ∧
    (1050 ≤ t → (tempWarning s x t).pwr.throttleSet.contains x = false →
      Machine.exec (.tempThrottle x t) s = .next (settled s (raise (showLevels
        (modPwr (tempWarning s x t) (fun p => { p with throttleSet := addSensor p.throttleSet x })))
        F.PWR_EVENT_throttle .crimson (sensorNo x)))) ∧
    (t < 970 →
      Machine.exec (.tempClear x t) s = .next (settled s (showLevels
        (modPwr (modPwr (showTemp s x t) (fun p => { p with throttleSet := p.throttleSet.filter (fun y => decide (y ≠ x)) }))
          (fun p => { p with warnSet := p.warnSet.filter (fun y => decide (y ≠ x)) }))))) ∧
    (970 ≤ t → t < 1020 →
      Machine.exec (.tempClear x t) s = .next (settled s (showLevels
        (modPwr (showTemp s x t) (fun p => { p with throttleSet := p.throttleSet.filter (fun y => decide (y ≠ x)) }))))) ∧
    (1020 ≤ t → Machine.exec (.tempClear x t) s = .next (settled s (showLevels (showTemp s x t))))

/-- Only the policy cluster and the warden request a state, by PWR_REQ or by a schedule entry's alarm. A write of PWR_REQ by a function is
discarded and counted. A target outside the allow mask answers NOT_ALLOWED. A request while a transition runs answers BUSY, except one for
ON, which acts as a wake. A second schedule entry of a region on the same frame answers BUSY. A request for the state the region is in
answers OK and does nothing else. Any other allowed request answers OK: an entry starts from ON, from IDLE after a wake, and from DIM or OFF
an exit starts, after which an entry follows where the target is not ON. (The order of the answers, BUSY where a fault, the safe state or
start-up fixes the region's state, and a change between two sleeping states are the model's choice, log entries 115 and 179.) (R414) -/
def Obligations.PowerRequest : Prop :=
  (∀ (s : State) (r : Requester) (n : PktRegion) (t : Fin 4), Reaches s r R.PWR_REQ true →
    (∀ i, r = .fn i → Machine.exec (.pwrRequest r n t) s = .next (settled s (inc s F.PWR_REQ_DENY_count))) ∧
    ((∀ i, r ≠ .fn i) → Machine.exec (.pwrRequest r n t) s =
      .next (settled s (powerRequest (put (put s F.PWR_REQ_domain n) F.PWR_REQ_target t) n t)))) ∧
  (∀ (old s : State) (k : Fin 32) (c : Nat) (late : Bool),
    let n := get old (F.PWR_SCHED_CTRL_domain k)
    let t := get old (F.PWR_SCHED_CTRL_target k)
    let at_ := (get old (F.PWR_SCHED_FN_fn k), s.clk.ticks)
    get (markFired s (168 + k.val) late) (F.PWR_SCHED_CTRL_state k) = 2 ∧
    (t ≠ 0 → Tab.find s.pwr.schedAt n = some at_ → moduleAct old s (168 + k.val) c = pwrResult s 1 0 0) ∧
    (t = 0 ∨ Tab.find s.pwr.schedAt n ≠ some at_ → moduleAct old s (168 + k.val) c =
      powerRequest { s with pwr := { s.pwr with schedAt := Tab.set s.pwr.schedAt n at_ } } n t)) ∧
  (∀ (u : State) (n : PktRegion) (t : Fin 4),
    let allowed := bit (get u (F.PWR_D_CFG_allow n)) (t.val - 1)
    let ok := t.val = 0 ∨ allowed = true
    let v := pwrResult u 0 0 0
    let w := portsDown (put v (F.PWR_D_STATE_state n) 0) n
    (t.val ≠ 0 → allowed = false → powerRequest u n t = pwrResult u 4 0 0) ∧
    (t.val ≠ 0 → allowed = true → regionBusy u n = true → powerRequest u n t = pwrResult u 1 0 0) ∧
    (t.val = 0 → regionBusy u n = true → powerRequest u n t = wake u n) ∧
    (ok → regionBusy u n = false → regionState u n = t.val → powerRequest u n t = v) ∧
    (ok → regionBusy u n = false → regionState u n ≠ t.val → powerFixed u n = true → powerRequest u n t = pwrResult u 1 0 0) ∧
    (t.val ≠ 0 → allowed = true → regionBusy u n = false → powerFixed u n = false → regionState u n = 0 →
      powerRequest u n t = startEntry v n t) ∧
    (t.val = 0 → regionBusy u n = false → powerFixed u n = false → regionState u n = 1 → powerRequest u n t = w) ∧
    (2 ≤ t.val → allowed = true → regionBusy u n = false → powerFixed u n = false → regionState u n = 1 → regionState w n = 0 →
      powerRequest u n t = startEntry w n t) ∧
    (t.val = 0 → regionBusy u n = false → powerFixed u n = false → 2 ≤ regionState u n → regionState u n ≤ 3 →
      powerRequest u n t = startExit v n (if regionState u n = 2 then .fromDim else .fromOff)) ∧
    (t.val ≠ 0 → allowed = true → regionBusy u n = false → powerFixed u n = false → 2 ≤ regionState u n → regionState u n ≤ 3 →
      regionState u n ≠ t.val →
      powerRequest u n t = modRegionPwr (startExit v n (if regionState u n = 2 then .fromDim else .fromOff)) n
        (fun p => { p with after := some t.val })))

/-- E1 ends when the pipelines and the read-ahead have drained; an entry step that is done begins the next, or with a wake before E5 undoes the
entry as ABORTED; an entry into IDLE ends with E3, any other with E5; an E1 that does not drain undoes the entry as DRAIN. X1 ends with its
ramp and gives the token up; the other exit steps follow each other, and X5 opens admission. A write releases latched pads of a region that
is ON, whose ports start from DOWN; elsewhere it does nothing. Memory training enables the region's memories, and the first time puts the
region into its init state. (R336, R411, R416, R417, R418, R419) -/
def Obligations.PowerSteps : Prop :=
  ∀ (s : State) (r : Requester) (n : PktRegion) (d : List (Option Dimm)),
    (regionBusy s n = true → 2 ≤ regionStep s n → regionStep s n ≤ 4 → get s (F.PWR_D_STATE_target n) ≠ 1 →
      ((regionPwr s n).wake = false → Machine.exec (.entryStepDone n) s = .next (settled s (entryStep s n (regionStep s n + 1)))) ∧
      ((regionPwr s n).wake = true → Machine.exec (.entryStepDone n) s = .next (settled s (entryUndo s n 3 (regionStep s n + 1))))) ∧
    (regionBusy s n = true → regionStep s n = 1 → (pipesHold s n = true ∨ (pkt s n).bpm.want ≠ []) →
      Machine.exec (.entryStepDone n) s = .next (settled s s)) ∧
    (regionBusy s n = true → regionStep s n = 1 → pipesHold s n = false → (pkt s n).bpm.want = [] →
      let next := if get s (F.PWR_D_STATE_target n) = 1 then 3 else 2
      ((regionPwr s n).wake = false → Machine.exec (.entryStepDone n) s = .next (settled s (entryStep s n next))) ∧
      ((regionPwr s n).wake = true → Machine.exec (.entryStepDone n) s = .next (settled s (entryUndo s n 3 next)))) ∧
    (regionBusy s n = true → regionStep s n = 3 → get s (F.PWR_D_STATE_target n) = 1 →
      ((regionPwr s n).wake = false → Machine.exec (.entryStepDone n) s = .next (settled s (entryEnd s n))) ∧
      ((regionPwr s n).wake = true → Machine.exec (.entryStepDone n) s = .next (settled s (entryUndo s n 3 3)))) ∧
    (regionBusy s n = true → regionStep s n = 5 → get s (F.PWR_D_STATE_target n) ≠ 1 →
      Machine.exec (.entryStepDone n) s = .next (settled s (entryEnd s n))) ∧
    (regionBusy s n = true → regionStep s n = 1 →
      Machine.exec (.entryDrainTimeout n) s = .next (settled s (entryUndo s n 5 1))) ∧
    (∀ kind k, (regionPwr s n).exit = some (kind, k) → 2 ≤ k → k ≠ 3 → k ≠ 5 →
      Machine.exec (.exitStepDone n) s =
        .next (settled s (modRegionPwr s n (fun p => { p with exit := some (kind, nextExit kind k) })))) ∧
    (∀ kind, (regionPwr s n).exit = some (kind, 1) → ramps s (regionRamp n) = true →
      Machine.exec (.exitStepDone n) s =
        .next (settled s (modRegionPwr (tokenRelease s (regionRamp n)) n (fun p => { p with exit := some (kind, nextExit kind 1) })))) ∧
    (∀ kind, (regionPwr s n).exit = some (kind, 5) → Machine.exec (.exitStepDone n) s = .next (settled s (exitEnd s n kind))) ∧
    (Reaches s r (R.PWR_D_PAD_RELEASE n) true → regionState s n = 0 → getB s (F.PWR_D_STATE_pads n) = true →
      Machine.exec (.padRelease r n) s = .next (settled s (sendStandings (portsDown (putB s (F.PWR_D_STATE_pads n) false) n) n))) ∧
    (Reaches s r (R.PWR_D_PAD_RELEASE n) true → (regionState s n ≠ 0 ∨ getB s (F.PWR_D_STATE_pads n) = false) →
      Machine.exec (.padRelease r n) s = .next (settled s s)) ∧
    (getB s (F.MEM_STATUS_hbm_ready n) = false → (regionPwr s n).exit = some (.fromOff, 3) →
      Machine.exec (.memoryTrainingDone n d) s = .next (settled s (memTrained s n d))) ∧
    (getB s (F.MEM_STATUS_hbm_ready n) = false → (regionPwr s n).exit ≠ some (.fromOff, 3) → regionState s n = 0 →
      let u := memTrained s n d
      let t := if bit u.pwr.initTaken n then 0 else Tab.getD u.bank.pwrInit n 0
      let v := put (put { u with pwr := { u.pwr with initTaken := setBits u.pwr.initTaken n 1 1 } } (F.PWR_D_STATE_state n) t) (F.PWR_D_STATE_target n) t
      let w := if 2 ≤ t then putB v (F.PWR_D_STATE_pads n) true else v
      Machine.exec (.memoryTrainingDone n d) s = .next (settled s (if t = 3 then packetReset w n true else w))) ∧
    (getB s (F.MEM_STATUS_hbm_ready n) = false → (regionPwr s n).exit ≠ some (.fromOff, 3) → regionState s n ≠ 0 →
      Machine.exec (.memoryTrainingDone n d) s = .next (settled s s)) ∧
    (getB s (F.MEM_STATUS_hbm_ready n) = true → Machine.exec (.memoryTrainingDone n d) s = .next (settled s s))

/-- A contained fault is counted as contained in its region. A fault of a region is recorded, and isolates the region unless it is isolated
already or in the safe state. A link fault takes both regions of its die. A report of the AON, or of a link without a packet region, is only
recorded. A hang is a fault where work waits and nothing else. A SCOPE fault of a line channel goes to its lane. One of kind 8 enters the
safe state with cause 4. A missed heartbeat isolates the control region. A lane retried that is ready is freed, one that is not is held OFF
and contained. A scrub counts what it corrected, shows tier 2's progress and passes, and poisons what it could not correct. (R337, R338,
R451, R452, R454, R455, R457, R462) -/
def Obligations.FaultHandling : Prop :=
  (∀ (s : State) (b : BitVec 8) (c : BitVec 16) (l : Lane),
    (∀ r : Fin 7, Machine.exec (.faultReport r 1 b c) s = .next (settled s (contained s r b.toNat c.toNat))) ∧
    (∀ (r : Fin 7) (k : Fin 9), (k = 2 ∨ k = 3 ∨ k = 4) → r.val ≤ 5 →
      Machine.exec (.faultReport r k b c) s = .next (settled s (regionFault s r k b.toNat c.toNat))) ∧
    (c.toNat < 128 → Machine.exec (.faultReport 4 5 b c) s = .next (settled s (scopeLane s c.toNat))) ∧
    (∀ r : Fin 7, r.val < 4 → Machine.exec (.faultReport r 6 b c) s =
      .next (settled s (linkFault s r b.toNat c.toNat))) ∧
    (∀ r : Fin 7, Machine.exec (.faultReport r 8 b c) s =
      .next (settled s (safeEnter (fltRecord s F.FLT_EVENT_region_fault .black 6 8 b.toNat c.toNat) 4))) ∧
    (∀ (r : Fin 7) (k : Fin 9), ((k = 2 ∨ k = 3 ∨ k = 4) ∧ r.val = 6) ∨ (k = 5 ∧ r.val = 6) ∨ (k = 6 ∧ 4 ≤ r.val) →
      Machine.exec (.faultReport r k b c) s =
        .next (settled s (fltRecord s F.FLT_EVENT_region_fault .crimson r k b.toNat c.toNat))) ∧
    (∀ r : Fin 6, hangWork s r b.toNat = true →
      Machine.exec (.hangDetect r b c) s = .next (settled s (regionFault s r 3 b.toNat c.toNat))) ∧
    (∀ r : Fin 6, hangWork s r b.toNat = false → Machine.exec (.hangDetect r b c) s = .next (settled s s)) ∧
    (∀ r k, let u := fltRecord s F.FLT_EVENT_region_fault .crimson r k b.toNat c.toNat
      ((getB u F.GLB_SAFE_safe = true ∨ inFault u r = true) → regionFault s r k b.toNat c.toNat = u) ∧
      (getB u F.GLB_SAFE_safe = false → inFault u r = false → regionFault s r k b.toNat c.toNat = isolate u r false)) ∧
    (getB s F.GLB_SAFE_safe = false → inFault s 5 = false → Machine.exec .heartbeatMiss s = .next (settled s (isolate s 5 false))) ∧
    ((laneSt s l).fltRetry = true → chanReady s l = true →
      Machine.exec (.scopeLaneRetryTimeout l) s =
        .next (settled s (modLane s l (fun x => { x with fltRetry := false, forceOff := false, fltHeld := false })))) ∧
    ((laneSt s l).fltRetry = true → chanReady s l = false →
      Machine.exec (.scopeLaneRetryTimeout l) s = .next (settled s (chanCheck (laneAdvance (contained
        (modLane s l (fun x => { x with fltRetry := false, forceOff := false, fltHeld := true })) 4 0x10 l) l) l)))) ∧
  (∀ (s : State) (n : PktRegion) (c : Fin 4) (ce u : Nat) (pct : Fin 101) (pass : Bool), regionStopped s n = false →
    Machine.exec (.patrolScrub n 0 c 0 none pct pass) s = .next (settled s s) ∧
    (ce ≠ 0 → Machine.exec (.patrolScrub n 0 c ce none pct pass) s =
      .next (settled s (monCount (addTo s (F.RPM_CE_COUNT_count n) ce) n 0x25 0x07 [] ce))) ∧
    (ce ≠ 0 → Machine.exec (.patrolScrub n 1 c ce none pct pass) s =
      .next (settled s (raiseGrey (addTo (monCount (addTo s (F.RPM_CE_COUNT_count n) ce) n 0x25 0x07 [] ce)
        (F.MEM_HBM_CE_count n) ce) (F.MEM_EVENT_hbm_ce n)))) ∧
    Machine.exec (.patrolScrub n 2 c 0 none pct true) s =
      .next (settled s (inc (put s (F.MEM_CH_SCRUB_pct n c) pct) (F.MEM_CH_SCRUB_passes n c))) ∧
    (ce ≠ 0 → Machine.exec (.patrolScrub n 2 c ce none pct false) s =
      .next (settled s (put (raiseAt (addTo (monCount (addTo s (F.RPM_CE_COUNT_count n) ce) n 0x25 0x07 [] ce)
        (F.MEM_CH_CE_count n c) ce) (F.MEM_EVENT_ch_ce n) .grey c [] 0) (F.MEM_CH_SCRUB_pct n c) pct))) ∧
    Machine.exec (.patrolScrub n 0 c 0 (some u) pct pass) s = .next (settled s (poisonCell s n u)) ∧
    Machine.exec (.patrolScrub n 1 c 0 (some u) pct pass) s =
      .next (settled s (raiseGrey (inc (poisonUnit s n 1 u) (F.MEM_HBM_UE_count n)) (F.MEM_EVENT_hbm_ue n))))

/-- F1 ends in F2 where the reset is ordered, or allowed by auto_reset within the limit; without auto_reset in HELD; past the limit F2 runs and
ends HELD with a Black event. F2's end loses the region's state and, for a packet region, starts its exit. A region in no fault step does
nothing. A HELD region restarts at F2 on an order at P1, with its count zeroed; an order below P1, or of a region that is not HELD, changes
nothing. (R455, R456, R457) -/
def Obligations.RegionReset : Prop :=
  ∀ (s : State) (r : Fin 6) (x : Requester), getB s F.GLB_SAFE_safe = false → (r.val = 4 → inFault s 5 = false) →
    let f := fltRegion s r
    let past := recentResets s r
    (f.step = 1 → f.manual = true → Machine.exec (.regionStepDone r) s = .next (settled s (startF2 s r))) ∧
    (f.step = 1 → f.manual = false → bit (get s F.FLT_CTRL_auto_reset) r = false →
      Machine.exec (.regionStepDone r) s = .next (settled s (holdRegion s r .grey))) ∧
    (f.step = 1 → f.manual = false → bit (get s F.FLT_CTRL_auto_reset) r = true → past.length < max 1 (get s F.FLT_CTRL_reset_limit) →
      Machine.exec (.regionStepDone r) s =
        .next (settled s (startF2 (modFlt s r (fun y => { y with resets := s.clk.ticks :: past })) r))) ∧
    (f.step = 1 → f.manual = false → bit (get s F.FLT_CTRL_auto_reset) r = true → max 1 (get s F.FLT_CTRL_reset_limit) ≤ past.length →
      Machine.exec (.regionStepDone r) s =
        .next (settled s (modCovered s r (fun y => { y with step := 2, overLimit := true })))) ∧
    (f.step = 2 → (fltRegion (f2Work s r) r).overLimit = true →
      Machine.exec (.regionStepDone r) s = .next (settled s (holdRegion (f2Work s r) r .black))) ∧
    (f.step = 2 → (fltRegion (f2Work s r) r).overLimit = false → r.val < 4 →
      Machine.exec (.regionStepDone r) s =
        .next (settled s (startExit (modCovered (f2Work s r) r (fun y => { y with step := 3 })) r .restart))) ∧
    (f.step = 0 → Machine.exec (.regionStepDone r) s = .next (settled s s)) ∧
    (Reaches s x (R.FLT_R_CTRL r) true → isP1 x = true → f.held = true →
      Machine.exec (.fltRegionReset x r) s = .next (settled s (startF2
        (modCovered s r (fun y => { y with resets := [], overLimit := false, manual := true })) r))) ∧
    (Reaches s x (R.FLT_R_CTRL r) true → (isP1 x = false ∨ f.held = false) →
      Machine.exec (.fltRegionReset x r) s = .next (settled s s))

/-- While the memories work a flush flushes every record; after a store failure a flush tick changes nothing; a flush tick that finds a failed
memory takes the store failure. A cursor write starts the requester's copy, whose end shows up to 64 records from the cursor with the log's
generation and whether there was a gap. The buckets refill; a limit written is kept within its bounds and its bucket starts full. Operating
time counts and is saved. While the log is open and has room a record joins it and advances EVR_SEQ_NEXT, a Black one Jet too, and records
2^30 behind go; without room for unflushed records it counts as dropped; once it is closed a Black one joins Jet and any other counts as
dropped. (R425, R433, R436, R438, R439, R440, R442, R443) -/
def Obligations.EventRecorder : Prop :=
  (∀ (s : State) (r : Requester) (c w : Word) (f : StoreFail),
    (getB s F.EVR_STATUS_store = false → s.evr.closed = false →
      Machine.exec (.evrFlushTick none) s = .next (settled s (flushAll s)) ∧
      (Reaches s r R.EVR_CTRL true → Machine.exec (.evrFlush r) s = .next (settled s (flushAll s)))) ∧
    (getB s F.EVR_STATUS_store = true → Machine.exec (.evrFlushTick none) s = .next (settled s s)) ∧
    Machine.exec (.evrFlushTick (some f)) s = .next (settled s (storeFailed s f)) ∧
    (Reaches s r R.EVR_CURSOR true →
      Machine.exec (.evrCursorWrite r c) s = .next (settled s (modWin s r (fun x => { x with cursor := c.toNat, busy := true })))) ∧
    ((logWin s r).busy = true →
      let l := recordsFrom s (logWin s r).cursor 64
      (l = [] → Machine.exec (.windowCopyDone r) s = .next (settled s
        (modWin s r (fun x => { x with busy := false, recs := [], gen := get s F.EVR_GEN_gen, gap := false })))) ∧
      (∀ x m, l = x :: m → Machine.exec (.windowCopyDone r) s = .next (settled s (modWin s r (fun y =>
        { y with busy := false, recs := x :: m, gen := get s F.EVR_GEN_gen
                 gap := decide (x.seq % 2 ^ 32 ≠ (logWin s r).cursor % 2 ^ 32) }))))) ∧
    Machine.exec .rateLimitRefill s = .next (settled s (refillBuckets s)) ∧
    (refillBuckets s).evr.agg = min 16384000 (s.evr.agg + 8192) ∧
    (Reaches s r R.EVR_RL_CFG true →
      Machine.exec (.evrRlCfgWrite r w) s = .next (settled s (modEvr
        (modBanks s 0x10 (fun k => { k with
          rateLimit := Tab.set k.rateLimit (get s F.EVR_RL_SEL_code) (sat 1024 (bits w.toNat 0 11), max 1 (sat 256 (bits w.toNat 16 9))) }))
        (fun e => { e with tokens := Tab.del e.tokens (get s F.EVR_RL_SEL_code) })))) ∧
    Machine.exec .opTimeTick s = .next (settled s (put s F.EVR_OPTIME_sec (get s F.EVR_OPTIME_sec + 1))) ∧
    Machine.exec .opTimeSave s = .next (settled s (modEvr s (fun e => { e with savedOp := get s F.EVR_OPTIME_sec })))) ∧
  (∀ (s : State) (r : Rec), getB s F.EVR_STATUS_store = false →
      let next (u : State) := put u F.EVR_SEQ_NEXT_seq (get s F.EVR_SEQ_NEXT_seq + 1)
      let logged (x : Rec) : State := { s with evr := { s.evr with log := s.evr.log ++ [x] } }
      let room := (s.evr.log.filter (fun x => !x.flushed)).length < 65536 ∧ s.evr.log.length < 262144
      (∀ u : State, (dropAged u).evr.log =
        u.evr.log.filter (fun x => decide ((get u F.EVR_SEQ_NEXT_seq + 2 ^ 32 - x.seq % 2 ^ 32) % 2 ^ 32 < 2 ^ 30))) ∧
      (s.evr.closed = true → r.sev = .black → s.evr.jet.length < 16 →
        (admitRec s r).evr.jet = s.evr.jet ++ [{ r with jet := true }] ∧ (admitRec s r).evr.log = (dropAged (next s)).evr.log) ∧
      (s.evr.closed = true → r.sev ≠ .black → admitRec s r = countDrop s r.sev) ∧
      (s.evr.closed = false → 65536 ≤ (s.evr.log.filter (fun x => !x.flushed)).length → admitRec s r = countDrop s r.sev) ∧
      (s.evr.closed = false → room → r.sev ≠ .black →
        (admitRec s r).evr.log = (dropAged (next (logged { r with jet := false }))).evr.log ∧ (admitRec s r).evr.jet = s.evr.jet) ∧
      (s.evr.closed = false → room → r.sev = .black → s.evr.jet.length < 16 →
        (admitRec s r).evr.log = (dropAged (next (logged { r with jet := true }))).evr.log ∧
        (admitRec s r).evr.jet = s.evr.jet ++ [{ r with jet := true }]))

/-- At P1 a challenge while locked answers LOCKED; otherwise, with EVR_CLR_UPTO before EVR_SEQ_NEXT, it gives a fresh nonce and result 0; a
response starts the check; below P1 neither does anything. The check clears the log when its nonce is fresh and the signature verifies, and
raises cleared; without a nonce, or with a wrong signature, it fails and raises clr_fail, and the third failure in a row locks until the
lock expires. (A challenge that is refused, and one that finds no warden, are the model's choice, log entry 133.) A live counter takes a
written value only while it is disabled; PMON_CTRL.freeze is as written. (R441, R446, R447) -/
def Obligations.LogClear : Prop :=
  ∀ (s : State) (r : Requester) (c : Fin 192) (v : BitVec 64) (on : Bool),
    (Reaches s r R.EVR_CLR_CTRL true → isP1 r = true → s.evr.locked = true →
      Machine.exec (.evrClrChallenge r) s = .next (settled s (put s F.EVR_CLR_CTRL_result 3))) ∧
    (Reaches s r R.EVR_CLR_CTRL true → isP1 r = true → s.evr.locked = false → s.wrd.down = false →
      seqAfter (get s F.EVR_SEQ_NEXT_seq) (get s F.EVR_CLR_UPTO_seq) = true →
      ∃ u, Machine.exec (.evrClrChallenge r) s = .next (settled s u) ∧ u.evr.nonceAt.isSome = true ∧ get u F.EVR_CLR_CTRL_result = 0 ∧
        u.free = s.free + 1) ∧
    (Reaches s r R.EVR_CLR_CTRL true → isP1 r = false → Machine.exec (.evrClrChallenge r) s = .next (settled s s) ∧
      Machine.exec (.evrClrRespond r) s = .next (settled s s)) ∧
    (Reaches s r R.EVR_CLR_CTRL true → isP1 r = true →
      Machine.exec (.evrClrRespond r) s = .next (settled s (modEvr s (fun e => { e with verifying := true })))) ∧
    (s.evr.verifying = true → s.wrd.down = false →
      let u := modEvr s (fun e => { e with verifying := false, nonceAt := none });
      let passes := raiseGrey (clearLog (modEvr (put u F.EVR_CLR_CTRL_result 1) (fun e => { e with fails := 0 }))) F.EVR_EVENT_cleared;
      let fails := raise (modEvr (put u F.EVR_CLR_CTRL_result 2)
        (fun e => { e with fails := (s.evr.fails + 1) % 3, locked := s.evr.locked || decide (3 ≤ s.evr.fails + 1) })) F.EVR_EVENT_clr_fail .amber 0;
      (s.evr.nonceAt = none → Machine.exec .clrVerifyDone s = .next (settled s fails)) ∧
      (∀ at_, s.evr.nonceAt = some at_ → s.clk.ticks - at_ ≤ usTicks 10000000 → Machine.exec .clrVerifyDone s = .next (settled s
        (if Config.ecdsaVerify s.flash.rootKey (clrMessage s) (arrayBytes s F.EVR_CLR_SIG_bits 24) then passes else fails)))) ∧
    Machine.exec .clrLockoutExpire s = .next (settled s (modEvr s (fun e => { e with locked := false }))) ∧
    (Reaches s r (ctrLive c).addr true → getB s (ctrEn c) = false →
      Machine.exec (.counterWrite r c v) s = .next (settled s (put s (ctrLive c) v.toNat))) ∧
    (Reaches s r (ctrLive c).addr true → getB s (ctrEn c) = true → Machine.exec (.counterWrite r c v) s = .next (settled s s)) ∧
    (Reaches s r R.PMON_CTRL true → Machine.exec (.pmonFreeze r on) s = .next (settled s (putB s F.PMON_CTRL_freeze on)))

/-- IDENT, STATUS, JET_READ and LOG_READ answer OK with their data, in the frame of R135, and change only the command count; JET_READ beyond
record 15 answers RANGE, and 64 zero bytes for an empty record. LASER_OFF sets the kill bits it names and clears none. SAFE_ENTER answers
and enters the safe state with cause 5. REGION_RESET and MODULE_RESET answer DENIED and are counted unless ctl_en is 1; with it REGION_RESET
answers RANGE above region 5 and isolates a region that is in no fault step and not HELD, and MODULE_RESET resets the module. (R135, R460,
R461) -/
def Obligations.Console : Prop :=
  ∀ (s : State) (j m r : BitVec 8) (q : BitVec 32) (bad : Option StoreFail),
    let counted := inc s F.GLB_CON_COUNT_cmds
    Machine.exec .consoleIdent s = .next (settled s (emit counted (.console (conFrame 0 (beBytes 2 (get s F.GLB_PART_part) ++
      beBytes 1 (get s F.GLB_STEP_step) ++ beBytes 8 (lsi s) ++ beBytes 4 (get s F.EVR_OPTIME_sec) ++ beBytes 3 (get s F.EVR_PCYCLE_count)))))) ∧
    Machine.exec .consoleStatus s = .next (settled s (emit counted (.console (conFrame 0
      ([R.GLB_SAFE, R.FLT_STATUS, R.PWR_STATUS].flatMap (fun a => beBytes 4 (rdWord s a).toNat)))))) ∧
    (∀ x, nth s.evr.jet j.toNat = some x → j.toNat ≤ 15 →
      Machine.exec (.consoleJetRead j) s = .next (settled s (emit counted (.console (conFrame 0 (recBytes x)))))) ∧
    (nth s.evr.jet j.toNat = none → j.toNat ≤ 15 →
      Machine.exec (.consoleJetRead j) s = .next (settled s (emit counted (.console (conFrame 0 (List.replicate 64 0)))))) ∧
    (15 < j.toNat → Machine.exec (.consoleJetRead j) s = .next (settled s (emit counted (.console (conFrame 3 []))))) ∧
    Machine.exec (.consoleLogRead q) s = .next (settled s (emit counted (.console (conFrame 0
      (beBytes 1 (recordsFrom s q.toNat 8).length ++ (recordsFrom s q.toNat 8).flatMap recBytes))))) ∧
    (∃ u, Machine.exec (.consoleLaserOff m) s = .next (settled s (emit (inc u F.GLB_CON_COUNT_cmds) (.console (conFrame 0 [])))) ∧
      u = putKill s (getB s F.SAF_CTRL_kill_a || bit m.toNat 0) (getB s F.SAF_CTRL_kill_b || bit m.toNat 1)) ∧
    Machine.exec .consoleSafeEnter s = .next (settled s (safeEnter (emit counted (.console (conFrame 0 []))) 5)) ∧
    (getB s F.GLB_CON_CTRL_ctl_en = false →
      Machine.exec (.consoleRegionReset r) s = .next (settled s (emit (inc counted F.GLB_CON_COUNT_denied) (.console (conFrame 1 [])))) ∧
      Machine.exec (.consoleModuleReset bad) s = .next (settled s (emit (inc counted F.GLB_CON_COUNT_denied) (.console (conFrame 1 []))))) ∧
    (getB s F.GLB_CON_CTRL_ctl_en = true →
      (5 < r.toNat → Machine.exec (.consoleRegionReset r) s = .next (settled s (emit counted (.console (conFrame 3 []))))) ∧
      (r.toNat ≤ 5 → getB s F.GLB_SAFE_safe = false → (fltRegion s r.toNat).step = 0 → (r.toNat = 4 → inFault s 5 = false) →
        (fltRegion (emit counted (.console (conFrame 0 []))) r.toNat).held = false →
        Machine.exec (.consoleRegionReset r) s = .next (settled s (isolate (emit counted (.console (conFrame 0 []))) r.toNat true))) ∧
      (s.pwr.thermalHold = false → ∃ t, Machine.exec (.consoleModuleReset bad) s = .next t ∧
        t.clk = {} ∧ t.epc = {} ∧ t.bank = resetBank ∧ t.pwr.inReset = false)) ∧
    (∀ (c : Nat) (d : List Byte), conFrame c d = uartFrame (beBytes 1 c ++ d))

/-- An I2C command written while its master is busy answers BUSY and is discarded; without go it only sets its fields; with go an enabled master
is busy and one transaction goes out; the end of a transaction stores code, count and data and clears busy. A GPIO edge moves its pin.
IDCODE shifts its value out, BYPASS loads, SAMPLE/PRELOAD takes the preloaded values, and the instructions that drive the lands do so only
while RESET_N and LASER_EN are low, else they act as BYPASS. A UART frame is one message of the transmit buffer, or is dropped; SPI answers
its levels and the message in front, which it takes out, and writes only while it is the sink. (R134, R135, R136, R137, R412, R480, R481,
R482, R483) -/
def Obligations.ManagementPorts : Prop :=
  ∀ (s : State) (r : Requester) (b : Fin 4) (w : Word) (code : Fin 5) (n : Fin 256) (bs : List Byte) (k : Fin 32) (x : Bool) (vs : List Bool) (m : List Byte),
    let fits := m ≠ [] ∧ m.length ≤ 4096 ∧ txBytes s + m.length ≤ 65536;
    let entered := showMch (modMch s (fun x => { x with txBuf := x.txBuf ++ [m] }));
    let dropped := raiseGrey (inc s F.MCH_TX_DROP_count) F.MCH_EVENT_tx_drop;
    (Reaches s r (R.GLB_I2C_CMD b) true → getB s (F.GLB_I2C_RESULT_busy b) = true →
      Machine.exec (.i2cCommand r b w) s = .next (settled s (put s (F.GLB_I2C_RESULT_code b) 5))) ∧
    (Reaches s r (R.GLB_I2C_CMD b) true → getB s (F.GLB_I2C_RESULT_busy b) = false → bit w.toNat 31 = false →
      Machine.exec (.i2cCommand r b w) s = .next (settled s (put (put (put s (F.GLB_I2C_CMD_addr b) w.toNat)
        (F.GLB_I2C_CMD_wlen b) (w.toNat / 2 ^ 8)) (F.GLB_I2C_CMD_rlen b) (w.toNat / 2 ^ 16)))) ∧
    (Reaches s r (R.GLB_I2C_CMD b) true → getB s (F.GLB_I2C_RESULT_busy b) = false → bit w.toNat 31 = true → getB s (F.GLB_I2C_CTRL_en b) = true →
      ∃ t ws rd, Machine.exec (.i2cCommand r b w) s = .next t ∧ getB t (F.GLB_I2C_RESULT_busy b) = true ∧
        get t (F.GLB_I2C_CMD_addr b) = w.toNat % 2 ^ (F.GLB_I2C_CMD_addr b).w ∧
        t.outbox = Output.i2c b (get t (F.GLB_I2C_CMD_addr b)) ws rd (i2cSt s b).owesClear :: s.outbox) ∧
    (getB s (F.GLB_I2C_RESULT_busy b) = true →
      Machine.exec (.i2cDone b code n bs) s = .next (settled s (i2cStore (put (put
        (putB s (F.GLB_I2C_RESULT_busy b) false) (F.GLB_I2C_RESULT_code b) code) (F.GLB_I2C_RESULT_done b) (n / 8)) b bs))) ∧
    (getB s (F.GLB_I2C_RESULT_busy b) = false → Machine.exec (.i2cDone b code n bs) s = .next (settled s s)) ∧
    Machine.exec (.gpioEdge k x) s =
      .next (settled s (gpioSettle { s with pins := { s.pins with gpio := setBits s.pins.gpio k 1 (b2n x) } })) ∧
    (let tap (i a : TapInstr) (low : Bool) : State := { s with tap := { s.tap with ir := i, acts := a }, pins := { s.pins with trstN := true, resetN := !low } };
      Machine.exec .idcode s = .next (settled s (emit (tap .idcode .idcode (!s.pins.resetN)) (.tdo 0x26425B47))) ∧
      Machine.exec .bypass s = .next (settled s (tap .bypass .bypass (!s.pins.resetN))) ∧
      (∃ v, Machine.exec (.samplePreload vs) s = .next (settled s (stepFree (emit
        { tap .samplePreload .samplePreload (!s.pins.resetN) with tap := { s.tap with ir := .samplePreload, acts := .samplePreload, preload := vs } }
        (.tdo v))))) ∧
      (s.pins.laserEn = false →
        Machine.exec (.extest true) s = .next (settled s (emit (tap .extest .extest true) (.boundary s.tap.preload))) ∧
        Machine.exec (.clamp true) s = .next (settled s (emit (tap .clamp .clamp true) (.boundary s.tap.preload))) ∧
        Machine.exec (.highz true) s = .next (settled s (emit (tap .highz .highz true) (.boundary []))) ∧
        Machine.exec (.extestPulse true) s = .next (settled s (emit (tap .extestPulse .extestPulse true) (.boundary s.tap.preload))) ∧
        Machine.exec (.extestTrain true) s = .next (settled s (emit (tap .extestTrain .extestTrain true) (.boundary s.tap.preload)))) ∧
      (x = false ∨ s.pins.laserEn = true →
        Machine.exec (.extest x) s = .next (settled s (tap .extest .bypass x)) ∧
        Machine.exec (.clamp x) s = .next (settled s (tap .clamp .bypass x)) ∧
        Machine.exec (.highz x) s = .next (settled s (tap .highz .bypass x)) ∧
        Machine.exec (.extestPulse x) s = .next (settled s (tap .extestPulse .bypass x)) ∧
        Machine.exec (.extestTrain x) s = .next (settled s (tap .extestTrain .bypass x)))) ∧
    (s.tap.ir.drives = true → s.pins.resetN = true ∨ s.pins.laserEn = true →
      tapSettle s = { s with tap := { s.tap with acts := .bypass } }) ∧
    (s.tap.ir.drives = true → s.pins.resetN = false → s.pins.laserEn = false → s.tap.acts ≠ s.tap.ir →
      tapSettle s = emit { s with tap := { s.tap with acts := s.tap.ir } } (.boundary (if s.tap.ir = .highz then [] else s.tap.preload))) ∧
    (get s F.MCH_CTRL_sink ≠ 1 → Machine.exec (.mchUartFrameRx bs) s = .next (settled s s)) ∧
    (get s F.MCH_CTRL_sink = 1 → uartMessage bs = none → Machine.exec (.mchUartFrameRx bs) s = .next (settled s dropped)) ∧
    (get s F.MCH_CTRL_sink = 1 → uartMessage bs = some m → fits → Machine.exec (.mchUartFrameRx bs) s = .next (settled s entered)) ∧
    (get s F.MCH_CTRL_sink = 2 → fits → Machine.exec (.spiWrite m) s = .next (settled s entered)) ∧
    (get s F.MCH_CTRL_sink = 2 → ¬ fits → Machine.exec (.spiWrite m) s = .next (settled s dropped)) ∧
    (get s F.MCH_CTRL_sink ≠ 2 → Machine.exec (.spiWrite m) s = .next (settled s s)) ∧
    Machine.exec .spiStatus s = .next (settled s (emit s (.spi (beBytes 2 (spiHead s).length ++ beBytes 2 ((65536 - txBytes s) / 16))))) ∧
    (spiHead s = [] → Machine.exec .spiRead s = .next (settled s (emit s (.spi (beBytes 2 0))))) ∧
    (spiHead s = m → m ≠ [] → ∃ v, v = mchPop (inc (emit s (.spi (beBytes 2 m.length ++ m))) F.MCH_RX_MSG_count) ∧
      Machine.exec .spiRead s = .next (settled s (mchServe v [] (v.mch.rxBuf.length + 1))))

/-- A rate word of a domain that is set takes effect from its value now, and a rebase leaves that value; of an UNSET domain it is only kept. A
step adds signed nanoseconds to a set domain and does nothing to an UNSET one. A set with go gives the domain the written seconds and
nanoseconds now, without go it keeps the nanoseconds. DOMAIN_REBASE rebases every set domain. A domain goes to holdover from state 2 only. A
conversion keeps its result for the requester. A latch write latches. (R345, R347, R348, R349, R354) -/
def Obligations.TimeDomains : Prop :=
  ∀ (s : State) (r : Requester) (d : Fin 3) (w : Word) (raw : BitVec 64) (k : Fin 4),
    (Reaches s r (R.TSU_D_RATE d) true → domState s d ≠ 0 →
      Machine.exec (.tsuRateWrite r d w) s =
        .next (settled s (firmwareSteers (openSeg (put (rebase s d) (F.TSU_D_RATE_rho d) w.toNat) d) d))) ∧
    (Reaches s r (R.TSU_D_RATE d) true → domState s d = 0 →
      Machine.exec (.tsuRateWrite r d w) s = .next (settled s (put s (F.TSU_D_RATE_rho d) w.toNat))) ∧
    (Reaches s r (R.TSU_D_STEP d) true → domState s d ≠ 0 →
      Machine.exec (.tsuStepWrite r d w) s =
        .next (settled s (firmwareSteers (openSeg (modDom s d (fun x => { x with off := x.off + w.toInt * 2 ^ 32 })) d) d))) ∧
    (Reaches s r (R.TSU_D_STEP d) true → domState s d = 0 → Machine.exec (.tsuStepWrite r d w) s = .next (settled s s)) ∧
    (Reaches s r (R.TSU_D_SET_NS d) true → bit w.toNat 31 = false →
      Machine.exec (.tsuSet r d w) s = .next (settled s (put s (F.TSU_D_SET_NS_ns d) (bits w.toNat 0 30)))) ∧
    (Reaches s r (R.TSU_D_SET_NS d) true → bit w.toNat 31 = true →
      ∃ t, Machine.exec (.tsuSet r d w) s = .next (settled s t) ∧ (dom t d).anchor = rawAbs s ∧
        (dom t d).off = ((get s (F.TSU_D_SET_SEC_sec d) * 1000000000 + bits w.toNat 0 30 : Nat) : Int) * 2 ^ 32 ∧
        (domState t d = if domState s d = 2 ∧ hasRef s d = true then 2 else 1)) ∧
    Machine.exec .domainRebase s =
      .next (settled s ([0, 1, 2].foldl (fun u x => if domState u x = 0 then u else rebase u x) s)) ∧
    (∀ x, domValue (rebase s x) x (rawAbs s) = domValue s x (rawAbs s)) ∧
    (domState s d = 2 →
      Machine.exec (.domainHoldover d) s = .next (settled s (raiseGrey (setDomState s d 3) (holdEvent d)))) ∧
    (domState s d ≠ 2 → Machine.exec (.domainHoldover d) s = .next (settled s s)) ∧
    (Reaches s r R.TSU_CONV_IN true →
      Machine.exec (.tsuConvert r raw k) s = .next (settled s (stepFree { s with tsu := { s.tsu with
        conv := Tab.set s.tsu.conv (reqNum r) ⟨raw.toNat, k, (convert s k raw.toNat).2, (convert s k raw.toNat).1⟩ } }))) ∧
    (Reaches s r R.TSU_LATCH true → Machine.exec (.tsuLatch r) s = .next (settled s (latchWrite r s)))

/-- The end of the served slew, and a write of resid_clr, begin a piece with r = 0. An edge of PPS_OUT goes out while its output runs, and that
of PPS_OUT_0 makes a time-of-day message due. An edge of PPS_IN is stamped, counted and raised. The message goes out once while tod_en is 1:
16 bytes, 0xC5, 0x3A, the second in 6 bytes most significant first, and the CRC-32C of the first twelve, least significant byte first.
(R353, R355, R361, R364) -/
def Obligations.TimePins : Prop :=
  (∀ (s : State) (r : Requester) (k : Fin 2),
    (∀ p l, s.tsu.served = p :: l →
      Machine.exec .servedSlewEnd s = .next (settled s (pushPiece s p.base 0 false)) ∧
      (Reaches s r R.TSU_CTRL true → Machine.exec (.residClr r) s = .next (settled s (pushPiece s p.base 0 false)))) ∧
    (s.tsu.served = [] → Machine.exec .servedSlewEnd s = .next (settled s s)) ∧
    (ppsRuns s k = false → Machine.exec (.ppsOutEdge k) s = .next (settled s s)) ∧
    (ppsRuns s 1 = true → Machine.exec (.ppsOutEdge 1) s =
      .next (settled s (emit s (.pps 1 (!getB s (F.TSU_PPS_CFG_invert 1)) (get s (F.TSU_PPS_CFG_width 1)))))) ∧
    (ppsRuns s 0 = true → ∃ sec, Machine.exec (.ppsOutEdge 0) s =
      .next (settled s { emit s (.pps 0 (!getB s (F.TSU_PPS_CFG_invert 0)) (get s (F.TSU_PPS_CFG_width 0))) with
        tsu := { s.tsu with pps0 := some sec } })) ∧
    (∀ u, u = raiseGrey (inc (put s (F.TSU_PPSIN_LFC_raw k) (rawTime s)) (F.TSU_PPSIN_COUNT_count k))
        (if k.val = 0 then F.TSU_EVENT_ppsin_0 else F.TSU_EVENT_ppsin_1) → get u F.TSU_CTRL_local_src ≠ k.val + 1 →
      Machine.exec (.ppsInEdge k) s = .next (settled s u)) ∧
    (∀ sec, s.tsu.pps0 = some sec → getB s F.TSU_CTRL_tod_en = true →
      Machine.exec .todMessage s = .next (settled s (emit { s with tsu := { s.tsu with pps0 := none } } (.tod (todBytes s sec))))) ∧
    (s.tsu.pps0 = none → Machine.exec .todMessage s = .next (settled s s))) ∧
  (∀ (s : State) (sec : Nat), (todBytes s sec).length = 16 ∧ (todBytes s sec).take 2 = [0xC5, 0x3A] ∧
    beNat ((todBytes s sec).drop 2 |>.take 6) = sec % 2 ^ 48 ∧
    leNat ((todBytes s sec).drop 12) = crc32c ((todBytes s sec).take 12) % 2 ^ 32)

/-- A write of WRD_CMD sets its fields. SET_PREF answers BUSY while a command runs and otherwise sets the preferred slot; POLICY_WRITE and
WARDEN_WRITE answer the code of the first check that fails, or the code for a slot in use, else the slot is erased and the write starts;
WARDEN_WRITE below P0 answers PRIV. KEY_ADD refuses a revoked index and stores a key in an empty one; KEY_REVOKE deletes and revokes.
CAL_UNLOCK unlocks for the module's own serial and refuses another; CAL_WRITE and CAL_SAVE_RX need the unlock and a file that passes;
CAL_READ writes the stored file to the host. (R370, R371, R373, R466, 16_policy_firmware.md) -/
def Obligations.WardenCommands : Prop :=
  ∀ (s : State) (r : Requester) (b : Bool) (img key : List Byte) (k : Fin 4), Reaches s r R.WRD_CMD true →
    let slotted (op : Nat) := putB (put s F.WRD_CMD_op op) F.WRD_CMD_slot b;
    let keyed (op : Nat) := put (put s F.WRD_CMD_op op) F.WRD_CMD_key k.val;
    let plain (op : Nat) := put s F.WRD_CMD_op op;
    let free (u : State) := getB u F.WRD_RESULT_busy = false ∧ s.wrd.down = false;
    let cal := (img ++ List.replicate calBytes 0xFF).take calBytes;
    (getB (slotted 5) F.WRD_RESULT_busy = true → Machine.exec (.setPref r b) s =
      .next (settled s (raise (put (slotted 5) F.WRD_RESULT_code 1) F.WRD_EVENT_cmd_fail .grey 1))) ∧
    (free (slotted 5) → isP1 r = true → Machine.exec (.setPref r b) s =
      .next (settled s (wrdEnd (putB (slotted 5) F.WRD_STATUS_boot_pref b) 0))) ∧
    (free (slotted 1) → isP1 r = true → Machine.exec (.policyWrite r b img) s = .next (settled s
      (if fwCheck (slotted 1) false img ≠ 0 then wrdEnd (slotted 1) (fwCheck (slotted 1) false img)
       else if runsSlot (slotted 1) b then wrdEnd (slotted 1) 6 else wrdJob (putPolSlot (slotted 1) b none) (.policy b img)))) ∧
    (free (slotted 2) → isP0 (slotted 2) r = false → Machine.exec (.wardenWrite r b img) s = .next (settled s (wrdEnd (slotted 2) 2))) ∧
    (free (slotted 2) → isP0 (slotted 2) r = true → Machine.exec (.wardenWrite r b img) s = .next (settled s
      (if fwCheck (slotted 2) true img ≠ 0 then wrdEnd (slotted 2) (fwCheck (slotted 2) true img)
       else if getB (slotted 2) F.WRD_STATUS_wslot = b then wrdEnd (slotted 2) 6
       else wrdJob (putWrdSlot (slotted 2) b none) (.warden b img)))) ∧
    (free (keyed 3) → isP0 (keyed 3) r = true → bit (get (keyed 3) F.WRD_KEYS_revoked) k = true →
      Machine.exec (.keyAdd r k key) s = .next (settled s (wrdEnd (keyed 3) 8))) ∧
    (free (keyed 3) → isP0 (keyed 3) r = true → bit (get (keyed 3) F.WRD_KEYS_revoked) k = false → bit (get (keyed 3) F.WRD_KEYS_valid) k = false →
      Machine.exec (.keyAdd r k key) s = .next (settled s (wrdEnd (put
        { keyed 3 with flash := { s.flash with polKeys := Tab.set s.flash.polKeys k (key.take 97) } }
        F.WRD_KEYS_valid (setBits (get (keyed 3) F.WRD_KEYS_valid) k 1 1)) 0))) ∧
    (free (keyed 4) → isP0 (keyed 4) r = true → ∃ u, Machine.exec (.keyRevoke r k) s = .next (settled s (wrdEnd u 0)) ∧
      u.flash.polKeys = Tab.del s.flash.polKeys k ∧ get u F.WRD_KEYS_revoked = setBits (get (keyed 4) F.WRD_KEYS_revoked) k 1 1 % 16) ∧
    (free (plain 6) → isP0 (plain 6) r = true → get (plain 6) F.WRD_LEN_len = get (plain 6) F.ACT_LSI_lsi % 2 ^ 24 →
      Machine.exec (.calUnlock r) s = .next (settled s (wrdEnd (calLock (plain 6) true) 0))) ∧
    (free (plain 6) → isP0 (plain 6) r = true → get (plain 6) F.WRD_LEN_len ≠ get (plain 6) F.ACT_LSI_lsi % 2 ^ 24 →
      Machine.exec (.calUnlock r) s = .next (settled s (wrdEnd (calLock (plain 6) false) 9))) ∧
    (free (plain 7) → isP0 (plain 7) r = true → s.cal.unlocked = false →
      Machine.exec (.calWrite r img) s = .next (settled s (wrdEnd (plain 7) 9))) ∧
    (free (plain 7) → isP0 (plain 7) r = true → s.cal.unlocked = true → Machine.exec (.calWrite r img) s = .next (settled s
      (if calCheck (plain 7) cal ≠ 0 then wrdEnd (plain 7) 10 else wrdJob (calPut (plain 7) []) (.cal cal)))) ∧
    (free (plain 8) → isP0 (plain 8) r = true → s.cal.unlocked = true →
      let f := (calWithRx (plain 8) ++ List.replicate calBytes 0xFF).take calBytes;
      Machine.exec (.calSaveRx r) s = .next (settled s
        (if calCheck (plain 8) f ≠ 0 then wrdEnd (plain 8) 10 else wrdJob (calPut (plain 8) []) (.cal f)))) ∧
    (free (plain 9) → isP1 r = true → Machine.exec (.calRead r) s =
      .next (settled s (wrdEnd (emit (plain 9) (.hostWrite 0 (get (plain 9) F.WRD_ADDR_addr) (calStored (plain 9)))) 0)))

/-- A policy, warden or calibration write that reads back good stores its slot or file, a written warden slot becomes the preferred one, and the
result is OK; one that does not ends with code 7; the calibration store relocks at the end of its write and at its limit; with no job
nothing ends. The warden's watchdog stops it, cuts its job and takes P0; its restart, with no command waiting, brings it back where a slot
verifies; a warden image on trial is confirmed with its floor, or abandoned when its time is over (log entry 229); each does nothing where
the warden is already so. (R371, R373, R380, R466) -/
def Obligations.WardenWorkEnds : Prop :=
  ∀ (s : State) (r : Requester) (b : Bool) (img : List Byte) (f : FwSlot),
    let done := put (modWrd s (fun w => { w with job := none })) F.WRD_RESULT_pct 100;
    (s.wrd.job = some (.policy b img) →
      Machine.exec (.policyWriteDone true) s = .next (settled s (wrdEnd (putPolSlot done b (some (fwSlot img))) 0)) ∧
      Machine.exec (.policyWriteDone false) s = .next (settled s (wrdEnd done 7))) ∧
    (s.wrd.job = some (.warden b img) →
      (∃ u, Machine.exec (.wardenWriteDone true) s = .next (settled s (wrdEnd u 0)) ∧ wrdSlot u b = some (fwSlot img) ∧
        u.flash.wrdPref = b ∧ u.regs = done.regs) ∧
      Machine.exec (.wardenWriteDone false) s = .next (settled s (wrdEnd done 7))) ∧
    (s.wrd.job = some (.cal img) →
      (∃ u, Machine.exec (.calWriteDone true) s = .next (settled s (wrdEnd (calLock u false) 0)) ∧ u.flash.cal = img) ∧
      (∃ u, Machine.exec (.calWriteDone false) s = .next (settled s (wrdEnd (calLock u false) 7)))) ∧
    (s.wrd.job = none → Machine.exec (.policyWriteDone b) s = .next (settled s s) ∧
      Machine.exec (.wardenWriteDone b) s = .next (settled s s) ∧ Machine.exec (.calWriteDone b) s = .next (settled s s)) ∧
    (s.cal.unlocked = true → Machine.exec .calUnlockExpire s = .next (settled s (calLock s false))) ∧
    (s.cal.unlocked = false → Machine.exec .calUnlockExpire s = .next (settled s s)) ∧
    (wardenTrial s = some f → getB s F.CPL_STATUS_trial = false →
      Machine.exec .trialTimeout s = .next (settled s (wardenFails s)) ∧
      (Reaches s r R.CPL_CTRL true → Machine.exec (.trialConfirm r) s = .next (settled s
        { putWrdSlot s (getB s F.WRD_STATUS_wslot) (some { f with trial := false }) with
          flash := { (putWrdSlot s (getB s F.WRD_STATUS_wslot) (some { f with trial := false })).flash with wrdFloor := max s.flash.wrdFloor f.svn } }))) ∧
    (s.wrd.down = true → Machine.exec .wardenWdtExpire s = .next (settled s s)) ∧
    (s.wrd.down = false → ∃ t, Machine.exec .wardenWdtExpire s = .next t ∧ t.wrd.down = true ∧ t.wrd.job = none ∧
      t.hif.p0 = false ∧ getB t F.WRD_STATUS_running = false) ∧
    (s.wrd.down = false → Machine.exec .wardenRestartDone s = .next (settled s s)) ∧
    (s.wrd.down = true → ∃ t, Machine.exec .wardenRestartDone s = .next t ∧ (s.wrd.waiting = none →
      t.wrd.down = (wardenPick s (wardenNext s)).isNone))

/-- A restart resets the cluster and boots the preferred slot; in FAILED, below P1, it does nothing. A halt of a booting or running cluster
stops it. When the cores are due the slot that may boot is checked: with a good image its data is copied and the cluster runs from it,
otherwise it is FAILED with a Black event. A confirmed trial keeps its slot and raises the minimum SVN; one that times out restarts from the
other slot. A kick is noted; a core that kicked goes on at the end of its period, one that did not resets the cluster. (Doing nothing in
FAILED below P1 is the model's choice, log entry 108.) (R371, R372, R373, R380, R381) -/
def Obligations.PolicyCluster : Prop :=
  ∀ (s : State) (r : Requester) (v : BitVec 8) (c : Fin 8) (f : FwSlot),
    let slot := getB s F.CPL_STATUS_slot;
    (Reaches s r R.CPL_CTRL true →
      (cplState s ≠ 4 → Machine.exec (.clusterRestart r) s = .next (settled s (cplBoot (cplReset s 2 0) (bootPref s)))) ∧
      (cplState s = 4 → isP1 r = false → Machine.exec (.clusterRestart r) s = .next (settled s s)) ∧
      (cplState s = 1 ∨ cplState s = 2 → Machine.exec (.clusterHalt r) s = .next (settled s (cplReset s 3 3))) ∧
      (cplState s ≠ 1 → cplState s ≠ 2 → Machine.exec (.clusterHalt r) s = .next (settled s s)) ∧
      (wardenTrial s = none → cplState s = 2 → getB s F.CPL_STATUS_trial = true → polSlot s slot = some f →
        Machine.exec (.trialConfirm r) s = .next (settled s (putMax
          (putB (putPolSlot s slot (some { f with trial := false })) F.CPL_STATUS_trial false) F.WRD_MIN_SVN_svn f.svn)))) ∧
    (wardenTrial s = none → cplState s = 2 → getB s F.CPL_STATUS_trial = true →
      let u := putB (cplReset s 4 0) F.WRD_STATUS_boot_pref (!slot);
      Machine.exec .trialTimeout s = .next (settled s (cplBoot (raiseGrey u F.CPL_EVENT_trial_revert) (!slot)))) ∧
    (wardenTrial s = none → getB s F.CPL_STATUS_trial = false → Machine.exec .trialTimeout s = .next (settled s s)) ∧
    (cplState s = 1 → s.wrd.down = false →
      let pick := if slotBoots s slot then slot else !slot;
      (polSlot s pick = none → Machine.exec .clusterCoresReleased s = .next (settled s (raise (cplStop s 4) F.CPL_EVENT_failed .black 0))) ∧
      (polSlot s pick = some f → Machine.exec .clusterCoresReleased s = .next (settled s
        (if slotBoots s pick then modCpl (put (putB (putB (put
            (sramWrite s 0 (sub f.bytes (le f.bytes 0x18 4) (le f.bytes 0x1C 4))) F.CPL_STATUS_state 2)
            F.CPL_STATUS_slot pick) F.CPL_STATUS_trial f.trial) F.CPL_STATUS_cores_up 0xFF) (fun x => { x with kicked := 0, startedAt := ticks s })
         else raise (cplStop s 4) F.CPL_EVENT_failed .black 0)))) ∧
    (Reaches s r R.CPL_WDT_KICK true →
      Machine.exec (.wdtKick r v) s = .next (settled s (modCpl s (fun x => { x with kicked := (x.kicked ||| v.toNat) % 256 })))) ∧
    (cplState s = 2 → bit (get s F.CPL_WDT_core_mask) c = true → bit s.cpl.kicked c = true →
      Machine.exec (.clusterWdtExpire c) s = .next (settled s (modCpl s (fun x => { x with kicked := setBits x.kicked c 1 0 })))) ∧
    (cplState s = 2 → bit (get s F.CPL_WDT_core_mask) c = true → bit s.cpl.kicked c = false →
      Machine.exec (.clusterWdtExpire c) s = .next (settled s (wdtReset s))) ∧
    (cplState s ≠ 2 → Machine.exec (.clusterWdtExpire c) s = .next (settled s s))

/-- A FREE slot is POSTED, claimed as TAKEN, completed as DONE and freed by its acknowledgement; a post or an acknowledgement by another
function or in another state is discarded and counted; a POSTED slot whose time is over is DONE with result 1 and raises mbx_timeout. A
valid descriptor is consumed: a bad length is discarded with inj_bad, and any other frame goes to its region over the line die, where a
closed region discards it, a full holding area drops it with 0x62 and a region in an entry's first steps holds it. While the control region
is isolated none crosses. Without a running cluster nothing is claimed, completed or injected. (The holding area's credits and the
descriptor's layout are the model's reading, log entries 183 and 90.) (R23, R25, R298, R375, R376, R378, R416, R457) -/
def Obligations.MailboxAndInjection : Prop :=
  ∀ (s : State) (r : Requester) (k : Fin 64) (i : Fin 16) (desc frame : List Byte),
    (Reaches s r R.CPL_MBX_POST true → mbxAllowed s r k = true → mbxState s k = 0 →
      Machine.exec (.mbxPost r k) s = .next (settled s (put s (F.CPL_MBX_STATE_state k) 1))) ∧
    (Reaches s r R.CPL_MBX_POST true → (mbxAllowed s r k = false ∨ mbxState s k ≠ 0) →
      Machine.exec (.mbxPost r k) s = .next (settled s (inc s F.CPL_MBX_DROP_count))) ∧
    (Reaches s r R.CPL_MBX_ACK true → mbxAllowed s r k = true → mbxState s k = 3 →
      Machine.exec (.mbxAck r k) s = .next (settled s (put s (F.CPL_MBX_STATE_state k) 0))) ∧
    (Reaches s r R.CPL_MBX_ACK true → (mbxAllowed s r k = false ∨ mbxState s k ≠ 3) →
      Machine.exec (.mbxAck r k) s = .next (settled s (inc s F.CPL_MBX_DROP_count))) ∧
    (cplState s = 2 → mbxState s k = 1 → Machine.exec (.mbxClaim k) s = .next (settled s (put s (F.CPL_MBX_STATE_state k) 2))) ∧
    (cplState s = 2 → mbxState s k = 2 → Machine.exec (.mbxComplete k) s = .next (settled s (mbxDone s k (get s (mbxResult k))))) ∧
    (cplState s ≠ 2 → Machine.exec (.mbxClaim k) s = .next (settled s s) ∧ Machine.exec (.mbxComplete k) s = .next (settled s s)) ∧
    (mbxState s k = 1 → Machine.exec (.mbxTimeout k) s = .next (settled s (mbxDone (raiseGrey s F.CPL_EVENT_mbx_timeout) k 1))) ∧
    (mbxState s k ≠ 1 → Machine.exec (.mbxTimeout k) s = .next (settled s s)) ∧
    (cplState s ≠ 2 → Machine.exec (.injectDescriptor i desc frame) s = .next (settled s s)) ∧
    (cplState s = 2 →
      let t := get s (F.CPL_INJ_TAIL_index i);
      let at_ := 0xEC0000 + 0x4000 * i.val + 16 * t;
      let w := firmwareWrite (firmwareWrite s (le desc 0 4) frame) at_ (desc.take 16);
      let d := sramRead w at_ 16;
      let off := le d 0 4;
      let len := le d 4 2;
      let u := put w (F.CPL_INJ_TAIL_index i) ((t + 1) % 1024);
      let p : PPkt := { bytes := sramRead u off len, ing := { kind := 2, raw := rawTime u }, src := 2, pipe := 4 + i % 4, re := bit (le d 6 1) 0 };
      get w (F.CPL_INJ_HEAD_index i) ≠ t → bit (le d 6 1) 7 = true →
      (14 ≤ len → len ≤ 16384 → off + len ≤ 0xEC0000 → Machine.exec (.injectDescriptor i desc frame) s =
        .next (settled s (overLink (monIn u 5 0x19 [] len) (i / 4) (.line p false) (fun v => lineFrame v (i / 4) p false)))) ∧
      (len < 14 ∨ 16384 < len ∨ 0xEC0000 < off + len → Machine.exec (.injectDescriptor i desc frame) s =
        .next (settled s (raiseGrey (cplDiscard u 1) F.CPL_EVENT_inj_bad)))) ∧
    (∀ n x go, linkClosed s n = true ∨ isolated s 5 = true → overLink s n x go = linkLost (linkDiscard s n) x 0) ∧
    (∀ n x go, linkClosed s n = false → isolated s 5 = false → 8 * 2 ^ 20 < linkBytes s n + x.size →
      overLink s n x go = linkLost (pthDiscard s 0x62) x 0x62) ∧
    (∀ n x go, linkClosed s n = false → isolated s 5 = false → linkBytes s n + x.size ≤ 8 * 2 ^ 20 → overLink s n x go =
      if regionEntering s n then { s with pth := { s.pth with hold := s.pth.hold ++ [(n, x)] } } else go s)

/-- A ready ring's descriptor moves the read index; one that R397 refuses is written back with the code of the first row that does; one of the
management channel's ring is an upstream message, written back as it enters the buffer; any other good one takes a tier-0 buffer and makes a
first pass. A write-back that is late is written with its mark and raises wb_timeout. A release returns the held reference and counts down;
by another function it is denied. A ring's coalescing time delivers its interrupt, a transmit ring has none. A ring written to 0 stops.
(That MCH_CTRL.ring names this ring is the model's choice, log entry 77.) (R137, R396, R397, R398, R400, R401, R402, R404, R405) -/
def Obligations.HostRings : Prop :=
  ∀ (s : State) (r : Requester) (t : Fin 64) (i : Fin 65536) (d : TxDesc) (f : TxFlight) (h : RxHold) (us : Fin 64),
    let idx := get s (F.HIF_TX_READ_index t);
    let u := modHif (put s (F.HIF_TX_READ_index t) ((idx + 1) % ringLen (get s (F.HIF_TX_SIZE_log2 t)))) (fun x => { x with
      nextTag := s.hif.nextTag + 1, inFlight := x.inFlight ++ [⟨t, idx, get s (F.HIF_TX_BASE_addr t) + 32 * idx, false, false, s.hif.nextTag⟩] });
    (txReady s t = false → Machine.exec (.txDescriptor t d) s = .next (settled s s)) ∧
    let refused (c : Nat) := writeBack (if c = 0x7A then raiseGrey (hifDiscard u c) F.HIF_EVENT_dma_err else hifDiscard u c)
      ⟨t, s.hif.nextTag⟩ 0 c false false false;
    (∀ c, txReady s t = true → mgtRing s t = false → txRefuse u t d = some c →
      Machine.exec (.txDescriptor t d) s = .next (settled s (refused c))) ∧
    (txReady s t = true → mgtRing s t = true →
      (d.len = 0 ∨ 16384 < d.len → Machine.exec (.txDescriptor t d) s = .next (settled s (refused 0x79))) ∧
      (d.len ≠ 0 → d.len ≤ 16384 → d.bad = true → Machine.exec (.txDescriptor t d) s = .next (settled s (refused 0x7A))) ∧
      (d.len ≠ 0 → d.len ≤ 16384 → d.bad = false → Machine.exec (.txDescriptor t d) s = .next (settled s
        (writeBack (mchEnqueue u (d.bytes.take d.len ++ List.replicate (d.len - d.bytes.length) 0)) ⟨t, s.hif.nextTag⟩ 0 0 false false false)))) ∧
    (txReady s t = true → mgtRing s t = false → txRefuse u t d = none →
      let bs := padTo 60 (d.bytes.take d.len ++ List.replicate (d.len - d.bytes.length) 0);
      let v := monIn (inc u (F.HIF_TX_FRAMES_count t)) 5 0x1A [] bs.length;
      let o := get v (F.HIF_TX_CFG_owner t);
      (∀ w b, alloc v (t / 16) o none bs = (w, .ok b) → Machine.exec (.txDescriptor t d) s = .next (settled s (ingress w (t / 16) {
          bytes := bs, ing := { kind := 2, raw := rawTime w }, src := 2, pipe := 4 + t % 4, buf := some b, tx := some ⟨t, s.hif.nextTag⟩ }))) ∧
      (∀ w c, alloc v (t / 16) o none bs = (w, .error c) → Machine.exec (.txDescriptor t d) s = .next (settled s
        (allocRefused w (t / 16) o c [] { since := w.clk.ticks, who := 1, queue := 0, bytes := bs, inject := some (4 + t % 4, o),
                                          frame := { bid := 0, len := bs.length, tx := some ⟨t, s.hif.nextTag⟩ } })))) ∧
    (s.hif.inFlight.find? (fun f => decide (f.ring = t.val) && decide (f.idx = i.val) && !f.done && !f.dead) = some f →
      Machine.exec (.writebackTimeout t i) s = .next (settled s (raiseGrey (writeBack s ⟨t, f.tag⟩ 0 0 false false true) F.HIF_EVENT_wb_timeout))) ∧
    (s.hif.inFlight = [] → Machine.exec (.writebackTimeout t i) s = .next (settled s s)) ∧
    (cutOff s r = false → isP0 s r = false → reqNum r ≠ rxOwner s t →
      Machine.exec (.rxRelease r t i) s = .next (settled s (deny s r R.HIF_RX_REL true))) ∧
    (Reaches s r R.HIF_RX_REL true → (isP0 s r = true ∨ reqNum r = rxOwner s t) → inFlr s (rxOwner s t) = false →
      s.hif.held.find? (fun x => decide (x.ring = t.val) && decide (x.idx = i.val)) = some h →
      ∃ v, v = modHif s (fun x => { x with held := dropFirst (fun y => decide (y = h)) x.held }) ∧
      Machine.exec (.rxRelease r t i) s =
        .next (settled s (relPin (put v (F.HIF_RX_HELD_count t) (get v (F.HIF_RX_HELD_count t) - 1)) h.region h.handle))) ∧
    (Tab.getD s.hif.coal (64 + t) 0 ≠ 0 → get s (F.HIF_RX_CFG_coal_us t) ≠ 0 →
      Machine.exec (.interruptCoalesceTimeout ⟨.rx, t⟩) s =
        .next (settled s (deliverOwned (modHif s (fun x => { x with coal := Tab.del x.coal (64 + t) })) (64 + t) (rxOwner s t)))) ∧
    Machine.exec (.interruptCoalesceTimeout ⟨.tx, us⟩) s = .next (settled s s) ∧
    (Reaches s r (R.HIF_TX_CFG t) true → (isP0 s r = true ∨ reqNum r = txOwner s t) → inFlr s (txOwner s t) = false →
      Machine.exec (.ringDisable r ⟨.tx, t⟩) s = .next (settled s (stopTx s t))) ∧
    (Reaches s r (R.HIF_RX_CFG t) true → (isP0 s r = true ∨ reqNum r = rxOwner s t) → inFlr s (rxOwner s t) = false →
      Machine.exec (.ringDisable r ⟨.rx, t⟩) s = .next (settled s (stopRx s t)))

/-- A challenge while locked answers LOCKED; otherwise it gives a fresh nonce and result 0. A response starts the check, which holds P0 with a
fresh nonce and a signature that verifies; without a nonce, or with a wrong signature, it fails, and the third failure in a row locks until
the lock expires. A write of drop gives P0 up. An FLR stops the function's rings until it completes, and the PF's gives P0 up. PERST_N gives
P0 up, ends every FLR and the challenge, and keeps the bank and the commit; the trained link shows its speed and width. (R383, R385, R387,
R388, R403) -/
def Obligations.HostLevelZero : Prop :=
  ∀ (s : State) (r : Requester) (fn : Fin 16) (speed : Fin 7) (width : Fin 17),
    (Reaches s r R.HIF_P0_CTRL true →
      (s.hif.locked = true → Machine.exec (.p0Challenge r) s = .next (settled s (put s F.HIF_P0_CTRL_result 3))) ∧
      (s.hif.locked = false → s.wrd.down = false → ∃ u, u = putWords s F.HIF_P0_NONCE_bits 8 (freeBytes s 32) ∧
        Machine.exec (.p0Challenge r) s =
          .next (settled s (modHif (stepFree (put u F.HIF_P0_CTRL_result 0)) (fun h => { h with nonceAt := some u.clk.ticks })))) ∧
      Machine.exec (.p0Respond r) s = .next (settled s (modHif s (fun h => { h with verifying := true }))) ∧
      Machine.exec (.p0Drop r) s = .next (settled s (dropP0 s))) ∧
    (s.hif.verifying = false → Machine.exec .p0VerifyDone s = .next (settled s s)) ∧
    (s.hif.verifying = true → s.wrd.down = false →
      let u := modHif s (fun h => { h with verifying := false, nonceAt := none });
      let passes := modHif (put u F.HIF_P0_CTRL_result 1) (fun h => { h with fails := 0, p0 := true });
      let fails := raise (modHif (put u F.HIF_P0_CTRL_result 2)
        (fun h => { h with fails := (s.hif.fails + 1) % 3, locked := s.hif.locked || decide (3 ≤ s.hif.fails + 1) })) F.HIF_EVENT_p0_fail .amber 0;
      (s.hif.nonceAt = none → Machine.exec .p0VerifyDone s = .next (settled s fails)) ∧
      (∀ at_, s.hif.nonceAt = some at_ → s.clk.ticks - at_ ≤ usTicks 10000000 → Machine.exec .p0VerifyDone s = .next (settled s
        (if Config.ecdsaVerify s.flash.rootKey (p0Message s) (wordsBytes s F.HIF_P0_SIG_bits 24) then passes else fails)))) ∧
    Machine.exec .p0LockoutExpire s = .next (settled s (modHif s (fun h => { h with locked := false }))) ∧
    (∃ u, u = modHif (put (stopRingsOf s fn) F.HIF_FLR_STATUS_fn (get s F.HIF_FLR_STATUS_fn ||| 2 ^ fn.val)) (fun h => { h with
        table := h.table.filter (fun e => decide (e.1 / 128 ≠ fn.val)), pba := h.pba.filter (fun v => decide (v / 128 ≠ fn.val)) }) ∧
      Machine.exec (.flr fn) s = .next (settled s (raiseGrey (if fn.val = 0 then dropP0 u else u) F.HIF_EVENT_flr))) ∧
    Machine.exec (.flrComplete fn) s = .next (settled s (put s F.HIF_FLR_STATUS_fn (setBits (get s F.HIF_FLR_STATUS_fn) fn 1 0))) ∧
    (∃ t, Machine.exec .perstNAssert s = .next t ∧ t.hif.p0 = false ∧ get t F.HIF_FLR_STATUS_fn = 0 ∧
      t.pins.perstN = false ∧ t.hif.nonceAt = none ∧ t.bank = s.bank ∧ t.epc = s.epc) ∧
    (∃ t, Machine.exec (.pcieLinkTrained speed width) s = .next t ∧ get t F.HIF_LINK_speed = speed.val ∧
      get t F.HIF_LINK_width = width.val ∧ t.pins.perstN = true)

/-- After a write of drop, an FLR of the PF, PERST_N, a module reset of whatever cause, power-on, or a reset of the warden, P0 is not held, and
the PF's accesses are let through only where a window permits them. (R388) -/
def Obligations.PfLosesP0 : Prop :=
  ∀ (s t : State) (r : Requester) (bad : Option StoreFail) (cause : Nat),
    (Reaches s r R.HIF_P0_CTRL true ∧ Machine.exec (.p0Drop r) s = .next t) ∨ Machine.exec (.flr 0) s = .next t ∨
      Machine.exec .perstNAssert s = .next t ∨ Machine.exec (.resetNLow bad) s = .next t ∨ t = moduleReset s cause bad ∨
      Machine.exec .powerOn s = .next t ∨ (s.wrd.down = false ∧ Machine.exec .wardenWdtExpire s = .next t) ∨ t = wardenStop s →
    t.hif.p0 = false ∧ isP0 t (.fn 0) = false ∧ isP1 (.fn 0) = true ∧
    ∀ a w, permitted t (.fn 0) a w = t.bank.windows.any (fun e => windowPermits e.2 (reqIndex (.fn 0)) a w)

/-- Where the message in front is of the command's type and destination it is taken and counted. Parameters are taken, and in T1 with discovery
open and the path enabled T2 follows; time is announced; a discovery skips a turn or requests the announcement burst; a TID leads to T3; a
ranging window is filled or raises range_fit; an equalisation delay out of range answers with the old one, another is acknowledged; a home
channel waits for its frame; a container is refused with its reason or waits; deactivate, hold, release and resume change state. Shown for
RANGE_WINDOW and TRIB_ASSIGN: another type stays, another destination is dropped, and a bad body is counted as unknown. (R140, R143, R144,
R149, R150, R151, R155, R157, R158, R167) -/
def Obligations.ActivationMessages : Prop :=
  ∀ (s : State) (q : Path) (x : List Byte) (rest : List (List Byte)) (draw : Nat), (act s q).inbox = x :: rest →
    let b := sub x 4 (be x 3 1);
    let v := modAct s q (fun a => { a with inbox := rest });
    let u := inc v (F.ACT_LCM_RX_count (qn q));
    let st := actState u q;
    let takes (typ : Nat) := be x 2 1 = typ ∧ lcmDestOk typ (be x 0 2) (tidOf s q) (actState s q) = true ∧ lcmLsiOk s typ b = true;
    (be x 2 1 ≠ 0x05 → Machine.exec (.rangeWindow q) s = .next (settled s s)) ∧
    (be x 2 1 = 0x0C → lcmDestOk 0x0C (be x 0 2) (tidOf s q) (actState s q) = false → Machine.exec (.tribAssign q) s = .next (settled s v)) ∧
    (takes 0x0C → tribKnown (tribReason s q) b = false → Machine.exec (.tribAssign q) s = .next (settled s (inc v (F.ACT_LCM_UNKNOWN_count (qn q))))) ∧
    (∀ w, w = (List.range 4).foldl (fun s i => put (put s (F.UPB_PRE_plen (qn q) i) (preLen b i)) (F.UPB_PRE_kind (qn q) i) (preKind b i))
        (modAct u q (fun a => { a with discOpen := bit (be b 0 1) 0, hubSig := bit (be b 0 1) 1, minGuard := be b 1 1 })) →
      takes 0x01 → preambleOk b = true →
      (actState w q ≠ 1 → Machine.exec (.pathParams q) s = .next (settled s w)) ∧
      (actState w q = 1 → (act w q).discOpen = true → getB w (F.ACT_CTRL_enable (qn q)) = true → Machine.exec (.pathParams q) s = .next (settled s
        (lineSettle (putAct (modAct (clearApr (put w (F.ACT_ANN_COUNT_n (qn q)) 0) q) q (fun a => { a with skip := 0, announces := [] })) q 2))))) ∧
    (takes 0x02 → Machine.exec (.timeAnnounce q) s = .next (settled s (announce u q ⟨be b 0 6, be b 6 6⟩))) ∧
    (takes 0x03 → (act u q).discOpen = true → be b 0 1 = homeInUse u q → 0 < (act u q).skip →
      Machine.exec (.discovery q draw) s = .next (settled s (modAct u q (fun a => { a with skip := a.skip - 1 })))) ∧
    (takes 0x03 → (act u q).discOpen = true → be b 0 1 = homeInUse u q → (act u q).skip = 0 → discoveryLen ≤ be b 9 2 →
      Machine.exec (.discovery q draw) s = .next (settled s (requestBurst
        (modAct u q (fun a => { a with announces := a.announces ++ [be b 11 1] })) q (be b 0 1)
        (cwCount (be b 1 6) (be b 7 2) + draw % (be b 9 2 - discoveryLen + 1)) 0 .discovery 0xFFFE discoveryLen 27200
        (some (upSlot (modAct u q (fun a => { a with announces := a.announces ++ [be b 11 1] })) q 0x80
          (beBytes 8 (get u F.ACT_LSI_lsi) ++ beBytes 2 0x6425 ++ beBytes 1 0xB0 ++ beBytes 1 (qn q) ++
            beBytes 1 (get u (F.ACT_ANN_COUNT_n (qn q))))))))) ∧
    (takes 0x04 → chanAt 12 b = true → be b 8 2 ≠ 0 → be b 8 2 ≠ 0xFFFE → be b 8 2 ≠ 0xFFFF → st ≠ 3 →
      Machine.exec (.assignTid q) s = .next (settled s (lineSettle (putAct (takeTid u q b) q 3)))) ∧
    (takes 0x05 → chanAt 0 b = true → st = 3 ∨ st = 4 →
      let w := applyEqds u q;
      let eqd := eqdAt w q (be b 0 1) (be b 1 6);
      43520 * be b 9 2 < eqd + 43520 * rangingLen - 16 + 13600 →
      Machine.exec (.rangeWindow q) s = .next (settled s (raiseGrey w (F.ACT_EVENT_range_fit (qn q))))) ∧
    (takes 0x05 → chanAt 0 b = true → st = 3 ∨ st = 4 →
      let w := applyEqds u q;
      let eqd := eqdAt w q (be b 0 1) (be b 1 6);
      eqd + 43520 * rangingLen - 16 + 13600 ≤ 43520 * be b 9 2 →
      Machine.exec (.rangeWindow q) s = .next (settled s (requestBurst w q (be b 0 1) (cwCount (be b 1 6) (be b 7 2)) eqd .ranging (tidOf w q)
        rangingLen 10880 none))) ∧
    (takes 0x06 → chanAt 0 b = true → 680000000 < be b 1 4 → Machine.exec (.eqDelay q) s = .next (settled s (raiseGrey
      (queueLcm u q .act 0x81 (beBytes 1 (be b 0 1) ++ beBytes 1 1 ++ beBytes 4 (get u (F.ACT_EQD_eqd (qn q) (be b 0 1)))))
      (F.ACT_EVENT_eqd_range (qn q))))) ∧
    (takes 0x06 → chanAt 0 b = true → be b 1 4 ≤ 680000000 → ∃ w, Machine.exec (.eqDelay q) s = .next (settled s
      (queueLcm w q .act 0x81 (beBytes 1 (be b 0 1) ++ beBytes 1 0 ++ beBytes 4 (be b 1 4)))) ∧ w.regs = (applyEqds u q).regs) ∧
    (takes 0x0B → chanAt 0 b = true →
      Machine.exec (.homeAssign q) s = .next (settled s (modAct u q (fun a => { a with pendHome := some (be b 0 1, be b 1 6) })))) ∧
    (takes 0x0C → tribKnown (tribReason s q) b = true → tribReason u q (be b 0 1) (be b 1 1) (be b 2 2) (be b 4 1) ≠ 0 →
      Machine.exec (.tribAssign q) s = .next (settled s (raiseGrey (queueLcm u q .act 0x87 (beBytes 1 (be b 0 1) ++
        beBytes 1 (tribReason u q (be b 0 1) (be b 1 1) (be b 2 2) (be b 4 1)))) (F.ACT_EVENT_trib_nack (qn q))))) ∧
    (takes 0x0C → tribKnown (tribReason s q) b = true → tribReason u q (be b 0 1) (be b 1 1) (be b 2 2) (be b 4 1) = 0 →
      Machine.exec (.tribAssign q) s = .next (settled s (modAct u q (fun a => { a with
        pendTrib := a.pendTrib.filter (fun p => decide (p.t ≠ be b 0 1)) ++ [⟨be b 0 1,
          if be b 4 1 = 0xFF then none else some (tribWord q (be b 1 1) (be b 2 2) (be b 4 1)), be b 5 6⟩] })))) ∧
    (takes 0x0D → st = 2 ∨ st = 3 ∨ st = 4 → Machine.exec (.deactivate q) s = .next (settled s (lineSettle (actReturn u q 1 4)))) ∧
    (takes 0x0E → 1 ≤ st → st ≤ 4 → Machine.exec (.hold q) s = .next (settled s (lineSettle (actHold u q)))) ∧
    (takes 0x0F → Machine.exec (.release q) s = .next (settled s (lineSettle (actRelease u q)))) ∧
    (takes 0x10 → st = 6 → pathLocked u q = true →
      Machine.exec (.resume q) s = .next (settled s (lineSettle (enterT4 (clearApr u q) q))))

/-- In T3 the certificate goes out in fragments, a challenge is collected and answered once, a right confirmation writes both keys and answers,
a wrong one or one without keys fails the registration, and REGISTERED enters T4 and forgets the secrets; while the warden is down every
message of the exchange waits. Each unanswered announcement backs off within its own window's limit; a home channel and a container are
applied at their frames; a stale fragment is dropped; T3 and T6 time out with their causes; P0 ends a hold; a home channel with a hard
defect falls back. A skew report that is due on the only path in T4 is queued with the skew and its FN; with skew_en clear on both paths
none is. (R140, R146, R148, R151, R153, R155, R156, R157, R158) -/
def Obligations.ActivationTimers : Prop :=
  ∀ (s : State) (r : Requester) (q : Path) (x : List Byte) (rest : List (List Byte)) (draw n : Nat) (t : Fin 256) (p : PendTrib),
    let b := sub x 4 (be x 3 1);
    let u := inc (modAct s q (fun a => { a with inbox := rest })) (F.ACT_LCM_RX_count (qn q));
    let took (typ : Nat) := (act s q).inbox = x :: rest ∧ be x 2 1 = typ ∧ lcmDestOk typ (be x 0 2) (tidOf s q) (actState s q) = true;
    (took 0x07 → s.wrd.down = false → actState u q = 3 → Machine.exec (.certReq q) s = .next (settled s (queueFragments u q 0x82 (u.flash.cert.take 1080)))) ∧
    (s.wrd.down = true → Machine.exec (.authChallenge q) s = .next (settled s s) ∧ Machine.exec (.keyConfirm q) s = .next (settled s s) ∧
      Machine.exec (.certReq q) s = .next (settled s s) ∧ Machine.exec (.registered q) s = .next (settled s s)) ∧
    (took 0x08 → s.wrd.down = false → actState u q = 3 → be b 0 1 = 0 → (act u q).frag = none → be b 1 1 = 1 →
      Machine.exec (.authChallenge q) s = .next (settled s (challenge (modAct u q (fun a => { a with frag := none })) q (b.drop 2)))) ∧
    (took 0x08 → s.wrd.down = false → actState u q = 3 → be b 0 1 = 0 → (act u q).frag = none → 2 ≤ be b 1 1 → be b 1 1 ≤ 20 → b.length = 56 →
      Machine.exec (.authChallenge q) s =
        .next (settled s (modAct u q (fun a => { a with frag := some ⟨be b 1 1, [(0, b.drop 2)]⟩ })))) ∧
    ((act s q).challenge = none → Machine.exec (.authResponseReady q) s = .next (settled s s)) ∧
    (∀ m, (act s q).challenge = some m → (act s q).response = none → actState s q = 3 → s.wrd.down = false →
      ∃ v key sig keys, Machine.exec (.authResponseReady q) s = .next (settled s (queueFragments
        (modAct v q (fun a => { a with response := some (key ++ sig), derived := some keys })) q 0x83 (key ++ sig))) ∧
        v = stepFree (stepFree s)) ∧
    (took 0x09 → s.wrd.down = false → actState u q = 3 → (act u q).derived = none →
      Machine.exec (.keyConfirm q) s = .next (settled s (lineSettle (authFail u q)))) ∧
    (∀ d, took 0x09 → s.wrd.down = false → actState u q = 3 → (act u q).derived = some d →
      let tr := Config.sha384 ((act u q).challenge.getD [] ++ (act u q).response.getD []);
      slotGen u (rootSlot u q false) ≠ 0xFFFFFFFF → slotGen u (rootSlot u q true) ≠ 0xFFFFFFFF →
      Machine.exec (.keyConfirm q) s = .next (settled s (if b = fit 16 (Config.cmac256 (d.drop 64) (beBytes 1 1 ++ tr)) then
        sendConfirm (modAct (slotCommand (slotCommand u (rootSlot u q false) (some (sub d 0 32))) (rootSlot u q true) (some (sub d 32 32))) q
          (fun a => { a with confirmTag := some (Config.cmac256 (d.drop 64) (beBytes 1 2 ++ tr)) })) q
        else lineSettle (authFail u q)))) ∧
    (took 0x0A → s.wrd.down = false → actState u q = 3 → Machine.exec (.registered q) s = .next (settled s (lineSettle (enterT4 (forgetSecrets
      (t4Epochs (put u (F.ACT_REG_FN_fn (qn q)) (pathTime u q).fn) q (pathTime u q).fn) q) q)))) ∧
    (∀ most late, (act s q).announces = most :: late → actState s q = 2 →
      let k := sat 15 (get s (F.ACT_ANN_COUNT_n (qn q)) + 1);
      Machine.exec (.announceUnanswered q draw) s = .next (settled s (modAct (put s (F.ACT_ANN_COUNT_n (qn q)) k) q
        (fun a => { a with announces := late, skip := draw % min (2 ^ k) (max 1 most) })))) ∧
    ((act s q).pendHome = some (n, draw) → Machine.exec (.homeAssignApply q) s = .next (settled s (lineSettle
      (assignHome (modAct (reach s (1 + qn q) (5000 * draw)) q (fun a => { a with pendHome := none })) q n)))) ∧
    ((act s q).pendHome = none → Machine.exec (.homeAssignApply q) s = .next (settled s s)) ∧
    ((act s q).pendTrib.find? (fun p => decide (p.t = t.val)) = some p →
      let v := dropDownTrib (modAct (reach s (1 + qn q) (5000 * p.applyFn)) q (fun a => { a with pendTrib := a.pendTrib.erase p })) t;
      Machine.exec (.tribAssignApply q t) s = .next (settled s (match p.cfg with
        | none => v
        | some w => showTribFault (wrWord v (R.DFR_TRIB_CFG t) (BitVec.ofNat 32 w)) t))) ∧
    (ReachesP0 s r (R.ACT_HOLD (qn q)) → Machine.exec (.actHoldClr r q) s = .next (settled s (lineSettle (actRelease s q)))) ∧
    ((act s q).frag.isSome = true → Machine.exec (.lcmFragmentTimeout q) s = .next (settled s (raiseGrey
      (inc (modAct s q (fun a => { a with frag := none })) (F.ACT_LCM_UNKNOWN_count (qn q))) (F.ACT_EVENT_frag_drop (qn q))))) ∧
    (actState s q = 3 → Machine.exec (.to3Expire q) s = .next (settled s (lineSettle (actReturn s q 1 2)))) ∧
    (actState s q ≠ 3 → Machine.exec (.to3Expire q) s = .next (settled s s)) ∧
    (actState s q = 6 → Machine.exec (.to6Expire q) s =
      .next (settled s (lineSettle (actReturn s q (if pathLocked s q then 1 else 0) 3)))) ∧
    (actState s q ≠ 6 → Machine.exec (.to6Expire q) s = .next (settled s s)) ∧
    (actState s q = 3 ∨ actState s q = 4 → hardDefect s (laneOf q (homeInUse s q)) = true → fallbackChan s q = some n →
      Machine.exec (.homeFallback q) s = .next (settled s (queueLcm (raiseGrey
        (putB (putHome s q n true) (F.ACT_STATE_home_fallback (qn q)) true) (F.ACT_EVENT_home_fallback (qn q)))
        q .act 0x86 (beBytes 1 (homeInUse s q) ++ beBytes 1 n)))) ∧
    (getB s (F.ACT_CTRL_skew_en 0) = false → getB s (F.ACT_CTRL_skew_en 1) = false →
      Machine.exec .skewReport s = .next (settled s s)) ∧
    (let d := sat32 (pathSkew s);
      actState s .a = 4 → getB s (F.ACT_CTRL_skew_en 0) = true → pathLocked s .a = true → pathLocked s .b = true → skewDue s .a d = true →
      actState s .b ≠ 4 → Machine.exec .skewReport s = .next (settled s (queueLcm
        (modAct (putI s (F.ACT_LAST_SKEW_skew 0) d) .a (fun a => { a with skewFn := some (modFn s) }))
        .a .act 0x85 (beBytes 4 (ofSigned 32 d) ++ beBytes 6 (modFn s)))))

/-- A PATH_ACK releases what it covers, or is counted as bad; on an AID of another mode it does nothing. A hub's switch order waits for its
frame and then switches. Hold-off ends in a request for the other path, wait-to-restore in a return to path A. Force requests unless locked
out; lockout and clear act on their own. Retained segments expire one by one and count. A merge window, a bonding gap and a reassembly that
run out are skipped or discarded with the segment's code. (R120, R194, R214, R222, R223, R224, R225, R226) -/
def Obligations.ProtectionSwitching : Prop :=
  ∀ (s : State) (r : Requester) (q : Path) (x : List Byte) (rest : List (List Byte)) (on : Bool) (a : Fin 512) (g : UpSeg) (gs : List UpSeg)
    (k : Fin 1024) (j : Fin 32) (i : Fin 64) (sid : BitVec 20) (c : Ctx) (w : Path) (o : PthWant),
    let b := sub x 4 (be x 3 1);
    let u := inc (modAct s q (fun a => { a with inbox := rest })) (F.ACT_LCM_RX_count (qn q));
    let took (typ : Nat) := (act s q).inbox = x :: rest ∧ be x 2 1 = typ ∧ lcmDestOk typ (be x 0 2) (tidOf s q) (actState s q) = true;
    (took 0x21 → b.length = 6 → ∀ n, aidIndex (activeCfg u) q (be b 0 2) = some n →
      (aidMode u n ≠ 2 → Machine.exec (.pathAck q) s = .next (settled s u)) ∧
      (aidMode u n = 2 → 0 < seqDist (be b 2 4) ((get u (F.PTH_AID_NEXT_mseq n) + 2 ^ 32 - 1) % 2 ^ 32) →
        Machine.exec (.pathAck q) s = .next (settled s (raiseGrey (inc u F.PTH_ACK_BAD_count) F.PTH_EVENT_ack_bad))) ∧
      (aidMode u n = 2 → seqDist (be b 2 4) ((get u (F.PTH_AID_NEXT_mseq n) + 2 ^ 32 - 1) % 2 ^ 32) ≤ 0 →
        0 < seqDist (be b 2 4) ((aidProt u n).acked.getD (2 ^ 32 - 1)) → Machine.exec (.pathAck q) s = .next (settled s
          (releaseRetained (modAid (put u (F.PTH_AID_ACK_ack n) (be b 2 4)) n (fun y => { y with acked := some (be b 2 4) })) n
            (fun y => decide (seqDist (y.mseq.getD 0) (be b 2 4) ≤ 0)))))) ∧
    (took 0x22 → switchBody b = true → Machine.exec (.pathSwitchMsg q) s = .next (settled s (modPth u (fun p => { p with
      hubOrder := some ⟨pathOf (be b 0 1), decide (be b 1 1 = 1), 4, 3⟩
      hubFn := if be b 2 6 ≤ modFn u then modFn u + 1 else be b 2 6 })))) ∧
    (s.pth.hubOrder = none → Machine.exec .pathSwitchApply s = .next (settled s s)) ∧
    (s.pth.hubOrder = some o → ltValid s = true →
      let v := modPth (reach s 0 (5000 * s.pth.hubFn)) (fun p => { p with hubOrder := none, orderedA := decide (o.target = .b), orderedB := decide (o.target = .a) });
      Machine.exec .pathSwitchApply s = .next (settled s (lineSettle (if workingPath v = some o.target then v else pthRequest v o)))) ∧
    (workingPath s = some w → psState s = psHold w → pthFail s w ≠ 0 → s.pth.want = none → Machine.exec .holdoffExpire s =
      .next (settled s (lineSettle (pthRequest s ⟨otherPath w, true, pthFail s w, 2⟩)))) ∧
    (workingPath s = none → Machine.exec .holdoffExpire s = .next (settled s s)) ∧
    (psState s = 6 → pthFail s .a = 0 → Machine.exec .wtrExpire s = .next (settled s (lineSettle (switchTo s .a false 6)))) ∧
    (psState s ≠ 6 → Machine.exec .wtrExpire s = .next (settled s s)) ∧
    (Reaches s r R.PTH_CTRL true →
      (getB s F.PTH_CTRL_lockout = false → workingPath s = some (otherPath q) →
        Machine.exec (.pthForce r q) s = .next (settled s (lineSettle (pthRequest s ⟨q, false, 5, 4⟩)))) ∧
      (getB s F.PTH_CTRL_lockout = true → Machine.exec (.pthForce r q) s = .next (settled s s)) ∧
      Machine.exec (.pthLockout r on) s = .next (settled s (lineSettle (putB s F.PTH_CTRL_lockout on))) ∧
      Machine.exec (.pthClear r) s = .next (settled s (lineSettle (modPth (putB s F.PTH_CTRL_lockout false)
        (fun p => { p with want := p.want.filter (fun z => decide (z.prio ≠ 4)) }))))) ∧
    ((aidProt s a).retained = g :: gs → Machine.exec (.retentionExpire a) s = .next (settled s
      (greyOf (inc (releaseRetained s a (fun y => decide (y = g))) (F.PTH_AID_EXPIRE_count a)) F.PTH_EVENT_expire [(3, a)]))) ∧
    ((aidProt s a).retained = [] → Machine.exec (.retentionExpire a) s = .next (settled s s)) ∧
    ((mergeGroup s k).held ≠ [] → Machine.exec (.mergeWindowSkip k) s = .next (settled s
      (closeGaps (mergeSkip s k) k ((mergeGroup (mergeSkip s k) k).held.length + 1)))) ∧
    ((mergeGroup s k).held = [] → Machine.exec (.mergeWindowSkip k) s = .next (settled s s)) ∧
    ((bndGroup s q j).buf ≠ [] → Machine.exec (.bndGapSkip q j) s = .next (settled s
      (pthUnits (bndReassembleAll (bndSkip s q j).1 q j (bndSkip s q j).2).1
        (bndReassembleAll (bndSkip s q j).1 q j (bndSkip s q j).2).2))) ∧
    ((bndGroup s q j).buf = [] → Machine.exec (.bndGapSkip q j) s = .next (settled s s)) ∧
    (s.dfr.ctxs.find? (isCtx q i sid.toNat) = some c → Machine.exec (.reassemblyTimeout false q i sid) s = .next (settled s (showCtxs (fragDiscard
      { s with dfr := { s.dfr with ctxs := s.dfr.ctxs.filter (fun c => !isCtx q i sid.toNat c) } } (chanIds q i) (c.mark.getD 0x6B))))) ∧
    (s.bnd.ctxs.find? (isCtx q i sid.toNat) = some c → Machine.exec (.reassemblyTimeout true q i sid) s = .next (settled s (showCtxs (fragDiscard
      { s with bnd := { s.bnd with ctxs := s.bnd.ctxs.filter (fun c => !isCtx q i sid.toNat c) } } [] (c.mark.getD 0x6B)))))

/-- A segment that R247 refuses is discarded with its code, one in clear passes, an encrypted one waits for its derived key, and a derived key
that finds room in the cache releases what waits. A failed engine returns by a passed test only. REKEY too near is refused and answered;
within its limits its epoch is noted and starts at its frame; a request is repeated after its time. At P0 a KST command waits while the
warden is down; one that comes to an empty queue on a slot in use answers BUSY, on one whose generations are used up RETIRED, and otherwise
loads or empties the slot; each clears KST_KEY. A slot whose old key no captured segment uses any more has drained. (That a retest's outcome
and a mismatch of the key streams come with the command is the model's choice, log entry 83.) (R233, R234, R240, R241, R242, R243, R244,
R245, R246, R247) -/
def Obligations.LineCipher : Prop :=
  ∀ (s : State) (r : Requester) (q : Path) (x : List Byte) (rest : List (List Byte)) (chan : Fin 64) (mis pass up : Bool) (e : Fin 128) (i : Fin 4)
    (slot : Fin 256) (g : Seg),
    let b := sub x 4 (be x 3 1);
    let u := inc (modAct s q (fun a => { a with inbox := rest })) (F.ACT_LCM_RX_count (qn q));
    let took (typ : Nat) := (act s q).inbox = x :: rest ∧ be x 2 1 = typ ∧ lcmDestOk typ (be x 0 2) (tidOf s q) (actState s q) = true;
    let v := monIn { s with dfr := { s.dfr with out := s.dfr.out.erase g } } 4 0x16 [(4, 64 * qn q + chan)] (segBytes g);
    let next := s.dfr.out.find? (fun g => decide (g.path = q) && decide (g.chan = chan.val));
    (next = none → Machine.exec (.lcySegment q chan mis) s = .next (settled s s)) ∧
    (∀ code, next = some g → g.lost = none → lcyDecide v g = .error code → code ≠ 0x52 →
      Machine.exec (.lcySegment q chan mis) s = .next (settled s (lcyDiscard v (chanIds q chan) code))) ∧
    (next = some g → g.lost = none → lcyDecide v g = .ok (none, false) →
      Machine.exec (.lcySegment q chan mis) s = .next (settled s (lcyEnter v ⟨g, none, false⟩))) ∧
    (∀ k, next = some g → g.lost = none → lcyDecide v g = .ok (some k, false) →
      let d := derivedAt v q false g.keyIdx k g.fn;
      Machine.exec (.lcySegment q chan mis) s = .next (settled s (lcyEnter (lcyKey (ctxUse v q false g.keyIdx k g.fn) d)
        ⟨g, some (d, (keyOf v d).1, segIv (keyOf v d).2 chan (g.fn - d.epoch) g.offset), mis⟩))) ∧
    (s.lcy.deriving_ = [] → Machine.exec .keyDerivationDone s = .next (settled s s)) ∧
    (∀ d ds, s.lcy.deriving_ = d :: ds → ∃ w, w = cachePut (modLcy s (fun l => { l with deriving_ := ds })) d ∧
      Machine.exec .keyDerivationDone s = .next (settled s (if w.lcy.cache.contains d then lcyRelease w w.lcy.waiting [] else s))) ∧
    (Reaches s r (R.LCY_ENG_CTRL e) true →
      Machine.exec (.engineRetest r e) s = .next (settled s (putB s (F.LCY_ENG_STATUS_retest_busy e) true))) ∧
    (getB s (F.LCY_ENG_STATUS_retest_busy e) = true →
      let w := putB s (F.LCY_ENG_STATUS_retest_busy e) false;
      Machine.exec (.retestDone e false) s = .next (settled s w) ∧
      (engineFailed w e = true → Machine.exec (.retestDone e true) s = .next (settled s (lineSettle
        (put (putB w (F.LCY_ENG_STATUS_failed e) false) F.LCY_STATUS_failed (get w F.LCY_STATUS_failed - 1)))))) ∧
    (getB s (F.LCY_ENG_STATUS_retest_busy e) = false → Machine.exec (.retestDone e pass) s = .next (settled s s)) ∧
    (took 0x23 → rekeyBody b = true → be b 2 6 < (pathTime u q).fn + 2 → Machine.exec (.rekey q) s = .next (settled s (raiseGrey
      (queueLcm u q .lcy 0xA4 (beBytes 1 (b2n (decide (be b 0 1 = 1))) ++ beBytes 1 (be b 1 1) ++ beBytes 1 1 ++ beBytes 6 (be b 2 6)))
      F.LCY_EVENT_rekey_refused))) ∧
    (took 0x23 → rekeyBody b = true → (pathTime u q).fn + 2 ≤ be b 2 6 → be b 2 6 ≤ (pathTime u q).fn + 15625 → be b 0 1 = 0 →
      ∃ w, Machine.exec (.rekey q) s = .next (settled s (raiseGrey w F.LCY_EVENT_rekey)) ∧
        w.regs = (putB (put u (F.LCY_CTX_NEXT_fn (qn q) 0 (be b 1 1)) (be b 2 6)) (F.LCY_CTX_STATE_next_valid (qn q) 0 (be b 1 1)) true).regs) ∧
    (getB s (F.LCY_CTX_STATE_next_valid (qn q) (dirNum up) i) = false → Machine.exec (.rekeyEpochStart q up i) s = .next (settled s s)) ∧
    (getB s (F.LCY_CTX_STATE_next_valid (qn q) (dirNum up) i) = true →
      let fn := get s (F.LCY_CTX_NEXT_fn (qn q) (dirNum up) i);
      let w := reach s (1 + qn q) (5000 * fn);
      let old := if ctxValid w q up i then
          some (get w (F.LCY_CTX_EPOCH_fn (qn q) (dirNum up) i), getB w (F.LCY_CTX_STATE_exhausted (qn q) (dirNum up) i)) else none;
      let y := modLcy (ctxEpoch w q up i fn) (fun l => { l with prevEpoch := Tab.put l.prevEpoch (ctxKey q up i) old });
      Machine.exec (.rekeyEpochStart q up i) s = .next (settled s (if up then put y (F.LCY_TX_IDX_idx (qn q)) i else y))) ∧
    (∀ f, Tab.find s.lcy.reqFn (ctxKey q up i) = some f →
      (f + 15625 ≤ (pathTime s q).fn → Machine.exec (.rekeyReqRepeat q up i) s = .next (settled s (rekeyReq s q up i))) ∧
      ((pathTime s q).fn < f + 15625 → Machine.exec (.rekeyReqRepeat q up i) s = .next (settled s s))) ∧
    (ReachesP0 s r R.KST_CMD →
      let k := get s F.KST_SEL_slot;
      let cleared (z : State) := (List.range 8).foldl (fun s w => put s (F.KST_KEY_bits w) 0) z;
      let waits (key : Option (List Byte)) := cleared (modLcy s (fun l => { l with cmds := l.cmds ++ [⟨k, key, true⟩] }));
      let turn := s.wrd.down = false ∧ s.lcy.cmds = [];
      let free := slotIdle s k = true ∧ turn;
      (s.wrd.down = true → Machine.exec (.kstWrite r) s = .next (settled s (waits (some (kstKey s)))) ∧
        Machine.exec (.kstErase r) s = .next (settled s (waits none))) ∧
      (slotIdle s k = false → turn → Machine.exec (.kstWrite r) s = .next (settled s (cleared (put s F.KST_RESULT_code 1))) ∧
        Machine.exec (.kstErase r) s = .next (settled s (cleared (put s F.KST_RESULT_code 1)))) ∧
      (free → slotGen s k = 0xFFFFFFFF → Machine.exec (.kstWrite r) s = .next (settled s (cleared (put s F.KST_RESULT_code 2)))) ∧
      (free → slotGen s k ≠ 0xFFFFFFFF → Machine.exec (.kstWrite r) s =
        .next (settled s (cleared (put (slotPut s k (some (kstKey s))) F.KST_RESULT_code 0)))) ∧
      (free → Machine.exec (.kstErase r) s = .next (settled s (cleared (put (slotPut s k none) F.KST_RESULT_code 0))))) ∧
    (slotIdle s slot = true → Machine.exec (.keySlotDrained slot) s = .next (settled s s)) ∧
    (slotIdle s slot = false → capturedKeys s = [] →
      Machine.exec (.keySlotDrained slot) s = .next (settled s (sendConfirm (sendConfirm (slotDrained s slot) .a) .b)))

/-- A frame on a lane that is not active, or in the safe state on a channel other than 0, has no effect; hunt becomes presync on a good header,
presync sync, and a second miss in sync hunt; a header for another lane raises misroute. A decoded map gives the terminal's windows and
counts lost and malformed entries. Where a window has been filled before its command, together with others, the command only takes its note
away. A window that cannot be filled counts under its reason, otherwise its burst is filled; a continuation is filled at its own point into
its burst. A remainder that waited too long is discarded. An upstream container is refused with its reason or waits; a standing burst is
built 800 codewords before its window and waits like every other, or counts as an unused window. (How a standing burst takes the client's
bytes, and the fills that go before a command's own, are the model's choice, log entries 71 and 220.) (R113, R162, R163, R164, R165, R176,
R182, R186) -/
def Obligations.LineTraffic : Prop :=
  ∀ (s : State) (q : Path) (x : List Byte) (rest : List (List Byte)) (l : Lane) (f : DsFrame) (posts : List RxPost) (m : Nat × Nat × List (Option (List Nat)))
    (start : Nat) (mis : Bool) (aid : Fin 512) (rem : Remainder) (t : Fin 32) (exc dfc : Nat) (w : Window),
    let b := sub x 4 (be x 3 1);
    let u := inc (modAct s q (fun a => { a with inbox := rest })) (F.ACT_LCM_RX_count (qn q));
    let told (v : State) := if hdrMisrouted f l then raiseGrey v (F.DFR_CH_EVENT_misroute l) else v;
    let took (typ : Nat) := (act s q).inbox = x :: rest ∧ be x 2 1 = typ ∧ lcmDestOk typ (be x 0 2) (tidOf s q) (actState s q) = true;
    (getB s F.GLB_SAFE_safe = false → (isolated s 4 = true ∨ laneActive s l = false) →
      Machine.exec (.downstreamFrame l f posts) s = .next (settled s s)) ∧
    (getB s F.GLB_SAFE_safe = true → laneChan l ≠ 0 → Machine.exec (.downstreamFrame l f posts) s = .next (settled s s)) ∧
    (getB s F.GLB_SAFE_safe = false → isolated s 4 = false → laneActive s l = true → (dfrLane s l).merged = true →
      (get s (F.DFR_CH_STATUS_delin l) = 0 → f.syncErr ≤ 6 → hdrGood f l = true → Machine.exec (.downstreamFrame l f posts) s = .next (settled s
        (lineSettle (unestablish (report (modDfrLane (put s (F.DFR_CH_STATUS_delin l) 1) l (fun d => { d with goodFn := some (hdrFn f.hdr) })) l) l)))) ∧
      (get s (F.DFR_CH_STATUS_delin l) = 1 → f.syncErr ≤ 6 → Machine.exec (.downstreamFrame l f posts) s = .next (settled s
        (processFrame (told (modDfrLane (put s (F.DFR_CH_STATUS_delin l) 2) l (fun d => { d with miss := 0 }))) l f posts))) ∧
      (get s (F.DFR_CH_STATUS_delin l) = 2 → f.syncErr ≤ 6 → Machine.exec (.downstreamFrame l f posts) s = .next (settled s
        (processFrame (told (modDfrLane s l (fun d => { d with miss := 0 }))) l f posts))) ∧
      (get s (F.DFR_CH_STATUS_delin l) = 2 → 6 < f.syncErr → 1 ≤ (dfrLane s l).miss → Machine.exec (.downstreamFrame l f posts) s =
        .next (settled s (lineSettle (unestablish (report (hunt s l) l) l))))) ∧
    (s.upb.maps.find? (fun m => decide (m.1 = l.val)) = none → Machine.exec (.grantMapDecode l) s = .next (settled s s)) ∧
    (s.upb.maps.find? (fun m => decide (m.1 = l.val)) = some m →
      let p := lanePath l;
      let v := reach { s with upb := { s.upb with maps := s.upb.maps.erase m } } (1 + qn p) (5000 * m.2.1 + 60);
      let lost := (mapEntries m.2.2).2;
      let v1 := if lost = 0 then v else greyOf (addTo v (F.UPB_P_UNUSED_count (qn p) 6) lost) F.UPB_EVENT_map_lost [(4, l)];
      let ws := (ownWindows v1 l (m.2.1 + 1) (mapEntries m.2.2).1).1;
      let bad := (ownWindows v1 l (m.2.1 + 1) (mapEntries m.2.2).1).2;
      let v2 := if bad = 0 then v1 else greyOf (addTo v1 (F.UPB_P_UNUSED_count (qn p) 4) bad) F.UPB_EVENT_grant_bad [(4, l)];
      let v3 := { v2 with upb := { v2.upb with windows := v2.upb.windows ++ ws } };
      Machine.exec (.grantMapDecode l) s = .next (settled s
        (if getB v3 F.GLB_SAFE_safe then (if laneChan l = 0 then gaspTry v3 p ws else v3) else ws.foldl windowDecoded v3))) ∧
    let early := earlyNote s .granted (fun k pos => decide (k = l.val) && decide (pos % 5000 = start));
    (∀ e, early = some e → Machine.exec (.windowFill l start mis) s = .next (settled s (dropNote s e))) ∧
    (early = none → windowAt s l start = none → Machine.exec (.windowFill l start mis) s = .next (settled s s)) ∧
    (early = none → windowAt s l start = some w →
      let p := lanePath w.lane;
      let n := laneChan w.lane;
      let due := pathFrameDue (reach (fillBefore s l (cwCount w.fn w.start)) (1 + qn (lanePath l)) (cwCount w.fn w.start - 800)) (lanePath l);
      let v0 := fillContsFirst due (windowGroup due w) (burstPlace due w) due.upb.windows.length;
      let v := { v0 with upb := { v0.upb with windows := v0.upb.windows.filter (fun x => decide (x ≠ w)) } };
      let conts := contChain v.upb.windows w v.upb.windows.length;
      let alone := { v with upb := { v.upb with windows := v.upb.windows.filter (fun x => !conts.contains x) } };
      let at_ := launchAt v p n (cwCount w.fn w.start) (eqdAt v p n w.fn);
      let why := unusedReason v w.lane w.fn .granted w.idx.isNone at_.1 at_.2 ((w :: conts).foldl (fun k x => k + x.len) 0);
      let later := unusedReason v w.lane w.fn .granted w.idx.isNone 0 0 0;
      let burst := v.upb.bursts.find? (fun b =>
        decide (b.lane = w.lane) && decide (b.pos / 5000 = w.fn) && b.conts.any (fun c => decide (c.1 = w.start)));
      (∀ k, w.cont = false → why = some k → Machine.exec (.windowFill l start mis) s =
        .next (settled s (addTo alone (F.UPB_P_UNUSED_count (qn p) k) (1 + conts.length)))) ∧
      (w.cont = false → why = none → actState v p ≠ 3 → get v (F.UPB_PRE_plen (qn p) w.pre) ≠ 0 →
        Machine.exec (.windowFill l start mis) s = .next (settled s (fillBurst v w conts mis))) ∧
      (w.cont = false → why = none → actState v p ≠ 3 → get v (F.UPB_PRE_plen (qn p) w.pre) = 0 → Machine.exec (.windowFill l start mis) s =
        .next (settled s (greyOf (addTo alone (F.UPB_P_UNUSED_count (qn p) 4) (1 + conts.length)) F.UPB_EVENT_grant_bad [(4, w.lane)]))) ∧
      (w.cont = true → burst = none → Machine.exec (.windowFill l start mis) s = .next (settled s v)) ∧
      (∀ y c, w.cont = true → burst = some y → later = none → y.conts.find? (fun c => decide (c.1 = w.start)) = some c →
        Machine.exec (.windowFill l start mis) s = .next (settled s (fillCont v y w c.2.1 c.2.2 mis))) ∧
      (∀ y k, w.cont = true → burst = some y → later = some k → Machine.exec (.windowFill l start mis) s =
        .next (settled s (addTo (skipCont v y w) (F.UPB_P_UNUSED_count (qn p) k) 1)))) ∧
    (s.upb.rests.find? (fun r => decide (r.idx = aid.val)) = some rem → Machine.exec (.fragAbandon aid) s = .next (settled s
      (abandonRest (reach s (1 + qn (lanePath rem.lane)) (5000 * (rem.fn + get s F.UPB_CTRL_frag_to + 1) - 800)) rem))) ∧
    (s.upb.rests = [] → Machine.exec (.fragAbandon aid) s = .next (settled s s)) ∧
    (took 0x20 → tribKnown (upTribReason s q) b = true → upTribReason u q (be b 0 1) (be b 1 1) (be b 2 2) (be b 4 1) ≠ 0 →
      Machine.exec (.upTribAssign q) s = .next (settled s (greyOf (queueLcm u q .act 0xA0 (beBytes 1 (be b 0 1) ++
        beBytes 1 (upTribReason u q (be b 0 1) (be b 1 1) (be b 2 2) (be b 4 1)))) F.UPB_EVENT_trib_nack (chanIds q (be b 1 1))))) ∧
    (took 0x20 → tribKnown (upTribReason s q) b = true → upTribReason u q (be b 0 1) (be b 1 1) (be b 2 2) (be b 4 1) = 0 →
      Machine.exec (.upTribAssign q) s = .next (settled s { u with upb := { u.upb with
        pendTrib := u.upb.pendTrib.filter (fun p => decide (p.2.t ≠ be b 0 1) || decide (p.2.applyFn < be b 5 6)) ++ [(q, ⟨be b 0 1,
          if be b 4 1 = 0xFF then none else some (tribWord q (be b 1 1) (be b 2 2) (be b 4 1)), be b 5 6⟩)] } })) ∧
    let before := earlyNote s (.standing t) (fun _ _ => true);
    (∀ e, before = some e → ∃ v, v = dropNote s e ∧ Machine.exec (.standingBurst t exc dfc) s = .next (settled s
      { v with upb := { v.upb with tribs := Tab.upd v.upb.tribs t {} (fun y => { y with excess := y.excess + ((exc : Int) - dfc) }) } })) ∧
    (before = none → nextStand s (standPath s t) t = none → Machine.exec (.standingBurst t exc dfc) s = .next (settled s s)) ∧
    (∀ fn cfg, before = none → nextStand s (standPath s t) t = some (fn, cfg) →
      let p := standPath s t;
      let n := bits cfg 13 6;
      let pos := cwCount fn (bits cfg 0 13);
      let v0 := pathFrameDue (reach (fillBefore s (laneOf p n) pos) (1 + qn p) (pos - 800)) p;
      let v := { v0 with upb := { v0.upb with tribs := Tab.upd v0.upb.tribs t {} (fun y => { y with lastFn := some fn }) } };
      let at_ := launchAt v p n pos (eqdAt v p n fn);
      let why := unusedReason v (laneOf p n) fn (.standing t) false at_.1 at_.2 (standLen v p cfg);
      let c := buildContainer v t (bits cfg 20 1) ((exc : Int) - dfc);
      let y := takeBsn c.1 p;
      (∀ k, why = some k → Machine.exec (.standingBurst t exc dfc) s = .next (settled s (mapperHeld (addTo v (F.UPB_P_UNUSED_count (qn p) k) 1) t))) ∧
      (why = none → Machine.exec (.standingBurst t exc dfc) s = .next (settled s (queueBurst y.1 {
        kind := .standing t, lane := laneOf p n, pos := pos, guard := (act v p).minGuard, len := standLen v p cfg,
        pre := get y.1 (F.UPB_PRE_kind (qn p) 0), plen := 2441, alarm := at_.1, fine := at_.2, bsn := y.2, segs := [], acts := 0, reps := [],
        wins := 1, mgmt := false, info := burstHeader (tidOf y.1 p) n (qn p) false false false true y.2 (fn % 2 ^ 32) ++
          fit (5140 * contCodewords (bits cfg 20 1) / 8) c.2 }))))

/-- A port goes from DOWN to ADAPT, ALIGN and UP in order, back to ALIGN on lost alignment and to DOWN on a lost signal; each of these in
another state does nothing. A fault ordered set takes an Ethernet port from UP to FAULT, answered with remote fault, or with idle where it
is one; a transparent port maps every change of what it receives; the absence of faults ends both. A pause expires; one that stands too long
is released, counted, raised Amber and marked broken until its end of ignoring. Standing backpressure is announced again. (The data bytes of
the two faults are IEEE 802.3's, log entry 193.) (R256, R258, R263, R264, R265) -/
def Obligations.ClientLinks : Prop :=
  ∀ (s : State) (n : PktRegion) (l : Fin 32) (p : Fin 8) (snr : BitVec 16) (d : BitVec 24),
    let link := portLink s n l;
    let paused := F.CMC_PORT_STATUS_peer_paused n l;
    let broken := F.CMC_PORT_STATUS_pw_broken n l;
    let shown := putB (putB s (F.CMC_PORT_STATUS_rx_lf n l) (decide (d.toNat = 1))) (F.CMC_PORT_STATUS_rx_rf n l) (decide (d.toNat = 2));
    let clear := putB (putB s (F.CMC_PORT_STATUS_rx_lf n l) false) (F.CMC_PORT_STATUS_rx_rf n l) false;
    (isPort s n l = true → link = 0 → lanesRun s n = true → (portLanes s n l).all (fun k => bit (get s (F.CMC_LANE_EN_en n)) k) = true →
      Machine.exec (.signalDetect n l) s = .next (settled s
        (setLink ((portLanes s n l).foldl (fun s k => putB s (F.CMC_LANE_STATUS_sig n k) true) s) n l 1))) ∧
    (link ≠ 0 → Machine.exec (.signalDetect n l) s = .next (settled s s)) ∧
    (link = 1 → Machine.exec (.laneAdaptDone n l snr) s = .next (settled s (setLink ((portLanes s n l).foldl (fun s k =>
      put (putB (putB s (F.CMC_LANE_STATUS_cdr_lock n k) true) (F.CMC_LANE_STATUS_adapted n k) true) (F.CMC_LANE_SNR_snr n k) snr.toNat) s) n l 2))) ∧
    (link ≠ 1 → Machine.exec (.laneAdaptDone n l snr) s = .next (settled s s)) ∧
    (link = 2 → Machine.exec (.alignLock n l) s = .next (settled s (setLink s n l 3))) ∧
    (link ≠ 2 → Machine.exec (.alignLock n l) s = .next (settled s s)) ∧
    (3 ≤ link → Machine.exec (.alignLoss n l) s = .next (settled s (setLink s n l 2))) ∧
    (link < 3 → Machine.exec (.alignLoss n l) s = .next (settled s s)) ∧
    (link ≠ 0 → Machine.exec (.signalLoss n l) s = .next (settled s (portDown s n l))) ∧
    (link = 0 → Machine.exec (.signalLoss n l) s = .next (settled s s)) ∧
    (link < 3 → Machine.exec (.faultOrderedSetRx n l d) s = .next (settled s s)) ∧
    (3 ≤ link → isTransparent s n l = false → (d.toNat = 1 ∨ d.toNat = 2) → isEth s n l = true →
      let t := if link = 3 then raiseGrey (put shown (F.CMC_PORT_STATUS_link n l) 4) (F.CMC_PORT_EVENT_fault n l) else shown;
      Machine.exec (.faultOrderedSetRx n l d) s = .next (settled s (emitSet t n l (if d.toNat = 2 then 0 else 0x200)))) ∧
    (isTransparent s n l = false → d.toNat ≠ 1 → d.toNat ≠ 2 → Machine.exec (.faultOrderedSetRx n l d) s = .next (settled s s)) ∧
    (3 ≤ link → isTransparent s n l = true →
      Machine.exec (.faultOrderedSetRx n l d) s = .next (settled s (receivedSet shown n l (256 * d.toNat)))) ∧
    (∀ v os, receivedSet v n l os = if (portSt v n l).osRx = os then v
      else if isTransparent (modPort v n l (fun x => { x with osRx := os })) n l
        then mapOrderedSet (modPort v n l (fun x => { x with osRx := os })) n l
        else modPort v n l (fun x => { x with osRx := os })) ∧
    (link = 4 →
      let u := put clear (F.CMC_PORT_STATUS_link n l) 3;
      Machine.exec (.faultClearTimeout n l) s = .next (settled s (if getB s (F.CMC_PORT_STATUS_rx_lf n l) then emitSet u n l 0 else u))) ∧
    (link ≠ 4 → isTransparent s n l = true → Machine.exec (.faultClearTimeout n l) s = .next (settled s (receivedSet clear n l 0))) ∧
    (link ≠ 4 → isTransparent s n l = false → Machine.exec (.faultClearTimeout n l) s = .next (settled s s)) ∧
    Machine.exec (.pauseExpire n l p) s = .next (settled s (put s paused (setBits (get s paused) p 1 0))) ∧
    (bit (get s paused) p = true →
      let t := put (put s paused (setBits (get s paused) p 1 0)) broken (setBits (get s broken) p 1 1);
      Machine.exec (.pauseWatchdog n l p) s = .next (settled s
        (raise (inc t (F.CMC_PW_BREAKS_count n l)) (F.CMC_PORT_EVENT_pw_break n l) .amber p))) ∧
    (bit (get s paused) p = false → Machine.exec (.pauseWatchdog n l p) s = .next (settled s s)) ∧
    Machine.exec (.pauseIgnoreEnd n l p) s = .next (settled s (put s broken (setBits (get s broken) p 1 0))) ∧
    Machine.exec (.pauseRefresh n l) s =
      .next (settled s (sendReq s n l (portSt s n l).txReq (get s (F.CMC_PORT_FC_tx_quanta n l))))

/-- A frame of an Ethernet port that is UP is counted and, in this order, dropped for a PCS error, runt, oversize or FCS; a MAC control frame is
taken by the port and any other enters its pipeline; a quiesced port discards. A frame taken for transmission waits while the port is
quiesced or its region does no work, is lost when short without padding, too long or without link, and otherwise leaves with its FCS and
counts. A transparent port maps what it receives, repeats a standing ordered set until 64 µs pass without one, and sends what it demaps: an
ordered set from its record, a frame once the header after it has come, which goes out only where the lane drives. (How the frames of a
transparent port count is the model's reading, log entry 192.) (R256, R257, R260, R261) -/
def Obligations.ClientFrames : Prop :=
  ∀ (s : State) (n : PktRegion) (l : Fin 32) (bs : List Byte) (pcs : Bool) (corr uncorr : Nat) (f : QFrame) (fb : List Byte),
    let up := portLink s n l = 3 ∧ lanesRun s n = true;
    let t := statAdd (statAdd s n l 21 corr) n l 22 uncorr;
    let c := statAdd t n l 2 (min bs.length (get t (F.CMC_PORT_MAC_maxlen n l) + 1));
    let sized := sizeAdd c n l 11 (get t (F.CMC_PORT_MAC_maxlen n l)) bs.length;
    let good := beNat (bs.drop (bs.length - 4)).reverse = fcs (bs.take (bs.length - 4));
    let legal := 64 ≤ bs.length ∧ bs.length ≤ get t (F.CMC_PORT_MAC_maxlen n l);
    let sent := modPort s n l (fun p => { p with tx := none });
    (¬ up ∨ isEth s n l = false → Machine.exec (.clientFrameRx n l bs pcs corr uncorr) s = .next (settled s s)) ∧
    (isEth s n l = true → up → portQuiesced t n l = true ∨ bit t.epc.quiesced.regions n = true →
      Machine.exec (.clientFrameRx n l bs pcs corr uncorr) s = .next (settled s (inc t F.EPC_QDROP_count))) ∧
    (isEth s n l = true → up → portQuiesced t n l = false → bit t.epc.quiesced.regions n = false →
      (pcs = true ∨ uncorr ≠ 0 → Machine.exec (.clientFrameRx n l bs pcs corr uncorr) s =
        .next (settled s (statAdd (cmcDiscard sized n l 4) n l 10 1))) ∧
      (pcs = false → uncorr = 0 → bs.length < 64 → Machine.exec (.clientFrameRx n l bs pcs corr uncorr) s =
        .next (settled s (statAdd (cmcDiscard sized n l 1) n l 8 1))) ∧
      (pcs = false → uncorr = 0 → 64 ≤ bs.length → get t (F.CMC_PORT_MAC_maxlen n l) < bs.length →
        Machine.exec (.clientFrameRx n l bs pcs corr uncorr) s = .next (settled s (statAdd (cmcDiscard sized n l 2) n l 9 1))) ∧
      (pcs = false → uncorr = 0 → legal → ¬ good →
        Machine.exec (.clientFrameRx n l bs pcs corr uncorr) s = .next (settled s (statAdd (cmcDiscard sized n l 3) n l 7 1))) ∧
      (pcs = false → uncorr = 0 → legal → good → be bs 12 2 = 0x8808 →
        Machine.exec (.clientFrameRx n l bs pcs corr uncorr) s = .next (settled s (macControlRx (statAdd sized n l 6 1) n l bs))) ∧
      (pcs = false → uncorr = 0 → legal → good → be bs 12 2 ≠ 0x8808 →
        let v := monIn (statAdd (statAdd (statAdd sized n l 0 1) n l 1 bs.length) n l (3 + castOf bs) 1) n 0x20 [(1, 32 * n + l)] bs.length;
        Machine.exec (.clientFrameRx n l bs pcs corr uncorr) s = .next (settled s (ingress v n {
          bytes := bs.take (bs.length - 4), src := 0, port := l, pipe := l / 8,
          ing := { kind := 0, id := 32 * n + l, raw := clientRxRaw v (32 * n + l), tc := getB v (F.TSU_PORT_CFG_tc_en (32 * n + l)) } })))) ∧
    ((portSt s n l).tx = none → Machine.exec (.clientFrameTx n l) s = .next (settled s s)) ∧
    ((portSt s n l).tx = some (f, fb) → (portQuiesced s n l = true ∨ isEth s n l = false ∨ regionStopped s n = true) → Machine.exec (.clientFrameTx n l) s = .next (settled s s)) ∧
    ((portSt s n l).tx = some (f, fb) → portQuiesced s n l = false → isEth s n l = true → regionStopped s n = false → fb.length < 60 → getB sent (F.CMC_PORT_MAC_pad_en n l) = false →
      Machine.exec (.clientFrameTx n l) s = .next (settled s (txLost sent n l f fb 0x06 30))) ∧
    ((portSt s n l).tx = some (f, fb) → portQuiesced s n l = false → isEth s n l = true → regionStopped s n = false → 60 ≤ fb.length → get sent (F.CMC_PORT_MAC_maxlen n l) < fb.length + 4 →
      Machine.exec (.clientFrameTx n l) s = .next (settled s (txLost sent n l f fb 0x05 29))) ∧
    ((portSt s n l).tx = some (f, fb) → portQuiesced s n l = false → isEth s n l = true → regionStopped s n = false → 60 ≤ fb.length → fb.length + 4 ≤ get sent (F.CMC_PORT_MAC_maxlen n l) →
      portLink sent n l ≠ 3 → Machine.exec (.clientFrameTx n l) s = .next (settled s (txLost sent n l f fb 0x07 32))) ∧
    ((portSt s n l).tx = some (f, fb) → portQuiesced s n l = false → isEth s n l = true → regionStopped s n = false → 60 ≤ fb.length → fb.length + 4 ≤ get sent (F.CMC_PORT_MAC_maxlen n l) →
      portLink sent n l = 3 → f.errored = false → f.ts = false → f.ing.ptp = none → f.tx = none →
      let x := clientTxRaw sent (32 * n + l);
      let v := statAdd (statAdd (statAdd (emit sent (.clientFrame n l (withFcs fb false) false)) n l 23 1) n l 24 (fb.length + 4)) n l (25 + castOf fb) 1;
      Machine.exec (.clientFrameTx n l) s = .next (settled s (fate
        (monOut (statAdd v n l (33 + sizeBucket (fb.length + 4)) 1) n 0x20 [(1, 32 * n + l)] (fb.length + 4)) none 0
        (some (descTime (monOut (statAdd v n l (33 + sizeBucket (fb.length + 4)) 1) n 0x20 [(1, 32 * n + l)] (fb.length + 4)) x))))) ∧
    (isTransparent s n l = true → up → portQuiesced t n l = false → Machine.exec (.transparentFrameRx n l bs ⟨pcs, corr, uncorr⟩) s =
      .next (settled s (transparentRx t n l bs (pcs || decide (uncorr ≠ 0))))) ∧
    (isTransparent s n l = true → up → portQuiesced t n l = true → Machine.exec (.transparentFrameRx n l bs ⟨pcs, corr, uncorr⟩) s =
      .next (settled s (inc t F.EPC_QDROP_count))) ∧
    (isTransparent s n l = false → Machine.exec (.transparentFrameRx n l bs ⟨pcs, corr, uncorr⟩) s = .next (settled s s) ∧
      Machine.exec (.orderedSetRepeat n l) s = .next (settled s s) ∧ Machine.exec (.demapRecord n l) s = .next (settled s s)) ∧
    (isTransparent s n l = true → (portSt s n l).osRx ≠ 0 → Machine.exec (.orderedSetRepeat n l) s = .next (settled s (mapOrderedSet s n l))) ∧
    (isTransparent s n l = true → (portSt s n l).demap.length < 8 → Machine.exec (.demapRecord n l) s = .next (settled s s)) ∧
    (isTransparent s n l = true → regionStopped s n = true → Machine.exec (.demapRecord n l) s = .next (settled s s)) ∧
    (isTransparent s n l = true → regionStopped s n = false →
      let st := (portSt s n l).demap;
      let h := st.map (fun e => e.1);
      let os := be h 0 7 % 2 ^ 32;
      let k := 8 + recLen h;
      let past (m : Nat) := modPort s n l (fun p => { p with demap := st.drop m });
      hdrGood8 h = true →
      (recKind h = 2 → Machine.exec (.demapRecord n l) s =
        .next (settled s (emitSet (modPort (past 8) n l (fun p => { p with osTx := os })) n l os))) ∧
      (recKind h = 1 → h.length < k + 8 → Machine.exec (.demapRecord n l) s = .next (settled s s)) ∧
      (recKind h = 1 → k + 8 ≤ h.length → portQuiesced s n l = true →
        Machine.exec (.demapRecord n l) s = .next (settled s (inc (past k) F.EPC_QDROP_count))) ∧
      (recKind h = 1 → k + 8 ≤ h.length → portQuiesced s n l = false → laneDrives s n l = false →
        Machine.exec (.demapRecord n l) s = .next (settled s (past k))) ∧
      (recKind h = 1 → k + 8 ≤ h.length → portQuiesced s n l = false → laneDrives s n l = true → Machine.exec (.demapRecord n l) s = .next (settled s
        (demapFrame (past k) n l ((h.drop 8).take (recLen h)) (bit (be h 0 7) 38) ((st.take k).any (fun e => e.2) || !hdrGood8 (h.drop k))))) ∧
      (recKind h ≠ 1 → recKind h ≠ 2 → Machine.exec (.demapRecord n l) s = .next (settled s (past 8)))) ∧
    ((portSt s n l).osTx = 0 → Machine.exec (.orderedSetTimeout n l) s = .next (settled s s)) ∧
    ((portSt s n l).osTx ≠ 0 → Machine.exec (.orderedSetTimeout n l) s =
      .next (settled s (emitSet (modPort s n l (fun p => { p with osTx := 0 })) n l 0)))

/-- While a staged write waits for the seed copy every command of the port answers BUSY; a staged write that finds the copy running waits. A
write to the staged side outside STAGING answers NOT_STAGING, an index or key out of range RANGE, an entry that is not there ABSENT, a key
that is there EXISTS, an exact table without room FULL; otherwise the entry is shown, written, inserted or removed and the result is OK.
(That a waiting write answers with busy is the model's reading, log entry 87.) (R60, R281, R293, R294, R295) -/
def Obligations.TableAccess : Prop :=
  ∀ (s : State) (r : Requester) (n : PktRegion) (staged : Bool) (e : TernEnt) (s' : State), Reaches s r (R.PRS_TA_CMD n) true →
    let cmd (op : Nat) := putB (put s (F.PRS_TA_CMD_op n) op) (F.PRS_TA_CMD_bank n) staged;
    let ends (op code : Nat) := settled s (taResult (cmd op) n code);
    let key (u : State) := taNum u n 0 16;
    let tern (u : State) := taExact u n = false ∧ taIdx u n < ternLen u n (taTbl u n);
    let entry (u : State) := Tab.find (taBank u staged).tern (ternKey n (taTbl u n) (taIdx u n));
    let width (u : State) := 2 ^ tableBits u n (taTbl u n);
    let runs (op : Nat) := taMayWrite (cmd op) staged = true ∧ (staged = true → getB (cmd op) F.EPC_STATUS_seeding = false);
    let waits (op : Nat) := settled s (putB (modPrs (cmd op) n (fun p => { p with taWait := some op })) (F.PRS_TA_RESULT_busy n) true);
    let seeding (op : Nat) := staged = true ∧ taMayWrite (cmd op) staged = true ∧ getB (cmd op) F.EPC_STATUS_seeding = true;
    let busy := settled s (put s (F.PRS_TA_RESULT_code n) 6);
    ((pkt s n).prs.taWait.isSome = true →
      Machine.exec (.taRead r n staged) s = .next busy ∧ Machine.exec (.taWrite r n staged) s = .next busy ∧
      Machine.exec (.taInsert r n staged) s = .next busy ∧ Machine.exec (.taDelete r n staged) s = .next busy ∧
      Machine.exec (.taLookup r n staged) s = .next busy ∧ Machine.exec (.taActRead r n staged) s = .next busy ∧
      Machine.exec (.taActWrite r n staged) s = .next busy) ∧
    ((pkt s n).prs.taWait = none →
      (seeding 2 → Machine.exec (.taWrite r n staged) s = .next (waits 2)) ∧
      (seeding 3 → Machine.exec (.taInsert r n staged) s = .next (waits 3)) ∧
      (seeding 4 → Machine.exec (.taDelete r n staged) s = .next (waits 4)) ∧
      (seeding 7 → Machine.exec (.taActWrite r n staged) s = .next (waits 7)) ∧
      (taExact (cmd 1) n = true ∨ ternLen (cmd 1) n (taTbl (cmd 1) n) ≤ taIdx (cmd 1) n → Machine.exec (.taRead r n staged) s = .next (ends 1 2)) ∧
      (tern (cmd 1) → entry (cmd 1) = some e →
        Machine.exec (.taRead r n staged) s = .next (settled s (taResult (taShow (cmd 1) n e.key e.mask e.act true) n 0))) ∧
      (tern (cmd 1) → entry (cmd 1) = none →
        Machine.exec (.taRead r n staged) s = .next (settled s (taResult (taShow (cmd 1) n 0 0 0 false) n 4))) ∧
      (taMayWrite (cmd 2) staged = false → Machine.exec (.taWrite r n staged) s = .next (ends 2 1)) ∧
      (runs 2 → tern (cmd 2) → key (cmd 2) < width (cmd 2) → taNum (cmd 2) n 16 16 < width (cmd 2) →
        Machine.exec (.taWrite r n staged) s = .next (settled s (taResult (taModBank (cmd 2) staged (fun b => { b with
          tern := Tab.set b.tern (ternKey n (taTbl (cmd 2) n) (taIdx (cmd 2) n))
            ⟨key (cmd 2), taNum (cmd 2) n 16 16, get (cmd 2) (F.PRS_TA_DATA_bits n 32) % 65536⟩ })) n 0))) ∧
      (runs 3 → taExact (cmd 3) n = false ∨ width (cmd 3) ≤ key (cmd 3) →
        Machine.exec (.taInsert r n staged) s = .next (ends 3 2)) ∧
      (runs 3 → taExact (cmd 3) n = true → key (cmd 3) < width (cmd 3) →
        ((lookup (cmd 3) n (taTbl (cmd 3) n) (key (cmd 3)) (taTag (cmd 3) staged)).isSome = true →
          Machine.exec (.taInsert r n staged) s = .next (ends 3 5)) ∧
        ((lookup (cmd 3) n (taTbl (cmd 3) n) (key (cmd 3)) (taTag (cmd 3) staged)).isSome = false → ∀ ok,
          taModExact (cmd 3) n staged (taTbl (cmd 3) n) (key (cmd 3)) (some (get (cmd 3) (F.PRS_TA_DATA_bits n 32) % 65536)) = (s', ok) →
          Machine.exec (.taInsert r n staged) s = .next (settled s (taResult s' n (if ok then 0 else 3))))) ∧
      (runs 4 → tern (cmd 4) → (entry (cmd 4)).isSome = true →
        Machine.exec (.taDelete r n staged) s = .next (settled s (taResult (taModBank (cmd 4) staged (fun b => { b with
          tern := Tab.del b.tern (ternKey n (taTbl (cmd 4) n) (taIdx (cmd 4) n)) })) n 0))) ∧
      (runs 4 → tern (cmd 4) → entry (cmd 4) = none → Machine.exec (.taDelete r n staged) s = .next (ends 4 4)) ∧
      (runs 4 → taExact (cmd 4) n = true →
        (lookup (cmd 4) n (taTbl (cmd 4) n) (key (cmd 4)) (taTag (cmd 4) staged)).isNone = true →
        Machine.exec (.taDelete r n staged) s = .next (ends 4 4)) ∧
      (taExact (cmd 5) n = false → ternHit (taBank (cmd 5) staged) n (taTbl (cmd 5) n) (ternLen (cmd 5) n (taTbl (cmd 5) n)) (key (cmd 5)) = none →
        Machine.exec (.taLookup r n staged) s = .next (ends 5 4)) ∧
      (taExact (cmd 5) n = true → ∀ i x a, exactSlot (cmd 5) n (taTbl (cmd 5) n) (key (cmd 5)) = some (i, x) →
        x.act (taTag (cmd 5) staged) = some a → Machine.exec (.taLookup r n staged) s = .next (settled s
          (taResult (put (taShow (cmd 5) n (key (cmd 5)) 0 a true) (F.PRS_TA_DATA_bits n 33) i) n 0))) ∧
      (65536 ≤ taIdx (cmd 6) n → Machine.exec (.taActRead r n staged) s = .next (ends 6 2)) ∧
      (taIdx (cmd 6) n < 65536 → Machine.exec (.taActRead r n staged) s = .next (settled s
        (taResult (taPut (cmd 6) n 0 4 (Tab.getD (taBank (cmd 6) staged).acts (65536 * n + taIdx (cmd 6) n) 0)) n 0))) ∧
      (runs 7 → taIdx (cmd 7) n < 65536 → Machine.exec (.taActWrite r n staged) s = .next (settled s
        (taResult (taModBank (cmd 7) staged (fun b => { b with
          acts := Tab.set b.acts (65536 * n + taIdx (cmd 7) n) (taNum (cmd 7) n 0 4) })) n 0))) ∧
      (taMayWrite (cmd 7) staged = false → Machine.exec (.taActWrite r n staged) s = .next (ends 7 1)))

/-- Pipelines, roots, retries and demotion do nothing while their region sleeps or is isolated. A pipeline makes one pass of its next packet; a
root that can be served delivers; a waiting allocation asks again; a meter refills up to its burst; the wheel releases its entry; the scan
goes over the queues and lists, oldest frame first, and moves a buffer down that lies behind the bytes kept and has passed its age; a
promotion done brings its buffer up and frees what waited for it. Handle operations check the handle, the unit, the owner and the references
in this order and answer with the references left. A suspended owner is restored at P1. POL_ACC_DONE is noted and the oldest timestamp
record is removed. (The order of the handle checks is the model's choice, log entry 96.) (R273, R305, R309, R312, R323, R324, R330, R331,
R332, R333, R335, R360) -/
def Obligations.PacketServices : Prop :=
  ∀ (s : State) (r : Requester) (n : PktRegion) (k : Fin 8) (m : Fin 4096) (post : RxPost) (pol node : Bool) (i : Fin 65536) (j : Fin 16384)
    (chunk : BitVec 8) (o : Fin 1024) (w : RetryReq) (mt : Meter) (x : SNode),
    let op (c : Nat) := put s (F.BPM_HOP_CMD_op n) c;
    let unit (u : State) := handleUnit u n (get u (F.BPM_HOP_HANDLE_handle n));
    let named (u : State) := get u (F.BPM_HOP_OWNER_owner n);
    (regionStopped s n = true → Machine.exec (.prsPass n k) s = .next (settled s s) ∧ Machine.exec (.dequeue n m post) s = .next (settled s s) ∧
      Machine.exec (.allocRetry n) s = .next (settled s s) ∧ Machine.exec (.demotionScan n) s = .next (settled s s)) ∧
    (regionStopped s n = false → ∀ s' p, nextPacket s n k = (s', some p) → Machine.exec (.prsPass n k) s = .next (settled s (pass s' n p))) ∧
    (regionStopped s n = false → ∀ s', nextPacket s n k = (s', none) → Machine.exec (.prsPass n k) s = .next (settled s s')) ∧
    ((pkt s n).bpm.retry = [] → Machine.exec (.allocRetry n) s = .next (settled s s)) ∧
    ((pkt s n).bpm.retry = [w] → regionStopped s n = false → cellsOf w.bytes.length ≤ poolFree s n 0 →
      let u := modBpm s n (fun p => { p with retry := [] });
      (w.inject = none → Machine.exec (.allocRetry n) s =
        .next (settled s (allocTo u n w.queue w.frame w.bytes (some w.since) w.who))) ∧
      (∀ pipe own, w.inject = some (pipe, own) → Machine.exec (.allocRetry n) s =
        .next (settled s (injectTo u n pipe own w.frame.tx w.bytes (some w.since))))) ∧
    (regionStopped s n = false → snode s n m = some x → x.kind = 0 → x.parent = none → isEth s n (x.target % 32) = true → (portSt s n (x.target % 32)).tx = none →
      portQuiesced s n (x.target % 32) = false → Machine.exec (.dequeue n m post) s = .next (settled s (serveRoot s n m x post))) ∧
    (regionStopped s n = false → snode s n m = some x → x.kind = 2 → x.parent = none → rxReady s (x.target % 64) = true →
      Machine.exec (.dequeue n m post) s = .next (settled s (serveRoot s n m x post))) ∧
    (snode s n m = none → Machine.exec (.dequeue n m post) s = .next (settled s s)) ∧
    (let key := if pol then 65536 + i.val else i.val;
      (meter s n key = none → Machine.exec (.meterRefill n pol i) s = .next (settled s s)) ∧
      (meter s n key = some mt → mt.cfg = mtrCfg s n key →
        let full := burstOf mt.cfg;
        let t := min full mt.tokens + ((credit mt.cfg : Nat) : Int);
        Machine.exec (.meterRefill n pol i) s = .next (settled s (setMeter s n key { mt with tokens := min full t })))) ∧
    Machine.exec (.wheelRelease n node j) s = .next (settled s (modTmg s n (fun t => { t with
      wheel := Tab.del t.wheel (if node then 16384 + j.val else j.val) }))) ∧
    (regionStopped s n = false → (pkt s n).tmg.queues = [] → (pkt s n).bpm.bufs = [] →
      Machine.exec (.demotionScan n) s = .next (settled s (emptied s n false))) ∧
    (∀ l, regionStopped s n = false → (pkt s n).tmg.queues = [(j.val, l)] → s.pth.aids = [] →
      let low (v : State) := (pkt v n).bpm.bufs.filter (fun e => e.2.low.isSome);
      let u := emptied (scanQueue s n l 0) n false;
      Machine.exec (.demotionScan n) s = .next (settled s (if low u = low s then u else worked u n))) ∧
    (∀ b y behind keep k0 a0 a1 t, bufOf s n b = some y → movable y = true → y.low = none → profOf s n y.charged = (false, k0, a0, a1) →
      (keep < behind → a0 ≠ 0 → a0 < s.clk.ticks - y.at_ → demoteTo s n b 1 = some t → scanBuf s n b behind keep = t) ∧
      (behind ≤ keep ∨ a0 = 0 ∨ s.clk.ticks - y.at_ ≤ a0 → scanBuf s n b behind keep = s)) ∧
    (nextPromotion s n j = none → Machine.exec (.promotionDone n j) s = .next (settled s s)) ∧
    (∀ b, nextPromotion s n j = some b → regionStopped s n = false → isPoisoned (worked s n) n b = false →
      let t := promote (worked s n) n b;
      Machine.exec (.promotionDone n j) s = .next (settled s (if (bufOf t n b).any (fun x => x.cell.isSome) then
        modBpm t n (fun p => { p with want := p.want.filter (fun w => decide (w.2.2.2 ≠ b)) }) else t))) ∧
    (Reaches s r (R.BPM_HOP_CMD n) true →
      (unit (op 1) = none → Machine.exec (.hopFree r n) s = .next (settled s (hopResult
        (freeRefused (bpmDiscard (op 1) n 0x42) (F.BPM_EVENT_bad_handle n) n (named (op 1)) 0) n 1 0))) ∧
      (∀ c, unit (op 1) = some (0, c) → bufAt (op 1) n c = none → Machine.exec (.hopFree r n) s = .next (settled s (hopResult
        (freeRefused (op 1) (F.BPM_EVENT_double_free n) n (named (op 1)) 0) n 3 0))) ∧
      (∀ c b y, unit (op 1) = some (0, c) → bufAt (op 1) n c = some (b, y) → 1024 * n.val + y.owner ≠ named (op 1) →
        Machine.exec (.hopFree r n) s = .next (settled s (hopResult
          (freeRefused (op 1) (F.BPM_EVENT_free_owner n) n (named (op 1)) (1024 * n + y.owner)) n 2 y.refs))) ∧
      (∀ c b y, unit (op 1) = some (0, c) → bufAt (op 1) n c = some (b, y) → 1024 * n.val + y.owner = named (op 1) → y.refPin ≠ 0 →
        let z := { y with refPin := y.refPin - 1 };
        Machine.exec (.hopFree r n) s = .next (settled s (hopResult (settleBuf (op 1) n b z) n 0 z.refs))) ∧
      (unit (op 2) = none → Machine.exec (.hopAddref r n) s = .next (settled s (hopResult
        (raiseGrey (bpmDiscard (op 2) n 0x42) (F.BPM_EVENT_bad_handle n)) n 1 0))) ∧
      (∀ c b y, unit (op 2) = some (0, c) → bufAt (op 2) n c = some (b, y) → takePin (op 2) n b = none →
        Machine.exec (.hopAddref r n) s = .next (settled s (hopResult (raiseGrey (op 2) (F.BPM_EVENT_ref_limit n)) n 4 y.refs))) ∧
      (∀ c b y t, unit (op 2) = some (0, c) → bufAt (op 2) n c = some (b, y) → takePin (op 2) n b = some t →
        Machine.exec (.hopAddref r n) s = .next (settled s (hopResult t n 0 (y.refs + 1)))) ∧
      (let u := put (op 3) (F.BPM_HOP_CMD_chunk n) chunk.toNat;
        (unit u = none → Machine.exec (.hopRead r n chunk) s = .next (settled s (hopResult
          (raiseGrey (bpmDiscard u n 0x42) (F.BPM_EVENT_bad_handle n)) n 1 0))) ∧
        (∀ t c, unit u = some (t, c) → unitData u n t c = none → Machine.exec (.hopRead r n chunk) s = .next (settled s (hopResult u n 5 0))) ∧
        (∀ t c bs count, unit u = some (t, c) → unitData u n t c = some (bs, count) →
          let part := sub bs (256 * chunk.toNat) 256;
          let data := part ++ (freeBytes u 256).drop part.length;
          Machine.exec (.hopRead r n chunk) s = .next (settled s (hopResult
            ((List.range 64).foldl (fun s w => put s (F.BPM_HOP_DATA_bits n w) (le data (4 * w) 4)) (stepFree u)) n 0 count))))) ∧
    (Reaches s r (R.BPM_OWN_RESTORE n) true →
      (isP1 r = true → Machine.exec (.ownerRestore r n o) s =
        .next (settled s (modBpm s n (fun b => { b with faults := Tab.del b.faults o })))) ∧
      (isP1 r = false → Machine.exec (.ownerRestore r n o) s = .next (settled s s))) ∧
    (Reaches s r (R.POL_ACC_DONE n) true → Machine.exec (.polAccDone r n) s =
      .next (settled s (modPkt s n (fun p => { p with pol := { p.pol with done := true } })))) ∧
    (Reaches s r (R.TSU_TSQ_POP n) true →
      let t := (pkt s n).tsq;
      Machine.exec (.tsqPop r n) s = .next (settled s (put
        (modPkt s n (fun p => { p with tsq := { t with recs := t.recs.drop 1 } })) (F.TSU_TSQ_LEVEL_level n) (t.recs.length - 1))))
end

