-- ==== Sys2Proof/Laws/Table.lean ====
section
/-!
SUPPORT. Laws of sparse tables: what is found after a put and after a removal, and that both keep the canonical form.
-/
namespace Sys2Proof.Machine

@[simp] theorem Tab.find_set_same {α : Type} (t : Tab α) (k : Nat) (v : α) : Tab.find (Tab.set t k v) k = some v := by
  induction t with
  | nil => simp [Tab.set, Tab.find]
  | cons e rest ih =>
    obtain ⟨j, u⟩ := e
    by_cases h : j = k
    · simp [Tab.set, Tab.find, h]
    · by_cases h2 : k < j <;> simp [Tab.set, Tab.find, h, h2, ih]

theorem Tab.find_set_ne {α : Type} (t : Tab α) (k m : Nat) (v : α) (hm : m ≠ k) :
    Tab.find (Tab.set t k v) m = Tab.find t m := by
  induction t with
  | nil => simp [Tab.set, Tab.find, Ne.symm hm]
  | cons e rest ih =>
    obtain ⟨j, u⟩ := e
    by_cases h : j = k
    · subst h; simp [Tab.set, Tab.find, Ne.symm hm]
    · by_cases h2 : k < j
      · simp [Tab.set, Tab.find, h, h2, Ne.symm hm]
      · by_cases h3 : j = m
        · subst h3; simp [Tab.set, Tab.find, h, h2]
        · simp [Tab.set, Tab.find, h, h2, h3, ih]

@[simp] theorem Tab.find_del_same {α : Type} (t : Tab α) (k : Nat) : Tab.find (Tab.del t k) k = none := by
  induction t with
  | nil => rfl
  | cons e rest ih =>
    obtain ⟨j, u⟩ := e
    by_cases h : j = k
    · simpa [Tab.del, h] using ih
    · simpa [Tab.del, Tab.find, h] using ih

theorem Tab.find_del_ne {α : Type} (t : Tab α) (k m : Nat) (hm : m ≠ k) : Tab.find (Tab.del t k) m = Tab.find t m := by
  induction t with
  | nil => rfl
  | cons e rest ih =>
    obtain ⟨j, u⟩ := e
    by_cases h : j = k
    · subst h
      simpa [Tab.del, Tab.find, Ne.symm hm] using ih
    · by_cases h3 : j = m
      · subst h3; simp [Tab.del, Tab.find, h]
      · simpa [Tab.del, Tab.find, h, h3] using ih

/-- The canonical form as a statement about every pair of entries. -/
theorem Tab.sorted_iff {α : Type} (t : Tab α) : Tab.sorted t = true ↔ t.Pairwise (fun a b => a.1 < b.1) := by
  induction t with
  | nil => simp [Tab.sorted]
  | cons a rest ih =>
    cases rest with
    | nil => simp [Tab.sorted]
    | cons b more =>
      simp only [Tab.sorted, Bool.and_eq_true, decide_eq_true_eq, ih, List.pairwise_cons]
      constructor
      · rintro ⟨h, hb, hm⟩
        refine ⟨?_, hb, hm⟩
        intro x hx
        rcases List.mem_cons.1 hx with rfl | hx
        · exact h
        · exact lt_trans h (hb x hx)
      · rintro ⟨h, hb, hm⟩
        exact ⟨h b (by simp), hb, hm⟩

theorem Tab.mem_set {α : Type} (t : Tab α) (k : Nat) (v : α) (e : Nat × α) (h : e ∈ Tab.set t k v) :
    e = (k, v) ∨ e ∈ t := by
  induction t with
  | nil => simpa [Tab.set] using h
  | cons x rest ih =>
    obtain ⟨j, u⟩ := x
    by_cases hj : j = k
    · simp only [Tab.set, hj, if_true, List.mem_cons] at h
      rcases h with h | h
      · exact .inl h
      · exact .inr (by simp [h])
    · by_cases h2 : k < j
      · simp only [Tab.set, hj, h2, if_true, if_false, List.mem_cons] at h
        rcases h with h | h | h
        · exact .inl h
        · exact .inr (by simp [h])
        · exact .inr (by simp [h])
      · simp only [Tab.set, hj, h2, if_false, List.mem_cons] at h
        rcases h with h | h
        · exact .inr (by simp [h])
        · rcases ih h with h | h
          · exact .inl h
          · exact .inr (by simp [h])

theorem Tab.sorted_set {α : Type} (t : Tab α) (k : Nat) (v : α) (h : Tab.sorted t = true) : Tab.sorted (Tab.set t k v) = true := by
  rw [Tab.sorted_iff] at h ⊢
  induction t with
  | nil => simp [Tab.set]
  | cons x rest ih =>
    obtain ⟨j, u⟩ := x
    obtain ⟨hx, hr⟩ := List.pairwise_cons.1 h
    by_cases hj : j = k
    · subst hj
      simp only [Tab.set, if_true]
      exact List.pairwise_cons.2 ⟨hx, hr⟩
    · by_cases h2 : k < j
      · simp only [Tab.set, hj, h2, if_true, if_false]
        refine List.pairwise_cons.2 ⟨?_, h⟩
        intro e he
        rcases List.mem_cons.1 he with rfl | he
        · exact h2
        · exact lt_trans h2 (hx e he)
      · simp only [Tab.set, hj, h2, if_false]
        refine List.pairwise_cons.2 ⟨?_, ih hr⟩
        intro e he
        rcases Tab.mem_set _ _ _ _ he with rfl | he
        · show j < k
          omega
        · exact hx e he

theorem Tab.sorted_del {α : Type} (t : Tab α) (k : Nat) (h : Tab.sorted t = true) : Tab.sorted (Tab.del t k) = true := by
  rw [Tab.sorted_iff] at h ⊢
  exact h.filter _

end Sys2Proof.Machine
end

