-- ==== Sys2Proof/Laws/State.lean ====
section
/-!
SUPPORT. What each elementary update of the state leaves alone, field by field, and what the register file answers after a word is put.
-/
namespace Sys2Proof.Machine
open Sys2Proof

@[simp] theorem wrWord_pending (s : State) (a : Nat) (v : Word) : (wrWord s a v).pending = s.pending := rfl
@[simp] theorem wrWord_free (s : State) (a : Nat) (v : Word) : (wrWord s a v).free = s.free := rfl
@[simp] theorem wrWord_outbox (s : State) (a : Nat) (v : Word) : (wrWord s a v).outbox = s.outbox := rfl
@[simp] theorem wrWord_live (s : State) (a : Nat) (v : Word) : (wrWord s a v).live = s.live := rfl
@[simp] theorem wrWord_snap (s : State) (a : Nat) (v : Word) : (wrWord s a v).snap = s.snap := rfl
@[simp] theorem wrWord_snapNext (s : State) (a : Nat) (v : Word) : (wrWord s a v).snapNext = s.snapNext := rfl
@[simp] theorem wrWord_bank (s : State) (a : Nat) (v : Word) : (wrWord s a v).bank = s.bank := rfl
@[simp] theorem wrWord_other (s : State) (a : Nat) (v : Word) : (wrWord s a v).other = s.other := rfl
@[simp] theorem wrWord_lineCfg (s : State) (a : Nat) (v : Word) : (wrWord s a v).lineCfg = s.lineCfg := rfl
@[simp] theorem wrWord_lineOld (s : State) (a : Nat) (v : Word) : (wrWord s a v).lineOld = s.lineOld := rfl
@[simp] theorem wrWord_clk (s : State) (a : Nat) (v : Word) : (wrWord s a v).clk = s.clk := rfl
@[simp] theorem wrWord_shadows (s : State) (a : Nat) (v : Word) : (wrWord s a v).shadows = s.shadows := rfl
@[simp] theorem wrWord_ltu (s : State) (a : Nat) (v : Word) : (wrWord s a v).ltu = s.ltu := rfl
@[simp] theorem wrWord_epc (s : State) (a : Nat) (v : Word) : (wrWord s a v).epc = s.epc := rfl
@[simp] theorem wrWord_lnk (s : State) (a : Nat) (v : Word) : (wrWord s a v).lnk = s.lnk := rfl
@[simp] theorem wrWord_saf (s : State) (a : Nat) (v : Word) : (wrWord s a v).saf = s.saf := rfl
@[simp] theorem wrWord_dfr (s : State) (a : Nat) (v : Word) : (wrWord s a v).dfr = s.dfr := rfl
@[simp] theorem wrWord_mch (s : State) (a : Nat) (v : Word) : (wrWord s a v).mch = s.mch := rfl
@[simp] theorem wrWord_actA (s : State) (a : Nat) (v : Word) : (wrWord s a v).actA = s.actA := rfl
@[simp] theorem wrWord_actB (s : State) (a : Nat) (v : Word) : (wrWord s a v).actB = s.actB := rfl
@[simp] theorem wrWord_upb (s : State) (a : Nat) (v : Word) : (wrWord s a v).upb = s.upb := rfl
@[simp] theorem wrWord_bnd (s : State) (a : Nat) (v : Word) : (wrWord s a v).bnd = s.bnd := rfl
@[simp] theorem wrWord_pth (s : State) (a : Nat) (v : Word) : (wrWord s a v).pth = s.pth := rfl
@[simp] theorem wrWord_lcy (s : State) (a : Nat) (v : Word) : (wrWord s a v).lcy = s.lcy := rfl
@[simp] theorem wrWord_flash (s : State) (a : Nat) (v : Word) : (wrWord s a v).flash = s.flash := rfl
@[simp] theorem wrWord_wrd (s : State) (a : Nat) (v : Word) : (wrWord s a v).wrd = s.wrd := rfl
@[simp] theorem wrWord_cpl (s : State) (a : Nat) (v : Word) : (wrWord s a v).cpl = s.cpl := rfl
@[simp] theorem wrWord_hif (s : State) (a : Nat) (v : Word) : (wrWord s a v).hif = s.hif := rfl
@[simp] theorem wrWord_pwr (s : State) (a : Nat) (v : Word) : (wrWord s a v).pwr = s.pwr := rfl
@[simp] theorem wrWord_evr (s : State) (a : Nat) (v : Word) : (wrWord s a v).evr = s.evr := rfl
@[simp] theorem wrWord_flt (s : State) (a : Nat) (v : Word) : (wrWord s a v).flt = s.flt := rfl
@[simp] theorem wrWord_cal (s : State) (a : Nat) (v : Word) : (wrWord s a v).cal = s.cal := rfl
@[simp] theorem wrWord_pins (s : State) (a : Nat) (v : Word) : (wrWord s a v).pins = s.pins := rfl
@[simp] theorem wrWord_tap (s : State) (a : Nat) (v : Word) : (wrWord s a v).tap = s.tap := rfl
@[simp] theorem wrWord_i2c (s : State) (a : Nat) (v : Word) : (wrWord s a v).i2c = s.i2c := rfl
@[simp] theorem wrWord_tsu (s : State) (a : Nat) (v : Word) : (wrWord s a v).tsu = s.tsu := rfl
@[simp] theorem wrWord_pkt (s : State) (a : Nat) (v : Word) : (wrWord s a v).pkt = s.pkt := rfl

@[simp] theorem put_pending (s : State) (f : Fld) (v : Nat) : (put s f v).pending = s.pending := by unfold put; split <;> rfl
@[simp] theorem put_free (s : State) (f : Fld) (v : Nat) : (put s f v).free = s.free := by unfold put; split <;> rfl
@[simp] theorem put_outbox (s : State) (f : Fld) (v : Nat) : (put s f v).outbox = s.outbox := by unfold put; split <;> rfl
@[simp] theorem put_live (s : State) (f : Fld) (v : Nat) : (put s f v).live = s.live := by unfold put; split <;> rfl
@[simp] theorem put_snap (s : State) (f : Fld) (v : Nat) : (put s f v).snap = s.snap := by unfold put; split <;> rfl
@[simp] theorem put_snapNext (s : State) (f : Fld) (v : Nat) : (put s f v).snapNext = s.snapNext := by unfold put; split <;> rfl
@[simp] theorem put_bank (s : State) (f : Fld) (v : Nat) : (put s f v).bank = s.bank := by unfold put; split <;> rfl
@[simp] theorem put_other (s : State) (f : Fld) (v : Nat) : (put s f v).other = s.other := by unfold put; split <;> rfl
@[simp] theorem put_lineCfg (s : State) (f : Fld) (v : Nat) : (put s f v).lineCfg = s.lineCfg := by unfold put; split <;> rfl
@[simp] theorem put_lineOld (s : State) (f : Fld) (v : Nat) : (put s f v).lineOld = s.lineOld := by unfold put; split <;> rfl
@[simp] theorem put_clk (s : State) (f : Fld) (v : Nat) : (put s f v).clk = s.clk := by unfold put; split <;> rfl
@[simp] theorem put_shadows (s : State) (f : Fld) (v : Nat) : (put s f v).shadows = s.shadows := by unfold put; split <;> rfl
@[simp] theorem put_ltu (s : State) (f : Fld) (v : Nat) : (put s f v).ltu = s.ltu := by unfold put; split <;> rfl
@[simp] theorem put_epc (s : State) (f : Fld) (v : Nat) : (put s f v).epc = s.epc := by unfold put; split <;> rfl
@[simp] theorem put_lnk (s : State) (f : Fld) (v : Nat) : (put s f v).lnk = s.lnk := by unfold put; split <;> rfl
@[simp] theorem put_saf (s : State) (f : Fld) (v : Nat) : (put s f v).saf = s.saf := by unfold put; split <;> rfl
@[simp] theorem put_dfr (s : State) (f : Fld) (v : Nat) : (put s f v).dfr = s.dfr := by unfold put; split <;> rfl
@[simp] theorem put_mch (s : State) (f : Fld) (v : Nat) : (put s f v).mch = s.mch := by unfold put; split <;> rfl
@[simp] theorem put_actA (s : State) (f : Fld) (v : Nat) : (put s f v).actA = s.actA := by unfold put; split <;> rfl
@[simp] theorem put_actB (s : State) (f : Fld) (v : Nat) : (put s f v).actB = s.actB := by unfold put; split <;> rfl
@[simp] theorem put_upb (s : State) (f : Fld) (v : Nat) : (put s f v).upb = s.upb := by unfold put; split <;> rfl
@[simp] theorem put_bnd (s : State) (f : Fld) (v : Nat) : (put s f v).bnd = s.bnd := by unfold put; split <;> rfl
@[simp] theorem put_pth (s : State) (f : Fld) (v : Nat) : (put s f v).pth = s.pth := by unfold put; split <;> rfl
@[simp] theorem put_lcy (s : State) (f : Fld) (v : Nat) : (put s f v).lcy = s.lcy := by unfold put; split <;> rfl
@[simp] theorem put_flash (s : State) (f : Fld) (v : Nat) : (put s f v).flash = s.flash := by unfold put; split <;> rfl
@[simp] theorem put_wrd (s : State) (f : Fld) (v : Nat) : (put s f v).wrd = s.wrd := by unfold put; split <;> rfl
@[simp] theorem put_cpl (s : State) (f : Fld) (v : Nat) : (put s f v).cpl = s.cpl := by unfold put; split <;> rfl
@[simp] theorem put_hif (s : State) (f : Fld) (v : Nat) : (put s f v).hif = s.hif := by unfold put; split <;> rfl
@[simp] theorem put_pwr (s : State) (f : Fld) (v : Nat) : (put s f v).pwr = s.pwr := by unfold put; split <;> rfl
@[simp] theorem put_evr (s : State) (f : Fld) (v : Nat) : (put s f v).evr = s.evr := by unfold put; split <;> rfl
@[simp] theorem put_flt (s : State) (f : Fld) (v : Nat) : (put s f v).flt = s.flt := by unfold put; split <;> rfl
@[simp] theorem put_cal (s : State) (f : Fld) (v : Nat) : (put s f v).cal = s.cal := by unfold put; split <;> rfl
@[simp] theorem put_pins (s : State) (f : Fld) (v : Nat) : (put s f v).pins = s.pins := by unfold put; split <;> rfl
@[simp] theorem put_tap (s : State) (f : Fld) (v : Nat) : (put s f v).tap = s.tap := by unfold put; split <;> rfl
@[simp] theorem put_i2c (s : State) (f : Fld) (v : Nat) : (put s f v).i2c = s.i2c := by unfold put; split <;> rfl
@[simp] theorem put_tsu (s : State) (f : Fld) (v : Nat) : (put s f v).tsu = s.tsu := by unfold put; split <;> rfl
@[simp] theorem put_pkt (s : State) (f : Fld) (v : Nat) : (put s f v).pkt = s.pkt := by unfold put; split <;> rfl

@[simp] theorem putB_pending (s : State) (f : Fld) (b : Bool) : (putB s f b).pending = s.pending := put_pending s f (b2n b)
@[simp] theorem putB_free (s : State) (f : Fld) (b : Bool) : (putB s f b).free = s.free := put_free s f (b2n b)
@[simp] theorem putB_outbox (s : State) (f : Fld) (b : Bool) : (putB s f b).outbox = s.outbox := put_outbox s f (b2n b)
@[simp] theorem putB_live (s : State) (f : Fld) (b : Bool) : (putB s f b).live = s.live := put_live s f (b2n b)
@[simp] theorem putB_snap (s : State) (f : Fld) (b : Bool) : (putB s f b).snap = s.snap := put_snap s f (b2n b)
@[simp] theorem putB_snapNext (s : State) (f : Fld) (b : Bool) : (putB s f b).snapNext = s.snapNext := put_snapNext s f (b2n b)
@[simp] theorem putB_bank (s : State) (f : Fld) (b : Bool) : (putB s f b).bank = s.bank := put_bank s f (b2n b)
@[simp] theorem putB_other (s : State) (f : Fld) (b : Bool) : (putB s f b).other = s.other := put_other s f (b2n b)
@[simp] theorem putB_lineCfg (s : State) (f : Fld) (b : Bool) : (putB s f b).lineCfg = s.lineCfg := put_lineCfg s f (b2n b)
@[simp] theorem putB_lineOld (s : State) (f : Fld) (b : Bool) : (putB s f b).lineOld = s.lineOld := put_lineOld s f (b2n b)
@[simp] theorem putB_clk (s : State) (f : Fld) (b : Bool) : (putB s f b).clk = s.clk := put_clk s f (b2n b)
@[simp] theorem putB_shadows (s : State) (f : Fld) (b : Bool) : (putB s f b).shadows = s.shadows := put_shadows s f (b2n b)
@[simp] theorem putB_ltu (s : State) (f : Fld) (b : Bool) : (putB s f b).ltu = s.ltu := put_ltu s f (b2n b)
@[simp] theorem putB_epc (s : State) (f : Fld) (b : Bool) : (putB s f b).epc = s.epc := put_epc s f (b2n b)
@[simp] theorem putB_lnk (s : State) (f : Fld) (b : Bool) : (putB s f b).lnk = s.lnk := put_lnk s f (b2n b)
@[simp] theorem putB_saf (s : State) (f : Fld) (b : Bool) : (putB s f b).saf = s.saf := put_saf s f (b2n b)
@[simp] theorem putB_dfr (s : State) (f : Fld) (b : Bool) : (putB s f b).dfr = s.dfr := put_dfr s f (b2n b)
@[simp] theorem putB_mch (s : State) (f : Fld) (b : Bool) : (putB s f b).mch = s.mch := put_mch s f (b2n b)
@[simp] theorem putB_actA (s : State) (f : Fld) (b : Bool) : (putB s f b).actA = s.actA := put_actA s f (b2n b)
@[simp] theorem putB_actB (s : State) (f : Fld) (b : Bool) : (putB s f b).actB = s.actB := put_actB s f (b2n b)
@[simp] theorem putB_upb (s : State) (f : Fld) (b : Bool) : (putB s f b).upb = s.upb := put_upb s f (b2n b)
@[simp] theorem putB_bnd (s : State) (f : Fld) (b : Bool) : (putB s f b).bnd = s.bnd := put_bnd s f (b2n b)
@[simp] theorem putB_pth (s : State) (f : Fld) (b : Bool) : (putB s f b).pth = s.pth := put_pth s f (b2n b)
@[simp] theorem putB_lcy (s : State) (f : Fld) (b : Bool) : (putB s f b).lcy = s.lcy := put_lcy s f (b2n b)
@[simp] theorem putB_flash (s : State) (f : Fld) (b : Bool) : (putB s f b).flash = s.flash := put_flash s f (b2n b)
@[simp] theorem putB_wrd (s : State) (f : Fld) (b : Bool) : (putB s f b).wrd = s.wrd := put_wrd s f (b2n b)
@[simp] theorem putB_cpl (s : State) (f : Fld) (b : Bool) : (putB s f b).cpl = s.cpl := put_cpl s f (b2n b)
@[simp] theorem putB_hif (s : State) (f : Fld) (b : Bool) : (putB s f b).hif = s.hif := put_hif s f (b2n b)
@[simp] theorem putB_pwr (s : State) (f : Fld) (b : Bool) : (putB s f b).pwr = s.pwr := put_pwr s f (b2n b)
@[simp] theorem putB_evr (s : State) (f : Fld) (b : Bool) : (putB s f b).evr = s.evr := put_evr s f (b2n b)
@[simp] theorem putB_flt (s : State) (f : Fld) (b : Bool) : (putB s f b).flt = s.flt := put_flt s f (b2n b)
@[simp] theorem putB_cal (s : State) (f : Fld) (b : Bool) : (putB s f b).cal = s.cal := put_cal s f (b2n b)
@[simp] theorem putB_pins (s : State) (f : Fld) (b : Bool) : (putB s f b).pins = s.pins := put_pins s f (b2n b)
@[simp] theorem putB_tap (s : State) (f : Fld) (b : Bool) : (putB s f b).tap = s.tap := put_tap s f (b2n b)
@[simp] theorem putB_i2c (s : State) (f : Fld) (b : Bool) : (putB s f b).i2c = s.i2c := put_i2c s f (b2n b)
@[simp] theorem putB_tsu (s : State) (f : Fld) (b : Bool) : (putB s f b).tsu = s.tsu := put_tsu s f (b2n b)
@[simp] theorem putB_pkt (s : State) (f : Fld) (b : Bool) : (putB s f b).pkt = s.pkt := put_pkt s f (b2n b)

@[simp] theorem emit_regs (s : State) (o : Output) : (emit s o).regs = s.regs := rfl
@[simp] theorem emit_pending (s : State) (o : Output) : (emit s o).pending = s.pending := rfl
@[simp] theorem emit_free (s : State) (o : Output) : (emit s o).free = s.free := rfl
@[simp] theorem emit_live (s : State) (o : Output) : (emit s o).live = s.live := rfl
@[simp] theorem emit_snap (s : State) (o : Output) : (emit s o).snap = s.snap := rfl
@[simp] theorem emit_snapNext (s : State) (o : Output) : (emit s o).snapNext = s.snapNext := rfl
@[simp] theorem emit_bank (s : State) (o : Output) : (emit s o).bank = s.bank := rfl
@[simp] theorem emit_other (s : State) (o : Output) : (emit s o).other = s.other := rfl
@[simp] theorem emit_lineCfg (s : State) (o : Output) : (emit s o).lineCfg = s.lineCfg := rfl
@[simp] theorem emit_lineOld (s : State) (o : Output) : (emit s o).lineOld = s.lineOld := rfl
@[simp] theorem emit_clk (s : State) (o : Output) : (emit s o).clk = s.clk := rfl
@[simp] theorem emit_shadows (s : State) (o : Output) : (emit s o).shadows = s.shadows := rfl
@[simp] theorem emit_ltu (s : State) (o : Output) : (emit s o).ltu = s.ltu := rfl
@[simp] theorem emit_epc (s : State) (o : Output) : (emit s o).epc = s.epc := rfl
@[simp] theorem emit_lnk (s : State) (o : Output) : (emit s o).lnk = s.lnk := rfl
@[simp] theorem emit_saf (s : State) (o : Output) : (emit s o).saf = s.saf := rfl
@[simp] theorem emit_dfr (s : State) (o : Output) : (emit s o).dfr = s.dfr := rfl
@[simp] theorem emit_mch (s : State) (o : Output) : (emit s o).mch = s.mch := rfl
@[simp] theorem emit_actA (s : State) (o : Output) : (emit s o).actA = s.actA := rfl
@[simp] theorem emit_actB (s : State) (o : Output) : (emit s o).actB = s.actB := rfl
@[simp] theorem emit_upb (s : State) (o : Output) : (emit s o).upb = s.upb := rfl
@[simp] theorem emit_bnd (s : State) (o : Output) : (emit s o).bnd = s.bnd := rfl
@[simp] theorem emit_pth (s : State) (o : Output) : (emit s o).pth = s.pth := rfl
@[simp] theorem emit_lcy (s : State) (o : Output) : (emit s o).lcy = s.lcy := rfl
@[simp] theorem emit_flash (s : State) (o : Output) : (emit s o).flash = s.flash := rfl
@[simp] theorem emit_wrd (s : State) (o : Output) : (emit s o).wrd = s.wrd := rfl
@[simp] theorem emit_cpl (s : State) (o : Output) : (emit s o).cpl = s.cpl := rfl
@[simp] theorem emit_hif (s : State) (o : Output) : (emit s o).hif = s.hif := rfl
@[simp] theorem emit_pwr (s : State) (o : Output) : (emit s o).pwr = s.pwr := rfl
@[simp] theorem emit_evr (s : State) (o : Output) : (emit s o).evr = s.evr := rfl
@[simp] theorem emit_flt (s : State) (o : Output) : (emit s o).flt = s.flt := rfl
@[simp] theorem emit_cal (s : State) (o : Output) : (emit s o).cal = s.cal := rfl
@[simp] theorem emit_pins (s : State) (o : Output) : (emit s o).pins = s.pins := rfl
@[simp] theorem emit_tap (s : State) (o : Output) : (emit s o).tap = s.tap := rfl
@[simp] theorem emit_i2c (s : State) (o : Output) : (emit s o).i2c = s.i2c := rfl
@[simp] theorem emit_tsu (s : State) (o : Output) : (emit s o).tsu = s.tsu := rfl
@[simp] theorem emit_pkt (s : State) (o : Output) : (emit s o).pkt = s.pkt := rfl
@[simp] theorem emit_outbox (s : State) (o : Output) : (emit s o).outbox = o :: s.outbox := rfl

@[simp] theorem stepFree_regs (s : State) : (stepFree s).regs = s.regs := rfl
@[simp] theorem stepFree_pending (s : State) : (stepFree s).pending = s.pending := rfl
@[simp] theorem stepFree_outbox (s : State) : (stepFree s).outbox = s.outbox := rfl
@[simp] theorem stepFree_live (s : State) : (stepFree s).live = s.live := rfl
@[simp] theorem stepFree_snap (s : State) : (stepFree s).snap = s.snap := rfl
@[simp] theorem stepFree_snapNext (s : State) : (stepFree s).snapNext = s.snapNext := rfl
@[simp] theorem stepFree_bank (s : State) : (stepFree s).bank = s.bank := rfl
@[simp] theorem stepFree_other (s : State) : (stepFree s).other = s.other := rfl
@[simp] theorem stepFree_lineCfg (s : State) : (stepFree s).lineCfg = s.lineCfg := rfl
@[simp] theorem stepFree_lineOld (s : State) : (stepFree s).lineOld = s.lineOld := rfl
@[simp] theorem stepFree_clk (s : State) : (stepFree s).clk = s.clk := rfl
@[simp] theorem stepFree_shadows (s : State) : (stepFree s).shadows = s.shadows := rfl
@[simp] theorem stepFree_ltu (s : State) : (stepFree s).ltu = s.ltu := rfl
@[simp] theorem stepFree_epc (s : State) : (stepFree s).epc = s.epc := rfl
@[simp] theorem stepFree_lnk (s : State) : (stepFree s).lnk = s.lnk := rfl
@[simp] theorem stepFree_saf (s : State) : (stepFree s).saf = s.saf := rfl
@[simp] theorem stepFree_dfr (s : State) : (stepFree s).dfr = s.dfr := rfl
@[simp] theorem stepFree_mch (s : State) : (stepFree s).mch = s.mch := rfl
@[simp] theorem stepFree_actA (s : State) : (stepFree s).actA = s.actA := rfl
@[simp] theorem stepFree_actB (s : State) : (stepFree s).actB = s.actB := rfl
@[simp] theorem stepFree_upb (s : State) : (stepFree s).upb = s.upb := rfl
@[simp] theorem stepFree_bnd (s : State) : (stepFree s).bnd = s.bnd := rfl
@[simp] theorem stepFree_pth (s : State) : (stepFree s).pth = s.pth := rfl
@[simp] theorem stepFree_lcy (s : State) : (stepFree s).lcy = s.lcy := rfl
@[simp] theorem stepFree_flash (s : State) : (stepFree s).flash = s.flash := rfl
@[simp] theorem stepFree_wrd (s : State) : (stepFree s).wrd = s.wrd := rfl
@[simp] theorem stepFree_cpl (s : State) : (stepFree s).cpl = s.cpl := rfl
@[simp] theorem stepFree_hif (s : State) : (stepFree s).hif = s.hif := rfl
@[simp] theorem stepFree_pwr (s : State) : (stepFree s).pwr = s.pwr := rfl
@[simp] theorem stepFree_evr (s : State) : (stepFree s).evr = s.evr := rfl
@[simp] theorem stepFree_flt (s : State) : (stepFree s).flt = s.flt := rfl
@[simp] theorem stepFree_cal (s : State) : (stepFree s).cal = s.cal := rfl
@[simp] theorem stepFree_pins (s : State) : (stepFree s).pins = s.pins := rfl
@[simp] theorem stepFree_tap (s : State) : (stepFree s).tap = s.tap := rfl
@[simp] theorem stepFree_i2c (s : State) : (stepFree s).i2c = s.i2c := rfl
@[simp] theorem stepFree_tsu (s : State) : (stepFree s).tsu = s.tsu := rfl
@[simp] theorem stepFree_pkt (s : State) : (stepFree s).pkt = s.pkt := rfl
@[simp] theorem stepFree_free (s : State) : (stepFree s).free = s.free + 1 := rfl

/-! ### The register file -/

theorem rdWord_congr {s t : State} (h : s.regs = t.regs) (a : Nat) : rdWord s a = rdWord t a := by
  unfold rdWord; rw [h]

theorem get_congr {s t : State} (h : s.regs = t.regs) (f : Fld) : get s f = get t f := by
  unfold get; simp only [rdWord_congr h]

@[simp] theorem rdWord_wrWord_same (s : State) (a : Nat) (v : Word) : rdWord (wrWord s a v) a = v := by
  unfold rdWord wrWord
  by_cases h : v = resetWord a
  · subst h; simp
  · simp [h]

theorem rdWord_wrWord_ne (s : State) (a b : Nat) (v : Word) (h : b ≠ a) : rdWord (wrWord s a v) b = rdWord s b := by
  unfold rdWord wrWord
  by_cases hv : v = resetWord a
  · simp [hv, Tab.find_del_ne _ _ _ h]
  · simp [hv, Tab.find_set_ne _ _ _ _ h]

/-- A word that no put of `f` reaches keeps its value. -/
theorem rdWord_put_ne (s : State) (f : Fld) (v a : Nat) (h : a ≠ f.addr) (h4 : a ≠ f.addr + 4) : rdWord (put s f v) a = rdWord s a := by
  unfold put
  split
  · exact rdWord_wrWord_ne _ _ _ _ h
  · rw [rdWord_wrWord_ne _ _ _ _ h4, rdWord_wrWord_ne _ _ _ _ h]

/-- A word other than the field's own keeps its value, for a field in one word. -/
theorem rdWord_put_ne_one (s : State) (f : Fld) (v a : Nat) (hf : f.lo + f.w ≤ 32) (h : a ≠ f.addr) :
    rdWord (put s f v) a = rdWord s a := by
  unfold put
  rw [if_pos hf]
  exact rdWord_wrWord_ne _ _ _ _ h

/-- A free value is the same for states that agree on the counter behind it. -/
theorem freeVal_congr {s t : State} (h : s.free = t.free) : freeVal s = freeVal t := by
  unfold freeVal; rw [h]

/-! ### The end of a command -/

theorem settleTsu_pending (s : State) : (settleTsu s).pending = s.pending := by simp only [settleTsu, putB, putI, put_pending]
theorem settleTsu_free (s : State) : (settleTsu s).free = s.free := by simp only [settleTsu, putB, putI, put_free]
theorem settleTsu_outbox (s : State) : (settleTsu s).outbox = s.outbox := by simp only [settleTsu, putB, putI, put_outbox]
theorem settleTsu_live (s : State) : (settleTsu s).live = s.live := by simp only [settleTsu, putB, putI, put_live]
theorem settleTsu_snap (s : State) : (settleTsu s).snap = s.snap := by simp only [settleTsu, putB, putI, put_snap]
theorem settleTsu_snapNext (s : State) : (settleTsu s).snapNext = s.snapNext := by simp only [settleTsu, putB, putI, put_snapNext]
theorem settleTsu_bank (s : State) : (settleTsu s).bank = s.bank := by simp only [settleTsu, putB, putI, put_bank]
theorem settleTsu_other (s : State) : (settleTsu s).other = s.other := by simp only [settleTsu, putB, putI, put_other]
theorem settleTsu_lineCfg (s : State) : (settleTsu s).lineCfg = s.lineCfg := by simp only [settleTsu, putB, putI, put_lineCfg]
theorem settleTsu_lineOld (s : State) : (settleTsu s).lineOld = s.lineOld := by simp only [settleTsu, putB, putI, put_lineOld]
theorem settleTsu_clk (s : State) : (settleTsu s).clk = s.clk := by simp only [settleTsu, putB, putI, put_clk]
theorem settleTsu_shadows (s : State) : (settleTsu s).shadows = s.shadows := by simp only [settleTsu, putB, putI, put_shadows]
theorem settleTsu_ltu (s : State) : (settleTsu s).ltu = s.ltu := by simp only [settleTsu, putB, putI, put_ltu]
theorem settleTsu_epc (s : State) : (settleTsu s).epc = s.epc := by simp only [settleTsu, putB, putI, put_epc]
theorem settleTsu_lnk (s : State) : (settleTsu s).lnk = s.lnk := by simp only [settleTsu, putB, putI, put_lnk]
theorem settleTsu_saf (s : State) : (settleTsu s).saf = s.saf := by simp only [settleTsu, putB, putI, put_saf]
theorem settleTsu_dfr (s : State) : (settleTsu s).dfr = s.dfr := by simp only [settleTsu, putB, putI, put_dfr]
theorem settleTsu_mch (s : State) : (settleTsu s).mch = s.mch := by simp only [settleTsu, putB, putI, put_mch]
theorem settleTsu_actA (s : State) : (settleTsu s).actA = s.actA := by simp only [settleTsu, putB, putI, put_actA]
theorem settleTsu_actB (s : State) : (settleTsu s).actB = s.actB := by simp only [settleTsu, putB, putI, put_actB]
theorem settleTsu_upb (s : State) : (settleTsu s).upb = s.upb := by simp only [settleTsu, putB, putI, put_upb]
theorem settleTsu_bnd (s : State) : (settleTsu s).bnd = s.bnd := by simp only [settleTsu, putB, putI, put_bnd]
theorem settleTsu_pth (s : State) : (settleTsu s).pth = s.pth := by simp only [settleTsu, putB, putI, put_pth]
theorem settleTsu_lcy (s : State) : (settleTsu s).lcy = s.lcy := by simp only [settleTsu, putB, putI, put_lcy]
theorem settleTsu_flash (s : State) : (settleTsu s).flash = s.flash := by simp only [settleTsu, putB, putI, put_flash]
theorem settleTsu_wrd (s : State) : (settleTsu s).wrd = s.wrd := by simp only [settleTsu, putB, putI, put_wrd]
theorem settleTsu_cpl (s : State) : (settleTsu s).cpl = s.cpl := by simp only [settleTsu, putB, putI, put_cpl]
theorem settleTsu_hif (s : State) : (settleTsu s).hif = s.hif := by simp only [settleTsu, putB, putI, put_hif]
theorem settleTsu_pwr (s : State) : (settleTsu s).pwr = s.pwr := by simp only [settleTsu, putB, putI, put_pwr]
theorem settleTsu_evr (s : State) : (settleTsu s).evr = s.evr := by simp only [settleTsu, putB, putI, put_evr]
theorem settleTsu_flt (s : State) : (settleTsu s).flt = s.flt := by simp only [settleTsu, putB, putI, put_flt]
theorem settleTsu_cal (s : State) : (settleTsu s).cal = s.cal := by simp only [settleTsu, putB, putI, put_cal]
theorem settleTsu_tap (s : State) : (settleTsu s).tap = s.tap := by simp only [settleTsu, putB, putI, put_tap]
theorem settleTsu_i2c (s : State) : (settleTsu s).i2c = s.i2c := by simp only [settleTsu, putB, putI, put_i2c]
theorem settleTsu_pkt (s : State) : (settleTsu s).pkt = s.pkt := by simp only [settleTsu, putB, putI, put_pkt]
theorem settleAsh_pending (s : State) : (settleAsh s).pending = s.pending := by unfold settleAsh; split <;> simp only [putB, put_pending]
theorem settleAsh_free (s : State) : (settleAsh s).free = s.free := by unfold settleAsh; split <;> simp only [putB, put_free]
theorem settleAsh_outbox (s : State) : (settleAsh s).outbox = s.outbox := by unfold settleAsh; split <;> simp only [putB, put_outbox]
theorem settleAsh_live (s : State) : (settleAsh s).live = s.live := by unfold settleAsh; split <;> simp only [putB, put_live]
theorem settleAsh_snap (s : State) : (settleAsh s).snap = s.snap := by unfold settleAsh; split <;> simp only [putB, put_snap]
theorem settleAsh_snapNext (s : State) : (settleAsh s).snapNext = s.snapNext := by unfold settleAsh; split <;> simp only [putB, put_snapNext]
theorem settleAsh_bank (s : State) : (settleAsh s).bank = s.bank := by unfold settleAsh; split <;> simp only [putB, put_bank]
theorem settleAsh_other (s : State) : (settleAsh s).other = s.other := by unfold settleAsh; split <;> simp only [putB, put_other]
theorem settleAsh_lineCfg (s : State) : (settleAsh s).lineCfg = s.lineCfg := by unfold settleAsh; split <;> simp only [putB, put_lineCfg]
theorem settleAsh_lineOld (s : State) : (settleAsh s).lineOld = s.lineOld := by unfold settleAsh; split <;> simp only [putB, put_lineOld]
theorem settleAsh_clk (s : State) : (settleAsh s).clk = s.clk := by unfold settleAsh; split <;> simp only [putB, put_clk]
theorem settleAsh_shadows (s : State) : (settleAsh s).shadows = s.shadows := by unfold settleAsh; split <;> simp only [putB, put_shadows]
theorem settleAsh_ltu (s : State) : (settleAsh s).ltu = s.ltu := by unfold settleAsh; split <;> simp only [putB, put_ltu]
theorem settleAsh_epc (s : State) : (settleAsh s).epc = s.epc := by unfold settleAsh; split <;> simp only [putB, put_epc]
theorem settleAsh_lnk (s : State) : (settleAsh s).lnk = s.lnk := by unfold settleAsh; split <;> simp only [putB, put_lnk]
theorem settleAsh_saf (s : State) : (settleAsh s).saf = s.saf := by unfold settleAsh; split <;> simp only [putB, put_saf]
theorem settleAsh_dfr (s : State) : (settleAsh s).dfr = s.dfr := by unfold settleAsh; split <;> simp only [putB, put_dfr]
theorem settleAsh_mch (s : State) : (settleAsh s).mch = s.mch := by unfold settleAsh; split <;> simp only [putB, put_mch]
theorem settleAsh_actA (s : State) : (settleAsh s).actA = s.actA := by unfold settleAsh; split <;> simp only [putB, put_actA]
theorem settleAsh_actB (s : State) : (settleAsh s).actB = s.actB := by unfold settleAsh; split <;> simp only [putB, put_actB]
theorem settleAsh_upb (s : State) : (settleAsh s).upb = s.upb := by unfold settleAsh; split <;> simp only [putB, put_upb]
theorem settleAsh_bnd (s : State) : (settleAsh s).bnd = s.bnd := by unfold settleAsh; split <;> simp only [putB, put_bnd]
theorem settleAsh_pth (s : State) : (settleAsh s).pth = s.pth := by unfold settleAsh; split <;> simp only [putB, put_pth]
theorem settleAsh_lcy (s : State) : (settleAsh s).lcy = s.lcy := by unfold settleAsh; split <;> simp only [putB, put_lcy]
theorem settleAsh_flash (s : State) : (settleAsh s).flash = s.flash := by unfold settleAsh; split <;> simp only [putB, put_flash]
theorem settleAsh_wrd (s : State) : (settleAsh s).wrd = s.wrd := by unfold settleAsh; split <;> simp only [putB, put_wrd]
theorem settleAsh_cpl (s : State) : (settleAsh s).cpl = s.cpl := by unfold settleAsh; split <;> simp only [putB, put_cpl]
theorem settleAsh_hif (s : State) : (settleAsh s).hif = s.hif := by unfold settleAsh; split <;> simp only [putB, put_hif]
theorem settleAsh_pwr (s : State) : (settleAsh s).pwr = s.pwr := by unfold settleAsh; split <;> simp only [putB, put_pwr]
theorem settleAsh_evr (s : State) : (settleAsh s).evr = s.evr := by unfold settleAsh; split <;> simp only [putB, put_evr]
theorem settleAsh_flt (s : State) : (settleAsh s).flt = s.flt := by unfold settleAsh; split <;> simp only [putB, put_flt]
theorem settleAsh_cal (s : State) : (settleAsh s).cal = s.cal := by unfold settleAsh; split <;> simp only [putB, put_cal]
theorem settleAsh_tap (s : State) : (settleAsh s).tap = s.tap := by unfold settleAsh; split <;> simp only [putB, put_tap]
theorem settleAsh_i2c (s : State) : (settleAsh s).i2c = s.i2c := by unfold settleAsh; split <;> simp only [putB, put_i2c]
theorem settleAsh_pkt (s : State) : (settleAsh s).pkt = s.pkt := by unfold settleAsh; split <;> simp only [putB, put_pkt]
@[simp] theorem settle_pending (s : State) : (settle s).pending = s.pending := by
  simp only [settle, settleFlt, putB, put_pending, settleTsu_pending, settleAsh_pending]
@[simp] theorem settle_free (s : State) : (settle s).free = s.free := by
  simp only [settle, settleFlt, putB, put_free, settleTsu_free, settleAsh_free]
@[simp] theorem settle_outbox (s : State) : (settle s).outbox = s.outbox := by
  simp only [settle, settleFlt, putB, put_outbox, settleTsu_outbox, settleAsh_outbox]
@[simp] theorem settle_live (s : State) : (settle s).live = s.live := by
  simp only [settle, settleFlt, putB, put_live, settleTsu_live, settleAsh_live]
@[simp] theorem settle_snap (s : State) : (settle s).snap = s.snap := by
  simp only [settle, settleFlt, putB, put_snap, settleTsu_snap, settleAsh_snap]
@[simp] theorem settle_snapNext (s : State) : (settle s).snapNext = s.snapNext := by
  simp only [settle, settleFlt, putB, put_snapNext, settleTsu_snapNext, settleAsh_snapNext]
@[simp] theorem settle_bank (s : State) : (settle s).bank = s.bank := by
  simp only [settle, settleFlt, putB, put_bank, settleTsu_bank, settleAsh_bank]
@[simp] theorem settle_other (s : State) : (settle s).other = s.other := by
  simp only [settle, settleFlt, putB, put_other, settleTsu_other, settleAsh_other]
@[simp] theorem settle_lineCfg (s : State) : (settle s).lineCfg = s.lineCfg := by
  simp only [settle, settleFlt, putB, put_lineCfg, settleTsu_lineCfg, settleAsh_lineCfg]
@[simp] theorem settle_lineOld (s : State) : (settle s).lineOld = s.lineOld := by
  simp only [settle, settleFlt, putB, put_lineOld, settleTsu_lineOld, settleAsh_lineOld]
@[simp] theorem settle_clk (s : State) : (settle s).clk = s.clk := by
  simp only [settle, settleFlt, putB, put_clk, settleTsu_clk, settleAsh_clk]
@[simp] theorem settle_shadows (s : State) : (settle s).shadows = s.shadows := by
  simp only [settle, settleFlt, putB, put_shadows, settleTsu_shadows, settleAsh_shadows]
@[simp] theorem settle_ltu (s : State) : (settle s).ltu = s.ltu := by
  simp only [settle, settleFlt, putB, put_ltu, settleTsu_ltu, settleAsh_ltu]
@[simp] theorem settle_epc (s : State) : (settle s).epc = s.epc := by
  simp only [settle, settleFlt, putB, put_epc, settleTsu_epc, settleAsh_epc]
@[simp] theorem settle_lnk (s : State) : (settle s).lnk = s.lnk := by
  simp only [settle, settleFlt, putB, put_lnk, settleTsu_lnk, settleAsh_lnk]
@[simp] theorem settle_saf (s : State) : (settle s).saf = s.saf := by
  simp only [settle, settleFlt, putB, put_saf, settleTsu_saf, settleAsh_saf]
@[simp] theorem settle_dfr (s : State) : (settle s).dfr = s.dfr := by
  simp only [settle, settleFlt, putB, put_dfr, settleTsu_dfr, settleAsh_dfr]
@[simp] theorem settle_mch (s : State) : (settle s).mch = s.mch := by
  simp only [settle, settleFlt, putB, put_mch, settleTsu_mch, settleAsh_mch]
@[simp] theorem settle_actA (s : State) : (settle s).actA = s.actA := by
  simp only [settle, settleFlt, putB, put_actA, settleTsu_actA, settleAsh_actA]
@[simp] theorem settle_actB (s : State) : (settle s).actB = s.actB := by
  simp only [settle, settleFlt, putB, put_actB, settleTsu_actB, settleAsh_actB]
@[simp] theorem settle_upb (s : State) : (settle s).upb = s.upb := by
  simp only [settle, settleFlt, putB, put_upb, settleTsu_upb, settleAsh_upb]
@[simp] theorem settle_bnd (s : State) : (settle s).bnd = s.bnd := by
  simp only [settle, settleFlt, putB, put_bnd, settleTsu_bnd, settleAsh_bnd]
@[simp] theorem settle_pth (s : State) : (settle s).pth = s.pth := by
  simp only [settle, settleFlt, putB, put_pth, settleTsu_pth, settleAsh_pth]
@[simp] theorem settle_lcy (s : State) : (settle s).lcy = s.lcy := by
  simp only [settle, settleFlt, putB, put_lcy, settleTsu_lcy, settleAsh_lcy]
@[simp] theorem settle_flash (s : State) : (settle s).flash = s.flash := by
  simp only [settle, settleFlt, putB, put_flash, settleTsu_flash, settleAsh_flash]
@[simp] theorem settle_wrd (s : State) : (settle s).wrd = s.wrd := by
  simp only [settle, settleFlt, putB, put_wrd, settleTsu_wrd, settleAsh_wrd]
@[simp] theorem settle_cpl (s : State) : (settle s).cpl = s.cpl := by
  simp only [settle, settleFlt, putB, put_cpl, settleTsu_cpl, settleAsh_cpl]
@[simp] theorem settle_hif (s : State) : (settle s).hif = s.hif := by
  simp only [settle, settleFlt, putB, put_hif, settleTsu_hif, settleAsh_hif]
@[simp] theorem settle_pwr (s : State) : (settle s).pwr = s.pwr := by
  simp only [settle, settleFlt, putB, put_pwr, settleTsu_pwr, settleAsh_pwr]
@[simp] theorem settle_evr (s : State) : (settle s).evr = s.evr := by
  simp only [settle, settleFlt, putB, put_evr, settleTsu_evr, settleAsh_evr]
@[simp] theorem settle_flt (s : State) : (settle s).flt = s.flt := by
  simp only [settle, settleFlt, putB, put_flt, settleTsu_flt, settleAsh_flt]
@[simp] theorem settle_cal (s : State) : (settle s).cal = s.cal := by
  simp only [settle, settleFlt, putB, put_cal, settleTsu_cal, settleAsh_cal]
@[simp] theorem settle_tap (s : State) : (settle s).tap = s.tap := by
  simp only [settle, settleFlt, putB, put_tap, settleTsu_tap, settleAsh_tap]
@[simp] theorem settle_i2c (s : State) : (settle s).i2c = s.i2c := by
  simp only [settle, settleFlt, putB, put_i2c, settleTsu_i2c, settleAsh_i2c]
@[simp] theorem settle_pkt (s : State) : (settle s).pkt = s.pkt := by
  simp only [settle, settleFlt, putB, put_pkt, settleTsu_pkt, settleAsh_pkt]

@[simp] theorem dropP0_p0 (s : State) : (dropP0 s).hif.p0 = false := rfl
@[simp] theorem dropP0_regs (s : State) : (dropP0 s).regs = s.regs := rfl
@[simp] theorem dropP0_bank (s : State) : (dropP0 s).bank = s.bank := rfl
@[simp] theorem dropP0_saf (s : State) : (dropP0 s).saf = s.saf := rfl
@[simp] theorem dropP0_pending (s : State) : (dropP0 s).pending = s.pending := rfl
@[simp] theorem isP0_dropP0 (s : State) (i : Fin 16) : isP0 (dropP0 s) (.fn i) = false := by simp [isP0]

/-- Every meaning that ends in `finish` answers a next state, with the queue the command found. -/
theorem finish_next (s t : State) : finish s t = .next (settle { t with pending := s.pending }) := rfl

end Sys2Proof.Machine
end

