-- ==== Sys2Proof/WellFormed.lean ====
section
/-!
DEFINITION. Which commands are well formed: addresses of register words, readings within their registers, frames, images and
descriptors of the sizes that the wire and the memories give them. A sender never sends another; the meanings do not rely on it.
-/
namespace Sys2Proof

/-- The offset of a register word (R28): a multiple of 4. -/
def aligned (a : BitVec 28) : Bool := decide (a.toNat % 4 = 0)

/-- A measured value that its signed 16-bit register can show. -/
def reading16 (v : Int) : Bool := decide (-32768 ≤ v) && decide (v < 32768)

/-- A posted receive descriptor (R399). -/
def RxPost.wf (x : RxPost) : Bool := decide (x.addr < 2 ^ 64) && decide (x.bufLen < 2 ^ 16)

/-- A transmit descriptor (R396). -/
def TxDesc.wf (d : TxDesc) : Bool := decide (d.addr < 2 ^ 64) && decide (d.len < 2 ^ 16) && decide (d.bytes.length ≤ d.len)

/-- A downstream frame (R109 to R112): codeword 0 carries a 36-byte header, LCM slots are 64 bytes and at most 80, management blocks are
641 bytes and at most 4, codewords are numbered below 5,000, container indices below 32. -/
def DsFrame.wf (f : DsFrame) : Bool :=
  decide (f.syncErr ≤ 120) && decide (f.hdr.length = 36) && f.uncorr.all (fun i => decide (i < 5000)) &&
  f.grants.all (fun g => g.all (fun e => decide (e < 2 ^ 48))) && decide (f.lcm.length ≤ 80) &&
  f.lcm.all (fun x => decide (x.length = 64)) && decide (f.mgt.length ≤ 4) && f.mgt.all (fun x => decide (x.length = 641)) &&
  f.tribs.all (fun t => decide (t.1 < 32))

/-- Whether a command is well formed. -/
def Instr.wf (i : Instr) : Bool :=
  match i with
  | .resetNLow _ => true
  | .alarmArm _ _ _ => true
  | .alarmDisarm _ _ => true
  | .alarmLock _ => true
  | .alarmFire _ _ => true
  | .readLo64 _ a => aligned a
  | .writeLo64 _ a _ => aligned a
  | .writeHi64 _ a _ => aligned a
  | .downstreamFrame _ f posts => f.wf && posts.all RxPost.wf
  | .losAssert _ pwr => reading16 pwr
  | .losClear _ pwr => reading16 pwr
  | .lolAssert _ _ snr => decide (snr < 2 ^ 16)
  | .lolClear _ snr => decide (snr < 2 ^ 16)
  | .laneEstablished _ => true
  | .clockLock _ => true
  | .adaptationComplete _ snr => decide (snr < 2 ^ 16)
  | .wavelengthFault _ err => reading16 err
  | .wavelengthRecover _ err => reading16 err
  | .laneTargetWrite _ _ _ => true
  | .laneTransitionDone _ => true
  | .laneRefuseCleared _ => true
  | .enginePowered _ => true
  | .trimRecompute _ temp => reading16 temp
  | .rxOffsetCal _ _ offset => reading16 offset
  | .safBurstPresent _ => true
  | .safCeilWrite _ _ _ => true
  | .fuseComparatorTrip _ => true
  | .safFuseClr _ _ _ => true
  | .safKill _ _ _ => true
  | .reassemblyTimeout _ _ _ _ => true
  | .mchUartFrameRx _ => true
  | .spiWrite _ => true
  | .pathParams _ => true
  | .timeAnnounce _ => true
  | .discovery _ _ => true
  | .announceUnanswered _ _ => true
  | .assignTid _ => true
  | .rangeWindow _ => true
  | .eqDelay _ => true
  | .certReq _ => true
  | .authChallenge _ => true
  | .authResponseReady _ => true
  | .keyConfirm _ => true
  | .registered _ => true
  | .homeAssign _ => true
  | .homeAssignApply _ => true
  | .tribAssign _ => true
  | .tribAssignApply _ _ => true
  | .deactivate _ => true
  | .hold _ => true
  | .release _ => true
  | .resume _ => true
  | .actHoldClr _ _ => true
  | .lcmFragmentTimeout _ => true
  | .to3Expire _ => true
  | .to6Expire _ => true
  | .homeFallback _ => true
  | .grantMapDecode _ => true
  | .windowFill _ start _ => decide (start < 5000)
  | .fragAbandon _ => true
  | .upTribAssign _ => true
  | .standingBurst _ _ _ => true
  | .lcySegment _ _ _ => true
  | .bndGapSkip _ _ => true
  | .mergeWindowSkip _ => true
  | .pathAck _ => true
  | .pathSwitchMsg _ => true
  | .pthForce _ _ => true
  | .pthLockout _ _ => true
  | .pthClear _ => true
  | .retentionExpire _ => true
  | .engineRetest _ _ => true
  | .retestDone _ _ => true
  | .rekey _ => true
  | .rekeyEpochStart _ _ _ => true
  | .rekeyReqRepeat _ _ _ => true
  | .kstWrite _ => true
  | .kstErase _ => true
  | .keySlotDrained _ => true
  | .clientFrameRx _ _ bs _ _ _ => decide (1 ≤ bs.length)
  | .clientFrameTx _ _ => true
  | .signalDetect _ _ => true
  | .laneAdaptDone _ _ _ => true
  | .alignLock _ _ => true
  | .alignLoss _ _ => true
  | .signalLoss _ _ => true
  | .faultOrderedSetRx _ _ _ => true
  | .faultClearTimeout _ _ => true
  | .pauseExpire _ _ _ => true
  | .pauseWatchdog _ _ _ => true
  | .pauseRefresh _ _ => true
  | .transparentFrameRx _ _ bs _ => decide (1 ≤ bs.length)
  | .orderedSetRepeat _ _ => true
  | .demapRecord _ _ => true
  | .orderedSetTimeout _ _ => true
  | .prsPass _ _ => true
  | .allocRetry _ => true
  | .taRead _ _ _ => true
  | .taWrite _ _ _ => true
  | .taInsert _ _ _ => true
  | .taDelete _ _ _ => true
  | .taLookup _ _ _ => true
  | .taActRead _ _ _ => true
  | .taActWrite _ _ _ => true
  | .dequeue _ _ post => post.wf
  | .meterRefill _ _ _ => true
  | .wheelRelease _ _ _ => true
  | .polAccDone _ _ => true
  | .demotionScan _ => true
  | .promotionDone _ _ => true
  | .hopFree _ _ => true
  | .hopAddref _ _ => true
  | .hopRead _ _ _ => true
  | .ownerRestore _ _ _ => true
  | .patrolScrub _ _ _ _ _ _ _ => true
  | .memoryTrainingDone _ dimms => decide (dimms.length ≤ 4)
  | .tsuRateWrite _ _ _ => true
  | .tsuStepWrite _ _ _ => true
  | .tsuSet _ _ _ => true
  | .domainHoldover _ => true
  | .ppsInEdge _ => true
  | .tsuConvert _ _ _ => true
  | .tsuLatch _ => true
  | .residClr _ => true
  | .ppsOutEdge _ => true
  | .tsqPop _ _ => true
  | .policyWrite _ _ img => decide (img.length < 2 ^ 24)
  | .policyWriteDone _ => true
  | .wardenWrite _ _ img => decide (img.length < 2 ^ 24)
  | .keyAdd _ _ key => decide (key.length = 97)
  | .keyRevoke _ _ => true
  | .setPref _ _ => true
  | .clusterRestart _ => true
  | .clusterHalt _ => true
  | .trialConfirm _ => true
  | .wdtKick _ _ => true
  | .clusterWdtExpire _ => true
  | .mbxPost _ _ => true
  | .mbxClaim _ => true
  | .mbxComplete _ => true
  | .mbxAck _ _ => true
  | .mbxTimeout _ => true
  | .injectDescriptor _ desc frame => decide (desc.length = 16) && decide (frame.length ≤ 16384)
  | .p0Challenge _ => true
  | .p0Respond _ => true
  | .p0Drop _ => true
  | .flr _ => true
  | .flrComplete _ => true
  | .ringDisable _ _ => true
  | .txDescriptor _ d => d.wf
  | .writebackTimeout _ _ => true
  | .rxRelease _ _ _ => true
  | .interruptCoalesceTimeout _ => true
  | .pwrRequest _ _ _ => true
  | .entryStepDone _ => true
  | .entryDrainTimeout _ => true
  | .exitStepDone _ => true
  | .padRelease _ _ => true
  | .tempWarning _ t => reading16 t
  | .tempThrottle _ t => reading16 t
  | .tempClear _ t => reading16 t
  | .thermalTrip _ t => reading16 t
  | .inputCollapse _ => true
  | .ashGaspGiveup _ => true
  | .powerGoodRestored _ => true
  | .evrFlushTick _ => true
  | .evrFlush _ => true
  | .evrCursorWrite _ _ => true
  | .windowCopyDone _ => true
  | .evrClrChallenge _ => true
  | .evrClrRespond _ => true
  | .evrRlCfgWrite _ _ => true
  | .counterWrite _ _ _ => true
  | .pmonFreeze _ _ => true
  | .groupMemberWrite _ a _ => aligned a
  | .seal _ a => aligned a
  | .sealAbandon _ a => aligned a
  | .sealCheckDone a => aligned a
  | .groupHoldTimeout a => aligned a
  | .epcOpen _ => true
  | .epcLoad _ => true
  | .imageLoadDone b => decide (b.length < 2 ^ 23)
  | .stagedWrite _ a _ => aligned a
  | .epcArm _ => true
  | .epcCancel _ => true
  | .epcAbandon _ => true
  | .epcAck _ => true
  | .epcNow _ => true
  | .lineBankSwitch _ => true
  | .scopeReady _ => true
  | .faultReport _ kind _ _ => decide (kind.val ≠ 0)
  | .regionStepDone _ => true
  | .hangDetect _ _ _ => true
  | .fltRegionReset _ _ => true
  | .scopeLaneRetryTimeout _ => true
  | .consoleJetRead _ => true
  | .consoleLogRead _ => true
  | .consoleLaserOff _ => true
  | .consoleRegionReset _ => true
  | .consoleModuleReset _ => true
  | .calUnlock _ => true
  | .calWrite _ file => decide (file.length = 5312)
  | .calSaveRx _ => true
  | .calRead _ => true
  | .i2cCommand _ _ _ => true
  | .i2cDone _ _ _ bs => decide (bs.length ≤ 128)
  | .gpioEdge _ _ => true
  | .extest _ => true
  | .samplePreload _ => true
  | .clamp _ => true
  | .highz _ => true
  | .extestPulse _ => true
  | .extestTrain _ => true
  | .registerWrite _ a _ => aligned a
  | .registerRead _ a => aligned a
  | .pauseIgnoreEnd _ _ _ => true
  | .wardenWriteDone _ => true
  | .calWriteDone _ => true
  | .pcieLinkTrained _ _ => true
  | .thermalHoldRelease _ => true
  | .powerOn => true
  | .startStep => true
  | .stepSettled => true
  | .stepSettleTimeout => true
  | .tokenGrant => true
  | .tokenTimeout => true
  | .moduleFrameBoundary => true
  | .secOffsetChange => true
  | .snapshotComplete => true
  | .freezeEnd => true
  | .leadPathChange => true
  | .leadRevert => true
  | .laserEnLow => true
  | .laserEnHigh => true
  | .spiStatus => true
  | .spiRead => true
  | .skewReport => true
  | .keyDerivationDone => true
  | .pathSwitchApply => true
  | .holdoffExpire => true
  | .wtrExpire => true
  | .domainRebase => true
  | .todMessage => true
  | .trialTimeout => true
  | .wardenWdtExpire => true
  | .perstNAssert => true
  | .p0VerifyDone => true
  | .p0LockoutExpire => true
  | .logClose => true
  | .bankDischarge => true
  | .clrVerifyDone => true
  | .rateLimitRefill => true
  | .opTimeTick => true
  | .opTimeSave => true
  | .seedCopyDone => true
  | .armCheckDone => true
  | .nowCheckDone => true
  | .nowDrainBound => true
  | .nowRestartBound => true
  | .commitAcknowledged => true
  | .drainDone => true
  | .heartbeatMiss => true
  | .aonIntegrityLoss => true
  | .consoleIdent => true
  | .consoleStatus => true
  | .consoleSafeEnter => true
  | .calUnlockExpire => true
  | .idcode => true
  | .bypass => true
  | .clrLockoutExpire => true
  | .clusterCoresReleased => true
  | .wardenRestartDone => true
  | .servedSlewEnd => true

end Sys2Proof
end

