-- ==== Sys2Proof/Tests/Slice0.lean ====
section
/-!
SUPPORT. Tests. First a witness for the hypotheses of every statement, clause by clause: concrete states and operands that meet them.
Then the ill-formed commands that `Instr.wf` refuses, and single steps with results taken from the manual.
-/
namespace Sys2Proof.Tests
open Sys2Proof Sys2Proof.Machine
set_option Elab.async false

/-- The state after reset. -/
def s0 : State := State.reset
/-- The PF, and the PF while it holds P0. -/
def pf : Requester := .fn 0
def p0 : State := { s0 with hif := { s0.hif with p0 := true } }
/-- A state in which module line time follows path A. -/
def timed : State := put (put s0 F.LTU_STATUS_lead 1) F.LTU_FN_fn 100
/-- The safe state. -/
def safe : State := putB s0 F.GLB_SAFE_safe true

/-- Several fields put one after another. -/
def putAll (s : State) (l : List (Fld × Nat)) : State := l.foldl (fun s e => put s e.1 e.2) s

/-- Both paths have a channel in lock. -/
def locked : State := putAll timed [(F.LTU_STATUS_lock_a, 1), (F.LTU_STATUS_lock_b, 1)]
/-- Lane 0 is ACTIVE with light and in sync. -/
def lit : State := putAll locked [(F.LNK_LANE_PWR_state 0, 0), (F.DFR_CH_STATUS_delin 0, 2), (F.LNK_LANE_STATUS_los 0, 0), (F.LNK_LANE_STATUS_lol 0, 0)]

theorem witness_StepRunsFrontCommand : ({ s0 with pending := [.bypass, .idcode] } : State).pending = .bypass :: [.idcode] := by rfl
theorem witness_IdleStepIsCoreTick : s0.pending = [] := by rfl
theorem witness_StepSettlesOutputs : ∃ t, Machine.step s0 = .next t := ⟨_, rfl⟩
theorem witness_FieldPutGet : (F.PWR_D_STATE_state 0).lo + (F.PWR_D_STATE_state 0).w ≤ 32 ∧
    (F.PWR_D_STATE_state 1).addr ≠ (F.PWR_D_STATE_state 0).addr ∧
    (F.PWR_D_STATE_state 0).lo + (F.PWR_D_STATE_state 0).w ≤ (F.PWR_D_STATE_step 0).lo := by decide
theorem witness_PutKeepsCanonical : Tab.sorted s0.regs = true ∧ ∀ e ∈ s0.regs, e.2 ≠ resetWord e.1 := by decide +kernel
theorem witness_StepKeepsCanonical : Canonical { s0 with pending := [.bypass] }.regs ∧ ∃ t, Machine.step { s0 with pending := [.bypass] } = .next t :=
  ⟨⟨by decide +kernel, by decide +kernel⟩, _, rfl⟩
theorem witness_StepKeepsPrivileges :
    (∃ t, Machine.step { p0 with pending := [.bypass] } = .next t ∧ t.hif.p0 = true) ∧ Instr.bypass ≠ .p0VerifyDone ∧ Instr.bypass ≠ .powerOn ∧
    (∀ bad, Instr.bypass ≠ .resetNLow bad ∧ Instr.bypass ≠ .consoleModuleReset bad ∧ Instr.bypass ≠ .powerGoodRestored bad ∧
      Instr.bypass ≠ .thermalHoldRelease bad) ∧ (s0.pending = [] ∧ ∃ t, Machine.step s0 = .next t) ∧
    isP0 s0 pf = false ∧ (0 : BitVec 28).toNat ≠ R.EPC_CTRL ∧
    Instr.registerRead pf 0 ∈ [Instr.registerRead pf 0, .registerWrite pf 0 0, .readLo64 pf 0, .writeLo64 pf 0 0, .writeHi64 pf 0 0, .stagedWrite pf 0 0,
      .groupMemberWrite pf 0 0, .seal pf 0, .sealAbandon pf 0] ∧ ∃ t, Machine.exec (.registerRead pf 0) s0 = .next t :=
  ⟨⟨_, rfl, by decide +kernel⟩, nofun, nofun, fun _ => ⟨nofun, nofun, nofun, nofun⟩, ⟨rfl, _, rfl⟩, by decide +kernel, by decide, by decide, _, rfl⟩
theorem witness_BankSwitch : (match regRowAt R.TSU_UTC_OFF with
    | some (r, 0) => r.fields.any (fun f => decide (f.lo + f.w ≤ 32))
    | _ => false) = true ∧ (match regRowAt R.BND_POOL with
    | some (r, 0) => r.fields.any (fun f => decide (f.lo + f.w ≤ 32)) && isLineReg R.BND_POOL
    | _ => false) = true := by decide +kernel
theorem witness_AccessNotServed :
    cutOff safe pf = true ∧
    (cutOff s0 (.fn 3) = false ∧ permitted s0 (.fn 3) 0 false = false) ∧
    (cutOff s0 pf = false ∧ permitted s0 pf 0x1400000 false = true ∧ sleeping (put s0 (F.PWR_D_STATE_state 0) 3) 0x1400000 = true) ∧
    (ringAt 0 = none ∧ cutOff s0 (.fn 3) = false ∧ permitted s0 (.fn 3) 0 true = false) ∧
    getB (putB s0 F.ACW_EVENT_deny true) F.ACW_EVENT_deny = true := by decide +kernel
theorem witness_UnmappedAccess : regRowAt 0xFFC = none ∧ isMbxBody 0xFFC = false ∧ ringAt 0xFFC = none ∧ Reaches s0 pf 0xFFC false ∧ Reaches s0 pf 0xFFC true ∧
    regRowAt 0xFFFFFFC = none ∧ Reaches s0 pf 0xFFFFFFC false := by simp only [Reaches]; decide +kernel
theorem witness_PlainRegisterAccess : Reaches s0 pf 0 false ∧ Reaches s0 pf 4 false ∧ Reaches s0 pf 0x18 false ∧ Reaches p0 pf 0x18 true ∧
    isP0 p0 pf = true ∧ isP0 s0 pf = false ∧ Reaches s0 pf 0 true := by simp only [Reaches]; decide +kernel
theorem witness_SixtyFourBitPairs :
    let u := modShadow s0 pf (fun x => { x with rd := some (0x10008, 7), wr := some (0x2000C, 9) })
    Reaches s0 pf 0x10008 false ∧ Reaches u pf 0x1000C false ∧ (shadowOf u pf).rd = some (0x10008, 7) ∧ (shadowOf s0 pf).rd = none ∧
    Reaches s0 pf 0x2000C true ∧ Reaches u pf 0x20010 true ∧ (shadowOf u pf).wr = some (0x2000C, 9) ∧ (shadowOf s0 pf).wr = none := by
  simp only [Reaches]; decide +kernel
theorem witness_AlarmArmResult :
    let a := put timed (F.LTU_ALM_FN_fn 200) 102
    let b := put a (F.LTU_ALM_CTRL_timebase 200) 1
    let locked := put b (F.LNK_LANE_PWR_state 0) 0
    4999 < get (put s0 (F.LTU_ALM_CTRL_cw 0) 5000) (F.LTU_ALM_CTRL_cw 0) ∧
    get (put s0 (F.LTU_ALM_CTRL_timebase 200) 3) (F.LTU_ALM_CTRL_timebase 200) = 3 ∧
    (alarmBase s0 200 = 0 ∧ get s0 F.LTU_STATUS_lead = 0) ∧
    (alarmBase b 200 = 1 + qn .a ∧ pathLocked locked .a = false) ∧
    (baseNow a (alarmBase a 200) = some 500000 ∧ 500002 ≤ alarmAt a 200) ∧
    alarmAt (put (put a (F.LTU_ALM_FN_fn 200) 100) (F.LTU_ALM_CTRL_cw 200) 1) 200 < 500000 + 2 ∧
    (alarmArmed s0 255 = false ∧ alarmArmed (put s0 (F.LTU_ALM_STATUS_state 255) 2) 255 = true) := by decide +kernel
theorem witness_AlarmCommands :
    let armed (k : Nat) := put timed (F.LTU_ALM_STATUS_state k) 1
    let held := put timed (F.LTU_ALM_STATUS_state 200) 2
    (Reaches timed pf (R.LTU_ALM_CTRL 133) true ∧ alarmOpen 133 = true ∧ isP1 pf = true ∧ alarmState timed 133 ≠ 2) ∧
    (Reaches timed pf (R.LTU_ALM_CTRL 200) true ∧ alarmOpen 200 = true ∧ alarmState timed 200 ≠ 2) ∧
    alarmOpen 128 = false ∧ isP1 (.fn 1) = false ∧
    (Reaches held pf (R.LTU_ALM_STATUS 200) true ∧ alarmState held 200 = 2) ∧
    (Reaches (armed 255) pf (R.LTU_ALM_STATUS 255) true ∧ alarmState (armed 255) 255 = 1) ∧
    (let u := put (armed 200) (F.LTU_ALM_CTRL_timebase 200) 1;
      alarmArmed u 200 = true ∧ alarmBase u 200 ≠ 0 ∧ get (reach u (alarmBase u 200) (alarmAt u 200)) (F.LTU_ALM_CTRL_period 200) = 0) ∧
    alarmArmed (armed 127) 127 = true ∧ (127 : Nat) < 128 ∧
    (let u := put (armed 200) (F.LTU_ALM_FN_fn 200) 101
     let c := fallsAt u 200
     alarmArmed u 200 = true ∧ alarmBase u 200 = 0 ∧ firstDue u c = some c ∧ dueTogether u c = [200] ∧
      firstDue (moduleAct (reach u 0 c) (markFired (reach u 0 c) 200 false) 200 c) c = none) := by simp only [Reaches]; decide +kernel
theorem witness_LineTimeChanges :
    let l (f : Ltu → Ltu) := modLtu timed f
    (get timed F.LTU_STATUS_lead ≠ 0 ∧ getB timed F.LTU_STATUS_frozen = false ∧ getI timed F.LTU_SLEW_remain = 0) ∧
    get (put timed F.LTU_STATUS_lead 3) F.LTU_STATUS_lead = 3 ∧ get timed F.LTU_STATUS_lead ≠ 3 ∧
    s0.ltu.pendingOffset = none ∧ (l (fun x => { x with pendingOffset := some 15624 })).ltu.pendingOffset = some 15624 ∧ 15624 < 15625 ∧
    (l (fun x => { x with frozenFor := some .b })).ltu.frozenFor = some .b ∧
    (l (fun x => { x with pendingLead := some .b })).ltu.pendingLead = some .b ∧ pathLocked timed .b = false ∧
    pathLocked locked .b = true ∧ revertTo timed = none ∧
    (l (fun x => { x with snapPending := some 7 })).ltu.snapPending = some 7 := by decide +kernel
/-- Path B, which is preferred, has held lock for 15,625 frames while path A leads. -/
def reverting : State := modLtu (putAll locked [(F.LTU_CTRL_revert, 1), (F.LTU_CTRL_lead_pref, 2)]) (fun x => { x with ticksB := [(0, 15625)] })
theorem witness_LineTimeChanges_revert : revertTo reverting = some .b ∧ leadPath reverting = some (otherPath .b) ∧ 15625 ≤ heldFrames reverting .b := by decide +kernel
theorem witness_LightDetectors :
    let los := putB lit (F.LNK_LANE_STATUS_los 0) true
    let lol := putB lit (F.LNK_LANE_STATUS_lol 0) true
    laneActive lit 0 = true ∧ getB lit (F.LNK_LANE_STATUS_los 0) = false ∧ losAssertAt lit 0 - 1 < losAssertAt lit 0 ∧
    (laneActive los 0 = true ∧ getB los (F.LNK_LANE_STATUS_los 0) = true ∧ losClearAt los 0 < losClearAt los 0 + 1) ∧
    (getB lit (F.LNK_LANE_STATUS_lol 0) = false ∧ 0 < lolAssertAt lit 0 ∧ getB (showSnr lit 0 0) (F.LNK_LANE_STATUS_lol 0) = false) ∧
    (laneActive lol 0 = true ∧ getB lol (F.LNK_LANE_STATUS_lol 0) = true ∧ lolClearAt lol 0 < lolClearAt lol 0 + 1) := by decide +kernel
theorem witness_LaneComesUp :
    laneActive lit 0 = true ∧ getB lit (F.LNK_LANE_STATUS_los 0) = false ∧
    (let u := modLane lit 0 (fun x => { x with clockLocked := true }); (laneSt u 0).clockLocked = true ∧
      getB u (F.LNK_LANE_STATUS_adapted 0) = false ∧ laneActive u 0 = true) ∧
    (let u := modLane (putB lit (F.LNK_LANE_STATUS_adapted 0) true) 0 (fun x => { x with clockLocked := true, established := false });
      laneActive u 0 = true ∧ ((detected u 0).take 3).any (fun b => b) = false) ∧ laneState lit 0 ≠ 4 := by decide +kernel
theorem witness_LanePower :
    Reaches s0 pf (R.LNK_LANE_PWR 0) true ∧
    (laneSt (modLane s0 0 (fun x => { x with step := some 3 })) 0).step = some 3 ∧ (laneSt s0 0).step = none ∧
    laneActive lit 0 = true ∧
    (let u := putAll (modEngine s0 0 (fun x => { x with ramping := true })) [(F.PWR_STATUS_step, 9)];
      (engineSt u 0).ramping = true ∧ pastS7 u 0 = true) ∧
    enginePowered (putB s0 (F.OPE_STATUS_powered 0) true) 0 = true ∧
    (Reaches lit pf (R.LNK_RX_OFFSET 0) true ∧ getB lit (F.LNK_LANE_STATUS_los 0) = false) := by simp only [Reaches]; decide +kernel
theorem witness_SafetyGovernor :
    ReachesP0 p0 pf R.SAF_CEIL_A ∧ toSigned 16 215 ≤ p0.saf.ceilA ∧
    ReachesP0 p0 pf R.SAF_CEIL_B ∧ toSigned 16 0xFF9C ≤ p0.saf.ceilB ∧
    (Reaches s0 pf R.SAF_CEIL_A true ∧ isP0 s0 pf = false) ∧ p0.saf.ceilA < toSigned 16 216 ∧ p0.saf.ceilB < toSigned 16 216 ∧ Reaches s0 pf R.SAF_CEIL_B true ∧
    ReachesP0 p0 pf R.SAF_FUSE_CLR ∧ (Reaches s0 pf R.SAF_FUSE_CLR true ∧ isP0 s0 pf = false) ∧
    Reaches s0 pf R.SAF_CTRL true ∧ { s0.pins with laserEn := true }.laserEn = true := by
  simp only [Reaches, ReachesP0]; decide +kernel
/-- A burst that waits on lane 0. -/
def burst : Burst := { kind := .discovery, lane := 0, pos := 500100, guard := 4, len := 40, pre := 0, plen := 10, alarm := 500100, fine := 0, bsn := 0,
                       segs := [], acts := 0, reps := [], wins := 0, mgmt := false, info := [] }
theorem witness_BurstAdmission :
    let s := { locked with upb := { s0.upb with bursts := [burst] } }
    let early : Burst := { burst with lane := 63, alarm := 500099 }
    earliest ((waitingBursts s 0).filter (fun x => !x.admitted)) = some burst ∧
    (let u := reach s (1 + qn (lanePath 0)) (burst.alarm - 64); mfLock u 0 = false) ∧
    (let v := putB s (F.DFR_CH_STATUS_mf_lock 0) true; mfLock (reach v (1 + qn (lanePath 0)) (burst.alarm - 64)) 0 = true ∧
      firstPresented (presentedBefore (reach v (1 + qn (lanePath 0)) (burst.alarm - 64)) burst) = none) ∧
    firstPresented (presentedBefore { s with upb := { s0.upb with bursts := [burst, early] } } burst) = some early ∧
    (let v := { s with saf := { s.saf with ceilA := -600 } };
      lanePath burst.lane = .a ∧
      (let u := reach v (1 + qn (lanePath 0)) (burst.alarm - 64);
       withinBudget (windowEnergy u .a ((burst.alarm + burst.len - 1) / 125) + laneUw u burst.lane * (burst.len - burst.guard + 1)) (ceilOf u .a) = false)) := by
  decide +kernel
theorem witness_CommitCancel :
    let s := put timed F.EPC_STATUS_state epcArmed
    let runs (k : Nat) := put timed F.EPC_STATUS_state k
    let t := put (put s F.EPC_STRUCT_sections 1) (F.LTU_ALM_STATUS_state 129) 3
    Reaches s pf R.EPC_CTRL true ∧ epcState s = epcArmed ∧ alarmState s 128 ≠ 2 ∧ ¬ (get s F.EPC_STRUCT_sections ≠ 0 ∧ alarmState s 129 = 3) ∧
    (Reaches t pf R.EPC_CTRL true ∧ epcState t = epcArmed ∧ get t F.EPC_STRUCT_sections ≠ 0 ∧ alarmState t 129 = 3) ∧
    (Reaches (runs 3) pf R.EPC_CTRL true ∧ epcState (runs 3) = epcCommitting ∧ epcState (runs 4) = epcDraining ∧ s.epc.early = false) ∧
    alarmState (put s (F.LTU_ALM_STATUS_state 128) 2) 128 = 2 := by simp only [Reaches]; decide +kernel
/-- The EPC in state `k`. -/
def epcIn (k : Nat) : State := put s0 F.EPC_STATUS_state k
theorem witness_StagingPeriod :
    (Reaches s0 pf R.EPC_CTRL true ∧ epcState s0 = epcIdle) ∧ (Reaches (epcIn 5) pf R.EPC_CTRL true ∧ epcState (epcIn 5) = epcDone) ∧
    (getB (putB (epcIn 1) F.EPC_STATUS_seeding true) F.EPC_STATUS_seeding = true ∧ s0.epc.waiting = []) ∧
    (s0.epc.lineDueA = false ∧ s0.epc.lineDueB = false) ∧ (∀ n, n < 4 → (pkt (epcIn 1) n).prs.taWait = none) ∧
    (Reaches s0 pf R.TSU_UTC_OFF true ∧ epcState s0 ≠ epcStaging ∧ Reaches (epcIn 1) pf R.TSU_UTC_OFF true ∧
      getB (epcIn 1) F.EPC_STATUS_seeding = false ∧ epcState (putB (epcIn 1) F.EPC_STATUS_seeding true) = epcStaging) ∧
    (Reaches (epcIn 1) pf R.EPC_LOAD true ∧ epcState (epcIn 1) = epcStaging ∧ (epcIn 1).epc.load = none) ∧
    (Reaches (epcIn 3) pf R.EPC_CTRL true ∧ epcState (epcIn 3) = epcCommitting) ∧ epcState (epcIn 4) = epcDraining := by
  simp only [Reaches]; decide +kernel
theorem witness_ImageLoadEnd :
    let s := modEpc (epcIn 1) (fun e => { e with load := some { p0 := true, len := 64 } })
    let t := modEpc (epcIn 1) (fun e => { e with load := some { p0 := true, len := 64, live := false } })
    s.epc.load = some { p0 := true, len := 64 } ∧ getB s F.EPC_STATUS_seeding = false ∧ epcState s = epcStaging ∧
    t.epc.load = some { p0 := true, len := 64, live := false } ∧ getB t F.EPC_STATUS_seeding = false := by decide +kernel
/-- STAGING with TUNING loaded and nothing staged, and the same at the end of a check. -/
def tuned : State := putAll timed [(F.EPC_STATUS_state, 1), (F.EPC_ARM_CTRL_q_lead, 1), (F.EPC_ARM_CTRL_scope_timeout, 16), (F.EPC_LOADED_sections, 2 ^ 17)]
def tunedFor (k : CheckKind) : State := modEpc tuned (fun e => { e with check := some k })
def tunedEnd : State := checkEnd (tunedFor .now)
/-- BONDSET's arm check bound by bound, over the AIDs from `a` on (one theorem over all of them is too long a kernel evaluation). -/
def bindBad (c : Cfg) (a q grp : Nat) (on : Bool) : Bool :=
  on && (!cfgB c (F.UPB_AID_CFG_valid a) || !bit (cfgGet c (F.UPB_AID_CFG_paths a)) q || !cfgB c (F.BND_UG_STATUS_valid q grp))
def bindsBad (c : Cfg) (a n : Nat) : Bool := (List.range' a n).any (fun a =>
  bindBad c a 0 (cfgGet c (F.BND_AID_GROUP_group_a a)) (cfgB c (F.BND_AID_GROUP_valid_a a)) ||
  bindBad c a 1 (cfgGet c (F.BND_AID_GROUP_group_b a)) (cfgB c (F.BND_AID_GROUP_valid_b a)))
def lanesBad (c : Cfg) (q m : Nat) (f : Nat → Fld) : Bool := (bitsSet 64 m).any (fun n => !cfgB c (f (64 * q + n)))
def membersBad (c : Cfg) : Bool := [0, 1].any (fun q => (List.range 32).any (fun g =>
  lanesBad c q (cfgGet c (F.BND_DG_MEMBERS_members q g)) F.LNK_LANE_CTRL_rx_en ||
  lanesBad c q (cfgGet c (F.BND_UG_MEMBERS_members q g)) F.LNK_LANE_CTRL_tx_en))
theorem bondDisagree_parts (c : Cfg) : bondDisagree c = (bindsBad c 0 256 || bindsBad c 256 256 || membersBad c ||
    decide (cfgGet c F.BND_POOL_size_a * 2 ^ 20 < poolBound c 0) || decide (cfgGet c F.BND_POOL_size_b * 2 ^ 20 < poolBound c 1)) := by
  have h : List.range 512 = List.range' 0 256 ++ List.range' 256 256 := by decide +kernel
  rw [bondDisagree, h, List.any_append]; rfl
theorem tunedEnd_binds0 : bindsBad tunedEnd.other 0 256 = false := by decide +kernel
theorem tunedEnd_binds1 : bindsBad tunedEnd.other 256 256 = false := by decide +kernel
theorem tunedEnd_members : membersBad tunedEnd.other = false := by decide +kernel
theorem tunedEnd_bond : bondDisagree tunedEnd.other = false := by
  rw [bondDisagree_parts, tunedEnd_binds0, tunedEnd_binds1, tunedEnd_members]; decide +kernel
theorem tunedEnd_det : detDisagree tunedEnd.other = false := by decide +kernel
theorem tunedEnd_path : pathDisagree tunedEnd.other = false := by decide +kernel
theorem tunedEnd_store : storeShort tunedEnd.other = false := by decide +kernel
theorem tunedEnd_streams : streamsDisagree tunedEnd = false := by decide +kernel
theorem tunedEnd_layout0 : (tblAgree (tblWordsOf tunedEnd.other 0) (graphClasses tunedEnd.other.bank 0)).isSome = false := by decide +kernel
theorem tunedEnd_layout1 : (tblAgree (tblWordsOf tunedEnd.other 1) (graphClasses tunedEnd.other.bank 1)).isSome = false := by decide +kernel
theorem tunedEnd_layout2 : (tblAgree (tblWordsOf tunedEnd.other 2) (graphClasses tunedEnd.other.bank 2)).isSome = false := by decide +kernel
theorem tunedEnd_layout3 : (tblAgree (tblWordsOf tunedEnd.other 3) (graphClasses tunedEnd.other.bank 3)).isSome = false := by decide +kernel
theorem tunedEnd_layout : layoutDisagree tunedEnd.other = false := by
  rw [layoutDisagree, show List.range 4 = [0, 1, 2, 3] from rfl]
  simp only [List.any_cons, List.any_nil, tunedEnd_layout0, tunedEnd_layout1, tunedEnd_layout2, tunedEnd_layout3, Bool.or_false]
theorem tunedEnd_rules : rulesDisagree tunedEnd = false := by decide +kernel
theorem tunedEnd_tree : ((List.range 4).any (fun n => treeDisagreeIn tunedEnd n)) = false := by decide +kernel
theorem tunedEnd_owners : ((List.range 4).any (fun n => ownersDisagreeIn tunedEnd n)) = false := by decide +kernel
theorem tunedEnd_crypto : cryptoDisagree tunedEnd.other = false := by decide +kernel
theorem tunedEnd_time : timeDisagree tunedEnd = false := by decide +kernel
theorem tunedEnd_tuning : tuningDisagree tunedEnd = none := by decide +kernel
theorem tunedEnd_scope : scopeCheck tunedEnd = none := by decide +kernel
theorem armCheck_tunedEnd : armCheck tunedEnd = none := by
  have h : get tunedEnd F.EPC_LOADED_sections ≠ 0 := by decide +kernel
  rw [armCheck, if_neg h, agreement, tunedEnd_scope]
  simp only [tunedEnd_bond, tunedEnd_det, tunedEnd_path, tunedEnd_store, tunedEnd_streams, tunedEnd_layout, tunedEnd_rules, tunedEnd_tree, tunedEnd_owners, tunedEnd_crypto, tunedEnd_time, tunedEnd_tuning]
  rfl
theorem witness_CommitArm :
    let s := put tuned F.LTU_STATUS_lead 0
    (Reaches s pf R.EPC_CTRL true ∧ epcState s = epcStaging ∧ s.epc.check = none ∧ armRange s = false ∧ get s F.LTU_STATUS_lead = 0) ∧
    armRange (put s F.EPC_ARM_CTRL_q_lead 0) = true ∧ armRange (put s F.EPC_ARM_CTRL_scope_timeout 15) = true ∧
    (tunedFor (.arm 200 1 16)).epc.check = some (.arm 200 1 16) ∧
    firstBad [armCheck (put tunedEnd F.EPC_LOADED_sections 0)] = some (epcNothing, 0) ∧
    get (put s F.EPC_STRUCT_sections 1) F.EPC_STRUCT_sections ≠ 0 ∧ get s F.EPC_STRUCT_sections = 0 ∧ get tuned F.LTU_STATUS_lead ≠ 0 := by
  simp only [Reaches]; decide +kernel
theorem witness_CommitArm_passes : firstBad [armCheck (checkEnd (tunedFor (.arm 200 1 16))), armTime (checkEnd (tunedFor (.arm 200 1 16))) 200 1] = none := by
  rw [show checkEnd (tunedFor (.arm 200 1 16)) = tunedEnd from rfl, armCheck_tunedEnd]; decide +kernel
theorem witness_CommitPhases_now : (tunedFor .now).epc.check = some .now ∧ armCheck (checkEnd (tunedFor .now)) = none :=
  ⟨rfl, armCheck_tunedEnd⟩
theorem witness_CommitPhases :
    let l := modEpc (put locked F.EPC_STATUS_state 3) (fun e => { e with lineDueA := true, waitA := true })
    (modEpc s0 (fun e => { e with nowCommit := true })).epc.nowCommit = true ∧
    (lineDue l .a = true ∧ pathLocked l .a = true ∧ runsAhead l .a = false ∧ l.epc.early = false) ∧
    (let u := setPathTime (put locked F.EPC_STATUS_state 2) .a { pathTime locked .a with fn := 101 }
     let v := modEpc (put locked F.EPC_STATUS_state 2) (fun e => { e with early := true })
     pathLocked u .a = true ∧ runsAhead u .a = true ∧ hasSwitched u .a = false ∧ pathLocked s0 .b = false ∧
      (Reaches u pf R.EPC_CTRL true ∧ epcState u = epcArmed ∧ alarmState u 128 ≠ 2 ∧ get u F.EPC_STRUCT_sections = 0 ∧ u.epc.early = false) ∧
      (Reaches v pf R.EPC_CTRL true ∧ epcState v = epcArmed ∧ alarmState v 128 ≠ 2 ∧ get v F.EPC_STRUCT_sections = 0 ∧ v.epc.early = true)) ∧
    (epcState l = epcCommitting ∧ waitsFor l .a = true) ∧
    (epcState (epcIn 3) = epcCommitting ∧ waitsFor (epcIn 3) .a = false ∧ waitsFor (epcIn 3) .b = false) ∧
    (epcState (epcIn 4) = epcDraining ∧ ∀ m, m < 4 → drains (epcIn 4) m = false) ∧ epcState (epcIn 5) ≠ epcArmed := by
  simp only [Reaches]; decide +kernel
theorem witness_AgreementGroups :
    let held := put s0 (sealState 0x200010) 1
    let chk := put s0 (sealState 0x200010) 2
    (groupOf 0x200004 = some 0x200010 ∧ groupP0 0x200010 = false ∧ Reaches s0 pf 0x200004 true) ∧
    (groupOf 0x60004 = some 0x60014 ∧ groupP0 0x60014 = true ∧ ReachesP0 p0 pf 0x60004 ∧ Reaches s0 pf 0x60004 true ∧ isP0 s0 pf = false) ∧
    (isSeal 0x200010 = true ∧ Reaches held pf 0x200010 true ∧ groupState held 0x200010 = 1 ∧ sealMeetsCommit held 0x200010 = false) ∧
    groupState s0 0x200010 = 0 ∧ (groupState chk 0x200010 = 2 ∧ sealMeetsCommit chk 0x200010 = false) ∧
    (spanAt 0x200010).isSome = true := by
  simp only [Reaches, ReachesP0]; decide +kernel
theorem witness_ModuleReset :
    let hold (x : Bool) := { s0 with pwr := { s0.pwr with thermalHold := true, inReset := x } }
    let fell := put safe F.GLB_SAFE_cause 2
    let good (s : State) := putB (putB { s with pins := { s.pins with pwrGood := true }, pwr := { s.pwr with bankEmpty := false } } F.PWR_STATUS_pwr_good true)
        F.ASH_STATUS_vash_ok true
    s0.pwr.thermalHold = false ∧ ((hold true).pwr.thermalHold = true ∧ (hold true).pwr.inReset = true) ∧ (hold false).pwr.inReset = false ∧
    (getB (good fell) F.GLB_SAFE_safe = true ∧ get (good fell) F.GLB_SAFE_cause = 2) ∧ getB (good s0) F.GLB_SAFE_safe = false ∧
    get (good safe) F.GLB_SAFE_cause ≠ 2 := by decide +kernel
theorem witness_SafeStateEntry : getB safe F.GLB_SAFE_safe = true ∧ getB s0 F.GLB_SAFE_safe = false ∧ (1150 ≤ (1150 : Int)) ∧ (1149 : Int) < 1150 := by
  decide +kernel
theorem witness_SafeStateEnd :
    gaspWanted (setGasp s0 .a true) .a = true ∧ gaspWanted (setGasp s0 .b true) .b = true ∧
    (getB safe F.GLB_SAFE_safe = true ∧ safe.evr.closed = false) ∧ getB s0 F.GLB_SAFE_safe = false ∧
    (modEvr safe (fun e => { e with closed := true })).evr.closed = true ∧
    getB (putB s0 F.PWR_STATUS_input_fail true) F.PWR_STATUS_input_fail = true ∧ gaspWanted s0 .a = false ∧ gaspWanted s0 .b = false ∧
    getB (raiseGrey (putB (tempThrottle s0 (.die 0) 1150) F.PWR_STATUS_trip true) F.PWR_EVENT_trip) F.GLB_SAFE_safe = false ∧
    (∀ good : Bool,
      getB (opTimeSave (jobCut (raiseGrey (putB (putB { s0 with pins := { s0.pins with pwrGood := good } } F.PWR_STATUS_pwr_good good)
        F.PWR_STATUS_input_fail true) F.PWR_EVENT_input_fail))) F.GLB_SAFE_safe = false) ∧
    getB (fltRecord s0 F.FLT_EVENT_region_fault .black 6 fltAon 0x04 0) F.GLB_SAFE_safe = false := by decide +kernel
theorem witness_StartUpSequence :
    let at_ (k : Nat) := modPwr (put s0 F.PWR_STATUS_step k) (fun p => { p with booted := true })
    let runs (k : Nat) := modPwr (put s0 F.PWR_STATUS_step k) (fun p => { p with stepRunning := true, rampsDone := true, booted := true })
    (stepMay (at_ 3) = true ∧ (stepRamp (at_ 3) (startStepNo (at_ 3))).isSome = true) ∧
    (stepMay (at_ 0) = true ∧ startStepNo (at_ 0) = 0) ∧ stepMay (runs 3) = false ∧
    ((runs 3).pwr.stepRunning = true ∧ stepRamped (runs 3) (startStepNo (runs 3)) = true ∧ startStepNo (runs 3) ≠ 7) ∧
    (stepRamped (runs 7) 7 = true ∧ startStepNo (runs 7) = 7) ∧ startStepNo (runs 2) ≤ 2 ∧
    (let q := { s0 with pwr := { s0.pwr with queue := [.region 2] } }; tokenHolder q = none ∧ tokenNext q = some (.region 2)) ∧
    (tokenHolder s0 = none ∧ tokenNext s0 = none) ∧ (tokenHolder (put s0 F.PWR_TOKEN_holder 3)).isSome = true := by decide +kernel
theorem witness_Temperature :
    let hot := modPwr s0 (fun p => { p with warnSet := [.die 0] })
    (s0.pwr.warnSet.contains (.die 0) = false ∧ hot.pwr.warnSet.contains (.die 0) = true) ∧
    (tempWarning s0 (.die 0) 1050).pwr.throttleSet.contains (.die 0) = false := by decide +kernel
theorem witness_PowerRequest :
    let s (k : Nat) := putAll s0 [(F.PWR_STATUS_step, 8), (F.PWR_D_STATE_state 0, k), (F.PWR_D_CFG_allow 0, 7), (F.CPL_STATUS_state, 2)]
    let busy := putB (s 0) (F.PWR_D_STATE_busy 0) true
    let twice := modPwr (put (s 0) (F.PWR_SCHED_CTRL_target 31) 3) (fun p => { p with schedAt := [(0, 0, 0)] })
    let w := portsDown (put (pwrResult (s 1) 0 0 0) (F.PWR_D_STATE_state 0) 0) 0
    (Reaches (s 0) (.core 0) R.PWR_REQ true ∧ (∀ i, Requester.core 0 ≠ .fn i)) ∧ Reaches s0 pf R.PWR_REQ true ∧
    (get twice (F.PWR_SCHED_CTRL_target 31) ≠ 0 ∧ Tab.find twice.pwr.schedAt (get twice (F.PWR_SCHED_CTRL_domain 31)) =
      some (get twice (F.PWR_SCHED_FN_fn 31), (s 0).clk.ticks)) ∧ get s0 (F.PWR_SCHED_CTRL_target 0) = 0 ∧
    bit (get (put (s 0) (F.PWR_D_CFG_allow 0) 3) (F.PWR_D_CFG_allow 0)) (3 - 1) = false ∧ bit (get (s 0) (F.PWR_D_CFG_allow 0)) (3 - 1) = true ∧
    bit (get (s 0) (F.PWR_D_CFG_allow 0)) (1 - 1) = true ∧ regionBusy busy 0 = true ∧
    (∀ k, k < 4 → regionBusy (s k) 0 = false ∧ powerFixed (s k) 0 = false ∧ regionState (s k) 0 = k) ∧
    (regionBusy s0 0 = false ∧ powerFixed s0 0 = true ∧ regionState s0 0 ≠ 0) ∧ regionState w 0 = 0 := by
  simp only [Reaches]; decide +kernel
theorem witness_PowerSteps :
    let entry (k : Nat) := putAll s0 [(F.PWR_D_STATE_busy 0, 1), (F.PWR_D_STATE_step 0, k), (F.PWR_D_STATE_target 0, 3)]
    let leaves (k : ExitKind) (n : Nat) := modRegionPwr s0 0 (fun p => { p with exit := some (k, n) })
    let granted := put (leaves .fromDim 1) F.PWR_TOKEN_holder 0
    (regionBusy (entry 2) 0 = true ∧ regionStep (entry 2) 0 = 2 ∧ regionStep (entry 4) 0 = 4 ∧ get (entry 4) (F.PWR_D_STATE_target 0) ≠ 1 ∧
      (regionPwr (entry 4) 0).wake = false) ∧
    (regionPwr (modRegionPwr (entry 4) 0 (fun p => { p with wake := true })) 0).wake = true ∧
    (regionBusy (entry 5) 0 = true ∧ regionStep (entry 5) 0 = 5) ∧ (regionBusy (entry 1) 0 = true ∧ regionStep (entry 1) 0 = 1 ∧ pipesHold (entry 1) 0 = false ∧ (pkt (entry 1) 0).bpm.want = []) ∧
    pipesHold (modPrs (entry 1) 0 (fun x => { x with inq := [(0, [{ bytes := [], ing := {}, src := 0 }])] })) 0 = true ∧
    (regionBusy (put (entry 3) (F.PWR_D_STATE_target 0) 1) 0 = true ∧ get (put (entry 3) (F.PWR_D_STATE_target 0) 1) (F.PWR_D_STATE_target 0) = 1) ∧
    (regionPwr (leaves .fromDim 2) 0).exit = some (.fromDim, 2) ∧
    ((regionPwr granted 0).exit = some (.fromDim, 1) ∧ ramps granted (regionRamp 0) = true) ∧
    (regionPwr (leaves .fromOff 5) 0).exit = some (.fromOff, 5) ∧
    (let u := putAll s0 [(F.PWR_D_STATE_state 0, 0), (F.PWR_D_STATE_pads 0, 1)];
      Reaches u pf (R.PWR_D_PAD_RELEASE 0) true ∧ regionState u 0 = 0 ∧ getB u (F.PWR_D_STATE_pads 0) = true) ∧
    (getB (leaves .fromOff 3) (F.MEM_STATUS_hbm_ready 0) = false ∧ (regionPwr (leaves .fromOff 3) 0).exit = some (.fromOff, 3)) ∧
    getB (putB s0 (F.MEM_STATUS_hbm_ready 0) true) (F.MEM_STATUS_hbm_ready 0) = true := by simp only [Reaches]; decide +kernel
/-- A packet region that is awake. -/
def awake : State := put s0 (F.PWR_D_STATE_state 0) 0
theorem witness_FaultHandling :
    let lane := modLane (put locked (F.LNK_LANE_PWR_state 0) 1) 0 (fun x => { x with fltRetry := true })
    let u := fltRecord s0 F.FLT_EVENT_region_fault .crimson 0 2 0 0
    let v := fltRecord (modFlt s0 0 (fun f => { f with step := 1 })) F.FLT_EVENT_region_fault .crimson 0 2 0 0
    (getB u F.GLB_SAFE_safe = false ∧ inFault u 0 = false) ∧ inFault v 0 = true ∧ (getB s0 F.GLB_SAFE_safe = false ∧ inFault s0 5 = false) ∧
    ((laneSt lane 0).fltRetry = true ∧ chanReady lane 0 = false) ∧
    (let w := put lane (F.LNK_LANE_PWR_state 0) (laneGoal lane 0); (laneSt w 0).fltRetry = true ∧ chanReady w 0 = true) ∧
    (regionStopped awake 0 = false ∧ hangWork s0 4 0x10 = true ∧ hangWork s0 0 0x21 = false) := by decide +kernel
theorem witness_RegionReset :
    let f (g : FltRegion → FltRegion) := modFlt s0 0 g
    let auto := put (f (fun x => { x with step := 1 })) F.FLT_CTRL_auto_reset 63
    let often := put (modFlt auto 0 (fun x => { x with resets := [0] })) F.FLT_CTRL_reset_limit 1
    getB s0 F.GLB_SAFE_safe = false ∧ inFault s0 5 = false ∧
    (fltRegion (f (fun x => { x with step := 1, manual := true })) 0).manual = true ∧
    (let u := put (f (fun x => { x with step := 1 })) F.FLT_CTRL_auto_reset 0; (fltRegion u 0).step = 1 ∧ (fltRegion u 0).manual = false ∧
      bit (get u F.FLT_CTRL_auto_reset) 0 = false) ∧
    (bit (get auto F.FLT_CTRL_auto_reset) 0 = true ∧ (recentResets auto 0).length < max 1 (get auto F.FLT_CTRL_reset_limit)) ∧
    max 1 (get often F.FLT_CTRL_reset_limit) ≤ (recentResets often 0).length ∧
    (let u := f (fun x => { x with step := 2, overLimit := true }); (fltRegion u 0).step = 2 ∧ (fltRegion (f2Work u 0) 0).overLimit = true) ∧
    (let u := f (fun x => { x with step := 2 }); (fltRegion u 0).step = 2 ∧ (fltRegion (f2Work u 0) 0).overLimit = false) ∧
    (fltRegion s0 0).step = 0 ∧
    (let u := f (fun x => { x with held := true }); Reaches u pf (R.FLT_R_CTRL 0) true ∧ isP1 pf = true ∧ (fltRegion u 0).held = true) ∧
    (Reaches s0 pf (R.FLT_R_CTRL 5) true ∧ (fltRegion s0 5).held = false) := by simp only [Reaches]; decide +kernel
/-- A record of the log. -/
def rcd : Rec := { seq := 3, opTime := 0, cycles := 0, sev := .grey, jet := false, ltValid := false, fn := 0, cw := 0, code := 0x0522, region := 6, block := 5,
                   cell := 0, suppressed := 0, arg0 := 0, arg1 := 0, arg2 := 0, arg3 := 0, raw := 0, flushed := false }
theorem witness_EventRecorder :
    let win (l : List Rec) := modWin (modEvr s0 (fun e => { e with log := l })) pf (fun x => { x with cursor := 2, busy := true })
    (getB s0 F.EVR_STATUS_store = false ∧ s0.evr.closed = false) ∧ getB (putB s0 F.EVR_STATUS_store true) F.EVR_STATUS_store = true ∧
    (Reaches s0 pf R.EVR_CTRL true ∧ Reaches s0 pf R.EVR_CURSOR true ∧ Reaches s0 pf R.EVR_RL_CFG true) ∧
    ((logWin (win []) pf).busy = true ∧ recordsFrom (win []) (logWin (win []) pf).cursor 64 = []) ∧
    (recordsFrom (win [rcd]) (logWin (win [rcd]) pf).cursor 64).length = 1 ∧
    (modEvr s0 (fun e => { e with closed := true })).evr.closed = true ∧ s0.evr.jet.length < 16 ∧ ((s0.evr.log.filter (fun x => !x.flushed)).length < 65536 ∧ s0.evr.log.length < 262144) ∧
    rcd.sev ≠ .black ∧ { rcd with sev := .black }.sev = .black := by simp only [Reaches]; decide +kernel
theorem filter_all {α : Type} (p : α → Bool) (a : α) (h : p a = true) (n : Nat) : (List.replicate n a).filter p = List.replicate n a := by
  simp [h]
theorem witness_EventRecorder_full : 65536 ≤ ((modEvr s0 (fun e => { e with log := List.replicate 65536 rcd })).evr.log.filter (fun x => !x.flushed)).length :=
  le_of_eq (Eq.symm (Eq.trans (congrArg List.length (filter_all (fun x : Rec => !x.flushed) rcd rfl 65536)) List.length_replicate))
theorem witness_LogClear :
    let e (f : Evr → Evr) := modEvr s0 f
    (Reaches s0 pf R.EVR_CLR_CTRL true ∧ isP1 pf = true ∧ (e (fun x => { x with locked := true })).evr.locked = true) ∧
    (let u := { put s0 F.EVR_SEQ_NEXT_seq 1 with wrd := { s0.wrd with down := false } };
      u.evr.locked = false ∧ u.wrd.down = false ∧ seqAfter (get u F.EVR_SEQ_NEXT_seq) (get u F.EVR_CLR_UPTO_seq) = true) ∧
    (let u := { s0 with bank := { s0.bank with windows := [(0, { resetWindow with req := 0xFFFFFF })] } };
      Reaches u (.fn 1) R.EVR_CLR_CTRL true ∧ isP1 (.fn 1) = false) ∧
    (let u := { e (fun x => { x with verifying := true, nonceAt := some 0 }) with clk := { s0.clk with ticks := usTicks 10000000 } };
      u.evr.verifying = true ∧ u.evr.nonceAt = some 0 ∧ u.clk.ticks - 0 ≤ usTicks 10000000) ∧
    (Reaches s0 pf (ctrLive 191).addr true ∧ getB s0 (ctrEn 191) = false) ∧
    (let u := putB awake (ctrEn 0) true; Reaches u pf (ctrLive 0).addr true ∧ getB u (ctrEn 0) = true) ∧
    Reaches s0 pf R.PMON_CTRL true := by simp only [Reaches]; decide +kernel
theorem witness_Console :
    let en := putB s0 F.GLB_CON_CTRL_ctl_en true
    nth (modEvr s0 (fun e => { e with jet := [rcd] })).evr.jet 0 = some rcd ∧ nth s0.evr.jet 15 = none ∧ 15 < (16 : BitVec 8).toNat ∧
    getB s0 F.GLB_CON_CTRL_ctl_en = false ∧ getB en F.GLB_CON_CTRL_ctl_en = true ∧
    (getB en F.GLB_SAFE_safe = false ∧ (fltRegion en 5).step = 0 ∧ inFault en 5 = false ∧
      (fltRegion (emit (inc en F.GLB_CON_COUNT_cmds) (.console (conFrame 0 []))) 4).held = false) ∧ en.pwr.thermalHold = false := by decide +kernel
/-- "123456789" and its CRC-32C, 0xE3069283 (the check value of the CRC-32C), least significant byte first. -/
def uartFrame : List Byte := [0x7E, 0x31, 0x32, 0x33, 0x34, 0x35, 0x36, 0x37, 0x38, 0x39, 0x83, 0x92, 0x06, 0xE3, 0x7E]
theorem witness_ManagementPorts :
    let busy := putB s0 (F.GLB_I2C_RESULT_busy 3) true
    let en := putB s0 (F.GLB_I2C_CTRL_en 0) true
    let spi := put s0 F.MCH_CTRL_sink 2
    (Reaches busy pf (R.GLB_I2C_CMD 3) true ∧ getB busy (F.GLB_I2C_RESULT_busy 3) = true) ∧
    (Reaches en pf (R.GLB_I2C_CMD 0) true ∧ getB en (F.GLB_I2C_RESULT_busy 0) = false ∧ getB en (F.GLB_I2C_CTRL_en 0) = true ∧
      bit (0x80000000 : Word).toNat 31 = true ∧ bit (0x7FFFFFFF : Word).toNat 31 = false) ∧
    { s0.pins with laserEn := false }.laserEn = false ∧ { s0.pins with laserEn := true }.laserEn = true ∧
    get (put s0 F.MCH_CTRL_sink 1) F.MCH_CTRL_sink = 1 ∧ get spi F.MCH_CTRL_sink = 2 ∧
    uartMessage [0x7E, 0x7D, 0x7E] = none ∧ uartMessage uartFrame = some ((uartFrame.drop 1).take 9) ∧
    ([1, 2] : List Byte).length ≤ 4096 ∧ txBytes spi + 2 ≤ 65536 ∧ spiHead spi = [] ∧
    spiHead (modMch spi (fun x => { x with rxBuf := [(none, [1, 2])] })) = [1, 2] := by simp only [Reaches]; decide +kernel
theorem witness_TimeDomains :
    let set_ := put s0 (F.TSU_D_STATE_state 2) 2
    (Reaches set_ pf (R.TSU_D_RATE 2) true ∧ domState set_ 2 ≠ 0) ∧ (Reaches s0 pf (R.TSU_D_RATE 0) true ∧ domState s0 0 = 0) ∧
    (Reaches s0 pf (R.TSU_D_STEP 0) true ∧ Reaches set_ pf (R.TSU_D_STEP 2) true) ∧ Reaches s0 pf (R.TSU_D_SET_NS 2) true ∧
    domState set_ 2 = 2 ∧ Reaches s0 pf R.TSU_CONV_IN true ∧ Reaches s0 pf R.TSU_LATCH true := by simp only [Reaches]; decide +kernel
theorem witness_TimePins :
    let runs (k : Nat) := putAll s0 [(F.TSU_D_STATE_state 0, 2), (F.TSU_PPS_CFG_en k, 1), (F.TSU_PPS_CFG_dom k, 0)]
    let served := { s0 with tsu := { s0.tsu with served := [⟨0, 0, 5, 0, false⟩] } }
    let due := { putB s0 F.TSU_CTRL_tod_en true with tsu := { s0.tsu with pps0 := some 7 } }
    served.tsu.served = [⟨0, 0, 5, 0, false⟩] ∧ Reaches s0 pf R.TSU_CTRL true ∧ s0.tsu.served = [] ∧ ppsRuns s0 0 = false ∧
    ppsRuns (runs 0) 0 = true ∧ ppsRuns (runs 1) 1 = true ∧ get s0 F.TSU_CTRL_local_src ≠ 1 ∧
    (due.tsu.pps0 = some 7 ∧ getB due F.TSU_CTRL_tod_en = true) ∧ s0.tsu.pps0 = none := by simp only [Reaches]; decide +kernel
/-- The warden runs, and the PF holds P0. -/
def wup : State := { p0 with wrd := { s0.wrd with down := false } }
theorem witness_WardenCommands :
    let busy := putB wup F.WRD_RESULT_busy true
    let rev := put wup F.WRD_KEYS_revoked 8
    let unl := { wup with cal := { s0.cal with unlocked := true } }
    let plain (u : State) (op : Nat) := put u F.WRD_CMD_op op
    Reaches wup pf R.WRD_CMD true ∧ getB (putB (put busy F.WRD_CMD_op 5) F.WRD_CMD_slot true) F.WRD_RESULT_busy = true ∧
    (getB (plain wup 1) F.WRD_RESULT_busy = false ∧ wup.wrd.down = false ∧ isP1 pf = true ∧ isP0 (plain wup 2) pf = true) ∧
    isP0 (plain (dropP0 wup) 2) pf = false ∧
    (bit (get (plain rev 3) F.WRD_KEYS_revoked) 3 = true ∧ bit (get (plain wup 3) F.WRD_KEYS_revoked) 0 = false ∧
      bit (get (plain wup 3) F.WRD_KEYS_valid) 0 = false) ∧
    get (plain wup 6) F.WRD_LEN_len = get (plain wup 6) F.ACT_LSI_lsi % 2 ^ 24 ∧
    get (plain (put wup F.WRD_LEN_len 1) 6) F.WRD_LEN_len ≠ get (plain wup 6) F.ACT_LSI_lsi % 2 ^ 24 ∧
    wup.cal.unlocked = false ∧ unl.cal.unlocked = true := by simp only [Reaches]; decide +kernel
theorem witness_WardenWorkEnds :
    let j (k : WrdJob) := modWrd s0 (fun w => { w with job := some k })
    (j (.policy true [1])).wrd.job = some (.policy true [1]) ∧ (j (.warden false [])).wrd.job = some (.warden false []) ∧
    (j (.cal [2])).wrd.job = some (.cal [2]) ∧ s0.wrd.job = none ∧ s0.cal.unlocked = false ∧ s0.wrd.down = true ∧ wup.wrd.down = false ∧
    s0.wrd.waiting = none ∧
    (let f : FwSlot := ⟨[], 3, 1, true⟩
     let u := putWrdSlot { wup with cal := { s0.cal with unlocked := true } } (getB wup F.WRD_STATUS_wslot) (some f)
     wardenTrial u = some f ∧ getB u F.CPL_STATUS_trial = false ∧ Reaches u pf R.CPL_CTRL true ∧ u.cal.unlocked = true) := by
  simp only [Reaches]; decide +kernel
/-- The policy cluster in state `k`. -/
def cpl (k : Nat) : State := put wup F.CPL_STATUS_state k
theorem witness_PolicyCluster :
    let f : FwSlot := ⟨[], 3, 1, true⟩
    let t := putPolSlot (putB (cpl 2) F.CPL_STATUS_trial true) false (some f)
    let w (m : Nat) := modCpl (put (cpl 2) F.CPL_WDT_core_mask 255) (fun x => { x with kicked := m })
    (Reaches (cpl 1) pf R.CPL_CTRL true ∧ cplState (cpl 1) ≠ 4 ∧ cplState (cpl 1) = 1) ∧ cplState (cpl 4) = 4 ∧ isP1 (.fn 1) = false ∧
    (Reaches t pf R.CPL_CTRL true ∧ cplState t = 2 ∧ getB t F.CPL_STATUS_trial = true ∧ polSlot t (getB t F.CPL_STATUS_slot) = some f ∧ wardenTrial t = none) ∧
    (getB (cpl 2) F.CPL_STATUS_trial = false ∧ wardenTrial (cpl 2) = none) ∧ (cplState (cpl 1) = 1 ∧ (cpl 1).wrd.down = false ∧ polSlot (cpl 1) false = none) ∧
    Reaches (cpl 2) pf R.CPL_WDT_KICK true ∧
    (bit (get (w 128) F.CPL_WDT_core_mask) 7 = true ∧ bit (w 128).cpl.kicked 7 = true ∧ bit (w 128).cpl.kicked 0 = false) ∧ cplState (cpl 3) ≠ 2 := by
  simp only [Reaches]; decide +kernel
def zeros (n : Nat) : List Byte := List.replicate n 0
/-- A list of 2ᵏ bytes by doubling. -/
def blank (k : Nat) : List Byte := match k with
  | 0 => [0]
  | k + 1 => blank k ++ blank k
theorem blank_length (k : Nat) : (blank k).length = 2 ^ k := by
  induction k with
  | zero => rfl
  | succ k ih => simp [blank, ih]; omega
/-- Region 0 is ON with its memories ready. -/
def ready : State := putB awake (F.MEM_STATUS_hbm_ready 0) true
/-- A frame waits for region 0; one of 8 MiB leaves no room in the holding area. -/
def holding (b : List Byte) : State := { ready with pth := { s0.pth with hold := [(0, .line { bytes := b, ing := {}, src := 1 } false)] } }
theorem linkBytes_holding (b : List Byte) : linkBytes (holding b) 0 = b.length := by
  have h0 : (pkt (holding b) 0).prs.inq = [] := rfl
  have h1 : (pkt (holding b) 1).prs.inq = [] := rfl
  have hh : (holding b).pth.hold = [(0, .line { bytes := b, ing := {}, src := 1 } false)] := rfl
  simp [linkBytes, h0, h1, hh, LinkItem.size]
theorem witness_MailboxAndInjection_full : linkClosed (holding (blank 23)) 0 = false ∧
    8 * 2 ^ 20 < linkBytes (holding (blank 23)) 0 + (LinkItem.line { bytes := [0], ing := {}, src := 2 } false).size := by
  refine ⟨by decide +kernel, ?_⟩
  rw [linkBytes_holding, blank_length]; decide
theorem witness_MailboxAndInjection :
    let mb (v : Nat) := put (cpl 2) (F.CPL_MBX_STATE_state 63) v
    let ring := put (putAll awake [(F.CPL_STATUS_state, 2), (F.MEM_STATUS_hbm_ready 0, 1)]) (F.CPL_INJ_HEAD_index 0) 1
    let desc : List Byte := [0, 0, 0, 0, 14, 0, 128, 0, 0, 0, 0, 0, 0, 0, 0, 0]
    let w := firmwareWrite (firmwareWrite ring (le desc 0 4) []) 0xEC0000 (desc.take 16)
    let d := sramRead w 0xEC0000 16
    (Reaches (mb 0) pf R.CPL_MBX_POST true ∧ mbxAllowed (mb 0) pf 63 = true ∧ mbxState (mb 0) 63 = 0) ∧
    (Reaches (mb 3) pf R.CPL_MBX_ACK true ∧ mbxAllowed (mb 3) pf 63 = true ∧ mbxState (mb 3) 63 = 3) ∧
    (cplState (mb 1) = 2 ∧ mbxState (mb 1) 63 = 1) ∧ mbxState (mb 2) 63 = 2 ∧ cplState (cpl 0) ≠ 2 ∧
    (cplState ring = 2 ∧ get ring (F.CPL_INJ_TAIL_index 0) = 0 ∧ get w (F.CPL_INJ_HEAD_index 0) ≠ 0 ∧ bit (le d 6 1) 7 = true ∧ regionClosed w 0 = false ∧
      14 ≤ le d 4 2 ∧ le d 4 2 ≤ 16384 ∧ le d 0 4 + le d 4 2 ≤ 0xEC0000) ∧
    (let x : LinkItem := .line { bytes := zeros 14, ing := {}, src := 2 } false
     let big : QFrame := { bid := 0, len := 0 }
     linkClosed s0 0 = true ∧ linkClosed ready 0 = false ∧ isolated ready 5 = false ∧ isolated (modFlt ready 5 (fun f => { f with step := 1 })) 5 = true ∧ linkBytes ready 0 + x.size ≤ 8 * 2 ^ 20 ∧
      (LinkItem.cross 0 0 big []).size ≤ 8 * 2 ^ 20 ∧ regionEntering ready 0 = false ∧
      linkClosed (putAll ready [(F.PWR_D_STATE_busy 0, 1), (F.PWR_D_STATE_step 0, 1)]) 0 = false ∧
      regionEntering (putAll ready [(F.PWR_D_STATE_busy 0, 1), (F.PWR_D_STATE_step 0, 1)]) 0 = true) := by simp only [Reaches]; decide +kernel
/-- Transmit ring 0 of the PF, with one descriptor, into a region that is ON. -/
def ring : State := putAll awake [(F.HIF_TX_CFG_en 0, 1), (F.ACW_TX_OWNER_fn 0, 0), (F.ACW_RX_OWNER_fn 0, 0), (F.HIF_TX_TAIL_index 0, 1), (F.MEM_STATUS_hbm_ready 0, 1)]
def linked : State := { ring with pins := { s0.pins with perstN := true } }
theorem witness_HostRings :
    let d (n : Nat) : TxDesc := ⟨0, n, List.replicate n 0, false⟩
    let fl : TxFlight := ⟨63, 65535, 0, false, false, 0⟩
    let h : RxHold := ⟨0, 7, 0, 9, 0⟩
    txReady s0 0 = false ∧ txReady linked 0 = true ∧ mgtRing linked 0 = false ∧
    (let u := putAll linked [(F.MCH_CTRL_sink, 3), (F.MCH_CTRL_ring, 0)]; txReady u 0 = true ∧ mgtRing u 0 = true) ∧
    txRefuse linked 0 ⟨0, 60, [], true⟩ = some 0x7A ∧ txRefuse linked 0 (d 16385) = some 0x79 ∧ txRefuse (putB linked (F.HIF_TX_CFG_pad_en 0) false) 0 (d 59) = some 0x78 ∧
    txRefuse linked 0 (d 60) = none ∧ txRefuse linked 0 (d 16384) = none ∧
    (modHif s0 (fun x => { x with inFlight := [fl] })).hif.inFlight.find?
      (fun f => decide (f.ring = 63) && decide (f.idx = 65535) && !f.done && !f.dead) = some fl ∧ s0.hif.inFlight = [] ∧
    (cutOff ring (.fn 1) = false ∧ isP0 ring (.fn 1) = false ∧ reqNum (.fn 1) ≠ rxOwner ring 0) ∧
    (Reaches ring pf R.HIF_RX_REL true ∧ reqNum pf = rxOwner ring 0 ∧ inFlr ring (rxOwner ring 0) = false) ∧
    (modHif ring (fun x => { x with held := [h] })).hif.held.find? (fun x => decide (x.ring = 0) && decide (x.idx = 7)) = some h ∧
    (let u := modHif (put ring (F.HIF_RX_CFG_coal_us 0) 1) (fun x => { x with coal := [(64, 1)] });
      Tab.getD u.hif.coal 64 0 ≠ 0 ∧ get u (F.HIF_RX_CFG_coal_us 0) ≠ 0) ∧
    (Reaches ring pf (R.HIF_TX_CFG 0) true ∧ reqNum pf = txOwner ring 0 ∧ inFlr ring (txOwner ring 0) = false) ∧
    Reaches ring pf (R.HIF_RX_CFG 0) true := by simp only [Reaches]; decide +kernel
/-- The ring's owner in BPM has cells. -/
def owned : State := { linked with bank := { s0.bank with owners := [(get linked (F.HIF_TX_CFG_owner 0), { en := true, cap := [100, 0, 0] })] } }
theorem witness_HostRings_alloc : txReady owned 0 = true ∧
    (alloc owned 0 (get owned (F.HIF_TX_CFG_owner 0)) none (zeros 60)).2.toOption = some 0 := ⟨by decide +kernel, by rfl⟩
theorem witness_HostRings_refused :
    (match (alloc linked 0 (get linked (F.HIF_TX_CFG_owner 0)) none (zeros 60)).2 with | .error _ => true | .ok _ => false) = true := by rfl
theorem witness_HostLevelZero :
    let ver (n : Option Nat) := modHif wup (fun h => { h with verifying := true, nonceAt := n })
    Reaches wup pf R.HIF_P0_CTRL true ∧ (modHif wup (fun h => { h with locked := true })).hif.locked = true ∧ wup.hif.locked = false ∧
    wup.wrd.down = false ∧ wup.hif.verifying = false ∧ (ver none).hif.verifying = true ∧ (ver none).hif.nonceAt = none ∧
    (ver (some 0)).hif.nonceAt = some 0 ∧ (ver (some 0)).clk.ticks - 0 ≤ usTicks 10000000 := by simp only [Reaches]; decide +kernel
theorem witness_PfLosesP0 : Reaches wup pf R.HIF_P0_CTRL true ∧ wup.wrd.down = false ∧ isP0 wup pf = true ∧ (∃ t, Machine.exec (.p0Drop pf) wup = .next t) :=
  ⟨by simp only [Reaches]; decide +kernel, rfl, by decide +kernel, _, rfl⟩
/-- A message of the hub: destination, type, body. -/
def lcm (dest typ : Nat) (b : List Byte) : List Byte := beBytes 2 dest ++ beBytes 1 typ ++ beBytes 1 b.length ++ b
/-- Path A in activation state `st` with TID 5, and with a message waiting. -/
def inState (st : Nat) : State := { putAll locked [(F.ACT_STATE_state 0, st), (F.ACT_TID_tid 0, 5), (F.ACT_CTRL_enable 0, 1)] with wrd := { s0.wrd with down := false } }
def got (st dest typ : Nat) (b : List Byte) : State := modAct (inState st) .a (fun a => { a with inbox := [lcm dest typ b] })
def takes (st dest typ : Nat) (b : List Byte) : Bool :=
  let s := got st dest typ b
  decide (be (lcm dest typ b) 2 1 = typ) && lcmDestOk typ (be (lcm dest typ b) 0 2) (tidOf s .a) (actState s .a) && lcmLsiOk s typ b &&
  decide (sub (lcm dest typ b) 4 (be (lcm dest typ b) 3 1) = b)
/-- Container 0 has a port for its rate. -/
def ported (s : State) : State :=
  { putAll s [(F.CMC_PORT_CFG_width 0 0, 1), (F.CMC_PORT_CFG_mode 0 0, 1)] with bank := { s.bank with downPort := [(0, 0)] } }
theorem witness_ActivationMessages :
    (act (got 4 5 0x0C (zeros 11)) .a).inbox = [lcm 5 0x0C (zeros 11)] ∧ be (lcm 5 0x0C (zeros 11)) 2 1 ≠ 0x05 ∧
    lcmDestOk 0x0C 6 (tidOf (got 4 6 0x0C []) .a) 4 = false ∧ ((act (ported (got 4 5 0x0C [0, 64, 0, 40, 0])) .a).inbox = [lcm 5 0x0C [0, 64, 0, 40, 0]] ∧
      tidOf (ported (got 4 5 0x0C [0, 64, 0, 40, 0])) .a = 5 ∧ takes 4 5 0x0C [0, 64, 0, 40, 0] = true ∧ tribKnown (tribReason (ported (got 4 5 0x0C [0, 64, 0, 40, 0])) .a) [0, 64, 0, 40, 0] = false) ∧
    (takes 1 0xFFFF 0x01 (zeros 20) = true ∧ preambleOk (zeros 20) = true ∧ actState (inState 1) .a = 1 ∧ getB (inState 1) (F.ACT_CTRL_enable 0) = true) ∧
    takes 1 0xFFFF 0x02 (zeros 12) = true ∧
    (takes 2 0xFFFE 0x03 (zeros 12) = true ∧ homeInUse (inState 2) .a = 0) ∧ discoveryLen ≤ be [0, 0, 0, 0, 0, 0, 0, 0, 0, 255, 255] 9 2 ∧
    (takes 2 0xFFFE 0x04 (zeros 9 ++ [1, 0, 0, 0]) = true ∧ be (zeros 9 ++ [1, 0, 0, 0]) 8 2 = 1 ∧ chanAt 12 (zeros 13) = true) ∧
    (takes 3 5 0x05 (zeros 11) = true ∧ takes 3 5 0x06 (zeros 5) = true ∧ takes 4 5 0x0B (zeros 7) = true ∧ chanAt 0 (zeros 5) = true) ∧
    680000000 < be [0, 255, 255, 255, 255] 1 4 ∧ be [0, 0x28, 0x87, 0xF8, 0x00] 1 4 ≤ 680000000 ∧
    (takes 4 5 0x0C (zeros 11) = true ∧ tribKnown (tribReason (inState 4) .a) (zeros 11) = true ∧ tribReason (inState 4) .a 0 0 0 0 ≠ 0) ∧
    (takes 4 5 0x0C [0, 0, 0, 0, 0xFF] = true ∧ tribKnown (tribReason (inState 4) .a) [0, 0, 0, 0, 0xFF] = true ∧ tribReason (inState 4) .a 0 0 0 0xFF = 0) ∧
    (takes 4 5 0x0D (zeros 8) = true ∧ takes 4 5 0x0E (zeros 8) = true ∧ takes 5 0xFFFF 0x0F (zeros 8) = true) ∧
    (takes 6 5 0x10 (zeros 8) = true ∧ pathLocked (inState 6) .a = true) := by decide +kernel
theorem witness_ActivationMessages_range :
    43520 * be (zeros 11) 9 2 < eqdAt (applyEqds (inState 3) .a) .a 0 0 + 43520 * rangingLen - 16 + 13600 ∧
    eqdAt (applyEqds (inState 3) .a) .a 0 0 + 43520 * rangingLen - 16 + 13600 ≤ 43520 * be (zeros 9 ++ [255, 255]) 9 2 := by decide +kernel
theorem witness_ActivationTimers :
    let t3 := inState 3
    let frag (f : Option FragAsm) := modAct t3 .a (fun a => { a with frag := f })
    let asked := modAct t3 .a (fun a => { a with challenge := some [1] })
    (takes 3 5 0x07 [] = true ∧ t3.wrd.down = false ∧ actState t3 .a = 3) ∧ s0.wrd.down = true ∧ (takes 3 5 0x08 ([0, 1] ++ zeros 54) = true ∧ t3.wrd.down = false ∧ (act t3 .a).frag = none) ∧
    (takes 3 5 0x08 ([0, 20] ++ zeros 54) = true ∧ ([0, 20] ++ zeros 54 : List Byte).length = 56) ∧ (act t3 .a).challenge = none ∧
    ((act asked .a).challenge = some [1] ∧ (act asked .a).response = none ∧ actState asked .a = 3) ∧
    (takes 3 5 0x09 (zeros 16) = true ∧ (act t3 .a).derived = none) ∧
    (let u := modAct t3 .a (fun a => { a with derived := some (zeros 80) }); (act u .a).derived = some (zeros 80) ∧
      slotGen u (rootSlot u .a false) ≠ 0xFFFFFFFF ∧ slotGen u (rootSlot u .a true) ≠ 0xFFFFFFFF) ∧ takes 3 5 0x0A [] = true ∧
    (let u := modAct (inState 2) .a (fun a => { a with announces := [4, 9] }); (act u .a).announces = 4 :: [9] ∧ actState u .a = 2) ∧
    (act (modAct t3 .a (fun a => { a with pendHome := some (63, 9) })) .a).pendHome = some (63, 9) ∧ (act t3 .a).pendHome = none ∧
    (act (modAct t3 .a (fun a => { a with pendTrib := [⟨31, none, 9⟩] })) .a).pendTrib.find? (fun p => decide (p.t = 31)) = some ⟨31, none, 9⟩ ∧
    ReachesP0 p0 pf (R.ACT_HOLD 0) ∧ (act (frag (some ⟨2, []⟩)) .a).frag.isSome = true ∧ actState t3 .a = 3 ∧ actState (inState 6) .a = 6 ∧
    (let u := putAll (inState 4) [(F.DFR_CH_STATUS_los 0, 1), (F.DFR_CH_STATUS_mf_lock 1, 1), (F.LNK_LANE_PWR_state 1, 0)];
      actState u .a = 4 ∧ hardDefect u (laneOf .a (homeInUse u .a)) = true ∧ fallbackChan u .a = some 1) ∧
    (let u := putAll s0 [(F.ACT_CTRL_skew_en 0, 0), (F.ACT_CTRL_skew_en 1, 0)]; getB u (F.ACT_CTRL_skew_en 0) = false ∧ getB u (F.ACT_CTRL_skew_en 1) = false) ∧
    (actState (inState 4) .a = 4 ∧ getB (inState 4) (F.ACT_CTRL_skew_en 0) = true ∧ skewDue (inState 4) .a (sat32 (pathSkew (inState 4))) = true ∧
      actState (inState 4) .b ≠ 4) := by simp only [Reaches, ReachesP0]; decide +kernel
theorem witness_ProtectionSwitching :
    let n := putAll (inState 4) [(F.UPB_AID_CFG_valid 9, 1), (F.UPB_AID_CFG_aid 9, 7), (F.UPB_AID_CFG_paths 9, 3)]
    let rep := putAll n [(F.PTH_AID_MODE_mode 9, 2), (F.PTH_AID_NEXT_mseq 9, 5)]
    let nm := modBanks n 4 (fun b => b)
    let ps (v : Nat) := putAll locked [(F.PTH_STATUS_state, v), (F.ACT_STATE_state 0, 4), (F.ACT_STATE_state 1, 4)]
    let g : UpSeg := { aid := 9, sid := 1, frag := 0, mseq := some 1, bseq := none, enc := false, payload := [], region := 0, handle := 0, at_ := 0, ing := {} }
    let c : Ctx := { path := .a, idx := 3, sid := 77, bytes := [], fn := 0, mseq := none, count := 0, ptype := 0, raw := 0, mark := none }
    (takes 4 5 0x21 [0, 7, 0, 0, 0, 4] = true ∧ ([0, 7, 0, 0, 0, 4] : List Byte).length = 6 ∧ takes 4 5 0x22 (zeros 8) = true ∧ switchBody (zeros 8) = true) ∧
    (aidIndex (activeCfg n) .a 7 = some 9 ∧ aidMode n 9 ≠ 2) ∧ aidMode rep 9 = 2 ∧
    0 < seqDist 5 ((get rep (F.PTH_AID_NEXT_mseq 9) + 2 ^ 32 - 1) % 2 ^ 32) ∧ seqDist 4 ((get rep (F.PTH_AID_NEXT_mseq 9) + 2 ^ 32 - 1) % 2 ^ 32) ≤ 0 ∧
    0 < seqDist 4 ((aidProt rep 9).acked.getD (2 ^ 32 - 1)) ∧ s0.pth.hubOrder = none ∧
    ((modPth timed (fun p => { p with hubOrder := some ⟨.b, true, 4, 3⟩ })).pth.hubOrder = some ⟨.b, true, 4, 3⟩ ∧ ltValid timed = true) ∧
    (let u := putAll (ps 3) [(F.ACT_STATE_state 0, 0)];
      workingPath u = some .a ∧ psState u = psHold .a ∧ pthFail u .a ≠ 0 ∧ u.pth.want = none) ∧ workingPath s0 = none ∧
    (psState (ps 6) = 6 ∧ pthFail (ps 6) .a = 0) ∧ psState (ps 1) ≠ 6 ∧
    (Reaches (ps 1) pf R.PTH_CTRL true ∧ getB (ps 1) F.PTH_CTRL_lockout = false ∧ workingPath (ps 1) = some (otherPath .b)) ∧
    getB (putB (ps 1) F.PTH_CTRL_lockout true) F.PTH_CTRL_lockout = true ∧
    (aidProt (modAid nm 511 (fun y => { y with retained := [g] })) 511).retained = [g] ∧ (aidProt s0 0).retained = [] ∧
    (mergeGroup (modMerge s0 1023 (fun x => { x with held := [⟨5, 0, ⟨.a, 0, none, 1, some 5, 1, 0, [], 0⟩⟩] })) 1023).held ≠ [] ∧
    (mergeGroup s0 0).held = [] ∧ (bndGroup s0 .b 31).buf = [] ∧
    ({ s0 with dfr := { s0.dfr with ctxs := [c] } } : State).dfr.ctxs.find? (isCtx .a 3 77) = some c ∧
    ({ s0 with bnd := { s0.bnd with ctxs := [c] } } : State).bnd.ctxs.find? (isCtx .a 3 77) = some c := by simp only [Reaches]; decide +kernel
/-- A segment in clear, and the same encrypted. -/
def seg (enc : Bool) : Seg := { path := .a, chan := 63, fn := 100, offset := 0, cw := 0, sid := 9, frag := 0, enc := enc, keyIdx := 0, mseq := none, bseq := none, ptype := 0,
                                hdr := [], payload := [1], tag := [], raw := 0 }
def withSeg (enc : Bool) : State := { locked with dfr := { s0.dfr with out := [seg enc] } }
theorem witness_ProtectionSwitching_gap :
    (bndGroup (modGroup s0 .b 31 (fun x => { x with buf := [⟨3, 0, seg false⟩] })) .b 31).buf ≠ [] := by decide +kernel
theorem witness_LineCipher :
    let find (s : State) := s.dfr.out.find? (fun g => decide (g.path = .a) && decide (g.chan = 63))
    let after (s : State) (e : Bool) := monIn { s with dfr := { s.dfr with out := s.dfr.out.erase (seg e) } } 4 0x16 [(4, 64 * qn .a + 63)] (segBytes (seg e))
    let keyed := modLcy (putB { withSeg true with bank := { s0.bank with crypt := [(9, ⟨0, true, true⟩)] } } (F.LCY_CTX_STATE_valid 0 0 0) true)
      (fun l => { l with keys := [(0, zeros 32)] })
    let fly (x : Bool) := putB s0 (F.LCY_ENG_STATUS_retest_busy 127) x
    let next_ := putB locked (F.LCY_CTX_STATE_next_valid 0 1 3) true
    let req (f : Nat) := modLcy (setPathTime locked .a { pathTime locked .a with fn := 15635 }) (fun l => { l with reqFn := [(ctxKey .a true 3, f)] })
    find s0 = none ∧ find (withSeg true) = some (seg true) ∧ (seg true).lost = none ∧ (lcyDecide (after (withSeg true) true) (seg true) = .error 0x55) ∧
    (find (withSeg false) = some (seg false) ∧ lcyDecide (after (withSeg false) false) (seg false) = .ok (none, false)) ∧
    (find keyed = some (seg true) ∧ (lcyDecide (after keyed true) (seg true)).toOption.isSome = true) ∧ s0.lcy.deriving_ = [] ∧
    (modLcy s0 (fun l => { l with deriving_ := [⟨.a, true, 0, 0, 0, 0, 0⟩] })).lcy.deriving_ = [⟨.a, true, 0, 0, 0, 0, 0⟩] ∧
    Reaches s0 pf (R.LCY_ENG_CTRL 127) true ∧ getB (fly true) (F.LCY_ENG_STATUS_retest_busy 127) = true ∧
    engineFailed (putB (putB (fly true) (F.LCY_ENG_STATUS_retest_busy 127) false) (F.LCY_ENG_STATUS_failed 127) true) 127 = true ∧
    getB (fly false) (F.LCY_ENG_STATUS_retest_busy 127) = false ∧
    (takes 4 5 0x23 (zeros 8) = true ∧ rekeyBody (zeros 8) = true ∧ be (zeros 8) 2 6 < (pathTime (inState 4) .a).fn + 2) ∧
    (takes 4 5 0x23 [0, 3, 0, 0, 0, 0, 0, 9] = true ∧ (pathTime (inState 4) .a).fn + 2 ≤ 9 ∧ 9 ≤ (pathTime (inState 4) .a).fn + 15625) ∧
    getB s0 (F.LCY_CTX_STATE_next_valid 0 1 3) = false ∧ getB next_ (F.LCY_CTX_STATE_next_valid 0 1 3) = true ∧
    (Tab.find (req 10).lcy.reqFn (ctxKey .a true 3) = some 10 ∧ 10 + 15625 ≤ (pathTime (req 10) .a).fn) ∧ (pathTime (req 11) .a).fn < 11 + 15625 ∧
    (ReachesP0 p0 pf R.KST_CMD ∧ p0.wrd.down = true ∧ ReachesP0 wup pf R.KST_CMD ∧ slotIdle wup (get wup F.KST_SEL_slot) = true ∧ wup.wrd.down = false ∧
      wup.lcy.cmds = [] ∧ slotGen wup (get wup F.KST_SEL_slot) ≠ 0xFFFFFFFF) ∧
    (slotIdle (putB wup (F.KST_SLOT_STATUS_slot_idle 0) false) (get wup F.KST_SEL_slot) = false ∧ capturedKeys wup = []) ∧
    slotGen (put wup (F.KST_SLOT_GEN_gen 0) 0xFFFFFFFF) (get wup F.KST_SEL_slot) = 0xFFFFFFFF ∧ s0.lcy.waiting = [] := by
  simp only [Reaches, ReachesP0]; decide +kernel
/-- A frame with a good header for path A, channel 0. -/
def header : List Byte := [0, 0, 0, 0, 0, 9, 0, 0, 1, 0, 0] ++ zeros 21
def frame (err : Nat) : DsFrame := ⟨err, header ++ beBytes 4 (crc32c header), [], 0, [], [], [], [], [], 0⟩
theorem witness_LineTraffic :
    let lane (v : Nat) := modDfrLane (put lit (F.DFR_CH_STATUS_delin 0) v) 0 (fun d => { d with merged := true, miss := 1 })
    let mp := (0, 200, ([] : List (Option (List Nat))))
    let rem : Remainder := ⟨9, 0, 0, { bid := 0, len := 5 }, [], 4⟩
    (getB s0 F.GLB_SAFE_safe = false ∧ laneActive s0 127 = false) ∧ (getB safe F.GLB_SAFE_safe = true ∧ laneChan 1 ≠ 0) ∧
    (isolated (lane 0) 4 = false ∧ laneActive (lane 0) 0 = true ∧ (dfrLane (lane 0) 0).merged = true) ∧
    (get (lane 0) (F.DFR_CH_STATUS_delin 0) = 0 ∧ (frame 6).syncErr ≤ 6 ∧ hdrGood (frame 6) 0 = true) ∧ get (lane 1) (F.DFR_CH_STATUS_delin 0) = 1 ∧
    get (lane 2) (F.DFR_CH_STATUS_delin 0) = 2 ∧ 6 < (frame 7).syncErr ∧ 1 ≤ (dfrLane (lane 2) 0).miss ∧
    s0.upb.maps.find? (fun m => decide (m.1 = 0)) = none ∧
    ({ s0 with upb := { s0.upb with maps := [mp] } } : State).upb.maps.find? (fun m => decide (m.1 = 0)) = some mp ∧
    windowAt s0 0 0 = none ∧ earlyNote s0 .granted (fun k pos => decide (k = 0) && decide (pos % 5000 = 0)) = none ∧
    ({ s0 with upb := { s0.upb with rests := [rem] } } : State).upb.rests.find? (fun r => decide (r.idx = 9)) = some rem ∧ s0.upb.rests = [] ∧
    (takes 4 5 0x20 (zeros 11) = true ∧ tribKnown (upTribReason (inState 4) .a) (zeros 11) = true ∧ upTribReason (inState 4) .a 0 0 0 0 ≠ 0) ∧
    (takes 4 5 0x20 [0, 0, 0, 0, 0xFF] = true ∧ tribKnown (upTribReason (inState 4) .a) [0, 0, 0, 0, 0xFF] = true ∧ upTribReason (inState 4) .a 0 0 0 0xFF = 0) := by
  decide +kernel
/-- A window of lane 0, and a continuation behind it whose burst is on its way. -/
def first : Window := ⟨0, 101, 7, some 9, 0, 40, 0, false, false, false, false⟩
def follow : Window := { first with cont := true, start := 40 }
def sent : Burst := { burst with kind := .granted, pos := 505000, conts := [(40, 100, 25000)] }
/-- Path A in T4, the same with lane 0 ACTIVE and a preamble, and with what waits upstream. -/
def lane0 : State := putAll (inState 4) [(F.ACT_EQD_ranged 0 0, 1), (F.DFR_CH_STATUS_mf_lock 0, 1)]
def fills : State := putAll lane0 [(F.LNK_LANE_PWR_state 0, 0), (F.LNK_LANE_CTRL_tx_en 0, 1), (F.UPB_PRE_plen 0 0, 10)]
def waits (s : State) (ws : List Window) (bs : List Burst) : State := { s with upb := { s.upb with windows := ws, bursts := bs } }
/-- The state in which the fill of a window is decided, its reasons as a first window and as a continuation. -/
def fillState (s : State) (w : Window) : State :=
  let due := pathFrameDue (reach (fillBefore s w.lane (cwCount w.fn w.start)) (1 + qn (lanePath w.lane)) (cwCount w.fn w.start - 800)) (lanePath w.lane)
  let v0 := fillContsFirst due (windowGroup due w) (burstPlace due w) due.upb.windows.length
  { v0 with upb := { v0.upb with windows := v0.upb.windows.filter (fun x => decide (x ≠ w)) } }
def fillWhy (s : State) (w : Window) : Option Nat :=
  let v := fillState s w
  let conts := contChain v.upb.windows w v.upb.windows.length
  let at_ := launchAt v (lanePath w.lane) (laneChan w.lane) (cwCount w.fn w.start) (eqdAt v (lanePath w.lane) (laneChan w.lane) w.fn)
  unusedReason v w.lane w.fn .granted w.idx.isNone at_.1 at_.2 ((w :: conts).foldl (fun k x => k + x.len) 0)
def fillLater (s : State) (w : Window) : Option Nat := unusedReason (fillState s w) w.lane w.fn .granted w.idx.isNone 0 0 0
def fillOn (s : State) (w : Window) : Option Burst := (fillState s w).upb.bursts.find? (fun b =>
  decide (b.lane = w.lane) && decide (b.pos / 5000 = w.fn) && b.conts.any (fun c => decide (c.1 = w.start)))
theorem witness_LineTraffic_fill :
    let one := waits fills [first] []
    let flat := put one (F.UPB_PRE_plen 0 0) 0
    let both := waits fills [follow] [sent]
    let dark := put both (F.LNK_LANE_PWR_state 0) 4
    earlyNote one .granted (fun k pos => decide (k = 0) && decide (pos % 5000 = 0)) = none ∧ windowAt one 0 0 = some first ∧ first.cont = false ∧
    fillWhy one first = none ∧ actState (fillState one first) .a ≠ 3 ∧ get (fillState one first) (F.UPB_PRE_plen 0 0) ≠ 0 ∧
    (windowAt flat 0 0 = some first ∧ fillWhy flat first = none ∧ get (fillState flat first) (F.UPB_PRE_plen 0 0) = 0) ∧
    (fillWhy (waits lane0 [first] []) first).isSome = true ∧
    (follow.cont = true ∧ windowAt both 0 40 = some follow ∧ fillOn both follow = some sent ∧ fillLater both follow = none ∧
      sent.conts.find? (fun c => decide (c.1 = follow.start)) = some (40, 100, 25000)) ∧
    (fillOn dark follow = some sent ∧ (fillLater dark follow).isSome = true) ∧ fillOn (waits fills [follow] []) follow = none ∧
    (let noted := { one with upb := { one.upb with early := [(.granted, 0, 505000)] } };
      earlyNote noted .granted (fun k pos => decide (k = 0) && decide (pos % 5000 = 0)) = some (.granted, 0, 505000)) := by decide +kernel
/-- Container 31 stands on path A, channel 0. -/
def stands (s : State) : State := putAll s [(F.UPB_TRIB_CFG_valid 31, 1), (F.UPB_TRIB_CFG_path 31, 0), (F.UPB_TRIB_CFG_chan 31, 0)]
def standWhy (s : State) (t : Nat) : Option (Option Nat) := (nextStand s (standPath s t) t).map (fun (fn, cfg) =>
  let p := standPath s t
  let n := bits cfg 13 6
  let pos := cwCount fn (bits cfg 0 13)
  let v0 := pathFrameDue (reach (fillBefore s (laneOf p n) pos) (1 + qn p) (pos - 800)) p
  let v := { v0 with upb := { v0.upb with tribs := Tab.upd v0.upb.tribs t {} (fun y => { y with lastFn := some fn }) } }
  let at_ := launchAt v p n pos (eqdAt v p n fn)
  unusedReason v (laneOf p n) fn (.standing t) false at_.1 at_.2 (standLen v p cfg))
theorem witness_LineTraffic_stand :
    earlyNote s0 (.standing 31) (fun _ _ => true) = none ∧ nextStand s0 (standPath s0 31) 31 = none ∧
    earlyNote (stands fills) (.standing 31) (fun _ _ => true) = none ∧ standWhy (stands fills) 31 = some none ∧
    standWhy (stands (put lane0 (F.LNK_LANE_PWR_state 0) 4)) 31 = some (some 2) ∧
    earlyNote { fills with upb := { fills.upb with early := [(.standing 31, 0, 505000)] } } (.standing 31) (fun _ _ => true) =
      some (.standing 31, 0, 505000) := by decide +kernel
/-- Region 0 is ON with its memories ready; client port 0 has one lane, with link state `v`. -/
def port (v : Nat) : State := putAll ready [(F.CMC_PORT_CFG_width 0 0, 1), (F.CMC_LANE_EN_en 0, 1), (F.CMC_PORT_STATUS_link 0 0, v), (F.PWR_D_STATE_pads 0, 0)]
def clear (v : Nat) : State := putB (port v) (F.CMC_PORT_CFG_mode 0 0) true
theorem witness_ClientLinks :
    (isPort (port 0) 0 0 = true ∧ portLink (port 0) 0 0 = 0 ∧ lanesRun (port 0) 0 = true ∧
      (portLanes (port 0) 0 0).all (fun k => bit (get (port 0) (F.CMC_LANE_EN_en 0)) k) = true) ∧
    portLink (port 1) 0 0 = 1 ∧ portLink (port 2) 0 0 = 2 ∧ portLink (port 3) 0 0 = 3 ∧ portLink (port 4) 0 0 = 4 ∧
    isEth (port 3) 0 0 = true ∧ isTransparent (port 3) 0 0 = false ∧ ((1 : BitVec 24).toNat = 1 ∧ (2 : BitVec 24).toNat = 2 ∧ (3 : BitVec 24).toNat ≠ 1 ∧
      (3 : BitVec 24).toNat ≠ 2) ∧ (isEth (clear 3) 0 0 = false ∧ isTransparent (clear 3) 0 0 = true ∧ (portSt (clear 3) 0 0).osRx ≠ 0x200) ∧
    (portSt (modPort (clear 3) 0 0 (fun x => { x with osRx := 0x100 })) 0 0).osRx ≠ 0 ∧
    bit (get (put (port 3) (F.CMC_PORT_STATUS_peer_paused 0 0) 128) (F.CMC_PORT_STATUS_peer_paused 0 0)) 7 = true ∧
    bit (get (port 3) (F.CMC_PORT_STATUS_peer_paused 0 0)) 0 = false := by decide +kernel
/-- A client frame of 64 bytes with its FCS, and a MAC control frame. -/
def client : List Byte := let b := zeros 12 ++ [0x08, 0x00] ++ zeros 46; b ++ (beBytes 4 (fcs b)).reverse
def pause : List Byte := let b := zeros 12 ++ [0x88, 0x08] ++ zeros 46; b ++ (beBytes 4 (fcs b)).reverse
/-- A record header with its CRC-8 (R255). -/
def record (w : Nat) : List Byte := beBytes 7 w ++ beBytes 1 (crc8 (beBytes 7 w))
theorem witness_ClientFrames :
    let quiet := { port 3 with epc := { s0.epc with quiesced := { s0.epc.quiesced with lanes := 1 } } }
    let good (b : List Byte) : Bool := decide (beNat (b.drop (b.length - 4)).reverse = fcs (b.take (b.length - 4)))
    let tx (n : Nat) (s : State) := modPort s 0 0 (fun p => { p with tx := some ({ bid := 0, len := n }, zeros n) })
    (isEth (port 3) 0 0 = true ∧ portLink (port 3) 0 0 = 3 ∧ lanesRun (port 3) 0 = true ∧ portQuiesced (port 3) 0 0 = false) ∧
    portLink (port 2) 0 0 ≠ 3 ∧ portQuiesced quiet 0 0 = true ∧ client.length = 64 ∧ good client = true ∧ be client 12 2 ≠ 0x8808 ∧
    good pause = true ∧ be pause 12 2 = 0x8808 ∧ good (zeros 64) = false ∧ 64 ≤ get (port 3) (F.CMC_PORT_MAC_maxlen 0 0) ∧
    (portSt (port 3) 0 0).tx = none ∧ ((portSt (tx 60 (port 3)) 0 0).tx = some ({ bid := 0, len := 60 }, zeros 60) ∧ regionStopped (tx 60 (port 3)) 0 = false) ∧
    regionStopped (put (tx 60 (port 3)) (F.PWR_D_STATE_state 0) 2) 0 = true ∧ bit (port 3).epc.quiesced.regions 0 = false ∧
    getB (putB (port 3) (F.CMC_PORT_MAC_pad_en 0 0) false) (F.CMC_PORT_MAC_pad_en 0 0) = false ∧ (zeros 60).length + 4 ≤ get (port 3) (F.CMC_PORT_MAC_maxlen 0 0) ∧
    get (port 3) (F.CMC_PORT_MAC_maxlen 0 0) < (zeros 16384).length + 4 ∧
    (isTransparent (clear 3) 0 0 = true ∧ lanesRun (clear 3) 0 = true ∧ portQuiesced (clear 3) 0 0 = false) ∧ isTransparent (port 3) 0 0 = false ∧
    (isEth (clear 3) 0 0 = false ∧ portQuiesced { clear 3 with epc := { s0.epc with quiesced := { s0.epc.quiesced with lanes := 1 } } } 0 0 = true) ∧
    (let u := modPort (clear 3) 0 0 (fun p => { p with demap := (record (2 * 2 ^ 54 + 0x200)).map (fun x => (x, false)) });
      let h := (portSt u 0 0).demap.map (fun e => e.1);
      isTransparent u 0 0 = true ∧ hdrGood8 h = true ∧ recKind h = 2) ∧
    regionStopped (clear 3) 0 = false ∧ regionStopped (put (clear 3) (F.PWR_D_STATE_state 0) 2) 0 = true ∧ laneDrives (clear 3) 0 0 = true ∧
    laneDrives (putB (clear 3) (F.PWR_D_STATE_pads 0) true) 0 0 = false ∧
    (let h := record (2 ^ 54 + 2 * 2 ^ 39) ++ [1, 2]; hdrGood8 h = true ∧ recKind h = 1 ∧ recLen h = 2 ∧ h.length < 8 + recLen h + 8 ∧
      8 + recLen h + 8 ≤ (h ++ record 0).length) ∧
    (let h := record (3 * 2 ^ 54); hdrGood8 h = true ∧ recKind h ≠ 1 ∧ recKind h ≠ 2) ∧
    (let u := modPort (clear 3) 0 0 (fun p => { p with osRx := 0x200, osTx := 0x100 }); (portSt u 0 0).osRx ≠ 0 ∧ (portSt u 0 0).osTx ≠ 0 ∧
      isTransparent u 0 0 = true) ∧ (portSt (clear 3) 0 0).osTx = 0 ∧
    (portSt (clear 3) 0 0).demap.length < 8 := by decide +kernel
/-- Table 0 of region 0 is ternary with one slice, table 1 exact; the command names table `t` and index `i`. -/
def tbl (t i : Nat) : State := putAll awake [(F.PRS_TBL_CFG_en 0 0, 1), (F.PRS_TBL_CFG_size 0 0, 1), (F.PRS_TBL_CFG_kind 0 1, 1), (F.PRS_TA_ADDR_tbl 0, t), (F.PRS_TA_ADDR_index 0, i)]
def cmdOf (s : State) (op : Nat) (staged : Bool) : State := putB (put s (F.PRS_TA_CMD_op 0) op) (F.PRS_TA_CMD_bank 0) staged
theorem witness_TableAccess :
    let e : TernEnt := ⟨5, 7, 9⟩
    let held := { tbl 0 3 with bank := { s0.bank with tern := [(ternKey 0 0 3, e)] } }
    let x : ExSlot := { tbl := 1, key := 0, ind := some 4, och := some 4 }
    let ex := modPrs (tbl 1 0) 0 (fun p => { p with exact := [(6, x)] })
    Reaches (tbl 0 0) pf (R.PRS_TA_CMD 0) true ∧ taExact (cmdOf (tbl 1 0) 1 false) 0 = true ∧
    ternLen (cmdOf (tbl 0 1024) 1 false) 0 (taTbl (cmdOf (tbl 0 1024) 1 false) 0) ≤ taIdx (cmdOf (tbl 0 1024) 1 false) 0 ∧
    (taExact (cmdOf held 1 false) 0 = false ∧ taIdx (cmdOf held 1 false) 0 < ternLen (cmdOf held 1 false) 0 (taTbl (cmdOf held 1 false) 0) ∧
      Tab.find (taBank (cmdOf held 1 false) false).tern (ternKey 0 0 3) = some e) ∧
    Tab.find (taBank (cmdOf (tbl 0 1023) 1 false) false).tern (ternKey 0 0 1023) = none ∧
    taMayWrite (cmdOf (tbl 0 0) 2 true) true = false ∧ taMayWrite (cmdOf (tbl 0 0) 2 false) false = true ∧
    (taNum (cmdOf (tbl 0 0) 2 false) 0 0 16 < 2 ^ tableBits (cmdOf (tbl 0 0) 2 false) 0 0 ∧ taNum (cmdOf (tbl 0 0) 2 false) 0 16 16 < 2 ^ tableBits (cmdOf (tbl 0 0) 2 false) 0 0) ∧
    (lookup (cmdOf ex 3 false) 0 1 0 (taTag (cmdOf ex 3 false) false)).isSome = true ∧
    (lookup (cmdOf (tbl 1 0) 3 false) 0 1 0 (taTag (cmdOf (tbl 1 0) 3 false) false)).isSome = false ∧
    ternHit (taBank (cmdOf (tbl 0 0) 5 false) false) 0 0 (ternLen (cmdOf (tbl 0 0) 5 false) 0 0) 0 = none ∧
    (exactSlot (cmdOf ex 5 false) 0 1 0 = some (6, x) ∧ x.act (taTag (cmdOf ex 5 false) false) = some 4) ∧
    (let w := modPrs (tbl 0 0) 0 (fun x => { x with taWait := some 2 })
     let st := putAll (tbl 0 0) [(F.EPC_STATUS_state, 1), (F.EPC_STATUS_seeding, 1)]
     Reaches w pf (R.PRS_TA_CMD 0) true ∧ (pkt w 0).prs.taWait.isSome = true ∧ (pkt (tbl 0 0) 0).prs.taWait = none ∧
      Reaches st pf (R.PRS_TA_CMD 0) true ∧ taMayWrite (cmdOf st 2 true) true = true ∧ getB (cmdOf st 2 true) F.EPC_STATUS_seeding = true ∧
      getB (cmdOf (putB st F.EPC_STATUS_seeding false) 2 true) F.EPC_STATUS_seeding = false) ∧
    65535 < (65536 : Nat) ∧ taIdx (cmdOf (tbl 0 0) 6 false) 0 < 65536 := by simp only [Reaches]; decide +kernel
theorem witness_PacketServices :
    let root (k : Nat) : SNode := { parent := none, kind := k, level := 0, weighted := false, rank := 0, weight := 1, shaper := none, target := 0 }
    let tree (k : Nat) := { port 3 with bank := { s0.bank with nodes := [(5, root k)] } }
    let mt : Meter := ⟨{}, 0⟩
    let retry (x : Option (Nat × Nat)) : RetryReq := { since := 0, who := 1, queue := 0, frame := { bid := 0, len := 0 }, bytes := [], inject := x }
    let asks (x : Option (Nat × Nat)) := modBpm awake 0 (fun p => { p with retry := [retry x] })
    let y : Buf := { bytes := [1], owner := 3, charged := 3, cell := some 0, refPin := 1 }
    let h (z : Buf) (o : Nat) := modBpm (put awake (F.BPM_HOP_OWNER_owner 0) o) 0 (fun b => { b with bufs := [(0, z)] })
    let op (u : State) (c : Nat) := put u (F.BPM_HOP_CMD_op 0) c
    let unit (u : State) := handleUnit u 0 (get u (F.BPM_HOP_HANDLE_handle 0))
    (regionStopped (put s0 (F.PWR_D_STATE_state 0) 3) 0 = true ∧ regionStopped (modFlt awake 0 (fun f => { f with held := true })) 0 = true) ∧
    regionStopped awake 0 = false ∧ (nextPacket awake 0 0).2 = none ∧
    (nextPacket (modPrs awake 0 (fun x => { x with inq := [(0, [{ bytes := [], ing := {}, src := 0 }])] })) 0 0).2.isSome = true ∧
    (pkt s0 0).bpm.retry = [] ∧ (∀ x ∈ [none, some (4, 3)],
      (pkt (asks x) 0).bpm.retry = [retry x] ∧ cellsOf (retry x).bytes.length ≤ poolFree (asks x) 0 0 ∧ regionStopped (asks x) 0 = false) ∧
    (snode (tree 0) 0 5 = some (root 0) ∧ isEth (tree 0) 0 0 = true ∧ (portSt (tree 0) 0 0).tx = none ∧ portQuiesced (tree 0) 0 0 = false ∧
      regionStopped (tree 0) 0 = false) ∧
    (snode (tree 2) 0 5 = some (root 2) ∧ rxReady (tree 2) 0 = true ∧ regionStopped (tree 2) 0 = false) ∧ snode s0 0 0 = none ∧ meter s0 0 65535 = none ∧
    (meter (setMeter s0 0 131071 mt) 0 131071 = some mt ∧ mt.cfg = mtrCfg (setMeter s0 0 131071 mt) 0 131071) ∧
    ((pkt awake 0).tmg.queues = [] ∧ (pkt awake 0).bpm.bufs = []) ∧ nextPromotion s0 0 16383 = none ∧
    Reaches awake pf (R.BPM_HOP_CMD 0) true ∧ unit (op (put awake (F.BPM_HOP_HANDLE_handle 0) 1) 1) = none ∧ unit (op awake 1) = some (0, 0) ∧
    bufAt (op awake 1) 0 0 = none ∧ (bufAt (op (h y 3) 1) 0 0 = some (0, y) ∧ 1024 * 0 + y.owner = get (op (h y 3) 1) (F.BPM_HOP_OWNER_owner 0) ∧ y.refPin ≠ 0) ∧
    1024 * 0 + y.owner ≠ get (op (h y 4) 1) (F.BPM_HOP_OWNER_owner 0) ∧ (takePin (op (h y 3) 2) 0 0).isSome = true ∧
    takePin (op (h { y with refPin := 255 } 3) 2) 0 0 = none ∧ unitData (op awake 3) 0 0 0 = none ∧ (unitData (op (h y 3) 3) 0 0 0).isSome = true ∧
    Reaches awake pf (R.BPM_OWN_RESTORE 0) true ∧ isP1 pf = true ∧ Reaches awake pf (R.POL_ACC_DONE 0) true ∧ Reaches awake pf (R.TSU_TSQ_POP 0) true := by
  simp only [Reaches]; decide +kernel
/-- An old frame on queue 7, in tier 0, of an owner that may use every tier and whose age there is 1 µs; the same frame in tier 1, asked for. -/
def old : Buf := { bytes := [1], owner := 3, charged := 3, queue := some 7, cell := some 0, refQ := 1 }
def aged (x : Buf) (want : List (Nat × Nat × Nat × Nat)) : State := modTmg (modBpm { put awake (F.BPM_PROF_AGE0_us 0 0) 1 with
    clk := { s0.clk with ticks := 3000 }, bank := { s0.bank with owners := [(3, { en := true, cap := [10, 10, 10] })] } } 0
    (fun b => { b with bufs := [(0, x)], want := want })) 0 (fun t => { t with queues := [(7, [{ bid := 0, len := 1, q := 7 }])] })
def sunk : Buf := { old with cell := none, low := some (1, [0]) }
theorem witness_PacketServices_scan :
    (pkt (aged old []) 0).tmg.queues = [(7, [{ bid := 0, len := 1, q := 7 }])] ∧ (aged old []).pth.aids = [] ∧ regionStopped (aged old []) 0 = false ∧
    bufOf (aged old []) 0 0 = some old ∧ movable old = true ∧ old.low = none ∧
    profOf (aged old []) 0 3 = (false, (profOf (aged old []) 0 3).2.1, 1500, (profOf (aged old []) 0 3).2.2.2) ∧
    1500 < (aged old []).clk.ticks - old.at_ ∧ (0 : Nat) < 1 := by decide +kernel
theorem witness_PacketServices_demote : (demoteTo (aged old []) 0 0 1).isSome = true := by rfl
theorem witness_PacketServices_promotion : ∃ w, nextPromotion (aged sunk [w]) 0 7 = some 0 ∧ regionStopped (aged sunk [w]) 0 = false ∧
    isPoisoned (worked (aged sunk [w]) 0) 0 0 = false := ⟨(0, 0, 7, 0), by decide +kernel⟩

/-! ### Ill-formed commands are refused, one for each check -/

theorem wf_register_word : Instr.wf (.registerRead pf 2) = false ∧ Instr.wf (.registerRead pf 4) = true := by decide
theorem wf_reading : Instr.wf (.losAssert 0 (-32769)) = false ∧ Instr.wf (.losAssert 0 32768) = false ∧ Instr.wf (.losAssert 0 (-32768)) = true := by decide
theorem wf_snr : Instr.wf (.lolClear 0 65536) = false ∧ Instr.wf (.lolClear 0 65535) = true := by decide
theorem wf_frame_sync : Instr.wf (.downstreamFrame 0 (frame 121) []) = false ∧ Instr.wf (.downstreamFrame 0 (frame 120) []) = true := by decide +kernel
theorem wf_frame_header : Instr.wf (.downstreamFrame 0 { frame 0 with hdr := header } []) = false := by decide +kernel
theorem wf_frame_codeword : Instr.wf (.downstreamFrame 0 { frame 0 with uncorr := [5000] } []) = false := by decide +kernel
theorem wf_frame_grant : Instr.wf (.downstreamFrame 0 { frame 0 with grants := [[2 ^ 48]] } []) = false := by decide +kernel
theorem wf_frame_lcm_count : Instr.wf (.downstreamFrame 0 { frame 0 with lcm := List.replicate 81 (zeros 64) } []) = false := by decide +kernel
theorem wf_frame_lcm_length : Instr.wf (.downstreamFrame 0 { frame 0 with lcm := [zeros 63] } []) = false := by decide +kernel
theorem wf_frame_mgt_count : Instr.wf (.downstreamFrame 0 { frame 0 with mgt := List.replicate 5 (zeros 641) } []) = false := by decide +kernel
theorem wf_frame_mgt_length : Instr.wf (.downstreamFrame 0 { frame 0 with mgt := [zeros 640] } []) = false := by decide +kernel
theorem wf_frame_container : Instr.wf (.downstreamFrame 0 { frame 0 with tribs := [(32, [])] } []) = false := by decide +kernel
theorem wf_post : Instr.wf (.dequeue 0 0 ⟨2 ^ 64, 0, false⟩) = false ∧ Instr.wf (.dequeue 0 0 ⟨0, 2 ^ 16, false⟩) = false := by decide
theorem wf_descriptor : Instr.wf (.txDescriptor 0 ⟨2 ^ 64, 64, [], false⟩) = false ∧ Instr.wf (.txDescriptor 0 ⟨0, 2 ^ 16, [], false⟩) = false ∧
    Instr.wf (.txDescriptor 0 ⟨0, 1, [1, 2], false⟩) = false ∧ Instr.wf (.txDescriptor 0 ⟨0, 2, [1, 2], false⟩) = true := by decide
theorem wf_window_start : Instr.wf (.windowFill 0 5000 false) = false ∧ Instr.wf (.windowFill 0 4999 false) = true := by decide
theorem wf_client_frame : Instr.wf (.clientFrameRx 0 0 [] false 0 0) = false ∧ Instr.wf (.transparentFrameRx 0 0 [] ⟨false, 0, 0⟩) = false := by decide
theorem wf_memory : Instr.wf (.memoryTrainingDone 0 [none, none, none, none, none]) = false := by decide
theorem wf_key : Instr.wf (.keyAdd pf 0 (zeros 96)) = false ∧ Instr.wf (.keyAdd pf 0 (zeros 97)) = true := by decide +kernel
theorem wf_injection : Instr.wf (.injectDescriptor 0 (zeros 15) []) = false ∧ Instr.wf (.injectDescriptor 0 (zeros 16) (zeros 16385)) = false := by decide +kernel
theorem wf_fault : Instr.wf (.faultReport 0 0 0 0) = false ∧ Instr.wf (.faultReport 0 1 0 0) = true := by decide
theorem wf_cal_file : Instr.wf (.calWrite pf (zeros 5311)) = false ∧ Instr.wf (.calWrite pf (zeros 5312)) = true := by decide +kernel
theorem wf_i2c : Instr.wf (.i2cDone 0 0 0 (zeros 129)) = false ∧ Instr.wf (.i2cDone 0 0 0 (zeros 128)) = true := by decide +kernel
theorem wf_image : Instr.wf (.imageLoadDone (blank 23)) = false ∧ Instr.wf (.imageLoadDone []) = true := by
  constructor
  · simp only [Instr.wf, blank_length]; decide
  · decide
theorem wf_firmware : Instr.wf (.policyWrite pf false (blank 24)) = false ∧ Instr.wf (.wardenWrite pf false (blank 24)) = false := by
  simp only [Instr.wf, blank_length]; decide

/-! ### Single steps with results that the manual gives -/

/-- What a command leaves: the next state. -/
def next (c : Instr) (s : State) : State := match Machine.exec c s with
  | .next t => t
  | _ => s

/-- R345: a core tick advances the LFC by 0xAAAA_AAAB units. -/
theorem test_tick : (match Machine.step s0 with | .next t => t.clk.lfc | _ => 0) = 0xAAAAAAAB := by decide +kernel
/-- The front of the queue is what a step runs, and the rest stays. -/
theorem test_queue : (match Machine.step { s0 with pending := [.idcode, .bypass] } with | .next t => t.pending | _ => []) = [.bypass] := by decide +kernel
/-- No table row is spelled by a word. -/
theorem test_fetch_word : s0.withFetchWord 16 7 = s0 := by decide +kernel
/-- R480: IDCODE reads 0x2642_5B47. -/
theorem test_idcode : (next .idcode s0).outbox.contains (.tdo 0x26425B47) = true := by decide +kernel
/-- R9, ISA register pages: the part number reads 0x6425. -/
theorem test_part : get s0 F.GLB_PART_part = 0x6425 := by decide +kernel
/-- 02_line_time.md, the example: FN 15,634,378,000 is 0x3_A3E1_AD10; armed at 15,634,000,000:0 alarm 200 reads state 1, result 0. -/
def example200 : State := putAll timed [(F.LTU_FN_fn, 15634000000), (F.LTU_ALM_FN_fn 200, 15634378000)]
theorem test_alarm_example :
    get example200 (F.LTU_ALM_FN_fn 200) = 0x3A3E1AD10 ∧ get (next (.alarmArm pf 200 0x8000) example200) (F.LTU_ALM_STATUS_state 200) = 1 ∧
    get (next (.alarmArm pf 200 0x8000) example200) (F.LTU_ALM_STATUS_result 200) = 0 := by decide +kernel
/-- The same alarm armed for a time that has passed answers LATE_ARM (R43). -/
theorem test_alarm_late :
    get (next (.alarmArm pf 200 0x8000) (put example200 (F.LTU_ALM_FN_fn 200) 15633999999)) (F.LTU_ALM_STATUS_result 200) = 1 := by decide +kernel
/-- 13_queues_and_shaping.md, the example: 10 Gbit/s with period 64 gives 5,120 bytes a refill, and 1,514 bytes without FCS count as 1,538. -/
theorem test_credit : credit { en := true, rate := 10000000, burst := 16384, overhead := 20, period := 64 } = 5120 * 2 ^ 48 ∧
    meterLen { en := true, rate := 10000000, burst := 16384, overhead := 20, period := 64 } 1514 true = 1538 := by decide
/-- 04_line_lanes.md, the example: at +20.0 dBm the budget of one millisecond admits 978 bursts of 4,000 codewords at 1,995 µW and not 979. -/
theorem test_ceiling : withinBudget (978 * (4001 * 1995)) 200 = true ∧ withinBudget (979 * (4001 * 1995)) 200 = false := by decide +kernel
/-- 04_line_lanes.md, the example: +3.0 dBm is 1,995 µW, rounded up 1,996 (R103). -/
theorem test_power : uwOf 300 = 1996 := by decide +kernel
/-- 19_recorder_and_monitors.md, the example: with 32 tokens an occurrence is admitted, with 0.512 suppressed, with 1.008 admitted. -/
theorem test_rate_limit :
    mayAdmit s0 0x1000 .grey = true ∧ mayAdmit (modEvr s0 (fun e => { e with tokens := [(0x1000, 512)] })) 0x1000 .grey = false ∧
    mayAdmit (modEvr s0 (fun e => { e with tokens := [(0x1000, 1008)] })) 0x1000 .grey = true := by decide +kernel

end Sys2Proof.Tests
end

section
/-!
SUPPORT. The register file keeps its canonical form (R7, R9). `Canon.f` says it of the model's operation `f`, in the order of the model's
files; an operation's proof names the operations that its meaning runs, in their order, and takes both branches of a choice.
-/
set_option Elab.async false
namespace Sys2Proof.Machine
open Sys2Proof

/-- The register file of the state is in its canonical form. -/
def Canon (s : State) : Prop := Canonical s.regs

/-! ### Rules of the register file -/

theorem canonical_del {t : Tab Word} (h : Canonical t) (a : Nat) : Canonical (Tab.del t a) :=
  ⟨Tab.sorted_del t a h.1, fun e he => h.2 e (List.mem_filter.1 he).1⟩

theorem canonical_set {t : Tab Word} (h : Canonical t) {a : Nat} {v : Word} (hv : v ≠ resetWord a) : Canonical (Tab.set t a v) := by
  refine ⟨Tab.sorted_set t a v h.1, fun e he => ?_⟩
  rcases Tab.mem_set t a v e he with rfl | he
  · exact hv
  · exact h.2 e he

theorem canonical_keep {t : Tab Word} (h : Canonical t) (p : Nat → Bool) : Canonical (Tab.keep t p) :=
  ⟨(Tab.sorted_iff _).2 (((Tab.sorted_iff t).1 h.1).filter _), fun e he => h.2 e (List.mem_filter.1 he).1⟩

/-- A word put the way `wrWord` and `cfgPutWord` put it: listed only while it differs from its reset word. -/
theorem canonical_putWord {t : Tab Word} (h : Canonical t) (a : Nat) (v : Word) :
    Canonical (if v = resetWord a then Tab.del t a else Tab.set t a v) := by
  split
  · exact canonical_del h a
  · exact canonical_set h ‹_›

protected theorem Canon.wrWord {s : State} (h : Canon s) {a : Nat} {v : Word} : Canon (wrWord s a v) :=
  canonical_putWord h a v

protected theorem Canon.put {s : State} (h : Canon s) {f : Fld} {v : Nat} : Canon (put s f v) := by
  unfold put
  split
  · exact h.wrWord
  · exact h.wrWord.wrWord

/-! ### Rules of the model's control structures -/

/-- A change beside the register file. -/
protected theorem Canon.upd {s t : State} (h : Canon s) (e : t.regs = s.regs := by rfl) : Canon t := by
  rw [Canon, e]
  exact h

protected theorem Canon.ite {s t : State} {c : Prop} [Decidable c] (h : Canon s) (h' : Canon t) : Canon (if c then s else t) := by
  split
  · exact h
  · exact h'

protected theorem Canon.foldl {α : Type} {l : List α} {s : State} {g : State → α → State} (h : Canon s)
    (hg : ∀ t x, Canon t → Canon (g t x)) : Canon (l.foldl g s) := by
  induction l generalizing s with
  | nil => exact h
  | cons x l ih => exact ih (hg s x h)

protected theorem Canon.foldlFst {α β : Type} {l : List α} {p : State × β} {g : State × β → α → State × β} (h : Canon p.1)
    (hg : ∀ p x, Canon p.1 → Canon (g p x).1) : Canon (l.foldl g p).1 := by
  induction l generalizing p with
  | nil => exact h
  | cons x l ih => exact ih (hg p x h)

/-- An optional result is canonical where there is one. -/
def CanonOpt (o : Option State) : Prop := ∀ t, o = some t → Canon t

protected theorem CanonOpt.none : CanonOpt none := fun _ h => (Option.some_ne_none _ h.symm).elim

protected theorem Canon.some {s : State} (h : Canon s) : CanonOpt (some s) := by
  rintro t ⟨⟩
  exact h

protected theorem CanonOpt.ite {c : Prop} [Decidable c] {o o' : Option State} (h : CanonOpt o) (h' : CanonOpt o') :
    CanonOpt (if c then o else o') := by
  split
  · exact h
  · exact h'

protected theorem CanonOpt.orElse {o o' : Option State} (h : CanonOpt o) (h' : CanonOpt o') : CanonOpt (o.orElse fun _ => o') := by
  cases o with
  | none => exact h'
  | some t => exact h

protected theorem CanonOpt.getD {o : Option State} {s : State} (h : CanonOpt o) (hs : Canon s) : Canon (o.getD s) := by
  cases o with
  | none => exact hs
  | some t => exact h t rfl

protected theorem CanonOpt.bind {o : Option State} {g : State → Option State} (h : CanonOpt o) (hg : ∀ t, Canon t → CanonOpt (g t)) :
    CanonOpt (o.bind g) := by
  cases o with
  | none => exact CanonOpt.none
  | some t => exact hg t (h t rfl)

protected theorem CanonOpt.foldl {α : Type} {l : List α} {o : Option State} {g : Option State → α → Option State} (h : CanonOpt o)
    (hg : ∀ o x, CanonOpt o → CanonOpt (g o x)) : CanonOpt (l.foldl g o) := by
  induction l generalizing o with
  | nil => exact h
  | cons x l ih => exact ih (hg o x h)

/-! ### Rules of the banks -/

theorem canonical_cfgPutWord {c : Cfg} (h : Canonical c.regs) (a : Nat) (v : Word) : Canonical (cfgPutWord c a v).regs :=
  canonical_putWord h a v

theorem canonical_takeRegs {dst : Cfg} (h : Canonical dst.regs) (src : Cfg) (sel : Nat → RegRow → FieldRow → Bool) :
    Canonical (takeRegs dst src sel).regs := by
  unfold takeRegs
  refine List.foldlRecOn (motive := fun c : Cfg => Canonical c.regs) _ _ h fun c hc a _ => ?_
  dsimp only
  split
  · exact hc
  · exact canonical_cfgPutWord hc _ _

section

variable {s : State}
  {a arg1 block c cause cell code d fn fuel g i k key kind l len m n o off p region sid snr t u uw v : Nat}
  {mis staged up : Bool}
  {old : Cfg}
  {x : Fill}
  {e : FillEnv}
  {f : Fld}
  {excess : Int}
  {ids : List (Nat × Nat)}
  {b bs z : List Byte}
  {posts : List RxPost}
  {bad : Option StoreFail}
  {q : Path}
  {r : Requester}
  {w : Window}

/-! ### Ops -/

protected theorem Canon.putB {b : Bool} (h : Canon s) : Canon (putB s f b) := h.put
protected theorem Canon.putI {v : Int} (h : Canon s) : Canon (putI s f v) := h.put
protected theorem Canon.addTo (h : Canon s) : Canon (addTo s f n) := h.put
protected theorem Canon.inc (h : Canon s) : Canon (inc s f) := h.addTo
protected theorem Canon.incSat (h : Canon s) : Canon (incSat s f) := h.put
protected theorem Canon.putMax (h : Canon s) : Canon (putMax s f v) := Canon.ite h.put h

protected theorem Canon.forEach {α : Type} {l : List α} {f : State → α → State} (h : Canon s)
    (hf : ∀ t x, Canon t → Canon (f t x)) : Canon (forEach l f s) := h.foldl hf

protected theorem Canon.whenB {b : Bool} {f : State → State} (h : Canon s) (hf : ∀ t, Canon t → Canon (f t)) : Canon (whenB b f s) :=
  Canon.ite (hf s h) h

protected theorem Canon.emit {o : Output} (h : Canon s) : Canon (emit s o) := h
protected theorem Canon.stepFree (h : Canon s) : Canon (stepFree s) := h
protected theorem Canon.liveAdd (h : Canon s) : Canon (liveAdd s key n) := h
protected theorem Canon.livePut (h : Canon s) : Canon (livePut s key v) := h
protected theorem Canon.dropP0 (h : Canon s) : Canon (dropP0 s) := h

protected theorem Canon.modAct {f : Act → Act} (h : Canon s) : Canon (modAct s q f) := by
  cases q <;> grind [modAct, Canon]

protected theorem Canon.modLane {f : LaneSt → LaneSt} (h : Canon s) : Canon (modLane s p f) := h
protected theorem Canon.modEngine {e : Nat} {f : EngineSt → EngineSt} (h : Canon s) : Canon (modEngine s e f) := h
protected theorem Canon.modDfrLane {f : DfrLane → DfrLane} (h : Canon s) : Canon (modDfrLane s p f) := h
protected theorem Canon.modPkt {f : PktSt → PktSt} (h : Canon s) : Canon (modPkt s n f) := h

protected theorem Canon.setPathTime {t : LineTime} (h : Canon s) : Canon (setPathTime s q t) := by
  cases q <;> grind [setPathTime, Canon]

protected theorem Canon.settleTsu (h : Canon s) : Canon (settleTsu s) := by
  grind [settleTsu, Canon.putI, Canon.putB, Canon]

protected theorem Canon.settleFlt (h : Canon s) : Canon (settleFlt s) := h.put
protected theorem Canon.settleAsh (h : Canon s) : Canon (settleAsh s) := Canon.ite h h.putB.putB
protected theorem Canon.settle (h : Canon s) : Canon (settle s) := h.settleTsu.settleFlt.putB.putB.putB.putB.settleAsh.put
protected theorem Canon.worked (h : Canon s) : Canon (worked s n) := Canon.ite h.modPkt h

/-! ### Events -/

protected theorem Canon.deliver {src : Nat} (h : Canon s) : Canon (deliver s src) := Canon.ite (Canon.ite h.upd h.emit) h
protected theorem Canon.deliverOwned {src owner : Nat} (h : Canon s) : Canon (deliverOwned s src owner) := Canon.ite h.deliver h

protected theorem Canon.updateIrq (h : Canon s) : Canon (updateIrq s a) := by
  grind [updateIrq, Canon.deliver, Canon]

protected theorem Canon.suppress (h : Canon s) : Canon (suppress s code) := h
protected theorem Canon.unsuppress (h : Canon s) : Canon (unsuppress s code) := h

protected theorem Canon.spend {v : Sev} (h : Canon s) : Canon (spend s code v) := by
  grind [spend, Canon]

protected theorem Canon.ctrBump (h : Canon s) : Canon (ctrBump s c n).1 := by
  grind [ctrBump, Canon.put]

protected theorem Canon.monBump (h : Canon s) : Canon (monBump s f) := by
  grind [monBump, Canon.ctrBump, Canon.foldl]

protected theorem Canon.refreshLog (h : Canon s) : Canon (refreshLog s) := by
  grind [refreshLog, Canon.put]

protected theorem Canon.countDrop {v : Sev} (h : Canon s) : Canon (countDrop s v) :=
  Canon.ite h.inc.monBump (Canon.ite h.inc.monBump.putB.spend.unsuppress.inc h.inc.monBump.putB.suppress).updateIrq

protected theorem Canon.dropAged (h : Canon s) : Canon (dropAged s) := h.upd.addTo
protected theorem Canon.seqUsed (h : Canon s) : Canon (seqUsed s) := h.put.dropAged.refreshLog

protected theorem Canon.jetPut {r : Rec} (h : Canon s) : Canon (jetPut s r).1 := by
  grind [jetPut, Canon]

protected theorem Canon.jetOnly {r : Rec} (h : Canon s) : Canon (jetOnly s r) := by
  grind [jetOnly, Canon.jetPut, Canon.seqUsed, Canon.countDrop]

protected theorem Canon.admitRec {r : Rec} (h : Canon s) : Canon (admitRec s r) := by
  grind [admitRec, Canon.jetOnly, Canon.countDrop, Canon.jetPut, Canon.seqUsed, Canon.whenB, Canon.inc, Canon]

protected theorem Canon.offerTo {v : Sev} {args : List Nat} {into : State → Rec → State} (h : Canon s)
    (hf : ∀ t r, Canon t → Canon (into t r)) : Canon (offerTo s code v region block cell args into) :=
  Canon.ite (hf _ _ h.spend.unsuppress) h.suppress

protected theorem Canon.offerArgs {v : Sev} {args : List Nat} (h : Canon s) : Canon (offerArgs s code v region block cell args) :=
  h.offerTo fun _ _ ht => ht.admitRec

protected theorem Canon.offer {v : Sev} {arg0 : Nat} (h : Canon s) : Canon (offer s code v region block cell arg0 arg1) := h.stepFree.offerArgs

protected theorem Canon.raiseWith {k : State → Nat → Nat → State} (h : Canon s) (hk : ∀ t c y, Canon t → Canon (k t c y)) :
    Canon (raiseWith s f k) := by
  unfold raiseWith
  split
  · exact h
  · exact Canon.ite h (hk _ _ _ h.putB).updateIrq

protected theorem Canon.raiseRec {v : Sev} (h : Canon s) : Canon (raiseRec s f v region cell arg1) := h.raiseWith fun _ _ _ ht => ht.offer

protected theorem Canon.ctrAdd (h : Canon s) : Canon (ctrAdd s c n) := by
  grind [ctrAdd, Canon.ctrBump, Canon.raiseRec, Canon.monBump]

protected theorem Canon.monCount {event : Nat} (h : Canon s) : Canon (monCount s region block event ids n) := h.foldl fun _ _ ht => ht.ctrAdd
protected theorem Canon.monIn {bytes : Nat} (h : Canon s) : Canon (monIn s region block ids bytes) := h.monCount.monCount
protected theorem Canon.monOut {bytes : Nat} (h : Canon s) : Canon (monOut s region block ids bytes) := h.monCount.monCount

protected theorem Canon.monEvent (h : Canon s) : Canon (monEvent s f ids) := by
  grind [monEvent, Canon.monCount]

protected theorem Canon.accessed (h : Canon s) : Canon (accessed s a) := by
  grind [accessed, Canon.worked, Canon.monCount]

protected theorem Canon.raiseFor {v : Sev} (h : Canon s) : Canon (raiseFor s f v region cell arg1) := h.monEvent.raiseRec

protected theorem Canon.raise {v : Sev} (h : Canon s) : Canon (raise s f v arg1) := by
  grind [raise, Canon.raiseFor]

protected theorem Canon.raiseGrey (h : Canon s) : Canon (raiseGrey s f) := h.raise

protected theorem Canon.raiseAt {v : Sev} (h : Canon s) : Canon (raiseAt s f v cell ids arg1) := by
  grind [raiseAt, Canon.raiseRec, Canon.monEvent]

protected theorem Canon.greyOf (h : Canon s) : Canon (greyOf s f ids) := h.raiseAt

protected theorem Canon.discardOf (h : Canon s) : Canon (discardOf s f code ids) := by
  grind [discardOf, Canon.inc, Canon.monCount]

protected theorem Canon.discard (h : Canon s) : Canon (discard s f code) := h.discardOf

/-! ### Access -/

protected theorem Canon.linkDiscard (h : Canon s) : Canon (linkDiscard s n) := Canon.ite h.upd.inc h
protected theorem Canon.deny {write : Bool} (h : Canon s) : Canon (deny s r a write) := Canon.ite h.inc h.inc.putB.put.put.raiseGrey

protected theorem Canon.onWrite {k : State → State} (h : Canon s) (hk : ∀ t, Canon t → Canon (k t)) : Canon (onWrite s r a k) :=
  Canon.ite h (Canon.ite (Canon.ite h (hk s h)) h.deny)

protected theorem Canon.onWriteP0 {k : State → State} (h : Canon s) (hk : ∀ t, Canon t → Canon (k t)) : Canon (onWriteP0 s r a k) :=
  h.onWrite fun t ht => Canon.ite (hk t ht) ht

/-! ### Tsu -/

protected theorem Canon.modDom {f : TsuDom → TsuDom} (h : Canon s) : Canon (modDom s d f) := h
protected theorem Canon.rebase (h : Canon s) : Canon (rebase s d) := h.modDom
protected theorem Canon.openSeg (h : Canon s) : Canon (openSeg s d) := h.modDom
protected theorem Canon.setDomState (h : Canon s) : Canon (setDomState s d v) := h.put.put
protected theorem Canon.pushPiece {base : Nat} {r : Int} {change : Bool} (h : Canon s) : Canon (pushPiece s base r change) := h

protected theorem Canon.servedUpdate (h : Canon s) : Canon (servedUpdate s) :=
  Canon.ite h.putB (Canon.ite (Canon.ite h h.putB.raiseGrey) h.pushPiece.put.putB.raiseGrey)

protected theorem Canon.localFree (h : Canon s) : Canon (localFree s) := Canon.ite h h.setDomState

protected theorem Canon.tsuCommit (h : Canon s) : Canon (tsuCommit s) := by
  grind [tsuCommit, Canon.localFree, Canon.servedUpdate, Canon.pushPiece]

protected theorem Canon.enterTracking (h : Canon s) : Canon (enterTracking s d) :=
  Canon.ite h (h.setDomState.raiseGrey.whenB fun _ ht => ht.servedUpdate)

protected theorem Canon.measured {p : Int} {last : Bool} (h : Canon s) : Canon (measured s d p last) :=
  (Canon.ite h.putI.inc.modDom.putI.modDom h.putI.inc.modDom).enterTracking

protected theorem Canon.tsuFrame (h : Canon s) : Canon (tsuFrame s q fn) := by
  grind [tsuFrame, Canon.putI, Canon.enterTracking, Canon.openSeg, Canon.modDom, Canon.measured, Canon]

protected theorem Canon.tsuAnnounced (h : Canon s) : Canon (tsuAnnounced s q) := h.putB
protected theorem Canon.tsuRenumbered (h : Canon s) : Canon (tsuRenumbered s q) := h.putB
protected theorem Canon.firmwareSteers (h : Canon s) : Canon (firmwareSteers s d) := Canon.ite h.enterTracking h

protected theorem Canon.tcCorrect {g : Ingress} {outTc : Bool} {xe : Nat} (h : Canon s) : Canon (tcCorrect s g outTc xe bs).1 := by
  grind [tcCorrect, Canon.raiseGrey, Canon.inc]

protected theorem Canon.tsqPush {g : Ingress} {outKind outId disp xe meta_ queue : Nat} (h : Canon s) :
    Canon (tsqPush s n g outKind outId disp xe meta_ queue bs) :=
  Canon.ite h.modPkt.inc.raiseGrey h.modPkt.put

protected theorem Canon.tsqEmpty (h : Canon s) : Canon (tsqEmpty s n) := h.modPkt.put
protected theorem Canon.tsqPop (h : Canon s) : Canon (tsqPop s n) := h.modPkt.put
protected theorem Canon.rateWrite {rho : Word} (h : Canon s) : Canon (rateWrite d rho s) := Canon.ite h.put h.rebase.put.openSeg.firmwareSteers
protected theorem Canon.stepWrite {ns : Word} (h : Canon s) : Canon (stepWrite d ns s) := Canon.ite h h.modDom.openSeg.firmwareSteers

protected theorem Canon.setWrite {v : Word} (h : Canon s) : Canon (setWrite d v s) :=
  Canon.ite ((Canon.ite h.put.modDom h.put.modDom.setDomState).openSeg.whenB fun _ ht => ht.servedUpdate) h.put

/-- The conversion's result is named before the state is projected: the kernel would otherwise run the conversion's 64-bit comparison. -/
theorem convWrite_eq (r : Requester) (raw d : Nat) (s : State) : ∃ u, convWrite r raw d s = stepFree { s with tsu := u } := by
  have key : ∀ f t, f = @convWrite → t = f r raw d s → ∃ u, t = stepFree { s with tsu := u } := by
    intro f t hf ht
    delta convWrite at hf
    subst hf
    beta_reduce at ht
    generalize convert s d raw = x at ht
    obtain ⟨v, st⟩ := x
    exact ⟨_, ht⟩
  exact key _ _ rfl rfl

protected theorem Canon.convWrite {raw : Nat} (h : Canon s) : Canon (convWrite r raw d s) := by
  obtain ⟨u, hu⟩ := convWrite_eq r raw d s
  rw [hu]
  exact h.upd.stepFree

protected theorem Canon.latchWrite (h : Canon s) : Canon (latchWrite r s) := h

protected theorem Canon.residClear (h : Canon s) : Canon (residClear s) := by
  grind [residClear, Canon.pushPiece]

/-! ### Port -/

protected theorem Canon.modPort {f : PortSt → PortSt} (h : Canon s) : Canon (modPort s n l f) := h.modPkt
protected theorem Canon.statAdd (h : Canon s) : Canon (statAdd s n l i k) := Canon.ite h.livePut.put.raiseGrey h.livePut
protected theorem Canon.sizeAdd {base max : Nat} (h : Canon s) : Canon (sizeAdd s n l base max len) := Canon.ite h.statAdd h
protected theorem Canon.emitSet {os : Nat} (h : Canon s) : Canon (emitSet s n l os) := Canon.ite h.emit h
protected theorem Canon.showFault (h : Canon s) : Canon (showFault s n l) := Canon.ite h (Canon.ite h.modPort.emitSet h.modPort.emitSet)

protected theorem Canon.showTribFault (h : Canon s) : Canon (showTribFault s t) := by
  grind [showTribFault, Canon.showFault]

protected theorem Canon.sendStanding (h : Canon s) : Canon (sendStanding s n l) := Canon.ite h.emitSet h
protected theorem Canon.sendStandings (h : Canon s) : Canon (sendStandings s n) := h.foldl fun _ _ ht => ht.sendStanding
protected theorem Canon.showFaults (h : Canon s) : Canon (showFaults s n) := h.foldl fun _ _ ht => ht.showFault
protected theorem Canon.macControl {op : Nat} {params : List Byte} (h : Canon s) : Canon (macControl s n l op params) := h.emit.statAdd.statAdd
protected theorem Canon.sendPause {q : Nat} (h : Canon s) : Canon (sendPause s n l q) := h.macControl
protected theorem Canon.sendPfc {mask q : Nat} (h : Canon s) : Canon (sendPfc s n l mask q) := h.macControl

protected theorem Canon.sendReq {req q : Nat} (h : Canon s) : Canon (sendReq s n l req q) :=
  Canon.ite (Canon.ite (Canon.ite h.sendPause h).sendPfc (Canon.ite h.sendPause h)) h

protected theorem Canon.setReq {req : Nat} (h : Canon s) : Canon (setReq s n l req) := Canon.ite h h.modPort.put.sendReq.sendReq

/-! ### Conts -/

protected theorem Canon.dropDownTrib (h : Canon s) : Canon (dropDownTrib s t) := h.wrWord.wrWord.upd.showTribFault
protected theorem Canon.showTrib (h : Canon s) : Canon (showTrib s p t) := h.putB.putB.showTribFault

/-! ### Alarm -/

protected theorem Canon.alarmResult (h : Canon s) : Canon (alarmResult s k c) := h.put
protected theorem Canon.alarmRefused (h : Canon s) : Canon (alarmRefused s k c) := (Canon.ite h.put h).alarmResult

protected theorem Canon.armNow (h : Canon s) : Canon (armNow s k) := by
  grind [armNow, Canon.alarmRefused, Canon.alarmResult, Canon.putB, Canon.put]

protected theorem Canon.armAt {cw period : Nat} (h : Canon s) : Canon (armAt s k fn cw period) := h.put.put.put.armNow
protected theorem Canon.disarm (h : Canon s) : Canon (disarm s k c) := Canon.ite h.put.alarmResult h

protected theorem Canon.alarmArm {ctrl : Word} (h : Canon s) : Canon (alarmArm r k ctrl s) :=
  h.onWrite fun _ ht => Canon.ite ht.alarmResult (Canon.ite ht.alarmResult (Canon.ite ht.put.put.put ht.put.put).armNow)

protected theorem Canon.alarmDisarm (h : Canon s) : Canon (alarmDisarm r k s) :=
  h.onWrite fun _ ht => Canon.ite ht.alarmResult (Canon.ite ht.alarmResult ht.disarm)

protected theorem Canon.reach {b : Nat} (h : Canon s) : Canon (reach s b c) := by
  grind [reach, Canon.put, Canon.setPathTime]

/-! ### Banks -/

protected theorem Canon.setLoaded (h : Canon s) : Canon (setLoaded s i) := h.put
protected theorem Canon.modOther {f : Cfg → Cfg} (h : Canon s) : Canon (modOther s f) := h
protected theorem Canon.putOther (h : Canon s) : Canon (putOther s f v) := h.modOther
/-- The active bank after it took parts of another one: only the words of the old one, with chosen fields put. -/
protected theorem Canon.activate {m : Nat} {src : Cfg} (h : Canon s) : Canon (setActive s (takeCfg m (activeCfg s) src)) :=
  canonical_takeRegs (dst := activeCfg s) h _ _

protected theorem Canon.activateLine {m : Nat} {shared : Bool} {src : Cfg} (h : Canon s) :
    Canon (setActive s (takeLine m q shared (activeCfg s) src)) :=
  canonical_takeRegs (dst := activeCfg s) h _ _

protected theorem Canon.modBanks {f : Bank → Bank} (h : Canon s) : Canon (modBanks s i f) := (Canon.ite h h.modOther)
protected theorem Canon.modStaged {f : Bank → Bank} (h : Canon s) : Canon (modStaged s i f) := h.upd.setLoaded
protected theorem Canon.putExpert (h : Canon s) : Canon (putExpert s i f v) := (Canon.ite h h.putOther).put

/-! ### HifTx -/

protected theorem Canon.coalesce {src owner : Nat} (h : Canon s) : Canon (coalesce s src owner n) := Canon.ite h.upd.deliverOwned h
protected theorem Canon.advanceHead (h : Canon s) : Canon (advanceHead s t) := h.upd.put

protected theorem Canon.writeBack {r : TxRef} {ts status : Nat} {valid stale timedOut : Bool} (h : Canon s) :
    Canon (writeBack s r ts status valid stale timedOut) := by
  grind [writeBack, Canon.emit, Canon.coalesce, Canon.advanceHead, Canon]

protected theorem Canon.fate {tx : Option TxRef} {status : Nat} {ts : Option (Nat × Bool)} (h : Canon s) : Canon (fate s tx status ts) := by
  unfold fate
  grind [Canon.writeBack]

/-! ### Bpm -/

protected theorem Canon.modBpm {f : Bpm → Bpm} (h : Canon s) : Canon (modBpm s n f) := h.modPkt
protected theorem Canon.backpressure (h : Canon s) : Canon (backpressure s n) := (h.foldl fun _ _ ht => ht.setReq).putB

protected theorem Canon.updateLevel (h : Canon s) : Canon (updateLevel s n t) := by
  grind [updateLevel, Canon.put, Canon.raise, Canon.backpressure]

protected theorem Canon.charge (h : Canon s) : Canon (charge s n o t k) := h.modBpm.put.putMax.updateLevel
protected theorem Canon.uncharge (h : Canon s) : Canon (uncharge s n o t k) := h.modBpm.put.updateLevel
protected theorem Canon.moveCharge (h : Canon s) : Canon (moveCharge s n o p t k) := h.modBpm.updateLevel
protected theorem Canon.spendTone (h : Canon s) : Canon (spendTone s n o len) := Canon.ite h.modBpm h

protected theorem Canon.pickCells (h : Canon s) : Canon (pickCells s n k).1 := by
  grind [pickCells, Canon.stepFree, Canon.foldl, Canon.foldlFst]

protected theorem Canon.newBuf {q : Option Nat} (h : Canon s) : Canon (newBuf s n o q bs).1 := by
  grind [newBuf, Canon.pickCells, Canon.modBpm, Canon.monIn, Canon.charge, Canon]

protected theorem Canon.alloc {q : Option Nat} (h : Canon s) : Canon (alloc s n o q bs).1 := by
  grind [alloc, Canon.newBuf, Canon.spendTone]

protected theorem Canon.bpmDiscard (h : Canon s) : Canon (bpmDiscard s n code) := h.discard
protected theorem Canon.bpmDrop {q : Nat} (h : Canon s) : Canon (bpmDrop s n q code) := h.discardOf

protected theorem Canon.unitRelease (h : Canon s) : Canon (unitRelease s n t u) := by
  grind [unitRelease, Canon.modBpm, Canon.uncharge, Canon]

protected theorem Canon.freeSpace {x : Buf} (h : Canon s) : Canon (freeSpace s n x) := by
  grind [freeSpace, Canon.uncharge, Canon.unitRelease, Canon.foldl]

protected theorem Canon.settleBuf {b : Nat} {x : Buf} (h : Canon s) : Canon (settleBuf s n b x) :=
  Canon.ite h.modBpm.modBpm.freeSpace.monOut (Canon.ite h.modBpm.modBpm.moveCharge h.modBpm)

protected theorem Canon.relQ {b : Nat} (h : Canon s) : Canon (relQ s n b) := by
  grind [relQ, Canon.settleBuf, Canon]

protected theorem Canon.relRet {b : Nat} (h : Canon s) : Canon (relRet s n b) := by
  grind [relRet, Canon.settleBuf, Canon]

protected theorem Canon.relPin {b : Nat} (h : Canon s) : Canon (relPin s n b) := by
  grind [relPin, Canon.settleBuf, Canon]

protected theorem Canon.takePin {b : Nat} (h : Canon s) : CanonOpt (takePin s n b) := by
  grind [takePin, Canon.settleBuf, Canon, CanonOpt]

protected theorem Canon.takeRet {b : Nat} (h : Canon s) : CanonOpt (takeRet s n b) := by
  grind [takeRet, Canon.settleBuf, Canon, CanonOpt]

protected theorem Canon.rewriteBuf {b : Nat} {x : Buf} (h : Canon s) : Canon (rewriteBuf s n b x bs) := Canon.ite h.modBpm.uncharge h.modBpm
protected theorem Canon.relEntry {f : QFrame} (h : Canon s) : Canon (relEntry s n f) := Canon.ite h.relPin h.relQ

protected theorem Canon.placeIn {list : Nat} (h : Canon s) : Canon (placeIn s n o t list bs fuel).1 := by
  induction fuel generalizing s bs with
  | zero => exact h
  | succ fuel ih => grind [placeIn, Canon.modBpm, Canon.stepFree, Canon.charge, Canon]

protected theorem Canon.demoteTo {b : Nat} (h : Canon s) : CanonOpt (demoteTo s n b t) := by
  grind [demoteTo, Canon.placeIn, Canon.addTo, Canon.modBpm, Canon.freeSpace, Canon, CanonOpt]

protected theorem Canon.promote {b : Nat} (h : Canon s) : Canon (promote s n b) := by
  grind [promote, Canon.pickCells, Canon.addTo, Canon.modBpm, Canon.charge, Canon.unitRelease, Canon.foldl, Canon]

protected theorem Canon.scanBuf {b behind keep : Nat} (h : Canon s) : Canon (scanBuf s n b behind keep) := by
  unfold scanBuf
  grind [Canon.demoteTo, CanonOpt, CanonOpt.getD]

protected theorem Canon.scanQueue {l : List QFrame} {behind : Nat} (h : Canon s) : Canon (scanQueue s n l behind) := by
  induction l generalizing s behind with
  | nil => exact h
  | cons y l ih => grind [scanQueue, Canon.scanBuf]

protected theorem Canon.hopResult {count : Nat} (h : Canon s) : Canon (hopResult s n code count) := h.put.putB.put

protected theorem Canon.freeRefused {ev : Fld} {named actual : Nat} (h : Canon s) : Canon (freeRefused s ev n named actual) := by
  grind [freeRefused, Canon.raiseWith, Canon.monEvent, Canon.offerArgs, Canon.modBpm, Canon.raiseAt, Canon]

protected theorem Canon.hopFree (h : Canon s) : Canon (hopFree s n) := by
  grind [hopFree, Canon.hopResult, Canon.freeRefused, Canon.settleBuf, Canon.bpmDiscard, Canon]

protected theorem Canon.hopAddref (h : Canon s) : Canon (hopAddref s n) := by
  unfold hopAddref
  grind [Canon.takePin, Canon.hopResult, Canon.raiseGrey, Canon.bpmDiscard, CanonOpt]

protected theorem Canon.hopRead (h : Canon s) : Canon (hopRead s n k) := by
  grind [hopRead, Canon.hopResult, Canon.raiseGrey, Canon.bpmDiscard, Canon.put, Canon.stepFree, Canon.foldl]

protected theorem Canon.ownerRestore (h : Canon s) : Canon (ownerRestore s n o) := h.modBpm

/-! ### Tmg -/

protected theorem Canon.modTmg {f : Tmg → Tmg} (h : Canon s) : Canon (modTmg s n f) := h.modPkt
protected theorem Canon.setQueue {q : Nat} {l : List QFrame} (h : Canon s) : Canon (setQueue s n q l) := h.modTmg
protected theorem Canon.setMeter {m : Meter} (h : Canon s) : Canon (setMeter s n k m) := h.modTmg
protected theorem Canon.offWheel (h : Canon s) : Canon (offWheel s n key) := h.modTmg

protected theorem Canon.meterApply (h : Canon s) : Canon (meterApply s n k) := by
  grind [meterApply, Canon.setMeter, Canon.modTmg, Canon.offWheel, Canon.foldl, Canon]

protected theorem Canon.onWheel {m : Meter} (h : Canon s) : Canon (onWheel s n key m) := h.modTmg

protected theorem Canon.chargeShaper {withFcs_ : Bool} (h : Canon s) : Canon (chargeShaper s n i key len withFcs_) := by
  grind [chargeShaper, Canon.setMeter, Canon.onWheel, Canon]

protected theorem Canon.refill (h : Canon s) : Canon (refill s n k) := by
  grind [refill, Canon.setMeter, Canon.offWheel, Canon.onWheel, Canon.foldl]

protected theorem Canon.frameLost {ing : Ingress} {ts : Bool} {tx : Option TxRef} {meta_ q : Nat} (h : Canon s) :
    Canon (frameLost s n ing ts tx meta_ q code bs) :=
  (Canon.ite h.tsqPush h).fate

protected theorem Canon.tmgDiscard {q : Nat} (h : Canon s) : Canon (tmgDiscard s n q code) := h.discardOf
protected theorem Canon.enqueueDrop {q : Nat} (h : Canon s) : Canon (enqueueDrop s n q code) := h.tmgDiscard.raiseAt
protected theorem Canon.append {q : Nat} {f : QFrame} (h : Canon s) : Canon (append s n q f) := h.setQueue.monIn

protected theorem Canon.allocRefused {r : RetryReq} (h : Canon s) : Canon (allocRefused s n o code ids r) :=
  Canon.ite (Canon.ite h.greyOf h).modBpm (Canon.ite h.greyOf h).discardOf.frameLost

protected theorem Canon.allocTo {q : Nat} {f : QFrame} {since : Option Nat} {who : Nat} (h : Canon s) : Canon (allocTo s n q f bs since who) := by
  grind [allocTo, Canon.alloc, Canon.append, Canon.allocRefused, Canon]

protected theorem Canon.modPrs {f : Prs → Prs} (h : Canon s) : Canon (modPrs s n f) := h.modPkt
protected theorem Canon.ingress {p : PPkt} (h : Canon s) : Canon (ingress s n p) := h.worked.modPrs

protected theorem Canon.injectTo {pipe : Nat} {tx : Option TxRef} {since : Option Nat} (h : Canon s) : Canon (injectTo s n pipe o tx bs since) := by
  grind [injectTo, Canon.alloc, Canon.ingress, Canon.allocRefused]

protected theorem Canon.enqueueFor {q : Nat} {f : QFrame} {who : Nat} (h : Canon s) : Canon (enqueueFor s n q f bs who) := by
  grind [enqueueFor, Canon.worked, Canon.frameLost, Canon.enqueueDrop, Canon.allocTo]

protected theorem Canon.enqueue {q : Nat} {f : QFrame} (h : Canon s) : Canon (enqueue s n q f bs) := h.enqueueFor

protected theorem Canon.enqueueOwned {q : Nat} {f : QFrame} {b : Nat} (h : Canon s) : Canon (enqueueOwned s n q f bs b) := by
  grind [enqueueOwned, Canon.frameLost, Canon.enqueueDrop, Canon.relQ, Canon.append, Canon.modBpm, Canon]

protected theorem Canon.enqueueShared {q : Nat} {f : QFrame} {b : Nat} (h : Canon s) : Canon (enqueueShared s n q f b) := by
  grind [enqueueShared, Canon.enqueueDrop, Canon.takePin, Canon.greyOf, Canon.bpmDrop, Canon.append, Canon, CanonOpt]

protected theorem Canon.linkLost {x : LinkItem} (h : Canon s) : Canon (linkLost s x code) := by
  cases x <;> grind [linkLost, Canon.fate, Canon.frameLost]

protected theorem Canon.pthDiscard (h : Canon s) : Canon (pthDiscard s code) := h.discard

protected theorem Canon.overLink {x : LinkItem} {k : State → State} (h : Canon s) (hk : ∀ t, Canon t → Canon (k t)) :
    Canon (overLink s n x k) :=
  Canon.ite h.linkDiscard.linkLost (Canon.ite h.pthDiscard.linkLost (Canon.ite h.upd (hk s h)))

protected theorem Canon.enqueueAcross {r q : Nat} {f : QFrame} (h : Canon s) : Canon (enqueueAcross s r n q f bs) :=
  h.overLink fun _ ht => ht.enqueueFor

protected theorem Canon.dropHeld (h : Canon s) : Canon (dropHeld s n) := h.upd.foldl fun _ _ ht => ht.linkDiscard.linkLost
protected theorem Canon.emptied {ahead : Bool} (h : Canon s) : Canon (emptied s n ahead) := h.modTmg

protected theorem Canon.takeFrame {e : PickEnv} {c : Cand} (h : Canon s) : Canon (takeFrame s e c).1 := by
  unfold takeFrame
  grind [Canon.setQueue, Canon.modTmg, Canon.emptied, Canon.chargeShaper, Canon.monOut, Canon.foldl]

protected theorem Canon.poisonDrop {f : QFrame} (h : Canon s) : Canon (poisonDrop s n f) := h.relEntry.bpmDrop.frameLost.greyOf

protected theorem Canon.flushQueue {q : Nat} (h : Canon s) : Canon (flushQueue s n q) :=
  Canon.ite h (h.setQueue.foldl fun _ _ ht => ht.relEntry.tmgDiscard.frameLost).emptied.raiseAt

protected theorem Canon.retryClock (h : Canon s) : Canon (retryClock s n) := by
  grind [retryClock, Canon.modBpm, Canon.injectTo, Canon.allocTo, Canon.foldl, Canon, Canon.foldlFst]

protected theorem Canon.promotionDone {q b : Nat} (h : Canon s) : Canon (promotionDone s n q b) :=
  Canon.ite (h.setQueue.modBpm.foldl fun _ _ ht => ht.poisonDrop).emptied (Canon.ite h.promote.modBpm h.promote)

protected theorem Canon.scanRetained {l : List UpSeg} (h : Canon s) : Canon (scanRetained s n l) := by
  grind [scanRetained, Canon.scanBuf, Canon.foldl]

/-! ### Token -/

protected theorem Canon.tokenCount (h : Canon s) : Canon (tokenCount s) := h.put

protected theorem Canon.tokenWait {r : Ramp} {w : Bool} (h : Canon s) : Canon (tokenWait s r w) := by
  cases r <;> grind [tokenWait, Canon.putB, Canon.put, Canon.foldl]

protected theorem Canon.tokenJoin {r : Ramp} (h : Canon s) : Canon (tokenJoin s r) := h
protected theorem Canon.tokenRequest {r : Ramp} (h : Canon s) : Canon (tokenRequest s r) := Canon.ite h h.tokenJoin.tokenCount.tokenWait

protected theorem Canon.tokenTake (h : Canon s) : Canon (tokenTake s) := by
  grind [tokenTake, Canon.tokenWait, Canon.tokenCount, Canon.put, Canon]

protected theorem Canon.tokenRelease {r : Ramp} (h : Canon s) : Canon (tokenRelease s r) :=
  Canon.ite h.upd.tokenCount.tokenWait.put h.upd.tokenCount.tokenWait

/-! ### FltReport -/

protected theorem Canon.modFlt {r : Nat} {f : FltRegion → FltRegion} (h : Canon s) : Canon (modFlt s r f) := h
protected theorem Canon.rpmFault (h : Canon s) : Canon (rpmFault s n kind block cell) := Canon.ite h.inc h.inc.put.put.putB.put.raiseGrey

protected theorem Canon.fltSafe {v : Sev} (h : Canon s) : Canon (fltSafe s f v region kind block cell) :=
  Canon.ite (h.stepFree.offerTo fun _ _ ht => ht.jetOnly) h

protected theorem Canon.fltRecord {v : Sev} (h : Canon s) : Canon (fltRecord s f v region kind block cell) := by
  grind [fltRecord, Canon.fltSafe, Canon.put, Canon.rpmFault, Canon.offer, Canon.raiseFor]

protected theorem Canon.contained (h : Canon s) : Canon (contained s region block cell) := Canon.ite h.fltRecord h.fltRecord.modFlt
protected theorem Canon.endTransition (h : Canon s) : Canon (endTransition s n) := h.tokenRelease.putB.put.upd.dropHeld

protected theorem Canon.startF1 {r : Nat} {manual : Bool} (h : Canon s) : Canon (startF1 s r manual) := by
  grind [startF1, Canon.modFlt, Canon.putB, Canon.endTransition, Canon]

protected theorem Canon.isolate {r : Nat} {manual : Bool} (h : Canon s) : Canon (isolate s r manual) := Canon.ite h.startF1.startF1 h.startF1

protected theorem Canon.regionFault {r : Nat} (h : Canon s) : Canon (regionFault s r kind block cell) :=
  Canon.ite h.fltRecord h.fltRecord.isolate

/-! ### LaneBase -/

protected theorem Canon.laneStep (h : Canon s) : Canon (laneStep s p v) := h.modLane.putB.put

protected theorem Canon.engineRequest {e : Nat} (h : Canon s) : Canon (engineRequest s e) := by
  grind [engineRequest, Canon.tokenRequest]

protected theorem Canon.laneAdvance (h : Canon s) : Canon (laneAdvance s p) := by
  grind [laneAdvance, Canon.put, Canon.putB, Canon.laneStep, Canon.raiseGrey, Canon.engineRequest]

protected theorem Canon.laneRetarget (h : Canon s) : Canon (laneRetarget s p v) := h.put.laneAdvance
protected theorem Canon.laneForceOff (h : Canon s) : Canon (laneForceOff s p) := h.modLane.laneRetarget
protected theorem Canon.scopeLane (h : Canon s) : Canon (scopeLane s p) := Canon.ite h.fltRecord h.fltRecord.modLane.laneForceOff

/-! ### Light -/

protected theorem Canon.tapSettle (h : Canon s) : Canon (tapSettle s) := Canon.ite h.upd.emit h

protected theorem Canon.setCeil {v : Int} (h : Canon s) : Canon (setCeil s q v) := by
  cases q <;> grind [setCeil, Canon]

protected theorem Canon.showEnergy (h : Canon s) : Canon (showEnergy s q) := by
  cases q <;> grind [showEnergy, Canon.put]

protected theorem Canon.chargePath {bin : Nat} (h : Canon s) : Canon (chargePath s q p bin n) := h.upd.showEnergy
protected theorem Canon.keepBursts {k : Burst → Bool} (h : Canon s) : Canon (keepBursts s k) := h

protected theorem Canon.loseBurst {b : Burst} (h : Canon s) : Canon (loseBurst s b c) := by
  grind [loseBurst, Canon.keepBursts, Canon.inc, Canon.greyOf, Canon.foldl]

protected theorem Canon.armNext (h : Canon s) : Canon (armNext s p fuel) := by
  induction fuel generalizing s with
  | zero => exact h
  | succ fuel ih => grind [armNext, Canon.armAt, Canon.loseBurst]

protected theorem Canon.rearmLane (h : Canon s) : Canon (rearmLane s p) := by
  grind [rearmLane, Canon.disarm, Canon.armNext]

protected theorem Canon.queueBurst {b : Burst} (h : Canon s) : Canon (queueBurst s b) := h.monCount.upd.rearmLane
protected theorem Canon.downBursts (h : Canon s) : Canon (downBursts s p) := Canon.ite h (h.foldl fun _ _ ht => ht.loseBurst).rearmLane
protected theorem Canon.sendLight {b : Burst} (h : Canon s) : Canon (sendLight s b) := h.emit

protected theorem Canon.endBursts (h : Canon s) : Canon (endBursts s) := by
  grind [endBursts, Canon.sendLight, Canon.keepBursts, Canon.putB, Canon.foldl]

protected theorem Canon.cutBursts (h : Canon s) : Canon (cutBursts s) :=
  h.foldl fun _ _ ht => (Canon.ite (ht.foldl fun _ _ ht1 => ht1.put) (ht.foldl fun _ _ ht1 => ht1.put).sendLight).loseBurst.emit

protected theorem Canon.showDark (h : Canon s) : Canon (showDark s p) := Canon.ite h h.putB
protected theorem Canon.gatesChanged (h : Canon s) : Canon (gatesChanged s) := (h.cutBursts.foldl fun _ _ ht => ht.showDark).endBursts

protected theorem Canon.presentOne {b : Burst} (h : Canon s) : Canon (presentOne s b) := by
  grind [presentOne, Canon.chargePath, Canon.raiseGrey, Canon.inc, Canon.rearmLane, Canon.loseBurst, Canon]

protected theorem Canon.presentBurst {b : Burst} (h : Canon s) : Canon (presentBurst s b fuel) := by
  induction fuel generalizing s b with
  | zero => grind [presentBurst,Canon.presentOne]
  | succ fuel ih => grind [presentBurst, Canon.presentOne, Canon.rearmLane, Canon.loseBurst]

protected theorem Canon.sentAlloc {b : Burst} {reps : List (Nat × Nat × Option Bool)} {ids : List Nat} (h : Canon s) :
    Canon (sentAlloc s b reps ids) := by
  grind [sentAlloc, Canon.put, Canon.putB, Canon.addTo, Canon.foldl]

protected theorem Canon.launchBurst {b : Burst} (h : Canon s) : Canon (launchBurst s b uw) := by
  grind [launchBurst, Canon.loseBurst, Canon.inc, Canon.sendLight, Canon.monOut, Canon.monCount, Canon.addTo, Canon.sentAlloc, Canon.put,
      Canon.endBursts, Canon]

protected theorem Canon.burstLaunch (h : Canon s) : Canon (burstLaunch s p uw) := by
  grind [burstLaunch, Canon.presentBurst, Canon.launchBurst, Canon.rearmLane, Canon]

protected theorem Canon.safPresent (h : Canon s) : Canon (safPresent s p) := by
  grind [safPresent, Canon.reach, Canon.presentBurst, Canon.rearmLane, Canon.loseBurst]

/-! ### Defects -/

protected theorem Canon.markSecond (h : Canon s) : Canon (markSecond s p k) := h.livePut
protected theorem Canon.putReport {r : Option Nat} (h : Canon s) : Canon (putReport s p r) := h.foldl fun _ _ ht => ht.putB
protected theorem Canon.showTribs (h : Canon s) : Canon (showTribs s p) := h.foldl fun _ _ ht => ht.showTrib

protected theorem Canon.report (h : Canon s) : Canon (report s p) := by
  grind [report, Canon.putB, Canon.markSecond, Canon.putReport, Canon.showTribs, Canon.modDfrLane, Canon.raiseGrey, Canon]

protected theorem Canon.hunt (h : Canon s) : Canon (hunt s p) := h.putB.put.modDfrLane
protected theorem Canon.freshLane (h : Canon s) : Canon (freshLane s p) := h.hunt.modDfrLane

protected theorem Canon.aprCheck (h : Canon s) : Canon (aprCheck s q) := by
  grind [aprCheck, Canon.putB, Canon.raiseGrey]

protected theorem Canon.unestablish (h : Canon s) : Canon (unestablish s p) := Canon.ite h.modLane h
protected theorem Canon.evalSd (h : Canon s) : Canon (evalSd s p) := Canon.ite h.modDfrLane h

/-! ### Groups -/

protected theorem Canon.sealResult {field rule : Nat} (h : Canon s) : Canon (sealResult s g code field rule) := h.put.put.put
protected theorem Canon.groupClear (h : Canon s) : Canon (groupClear s g) := h.upd.put

protected theorem Canon.supersede {secs : Nat} (h : Canon s) : Canon (supersede s secs) :=
  h.foldl fun _ _ ht => Canon.ite ht.groupClear.sealResult ht

/-! ### Prs -/

protected theorem Canon.searchAll {p : PPkt} {layers : List (Nat × Nat)} {lam : Nat} (h : Canon s) : Canon (searchAll s n p layers lam).1 := by
  grind [searchAll, Canon.liveAdd, Canon.foldl, Canon.foldlFst]

protected theorem Canon.sramWrite (h : Canon s) : Canon (sramWrite s off bs) := h

protected theorem Canon.slowDescriptor {p : PPkt} {b : Nat} {copy : Bool} (h : Canon s) : Canon (slowDescriptor s n p b code len copy) := by
  grind [slowDescriptor, Canon.sramWrite, Canon.put]

protected theorem Canon.slowSpend (h : Canon s) : Canon (slowSpend s n) := h.modPrs
protected theorem Canon.slowRefused {p : PPkt} (h : Canon s) : Canon (slowRefused s n p code) := Canon.ite h.greyOf h.raiseGrey
protected theorem Canon.passDone {p : PPkt} (h : Canon s) : Canon (passDone s n p) := h.inc
protected theorem Canon.dispCount {p : PPkt} (h : Canon s) : Canon (dispCount s n p code) := h.discardOf

protected theorem Canon.prsDrop {p : PPkt} (h : Canon s) : Canon (prsDrop s n p code) := by
  grind [prsDrop, Canon.relQ, Canon.frameLost, Canon.dispCount, Canon.passDone]

protected theorem Canon.crossDrop {p : PPkt} (h : Canon s) : Canon (crossDrop s n p) := by
  grind [crossDrop, Canon.relQ, Canon.frameLost, Canon.linkDiscard, Canon.passDone]

protected theorem Canon.toSlow {p : PPkt} {isReason : Bool} (h : Canon s) : Canon (toSlow s n p code isReason).1 := by
  grind [toSlow, Canon.crossDrop, Canon.prsDrop, Canon.slowRefused, Canon.slowSpend, Canon.alloc, Canon.frameLost, Canon.bpmDiscard,
      Canon.passDone, Canon.settleBuf, Canon.slowDescriptor, Canon.dispCount, Canon.fate, Canon.tsqPush, Canon]

protected theorem Canon.copyToSlow {p : PPkt} {b : Option Nat} {reason : Nat} (h : Canon s) : Canon (copyToSlow s n p b reason len) := by
  grind [copyToSlow, Canon.linkDiscard, Canon.slowRefused, Canon.slowSpend, Canon.takePin, Canon.slowDescriptor, Canon.raiseGrey, Canon.bpmDiscard,
      Canon.alloc, Canon.settleBuf, Canon, CanonOpt]

protected theorem Canon.mirrorDue {p : PPkt} (h : Canon s) : Canon (mirrorDue s n p m).1 := by
  grind [mirrorDue, Canon.modPrs, Canon]

protected theorem Canon.mirrorCopy {p : PPkt} {b : Option Nat} {cls : Nat} (h : Canon s) : Canon (mirrorCopy s n p b m cls) := by
  grind [mirrorCopy, Canon.inc, Canon.copyToSlow, Canon.greyOf, Canon.enqueueAcross, Canon.enqueueShared, Canon.enqueue, Canon]

protected theorem Canon.makeCopies {p : PPkt} {l : List Copy} {b : Option Nat} {cls slow mir : Nat} (h : Canon s) :
    Canon (makeCopies s n p l b cls slow mir) := by
  induction l generalizing s slow mir with
  | nil => exact h
  | cons c l ih =>
    cases c with
    | slow r => exact Canon.ite (ih h.copyToSlow) (ih h.inc)
    | mirror m => grind [makeCopies, Canon.mirrorDue, Canon.mirrorCopy, Canon.inc]

protected theorem Canon.endWithCopies {p : PPkt} {l : List Copy} {k : State → State × Option Nat} (h : Canon s)
    (hk : ∀ t, Canon t → Canon (k t).1) : Canon (endWithCopies s n p l k) := by
  unfold endWithCopies
  split
  · exact hk _ h.makeCopies
  · exact (hk s h).makeCopies

protected theorem Canon.settlePkt {p : PPkt} (h : Canon s) : Canon (settlePkt s n p).1 := by
  grind [settlePkt, Canon.rewriteBuf, Canon.relQ, Canon]

protected theorem Canon.polCount (h : Canon s) : Canon (polCount s n a len) := Canon.ite h.liveAdd.liveAdd h

protected theorem Canon.police (h : Canon s) : Canon (police s n a len ids).1 := by
  grind [police, Canon.liveAdd, Canon.setMeter, Canon.greyOf, Canon.discardOf, Canon]

protected theorem Canon.recUse (h : Canon s) : Canon (recUse s n) := h.put.putMax
protected theorem Canon.recFull {full : Bool} (h : Canon s) : Canon (recFull s n k full) := h.modPrs.putB

protected theorem Canon.recirculate {p next : PPkt} (h : Canon s) : Canon (recirculate s n p next) :=
  Canon.ite h.prsDrop.recFull.greyOf h.modPrs.recUse

protected theorem Canon.recircEnd {p : PPkt} (h : Canon s) : Canon (recircEnd s n p a).1 := by
  grind [recircEnd, Canon.toSlow, Canon.prsDrop, Canon.recirculate, Canon]

protected theorem Canon.deliverPkt {p : PPkt} (h : Canon s) : Canon (deliverPkt s n p g).1 := by
  grind [deliverPkt, Canon.greyOf, Canon.prsDrop, Canon.monOut, Canon.passDone, Canon.relQ, Canon.enqueueAcross, Canon.enqueueOwned, Canon.enqueue]

protected theorem Canon.policeDrop {p : PPkt} (h : Canon s) : Canon (policeDrop s n p) := by
  grind [policeDrop, Canon.relQ, Canon.frameLost, Canon.passDone]

protected theorem Canon.applyAction {p : PPkt} {byDefault : Bool} {others : List Copy} (h : Canon s) :
    Canon (applyAction s n p a byDefault others) := by
  grind [applyAction, Canon.polCount, Canon.monIn, Canon.endWithCopies, Canon.prsDrop, Canon.police, Canon.whenB, Canon.monOut, Canon.policeDrop,
      Canon.recircEnd, Canon.toSlow, Canon.deliverPkt]

protected theorem Canon.pass {p : PPkt} (h : Canon s) : Canon (pass s n p) := by
  grind [pass, Canon.monIn, Canon.settlePkt, Canon.toSlow, Canon.greyOf, Canon.prsDrop, Canon.searchAll, Canon.applyAction, Canon]

protected theorem Canon.nextPacket (h : Canon s) : Canon (nextPacket s n k).1 := by
  grind [nextPacket, Canon.modPrs, Canon.recFull, Canon.recUse, Canon]

protected theorem Canon.drainPipe (h : Canon s) : Canon (drainPipe s n k fuel) := by
  induction fuel generalizing s with
  | zero => exact h
  | succ fuel ih => grind [drainPipe, Canon.nextPacket, Canon.pass]

protected theorem Canon.drainPipes (h : Canon s) : Canon (drainPipes s n) := h.foldl fun _ _ ht => ht.drainPipe

protected theorem Canon.firmwareMessage {p : PPkt} (h : Canon s) : Canon (firmwareMessage s n p) := by
  grind [firmwareMessage, Canon.dispCount, Canon.slowRefused, Canon.alloc, Canon.slowSpend, Canon.bpmDiscard, Canon.settleBuf, Canon.stepFree,
      Canon.slowDescriptor, Canon]

protected theorem Canon.lineFrame {p : PPkt} {fw : Bool} (h : Canon s) : Canon (lineFrame s n p fw) := Canon.ite h.firmwareMessage h.ingress

/-! ### Rings -/

protected theorem Canon.modHif {f : Hif → Hif} (h : Canon s) : Canon (modHif s f) := h
protected theorem Canon.hifDiscard (h : Canon s) : Canon (hifDiscard s code) := h.discard

protected theorem Canon.ringWrite {owner : Nat} {k : State → State} (h : Canon s) (hk : ∀ t, Canon t → Canon (k t)) :
    Canon (ringWrite s r a owner k) :=
  Canon.ite (h.onWrite fun t ht => Canon.ite ht (hk t ht)) h.deny

protected theorem Canon.releaseHolds (h : Canon s) : Canon (releaseHolds s t) := (h.modHif.foldl fun _ _ ht => ht.relPin).put
protected theorem Canon.stopTx (h : Canon s) : Canon (stopTx s t) := h.modHif.putB.put.put.put
protected theorem Canon.stopRx (h : Canon s) : Canon (stopRx s t) := h.releaseHolds.modHif.putB.put.put

protected theorem Canon.stopRingsOf (h : Canon s) : Canon (stopRingsOf s fn) :=
  h.foldl fun _ _ ht => Canon.ite (Canon.ite ht.stopTx ht).stopRx (Canon.ite ht.stopTx ht)

protected theorem Canon.takeDescriptor (h : Canon s) : Canon (takeDescriptor s t).1 := by
  grind [takeDescriptor, Canon.put, Canon.modHif, Canon]

protected theorem Canon.txRefused {ref : TxRef} (h : Canon s) : Canon (txRefused s ref c) :=
  (Canon.ite h.hifDiscard.raiseGrey h.hifDiscard).writeBack

protected theorem Canon.txDescriptor {d : TxDesc} (h : Canon s) : Canon (txDescriptor s t d) := by
  grind [txDescriptor, Canon.takeDescriptor, Canon.txRefused, Canon.monIn, Canon.inc, Canon.injectTo]

protected theorem Canon.rxWriteBack {d : List Byte} (h : Canon s) : Canon (rxWriteBack s t d) := h.emit.put.coalesce

protected theorem Canon.rxDeliver {f : QFrame} {post : RxPost} (h : Canon s) : Canon (rxDeliver s n t f post) := by
  generalize hu : rxDeliver s n t f post = u
  unfold rxDeliver at hu
  generalize descTime s f.ing.raw = z at hu
  obtain ⟨ts, stale⟩ := z
  subst hu
  grind [Canon.frameLost, Canon.linkDiscard, Canon.hifDiscard, Canon.raiseGrey, Canon.rxWriteBack, Canon.emit, Canon.monOut, Canon.inc,
    Canon.tsqPush, CanonOpt, Canon.takePin, Canon.modHif, Canon.put, Canon.fate, Canon.relEntry]

protected theorem Canon.rxMessage {msg : List Byte} {post : RxPost} (h : Canon s) : Canon (rxMessage s t msg post) :=
  Canon.ite h.hifDiscard.rxWriteBack.raiseGrey h.emit.rxWriteBack.inc

protected theorem Canon.rxRelease (h : Canon s) : Canon (rxRelease s t i) := by
  grind [rxRelease, Canon.modHif, Canon.relPin, Canon.put, Canon]

protected theorem Canon.putWords {f : Nat → Fld} (h : Canon s) : Canon (putWords s f k bs) := h.foldl fun _ _ ht => ht.put
protected theorem Canon.p0Challenge (h : Canon s) : Canon (p0Challenge s) := Canon.ite h.put (Canon.ite h h.putWords.put.stepFree.modHif)
protected theorem Canon.p0Respond (h : Canon s) : Canon (p0Respond s) := h.modHif
protected theorem Canon.p0Verify (h : Canon s) : Canon (p0Verify s) := Canon.ite h (Canon.ite h.modHif.put.modHif h.modHif.put.modHif.raise)

protected theorem Canon.clearHif (h : Canon s) : Canon (execPerstNAssert.clearHif s) := by
  unfold Canon execPerstNAssert.clearHif
  dsimp only
  exact canonical_keep h _

/-! ### Cmc -/

protected theorem Canon.cmcDiscard (h : Canon s) : Canon (cmcDiscard s n l code) := h.discardOf

protected theorem Canon.mapRecord {frame : Bool} {r : List Byte} (h : Canon s) : CanonOpt (mapRecord s t frame r) := by
  grind [mapRecord, Canon, CanonOpt]

protected theorem Canon.tribOverrun (h : Canon s) : Canon (tribOverrun s n l) := h.cmcDiscard.statAdd.raiseGrey

protected theorem Canon.mapperHeld (h : Canon s) : Canon (mapperHeld s t) := by
  grind [mapperHeld, Canon.tribOverrun, Canon.foldl, Canon]

protected theorem Canon.mapOrderedSet (h : Canon s) : Canon (mapOrderedSet s n l) := by
  unfold mapOrderedSet
  split
  · exact h.mapRecord.getD h
  · exact h

protected theorem Canon.receivedSet {os : Nat} (h : Canon s) : Canon (receivedSet s n l os) :=
  Canon.ite h (Canon.ite h.modPort.mapOrderedSet h.modPort)

protected theorem Canon.setLink (h : Canon s) : Canon (setLink s n l v) :=
  Canon.ite (Canon.ite h.put.raiseGrey h.put).putB.putB.receivedSet.raiseGrey (Canon.ite h.put.raiseGrey h.put)

protected theorem Canon.laneDown (h : Canon s) : Canon (laneDown s n k) := h.putB.putB.putB
protected theorem Canon.portDown (h : Canon s) : Canon (portDown s n l) := (h.foldl fun _ _ ht => ht.laneDown).setLink

protected theorem Canon.streamDropped {ts : List Nat} {sealed : Bool} (h : Canon s) : Canon (streamDropped s n l ts sealed) :=
  ((h.foldl fun _ _ ht => (Canon.ite ht.put ht).upd).foldl fun _ _ ht => ht.cmcDiscard.statAdd).modPort

protected theorem Canon.portChanged {ts : List Nat} {sealed : Bool} (h : Canon s) : Canon (portChanged s n l ts sealed) := by
  grind [portChanged, Canon.statAdd, Canon.cmcDiscard, Canon.modPort, Canon.frameLost, Canon.put, Canon.portDown, Canon.streamDropped, Canon]

protected theorem Canon.portsDown (h : Canon s) : Canon (portsDown s n) := h.foldl fun _ _ ht => Canon.ite ht ht.portDown
protected theorem Canon.pauseRx {q : Nat} (h : Canon s) : Canon (pauseRx s n l p q) := Canon.ite h.put (Canon.ite h h.put)

protected theorem Canon.macControlRx (h : Canon s) : Canon (macControlRx s n l bs) :=
  Canon.ite h.pauseRx (Canon.ite (h.foldl fun _ _ ht => Canon.ite ht.pauseRx ht) h)

protected theorem Canon.frameRx {pcs : Bool} (h : Canon s) : Canon (frameRx s n l bs pcs) := by
  grind [frameRx, Canon.statAdd, Canon.sizeAdd, Canon.cmcDiscard, Canon.macControlRx, Canon.monIn, Canon.ingress]

protected theorem Canon.txLost {f : QFrame} (h : Canon s) : Canon (txLost s n l f bs code i) := h.cmcDiscard.statAdd.frameLost

protected theorem Canon.frameTx {f : QFrame} (h : Canon s) : Canon (frameTx s n l f bs) := by
  grind [frameTx, Canon.txLost, Canon.tcCorrect, Canon.emit, Canon.raiseGrey, Canon.statAdd, Canon.monOut, Canon.tsqPush, Canon.fate]

protected theorem Canon.serveRoot {x : SNode} {post : RxPost} (h : Canon s) : Canon (serveRoot s n m x post) := by
  grind [serveRoot, Canon.takeFrame, Canon.poisonDrop, Canon.relEntry, Canon.modPort, Canon.rxDeliver, Canon]

protected theorem Canon.transparentRx {err : Bool} (h : Canon s) : Canon (transparentRx s n l bs err) := by
  grind [transparentRx, Canon.sizeAdd, Canon.statAdd, Canon.mapRecord, Canon.tribOverrun, CanonOpt]

protected theorem Canon.demapFrame {data : List Byte} {err hurt : Bool} (h : Canon s) : Canon (demapFrame s n l data err hurt) :=
  Canon.ite h.emit.sizeAdd.statAdd.raiseGrey (Canon.ite h.emit.sizeAdd h.emit.sizeAdd.statAdd.statAdd.statAdd)

protected theorem Canon.demap (h : Canon s) : Canon (demap s n l) := by
  grind [demap, Canon.modPort, Canon.inc, Canon.demapFrame, Canon.emitSet, Canon]

/-! ### TableAccess -/

protected theorem Canon.emUse (h : Canon s) : Canon (emUse s n) := h.put
protected theorem Canon.setExact {ex : Tab ExSlot} (h : Canon s) : Canon (setExact s n ex) := h.modPrs.emUse

protected theorem Canon.exactWrite {act : Option Nat} {active other : Bool} (h : Canon s) : Canon (exactWrite s n t key act active other).1 := by
  unfold exactWrite
  grind [Canon.setExact, Canon.stepFree, Canon.raiseGrey]

protected theorem Canon.wipeTable (h : Canon s) : Canon (wipeTable s n t) := h.upd.setExact
protected theorem Canon.clearTable (h : Canon s) : Canon (clearTable s n t) := h.wipeTable.raiseGrey
protected theorem Canon.taResult (h : Canon s) : Canon (taResult s n code) := h.put.putB
protected theorem Canon.taPut {w : Nat} (h : Canon s) : Canon (taPut s n w k v) := h.foldl fun _ _ ht => ht.put
protected theorem Canon.taShow {mask act : Nat} {valid : Bool} (h : Canon s) : Canon (taShow s n key mask act valid) := h.taPut.taPut.put
protected theorem Canon.taModBank {f : Bank → Bank} (h : Canon s) : Canon (taModBank s staged f) := Canon.ite h.modStaged h.modBanks

protected theorem Canon.taModExact {act : Option Nat} (h : Canon s) : Canon (taModExact s n staged t key act).1 := by
  grind [taModExact, Canon.exactWrite, Canon.setLoaded]

protected theorem Canon.taRead (h : Canon s) : Canon (taRead s n staged) := by
  grind [taRead, Canon.taResult, Canon.taShow]

protected theorem Canon.taWrite (h : Canon s) : Canon (taWrite s n staged) := Canon.ite h.taResult (Canon.ite h.taResult h.taModBank.taResult)

protected theorem Canon.taInsert (h : Canon s) : Canon (taInsert s n staged) := by
  grind [taInsert, Canon.taResult, Canon.taModExact]

protected theorem Canon.taDelete (h : Canon s) : Canon (taDelete s n staged) := by
  grind [taDelete, Canon.taResult, Canon.taModExact, Canon.taModBank, Canon]

protected theorem Canon.taLookup (h : Canon s) : Canon (taLookup s n staged) := by
  grind [taLookup, Canon.taResult, Canon.put, Canon.taShow]

protected theorem Canon.taActRead (h : Canon s) : Canon (taActRead s n staged) := Canon.ite h.taResult h.taPut.taResult

protected theorem Canon.taActWrite (h : Canon s) : Canon (taActWrite s n staged) :=
  Canon.ite h.taResult (Canon.ite h.taResult h.taModBank.taResult)

protected theorem Canon.taOp {op : Nat} (h : Canon s) : Canon (taOp s n op staged) := by
  unfold taOp
  grind [Canon.taRead, Canon.taWrite, Canon.taInsert, Canon.taDelete, Canon.taLookup, Canon.taActRead, Canon.taActWrite]

protected theorem Canon.taRun {op : Nat} (h : Canon s) : Canon (taRun s n op staged) :=
  Canon.ite h.put (Canon.ite h.put.putB.modPrs.putB h.put.putB.taOp)

protected theorem Canon.taResume (h : Canon s) : Canon (taResume s n) := by
  grind [taResume, Canon.taOp, Canon.modPrs, Canon]

/-! ### CommitRegion -/

protected theorem Canon.commitPorts {sealed : Bool} (h : Canon s) : Canon (commitPorts s old n sealed) := by
  grind [commitPorts, Canon.showFault, Canon.portChanged, Canon.laneDown, Canon.sendStanding, Canon.foldl]

protected theorem Canon.newWeight {old new : Nat} (h : Canon s) : Canon (newWeight s n m key old new) := Canon.ite h h.modTmg

protected theorem Canon.newShaper {i : Option Nat} (h : Canon s) : Canon (newShaper s n key i) := by
  grind [newShaper, Canon.offWheel, Canon.onWheel]

protected theorem Canon.commitShapers (h : Canon s) : Canon (commitShapers s old n) :=
  (h.foldl fun _ _ ht => Canon.ite ht ht.newShaper).foldl fun _ _ ht => Canon.ite ht ht.newShaper

protected theorem Canon.commitQueues (h : Canon s) : Canon (commitQueues s old n) := by
  grind [commitQueues, Canon.flushQueue, Canon.modTmg, Canon.newWeight, Canon.emptied, Canon.foldl, Canon]

protected theorem Canon.commitNodes (h : Canon s) : Canon (commitNodes s old n) := by
  grind [commitNodes, Canon.newWeight, Canon.foldl]

protected theorem Canon.commitMeters (h : Canon s) : Canon (commitMeters s old n) := h.foldl fun _ _ ht => Canon.ite ht.meterApply ht
protected theorem Canon.clearOld (h : Canon s) : Canon (clearOld s n t) := h.modOther.setExact
protected theorem Canon.commitTables (h : Canon s) : Canon (commitTables s old m n) := h.foldl fun _ _ ht => Canon.ite ht.clearOld ht.wipeTable

protected theorem Canon.regionTakes (h : Canon s) : Canon (regionTakes s old m n) := by
  grind [regionTakes, Canon.commitPorts, Canon.commitNodes, Canon.commitQueues, Canon.raiseGrey, Canon.commitMeters, Canon.commitShapers,
      Canon.updateLevel, Canon.foldl]

protected theorem Canon.owe (h : Canon s) : Canon (owe s old m n) := h

protected theorem Canon.owedTaken (h : Canon s) : Canon (owedTaken s n) := by
  grind [owedTaken, Canon.regionTakes, Canon]

/-! ### Mem -/

protected theorem Canon.showChannel {d : Option Dimm} {used : Bool} (h : Canon s) : Canon (showChannel s n c d used) := by
  unfold showChannel
  grind [Canon.putB, Canon.put]

protected theorem Canon.memTrained {dimms : List (Option Dimm)} (h : Canon s) : Canon (memTrained s n dimms) := by
  grind [memTrained, Canon.putB, Canon.showChannel, Canon.put, Canon.raiseGrey, Canon.foldl]

protected theorem Canon.poisonBufs {p : Buf → Bool} (h : Canon s) : Canon (poisonBufs s n p) := h.modBpm
protected theorem Canon.quarantine (h : Canon s) : Canon (quarantine s n t k) := Canon.ite h.addTo.raise h.addTo

protected theorem Canon.poisonCell (h : Canon s) : Canon (poisonCell s n u) := by
  grind [poisonCell, Canon.modBpm, Canon.quarantine, Canon.poisonBufs, Canon.uncharge, Canon]

protected theorem Canon.poisonUnit (h : Canon s) : Canon (poisonUnit s n t u) := by
  grind [poisonUnit, Canon.uncharge, Canon.modBpm, Canon.quarantine, Canon.poisonBufs, Canon]

protected theorem Canon.uncorrectable (h : Canon s) : Canon (uncorrectable s n t u) := Canon.ite h.poisonCell h.poisonUnit

protected theorem Canon.channelFail (h : Canon s) : Canon (channelFail s n c) :=
  h.putB.putB.poisonBufs.putB.put.put.put.modBpm.put.updateLevel.raiseAt.contained

protected theorem Canon.channelError (h : Canon s) : Canon (channelError s n c) := Canon.ite h.modPkt.channelFail h.modPkt

protected theorem Canon.scrub {ce : Nat} {bad : Option Nat} {pct : Nat} {pass : Bool} (h : Canon s) : Canon (scrub s n t c ce bad pct pass) := by
  unfold scrub
  grind [Canon.monCount, Canon.addTo, Canon.raiseGrey, Canon.raiseAt, Canon.put, Canon.inc, Canon.uncorrectable, Canon.channelError]

/-! ### Retain -/

protected theorem Canon.modAid {f : AidProt → AidProt} (h : Canon s) : Canon (modAid s a f) := h
protected theorem Canon.showAid (h : Canon s) : Canon (showAid s a) := h.put.put.putB

/-! ### PwrRegion -/

protected theorem Canon.resetWords {where_ : Nat → Bool} {keep : Nat → RegRow → FieldRow → Bool} (h : Canon s) : Canon (resetWords s where_ keep) :=
  h.foldl fun _ _ ht => Canon.ite ht.wrWord ht

protected theorem Canon.resetLive {where_ : Nat → Bool} (h : Canon s) : Canon (resetLive s where_) := h
protected theorem Canon.dropRetained (h : Canon s) : Canon (dropRetained s n) := h.foldl fun _ _ ht => ht.modAid.showAid

protected theorem Canon.packetReset {retrain : Bool} (h : Canon s) : Canon (packetReset s n retrain) := by
  grind [packetReset, Canon.resetWords, Canon.resetLive, Canon.modPkt, Canon.meterApply, Canon.showFaults, Canon.tsqEmpty, Canon.dropRetained,
      Canon.foldl, Canon]

protected theorem Canon.pwrResult {step : Nat} (h : Canon s) : Canon (pwrResult s code block step) := h.put.put.put
protected theorem Canon.modRegionPwr {f : RegionPwr → RegionPwr} (h : Canon s) : Canon (modRegionPwr s n f) := h

protected theorem Canon.releaseHeld (h : Canon s) : Canon (releaseHeld s n) := by
  grind [releaseHeld, Canon.dropHeld, Canon.lineFrame, Canon.enqueueFor, Canon.foldl, Canon]

protected theorem Canon.entryStep (h : Canon s) : Canon (entryStep s n k) :=
  Canon.ite (Canon.ite h.put.putB h.put).dropHeld (Canon.ite h.put.putB h.put)

protected theorem Canon.pwrLast {aborted : Bool} {step : Nat} (h : Canon s) : Canon (pwrLast s n block aborted step) := h.put.putB.put

protected theorem Canon.entryUndo {step : Nat} (h : Canon s) : Canon (entryUndo s n code step) :=
  h.pwrResult.putB.put.put.putB.upd.inc.pwrLast.releaseHeld.portsDown.raiseGrey

protected theorem Canon.startEntry (h : Canon s) : Canon (startEntry s n t) := by
  grind [startEntry, Canon.pwrLast, Canon.inc, Canon.pwrResult, Canon.raiseGrey, Canon.modRegionPwr, Canon.putB, Canon.put, Canon.entryStep, Canon]

protected theorem Canon.startExit {k : ExitKind} (h : Canon s) : Canon (startExit s n k) := h.put.putB.put.modRegionPwr.tokenRequest
protected theorem Canon.releasePads (h : Canon s) : Canon (releasePads s n) := Canon.ite h.putB.portsDown.sendStandings h

protected theorem Canon.wake (h : Canon s) : Canon (wake s n) :=
  Canon.ite (Canon.ite h.modRegionPwr h) (Canon.ite h (Canon.ite h.put.portsDown (Canon.ite h.startExit (Canon.ite h.startExit h))))

protected theorem Canon.powerRequest (h : Canon s) : Canon (powerRequest s n t) := by
  grind [powerRequest, Canon.pwrResult, Canon.wake, Canon.startEntry, Canon.modRegionPwr, Canon]

protected theorem Canon.entryEnd (h : Canon s) : Canon (entryEnd s n) := by
  grind [entryEnd, Canon.pwrResult, Canon.put, Canon.putB, Canon.releaseHeld, Canon.packetReset, Canon.wake, Canon]

protected theorem Canon.entryDone (h : Canon s) : Canon (entryDone s n) :=
  Canon.ite h (Canon.ite h (Canon.ite (Canon.ite h.entryUndo h.entryEnd) (Canon.ite h.entryUndo h.entryStep)))

protected theorem Canon.exitEnd {kind : ExitKind} (h : Canon s) : Canon (exitEnd s n kind) := by
  grind [exitEnd, Canon.put, Canon.putB, Canon.owedTaken, Canon.sendStandings, Canon.portsDown, Canon.modFlt, Canon.powerRequest, Canon]

protected theorem Canon.exitDone (h : Canon s) : Canon (exitDone s n) := by
  grind [exitDone, Canon.exitEnd, Canon.tokenRelease, Canon.modRegionPwr, Canon]

protected theorem Canon.pwrRequest (h : Canon s) : Canon (pwrRequest r n t s) := by
  grind [pwrRequest, Canon.onWrite, Canon.inc, Canon.powerRequest, Canon.put]

protected theorem Canon.padRelease (h : Canon s) : Canon (padRelease r n s) := h.onWrite fun _ ht => ht.releasePads

protected theorem Canon.memoryTraining {dimms : List (Option Dimm)} (h : Canon s) : Canon (memoryTraining s n dimms) := by
  grind [memoryTraining, Canon.memTrained, Canon.put, Canon.putB, Canon.packetReset, Canon]

/-! ### Windows -/

protected theorem Canon.windowArm {w : Nat} (h : Canon s) : Canon (windowArm s w) := by
  grind [windowArm, Canon.disarm, Canon.put, Canon.armAt]

protected theorem Canon.windowRenumbered {w : Nat} (h : Canon s) : Canon (windowRenumbered s w) := Canon.ite h.windowArm h.put

protected theorem Canon.windowStart {w : Nat} (h : Canon s) : Canon (windowStart s w fn) :=
  ((h.foldl fun _ _ ht => ht.put).foldl fun _ _ ht => Canon.ite ht.modPkt ht).put.armAt

protected theorem Canon.windowEnd {w : Nat} (h : Canon s) : Canon (windowEnd s w) :=
  ((h.foldl fun _ _ ht => ht.put).put.foldl fun _ _ ht => ht.raiseGrey).raiseGrey

/-! ### EpcCommit -/

protected theorem Canon.epcResult {detail : Nat} (h : Canon s) : Canon (epcResult s code detail) := h.put.put
protected theorem Canon.setEpc (h : Canon s) : Canon (setEpc s v) := h.put
protected theorem Canon.setQuiesced {x : Scope} (h : Canon s) : Canon (setQuiesced s x) := h.upd.putB
protected theorem Canon.releaseChan (h : Canon s) : Canon (releaseChan s p) := h.setQuiesced
protected theorem Canon.quiesceBegin (h : Canon s) : Canon (quiesceBegin s) := h.setQuiesced.foldl fun _ _ ht => Canon.ite ht.dropHeld ht
protected theorem Canon.releaseAtInstant (h : Canon s) : Canon (releaseAtInstant s) := h.setQuiesced

protected theorem Canon.armSchedule (h : Canon s) : Canon (armSchedule s k) := by
  grind [armSchedule, Canon.put, Canon.disarm, Canon.raiseGrey, Canon.armAt]

protected theorem Canon.scheduleFire {old : State} (h : Canon s) : Canon (scheduleFire old s k) := Canon.ite h.pwrResult h.upd.powerRequest
protected theorem Canon.ringToZero (h : Canon s) : Canon (ringToZero s a) := h.foldl fun _ _ ht => Canon.ite ht.wrWord ht

protected theorem Canon.commitRings (h : Canon s) : Canon (commitRings s old) :=
  h.foldl fun _ _ ht => Canon.ite (Canon.ite ht.stopTx.ringToZero ht).stopRx.ringToZero (Canon.ite ht.stopTx.ringToZero ht)

protected theorem Canon.commitEffects (h : Canon s) : Canon (commitEffects s old m) := by
  grind [commitEffects, Canon.commitTables, Canon.owe, Canon.regionTakes, Canon.tsuCommit, Canon.armSchedule, Canon.windowArm, Canon.commitRings,
      Canon.foldl]

protected theorem Canon.lineBegin (h : Canon s) : Canon (lineBegin s m fn) := h

protected theorem Canon.switchBanks (h : Canon s) : Canon (switchBanks s m fn) :=
  (Canon.ite h h.lineBegin).supersede.activate.upd.commitEffects

protected theorem Canon.scopeEmpties (h : Canon s) : Canon (scopeEmpties s) := h.foldl fun _ _ ht => Canon.ite ht.drainPipes ht

protected theorem Canon.commitInstant (h : Canon s) : Canon (commitInstant s) :=
  h.scopeEmpties.putB.inc.put.put.upd.switchBanks.setEpc.releaseAtInstant

protected theorem Canon.drainBound (h : Canon s) : Canon (drainBound s) := Canon.ite (h.raiseGrey.foldl fun _ _ ht => ht.regionFault) h
protected theorem Canon.restartBound (h : Canon s) : Canon (restartBound s) := Canon.ite h (h.raiseGrey.foldl fun _ _ ht => ht.scopeLane)

protected theorem Canon.unarm (h : Canon s) : Canon (unarm s) := by
  grind [unarm, Canon.setQuiesced, Canon.activateLine, Canon.laneRetarget, Canon.foldl, Canon]

protected theorem Canon.epcReturned (h : Canon s) : Canon (epcReturned s) := Canon.ite h.unarm.setEpc.raiseGrey h

/-! ### AlarmActs -/

protected theorem Canon.snapComplete (h : Canon s) : Canon (snapComplete s) := by
  grind [snapComplete, Canon.modPkt, Canon.put, Canon.inc, Canon.foldl, Canon]

protected theorem Canon.latch {second : Bool} (h : Canon s) : Canon (latch s c second) :=
  (h.snapComplete.foldl fun _ _ ht => Canon.ite ht ht.raiseGrey)

protected theorem Canon.secondLatch (h : Canon s) : Canon (secondLatch s c) := by
  grind [secondLatch, Canon.latch, Canon.evalSd, Canon.report, Canon.foldl, Canon]

protected theorem Canon.progLatch {old : State} (h : Canon s) : Canon (progLatch old s c) := Canon.ite h (Canon.ite h.inc h.latch)

protected theorem Canon.moduleAct {old : State} (h : Canon s) : Canon (moduleAct old s k c) := by
  grind [moduleAct, Canon.commitInstant, Canon.quiesceBegin, Canon.drainBound, Canon.restartBound, Canon.secondLatch, Canon.progLatch,
      Canon.windowStart, Canon.windowEnd, Canon.scheduleFire]

protected theorem Canon.markFired {late : Bool} (h : Canon s) : Canon (markFired s k late) :=
  Canon.ite (Canon.ite h.put.putB h.put.putB.put.put).put (Canon.ite h.put.putB h.put.putB.put.put)

protected theorem Canon.fireTogether {l : List Nat} {late : Bool} (h : Canon s) : Canon (fireTogether s l c late) :=
  (h.reach.foldl fun _ _ ht => ht.markFired).foldl fun _ _ ht => ht.moduleAct

protected theorem Canon.dispatchTo {late : Bool} (h : Canon s) : Canon (dispatchTo s c late fuel) := by
  induction fuel generalizing s with
  | zero => exact h
  | succ fuel ih => grind [dispatchTo, Canon.fireTogether]

protected theorem Canon.stepTo (h : Canon s) : Canon (stepTo s c fuel) := h.dispatchTo.reach

/-! ### LcyBase -/

protected theorem Canon.modLcy {f : Lcy → Lcy} (h : Canon s) : Canon (modLcy s f) := h

protected theorem Canon.slotPut {key : Option (List Byte)} (h : Canon s) : Canon (slotPut s k key) :=
  Canon.ite (Canon.ite h.putB h).modLcy.putB.inc (Canon.ite h.putB h).modLcy.putB

protected theorem Canon.kstAnswer {c : KstCmd} (h : Canon s) : Canon (kstAnswer s c) := (Canon.ite h.slotPut h).put

protected theorem Canon.kstRun (h : Canon s) : Canon (kstRun s fuel) := by
  induction fuel generalizing s with
  | zero => exact h
  | succ fuel ih => grind [kstRun, Canon.modLcy, Canon.kstAnswer, Canon.slotPut, Canon]

protected theorem Canon.kstServe (h : Canon s) : Canon (kstServe s) := h.kstRun
protected theorem Canon.slotCommand {key : Option (List Byte)} (h : Canon s) : Canon (slotCommand s k key) := h.modLcy.kstServe
protected theorem Canon.slotDrained (h : Canon s) : Canon (slotDrained s k) := h.modLcy.putB.put.kstServe
protected theorem Canon.ctxBlank (h : Canon s) : Canon (ctxBlank s q up i) := h.wrWord.put.put.modLcy
protected theorem Canon.ctxClear (h : Canon s) : Canon (ctxClear s q up i) := h.ctxBlank.modLcy
protected theorem Canon.ctxEpoch (h : Canon s) : Canon (ctxEpoch s q up i fn) := h.ctxBlank.putB.put

protected theorem Canon.allCtx {f : State → Bool → Nat → State} (h : Canon s) (hf : ∀ t up i, Canon t → Canon (f t up i)) :
    Canon (allCtx s f) :=
  h.foldl fun _ _ ht => ht.foldl fun _ _ ht1 => hf _ _ _ ht1

protected theorem Canon.clearEpochs (h : Canon s) : Canon (clearEpochs s q) := (h.allCtx fun _ _ _ ht => ht.ctxClear).put
protected theorem Canon.t4Epochs (h : Canon s) : Canon (t4Epochs s q fn) := h.clearEpochs.ctxEpoch.ctxEpoch
protected theorem Canon.exhaust (h : Canon s) : Canon (exhaust s q up i) := h.putB.raiseGrey

protected theorem Canon.exhaustPath {old new : Nat} (h : Canon s) : Canon (exhaustPath s q old new) :=
  h.allCtx fun _ _ _ ht => Canon.ite ht.put.putB.modLcy.exhaust ht.put.putB.modLcy

protected theorem Canon.rekeyReq (h : Canon s) : Canon (rekeyReq s q up i) := h.modAct.modLcy

protected theorem Canon.ctxUse {group : Nat} (h : Canon s) : Canon (ctxUse s q up i group fn) :=
  Canon.ite h.put.modLcy.putB.raise.rekeyReq h.put.modLcy

protected theorem Canon.ctxRefused (h : Canon s) : Canon (ctxRefused s q up i fn) := by
  unfold ctxRefused
  split
  · exact h
  · split
    · exact h.exhaust
    · exact h

protected theorem Canon.cachePut {d : Derived} (h : Canon s) : Canon (cachePut s d) := by
  grind [cachePut, Canon.put, Canon.modLcy, Canon]

protected theorem Canon.lcyDiscard (h : Canon s) : Canon (lcyDiscard s ids code) := h.discardOf

/-! ### Ltu -/

protected theorem Canon.modLtu {f : Ltu → Ltu} (h : Canon s) : Canon (modLtu s f) := h

protected theorem Canon.showSlew (h : Canon s) : Canon (showSlew s) := by
  grind [showSlew, Canon.putI]

protected theorem Canon.setModule (h : Canon s) : Canon (setModule s c) := h.modLtu.put.put

protected theorem Canon.useAnn (h : Canon s) : Canon (useAnn s) := by
  grind [useAnn, Canon.raiseGrey, Canon.modLtu, Canon.putB, Canon]

protected theorem Canon.armSecond (h : Canon s) : Canon (armSecond s) := h.disarm.armAt

protected theorem Canon.updateRef (h : Canon s) : Canon (updateRef s q) := by
  cases q <;> grind [updateRef, Canon.modLtu, Canon.put, Canon]

protected theorem Canon.setLead (h : Canon s) : Canon (setLead s q) := (Canon.ite h.put.modLtu.put.raiseGrey h.put.modLtu.put).useAnn

protected theorem Canon.renumber (h : Canon s) : Canon (renumber s c) := by
  grind [renumber, Canon.setModule, Canon.disarm, Canon.loseBurst, Canon.modLtu, Canon.epcReturned, Canon.armSecond, Canon.putB,
      Canon.windowRenumbered, Canon.rearmLane, Canon.exhaustPath, Canon.raise, Canon.tsuRenumbered, Canon.foldl, Canon]

protected theorem Canon.measureOffset (h : Canon s) : Canon (measureOffset s q) :=
  Canon.ite (Canon.ite h.renumber.putI.putI h.putI.showSlew) h.putI

protected theorem Canon.newLock (h : Canon s) : Canon (newLock s q) := h.modLtu
protected theorem Canon.noteFrame (h : Canon s) : Canon (noteFrame s q n fn) := h.modLtu
protected theorem Canon.enterHoldover (h : Canon s) : Canon (enterHoldover s q) := h.modLtu.putB.put.put.putI.raiseGrey

protected theorem Canon.pathLost (h : Canon s) : Canon (pathLost s q) := by
  grind [pathLost, Canon.updateRef, Canon.putB, Canon.disarm, Canon.modLtu, Canon.enterHoldover, Canon.foldl, Canon]

protected theorem Canon.reacquire (h : Canon s) : Canon (reacquire s q c) := by
  grind [reacquire, Canon.raiseGrey, Canon.setLead, Canon.measureOffset, Canon.putI, Canon.renumber, Canon.setModule, Canon.stepTo, Canon.putB,
      Canon.modLtu, Canon]

protected theorem Canon.pathGained (h : Canon s) : Canon (pathGained s q c) := by
  grind [pathGained, Canon.newLock, Canon.setPathTime, Canon.updateRef, Canon.putB, Canon.putI, Canon.setModule, Canon.modLtu, Canon.setLead,
      Canon.armSecond, Canon.reacquire, Canon.measureOffset, Canon]

protected theorem Canon.ltuLocks (h : Canon s) : Canon (ltuLocks s q) := Canon.ite h.updateRef (Canon.ite h.pathLost h)

protected theorem Canon.ltuFrame (h : Canon s) : Canon (ltuFrame s p fn) := by
  grind [ltuFrame, Canon.updateRef, Canon.pathGained, Canon.noteFrame, Canon.setPathTime, Canon.reach, Canon.tsuFrame, Canon.measureOffset]

protected theorem Canon.frameBoundary (h : Canon s) : Canon (frameBoundary s) := by
  grind [frameBoundary, Canon.setModule, Canon.modLtu, Canon.showSlew, Canon.putI, Canon.put, Canon.incSat, Canon]

protected theorem Canon.toPathBoundary (h : Canon s) : Canon (toPathBoundary s q) := Canon.ite h h.setPathTime

protected theorem Canon.takeLead (h : Canon s) : Canon (takeLead s) := by
  grind [takeLead, Canon.modLtu, Canon.setLead, Canon.toPathBoundary, Canon.measureOffset, Canon]

protected theorem Canon.leadRevert (h : Canon s) : Canon (leadRevert s) := by
  grind [leadRevert, Canon.takeLead, Canon.modLtu, Canon]

protected theorem Canon.freezeEnd (h : Canon s) : Canon (freezeEnd s) := by
  grind [freezeEnd, Canon.modLtu, Canon.putB, Canon.reach, Canon.measureOffset, Canon]

protected theorem Canon.takeOffset (h : Canon s) : Canon (takeOffset s) := by
  grind [takeOffset, Canon.reach, Canon.modLtu, Canon.put, Canon.raiseGrey, Canon]

protected theorem Canon.announce {a : SecAnn} (h : Canon s) : Canon (announce s q a) := by
  unfold announce
  grind [Canon.put, Canon.modLtu, Canon.useAnn, Canon.tsuAnnounced, Canon]

/-! ### ActBase -/

protected theorem Canon.queueLcm {c : LcmClass} {typ : Nat} {body : List Byte} (h : Canon s) : Canon (queueLcm s q c typ body) := h.modAct

protected theorem Canon.putHome {valid : Bool} (h : Canon s) : Canon (putHome s q n valid) := by
  cases q <;> grind [putHome, Canon.putB, Canon.put]

protected theorem Canon.assignHome (h : Canon s) : Canon (assignHome s q n) := h.putHome.putB.modAct.updateRef

protected theorem Canon.showGasp (h : Canon s) : Canon (showGasp s q) := by
  cases q <;> grind [showGasp, Canon.putB]

protected theorem Canon.preloadGasp (h : Canon s) : Canon (preloadGasp s q) := by
  cases q <;> grind [preloadGasp, Canon]

protected theorem Canon.dropUpTrib (h : Canon s) : Canon (dropUpTrib s t) := h.wrWord.wrWord

protected theorem Canon.dropTribs (h : Canon s) : Canon (dropTribs s q) :=
  ((h.foldl fun _ _ ht => ht.dropDownTrib).foldl fun _ _ ht => ht.dropUpTrib)

protected theorem Canon.clearEqds (h : Canon s) : Canon (clearEqds s q) := h.foldl fun _ _ ht => Canon.ite ht ht.wrWord
protected theorem Canon.forgetSecrets (h : Canon s) : Canon (forgetSecrets s q) := h.modAct

protected theorem Canon.unregister (h : Canon s) : Canon (unregister s q) := by
  unfold unregister
  grind [Canon.clearEqds, Canon.wrWord, Canon.dropTribs, Canon.putB, Canon.slotCommand, Canon.modAct, Canon.updateRef, Canon.forgetSecrets]

protected theorem Canon.listen (h : Canon s) : Canon (listen s q) := by
  grind [listen, Canon.putHome]

protected theorem Canon.putAct {st : Nat} (h : Canon s) : Canon (putAct s q st) :=
  Canon.ite h (Canon.ite h.put.raiseGrey.preloadGasp.modAct h.put.raiseGrey).showGasp

protected theorem Canon.actReturn {st : Nat} (h : Canon s) : Canon (actReturn s q st cause) := by
  grind [actReturn, Canon.unregister, Canon.put, Canon.clearEpochs, Canon.putAct, Canon.forgetSecrets, Canon.modAct, Canon.listen, Canon]

protected theorem Canon.putHeld {y : Bool} (h : Canon s) : Canon (putHeld s q y) := by
  cases q <;> grind [putHeld, Canon.putB, Canon]

protected theorem Canon.actHold (h : Canon s) : Canon (actHold s q) := h.putHeld.put.forgetSecrets.putAct.raiseGrey
protected theorem Canon.actRelease (h : Canon s) : Canon (actRelease s q) := Canon.ite h.putHeld.actReturn h
protected theorem Canon.authFail (h : Canon s) : Canon (authFail s q) := h.actReturn.raise

protected theorem Canon.actDown (h : Canon s) : Canon (actDown s q) :=
  Canon.ite (Canon.ite h.putAct.listen h) (Canon.ite h.actReturn (Canon.ite h.putAct h))

protected theorem Canon.actDisabled (h : Canon s) : Canon (actDisabled s q) := Canon.ite h.actReturn h
protected theorem Canon.clearApr (h : Canon s) : Canon (clearApr s q) := h.putB

/-! ### Bnd -/

protected theorem Canon.dfrDiscard (h : Canon s) : Canon (dfrDiscard s ids code) := h.discardOf
protected theorem Canon.bndDiscard (h : Canon s) : Canon (bndDiscard s ids code) := h.discardOf
protected theorem Canon.fragDiscard (h : Canon s) : Canon (fragDiscard s ids code) := Canon.ite h.bndDiscard h.dfrDiscard
protected theorem Canon.showCtxs (h : Canon s) : Canon (showCtxs s) := h.put.put

protected theorem Canon.dfrReassemble {g : Seg} (h : Canon s) : Canon (dfrReassemble s g).1 := by
  grind [dfrReassemble, Canon.fragDiscard, Canon.showCtxs, Canon.foldl, Canon]

protected theorem Canon.bndReassemble {g : Seg} (h : Canon s) : Canon (bndReassemble s k g).1 := by
  grind [bndReassemble, Canon.fragDiscard, Canon.foldl, Canon]

protected theorem Canon.markGroup (h : Canon s) : Canon (markGroup s q k) := h
protected theorem Canon.markChain (h : Canon s) : Canon (markChain s q k sid code) := h

protected theorem Canon.bndReassembleAll {l : List Released} (h : Canon s) : Canon (bndReassembleAll s q k l).1 := by
  grind [bndReassembleAll, Canon.markGroup, Canon.markChain, Canon.bndReassemble, Canon.monOut, Canon.foldl, Canon.foldlFst]

protected theorem Canon.modGroup {f : BndGroup → BndGroup} (h : Canon s) : Canon (modGroup s q k f) := h

protected theorem Canon.showGroup (h : Canon s) : Canon (showGroup s q k) := by
  unfold showGroup
  grind [Canon.put, Canon.putB, Canon.putMax, Canon.foldl]

protected theorem Canon.groupAdvance (h : Canon s) : Canon (groupAdvance s q k v n) := h.put.putB.put

protected theorem Canon.bndRelease {first : List Seg} {rp : Nat} (h : Canon s) : Canon (bndRelease s q k first rp).1 := by
  grind [bndRelease, Canon.modGroup, Canon.showGroup, Canon.groupAdvance, Canon]

protected theorem Canon.bndLost {g : Seg} (h : Canon s) : Canon (bndLost s k g v code) := Canon.ite (Canon.ite h.modGroup h) h.markChain

protected theorem Canon.bndSkip (h : Canon s) : Canon (bndSkip s q k).1 := by
  grind [bndSkip, Canon.addTo, Canon.modGroup, Canon.bndRelease, Canon.raiseGrey, Canon]

protected theorem Canon.bndFlush (h : Canon s) : Canon (bndFlush s q k fuel).1 := by
  induction fuel generalizing s with
  | zero => exact h
  | succ fuel ih => grind [bndFlush, Canon.bndSkip]

protected theorem Canon.bndResync (h : Canon s) : Canon (bndResync s q k).1 := by
  grind [bndResync, Canon.bndFlush, Canon.modGroup, Canon.putB, Canon.put, Canon.raiseGrey, Canon.inc, Canon]

protected theorem Canon.bndStray (h : Canon s) : Canon (bndStray s q k).1 := by
  grind [bndStray, Canon.modGroup, Canon.bndResync, Canon]

protected theorem Canon.bndLate {chan : Nat} {counted : Bool} (h : Canon s) : Canon (bndLate s q k chan counted).1 := by
  grind [bndLate, Canon.greyOf, Canon.bndDiscard, Canon.bndStray, Canon.inc]

protected theorem Canon.bndLag {at_ : Nat} (h : Canon s) : Canon (bndLag s q k v at_) := h.putMax.modGroup

protected theorem Canon.bndArrival {g : Seg} (h : Canon s) : Canon (bndArrival s k g v).1 := by
  have hg : Canon (bndLag s g.path k v (cwCount g.fn g.cw)) := h.bndLag
  unfold bndArrival
  dsimp only
  split
  · exact h.modGroup.bndRelease
  split
  · exact h.bndLate
  split
  · exact hg.bndLate
  split
  · exact hg.modGroup.bndRelease
  split
  · exact hg.bndLate
  split
  · exact hg.bndDiscard.greyOf.bndStray
  · exact hg.modGroup.showGroup

protected theorem Canon.bndSegment {g : Seg} (h : Canon s) : Canon (bndSegment s g).1 := by
  grind [bndSegment, Canon.dfrReassemble, Canon.bndDiscard, Canon.bndArrival, Canon.bndReassembleAll]

protected theorem Canon.bondMember (h : Canon s) : Canon (bondMember s q k n up) := h.greyOf.queueLcm

protected theorem Canon.bndMembers (h : Canon s) : Canon (bndMembers s q k) :=
  Canon.ite h (h.put.put.foldl fun _ _ ht => Canon.ite ht ht.bondMember)

protected theorem Canon.bndUpdate (h : Canon s) : Canon (bndUpdate s q) := h.foldl fun _ _ ht => ht.bndMembers

/-! ### Pth -/

protected theorem Canon.deliverUnit {u : Unit_} (h : Canon s) : Canon (deliverUnit s u) := by
  grind [deliverUnit, Canon.dfrDiscard, Canon.overLink, Canon.monCount, Canon.lineFrame]

protected theorem Canon.modMerge {f : MergeGroup → MergeGroup} (h : Canon s) : Canon (modMerge s k f) := h
protected theorem Canon.showMerge (h : Canon s) : Canon (showMerge s k) := h.putB.putB.putB.put

protected theorem Canon.mergeOut {u : Unit_} (h : Canon s) : Canon (mergeOut s k u v) := by
  grind [mergeOut, Canon.put, Canon.putB, Canon.deliverUnit]

protected theorem Canon.mergeRun (h : Canon s) : Canon (mergeRun s k fuel) := by
  induction fuel generalizing s with
  | zero => exact h
  | succ fuel ih => grind [mergeRun, Canon.modMerge, Canon.mergeOut, Canon]

protected theorem Canon.mergeSkip (h : Canon s) : Canon (mergeSkip s k) := by
  grind [mergeSkip, Canon.addTo, Canon.modMerge, Canon.put, Canon.showMerge, Canon.mergeRun, Canon]

protected theorem Canon.closeGaps (h : Canon s) : Canon (closeGaps s k fuel) := by
  induction fuel generalizing s with
  | zero => exact h
  | succ fuel ih => grind [closeGaps, Canon.mergeSkip]

protected theorem Canon.mergeResync (h : Canon s) : Canon (mergeResync s k fuel) := by
  induction fuel generalizing s with
  | zero => exact h
  | succ fuel ih => grind [mergeResync, Canon.putB, Canon.put, Canon.showMerge, Canon.modMerge, Canon.mergeOut, Canon]

protected theorem Canon.fitStore (h : Canon s) : Canon (fitStore s fuel) := by
  induction fuel generalizing s with
  | zero => exact h
  | succ fuel ih => grind [fitStore, Canon.mergeSkip, Canon.raiseGrey, Canon.inc]

protected theorem Canon.mergeValue {u : Unit_} (h : Canon s) : Canon (mergeValue s k u v) := by
  unfold mergeValue
  extract_lets _ _ _ _ s1 s2 s3 s4 s5
  have h1 : Canon s1 := h.modMerge
  have h2 : Canon s2 := h1.pthDiscard.modMerge
  have h3 : Canon s3 := h1.modMerge
  have h4 : Canon s4 := h3.modMerge
  have h5 : Canon s5 :=
    Canon.ite h3.mergeOut.mergeRun (Canon.ite (Canon.ite h3.pthDiscard h4.fitStore) (Canon.ite h3.pthDiscard h3.pthDiscard))
  exact Canon.ite (Canon.ite h2.mergeResync h2.closeGaps.showMerge) h5.closeGaps.showMerge

protected theorem Canon.pthUnit {u : Unit_} (h : Canon s) : Canon (pthUnit s u) := by
  grind [pthUnit, Canon.monCount, Canon.deliverUnit, Canon.pthDiscard, Canon.mergeValue]

protected theorem Canon.pthUnits {l : List Unit_} (h : Canon s) : Canon (pthUnits s l) := h.foldl fun _ _ ht => ht.pthUnit
protected theorem Canon.pthMerges (h : Canon s) : Canon (pthMerges s) := h.foldl fun _ _ ht => ht.closeGaps.showMerge
protected theorem Canon.releaseSegs {l : List UpSeg} (h : Canon s) : Canon (releaseSegs s l) := h.foldl fun _ _ ht => ht.relRet
protected theorem Canon.releaseRetained {gone : UpSeg → Bool} (h : Canon s) : Canon (releaseRetained s a gone) := h.releaseSegs.modAid.showAid
protected theorem Canon.setCopies {l : List UpSeg} (h : Canon s) : Canon (setCopies s a q l) := h.modAid.showAid
protected theorem Canon.dlDrop (h : Canon s) : Canon (dlDrop s a n) := Canon.ite h h.addTo.greyOf
protected theorem Canon.dropCopies {gone : UpSeg → Bool} (h : Canon s) : Canon (dropCopies s a q gone) := Canon.ite h.setCopies.dlDrop h
protected theorem Canon.expireCopies (h : Canon s) : Canon (expireCopies s) := h.foldl fun _ _ ht => ht.dropCopies.dropCopies
protected theorem Canon.restartSequences (h : Canon s) : Canon (restartSequences s) := h.foldl fun _ _ ht => Canon.ite ht ht.put.put.modAid

/-! ### Switch -/

protected theorem Canon.modPth {f : Pth → Pth} (h : Canon s) : Canon (modPth s f) := h

protected theorem Canon.startResend {resend : Bool} (h : Canon s) : Canon (startResend s resend) :=
  h.foldl fun _ _ ht => Canon.ite ht.modAid.showAid ht

protected theorem Canon.switchTo {resend : Bool} (h : Canon s) : Canon (switchTo s q resend cause) := by
  grind [switchTo, Canon.modPth, Canon.putB, Canon.put, Canon.inc, Canon.raiseGrey, Canon.queueLcm, Canon.startResend, Canon.servedUpdate, Canon]

protected theorem Canon.startHold (h : Canon s) : Canon (startHold s) := Canon.ite h h.modPth
protected theorem Canon.pthWaits {w : Path} {was : Bool} (h : Canon s) : Canon (pthWaits s w was) := (Canon.ite h h.raiseGrey).putB.put

protected theorem Canon.pthRest {w : Path} {was : Bool} (h : Canon s) : Canon (pthRest s w was) := by
  grind [pthRest, Canon.startHold, Canon.put, Canon.switchTo, Canon.pthWaits, Canon.modPth, Canon]

protected theorem Canon.pthEval (h : Canon s) : Canon (pthEval s) := by
  grind [pthEval, Canon.putB, Canon.modPth, Canon.restartSequences, Canon.switchTo, Canon.put, Canon.pthWaits, Canon.pthRest, Canon]

protected theorem Canon.pthRequest {x : PthWant} (h : Canon s) : Canon (pthRequest s x) := (Canon.ite h.modPth h).pthEval
protected theorem Canon.skewCheck (h : Canon s) : Canon (skewCheck s) := Canon.ite (Canon.ite h.putI.raiseGrey h.putI) h
protected theorem Canon.copiesCheck (h : Canon s) : Canon (copiesCheck s q) := Canon.ite h (h.foldl fun _ _ ht => ht.dropCopies)

protected theorem Canon.lineSettle (h : Canon s) : Canon (lineSettle s) := by
  grind [lineSettle, Canon.ltuLocks, Canon.actDown, Canon.aprCheck, Canon.bndUpdate, Canon.copiesCheck, Canon.skewCheck, Canon.pthMerges,
      Canon.pthEval, Canon.gatesChanged, Canon.downBursts, Canon.foldl]

protected theorem Canon.switchApply (h : Canon s) : Canon (switchApply s) := by
  grind [switchApply, Canon.reach, Canon.modPth, Canon.lineSettle, Canon.pthRequest, Canon]

protected theorem Canon.holdoffExpire (h : Canon s) : Canon (holdoffExpire s) := by
  grind [holdoffExpire, Canon.lineSettle, Canon.pthRequest]

protected theorem Canon.wtrExpire (h : Canon s) : Canon (wtrExpire s) := Canon.ite h.switchTo.lineSettle h
protected theorem Canon.pthForce (h : Canon s) : Canon (pthForce r q s) := h.onWrite fun _ ht => Canon.ite ht ht.pthRequest.lineSettle
protected theorem Canon.pthLockout {on : Bool} (h : Canon s) : Canon (pthLockout r on s) := h.onWrite fun _ ht => ht.putB.lineSettle
protected theorem Canon.pthClear (h : Canon s) : Canon (pthClear r s) := h.onWrite fun _ ht => ht.putB.modPth.lineSettle

protected theorem Canon.retentionExpire (h : Canon s) : Canon (retentionExpire s a) := by
  grind [retentionExpire, Canon.greyOf, Canon.inc, Canon.releaseRetained]

protected theorem Canon.mergeWindowSkip (h : Canon s) : Canon (mergeWindowSkip s k) := Canon.ite h h.mergeSkip.closeGaps

protected theorem Canon.bndGapSkip (h : Canon s) : Canon (bndGapSkip s q k) := by
  grind [bndGapSkip, Canon.bndSkip, Canon.bndReassembleAll, Canon.pthUnits]

protected theorem Canon.reasmTimeout {bonded : Bool} (h : Canon s) : Canon (reasmTimeout s bonded q i sid) := by
  grind [reasmTimeout, Canon.showCtxs, Canon.fragDiscard, Canon]

/-! ### Lane -/

protected theorem Canon.showRxPwr {c : Int} (h : Canon s) : Canon (showRxPwr s p c) := h.put.putB
protected theorem Canon.firstRxPwr (h : Canon s) : Canon (firstRxPwr s p) := h.put.putB.stepFree
protected theorem Canon.showSnr (h : Canon s) : Canon (showSnr s p snr) := h.put
protected theorem Canon.laneChanged (h : Canon s) : Canon (laneChanged s p) := h.report.unestablish.lineSettle

protected theorem Canon.losAssert {pwr : Int} (h : Canon s) : Canon (losAssert s p pwr) :=
  Canon.ite h.showRxPwr.putB.modLane.raiseGrey.laneChanged h

protected theorem Canon.losClear {pwr : Int} (h : Canon s) : Canon (losClear s p pwr) := Canon.ite h.showRxPwr.putB.raiseGrey.laneChanged h

protected theorem Canon.lolAssert {slip : Bool} (h : Canon s) : Canon (lolAssert s p slip snr) := by
  grind [lolAssert, Canon.showSnr, Canon.raiseGrey, Canon.modLane, Canon.inc, Canon.laneChanged, Canon.putB, Canon]

protected theorem Canon.lolClear (h : Canon s) : Canon (lolClear s p snr) := Canon.ite h.showSnr.modLane.putB.raiseGrey.laneChanged h
protected theorem Canon.clockLock (h : Canon s) : Canon (clockLock s p) := Canon.ite h.modLane h
protected theorem Canon.adaptDone (h : Canon s) : Canon (adaptDone s p snr) := Canon.ite h.showSnr.putB h
protected theorem Canon.laneEstablished (h : Canon s) : Canon (laneEstablished s p) := Canon.ite h.modLane.lineSettle h
protected theorem Canon.showWave {err : Int} (h : Canon s) : Canon (showWave s p err) := h.putI

protected theorem Canon.waveFault {err : Int} (h : Canon s) : Canon (waveFault s p err) :=
  Canon.ite h.showWave.modLane.putB.raiseGrey.raiseGrey.lineSettle h

protected theorem Canon.waveRecover {err : Int} (h : Canon s) : Canon (waveRecover s p err) := Canon.ite h.showWave.modLane.putB.lineSettle h
protected theorem Canon.applySetpoint (h : Canon s) : Canon (applySetpoint s p) := Canon.ite h h.putI
protected theorem Canon.applyTemp (h : Canon s) : Canon (applyTemp s p) := h.put.modLane
protected theorem Canon.biasWritten (h : Canon s) : Canon (biasWritten s p v) := h.modLane

protected theorem Canon.trimRecompute {e : Nat} {temp : Int} (h : Canon s) : Canon (trimRecompute s e temp) :=
  Canon.ite (h.putI.putB.foldl fun _ _ ht => ht.applyTemp) h

protected theorem Canon.rxOffsetCal {offset : Int} (h : Canon s) : Canon (rxOffsetCal r p offset s) := h.onWrite fun _ ht => Canon.ite ht.putI ht
protected theorem Canon.chanCheck (h : Canon s) : Canon (chanCheck s p) := Canon.ite h.releaseChan h
protected theorem Canon.engineIdle {e : Nat} (h : Canon s) : Canon (engineIdle s e) := Canon.ite h.putB.putB h
protected theorem Canon.leftActive (h : Canon s) : Canon (leftActive s p) := h.put.put.putB.freshLane.unestablish

protected theorem Canon.enterState {old : Nat} (h : Canon s) : Canon (enterState s p old v) := by
  grind [enterState, Canon.modLane, Canon.putB, Canon]

protected theorem Canon.transitionDone (h : Canon s) : Canon (transitionDone s p) := by
  grind [transitionDone, Canon.modLane, Canon.enterState, Canon.put, Canon.leftActive, Canon.firstRxPwr, Canon.freshLane, Canon.laneAdvance,
      Canon.engineIdle, Canon.lineSettle, Canon.report, Canon.chanCheck, Canon]

protected theorem Canon.targetWrite (h : Canon s) : Canon (targetWrite r p v s) :=
  h.onWrite fun _ ht => Canon.ite ht ht.putExpert.modBanks.laneAdvance.chanCheck

protected theorem Canon.refuseCleared (h : Canon s) : Canon (refuseCleared s p) := Canon.ite h.laneAdvance.chanCheck h
protected theorem Canon.enginePut {e : Fin 8} (h : Canon s) : Canon (enginePut s e) := h.tokenRelease.modEngine.putB

protected theorem Canon.enginePower {e : Fin 8} (h : Canon s) : Canon (enginePower s e) :=
  Canon.ite (h.enginePut.foldl fun _ _ ht => ht.laneAdvance) h

protected theorem Canon.ceilWrite {v : Int} (h : Canon s) : Canon (ceilWrite r q v s) := h.onWriteP0 fun _ ht => Canon.ite ht.setCeil ht

protected theorem Canon.fuseTrip (h : Canon s) : Canon (fuseTrip q s) := by
  unfold fuseTrip
  grind [Canon.putB, Canon.lineSettle, Canon.raiseGrey]

protected theorem Canon.fuseClr {a b : Bool} (h : Canon s) : Canon (fuseClr r a b s) :=
  h.onWriteP0 fun _ ht => ((ht.whenB fun _ ht1 => ht1.putB).whenB fun _ ht1 => ht1.putB).lineSettle

protected theorem Canon.putKill {a b : Bool} (h : Canon s) : Canon (putKill s a b) := h.putB.putB.lineSettle
protected theorem Canon.safKill {a b : Bool} (h : Canon s) : Canon (safKill r a b s) := h.onWrite fun _ ht => ht.putKill
protected theorem Canon.laserLow (h : Canon s) : Canon (laserLow s) := (h.upd.tapSettle.putB.whenB fun _ ht => ht.raiseGrey).lineSettle
protected theorem Canon.laserHigh (h : Canon s) : Canon (laserHigh s) := h.upd.tapSettle.putB.lineSettle

/-! ### Grants -/

protected theorem Canon.applyEqds (h : Canon s) : Canon (applyEqds s q) := Canon.ite h (h.foldl fun _ _ ht => ht.put.putB).modAct.showGasp

protected theorem Canon.applyUpTribs (h : Canon s) : Canon (applyUpTribs s q) := by
  grind [applyUpTribs, Canon.dropUpTrib, Canon.wrWord, Canon.foldl, Canon]

protected theorem Canon.pathFrameDue (h : Canon s) : Canon (pathFrameDue s q) := h.applyEqds.applyUpTribs

protected theorem Canon.readAhead (h : Canon s) : Canon (readAhead s w a) := by
  grind [readAhead, Canon.modBpm, Canon.foldl, Canon]

protected theorem Canon.windowDecoded (h : Canon s) : Canon (windowDecoded s w) := by
  grind [windowDecoded, Canon.wake, Canon.readAhead]

protected theorem Canon.unused {r : Nat} (h : Canon s) : Canon (unused s q r k) := h.addTo

/-! ### Burst -/

protected theorem Canon.takeBsn (h : Canon s) : Canon (takeBsn s q).1 := by
  grind [takeBsn, Canon.inc]

protected theorem Canon.yieldTo {fine : Nat} (h : Canon s) : Canon (yieldTo s p a fine len) := h.foldl fun _ _ ht => ht.keepBursts.unused

protected theorem Canon.requestBurst {at_ eqd : Nat} {k : BurstKind} {tid plen : Nat} {slot : Option (List Byte)} (h : Canon s) :
    Canon (requestBurst s q n at_ eqd k tid len plen slot) := by
  unfold requestBurst
  grind [Canon.takeBsn, Canon.yieldTo, Canon.queueBurst]

protected theorem Canon.setGasp {v : Bool} (h : Canon s) : Canon (setGasp s q v) := by
  cases q <;> grind [setGasp, Canon]

protected theorem Canon.gaspSend {pos pre plen : Nat} (h : Canon s) : Canon (gaspSend s q pos len pre plen) := by
  unfold gaspSend
  grind [Canon.chargePath, Canon.setGasp, Canon.takeBsn, Canon.sendLight, Canon.inc, Canon.putB, Canon.endBursts, Canon.raiseGrey, Canon]

protected theorem Canon.gaspTry {ws : List Window} (h : Canon s) : Canon (gaspTry s q ws) := by
  grind [gaspTry, Canon.gaspSend, Canon.foldl]

protected theorem Canon.gaspMap {grants : List (List Nat)} (h : Canon s) : Canon (gaspMap s q fn grants) := h.reach.gaspTry

protected theorem Canon.decodeMap (h : Canon s) : Canon (decodeMap s p) := by
  grind [decodeMap, Canon.reach, Canon.greyOf, Canon.unused, Canon.gaspTry, Canon.windowDecoded, Canon.foldl, Canon]

/-! ### Act -/

protected theorem Canon.takeLcm {typ : Nat} {known : List Byte → Bool} {k : State → List Byte → State} (h : Canon s)
    (hk : ∀ t b, Canon t → Canon (k t b)) : Canon (takeLcm s q typ known k) := by
  unfold takeLcm
  split
  · exact h
  · exact Canon.ite h (Canon.ite (Canon.ite (hk _ _ h.modAct.inc) h.modAct.inc) h.modAct)

protected theorem Canon.queueFragments {typ : Nat} {data : List Byte} (h : Canon s) : Canon (queueFragments s q typ data) :=
  h.foldl fun _ _ ht => ht.queueLcm

protected theorem Canon.pathParams (h : Canon s) : Canon (pathParams s q b) := by
  grind [pathParams, Canon.modAct, Canon.put, Canon.clearApr, Canon.lineSettle, Canon.putAct, Canon.foldl, Canon]

protected theorem Canon.timeAnnounce (h : Canon s) : Canon (timeAnnounce s q b) := h.announce

protected theorem Canon.discovery {draw : Nat} (h : Canon s) : Canon (discovery s q draw b) :=
  Canon.ite h (Canon.ite h.modAct (Canon.ite h.raiseGrey h.modAct.requestBurst))

protected theorem Canon.unanswered {draw : Nat} (h : Canon s) : Canon (unanswered s q draw) := by
  grind [unanswered, Canon.put, Canon.modAct, Canon]

protected theorem Canon.takeTid (h : Canon s) : Canon (takeTid s q b) := h.put.put.modAct.assignHome

protected theorem Canon.assignTid (h : Canon s) : Canon (assignTid s q b) :=
  Canon.ite h (Canon.ite (Canon.ite h h.unregister.raiseGrey.takeTid.lineSettle) h.takeTid.putAct.lineSettle)

protected theorem Canon.rangeWindow (h : Canon s) : Canon (rangeWindow s q b) :=
  Canon.ite (Canon.ite h.applyEqds.raiseGrey h.applyEqds.requestBurst) h

protected theorem Canon.eqDelay (h : Canon s) : Canon (eqDelay s q b) := Canon.ite h.queueLcm.raiseGrey h.applyEqds.modAct.queueLcm
protected theorem Canon.certReq (h : Canon s) : Canon (certReq s q z) := Canon.ite h.queueFragments h
protected theorem Canon.fragDrop (h : Canon s) : Canon (fragDrop s q) := Canon.ite h.modAct.inc.raiseGrey h

protected theorem Canon.challenge {m : List Byte} (h : Canon s) : Canon (challenge s q m) :=
  Canon.ite h.forgetSecrets.authFail.lineSettle (Canon.ite h.forgetSecrets.authFail.lineSettle h.forgetSecrets.modAct)

protected theorem Canon.challengeFragment (h : Canon s) : Canon (challengeFragment s q b) := by
  grind [challengeFragment, Canon.fragDrop, Canon.challenge, Canon.modAct, Canon]

protected theorem Canon.respond (h : Canon s) : Canon (respond s q) := by
  grind [respond, Canon.stepFree, Canon.modAct, Canon.queueFragments, Canon]

protected theorem Canon.sendConfirm (h : Canon s) : Canon (sendConfirm s q) := by
  grind [sendConfirm, Canon.queueLcm, Canon.modAct, Canon]

protected theorem Canon.slotRetired (h : Canon s) : Canon (slotRetired s q k) := h.actReturn.offer.lineSettle

protected theorem Canon.keyConfirm (h : Canon s) : Canon (keyConfirm s q b) := by
  grind [keyConfirm, Canon.lineSettle, Canon.authFail, Canon.slotRetired, Canon.slotCommand, Canon.sendConfirm, Canon.modAct, Canon]

protected theorem Canon.enterT4 (h : Canon s) : Canon (enterT4 s q) := (h.foldl fun _ _ ht => ht.put).putAct
protected theorem Canon.registered (h : Canon s) : Canon (registered s q z) := Canon.ite h.put.t4Epochs.forgetSecrets.enterT4.lineSettle h
protected theorem Canon.homeAssign (h : Canon s) : Canon (homeAssign s q b) := h.modAct

protected theorem Canon.homeApply (h : Canon s) : Canon (homeApply s q) := by
  grind [homeApply, Canon.reach, Canon.lineSettle, Canon.assignHome, Canon.modAct, Canon]

protected theorem Canon.homeFallback (h : Canon s) : Canon (homeFallback s q) := by
  grind [homeFallback, Canon.putB, Canon.putHome, Canon.queueLcm, Canon.raiseGrey]

protected theorem Canon.tribAssign (h : Canon s) : Canon (tribAssign s q b) := Canon.ite h.modAct h.queueLcm.raiseGrey

protected theorem Canon.tribApply (h : Canon s) : Canon (tribApply s q t) := by
  grind [tribApply, Canon.reach, Canon.dropDownTrib, Canon.modAct, Canon.showTribFault, Canon.wrWord, Canon]

protected theorem Canon.deactivate (h : Canon s) : Canon (deactivate s q z) := Canon.ite h.actReturn.lineSettle h
protected theorem Canon.holdPath (h : Canon s) : Canon (holdPath s q z) := Canon.ite h.actHold.lineSettle h
protected theorem Canon.releasePath (h : Canon s) : Canon (releasePath s q z) := h.actRelease.lineSettle
protected theorem Canon.resume (h : Canon s) : Canon (resume s q z) := Canon.ite h.clearApr.enterT4.lineSettle h
protected theorem Canon.to3Expire (h : Canon s) : Canon (to3Expire s q) := Canon.ite h.actReturn.lineSettle h
protected theorem Canon.to6Expire (h : Canon s) : Canon (to6Expire s q) := Canon.ite h.actReturn.lineSettle h
protected theorem Canon.skewReport (h : Canon s) : Canon (skewReport s q) := Canon.ite h.putI.modAct.queueLcm h

/-! ### Mch -/

protected theorem Canon.modMch {f : Mch → Mch} (h : Canon s) : Canon (modMch s f) := h
protected theorem Canon.showMch (h : Canon s) : Canon (showMch s) := h.put.put
protected theorem Canon.mchRxDrop (h : Canon s) : Canon (mchRxDrop s) := h.inc.raiseGrey
protected theorem Canon.mchPop (h : Canon s) : Canon (mchPop s) := h.modMch.showMch

protected theorem Canon.mchServe {fuel : Nat} (h : Canon s) : Canon (mchServe s posts fuel) := by
  induction fuel generalizing s posts with
  | zero => exact h
  | succ fuel ih =>
    unfold mchServe
    grind [Canon.mchPop, Canon.mchRxDrop, Canon.modMch, Canon.hifDiscard, Canon.inc, Canon.rxMessage]

protected theorem Canon.uartDone (h : Canon s) : Canon (uartDone s) := by
  grind [uartDone, Canon.mchPop, Canon.inc, Canon.emit, Canon.mchServe]

protected theorem Canon.mchMessage {msg : List Byte} (h : Canon s) : Canon (mchMessage s msg posts) :=
  Canon.ite h.mchRxDrop h.modMch.showMch.mchServe

protected theorem Canon.mchBad (h : Canon s) : Canon (mchBad s) := Canon.ite h.modMch.inc.raiseGrey h
protected theorem Canon.mchTakePath (h : Canon s) : Canon (mchTakePath s q) := Canon.ite h (Canon.ite h.put h.put.raiseGrey)

protected theorem Canon.mgtBlock {b : Option (List Byte)} (h : Canon s) : Canon (mgtBlock s q b posts) := by
  unfold mgtBlock
  grind [Canon.mchBad, Canon.mchTakePath, Canon.modMch, Canon.mchMessage, Canon]

protected theorem Canon.mchTxDrop (h : Canon s) : Canon (mchTxDrop s) := h.inc.raiseGrey
protected theorem Canon.mchEnqueue {msg : List Byte} (h : Canon s) : Canon (mchEnqueue s msg) := Canon.ite h.mchTxDrop h.modMch.showMch

protected theorem Canon.mchSlot {b : List Byte} {t : State} (h : Canon s) : mchSlot s q = some (t, b) → Canon t := by
  unfold mchSlot
  grind [Canon.modMch, Canon.inc, Canon.showMch]

protected theorem Canon.mgtDescriptor {d : TxDesc} (h : Canon s) : Canon (mgtDescriptor s t d) := by
  grind [mgtDescriptor, Canon.takeDescriptor, Canon.txRefused, Canon.writeBack, Canon.mchEnqueue]

/-! ### Lcy -/

protected theorem Canon.keyMismatch {c : Cfg} {e : Nat} (h : Canon s) : Canon (keyMismatch s c e q sid) :=
  Canon.ite h.inc.raiseFor.modLcy h.inc.raiseFor.modLcy.putB.inc.raiseFor.contained.lineSettle

protected theorem Canon.showEngine (h : Canon s) : Canon (showEngine s n) := h.put

protected theorem Canon.markLost {g : Seg} (h : Canon s) : Canon (markLost s g code) := by
  grind [markLost, Canon.bndLost, Canon]

protected theorem Canon.lcyPass {g : Seg} (h : Canon s) : Canon (lcyPass s g) := by
  grind [lcyPass, Canon.markLost, Canon.monOut, Canon.monIn, Canon.bndSegment, Canon.pthUnits]

protected theorem Canon.lcyOpen {w : LcyWait} (h : Canon s) : Canon (lcyOpen s w) := by
  grind [lcyOpen, Canon.lcyDiscard, Canon.lcyPass, Canon.keyMismatch, Canon]

protected theorem Canon.lcyKey {d : Derived} (h : Canon s) : Canon (lcyKey s d) := Canon.ite h.inc.cachePut (Canon.ite h h.modLcy.inc)

protected theorem Canon.lcyRelease {l : List LcyWait} {held : List Nat} (h : Canon s) : Canon (lcyRelease s l held) := by
  induction l generalizing s held with
  | nil => exact h
  | cons y l ih => grind [lcyRelease, Canon.showEngine, Canon.modLcy, Canon.lcyOpen, Canon]

protected theorem Canon.lcyEnter {w : LcyWait} (h : Canon s) : Canon (lcyEnter s w) := h.modLcy.showEngine.lcyRelease

protected theorem Canon.lcySegment {chan : Nat} {mismatch : Bool} (h : Canon s) : Canon (lcySegment s q chan mismatch) := by
  grind [lcySegment, Canon.lcyEnter, Canon.monIn, Canon.lcyDiscard, Canon.ctxRefused, Canon.put, Canon.lcyKey, Canon.ctxUse, Canon]

protected theorem Canon.derivationDone (h : Canon s) : Canon (derivationDone s) := by
  grind [derivationDone, Canon.cachePut, Canon.modLcy, Canon.lcyRelease, Canon]

protected theorem Canon.rekey (h : Canon s) : Canon (rekey s q b) := Canon.ite h.queueLcm.raiseGrey h.queueLcm.put.putB.modLcy.raiseGrey

protected theorem Canon.epochStart (h : Canon s) : Canon (epochStart s q up i) :=
  Canon.ite (Canon.ite h.reach.ctxEpoch.modLcy.put h.reach.ctxEpoch.modLcy) h

protected theorem Canon.rekeyRepeat (h : Canon s) : Canon (rekeyRepeat s q up i) := by
  grind [rekeyRepeat, Canon.rekeyReq]

protected theorem Canon.engineRetest {e : Nat} (h : Canon s) : Canon (engineRetest r e s) := h.onWrite fun _ ht => ht.putB

protected theorem Canon.retestDone {e : Nat} {pass : Bool} (h : Canon s) : Canon (retestDone s e pass) :=
  Canon.ite (Canon.ite h.putB.putB.put.lineSettle h.putB) h

protected theorem Canon.kstCommand {write : Bool} (h : Canon s) : Canon (kstCommand s write) := h.modLcy.kstServe.foldl fun _ _ ht => ht.put
protected theorem Canon.keySlotDrained (h : Canon s) : Canon (keySlotDrained s k) := Canon.ite h h.slotDrained.sendConfirm.sendConfirm

/-! ### Fill -/

protected theorem Canon.upDiscard (h : Canon s) : Canon (upDiscard s e code) := (Canon.ite h.ctxRefused h).lcyDiscard
protected theorem Canon.tooShort (h : Canon s) : Canon (tooShort s e) := h.inc

protected theorem Canon.sealSeg {hdr payload : List Byte} (h : Canon s) : Canon (sealSeg s e sid o hdr payload).1 := by
  grind [sealSeg, Canon.inc, Canon.cachePut, Canon.ctxUse, Canon.modLcy, Canon.monOut, Canon.monIn, Canon]

protected theorem Canon.repeatLater {g : UpSeg} (h : Canon s) : Canon (repeatLater s e g) := h.modAid

protected theorem Canon.placeSeg {g : UpSeg} {sent : List Byte} (h : Canon x.st) : Canon (placeSeg e x g sent).st := by
  grind [placeSeg, Canon.inc, Canon.sealSeg, Canon.repeatLater, Canon.keyMismatch, Canon]

protected theorem Canon.sentBytes {frag : Nat} {ing : Ingress} {payload : List Byte} (h : Canon x.st) :
    Canon (sentBytes e x frag ing payload).1.st := by
  grind [sentBytes, Canon.tcCorrect, Canon]

protected theorem Canon.serveSegs {count : Bool} {l : List UpSeg} (h : Canon x.st) : Canon (serveSegs e count x l).1.st := by
  induction l generalizing x with
  | nil => exact h
  | cons g l ih =>
    unfold serveSegs
    split
    · exact ih h.releaseRetained
    split
    · exact h
    split
    · exact ih (Canon.ite h.upDiscard.releaseRetained h.upDiscard)
    · extract_lets g'
      split
      · exact h
      · exact h.tooShort
      · have hp : Canon (placeSeg e (sentBytes e x g'.frag g'.ing g'.payload).1 g' (sentBytes e x g'.frag g'.ing g'.payload).2).st :=
          h.sentBytes.placeSeg
        cases count with
        | true => exact ih hp.inc
        | false => exact ih hp

protected theorem Canon.setRepeats {l : List UpSeg} (h : Canon s) : Canon (setRepeats s a q l) := h.modAid

protected theorem Canon.serveRepeats (h : Canon x.st) : Canon (serveRepeats e x).1.st := by
  grind [serveRepeats, Fill.on, Canon.serveSegs, Canon.setRepeats, Canon]

protected theorem Canon.serveCopies (h : Canon x.st) : Canon (serveCopies e x).1.st := by
  grind [serveCopies, Fill.on, Canon.dropCopies, Canon.serveSegs, Canon.setCopies, Canon]

protected theorem Canon.serveResend (h : Canon x.st) : Canon (serveResend e x).1.st := by
  grind [serveResend, Fill.on, Canon.serveSegs, Canon.showAid, Canon.modAid, Canon]

protected theorem Canon.protect {g : UpSeg} (h : Canon s) : Canon (protect s e g) := by
  grind [protect, Canon.expireCopies, Canon.dlDrop, Canon.setCopies, Canon.takeRet, Canon.showAid, Canon.modAid, Canon.raiseGrey, Canon, CanonOpt]

protected theorem Canon.placeNew {f : QFrame} {frag : Nat} {payload sent : List Byte} (h : Canon x.st) :
    Canon (placeNew e x f sid frag payload sent).st := by
  grind [placeNew, Fill.on, Canon.inc, Canon.monCount, Canon.monOut, Canon.monIn, Canon.placeSeg, Canon.protect, Canon]

protected theorem Canon.frameLeaves {f : QFrame} (h : Canon x.st) : Canon (frameLeaves e x f bs).st := by
  grind [frameLeaves, Fill.on, Canon.tsqPush, Canon.fate, Canon]

protected theorem Canon.addRest {r : Remainder} (h : Canon s) : Canon (addRest s r) := h
protected theorem Canon.dropRest {r : Remainder} (h : Canon s) : Canon (dropRest s r) := h
protected theorem Canon.abandonRest {r : Remainder} (h : Canon s) : Canon (abandonRest s r) := h.dropRest.relEntry.inc.greyOf
protected theorem Canon.poisonRest {r : Remainder} (h : Canon s) : Canon (poisonRest s r) := h.dropRest.relEntry.bpmDrop.greyOf

protected theorem Canon.serveRests {l : List Remainder} (h : Canon x.st) : Canon (serveRests e x l).1.st := by
  induction l generalizing x with
  | nil => exact h
  | cons r l ih =>
    unfold serveRests
    extract_lets q sid enc k
    split
    · exact ih h
    split
    · exact ih h.abandonRest
    split
    · exact ih h.poisonRest
    split
    · exact ih h.dropRest.upDiscard.relEntry
    split
    · exact ih (Canon.placeNew (x := x.on fun s => dropRest s r) h.dropRest).relEntry
    · exact ih h.tooShort
    · split
      · exact ih h
      · exact Canon.placeNew (x := x.on fun s => addRest (dropRest s r) _) h.dropRest.addRest

protected theorem Canon.serveQueues {m : Nat} {root : SNode} {blocked : List Nat} (h : Canon x.st) :
    Canon (serveQueues e m root x blocked fuel).st := by
  induction fuel generalizing x blocked with
  | zero => exact h
  | succ fuel ih =>
    unfold serveQueues
    extract_lets env
    split
    · exact h
    · rename_i c _
      split
      · rename_i f sid _ _
        extract_lets taken bs enc y k
        have htaken : Canon taken.st := h.takeFrame
        have hy : Canon y.st := htaken.frameLeaves
        have hz : Canon (sentBytes e y 0 f.ing bs).1.st := hy.sentBytes
        split
        · exact ih htaken.poisonDrop
        split
        · exact ih htaken.relEntry.upDiscard.frameLost
        split
        · exact ih (Canon.placeNew hz).relEntry
        · exact ih h.tooShort
        · split
          · exact ih h
          · exact Canon.placeNew (x := Fill.on _ _) hz.addRest
      · exact ih h

protected theorem Canon.useStreams {c : Cfg} (h : Canon s) : Canon (useStreams s c) := h

protected theorem Canon.serveNew (h : Canon x.st) : Canon (serveNew e x).st := by
  grind [serveNew, Fill.on, Canon.useStreams, Canon.serveRests, Canon.serveQueues, Canon.foldl, Canon]

protected theorem Canon.serveAid (h : Canon x.st) : Canon (serveAid e x).st := by
  grind [serveAid, Canon.serveRepeats, Canon.serveCopies, Canon.serveResend, Canon.serveNew]

protected theorem Canon.reportBlock {c : Cfg} (h : Canon s) : Canon (reportBlock s c q).1 := by
  grind [reportBlock, Canon]

protected theorem Canon.takeSlot (h : Canon s) : Canon (takeSlot s q).1 := by
  unfold takeSlot
  grind [Canon.modAct, Canon.mchSlot, Canon]

protected theorem Canon.lcmBlock (h : Canon s) : Canon (lcmBlock s q).1 := by
  grind [lcmBlock, Canon.takeSlot]

protected theorem Canon.servable {c : Cfg} {chan : Nat} (h : Canon s) : Canon (servable s c q chan a).1 := by
  grind [servable, Canon.inc, Canon.greyOf]

protected theorem Canon.readAheadLate {lane start : Nat} (h : Canon s) : Canon (readAheadLate s n lane start) :=
  Canon.ite h h.addTo.raiseGrey.modBpm

protected theorem Canon.fillAlloc {size : Nat} (h : Canon x.st) : Canon (fillAlloc e x w a off size).1.st := by
  grind [fillAlloc, Fill.on, Canon.servable, Canon.inc, Canon.worked, Canon.serveAid, Canon.readAheadLate, Canon.showAid, Canon]

protected theorem Canon.fillWindow {size : Nat} (h : Canon x.st) : Canon (fillWindow e x w off size).1.st := by
  grind [fillWindow, Canon.fillAlloc]

protected theorem Canon.fillBurst {conts : List Window} (h : Canon s) : Canon (fillBurst s w conts mis) := by
  grind [fillBurst, Canon.takeBsn, Canon.lcmBlock, Canon.fillWindow, Canon.reportBlock, Canon.queueBurst, Canon.foldl]

protected theorem Canon.fillCont {b : Burst} {size : Nat} (h : Canon s) : Canon (fillCont s b w off size mis) := by
  grind [fillCont, Canon.fillWindow, Canon.sentAlloc, Canon.sendLight, Canon]

protected theorem Canon.skipCont {b : Burst} (h : Canon s) : Canon (skipCont s b w) := Canon.ite h.upd.sendLight h

protected theorem Canon.contFill (h : Canon s) : Canon (contFill s w mis) := by
  grind [contFill, Canon.fillCont, Canon.unused, Canon.skipCont]

protected theorem Canon.firstFill (h : Canon s) : Canon (firstFill s w mis) := by
  grind [firstFill, Canon.unused, Canon.greyOf, Canon.fillBurst, Canon.foldl, Canon]

protected theorem Canon.fillWaiting (h : Canon s) : Canon (fillWaiting s w mis) := Canon.ite h.upd.contFill h.upd.firstFill
protected theorem Canon.noteEarly {k : BurstKind} {pos : Nat} (h : Canon s) : Canon (noteEarly s k p pos) := h

protected theorem Canon.fillContsFirst {g : Option (Path × Nat)} {p : Nat × Nat} (h : Canon s) : Canon (fillContsFirst s g p fuel) := by
  induction fuel generalizing s with
  | zero => exact h
  | succ fuel ih =>
    unfold fillContsFirst
    split
    · exact ih h.fillWaiting.noteEarly
    · exact h

protected theorem Canon.fillInOrder (h : Canon s) : Canon (fillInOrder s w mis) := h.fillContsFirst.fillWaiting

protected theorem Canon.fragAbandon (h : Canon s) : Canon (fragAbandon s a) := by
  grind [fragAbandon, Canon.abandonRest, Canon.reach]

/-! ### AlarmFire -/

protected theorem Canon.firePath (h : Canon s) : Canon (firePath s k uw) := Canon.ite h.reach.markFired.burstLaunch h.reach.markFired

protected theorem Canon.alarmFires (h : Canon s) : Canon (alarmFires s k uw) :=
  Canon.ite h (Canon.ite h.dispatchTo (h.foldl fun _ _ ht => ht.firePath.stepFree).firePath)

/-! ### Cpl -/

protected theorem Canon.modCpl {f : Cpl → Cpl} (h : Canon s) : Canon (modCpl s f) := h
protected theorem Canon.putPolSlot {b : Bool} {x : Option FwSlot} (h : Canon s) : Canon (putPolSlot s b x) := h.upd.put.put
protected theorem Canon.mbxDropped (h : Canon s) : Canon (mbxDropped s) := h.inc
protected theorem Canon.mbxDone (h : Canon s) : Canon (mbxDone s k v) := h.put.put.put.deliverOwned
protected theorem Canon.mbxPost (h : Canon s) : Canon (mbxPost s r k) := Canon.ite h.put h.mbxDropped
protected theorem Canon.mbxAck (h : Canon s) : Canon (mbxAck s r k) := Canon.ite h.put h.mbxDropped
protected theorem Canon.mbxClaim (h : Canon s) : Canon (mbxClaim s k) := Canon.ite h.put h
protected theorem Canon.mbxComplete (h : Canon s) : Canon (mbxComplete s k) := Canon.ite h.mbxDone h
protected theorem Canon.mbxTimeout (h : Canon s) : Canon (mbxTimeout s k) := Canon.ite h.raiseGrey.mbxDone h
protected theorem Canon.cplStop (h : Canon s) : Canon (cplStop s v) := h.putB.put.put.modCpl.foldl fun _ _ ht => Canon.ite ht.mbxDone ht
protected theorem Canon.cplReset (h : Canon s) : Canon (cplReset s cause v) := h.cplStop.inc.put
protected theorem Canon.cplBoot {b : Bool} (h : Canon s) : Canon (cplBoot s b) := h.put.putB

protected theorem Canon.coresReleased (h : Canon s) : Canon (coresReleased s) := by
  grind [coresReleased, Canon.raise, Canon.cplStop, Canon.sramWrite, Canon.putB, Canon.put, Canon.modCpl, Canon]

protected theorem Canon.cplRestart (h : Canon s) : Canon (cplRestart s r) := Canon.ite h (Canon.ite h.modCpl h).cplReset.cplBoot
protected theorem Canon.cplHalt (h : Canon s) : Canon (cplHalt s) := Canon.ite h.cplReset h

protected theorem Canon.trialConfirm (h : Canon s) : Canon (trialConfirm s) := by
  grind [trialConfirm, Canon.putB, Canon.putPolSlot, Canon.putMax, Canon]

protected theorem Canon.trialRevert (h : Canon s) : Canon (trialRevert s) := h.cplReset.putB.raiseGrey.cplBoot
protected theorem Canon.trialTimeout (h : Canon s) : Canon (trialTimeout s) := Canon.ite h.trialRevert h
protected theorem Canon.wdtKick (h : Canon s) : Canon (wdtKick s v) := h.modCpl

protected theorem Canon.wdtReset (h : Canon s) : Canon (wdtReset s) :=
  Canon.ite h.raiseGrey.modCpl.cplReset.raise (Canon.ite h.raiseGrey.modCpl.trialRevert h.raiseGrey.modCpl.cplReset.cplBoot)

protected theorem Canon.wdtExpire (h : Canon s) : Canon (wdtExpire s c) := Canon.ite h (Canon.ite h.modCpl h.wdtReset)
protected theorem Canon.cplDiscard (h : Canon s) : Canon (cplDiscard s k) := h.discard
protected theorem Canon.firmwareWrite (h : Canon s) : Canon (firmwareWrite s off bs) := h.sramWrite

protected theorem Canon.inject {desc frame : List Byte} (h : Canon s) : Canon (inject s i desc frame) := by
  grind [inject, Canon.firmwareWrite, Canon.put, Canon.raiseGrey, Canon.cplDiscard, Canon.overLink, Canon.monIn, Canon.lineFrame]

/-! ### Cal -/

protected theorem Canon.calLineLane {b : Option (List Byte)} (h : Canon s) : Canon (calLineLane s b p) :=
  h.modLane.put.put.put.put.applySetpoint.applyTemp

protected theorem Canon.calClientLane {b : Option (List Byte)} (h : Canon s) : Canon (calClientLane s b k) := h.put.put

protected theorem Canon.calLine (h : Canon s) : Canon (calLine s) :=
  ((h.foldl fun _ _ ht => ht.modEngine).foldl fun _ _ ht => ht.calLineLane).foldl fun _ _ ht => ht.putB

protected theorem Canon.calAsym {b : Option (List Byte)} (h : Canon s) : Canon (calAsym s b p) := h.put
protected theorem Canon.calClients (h : Canon s) : Canon (calClients s) := h.foldl fun _ _ ht => ht.calClientLane.calAsym
protected theorem Canon.calPut (h : Canon s) : Canon (calPut s b) := h.upd.putB
protected theorem Canon.calLoad (h : Canon s) : Canon (calLoad s) := h.upd.calLine.calClients.put.put.put.putB.putB.foldl fun _ _ ht => ht.offer

/-! ### Seal -/

protected theorem Canon.memberWrite (h : Canon s) : Canon (memberWrite s g a v) := Canon.ite h h.upd.put

protected theorem Canon.memberApply (h : Canon s) : Canon (memberApply s i a v) := by
  grind [memberApply, Canon.modBanks, Canon.putExpert, Canon.foldl]

protected theorem Canon.sealEffects (h : Canon s) : Canon (sealEffects s g old) := by
  grind [sealEffects, Canon.commitPorts, Canon.clearTable, Canon.meterApply, Canon.put, Canon.foldl]

protected theorem Canon.sealStart (h : Canon s) : Canon (sealStart s r g) := Canon.ite h (Canon.ite h.sealResult (Canon.ite h.sealResult h.put))
protected theorem Canon.sealAbandon (h : Canon s) : Canon (sealAbandon s g) := Canon.ite h (Canon.ite h.sealResult h.groupClear.sealResult)

protected theorem Canon.sealDone (h : Canon s) : Canon (sealDone s g) := by
  grind [sealDone, Canon.sealResult, Canon.put, Canon.inc, Canon.groupClear, Canon.memberApply, Canon.sealEffects, Canon.foldl]

protected theorem Canon.holdTimeout (h : Canon s) : Canon (holdTimeout s g) := by
  grind [holdTimeout, Canon.sealResult, Canon.groupClear, Canon.raiseFor]

/-! ### SecPacket -/

protected theorem Canon.rulesClear (h : Canon s) : Canon (rulesClear s n) := h.modOther.setExact

protected theorem Canon.rulesPut {b : List Byte} (h : Canon s) : CanonOpt (rulesPut s n b) :=
  h.rulesClear.modOther.some.foldl fun _ _ ho => ho.bind fun _ ht => .ite ht.upd.emUse.some .none

/-! ### Image -/

protected theorem Canon.secApply {b : List Byte} (h : Canon s) : CanonOpt (secApply s i b) :=
  .ite (h.some.foldl fun _ _ ho => ho.bind fun _ ht => ht.rulesPut) h.modOther.some

protected theorem Canon.loadSections {es : List (Nat × List Byte)} (h : Canon s) : Canon (loadSections s es).2 := by
  induction es generalizing s with
  | nil => exact h
  | cons y es ih => grind [loadSections, Canon.secApply, CanonOpt]

protected theorem Canon.markLoaded (h : Canon s) : Canon (markLoaded s b) := (h.foldl fun _ _ ht => ht.setLoaded.put.upd).put

protected theorem Canon.loadImage {p0 : Bool} (h : Canon s) : Canon (loadImage s p0 b len).2 := by
  unfold loadImage
  grind [Canon.loadSections, Canon.markLoaded]

/-! ### EpcCmd -/

protected theorem Canon.modEpc {f : Epc → Epc} (h : Canon s) : Canon (modEpc s f) := h
protected theorem Canon.seedCopy (h : Canon s) : Canon (seedCopy s) := (h.upd.foldl fun _ _ ht => ht.setExact).put

protected theorem Canon.stagedPut {v : Option View} {w : Word} (h : Canon s) : Canon (stagedPut s a v w) := by
  unfold stagedPut
  grind [Canon.modOther, Canon.setLoaded, Canon.foldl]

protected theorem Canon.stagedWrite {w : Word} (h : Canon s) : Canon (stagedWrite s r a w) :=
  Canon.ite h (Canon.ite h.addTo (Canon.ite h.modEpc h.stagedPut))

protected theorem Canon.epcOpen (h : Canon s) : Canon (epcOpen s) :=
  Canon.ite h.epcResult (Canon.ite h.put.put.put.putB.modEpc.setEpc.epcResult h.epcResult)

protected theorem Canon.seedDone (h : Canon s) : Canon (seedDone s) :=
  Canon.ite ((h.seedCopy.putB.modEpc.foldl fun _ _ ht => ht.stagedPut).foldl fun _ _ ht => ht.taResume) h

protected theorem Canon.epcLoad {p0 : Bool} (h : Canon s) : Canon (epcLoad s p0) := Canon.ite h.epcResult (Canon.ite h.epcResult h.modEpc.putB)

protected theorem Canon.loadEnd {detail : Nat} (h : Canon s) : Canon (loadEnd s code detail) :=
  Canon.ite h.modEpc.putB.epcResult h.modEpc.putB.epcResult.raise

protected theorem Canon.loadDone (h : Canon s) : Canon (loadDone s b) := by
  grind [loadDone, Canon.loadEnd, Canon.loadImage]

protected theorem Canon.armRefused {detail : Nat} (h : Canon s) : Canon (armRefused s code detail) := h.epcResult.raise
protected theorem Canon.checkStart {k : CheckKind} (h : Canon s) : Canon (checkStart s k) := h.modEpc.putB
protected theorem Canon.checkEnd (h : Canon s) : Canon (checkEnd s) := h.modEpc.putB

protected theorem Canon.epcArm (h : Canon s) : Canon (epcArm s) :=
  Canon.ite h.epcResult (Canon.ite h.epcResult (Canon.ite h.armRefused h.checkStart))

protected theorem Canon.armAlarms {lead bound : Nat} (h : Canon s) : Canon (armAlarms s fn lead bound) :=
  (Canon.ite h.armAt.armAt h.armAt).armAt.armAt

protected theorem Canon.armDone (h : Canon s) : Canon (armDone s) := by
  grind [armDone, Canon.checkEnd, Canon.armRefused, Canon.epcResult, Canon.armAlarms, Canon.setEpc]

protected theorem Canon.epcCancel (h : Canon s) : Canon (epcCancel s) :=
  Canon.ite h.epcResult (Canon.ite h.epcResult (Canon.ite h.epcResult (h.foldl fun _ _ ht => ht.disarm).unarm.setEpc.epcResult))

protected theorem Canon.epcAbandon (h : Canon s) : Canon (epcAbandon s) :=
  Canon.ite h.epcResult (h.checkEnd.putB.modEpc.setEpc.foldl fun _ _ ht => ht.taResume).epcResult

protected theorem Canon.epcAck (h : Canon s) : Canon (epcAck s) := Canon.ite h.epcResult h.setEpc.epcResult

protected theorem Canon.epcNow (h : Canon s) : Canon (epcNow s) :=
  Canon.ite h.epcResult (Canon.ite h.epcResult (Canon.ite h.epcResult (Canon.ite h.armRefused h.checkStart)))

protected theorem Canon.dropSids (h : Canon s) : Canon (dropSids s q) := (h.upd.foldl fun _ _ ht => ht.dfrDiscard).showCtxs

protected theorem Canon.dropGroup (h : Canon s) : Canon (dropGroup s q k) := by
  grind [dropGroup, Canon.bndFlush, Canon.bndReassembleAll, Canon.pthUnits, Canon.bndDiscard, Canon.putB, Canon.put, Canon.showGroup, Canon.foldl,
      Canon]

protected theorem Canon.pathsetSwitch {modes : List Nat} (h : Canon s) : Canon (pathsetSwitch s modes) := by
  grind [pathsetSwitch, Canon.mergeResync, Canon.releaseRetained, Canon.setCopies, Canon.fitStore, Canon.foldl]

protected theorem Canon.linemapLane (h : Canon s) : Canon (linemapLane s p) := (Canon.ite h.modLane h).laneRetarget.applySetpoint
protected theorem Canon.lineTakes (h : Canon s) : Canon (lineTakes s q) := h.activateLine.modEpc

protected theorem Canon.lineEffects {old : State} (h : Canon s) : Canon (lineEffects old s q) := by
  grind [lineEffects, Canon.dropSids, Canon.dropGroup, Canon.put, Canon.pathsetSwitch, Canon.linemapLane, Canon.chanCheck, Canon.actDisabled,
      Canon.lineSettle, Canon.foldl]

protected theorem Canon.lineSwitch (h : Canon s) : Canon (lineSwitch s q) := h.lineTakes.lineEffects

protected theorem Canon.lineBankSwitch (h : Canon s) : Canon (lineBankSwitch s q) :=
  Canon.ite h (Canon.ite (Canon.ite h h.lineBegin).reach.modEpc.lineSwitch (Canon.ite h.reach.lineSwitch h))

protected theorem Canon.nowDone (h : Canon s) : Canon (nowDone s) := by
  grind [nowDone, Canon.checkEnd, Canon.armRefused, Canon.commitInstant, Canon.quiesceBegin, Canon.epcResult, Canon.modEpc, Canon.lineSwitch, Canon]

protected theorem Canon.commitAck (h : Canon s) : Canon (commitAck s) := Canon.ite h.setEpc h
protected theorem Canon.drainDone (h : Canon s) : Canon (drainDone s) := Canon.ite h.put.putMax.setEpc.raiseGrey h

protected theorem Canon.scopeReady {x : ScopeRes} (h : Canon s) : Canon (scopeReady s x) := by
  unfold scopeReady
  grind [Canon.setQuiesced, Canon.chanCheck, Canon]

protected theorem Canon.bootFailed (h : Canon s) : Canon (bootFailed s code) := h.upd.put.raise

protected theorem Canon.bootCommit (h : Canon s) : Canon (bootCommit s) := by
  unfold bootCommit
  grind [Canon.putB, Canon.loadImage, Canon.bootFailed, Canon.put, Canon.inc, Canon.switchBanks, Canon.lineSwitch, Canon.modEpc, Canon]

protected theorem Canon.bootApply (h : Canon s) : Canon (bootApply s) := h.bootCommit

/-! ### Evr -/

protected theorem Canon.modEvr {f : Evr → Evr} (h : Canon s) : Canon (modEvr s f) := h
protected theorem Canon.flushAll (h : Canon s) : Canon (flushAll s) := h.modEvr.refreshLog
protected theorem Canon.storeFailed {f : StoreFail} (h : Canon s) : Canon (storeFailed s f) := (Canon.ite h.put.putB h.put.putB).offer.raise

protected theorem Canon.flushTick {fail : Option StoreFail} (h : Canon s) : Canon (flushTick s fail) := by
  unfold flushTick
  grind [Canon.storeFailed, Canon.flushAll]

protected theorem Canon.flushNow (h : Canon s) : Canon (flushNow s) := Canon.ite h h.flushAll
protected theorem Canon.modWin {f : LogWin → LogWin} (h : Canon s) : Canon (modWin s r f) := h.modEvr
protected theorem Canon.cursorWrite {c : Word} (h : Canon s) : Canon (cursorWrite s r c) := h.modWin
protected theorem Canon.windowCopied (h : Canon s) : Canon (windowCopied s r) := Canon.ite h h.modWin

protected theorem Canon.clrChallenge (h : Canon s) : Canon (clrChallenge s) :=
  Canon.ite h.put (Canon.ite h (Canon.ite h.put (h.stepFree.foldl fun _ _ ht => ht.put).put.modEvr))

protected theorem Canon.clrRespond (h : Canon s) : Canon (clrRespond s) := h.modEvr
protected theorem Canon.clearLog (h : Canon s) : Canon (clearLog s) := (Canon.ite h.stepFree.stepFree h).modEvr.inc.refreshLog.stepFree.offerArgs

protected theorem Canon.clrVerify (h : Canon s) : Canon (clrVerify s) :=
  Canon.ite h (Canon.ite h.modEvr.put.modEvr.clearLog.raiseGrey h.modEvr.put.modEvr.raise)

protected theorem Canon.refillBuckets (h : Canon s) : Canon (refillBuckets s) := h.modEvr
protected theorem Canon.rlCfgWrite {w : Word} (h : Canon s) : Canon (rlCfgWrite s w) := h.modBanks.modEvr
protected theorem Canon.opTimeSave (h : Canon s) : Canon (opTimeSave s) := h.modEvr
protected theorem Canon.counterWrite (h : Canon s) : Canon (counterWrite s c v) := Canon.ite h h.put

/-! ### Wrd -/

protected theorem Canon.modWrd {f : Wrd → Wrd} (h : Canon s) : Canon (modWrd s f) := h
protected theorem Canon.wrdEnd (h : Canon s) : Canon (wrdEnd s code) := Canon.ite h.put.putB.raiseGrey h.put.putB.raise
protected theorem Canon.wrdJob {j : WrdJob} (h : Canon s) : Canon (wrdJob s j) := h.modWrd.putB.put
protected theorem Canon.putWrdSlot {b : Bool} {x : Option FwSlot} (h : Canon s) : Canon (putWrdSlot s b x) := h

protected theorem Canon.policyWrite {b : Bool} {img : List Byte} (h : Canon s) : Canon (policyWrite s b img) :=
  Canon.ite h.wrdEnd (Canon.ite h.wrdEnd h.putPolSlot.wrdJob)

protected theorem Canon.wardenWrite {b : Bool} {img : List Byte} (h : Canon s) : Canon (wardenWrite s b img) :=
  Canon.ite h.wrdEnd (Canon.ite h.wrdEnd h.putWrdSlot.wrdJob)

protected theorem Canon.keyAdd {key : List Byte} (h : Canon s) : Canon (keyAdd s k key) :=
  Canon.ite h.wrdEnd (Canon.ite h.stepFree.wrdEnd h.upd.put.wrdEnd)

protected theorem Canon.keyRevoke (h : Canon s) : Canon (keyRevoke s k) := h.upd.put.put.wrdEnd
protected theorem Canon.calLock {open_ : Bool} (h : Canon s) : Canon (calLock s open_) := h.upd.putB
protected theorem Canon.calUnlock (h : Canon s) : Canon (calUnlock s) := Canon.ite h.calLock.wrdEnd h.calLock.wrdEnd
protected theorem Canon.calWrite (h : Canon s) : Canon (calWrite s b) := Canon.ite h.wrdEnd (Canon.ite h.wrdEnd h.calPut.wrdJob)
protected theorem Canon.calRead (h : Canon s) : Canon (calRead s) := h.emit.wrdEnd

protected theorem Canon.wrdRun {x : WrdReq} {p0 p1 : Bool} (h : Canon s) : Canon (wrdRun s x p0 p1) := by
  cases x <;> grind [wrdRun, Canon.wrdEnd, Canon.policyWrite, Canon.wardenWrite, Canon.keyAdd, Canon.keyRevoke, Canon.putB, Canon.calUnlock,
      Canon.calWrite, Canon.calRead]

protected theorem Canon.wrdCommand {x : WrdReq} (h : Canon s) : Canon (wrdCommand s r x) := by
  grind [wrdCommand, Canon.put, Canon.putB, Canon.raise, Canon.modWrd, Canon.wrdRun, Canon]

protected theorem Canon.policyDone {ok : Bool} (h : Canon s) : Canon (policyDone s ok) := by
  grind [policyDone, Canon.put, Canon.modWrd, Canon.wrdEnd, Canon.putPolSlot, Canon]

protected theorem Canon.wardenDone {ok : Bool} (h : Canon s) : Canon (wardenDone s ok) := by
  grind [wardenDone, Canon.put, Canon.modWrd, Canon.putWrdSlot, Canon.wrdEnd, Canon]

protected theorem Canon.calPartly {f : List Byte} (h : Canon s) : Canon (calPartly s f) := h.calPut.stepFree

protected theorem Canon.calDone {ok : Bool} (h : Canon s) : Canon (calDone s ok) := by
  grind [calDone, Canon.put, Canon.modWrd, Canon.calPut, Canon.calPartly, Canon.wrdEnd, Canon.calLock, Canon]

protected theorem Canon.jobCut (h : Canon s) : Canon (jobCut s) := by
  grind [jobCut, Canon.modWrd, Canon.calPartly, Canon]

protected theorem Canon.wardenStop (h : Canon s) : Canon (wardenStop s) := h.modWrd.jobCut.putB.dropP0

protected theorem Canon.confirmTrials (h : Canon s) : Canon (confirmTrials s) := by
  grind [confirmTrials, Canon.trialConfirm, Canon.putWrdSlot, Canon]

protected theorem Canon.wardenFails (h : Canon s) : Canon (wardenFails s) := by
  grind [wardenFails, Canon.wardenStop, Canon.wrdEnd, Canon.raiseGrey, Canon.modWrd, Canon]

protected theorem Canon.wardenExpire (h : Canon s) : Canon (wardenExpire s) := Canon.ite h h.wardenFails.inc.raiseGrey
protected theorem Canon.trialDue (h : Canon s) : Canon (trialDue s) := Canon.ite h.wardenFails h.trialTimeout
protected theorem Canon.wardenRuns {b : Bool} (h : Canon s) : Canon (wardenRuns s b) := h.putB.putB.modWrd.put

protected theorem Canon.wardenRestart (h : Canon s) : Canon (wardenRestart s) := by
  grind [wardenRestart, Canon.wardenRuns, Canon.bootApply, Canon.kstServe, Canon.sendConfirm, Canon.wrdRun, Canon.putB, Canon.modWrd, Canon]

protected theorem Canon.wrdWrite {x : WrdReq} (h : Canon s) : Canon (wrdWrite s r x) := h.onWrite fun _ ht => ht.wrdCommand

/-! ### Resets -/

protected theorem Canon.cleared (h : Canon s) : Canon (cleared s) := h
protected theorem Canon.powerOnRecord (h : Canon s) : Canon (powerOnRecord s cause) := h.put.offer
protected theorem Canon.setApr (h : Canon s) : Canon (setApr s) := h.putB.putB

protected theorem Canon.testStores (h : Canon s) : Canon (testStores s bad) := by
  unfold testStores
  grind [Canon.putB, Canon.storeFailed]

protected theorem Canon.moduleReset (h : Canon s) : Canon (moduleReset s cause bad) :=
  (h.jobCut.resetWords.cleared.upd.foldl fun _ _ ht => Canon.ite ht ht.putB).setApr.refreshLog.putB.put.testStores.powerOnRecord

protected theorem Canon.powerOn (h : Canon s) : Canon (powerOn s) :=
  h.jobCut.resetWords.cleared.upd.incSat.put.refreshLog.putB.putB.put.powerOnRecord

protected theorem Canon.startPaths (h : Canon s) : Canon (startPaths s cause) :=
  h.foldl fun _ _ ht => (Canon.ite ht.putB.putB.put ht.putB.putB).put.showGasp

protected theorem Canon.lineTakesBank (h : Canon s) : Canon (lineTakesBank s) := Canon.ite h (h.foldl fun _ _ ht => Canon.ite ht.lineSwitch ht)
protected theorem Canon.giveBack (h : Canon s) : Canon (giveBack s) := (h.foldl fun _ _ ht => ht.releaseSegs).foldl fun _ _ ht => ht.relEntry

protected theorem Canon.lineReset (h : Canon s) : Canon (lineReset s) := by
  grind [lineReset, Canon.giveBack, Canon.lineTakesBank, Canon.slotCommand, Canon.resetWords, Canon.resetLive, Canon.slotDrained,
      Canon.tokenRelease, Canon.showTribFault, Canon.lineSettle, Canon.startPaths, Canon.calLine, Canon.foldl, Canon]

protected theorem Canon.lanesStart (h : Canon s) : Canon (lanesStart s) := h.foldl fun _ _ ht => ht.laneRetarget
protected theorem Canon.linkDown (h : Canon s) : Canon (linkDown s) := (h.dropP0.foldl fun _ _ ht => ht.stopRingsOf).put.put.put

protected theorem Canon.controlReset (h : Canon s) : Canon (controlReset s) :=
  ((Canon.ite h.unarm h).linkDown.lineTakesBank.resetWords.resetLive.put.upd.foldl fun _ _ ht => ht.put).put.calClients.cplBoot

/-! ### SafeState -/

protected theorem Canon.gaspStart (h : Canon s) : Canon (gaspStart s code) := h.putB.putB.put.putB.put.upd.foldl fun _ _ ht => ht.gaspTry
protected theorem Canon.safeRegion (h : Canon s) : Canon (safeRegion s n) := h.endTransition.putB.packetReset.put.put

protected theorem Canon.safeRegions (h : Canon s) : Canon (safeRegions s) := by
  grind [safeRegions, Canon.safeRegion, Canon.linkDown, Canon.put, Canon.putB, Canon.resetWords, Canon.tokenRelease, Canon.foldl, Canon]

protected theorem Canon.safeEnter (h : Canon s) : Canon (safeEnter s code) :=
  Canon.ite h h.put.put.putB.put.gatesChanged.putB.gaspStart.safeRegions

protected theorem Canon.thermalTrip (h : Canon s) : Canon (thermalTrip s) := h.putB.raiseGrey.upd.safeEnter

protected theorem Canon.inputCollapse {good : Bool} (h : Canon s) : Canon (inputCollapse s good) :=
  h.upd.putB.putB.raiseGrey.jobCut.opTimeSave.safeEnter

protected theorem Canon.aonLoss (h : Canon s) : Canon (aonLoss s) := h.fltRecord.safeEnter

protected theorem Canon.gaspGiveUp (h : Canon s) : Canon (gaspGiveUp s q) := by
  unfold gaspGiveUp
  grind [Canon.raiseGrey, Canon.setGasp]

protected theorem Canon.logClose (h : Canon s) : Canon (logClose s) := Canon.ite h h.offer.flushNow.modEvr.putB
protected theorem Canon.bankDischarge (h : Canon s) : Canon (bankDischarge s) := Canon.ite h.upd.setGasp.setGasp.putB h
protected theorem Canon.resetLow (h : Canon s) : Canon (resetLow s bad) := h.moduleReset.upd.tapSettle
protected theorem Canon.holdRelease (h : Canon s) : Canon (holdRelease s bad) := Canon.ite h (Canon.ite h.upd.moduleReset h.upd)
protected theorem Canon.powerGood (h : Canon s) : Canon (powerGood s bad) := Canon.ite h.upd.putB.putB.moduleReset h.upd.putB.putB

/-! ### Startup -/

protected theorem Canon.modPwr {f : Pwr → Pwr} (h : Canon s) : Canon (modPwr s f) := h

protected theorem Canon.stepZero (h : Canon s) : Canon (stepZero s) := by
  grind [stepZero, Canon.calLoad, Canon.wardenRuns]

protected theorem Canon.startStep (h : Canon s) : Canon (startStep s) := by
  grind [startStep, Canon.modPwr, Canon.tokenRequest, Canon.stepZero, Canon]

protected theorem Canon.stepWork (h : Canon s) : Canon (stepWork s k) := by
  grind [stepWork, Canon.cplBoot, Canon.modPwr, Canon.bootApply, Canon.lineSettle, Canon.startPaths, Canon.sendStandings, Canon.owedTaken,
      Canon.put, Canon.enginePut, Canon]

protected theorem Canon.stepNext (h : Canon s) : Canon (stepNext s k) := Canon.ite h.modPwr h.modPwr.put.put

protected theorem Canon.stepRelease (h : Canon s) : Canon (stepRelease s k) := by
  grind [stepRelease, Canon.tokenRelease]

protected theorem Canon.stepSettled (h : Canon s) : Canon (stepSettled s) :=
  Canon.ite h (Canon.ite (h.stepRelease.stepWork.stepNext.foldl fun _ _ ht => ht.laneRetarget) h.stepRelease.stepWork.stepNext)

protected theorem Canon.stepTimeout (h : Canon s) : Canon (stepTimeout s) := by
  grind [stepTimeout, Canon.raise, Canon.putB, Canon.stepRelease, Canon.safeEnter, Canon.modPwr, Canon.stepNext, Canon.fltRecord, Canon.modEngine,
      Canon]

protected theorem Canon.tokenGrant_grantNext (h : Canon s) : Canon (tokenGrant.grantNext s) := by
  grind [tokenGrant.grantNext, Canon.tokenTake, Canon.modEngine, Canon]

protected theorem Canon.tokenGrant (h : Canon s) : Canon (tokenGrant s) := by
  grind [tokenGrant, Canon.tokenGrant_grantNext, Canon.modPwr, Canon.tokenRelease, Canon]

protected theorem Canon.tokenTimeout (h : Canon s) : Canon (tokenTimeout s) := by
  grind [tokenTimeout, Canon.raiseGrey, Canon.put, Canon.modPwr, Canon]

protected theorem Canon.showTemp {x : Sensor} {t : Int} (h : Canon s) : Canon (showTemp s x t) := by
  cases x <;> grind [showTemp, Canon.putI]

protected theorem Canon.showLevels (h : Canon s) : Canon (showLevels s) := by
  grind [showLevels, Canon.putB, Canon.put, Canon.backpressure, Canon.foldl]

protected theorem Canon.tempWarning {x : Sensor} {t : Int} (h : Canon s) : Canon (tempWarning s x t) :=
  Canon.ite h (Canon.ite h.showTemp.modPwr.showLevels.raise h.showTemp.modPwr.showLevels)

protected theorem Canon.tempThrottle {x : Sensor} {t : Int} (h : Canon s) : Canon (tempThrottle s x t) :=
  Canon.ite h (Canon.ite h.tempWarning.modPwr.showLevels.raise h.tempWarning.modPwr.showLevels)

protected theorem Canon.tempClear {x : Sensor} {t : Int} (h : Canon s) : Canon (tempClear s x t) := by
  grind [tempClear, Canon.showTemp, Canon.modPwr, Canon.showLevels, Canon]

/-! ### Faults -/

protected theorem Canon.modCovered {r : Nat} {f : FltRegion → FltRegion} (h : Canon s) : Canon (modCovered s r f) :=
  h.foldl fun _ _ ht => ht.modFlt

protected theorem Canon.startF2 {r : Nat} (h : Canon s) : Canon (startF2 s r) := h.modCovered.inc.put
protected theorem Canon.holdRegion {r : Nat} {v : Sev} (h : Canon s) : Canon (holdRegion s r v) := h.modCovered.raiseFor

protected theorem Canon.f1Done {r : Nat} (h : Canon s) : Canon (f1Done s r) :=
  Canon.ite h.startF2 (Canon.ite h.holdRegion (Canon.ite h.modCovered h.modFlt.startF2))

protected theorem Canon.f2Work {r : Nat} (h : Canon s) : Canon (f2Work s r) :=
  Canon.ite h.packetReset.put.put (Canon.ite h.lineReset (Canon.ite h.lineReset.controlReset h))

protected theorem Canon.f2Done {r : Nat} (h : Canon s) : Canon (f2Done s r) := by
  grind [f2Done, Canon.f2Work, Canon.holdRegion, Canon.modCovered, Canon.startExit, Canon.tokenRequest, Canon]

protected theorem Canon.f3Done {r : Nat} (h : Canon s) : Canon (f3Done s r) := by
  grind [f3Done, Canon.tokenRelease, Canon.put, Canon.modCovered, Canon.lanesStart, Canon.raiseGrey, Canon.foldl, Canon]

protected theorem Canon.regionStepDone {r : Nat} (h : Canon s) : Canon (regionStepDone s r) :=
  Canon.ite h (Canon.ite h.f1Done (Canon.ite h.f2Done (Canon.ite h.f3Done h)))

protected theorem Canon.restartHeld {r : Nat} (h : Canon s) : Canon (restartHeld s r) := Canon.ite h h.modCovered.startF2
protected theorem Canon.fltReset (h : Canon s) : Canon (fltReset r n s) := h.onWrite fun _ ht => Canon.ite ht.restartHeld ht

protected theorem Canon.linkFault (h : Canon s) : Canon (linkFault s region block cell) :=
  Canon.ite h.fltRecord (h.fltRecord.foldl fun _ _ ht => Canon.ite ht.put.put ht.put.put.isolate)

protected theorem Canon.faultReport_reportOnly (h : Canon s) : Canon (faultReport.reportOnly s region kind block cell) := h.fltRecord

protected theorem Canon.faultReport_regionReport (h : Canon s) : Canon (faultReport.regionReport s region kind block cell) :=
  Canon.ite h.faultReport_reportOnly h.regionFault

protected theorem Canon.faultReport (h : Canon s) : Canon (faultReport s region kind block cell) := by
  grind [faultReport, Canon.contained, Canon.scopeLane, Canon.faultReport_regionReport, Canon.linkFault, Canon.faultReport_reportOnly,
      Canon.fltRecord, Canon.safeEnter]

protected theorem Canon.hangDetect (h : Canon s) : Canon (hangDetect s region block cell) := Canon.ite h.regionFault h

protected theorem Canon.laneRetryTimeout (h : Canon s) : Canon (laneRetryTimeout s p) :=
  Canon.ite h (Canon.ite h.modLane h.modLane.contained.laneAdvance.chanCheck)

protected theorem Canon.heartbeatMiss (h : Canon s) : Canon (heartbeatMiss s) := Canon.ite h h.isolate

/-! ### Console -/

protected theorem Canon.conReply {status : Nat} {data : List Byte} (h : Canon s) : Canon (conReply s status data) :=
  (Canon.ite h.inc.inc h.inc).emit

protected theorem Canon.conCtl {k : State → State} (h : Canon s) (hk : ∀ t, Canon t → Canon (k t)) : Canon (conCtl s k) :=
  Canon.ite (hk s h) h.conReply

protected theorem Canon.conIdent (h : Canon s) : Canon (conIdent s) := h.conReply
protected theorem Canon.conStatus (h : Canon s) : Canon (conStatus s) := h.conReply
protected theorem Canon.conJet {j : Nat} (h : Canon s) : Canon (conJet s j) := Canon.ite h.conReply h.conReply
protected theorem Canon.conLog {seq : Nat} (h : Canon s) : Canon (conLog s seq) := h.conReply
protected theorem Canon.conLaserOff {mask : Nat} (h : Canon s) : Canon (conLaserOff s mask) := h.putKill.conReply
protected theorem Canon.conSafe (h : Canon s) : Canon (conSafe s) := h.conReply.safeEnter

protected theorem Canon.conRegionReset {r : Nat} (h : Canon s) : Canon (conRegionReset s r) :=
  h.conCtl fun _ ht => Canon.ite ht.conReply (Canon.ite ht.conReply (Canon.ite ht.conReply.restartHeld ht.conReply.isolate))

protected theorem Canon.conModuleReset (h : Canon s) : Canon (conModuleReset s bad) := h.conCtl fun _ ht => ht.conReply.moduleReset

protected theorem Canon.i2cCommand {b : Nat} {w : Word} (h : Canon s) : Canon (i2cCommand s b w) :=
  Canon.ite h.put (Canon.ite h.put.put.put.stepFree.stepFree.emit.putB.upd h.put.put.put)

protected theorem Canon.i2cStore {b : Nat} (h : Canon s) : Canon (i2cStore s b bs) := h.foldl fun _ _ ht => ht.put
protected theorem Canon.i2cDone {b at_ : Nat} (h : Canon s) : Canon (i2cDone s b code at_ bs) := Canon.ite h h.putB.put.put.i2cStore
protected theorem Canon.gpioSettle (h : Canon s) : Canon (gpioSettle s) := h.put.foldl fun _ _ ht => Canon.ite ht.raiseGrey ht
protected theorem Canon.gpioEdge {level : Bool} (h : Canon s) : Canon (gpioEdge s k level) := h.upd.gpioSettle
protected theorem Canon.tapLoad {i : TapInstr} {resetN : Bool} (h : Canon s) : Canon (tapLoad s i resetN) := h.upd.tapSettle
protected theorem Canon.tapSample {vals : List Bool} (h : Canon s) : Canon (tapSample s vals) := h.tapLoad.upd.emit.stepFree

/-! ### RegRead -/

protected theorem Canon.refresh (h : Canon s) : Canon (refresh s a) :=
  Canon.ite h.showEnergy.showEnergy (Canon.ite h.pathFrameDue.pathFrameDue (Canon.ite h.put h))

protected theorem Canon.clearOnRead (h : Canon s) : Canon (clearOnRead s a) := h.foldl fun _ _ ht => ht.put
protected theorem Canon.modShadow {f : Shadow → Shadow} (h : Canon s) : Canon (modShadow s r f) := h

protected theorem Canon.readReg {y : Nat} {pair : Bool} (h : Canon s) : Canon (readReg s r a y pair).1 := by
  grind [readReg, Canon.clearOnRead, Canon.stepFree, Canon.modShadow, Canon]

protected theorem Canon.busRead (h : Canon s) : Canon (busRead r a s) := by
  grind [busRead, Canon.emit, Canon.deny, Canon.accessed, Canon.inc, Canon.readReg, Canon.refresh]

/-! ### RegWrite -/

protected theorem Canon.fieldWrite {f : Nat × Nat × Acc × Nat} (h : Canon s) : Canon (fieldWrite s a v f) := by
  grind [fieldWrite, Canon.put, Canon.putExpert]

protected theorem Canon.plainWrite (h : Canon s) : Canon (plainWrite s r a v) :=
  Canon.ite (h.foldl fun _ _ ht => ht.fieldWrite).updateIrq (h.foldl fun _ _ ht => ht.fieldWrite)

protected theorem Canon.memberPart (h : Canon s) : Canon (memberPart s r a v) := by
  grind [memberPart, Canon.memberWrite]

protected theorem Canon.wordWrite (h : Canon s) : Canon (wordWrite s r a v) := h.plainWrite.stagedWrite.memberPart

protected theorem Canon.selectWrite {ev : Fld} (h : Canon s) : Canon (selectWrite s r a v g ev) :=
  Canon.ite (Canon.ite h h.raiseGrey) h.plainWrite

protected theorem Canon.sealWrite (h : Canon s) : Canon (sealWrite s r a v) := Canon.ite h.sealAbandon (Canon.ite h.sealStart h)

protected theorem Canon.lineAction (h : Canon s) : CanonOpt (lineAction s r a v) := by
  have hp : Canon (plainWrite s r a v) := h.plainWrite
  unfold lineAction
  extract_lets p s1 s2
  refine .ite h.targetWrite.some <| .ite (Canon.ite hp.rxOffsetCal.stepFree hp).some <| .ite hp.biasWritten.some <| .ite hp.applyTemp.some <|
    .ite h.safKill.some <| .ite h.ceilWrite.some <| .ite h.ceilWrite.some <| .ite h.fuseClr.some <|
    .ite (Canon.ite h.actRelease.lineSettle h).some <| .ite (Canon.some ?_) <| .ite (Canon.ite h.engineRetest h).some <|
    .ite (Canon.some (Canon.ite h ?_)) .none
  · split
    · exact h.pthLockout.pthForce
    · exact h.pthLockout.pthForce
    · exact h.pthLockout.pthClear
    · exact h.pthLockout
  · split
    · exact h.kstCommand
    · exact h.kstCommand
    · exact h

protected theorem Canon.consumeSlow {y : Nat} (h : Canon s) : Canon (consumeSlow s n y k) := h.foldl fun _ _ ht => ht.sramWrite

protected theorem Canon.cplAction (h : Canon s) : CanonOpt (cplAction s r a v) := by
  grind [cplAction, Canon.cplRestart, Canon.cplHalt, Canon.confirmTrials, Canon.wdtKick, Canon.mbxPost, Canon.mbxAck, Canon.cplDiscard,
      Canon.plainWrite, Canon.consumeSlow, Canon.stepFree, Canon.wrdCommand, CanonOpt]

protected theorem Canon.tsuAction (h : Canon s) : CanonOpt (tsuAction s r a v) := by
  grind [tsuAction, Canon.wordWrite, Canon.residClear, Canon.latchWrite, Canon.convWrite, Canon.rateWrite, Canon.stepWrite, Canon.setWrite,
      Canon.tsqPop, CanonOpt, CanonOpt.getD]

protected theorem Canon.controlAction (h : Canon s) : CanonOpt (controlAction s r a v) := by
  have hp : Canon (plainWrite s r a v) := h.plainWrite
  unfold controlAction
  extract_lets k s1 s2 m
  refine .ite (Canon.ite h.alarmArm (Canon.ite h.alarmResult (Canon.ite h.alarmResult (Canon.ite h.put.put.put h.put.put)))).some <|
    .ite (Canon.ite h.alarmDisarm (Canon.ite h.alarmResult h)).some <| .ite (Canon.some ?_) <| .ite (Canon.ite h.epcLoad h).some <|
    .ite (Canon.some ?_) <| .ite (h.ringWrite fun t ht => ht.rxRelease).some <| .ite (Canon.some ?_) <|
    .ite (Canon.ite h.padRelease h).some <| .ite (Canon.ite h.flushNow h).some <| .ite h.cursorWrite.some <|
    .ite (Canon.some (Canon.ite h ?_)) <| .ite h.rlCfgWrite.some <| .ite (Canon.ite h.fltReset h).some <| .ite h.i2cCommand.some <|
    .ite hp.gpioSettle.some .none
  · split
    · exact hp.epcOpen
    · exact hp.epcArm
    · exact hp.epcCancel
    · exact hp.epcAbandon
    · exact hp.epcAck
    · exact hp.epcNow
    · exact hp
  · split
    · exact h.p0Challenge
    · exact h.p0Respond
    · exact h.dropP0
    · exact h
  · split
    · exact h.inc
    · exact Canon.ite h.pwrRequest hp
  · split
    · exact h.clrChallenge
    · exact h.clrRespond
    · exact h

protected theorem Canon.packetAction (h : Canon s) : CanonOpt (packetAction s r n a v) := by
  grind [packetAction, Canon.taRun, Canon.plainWrite, Canon.modPkt, Canon.ownerRestore, Canon.hopFree, Canon.hopAddref, Canon.hopRead, Canon,
      CanonOpt]

protected theorem Canon.busAction (h : Canon s) : CanonOpt (busAction s r a v) := by
  unfold busAction
  refine CanonOpt.ite h.sealWrite.some ?_
  split
  · exact h.selectWrite.some
  · split
    · exact h.packetAction
    · exact h.lineAction.orElse (h.cplAction.orElse (h.tsuAction.orElse h.controlAction))

protected theorem Canon.regWrite (h : Canon s) : Canon (regWrite s r a v) := h.busAction.getD h.wordWrite

protected theorem Canon.pairWrite {lo : Option Nat} {hi : Nat} (h : Canon s) : Canon (pairWrite s r a lo hi) := by
  unfold pairWrite
  dsimp only
  split
  · exact h.counterWrite
  · refine Canon.ite h.convWrite (Canon.ite (Canon.ite h.alarmResult (Canon.ite h.alarmResult h.put)) (Canon.wordWrite ?_))
    split
    · exact Canon.ite h.wordWrite h
    · exact h

protected theorem Canon.halfWrite {y : Nat} (h : Canon s) : Canon (halfWrite s r a y v) := by
  grind [halfWrite, Canon.modShadow, Canon.pairWrite, Canon]

protected theorem Canon.mbxBodyWrite {v : Word} (h : Canon s) : Canon (mbxBodyWrite s r a v) := by
  cases r <;> grind [mbxBodyWrite, Canon.wrWord, Canon.mbxDropped]

protected theorem Canon.ringStops {x : Bool × Nat} {was : Bool} (h : Canon s) : Canon (ringStops s x was) :=
  Canon.ite (Canon.ite h.stopTx h) (Canon.ite h.stopRx h)

protected theorem Canon.writeHere {v : Word} (h : Canon s) : Canon (writeHere s r a v) := by
  grind [writeHere, Canon.mbxBodyWrite, Canon.accessed, Canon.inc, Canon.halfWrite, Canon.regWrite]

protected theorem Canon.busWrite {v : Word} (h : Canon s) : Canon (busWrite r a v s) := by
  grind [busWrite, Canon.ringWrite, Canon.ringStops, Canon.writeHere, Canon.onWrite]

/-! ### Dfr -/

protected theorem Canon.delineate {f : DsFrame} (h : Canon s) : Canon (delineate s p f).1 := by
  grind [delineate, Canon.modDfrLane, Canon.put, Canon.hunt, Canon]

protected theorem Canon.mfHeader {f : DsFrame} (h : Canon s) : Canon (mfHeader s p f).1 := by
  grind [mfHeader, Canon.modDfrLane, Canon.putB, Canon]

protected theorem Canon.aisHeader {f : DsFrame} (h : Canon s) : Canon (aisHeader s p f) := Canon.ite h.modDfrLane h
protected theorem Canon.fecFrame {f : DsFrame} (h : Canon s) : Canon (fecFrame s p f) := h.modDfrLane
protected theorem Canon.secFrame {f : DsFrame} {missed : Bool} (h : Canon s) : Canon (secFrame s p f missed) := h.liveAdd.liveAdd.liveAdd

protected theorem Canon.lcmSlotRx {x : List Byte} (h : Canon s) : Canon (lcmSlotRx s q x) :=
  Canon.ite h.inc (Canon.ite h (Canon.ite (Canon.ite h.modAct h.inc) h))

protected theorem Canon.lcmSlots {uncorr : List Nat} {l : List (List Byte)} (h : Canon s) : Canon (lcmSlots s q uncorr n i l) := by
  induction l generalizing s i with
  | nil => exact h
  | cons y l ih => grind [lcmSlots, Canon.lcmSlotRx]

protected theorem Canon.lcmFrame {f : DsFrame} (h : Canon s) : Canon (lcmFrame s q f n) := h.addTo.lcmSlots
protected theorem Canon.mgtFrame {f : DsFrame} (h : Canon s) : Canon (mgtFrame s q f n posts) := (h.foldl fun _ _ ht => ht.mgtBlock).mchServe

protected theorem Canon.contFrame {f : DsFrame} (h : Canon s) : Canon (contFrame s p t f) := by
  grind [contFrame, Canon.put, Canon.inc, Canon.showTrib, Canon.modPort, Canon]

protected theorem Canon.dfrOut {g : Seg} (h : Canon s) : Canon (dfrOut s g) := h

protected theorem Canon.segRx {e : AreaEnv} {g : Option (Seg × Bool)} (h : Canon s) : Canon (segRx s e g) := by
  unfold segRx
  grind [Canon.dfrOut, Canon.dfrDiscard, Canon.monIn, Canon.inc, Canon.monOut, Canon]

protected theorem Canon.payloadFrame {f : DsFrame} {stop : Nat} (h : Canon s) : Canon (payloadFrame s p f fn stop) :=
  h.foldl fun _ _ ht => ht.segRx

protected theorem Canon.deliverFrame {f : DsFrame} {stop : Nat} (h : Canon s) : Canon (deliverFrame s p f fn stop posts) :=
  (Canon.ite h.upd.lcmFrame.mgtFrame h.upd).payloadFrame

protected theorem Canon.processFrame {f : DsFrame} (h : Canon s) : Canon (processFrame s p f posts) := by
  grind [processFrame, Canon.mfHeader, Canon.secFrame, Canon.aisHeader, Canon.monCount, Canon.modAct, Canon.put, Canon.putI, Canon.unestablish,
      Canon.report, Canon.pathFrameDue, Canon.ltuFrame, Canon.lineSettle, Canon.contFrame, Canon.deliverFrame, Canon.fecFrame, Canon.foldl, Canon]

protected theorem Canon.downstreamFrame {f : DsFrame} (h : Canon s) : Canon (downstreamFrame s p f posts) := by
  grind [downstreamFrame, Canon.gaspMap, Canon.modDfrLane, Canon.delineate, Canon.raiseGrey, Canon.processFrame, Canon.lineSettle,
      Canon.unestablish, Canon.report, Canon]

/-! ### Upb -/

protected theorem Canon.upTribAssign (h : Canon s) : Canon (upTribAssign s q b) := Canon.ite h.upd h.queueLcm.greyOf

protected theorem Canon.buildContainer {rate : Nat} (h : Canon s) : Canon (buildContainer s t rate excess).1 := by
  grind [buildContainer, Canon.inc, Canon.putB, Canon.put, Canon]

protected theorem Canon.buildStanding {w : Nat} (h : Canon s) : Canon (buildStanding s q t fn w excess) := by
  grind [buildStanding, Canon.mapperHeld, Canon.unused, Canon.buildContainer, Canon.takeBsn, Canon.queueBurst]

protected theorem Canon.fillStanding {w : Nat} (h : Canon s) : Canon (fillStanding s q t fn w excess) := h.upd.buildStanding

protected theorem Canon.fillBefore (h : Canon s) : Canon (fillBefore s p c) :=
  h.foldl fun _ _ ht => (ht.foldl fun _ _ ht1 => ht1.fillInOrder.noteEarly).foldl fun _ _ ht1 => ht1.fillStanding.noteEarly

protected theorem Canon.dropNote {e : BurstKind × Nat × Nat} (h : Canon s) : Canon (dropNote s e) := h

protected theorem Canon.windowFill {start : Nat} (h : Canon s) : Canon (windowFill s p start mis) := by
  grind [windowFill, Canon.dropNote, Canon.fillBefore, Canon.fillInOrder, Canon.pathFrameDue, Canon.reach]

protected theorem Canon.standingBurst (h : Canon s) : Canon (standingBurst s t excess) := by
  grind [standingBurst, Canon.dropNote, Canon.fillBefore, Canon.fillStanding, Canon.pathFrameDue, Canon.reach, Canon]

protected theorem Canon.ackEntry {aid : Nat} (h : Canon s) : Canon (ackEntry s q aid v) := by
  unfold ackEntry
  split
  · exact h
  · exact Canon.ite h (Canon.ite h.inc.greyOf (Canon.ite h h.put.modAid.releaseRetained))

protected theorem Canon.pathAck (h : Canon s) : Canon (pathAck s q b) := h.foldl fun _ _ ht => ht.ackEntry
protected theorem Canon.pathSwitchMsg {z : Path} (h : Canon s) : Canon (pathSwitchMsg s z b) := h.modPth

/-! ### Tick -/

protected theorem Canon.tickPath (h : Canon s) : Canon (tickPath s q) := Canon.ite h.setPathTime h

protected theorem Canon.tickModule (h : Canon s) : Canon (tickModule s) := by
  grind [tickModule, Canon.put, Canon]

protected theorem Canon.residency (h : Canon s) : Canon (residency s) := (h.foldl fun _ _ ht => ht.inc).foldl fun _ _ ht => ht.inc
protected theorem Canon.holdGates (h : Canon s) : Canon (holdGates s) := h.foldl fun _ _ ht => Canon.ite ht.worked ht
protected theorem Canon.countCycles (h : Canon s) : Canon (countCycles s) := h.foldl fun _ _ ht => Canon.ite ht.ctrAdd ht

protected theorem Canon.tick (h : Canon s) : Canon (tick s) := by
  grind [tick, Canon.residency, Canon.tickModule, Canon.tickPath, Canon.expireCopies, Canon.uartDone, Canon.endBursts, Canon.countCycles,
      Canon.holdGates, Canon.lineSettle, Canon.applyUpTribs, Canon.applyEqds, Canon]

end

/-! ### Every command and every step -/

/-- Every command's meaning ends in `finish`, with an effect that keeps the canonical form. -/
theorem exec_finishes_canon {s : State} (h : Canon s) (c : Instr) : ∃ t, exec c s = finish s t ∧ Canon t := by
  cases c with
  | resetNLow _ => exact ⟨_, rfl, h.resetLow⟩
  | alarmArm _ _ _ => exact ⟨_, rfl, h.alarmArm⟩
  | alarmDisarm _ _ => exact ⟨_, rfl, h.alarmDisarm⟩
  | alarmLock _ => exact ⟨_, rfl, Canon.ite h.reach.put h⟩
  | alarmFire _ _ => exact ⟨_, rfl, h.alarmFires⟩
  | readLo64 _ _ => exact ⟨_, rfl, h.busRead⟩
  | writeLo64 _ _ _ => exact ⟨_, rfl, h.busWrite⟩
  | writeHi64 _ _ _ => exact ⟨_, rfl, h.busWrite⟩
  | downstreamFrame _ _ _ => exact ⟨_, rfl, h.downstreamFrame⟩
  | losAssert _ _ => exact ⟨_, rfl, h.losAssert⟩
  | losClear _ _ => exact ⟨_, rfl, h.losClear⟩
  | lolAssert _ _ _ => exact ⟨_, rfl, h.lolAssert⟩
  | lolClear _ _ => exact ⟨_, rfl, h.lolClear⟩
  | laneEstablished _ => exact ⟨_, rfl, h.laneEstablished⟩
  | clockLock _ => exact ⟨_, rfl, h.clockLock⟩
  | adaptationComplete _ _ => exact ⟨_, rfl, h.adaptDone⟩
  | wavelengthFault _ _ => exact ⟨_, rfl, h.waveFault⟩
  | wavelengthRecover _ _ => exact ⟨_, rfl, h.waveRecover⟩
  | laneTargetWrite _ _ _ => exact ⟨_, rfl, h.targetWrite⟩
  | laneTransitionDone _ => exact ⟨_, rfl, h.transitionDone⟩
  | laneRefuseCleared _ => exact ⟨_, rfl, h.refuseCleared⟩
  | enginePowered _ => exact ⟨_, rfl, h.enginePower⟩
  | trimRecompute _ _ => exact ⟨_, rfl, h.trimRecompute⟩
  | rxOffsetCal _ _ _ => exact ⟨_, rfl, h.rxOffsetCal⟩
  | safBurstPresent _ => exact ⟨_, rfl, h.safPresent⟩
  | safCeilWrite _ _ _ => exact ⟨_, rfl, h.ceilWrite⟩
  | fuseComparatorTrip _ => exact ⟨_, rfl, h.fuseTrip⟩
  | safFuseClr _ _ _ => exact ⟨_, rfl, h.fuseClr⟩
  | safKill _ _ _ => exact ⟨_, rfl, h.safKill⟩
  | reassemblyTimeout _ _ _ _ => exact ⟨_, rfl, h.reasmTimeout⟩
  | mchUartFrameRx bytes =>
    refine ⟨_, rfl, Canon.ite h ?_⟩
    split
    · exact h.mchTxDrop
    · exact h.mchEnqueue
  | spiWrite _ => exact ⟨_, rfl, Canon.ite h.mchEnqueue h⟩
  | pathParams _ => exact ⟨_, rfl, h.takeLcm fun _ _ ht => ht.pathParams⟩
  | timeAnnounce _ => exact ⟨_, rfl, h.takeLcm fun _ _ ht => ht.timeAnnounce⟩
  | discovery _ _ => exact ⟨_, rfl, h.takeLcm fun _ _ ht => ht.discovery⟩
  | announceUnanswered _ _ => exact ⟨_, rfl, h.unanswered⟩
  | assignTid _ => exact ⟨_, rfl, h.takeLcm fun _ _ ht => ht.assignTid⟩
  | rangeWindow _ => exact ⟨_, rfl, h.takeLcm fun _ _ ht => ht.rangeWindow⟩
  | eqDelay _ => exact ⟨_, rfl, h.takeLcm fun _ _ ht => ht.eqDelay⟩
  | certReq _ => exact ⟨_, rfl, Canon.ite h (h.takeLcm fun _ _ ht => ht.certReq)⟩
  | authChallenge _ => exact ⟨_, rfl, Canon.ite h (h.takeLcm fun _ _ ht => ht.challengeFragment)⟩
  | authResponseReady _ => exact ⟨_, rfl, h.respond⟩
  | keyConfirm _ => exact ⟨_, rfl, Canon.ite h (h.takeLcm fun _ _ ht => ht.keyConfirm)⟩
  | registered _ => exact ⟨_, rfl, Canon.ite h (h.takeLcm fun _ _ ht => ht.registered)⟩
  | homeAssign _ => exact ⟨_, rfl, h.takeLcm fun _ _ ht => ht.homeAssign⟩
  | homeAssignApply _ => exact ⟨_, rfl, h.homeApply⟩
  | tribAssign _ => exact ⟨_, rfl, h.takeLcm fun _ _ ht => ht.tribAssign⟩
  | tribAssignApply _ _ => exact ⟨_, rfl, h.tribApply⟩
  | deactivate _ => exact ⟨_, rfl, h.takeLcm fun _ _ ht => ht.deactivate⟩
  | hold _ => exact ⟨_, rfl, h.takeLcm fun _ _ ht => ht.holdPath⟩
  | release _ => exact ⟨_, rfl, h.takeLcm fun _ _ ht => ht.releasePath⟩
  | resume _ => exact ⟨_, rfl, h.takeLcm fun _ _ ht => ht.resume⟩
  | actHoldClr _ _ => exact ⟨_, rfl, h.onWriteP0 fun _ ht => ht.actRelease.lineSettle⟩
  | lcmFragmentTimeout _ => exact ⟨_, rfl, h.fragDrop⟩
  | to3Expire _ => exact ⟨_, rfl, h.to3Expire⟩
  | to6Expire _ => exact ⟨_, rfl, h.to6Expire⟩
  | homeFallback _ => exact ⟨_, rfl, h.homeFallback⟩
  | grantMapDecode _ => exact ⟨_, rfl, h.decodeMap⟩
  | windowFill _ _ _ => exact ⟨_, rfl, h.windowFill⟩
  | fragAbandon _ => exact ⟨_, rfl, h.fragAbandon⟩
  | upTribAssign _ => exact ⟨_, rfl, h.takeLcm fun _ _ ht => ht.upTribAssign⟩
  | standingBurst _ _ _ => exact ⟨_, rfl, h.standingBurst⟩
  | lcySegment _ _ _ => exact ⟨_, rfl, h.lcySegment⟩
  | bndGapSkip _ _ => exact ⟨_, rfl, h.bndGapSkip⟩
  | mergeWindowSkip _ => exact ⟨_, rfl, h.mergeWindowSkip⟩
  | pathAck _ => exact ⟨_, rfl, h.takeLcm fun _ _ ht => ht.pathAck⟩
  | pathSwitchMsg _ => exact ⟨_, rfl, h.takeLcm fun _ _ ht => ht.pathSwitchMsg⟩
  | pthForce _ _ => exact ⟨_, rfl, h.pthForce⟩
  | pthLockout _ _ => exact ⟨_, rfl, h.pthLockout⟩
  | pthClear _ => exact ⟨_, rfl, h.pthClear⟩
  | retentionExpire _ => exact ⟨_, rfl, h.retentionExpire⟩
  | engineRetest _ _ => exact ⟨_, rfl, h.engineRetest⟩
  | retestDone _ _ => exact ⟨_, rfl, h.retestDone⟩
  | rekey _ => exact ⟨_, rfl, h.takeLcm fun _ _ ht => ht.rekey⟩
  | rekeyEpochStart _ _ _ => exact ⟨_, rfl, h.epochStart⟩
  | rekeyReqRepeat _ _ _ => exact ⟨_, rfl, h.rekeyRepeat⟩
  | kstWrite _ => exact ⟨_, rfl, h.onWriteP0 fun _ ht => ht.kstCommand⟩
  | kstErase _ => exact ⟨_, rfl, h.onWriteP0 fun _ ht => ht.kstCommand⟩
  | keySlotDrained _ => exact ⟨_, rfl, h.keySlotDrained⟩
  | clientFrameRx _ _ _ _ _ _ => exact ⟨_, rfl, Canon.ite (Canon.ite h.statAdd.statAdd.inc h.statAdd.statAdd.frameRx) h⟩
  | clientFrameTx n l =>
    refine ⟨_, rfl, ?_⟩
    split
    · exact Canon.ite h h.modPort.frameTx
    · exact h
  | signalDetect _ _ => exact ⟨_, rfl, Canon.ite (h.foldl fun _ _ ht => ht.putB).setLink h⟩
  | laneAdaptDone _ _ _ => exact ⟨_, rfl, Canon.ite (h.foldl fun _ _ ht => ht.putB.putB.put).setLink h⟩
  | alignLock _ _ => exact ⟨_, rfl, Canon.ite h.setLink h⟩
  | alignLoss _ _ => exact ⟨_, rfl, Canon.ite h.setLink h⟩
  | signalLoss _ _ => exact ⟨_, rfl, Canon.ite h.portDown h⟩
  | faultOrderedSetRx _ _ _ =>
    exact ⟨_, rfl, Canon.ite h (Canon.ite (Canon.ite h.putB.putB.receivedSet (Canon.ite h.putB.putB.put.raiseGrey h.putB.putB).emitSet) h)⟩
  | faultClearTimeout _ _ => exact ⟨_, rfl, Canon.ite (Canon.ite h.putB.putB.put.emitSet h.putB.putB.put) (Canon.ite h.putB.putB.receivedSet h)⟩
  | pauseExpire _ _ _ => exact ⟨_, rfl, h.put⟩
  | pauseWatchdog _ _ _ => exact ⟨_, rfl, Canon.ite h.put.put.inc.raise h⟩
  | pauseRefresh _ _ => exact ⟨_, rfl, h.sendReq⟩
  | transparentFrameRx _ _ _ _ => exact ⟨_, rfl, Canon.ite (Canon.ite h.statAdd.statAdd.inc h.statAdd.statAdd.transparentRx) h⟩
  | orderedSetRepeat _ _ => exact ⟨_, rfl, Canon.ite h.mapOrderedSet h⟩
  | demapRecord _ _ => exact ⟨_, rfl, Canon.ite h.demap h⟩
  | orderedSetTimeout _ _ => exact ⟨_, rfl, Canon.ite h h.modPort.emitSet⟩
  | prsPass n k =>
    refine ⟨_, rfl, Canon.ite h ?_⟩
    have hn := h.nextPacket (n := n.val) (k := k.val)
    grind [Canon.pass]
  | allocRetry _ => exact ⟨_, rfl, Canon.ite h h.retryClock⟩
  | taRead _ _ _ => exact ⟨_, rfl, h.onWrite fun _ ht => ht.taRun⟩
  | taWrite _ _ _ => exact ⟨_, rfl, h.onWrite fun _ ht => ht.taRun⟩
  | taInsert _ _ _ => exact ⟨_, rfl, h.onWrite fun _ ht => ht.taRun⟩
  | taDelete _ _ _ => exact ⟨_, rfl, h.onWrite fun _ ht => ht.taRun⟩
  | taLookup _ _ _ => exact ⟨_, rfl, h.onWrite fun _ ht => ht.taRun⟩
  | taActRead _ _ _ => exact ⟨_, rfl, h.onWrite fun _ ht => ht.taRun⟩
  | taActWrite _ _ _ => exact ⟨_, rfl, h.onWrite fun _ ht => ht.taRun⟩
  | dequeue n m post =>
    refine ⟨_, rfl, Canon.ite h ?_⟩
    grind [Canon.serveRoot]
  | meterRefill _ _ _ => exact ⟨_, rfl, h.refill⟩
  | wheelRelease _ _ _ => exact ⟨_, rfl, h.offWheel⟩
  | polAccDone _ _ => exact ⟨_, rfl, h.onWrite fun _ ht => ht.modPkt⟩
  | demotionScan _ =>
    exact ⟨_, rfl, Canon.ite h (((h.foldl fun _ _ ht => ht.scanQueue).foldl fun _ _ ht => ht.scanRetained).emptied.whenB fun _ ht => ht.worked)⟩
  | promotionDone n q =>
    refine ⟨_, rfl, ?_⟩
    split
    · exact Canon.ite h h.worked.promotionDone
    · exact h
  | hopFree _ _ => exact ⟨_, rfl, h.onWrite fun _ ht => ht.put.hopFree⟩
  | hopAddref _ _ => exact ⟨_, rfl, h.onWrite fun _ ht => ht.put.hopAddref⟩
  | hopRead _ _ _ => exact ⟨_, rfl, h.onWrite fun _ ht => ht.put.put.hopRead⟩
  | ownerRestore _ _ _ => exact ⟨_, rfl, h.onWrite fun _ ht => Canon.ite ht.ownerRestore ht⟩
  | patrolScrub _ _ _ _ _ _ _ => exact ⟨_, rfl, Canon.ite h h.scrub⟩
  | memoryTrainingDone _ _ => exact ⟨_, rfl, h.memoryTraining⟩
  | tsuRateWrite _ _ _ => exact ⟨_, rfl, h.onWrite fun _ ht => ht.rateWrite⟩
  | tsuStepWrite _ _ _ => exact ⟨_, rfl, h.onWrite fun _ ht => ht.stepWrite⟩
  | tsuSet _ _ _ => exact ⟨_, rfl, h.onWrite fun _ ht => ht.setWrite⟩
  | domainHoldover _ => exact ⟨_, rfl, Canon.ite h.setDomState.raiseGrey h⟩
  | ppsInEdge _ => exact ⟨_, rfl, Canon.ite h.put.inc.raiseGrey.measured h.put.inc.raiseGrey⟩
  | tsuConvert _ _ _ => exact ⟨_, rfl, h.onWrite fun _ ht => ht.convWrite⟩
  | tsuLatch _ => exact ⟨_, rfl, h.onWrite fun _ ht => ht.latchWrite⟩
  | residClr _ => exact ⟨_, rfl, h.onWrite fun _ ht => ht.residClear⟩
  | ppsOutEdge k =>
    exact ⟨_, rfl, Canon.ite (Canon.ite h h.emit) h⟩
  | tsqPop _ _ => exact ⟨_, rfl, h.onWrite fun _ ht => ht.tsqPop⟩
  | policyWrite _ _ _ => exact ⟨_, rfl, h.wrdWrite⟩
  | policyWriteDone _ => exact ⟨_, rfl, h.policyDone⟩
  | wardenWrite _ _ _ => exact ⟨_, rfl, h.wrdWrite⟩
  | keyAdd _ _ _ => exact ⟨_, rfl, h.wrdWrite⟩
  | keyRevoke _ _ => exact ⟨_, rfl, h.wrdWrite⟩
  | setPref _ _ => exact ⟨_, rfl, h.wrdWrite⟩
  | clusterRestart _ => exact ⟨_, rfl, h.onWrite fun _ ht => ht.cplRestart⟩
  | clusterHalt _ => exact ⟨_, rfl, h.onWrite fun _ ht => ht.cplHalt⟩
  | trialConfirm _ => exact ⟨_, rfl, h.onWrite fun _ ht => ht.confirmTrials⟩
  | wdtKick _ _ => exact ⟨_, rfl, h.onWrite fun _ ht => ht.wdtKick⟩
  | clusterWdtExpire _ => exact ⟨_, rfl, h.wdtExpire⟩
  | mbxPost _ _ => exact ⟨_, rfl, h.onWrite fun _ ht => ht.mbxPost⟩
  | mbxClaim _ => exact ⟨_, rfl, h.mbxClaim⟩
  | mbxComplete _ => exact ⟨_, rfl, h.mbxComplete⟩
  | mbxAck _ _ => exact ⟨_, rfl, h.onWrite fun _ ht => ht.mbxAck⟩
  | mbxTimeout _ => exact ⟨_, rfl, h.mbxTimeout⟩
  | injectDescriptor _ _ _ => exact ⟨_, rfl, h.inject⟩
  | p0Challenge _ => exact ⟨_, rfl, h.onWrite fun _ ht => ht.p0Challenge⟩
  | p0Respond _ => exact ⟨_, rfl, h.onWrite fun _ ht => ht.p0Respond⟩
  | p0Drop _ => exact ⟨_, rfl, h.onWrite fun _ ht => ht.dropP0⟩
  | flr _ => exact ⟨_, rfl, (Canon.ite h.stopRingsOf.put.modHif.dropP0 h.stopRingsOf.put.modHif).raiseGrey⟩
  | flrComplete _ => exact ⟨_, rfl, h.put⟩
  | ringDisable r id =>
    refine ⟨_, rfl, ?_⟩
    split
    · exact h.ringWrite fun _ ht => ht.stopTx
    · exact h.ringWrite fun _ ht => ht.stopRx
  | txDescriptor _ _ => exact ⟨_, rfl, Canon.ite h (Canon.ite h.mgtDescriptor h.txDescriptor)⟩
  | writebackTimeout t k =>
    refine ⟨_, rfl, ?_⟩
    split
    · exact h.writeBack.raiseGrey
    · exact h
  | rxRelease _ _ _ => exact ⟨_, rfl, h.ringWrite fun _ ht => ht.rxRelease⟩
  | interruptCoalesceTimeout id =>
    refine ⟨_, rfl, ?_⟩
    split
    · exact h
    · exact Canon.ite h.modHif.deliverOwned h
  | pwrRequest _ _ _ => exact ⟨_, rfl, h.pwrRequest⟩
  | entryStepDone _ => exact ⟨_, rfl, h.entryDone⟩
  | entryDrainTimeout _ => exact ⟨_, rfl, Canon.ite h.entryUndo h⟩
  | exitStepDone _ => exact ⟨_, rfl, h.exitDone⟩
  | padRelease _ _ => exact ⟨_, rfl, h.padRelease⟩
  | tempWarning _ _ => exact ⟨_, rfl, h.tempWarning⟩
  | tempThrottle _ _ => exact ⟨_, rfl, h.tempThrottle⟩
  | tempClear _ _ => exact ⟨_, rfl, h.tempClear⟩
  | thermalTrip _ _ => exact ⟨_, rfl, Canon.ite h h.tempThrottle.thermalTrip⟩
  | inputCollapse _ => exact ⟨_, rfl, h.inputCollapse⟩
  | ashGaspGiveup _ => exact ⟨_, rfl, h.gaspGiveUp⟩
  | powerGoodRestored _ => exact ⟨_, rfl, h.powerGood⟩
  | evrFlushTick _ => exact ⟨_, rfl, h.flushTick⟩
  | evrFlush _ => exact ⟨_, rfl, h.onWrite fun _ ht => ht.flushNow⟩
  | evrCursorWrite _ _ => exact ⟨_, rfl, h.onWrite fun _ ht => ht.cursorWrite⟩
  | windowCopyDone _ => exact ⟨_, rfl, h.windowCopied⟩
  | evrClrChallenge _ => exact ⟨_, rfl, h.onWrite fun _ ht => Canon.ite ht.clrChallenge ht⟩
  | evrClrRespond _ => exact ⟨_, rfl, h.onWrite fun _ ht => Canon.ite ht.clrRespond ht⟩
  | evrRlCfgWrite _ _ => exact ⟨_, rfl, h.onWrite fun _ ht => ht.rlCfgWrite⟩
  | counterWrite _ _ _ => exact ⟨_, rfl, h.onWrite fun _ ht => ht.counterWrite⟩
  | pmonFreeze _ _ => exact ⟨_, rfl, h.onWrite fun _ ht => ht.putB⟩
  | groupMemberWrite r a v =>
    refine ⟨_, rfl, ?_⟩
    split
    · split
      · exact h.onWriteP0 fun _ ht => ht.memberWrite
      · exact h.onWrite fun _ ht => ht.memberWrite
    · exact h
  | sealAbandon _ _ => exact ⟨_, rfl, Canon.ite (h.onWrite fun _ ht => ht.sealAbandon) h⟩
  | sealCheckDone _ => exact ⟨_, rfl, h.sealDone⟩
  | groupHoldTimeout _ => exact ⟨_, rfl, h.holdTimeout⟩
  | epcOpen _ => exact ⟨_, rfl, h.onWrite fun _ ht => ht.epcOpen⟩
  | epcLoad _ => exact ⟨_, rfl, h.onWrite fun _ ht => ht.epcLoad⟩
  | imageLoadDone _ => exact ⟨_, rfl, h.loadDone⟩
  | stagedWrite _ _ _ => exact ⟨_, rfl, h.busWrite⟩
  | epcArm _ => exact ⟨_, rfl, h.onWrite fun _ ht => ht.epcArm⟩
  | epcCancel _ => exact ⟨_, rfl, h.onWrite fun _ ht => ht.epcCancel⟩
  | epcAbandon _ => exact ⟨_, rfl, h.onWrite fun _ ht => ht.epcAbandon⟩
  | epcAck _ => exact ⟨_, rfl, h.onWrite fun _ ht => ht.epcAck⟩
  | epcNow _ => exact ⟨_, rfl, h.onWrite fun _ ht => ht.epcNow⟩
  | lineBankSwitch _ => exact ⟨_, rfl, h.lineBankSwitch⟩
  | scopeReady _ => exact ⟨_, rfl, h.scopeReady⟩
  | faultReport _ _ _ _ => exact ⟨_, rfl, h.faultReport⟩
  | regionStepDone _ => exact ⟨_, rfl, h.regionStepDone⟩
  | hangDetect _ _ _ => exact ⟨_, rfl, h.hangDetect⟩
  | fltRegionReset _ _ => exact ⟨_, rfl, h.fltReset⟩
  | scopeLaneRetryTimeout _ => exact ⟨_, rfl, h.laneRetryTimeout⟩
  | consoleJetRead _ => exact ⟨_, rfl, h.conJet⟩
  | consoleLogRead _ => exact ⟨_, rfl, h.conLog⟩
  | consoleLaserOff _ => exact ⟨_, rfl, h.conLaserOff⟩
  | consoleRegionReset _ => exact ⟨_, rfl, h.conRegionReset⟩
  | consoleModuleReset _ => exact ⟨_, rfl, h.conModuleReset⟩
  | calUnlock _ => exact ⟨_, rfl, h.wrdWrite⟩
  | calWrite _ _ => exact ⟨_, rfl, h.wrdWrite⟩
  | calSaveRx _ => exact ⟨_, rfl, h.wrdWrite⟩
  | calRead _ => exact ⟨_, rfl, h.wrdWrite⟩
  | i2cCommand _ _ _ => exact ⟨_, rfl, h.onWrite fun _ ht => ht.i2cCommand⟩
  | i2cDone _ _ _ _ => exact ⟨_, rfl, h.i2cDone⟩
  | gpioEdge _ _ => exact ⟨_, rfl, h.gpioEdge⟩
  | extest _ => exact ⟨_, rfl, h.tapLoad⟩
  | samplePreload _ => exact ⟨_, rfl, h.tapSample⟩
  | clamp _ => exact ⟨_, rfl, h.tapLoad⟩
  | highz _ => exact ⟨_, rfl, h.tapLoad⟩
  | extestPulse _ => exact ⟨_, rfl, h.tapLoad⟩
  | extestTrain _ => exact ⟨_, rfl, h.tapLoad⟩
  | registerWrite _ _ _ => exact ⟨_, rfl, h.busWrite⟩
  | registerRead _ _ => exact ⟨_, rfl, h.busRead⟩
  | pauseIgnoreEnd _ _ _ => exact ⟨_, rfl, h.put⟩
  | wardenWriteDone _ => exact ⟨_, rfl, h.wardenDone⟩
  | calWriteDone _ => exact ⟨_, rfl, h.calDone⟩
  | pcieLinkTrained _ _ => exact ⟨_, rfl, h.put.put.putB⟩
  | thermalHoldRelease _ => exact ⟨_, rfl, h.holdRelease⟩
  | powerOn => exact ⟨_, rfl, h.powerOn⟩
  | startStep => exact ⟨_, rfl, h.startStep⟩
  | stepSettled => exact ⟨_, rfl, h.stepSettled⟩
  | stepSettleTimeout => exact ⟨_, rfl, h.stepTimeout⟩
  | tokenGrant => exact ⟨_, rfl, h.tokenGrant⟩
  | tokenTimeout => exact ⟨_, rfl, h.tokenTimeout⟩
  | moduleFrameBoundary => exact ⟨_, rfl, h.frameBoundary⟩
  | secOffsetChange => exact ⟨_, rfl, h.takeOffset⟩
  | snapshotComplete => exact ⟨_, rfl, h.snapComplete⟩
  | freezeEnd => exact ⟨_, rfl, h.freezeEnd⟩
  | leadPathChange => exact ⟨_, rfl, h.takeLead⟩
  | leadRevert => exact ⟨_, rfl, h.leadRevert⟩
  | laserEnLow => exact ⟨_, rfl, h.laserLow⟩
  | laserEnHigh => exact ⟨_, rfl, h.laserHigh⟩
  | spiStatus => exact ⟨_, rfl, h.emit⟩
  | spiRead => exact ⟨_, rfl, Canon.ite h.emit h.emit.inc.mchPop.mchServe⟩
  | skewReport => exact ⟨_, rfl, h.skewReport.skewReport⟩
  | keyDerivationDone => exact ⟨_, rfl, h.derivationDone⟩
  | pathSwitchApply => exact ⟨_, rfl, h.switchApply⟩
  | holdoffExpire => exact ⟨_, rfl, h.holdoffExpire⟩
  | wtrExpire => exact ⟨_, rfl, h.wtrExpire⟩
  | domainRebase => exact ⟨_, rfl, h.forEach fun _ _ ht => Canon.ite ht ht.rebase⟩
  | todMessage =>
    refine ⟨_, rfl, ?_⟩
    split
    · exact Canon.ite h.upd.emit h.upd
    · exact h
  | trialTimeout => exact ⟨_, rfl, h.trialDue⟩
  | wardenWdtExpire => exact ⟨_, rfl, h.wardenExpire⟩
  | perstNAssert => exact ⟨_, rfl, (h.dropP0.foldl fun _ _ ht => ht.stopRingsOf).put.put.put.upd.modHif.clearHif.put⟩
  | p0VerifyDone => exact ⟨_, rfl, h.p0Verify⟩
  | p0LockoutExpire => exact ⟨_, rfl, h.modHif⟩
  | logClose => exact ⟨_, rfl, h.logClose⟩
  | bankDischarge => exact ⟨_, rfl, h.bankDischarge⟩
  | clrVerifyDone => exact ⟨_, rfl, h.clrVerify⟩
  | rateLimitRefill => exact ⟨_, rfl, h.refillBuckets⟩
  | opTimeTick => exact ⟨_, rfl, h.inc⟩
  | opTimeSave => exact ⟨_, rfl, h.opTimeSave⟩
  | seedCopyDone => exact ⟨_, rfl, h.seedDone⟩
  | armCheckDone => exact ⟨_, rfl, h.armDone⟩
  | nowCheckDone => exact ⟨_, rfl, h.nowDone⟩
  | nowDrainBound => exact ⟨_, rfl, Canon.ite h.drainBound h⟩
  | nowRestartBound => exact ⟨_, rfl, Canon.ite h.restartBound h⟩
  | commitAcknowledged => exact ⟨_, rfl, h.commitAck⟩
  | drainDone => exact ⟨_, rfl, h.drainDone⟩
  | heartbeatMiss => exact ⟨_, rfl, h.heartbeatMiss⟩
  | aonIntegrityLoss => exact ⟨_, rfl, h.aonLoss⟩
  | consoleIdent => exact ⟨_, rfl, h.conIdent⟩
  | consoleStatus => exact ⟨_, rfl, h.conStatus⟩
  | consoleSafeEnter => exact ⟨_, rfl, h.conSafe⟩
  | calUnlockExpire => exact ⟨_, rfl, Canon.ite h.calLock h⟩
  | idcode => exact ⟨_, rfl, h.tapLoad.emit⟩
  | bypass => exact ⟨_, rfl, h.tapLoad⟩
  | clrLockoutExpire => exact ⟨_, rfl, h.modEvr⟩
  | clusterCoresReleased => exact ⟨_, rfl, h.coresReleased⟩
  | wardenRestartDone => exact ⟨_, rfl, h.wardenRestart⟩
  | servedSlewEnd => exact ⟨_, rfl, h.residClear⟩
  -- The one command left is SEAL, whose name Lean reads as a keyword.
  | _ => exact ⟨_, rfl, Canon.ite (h.onWrite fun _ ht => ht.sealStart) h⟩

/-- What `finish` answers is canonical where the command's effect is: `settle` only puts fields. -/
theorem canon_of_finish {s t u : State} (h : Canon t) (hu : finish s t = .next u) : Canon u := by
  obtain rfl : settle { t with pending := s.pending } = u := Host.Outcome.next.inj hu
  exact h.upd.settle

theorem canon_of_step {s t : State} (h : Canon s) (ht : step s = .next t) : Canon t := by
  unfold step at ht
  split at ht
  · exact canon_of_finish h.tick ht
  · rename_i c rest _
    obtain ⟨u, hu, hc⟩ := exec_finishes_canon (s := { s with pending := rest }) h c
    exact canon_of_finish hc (hu.symm.trans ht)

theorem canonical_reset : Canonical State.reset.regs := by
  unfold Canonical
  decide +kernel

/-- Settles O7: a put of a field is one or two puts of a word. -/
theorem putKeepsCanonical : Obligations.PutKeepsCanonical :=
  fun _ _ _ h => Canon.put h

/-- Settles O8, from the rules of all operations: every step runs a command's meaning or a core tick and settles its effect. -/
theorem stepKeepsCanonical : Obligations.StepKeepsCanonical :=
  ⟨canonical_reset, fun _ _ h ht => canon_of_step h ht⟩

end Sys2Proof.Machine
end

section
/-!
SUPPORT. A field of one register word: what a put leaves of the word's other bits and of other words (R7).
-/
namespace Sys2Proof.Machine
open Sys2Proof

/-! ### Bits of a number -/

theorem setBits_mod (v lo w x : Nat) : setBits v lo w x % 2 ^ lo = v % 2 ^ lo := by
  rw [setBits, Nat.pow_add, Nat.mul_assoc, Nat.add_mul_mod_self_left, Nat.add_mul_mod_self_left, Nat.mod_mod]

theorem setBits_div_lo (v lo w x : Nat) : setBits v lo w x / 2 ^ lo = x % 2 ^ w + 2 ^ w * (v / 2 ^ (lo + w)) := by
  have hlo : 0 < 2 ^ lo := Nat.two_pow_pos lo
  rw [setBits, Nat.pow_add, Nat.mul_assoc, Nat.add_assoc, ← Nat.mul_add, Nat.add_mul_div_left _ _ hlo,
    Nat.div_eq_of_lt (Nat.mod_lt _ hlo), Nat.zero_add]

theorem setBits_div (v lo w x : Nat) : setBits v lo w x / 2 ^ (lo + w) = v / 2 ^ (lo + w) := by
  have hw : 0 < 2 ^ w := Nat.two_pow_pos w
  rw [show 2 ^ (lo + w) = 2 ^ lo * 2 ^ w from Nat.pow_add .., ← Nat.div_div_eq_div_mul, setBits_div_lo, Nat.add_mul_div_left _ _ hw,
    Nat.div_eq_of_lt (Nat.mod_lt _ hw), Nat.zero_add, Nat.pow_add]

theorem bits_setBits_same (v lo w x : Nat) : bits (setBits v lo w x) lo w = x % 2 ^ w := by
  rw [bits, setBits_div_lo, Nat.add_mul_mod_self_left, Nat.mod_mod]

/-- Bits that lie under `m` are bits of the remainder. -/
theorem bits_mod {l u m : Nat} (v : Nat) (h : l + u ≤ m) : bits (v % 2 ^ m) l u = bits v l u := by
  have key : ∀ n, bits n l u = n % 2 ^ (l + u) / 2 ^ l := fun n => by rw [bits, Nat.pow_add, Nat.mod_mul_right_div_self]
  rw [key, key, Nat.mod_mod_of_dvd _ (Nat.pow_dvd_pow 2 h)]

/-- Bits that lie from `m` up are bits of the quotient. -/
theorem bits_div {l m : Nat} (v u : Nat) (h : m ≤ l) : bits v l u = bits (v / 2 ^ m) (l - m) u := by
  rw [bits, bits, Nat.div_div_eq_div_mul, ← Nat.pow_add, Nat.add_sub_cancel' h]

theorem bits_setBits_disjoint (v x : Nat) {lo w l u : Nat} (h : l + u ≤ lo ∨ lo + w ≤ l) : bits (setBits v lo w x) l u = bits v l u := by
  rcases h with h | h
  · rw [← bits_mod _ h, setBits_mod, bits_mod _ h]
  · rw [bits_div _ u h, setBits_div, ← bits_div _ u h]

theorem setBits_lt {v lo w n : Nat} (x : Nat) (hv : v < 2 ^ n) (h : lo + w ≤ n) : setBits v lo w x < 2 ^ n := by
  obtain ⟨k, rfl⟩ := Nat.exists_eq_add_of_le h
  rw [Nat.pow_add _ (lo + w) k] at hv ⊢
  rw [Nat.mul_comm] at hv ⊢
  rw [← Nat.div_lt_iff_lt_mul (Nat.two_pow_pos _)] at hv ⊢
  rwa [setBits_div]

/-! ### Fields of one word -/

theorem get_of_le {f : Fld} (s : State) (h : f.lo + f.w ≤ 32) : get s f = bits (rdWord s f.addr).toNat f.lo f.w :=
  if_pos h

theorem rdWord_put_same {f : Fld} (s : State) (v : Nat) (h : f.lo + f.w ≤ 32) :
    (rdWord (put s f v) f.addr).toNat = setBits (rdWord s f.addr).toNat f.lo f.w v := by
  rw [put, if_pos h, rdWord_wrWord_same, BitVec.toNat_ofNat, Nat.mod_eq_of_lt (setBits_lt v (BitVec.isLt _) h)]

theorem get_put_same {f : Fld} (s : State) (v : Nat) (h : f.lo + f.w ≤ 32) : get (put s f v) f = v % 2 ^ f.w := by
  rw [get_of_le _ h, rdWord_put_same s v h, bits_setBits_same]

theorem get_put_disjoint {f g : Fld} (s : State) (v : Nat) (hf : f.lo + f.w ≤ 32) (hg : g.lo + g.w ≤ 32)
    (hd : g.addr ≠ f.addr ∨ g.lo + g.w ≤ f.lo ∨ f.lo + f.w ≤ g.lo) : get (put s f v) g = get s g := by
  rw [get_of_le _ hg, get_of_le _ hg]
  by_cases ha : g.addr = f.addr
  · rw [ha, rdWord_put_same s v hf, bits_setBits_disjoint _ _ (hd.resolve_left (absurd ha))]
  · rw [rdWord_put_ne_one s f v _ hf ha]

/-- Settles O6, from what `setBits` does to the bits of a word and what a put word leaves of the others. -/
theorem fieldPutGet : Obligations.FieldPutGet :=
  fun s _ _ v hf hg => ⟨get_put_same s v hf, get_put_disjoint s v hf hg⟩

end Sys2Proof.Machine
end

section
/-!
SUPPORT. The state after reset, evaluated, and what a module reset and a power-on start again and keep (R9, R412).
-/
namespace Sys2Proof.Machine
open Sys2Proof

/-! ### The state after reset -/

/-- Settling the reset state puts every output at the value it has. -/
theorem settle_reset : settle State.reset = State.reset := by decide +kernel

theorem outputsSettled_reset : OutputsSettled State.reset := by
  unfold OutputsSettled
  decide +kernel

/-- Settles O5, by evaluating the reset state. -/
theorem resetState : Obligations.ResetState :=
  ⟨rfl, rfl, rfl, rfl, rfl, rfl, rfl, rfl, rfl, rfl, rfl, rfl, outputsSettled_reset, settle_reset⟩

/-! ### What a record leaves unchanged -/

/-- The state without what the recording of an event changes: registers, free values, outputs, live counters, the log, and the interrupts
that are raised or pending. -/
def unrecorded (s : State) : State :=
  { s with regs := [], free := 0, outbox := [], live := [], evr := {}, hif := { s.hif with raised := [], pba := [] } }

@[simp] theorem unrecorded_put (s : State) (f : Fld) (v : Nat) : unrecorded (put s f v) = unrecorded s := by
  unfold put
  split <;> rfl

@[simp] theorem unrecorded_putB (s : State) (f : Fld) (b : Bool) : unrecorded (putB s f b) = unrecorded s := unrecorded_put ..
@[simp] theorem unrecorded_addTo (s : State) (f : Fld) (n : Nat) : unrecorded (addTo s f n) = unrecorded s := unrecorded_put ..
@[simp] theorem unrecorded_inc (s : State) (f : Fld) : unrecorded (inc s f) = unrecorded s := unrecorded_put ..
@[simp] theorem unrecorded_incSat (s : State) (f : Fld) : unrecorded (incSat s f) = unrecorded s := unrecorded_put ..
@[simp] theorem unrecorded_withEvr (s : State) (e : Evr) : unrecorded { s with evr := e } = unrecorded s := rfl
@[simp] theorem unrecorded_stepFree (s : State) : unrecorded (stepFree s) = unrecorded s := rfl
@[simp] theorem unrecorded_spend (s : State) (c : Nat) (v : Sev) : unrecorded (spend s c v) = unrecorded s := rfl
@[simp] theorem unrecorded_suppress (s : State) (c : Nat) : unrecorded (suppress s c) = unrecorded s := rfl
@[simp] theorem unrecorded_unsuppress (s : State) (c : Nat) : unrecorded (unsuppress s c) = unrecorded s := rfl

theorem unrecorded_foldl {α : Type} {g : State → α → State} (hg : ∀ s x, unrecorded (g s x) = unrecorded s) (l : List α) (s : State) :
    unrecorded (l.foldl g s) = unrecorded s := by
  induction l generalizing s with
  | nil => rfl
  | cons x l ih => rw [List.foldl_cons, ih, hg]

@[simp] theorem unrecorded_ctrBump (s : State) (c n : Nat) : unrecorded (ctrBump s c n).1 = unrecorded s := by
  unfold ctrBump
  dsimp only
  split <;> simp

@[simp] theorem unrecorded_monBump (s : State) (f : Fld) : unrecorded (monBump s f) = unrecorded s := by
  unfold monBump
  split
  · rfl
  · exact unrecorded_foldl (fun s c => unrecorded_ctrBump s c 1) _ s

@[simp] theorem unrecorded_deliver (s : State) (src : Nat) : unrecorded (deliver s src) = unrecorded s := by
  unfold deliver
  dsimp only
  split
  · split <;> rfl
  · rfl

@[simp] theorem unrecorded_updateIrq (s : State) (a : Nat) : unrecorded (updateIrq s a) = unrecorded s := by
  unfold updateIrq
  split
  · rfl
  · split
    · split
      · rfl
      · rw [unrecorded_deliver]
        rfl
    · rfl

@[simp] theorem unrecorded_refreshLog (s : State) : unrecorded (refreshLog s) = unrecorded s := by
  unfold refreshLog
  dsimp only
  split <;> simp

@[simp] theorem unrecorded_dropAged (s : State) : unrecorded (dropAged s) = unrecorded s := by
  simp [dropAged]

@[simp] theorem unrecorded_seqUsed (s : State) : unrecorded (seqUsed s) = unrecorded s := by
  simp [seqUsed]

@[simp] theorem unrecorded_countDrop (s : State) (v : Sev) : unrecorded (countDrop s v) = unrecorded s := by
  unfold countDrop
  dsimp only
  split
  · simp
  · split <;> simp

@[simp] theorem unrecorded_jetPut (s : State) (r : Rec) : unrecorded (jetPut s r).1 = unrecorded s := by
  unfold jetPut
  split <;> rfl

@[simp] theorem unrecorded_jetOnly (s : State) (r : Rec) : unrecorded (jetOnly s r) = unrecorded s := by
  have h := unrecorded_jetPut s r
  unfold jetOnly
  split <;> simp_all

@[simp] theorem unrecorded_admitRec (s : State) (r : Rec) : unrecorded (admitRec s r) = unrecorded s := by
  unfold admitRec
  split
  · split <;> simp
  · split
    · split <;> simp
    · split
      · simp
      · split
        · simp
        · dsimp only [whenB]
          split <;> split <;> simp

@[simp] theorem unrecorded_offer (s : State) (c : Nat) (v : Sev) (region block cell arg0 arg1 : Nat) :
    unrecorded (offer s c v region block cell arg0 arg1) = unrecorded s := by
  simp only [offer, offerArgs, offerTo]
  split <;> simp

@[simp] theorem unrecorded_raiseRec (s : State) (f : Fld) (v : Sev) (region cell arg1 : Nat) :
    unrecorded (raiseRec s f v region cell arg1) = unrecorded s := by
  simp only [raiseRec, raiseWith]
  split
  · rfl
  · split <;> simp

@[simp] theorem unrecorded_ctrAdd (s : State) (c n : Nat) : unrecorded (ctrAdd s c n) = unrecorded s := by
  unfold ctrAdd
  dsimp only
  split <;> simp

@[simp] theorem unrecorded_monCount (s : State) (region block event : Nat) (ids : List (Nat × Nat)) (n : Nat) :
    unrecorded (monCount s region block event ids n) = unrecorded s :=
  unrecorded_foldl (fun s c => unrecorded_ctrAdd s c n) _ s

@[simp] theorem unrecorded_raise (s : State) (f : Fld) (v : Sev) (arg1 : Nat) : unrecorded (raise s f v arg1) = unrecorded s := by
  simp only [raise, raiseFor, monEvent]
  split
  · rfl
  · simp

/-! ### Module reset and power-on -/

theorem unrecorded_resetWords (s : State) (w : Nat → Bool) (keep : Nat → RegRow → FieldRow → Bool) :
    unrecorded (resetWords s w keep) = unrecorded s := by
  refine unrecorded_foldl (fun s a => ?_) _ s
  split <;> rfl

/-- `cleared` keeps no part of what a record changes, but for registers, free values, outputs and the log. -/
theorem unrecorded_cleared {s t : State} (h : unrecorded s = unrecorded t) : unrecorded (cleared s) = unrecorded (cleared t) := by
  have hpending : s.pending = t.pending := (congrArg State.pending h :)
  have hflash : s.flash = t.flash := (congrArg State.flash h :)
  have hpins : s.pins = t.pins := (congrArg State.pins h :)
  have htap : s.tap = t.tap := (congrArg State.tap h :)
  simp only [cleared, unrecorded, hpending, hflash, hpins, htap]

/-- The structures that a module reset starts again, and the ones it keeps, beside the registers and the log. -/
def restarted (s : State) : State :=
  { cleared s with
    lcy := { keys := s.lcy.keys }
    pwr := { bankEmpty := s.pwr.bankEmpty, thermalHold := s.pwr.thermalHold, inReset := s.pwr.thermalHold } }

theorem unrecorded_testStores (s : State) (bad : Option StoreFail) : unrecorded (testStores s bad) = unrecorded s := by
  unfold testStores
  dsimp only
  split
  · simp only [storeFailed]
    split <;> simp
  · simp

theorem unrecorded_idleSlots (s : State) :
    unrecorded ((List.range 256).foldl (fun s k => if slotIdle s k then s else putB s (F.KST_SLOT_STATUS_slot_idle k) true) s) =
      unrecorded s := by
  refine unrecorded_foldl (fun s k => ?_) _ s
  split <;> simp

theorem unrecorded_moduleReset (s : State) (c : Nat) (bad : Option StoreFail) :
    unrecorded (moduleReset s c bad) = unrecorded (restarted (jobCut s)) := by
  have hc := unrecorded_cleared (unrecorded_resetWords (jobCut s) (fun _ => true) (fun _ r f => keptByModule r f))
  simp only [moduleReset, powerOnRecord, setApr, unrecorded_offer, unrecorded_put, unrecorded_testStores, unrecorded_putB,
    unrecorded_refreshLog, unrecorded_idleSlots]
  exact congrArg (fun t : State => { t with
    lcy := { keys := (jobCut s).lcy.keys }
    pwr := { bankEmpty := (jobCut s).pwr.bankEmpty, thermalHold := (jobCut s).pwr.thermalHold,
             inReset := (jobCut s).pwr.thermalHold } }) hc

theorem unrecorded_powerOn (s : State) : unrecorded (powerOn s) = unrecorded { cleared (jobCut s) with tap := {} } := by
  have hc := unrecorded_cleared (unrecorded_resetWords (jobCut s) (fun _ => true) (fun _ r f => keptByPower r f))
  simp only [powerOn, powerOnRecord, unrecorded_offer, unrecorded_put, unrecorded_putB, unrecorded_refreshLog, unrecorded_incSat]
  exact congrArg (fun t : State => { t with tap := {} }) hc

/-- A flash write that a reset cuts short changes no other part of the power control and no pin. -/
theorem jobCut_pwr_pins (s : State) : (jobCut s).pwr = s.pwr ∧ (jobCut s).pins = s.pins := by
  unfold jobCut
  split
  · exact ⟨rfl, rfl⟩
  · dsimp only
    split
    · simp [calPartly, calPut, modWrd, stepFree]
    · exact ⟨rfl, rfl⟩

/-- What the statements about the commands say of the state after a restart, beside the power control and the pins. -/
structure Restarted (t : State) : Prop where
  clk : t.clk = {}
  epc : t.epc = {}
  lnk : t.lnk = {}
  pkt : t.pkt = []
  bank : t.bank = resetBank

theorem restarted_moduleReset (s : State) (c : Nat) (bad : Option StoreFail) : Restarted (moduleReset s c bad) := by
  have h := unrecorded_moduleReset s c bad
  exact ⟨congrArg State.clk h, congrArg State.epc h, congrArg State.lnk h, congrArg State.pkt h, congrArg State.bank h⟩

theorem moduleReset_pwr (s : State) (c : Nat) (bad : Option StoreFail) : (moduleReset s c bad).pwr =
    { bankEmpty := (jobCut s).pwr.bankEmpty, thermalHold := (jobCut s).pwr.thermalHold, inReset := (jobCut s).pwr.thermalHold } :=
  congrArg State.pwr (unrecorded_moduleReset s c bad)

theorem moduleReset_pins (s : State) (c : Nat) (bad : Option StoreFail) :
    (moduleReset s c bad).pins = { s.pins with thermTripN := true } := by
  rw [← (jobCut_pwr_pins s).2]
  exact congrArg State.pins (unrecorded_moduleReset s c bad)

protected theorem Restarted.settled {s t : State} (h : Restarted t) : Restarted (settled s t) := by
  obtain ⟨hclk, hepc, hlnk, hpkt, hbank⟩ := h
  constructor <;> simpa [settled]

theorem settleTsu_pins (s : State) : (settleTsu s).pins = s.pins := by simp only [settleTsu, putB, putI, put_pins]

theorem settleAsh_pins (s : State) : (settleAsh s).pins = s.pins := by unfold settleAsh; split <;> simp only [putB, put_pins]

/-- `settle` sets no pin but ALERT_N. -/
theorem settle_pins (s : State) : ∃ b, (settle s).pins = { s.pins with alertN := b } := by
  simp only [settle, settleFlt, put_pins, putB, settleTsu_pins, settleAsh_pins]
  exact ⟨_, rfl⟩

theorem settled_pwrGood (s t : State) : (settled s t).pins.pwrGood = t.pins.pwrGood := by
  obtain ⟨b, hb⟩ := settle_pins { t with pending := s.pending }
  rw [settled, hb]

theorem settled_resetN (s t : State) : (settled s t).pins.resetN = t.pins.resetN := by
  obtain ⟨b, hb⟩ := settle_pins { t with pending := s.pending }
  rw [settled, hb]

/-- `tapSettle` changes what the boundary-scan instruction drives and what has left the block. -/
theorem tapSettle_eq (s : State) : ∃ x o, tapSettle s = { s with tap := x, outbox := o } := by
  unfold tapSettle
  dsimp only
  split <;> exact ⟨_, _, rfl⟩

/-- The fields of the state that a module reset leaves, before `settle`. -/
theorem moduleReset_fields (s : State) (c : Nat) (bad : Option StoreFail) :
    let t := moduleReset s c bad
    t.clk = {} ∧ t.ltu = {} ∧ t.epc = {} ∧ t.lnk = {} ∧ t.saf = {} ∧ t.dfr = {} ∧ t.actA = {} ∧ t.actB = {} ∧ t.upb = {} ∧ t.bnd = {} ∧
    t.pth = {} ∧ t.pkt = [] ∧ t.bank = resetBank ∧ t.shadows = [] ∧ t.lcy.keys = (jobCut s).lcy.keys ∧ t.flash = (jobCut s).flash ∧
    t.pending = (jobCut s).pending ∧ t.hif.p0 = false ∧ t.saf.ceilA = 215 ∧ t.saf.ceilB = 215 ∧
    t.pwr = { bankEmpty := (jobCut s).pwr.bankEmpty, thermalHold := (jobCut s).pwr.thermalHold, inReset := (jobCut s).pwr.thermalHold } := by
  have h := unrecorded_moduleReset s c bad
  have hsaf : (moduleReset s c bad).saf = {} := congrArg State.saf h
  exact ⟨congrArg State.clk h, congrArg State.ltu h, congrArg State.epc h, congrArg State.lnk h, hsaf, congrArg State.dfr h,
    congrArg State.actA h, congrArg State.actB h, congrArg State.upb h, congrArg State.bnd h, congrArg State.pth h,
    congrArg State.pkt h, congrArg State.bank h, congrArg State.shadows h, congrArg (fun t => t.lcy.keys) h, (congrArg State.flash h :),
    (congrArg State.pending h :), congrArg (fun t => t.hif.p0) h, congrArg Saf.ceilA hsaf, congrArg Saf.ceilB hsaf, congrArg State.pwr h⟩

theorem powerOn_fields (s : State) :
    (powerOn s).clk = {} ∧ (powerOn s).ltu = {} ∧ (powerOn s).epc = {} ∧ (powerOn s).pkt = [] ∧ (powerOn s).bank = resetBank ∧
    (powerOn s).lcy.keys = [] ∧ (powerOn s).flash = (jobCut s).flash ∧ (powerOn s).hif.p0 = false := by
  have h := unrecorded_powerOn s
  exact ⟨congrArg State.clk h, congrArg State.ltu h, congrArg State.epc h, congrArg State.pkt h, congrArg State.bank h,
    congrArg (fun t => t.lcy.keys) h, (congrArg State.flash h :), congrArg (fun t => t.hif.p0) h⟩

theorem restarted_resetLow (s : State) (bad : Option StoreFail) :
    Restarted (resetLow s bad) ∧ (resetLow s bad).pwr.thermalHold = s.pwr.thermalHold ∧
      (resetLow s bad).pwr.inReset = s.pwr.thermalHold ∧ (resetLow s bad).pins.resetN = false := by
  obtain ⟨hclk, hepc, hlnk, hpkt, hbank⟩ := restarted_moduleReset s 2 bad
  have hpwr := moduleReset_pwr s 2 bad
  rw [(jobCut_pwr_pins s).1] at hpwr
  obtain ⟨x, o, he⟩ := tapSettle_eq { moduleReset s 2 bad with pins := { (moduleReset s 2 bad).pins with resetN := false } }
  rw [resetLow, he]
  exact ⟨⟨hclk, hepc, hlnk, hpkt, hbank⟩, (congrArg Pwr.thermalHold hpwr :), (congrArg Pwr.inReset hpwr :), rfl⟩

theorem holdRelease_inReset {s : State} (bad : Option StoreFail) (hold : s.pwr.thermalHold = true) (hreset : s.pwr.inReset = true) :
    holdRelease s bad = moduleReset { s with pwr := { s.pwr with thermalHold := false } } 4 bad := by
  simp [holdRelease, hold, hreset]

theorem holdRelease_running {s : State} (bad : Option StoreFail) (hold : s.pwr.thermalHold = true) (hreset : s.pwr.inReset = false) :
    holdRelease s bad = { s with pwr := { s.pwr with thermalHold := false } } := by
  simp [holdRelease, hold, hreset]

theorem holdRelease_cold {s : State} (bad : Option StoreFail) (hold : s.pwr.thermalHold = false) : holdRelease s bad = s := by
  simp [holdRelease, hold]

/-- The state in which power good shows again (R425). -/
def powerShown (s : State) : State :=
  putB (putB { s with pins := { s.pins with pwrGood := true }, pwr := { s.pwr with bankEmpty := false } } F.PWR_STATUS_pwr_good true)
    F.ASH_STATUS_vash_ok true

theorem powerGood_of_collapse {s : State} (bad : Option StoreFail) (hsafe : getB (powerShown s) F.GLB_SAFE_safe = true)
    (hcause : get (powerShown s) F.GLB_SAFE_cause = 2) : powerGood s bad = moduleReset (powerShown s) 3 bad :=
  if_pos ⟨hsafe, hcause⟩

theorem powerGood_of_no_collapse {s : State} (bad : Option StoreFail)
    (h : getB (powerShown s) F.GLB_SAFE_safe = false ∨ get (powerShown s) F.GLB_SAFE_cause ≠ 2) : powerGood s bad = powerShown s := by
  refine if_neg fun ⟨hsafe, hcause⟩ => ?_
  rcases h with h | h
  · exact Bool.false_ne_true (h.symm.trans hsafe)
  · exact h hcause

/-- Settles O30, from what a module reset leaves beside its records and which command resets the module. -/
protected theorem Settling.moduleReset : Obligations.ModuleReset := by
  intro s bad
  refine ⟨fun c => moduleReset_fields s c bad, rfl, fun hold hreset => ?_, fun hold hreset => ?_, fun hold => ?_,
    ⟨fun hsafe hcause => ?_, fun h => ?_, fun hsafe hcause => ?_⟩, ?_, fun hold hreset => ?_, rfl, powerOn_fields s⟩
  · exact congrArg (finish s) (holdRelease_inReset bad hold hreset)
  · exact congrArg (finish s) (holdRelease_running bad hold hreset)
  · exact congrArg (finish s) (holdRelease_cold bad hold)
  · exact congrArg (finish s) (powerGood_of_collapse bad hsafe hcause)
  · exact congrArg (finish s) (powerGood_of_no_collapse bad h)
  · obtain ⟨hclk, hepc, hlnk, hpkt, hbank⟩ := (restarted_moduleReset (powerShown s) 3 bad).settled (s := s)
    refine ⟨_, congrArg (finish s) (powerGood_of_collapse bad hsafe hcause), hclk, hepc, hlnk, hpkt, hbank, ?_⟩
    refine (settled_pwrGood s _).trans ?_
    rw [moduleReset_pins, powerShown, putB_pins, putB_pins]
  · obtain ⟨hr, hhold, hreset, hpin⟩ := restarted_resetLow s bad
    obtain ⟨hclk, hepc, hlnk, hpkt, hbank⟩ := hr.settled (s := s)
    refine ⟨_, rfl, hclk, hepc, hlnk, hpkt, hbank, settle_pending _, ?_, ?_, (settled_resetN s _).trans hpin⟩
    · rw [settle_pwr]
      exact hhold
    · rw [settle_pwr]
      exact hreset
  · let u : State := { s with pwr := { s.pwr with thermalHold := false } }
    obtain ⟨hclk, hepc, hlnk, hpkt, hbank⟩ := (restarted_moduleReset u 4 bad).settled (s := s)
    refine ⟨_, congrArg (finish s) (holdRelease_inReset bad hold hreset), hclk, hepc, hlnk, hpkt, hbank, ?_⟩
    rw [settle_pwr]
    exact (congrArg Pwr.thermalHold (moduleReset_pwr u 4 bad)).trans (congrArg Pwr.thermalHold (jobCut_pwr_pins u).1)

end Sys2Proof.Machine
end

section
/-!
SUPPORT. Reads and writes of registers that show a word of the register file and start nothing (R7).
-/
namespace Sys2Proof.Machine
open Sys2Proof

/-- Where a read shows the word of the register file and does nothing else (R7): no pair, no side effect, no other source. -/
structure PlainRead (a : Nat) : Prop where
  row : ∃ row h, regRowAt a = some (row, h) ∧ row.pair = false
  notMbx : isMbxBody a = false
  refresh_eq : ∀ s, refresh s a = s
  clearOnRead_eq : ∀ s, clearOnRead s a = s
  measured_eq : ∀ s, measured_ s a = none
  liveWord_eq : ∀ s r, liveWord s r a = (rdWord s a).toNat

theorem plainRead_part : PlainRead 0 :=
  ⟨⟨_, _, rfl, rfl⟩, rfl, fun _ => rfl, fun _ => rfl, fun _ => rfl, fun _ _ => rfl⟩

theorem plainRead_step : PlainRead 4 :=
  ⟨⟨_, _, rfl, rfl⟩, rfl, fun _ => rfl, fun _ => rfl, fun _ => rfl, fun _ _ => rfl⟩

theorem plainRead_conCtrl : PlainRead 0x18 :=
  ⟨⟨_, _, rfl, rfl⟩, rfl, fun _ => rfl, fun _ => rfl, fun _ => rfl, fun _ _ => rfl⟩

theorem readReg_of_plain {a : Nat} (p : PlainRead a) (s : State) (r : Requester) (h : Nat) :
    readReg s r a h false = (s, (rdWord s a).toNat) := by
  simp [readReg, p.clearOnRead_eq, p.measured_eq, p.liveWord_eq]

theorem busRead_of_plain {a : Nat} (p : PlainRead a) {s : State} {r : Requester} (hr : Reaches s r a false) :
    busRead r a s = emit (accessed s a) (.readData (rdWord (accessed s a) a).toNat) := by
  obtain ⟨hcut, hperm, hsleep⟩ := hr
  obtain ⟨row, h, hrow, hpair⟩ := p.row
  simp [busRead, hcut, hperm, hsleep, p.notMbx, hrow, hpair, p.refresh_eq, readReg_of_plain p]

theorem busWrite_of_reaches {s : State} {r : Requester} {a : Nat} {v : Word} (hr : Reaches s r a true) (hring : ringAt a = none) :
    busWrite r a v s = writeHere s r a v := by
  obtain ⟨hcut, hperm, hsleep⟩ := hr
  simp [busWrite, onWrite, hcut, hperm, hsleep, hring]

theorem writeHere_part (s : State) (r : Requester) (v : Word) : writeHere s r 0 v = accessed s 0 := rfl

theorem plainWrite_conCtrl (s : State) (r : Requester) (v : Nat) :
    plainWrite s r 0x18 v = if isP0 s r then put s F.GLB_CON_CTRL_ctl_en (v % 2) else s := by
  unfold plainWrite
  cases isP0 s r
  · rfl
  · change put s F.GLB_CON_CTRL_ctl_en (bits v 0 1) = put s F.GLB_CON_CTRL_ctl_en (v % 2)
    rw [bits, pow_zero, Nat.div_one, pow_one]

theorem writeHere_conCtrl (s : State) (r : Requester) (v : Word) :
    writeHere s r 0x18 v = plainWrite (accessed s 0x18) r 0x18 v.toNat := by
  have h : ∀ t, memberPart (stagedWrite t r 0x18 (BitVec.ofNat 32 v.toNat)) r 0x18 v.toNat = t := by
    intro t
    unfold stagedWrite
    cases isP0 t r <;> rfl
  exact h _

theorem accessed_p0 (s : State) (a : Nat) : (accessed s a).hif.p0 = s.hif.p0 := by
  have hworked : ∀ n, (worked s n).hif = s.hif := fun n => by
    unfold worked
    split <;> rfl
  unfold accessed
  split
  · rfl
  · next p _ =>
    dsimp only
    split
    · rw [hworked]
    · rw [← hworked p.region]
      exact congrArg (fun t => t.hif.p0) ((unrecorded_monCount ..).trans (unrecorded_monCount (worked s p.region) p.region p.blk 1 [] 1))

theorem isP0_accessed (s : State) (a : Nat) (r : Requester) : isP0 (accessed s a) r = isP0 s r := by
  cases r <;> simp [isP0, accessed_p0]

/-- Settles O13, from a read of a plain word and what a write of each of the two registers reaches. -/
theorem plainRegisterAccess : Obligations.PlainRegisterAccess := by
  intro s r
  refine ⟨?_, fun v hr => ?_, fun v hr => ?_⟩
  · rintro a (rfl | rfl | rfl) hr
    · exact congrArg (finish s) (busRead_of_plain plainRead_part hr)
    · exact congrArg (finish s) (busRead_of_plain plainRead_step hr)
    · exact congrArg (finish s) (busRead_of_plain plainRead_conCtrl hr)
  · refine congrArg (finish s) (?_ : busWrite r 0x18 v s = _)
    rw [busWrite_of_reaches hr rfl, writeHere_conCtrl, plainWrite_conCtrl, isP0_accessed]
  · exact congrArg (finish s) ((busWrite_of_reaches hr rfl).trans (writeHere_part s r v))

end Sys2Proof.Machine
end

section
/-!
SUPPORT. Accesses that end before a register (R29, R30, R389, R457, R458), and what the recording of an event leaves of the register words
outside the recorder and the monitors (R434).
-/
namespace Sys2Proof.Machine
open Sys2Proof

/-! ### An access at each of its checks -/

theorem busRead_of_cutOff {s : State} {r : Requester} (a : Nat) (h : cutOff s r = true) : busRead r a s = s := by
  simp [busRead, h]

theorem busRead_of_not_permitted {s : State} {r : Requester} {a : Nat} (hcut : cutOff s r = false) (h : permitted s r a false = false) :
    busRead r a s = emit (deny s r a false) (.readData 0) := by
  simp [busRead, hcut, h]

theorem busRead_of_sleeping {s : State} {r : Requester} {a : Nat} (hcut : cutOff s r = false) (hperm : permitted s r a false = true)
    (h : sleeping s a = true) : busRead r a s = emit s (.readData 0xFFFFFFFF) := by
  simp [busRead, hcut, hperm, h]

theorem busRead_of_unmapped {s : State} {r : Requester} {a : Nat} (hr : Reaches s r a false) (hrow : regRowAt a = none)
    (hmbx : isMbxBody a = false) : busRead r a s = emit (inc s F.HIF_UNMAPPED_count) (.readData 0) := by
  obtain ⟨hcut, hperm, hsleep⟩ := hr
  simp [busRead, hcut, hperm, hsleep, hmbx, hrow]

theorem busWrite_of_not_permitted {s : State} {r : Requester} {a : Nat} (v : Word) (hring : ringAt a = none) (hcut : cutOff s r = false)
    (h : permitted s r a true = false) : busWrite r a v s = deny s r a true := by
  simp [busWrite, onWrite, hring, hcut, h]

theorem busWrite_of_sleeping {s : State} {r : Requester} {a : Nat} (v : Word) (hring : ringAt a = none) (hcut : cutOff s r = false)
    (hperm : permitted s r a true = true) (h : sleeping s a = true) : busWrite r a v s = s := by
  simp [busWrite, onWrite, hring, hcut, hperm, h]

theorem busWrite_of_unmapped {s : State} {r : Requester} {a : Nat} (v : Word) (hring : ringAt a = none) (hr : Reaches s r a true)
    (hrow : regRowAt a = none) (hmbx : isMbxBody a = false) : busWrite r a v s = inc s F.HIF_UNMAPPED_count := by
  rw [busWrite_of_reaches hr hring, writeHere, hmbx, hrow]
  rfl

/-- Settles O12: the access passes every check and finds no register. -/
theorem unmappedAccess : Obligations.UnmappedAccess := by
  intro s r a v hrow hmbx
  refine ⟨fun hr => ?_, fun hring hr => ?_⟩
  · have h := congrArg (finish s) (busRead_of_unmapped hr hrow hmbx)
    exact ⟨h, h⟩
  · have h := congrArg (finish s) (busWrite_of_unmapped v hring hr hrow hmbx)
    exact ⟨h, h, h, h⟩

/-! ### Words outside the recorder and the monitors -/

/-- Whether a word lies outside EVR, PMON and the packet regions with their RPM, where the recording of events keeps its registers (R28). -/
abbrev OffRecord (a : Nat) : Prop := a < 0x40000 ∨ 0x60000 ≤ a ∧ a < 0x1000000

/-- Whether field `f`, with the word after it, lies in EVR, PMON or a packet region (R28). -/
abbrev RecordFld (f : Fld) : Prop := 0x40000 ≤ f.addr ∧ f.addr + 4 < 0x60000 ∨ 0x1000000 ≤ f.addr

theorem rdWord_inc_ne {f : Fld} (s : State) {a : Nat} (hf : f.lo + f.w ≤ 32) (h : a ≠ f.addr) : rdWord (inc s f) a = rdWord s a :=
  rdWord_put_ne_one s f _ a hf h

theorem mem_ctrsOf_lt {c region : Nat} (h : c ∈ ctrsOf region) : c < 192 := by
  unfold ctrsOf at h
  split at h
  · simp at h; omega
  · split at h
    · simp at h; omega
    · split at h <;> simp at h <;> omega

theorem mem_ctrsFor_lt {s : State} {region block event c : Nat} {ids : List (Nat × Nat)} (h : c ∈ ctrsFor s region block event ids) :
    c < 192 := by
  simp only [ctrsFor, List.mem_map, List.mem_filter, Bool.and_eq_true, List.contains_iff_mem] at h
  obtain ⟨e, ⟨-, ⟨hc, -⟩, -⟩, rfl⟩ := h
  exact mem_ctrsOf_lt hc

theorem recordFld_ctrLive {c : Nat} (h : c < 192) : RecordFld (ctrLive c) := by
  unfold ctrLive
  split
  · exact .inr (by simp only [F.RCTR_LIVE_count, R.RCTR_LIVE]; omega)
  · exact .inl (by simp only [F.PCTR_LIVE_count, R.PCTR_LIVE]; omega)

theorem recordFld_ctrOvf {c : Nat} (h : c < 192) : RecordFld (ctrOvf c) := by
  unfold ctrOvf
  split
  · exact .inr (by simp only [R.RPM_OVF]; omega)
  · exact .inl (by simp only [R.PMON_OVF]; omega)

theorem recordFld_ctrOvfEvent (c : Nat) : RecordFld (ctrOvfEvent c) := by
  unfold ctrOvfEvent
  split
  · exact .inr (by simp only [F.RPM_EVENT_ovf, R.RPM_EVENT]; omega)
  · exact .inl (by decide)

@[simp] theorem deliver_regs (s : State) (src : Nat) : (deliver s src).regs = s.regs := by
  unfold deliver
  dsimp only
  split
  · split <;> rfl
  · rfl

@[simp] theorem updateIrq_regs (s : State) (a : Nat) : (updateIrq s a).regs = s.regs := by
  unfold updateIrq
  split
  · rfl
  · split
    · split
      · rfl
      · exact deliver_regs ..
    · rfl

theorem recordFld_drop (v : Sev) : RecordFld (F.EVR_DROP_count (sevNum v)) := by
  cases v <;> decide

section
variable {a : Nat} (ha : OffRecord a)
include ha

theorem rdWord_put_record (s : State) {f : Fld} (v : Nat) (hf : RecordFld f) : rdWord (put s f v) a = rdWord s a := by
  unfold OffRecord at ha
  unfold RecordFld at hf
  exact rdWord_put_ne s f v a (by omega) (by omega)

theorem rdWord_addTo_record (s : State) {f : Fld} (n : Nat) (hf : RecordFld f) : rdWord (addTo s f n) a = rdWord s a :=
  rdWord_put_record ha s _ hf

theorem rdWord_ctrBump (s : State) {c : Nat} (n : Nat) (hc : c < 192) : rdWord (ctrBump s c n).1 a = rdWord s a := by
  have hlive : ∀ v, rdWord (put s (ctrLive c) v) a = rdWord s a := fun v => rdWord_put_record ha s v (recordFld_ctrLive hc)
  unfold ctrBump
  dsimp only
  split
  · exact (rdWord_put_record ha _ 1 (recordFld_ctrOvf hc)).trans (hlive _)
  · exact hlive _

theorem rdWord_monBump (s : State) (f : Fld) : rdWord (monBump s f) a = rdWord s a := by
  unfold monBump
  split
  · rfl
  · exact List.foldlRecOn (motive := fun t => rdWord t a = rdWord s a) _ _ rfl fun t ht c hc =>
      (rdWord_ctrBump ha t 1 (mem_ctrsFor_lt hc)).trans ht

theorem rdWord_refreshLog (s : State) : rdWord (refreshLog s) a = rdWord s a := by
  unfold refreshLog
  dsimp only
  split <;> simp (disch := decide) only [rdWord_put_record ha]

theorem rdWord_seqUsed (s : State) : rdWord (seqUsed s) a = rdWord s a := by
  have haged : ∀ t, rdWord (dropAged t) a = rdWord t a := fun t => rdWord_addTo_record ha _ _ (by decide)
  rw [seqUsed, rdWord_refreshLog ha, haged, rdWord_put_record ha _ _ (by decide)]

theorem rdWord_countDrop (s : State) (v : Sev) : rdWord (countDrop s v) a = rdWord s a := by
  have hcount : ∀ t w, rdWord (inc t (F.EVR_DROP_count (sevNum w))) a = rdWord t a := fun t w =>
    rdWord_addTo_record ha t 1 (recordFld_drop w)
  have hgrey : ∀ t, rdWord (inc t (F.EVR_DROP_count 3)) a = rdWord t a := fun t => hcount t .grey
  have hbit : ∀ t, rdWord (putB t F.EVR_EVENT_drop true) a = rdWord t a := fun t => rdWord_put_record ha t _ (by decide)
  have hspent : ∀ t code, rdWord (unsuppress (spend t code .grey) code) a = rdWord t a := fun _ _ => rfl
  have hsuppressed : ∀ t code, rdWord (suppress t code) a = rdWord t a := fun _ _ => rfl
  unfold countDrop
  dsimp only
  split
  · rw [rdWord_monBump ha, hcount]
  · rw [rdWord_congr (updateIrq_regs ..)]
    split
    · rw [hgrey, hspent, hbit, rdWord_monBump ha, hcount]
    · rw [hsuppressed, hbit, rdWord_monBump ha, hcount]

theorem rdWord_jetOnly (s : State) (r : Rec) : rdWord (jetOnly s r) a = rdWord s a := by
  unfold jetOnly jetPut
  cases makeRoom 16 r.sev s.evr.jet with
  | none => exact rdWord_countDrop ha s r.sev
  | some l => exact rdWord_seqUsed ha _

theorem rdWord_admitRec (s : State) (r : Rec) : rdWord (admitRec s r) a = rdWord s a := by
  have hjet : (jetPut s r).1.regs = s.regs := by
    unfold jetPut
    split <;> rfl
  unfold admitRec
  split
  · split
    · exact rdWord_jetOnly ha s r
    · exact rdWord_countDrop ha s r.sev
  · split
    · split
      · exact rdWord_jetOnly ha s r
      · exact rdWord_countDrop ha s r.sev
    · split
      · exact rdWord_countDrop ha s r.sev
      · split
        · exact rdWord_countDrop ha s r.sev
        · next l rep _ =>
          have hlog : ∀ t : State, t.regs = s.regs → rdWord (whenB rep (fun s => inc s F.EVR_GEN_gen) (seqUsed t)) a = rdWord s a := by
            intro t ht
            rw [← rdWord_congr ht, ← rdWord_seqUsed ha t]
            cases rep
            · rfl
            · exact rdWord_addTo_record ha (f := F.EVR_GEN_gen) _ 1 (by decide)
          dsimp only
          split
          · exact hlog _ hjet
          · exact hlog _ rfl

theorem rdWord_offer (s : State) (c : Nat) (v : Sev) (region block cell arg0 arg1 : Nat) :
    rdWord (offer s c v region block cell arg0 arg1) a = rdWord s a := by
  simp only [offer, offerArgs, offerTo]
  split
  · exact rdWord_admitRec ha _ _
  · rfl

theorem rdWord_raiseRec (s : State) {f : Fld} (v : Sev) (region cell arg1 : Nat) (hf : ∀ t b, rdWord (putB t f b) a = rdWord t a) :
    rdWord (raiseRec s f v region cell arg1) a = rdWord s a := by
  simp only [raiseRec, raiseWith]
  split
  · rfl
  · split
    · rfl
    · rw [rdWord_congr (updateIrq_regs ..), rdWord_offer ha, hf]

theorem rdWord_ctrAdd (s : State) {c : Nat} (n : Nat) (hc : c < 192) : rdWord (ctrAdd s c n) a = rdWord s a := by
  have hbump := rdWord_ctrBump ha s n hc
  unfold ctrAdd
  dsimp only
  split
  · rw [rdWord_raiseRec ha _ _ _ _ _ fun t b => rdWord_put_record ha t _ (recordFld_ctrOvfEvent c), rdWord_monBump ha, hbump]
  · exact hbump

theorem rdWord_monCount (s : State) (region block event : Nat) (ids : List (Nat × Nat)) (n : Nat) :
    rdWord (monCount s region block event ids n) a = rdWord s a :=
  List.foldlRecOn (motive := fun t => rdWord t a = rdWord s a) _ _ rfl fun t ht _ hc => (rdWord_ctrAdd ha t n (mem_ctrsFor_lt hc)).trans ht

/-- An event changes the word of its bit, and beside it only words of the recorder and the monitors. -/
theorem rdWord_raise (s : State) {f : Fld} (v : Sev) (arg1 : Nat) (hf : f.lo + f.w ≤ 32) (hne : a ≠ f.addr) :
    rdWord (raise s f v arg1) a = rdWord s a := by
  have hmon : rdWord (monEvent s f (instIds f.addr)) a = rdWord s a := by
    unfold monEvent
    split
    · rfl
    · exact rdWord_monCount ha ..
  unfold raise raiseFor
  split
  · rfl
  · rw [rdWord_raiseRec ha _ _ _ _ _ fun t b => rdWord_put_ne_one t f _ a hf hne, hmon]

end

/-! ### The denied access -/

theorem deny_of_recorded {s : State} (r : Requester) (a : Nat) (w : Bool) (h : getB s F.ACW_EVENT_deny = true) :
    deny s r a w = inc s F.ACW_DENY_count := by
  have hkeep : getB (inc s F.ACW_DENY_count) F.ACW_EVENT_deny = getB s F.ACW_EVENT_deny :=
    congrArg (decide <| · = 1) (get_put_disjoint s _ (by decide) (by decide) (.inl (by decide)))
  rw [deny, if_pos (hkeep.trans h)]

/-- The record of a first denied access stands in words of its own. -/
theorem rdWord_deny_count (s : State) (r : Requester) (a : Nat) (w : Bool) :
    rdWord (deny s r a w) R.ACW_DENY = rdWord (inc s F.ACW_DENY_count) R.ACW_DENY := by
  unfold deny
  dsimp only
  split
  · rfl
  · rw [raiseGrey, rdWord_raise (by decide) _ _ _ (by decide) (by decide)]
    simp (disch := decide) only [putB, rdWord_put_ne_one]

theorem get_deny_count (s : State) (r : Requester) (a : Nat) (w : Bool) :
    get (deny s r a w) F.ACW_DENY_count = (get s F.ACW_DENY_count + 1) % 2 ^ F.ACW_DENY_count.w := by
  have hw : F.ACW_DENY_count.lo + F.ACW_DENY_count.w ≤ 32 := by decide
  calc get (deny s r a w) F.ACW_DENY_count
    _ = get (inc s F.ACW_DENY_count) F.ACW_DENY_count := by
        rw [get_of_le _ hw, get_of_le _ hw]
        exact congrArg (fun x : Word => bits x.toNat _ _) (rdWord_deny_count s r a w)
    _ = _ := get_put_same s _ hw

/-- Settles O11: each check of the bus in turn, then the count and the record of a denied access. -/
theorem accessNotServed : Obligations.AccessNotServed := by
  refine ⟨fun s r a v => ⟨fun hcut => ?_, fun hcut hperm => ?_, fun hcut hperm hsleep => ?_, fun hring hcut hperm => ?_,
    fun hring hcut hperm hsleep => ?_⟩, fun s r a w _ => ⟨get_deny_count s r a w, fun h => ?_⟩⟩
  · have h := congrArg (finish s) (busRead_of_cutOff a.toNat hcut)
    exact ⟨h, h⟩
  · have h := congrArg (finish s) (busRead_of_not_permitted hcut hperm)
    exact ⟨h, h⟩
  · exact congrArg (finish s) (busRead_of_sleeping hcut hperm hsleep)
  · have h := congrArg (finish s) (busWrite_of_not_permitted v hring hcut hperm)
    exact ⟨h, h, h, h⟩
  · have h := congrArg (finish s) (busWrite_of_sleeping v hring hcut hperm hsleep)
    exact ⟨h, h⟩
  · rw [deny_of_recorded r a w h]
    exact ⟨rdWord_inc_ne s (by decide) (by decide), rdWord_inc_ne s (by decide) (by decide)⟩

end Sys2Proof.Machine
end

section
/-!
SUPPORT. The start-up steps and the power-peak token, one equation per case (R19, R409, R410, R422).
-/
namespace Sys2Proof.Machine
open Sys2Proof

/-! ### START_STEP (R409) -/

theorem startStep_of_not_may {s : State} (h : stepMay s = false) : startStep s = s := by
  simp [startStep, h]

/-- The state in which the step that is due runs, its ramp still to come: with S1 RESET_N is high, and the time of S7 starts with its first
engine (R409). -/
def stepBegun (s : State) : State :=
  let u := if startStepNo s = 1 then { s with pins := { s.pins with resetN := true } } else s
  let first := decide (startStepNo s ≠ 7) || decide (u.pwr.s7Engine = 0)
  modPwr u (fun p => { p with stepRunning := true, rampsDone := false, stepAt := if first then ticks u else p.stepAt })

theorem stepBegun_eq (s : State) : stepBegun s =
    modPwr (if startStepNo s = 1 then { s with pins := { s.pins with resetN := true } } else s) (fun p =>
      { p with stepRunning := true, rampsDone := false
               stepAt := if startStepNo s = 7 ∧ s.pwr.s7Engine ≠ 0 then p.stepAt else s.clk.ticks }) := by
  unfold stepBegun
  by_cases h7 : startStepNo s = 7
  · by_cases he : s.pwr.s7Engine = 0 <;> simp [h7, he, ticks]
  · split <;> simp [h7, ticks]

theorem stepBegun_zero {s : State} (hk : startStepNo s = 0) :
    stepBegun s = modPwr s (fun p => { p with stepRunning := true, rampsDone := false, stepAt := s.clk.ticks }) := by
  simp [stepBegun_eq, hk]

/-- Which ramp a step has depends on the engine whose turn it is, and beginning the step leaves that. -/
theorem stepRamp_stepBegun (s : State) (k : Nat) : stepRamp (stepBegun s) k = stepRamp s k := by
  rw [stepBegun_eq]
  split <;> rfl

theorem startStep_of_may {s : State} (h : stepMay s = true) :
    startStep s = match stepRamp s (startStepNo s) with
      | some r => tokenRequest (stepBegun s) r
      | none => stepZero (stepBegun s) := by
  rw [← stepRamp_stepBegun s]
  unfold startStep
  rw [if_neg (by simp [h])]
  rfl

theorem startStep_of_ramp {s : State} {r : Ramp} (h : stepMay s = true) (hr : stepRamp s (startStepNo s) = some r) :
    startStep s = tokenRequest (stepBegun s) r := by
  rw [startStep_of_may h, hr]

theorem startStep_zero {s : State} (h : stepMay s = true) (hk : startStepNo s = 0) :
    startStep s = stepZero (modPwr s (fun p => { p with stepRunning := true, rampsDone := false, stepAt := s.clk.ticks })) := by
  rw [startStep_of_may h, stepBegun_zero hk, hk]
  rfl

/-! ### STEP_SETTLED and STEP_SETTLE_TIMEOUT (R409 to R411) -/

theorem stepSettled_of_ramped {s : State} (hrun : s.pwr.stepRunning = true) (hramp : stepRamped s (startStepNo s) = true)
    (hk : startStepNo s ≠ 7) :
    stepSettled s = stepNext (stepWork (stepRelease s (startStepNo s)) (startStepNo s)) (startStepNo s) := by
  simp [stepSettled, hrun, hramp, hk]

theorem stepSettled_engine {s : State} (hrun : s.pwr.stepRunning = true) (hramp : stepRamped s 7 = true) (hk : startStepNo s = 7) :
    stepSettled s = (lanesOfEngine s.pwr.s7Engine).foldl (fun u p => laneRetarget u p (Tab.getD u.bank.lineInit p 4))
      (stepNext (stepWork (stepRelease s 7) 7) 7) := by
  simp [stepSettled, hrun, hramp, hk]

/-- The state in which a step that did not settle is noted (R410). -/
def stepFailed (s : State) : State :=
  raise (putB (stepRelease s (startStepNo s)) F.PWR_STATUS_seq_fail true) F.PWR_EVENT_seq_fail .black (startStepNo s)

theorem stepTimeout_of_running {s : State} (hrun : s.pwr.stepRunning = true) :
    stepTimeout s =
      if startStepNo s ≤ 2 then safeEnter (modPwr (stepFailed s) (fun p => { p with stopped := true })) 3
      else if startStepNo s < 7 then
        stepNext (fltRecord (modPwr (stepFailed s) (fun p => { p with initTaken := setBits p.initTaken (startStepNo s - 3) 1 1 }))
          F.FLT_EVENT_region_fault .black (startStepNo s - 3) fltStartup 0x04 0) (startStepNo s)
      else stepNext (modEngine (stepFailed s) (stepFailed s).pwr.s7Engine (fun x => { x with ramping := false })) (startStepNo s) := by
  simp only [stepTimeout, hrun, Bool.not_true, Bool.false_eq_true, if_false]
  rfl

/-! ### The token (R19, R422) -/

theorem tokenGrant_of_free {s : State} (h : tokenHolder s = none) : tokenGrant s = tokenGrant.grantNext s := by
  simp [tokenGrant, h]

theorem grantNext_of_none {s : State} (h : tokenNext s = none) : tokenGrant.grantNext s = s := by
  simp [tokenGrant.grantNext, h]

theorem grantNext_region {s : State} {n : PktRegion} (h : tokenNext s = some (.region n)) :
    tokenGrant.grantNext s = tokenTake { s with pwr := { s.pwr with
      queue := Ramp.region n :: s.pwr.queue.filter (fun x => decide (x ≠ .region n)) } } := by
  simp [tokenGrant.grantNext, h]

theorem tokenTimeout_of_held {s : State} {r : Ramp} (h : tokenHolder s = some r) :
    tokenTimeout s = raiseGrey (put (modPwr s (fun p => { p with overdue := r :: p.overdue })) F.PWR_TOKEN_holder 31)
      F.PWR_EVENT_token_timeout := by
  simp [tokenTimeout, h]

/-- Settles O33, from what each command of the start-up sequence and of the token does in each of its cases. -/
theorem startUpSequence : Obligations.StartUpSequence := by
  intro s
  refine ⟨fun r h hr => congrArg (finish s) ((startStep_of_ramp h hr).trans (congrArg (tokenRequest · r) (stepBegun_eq s))),
    fun h hk => congrArg (finish s) (startStep_zero h hk),
    fun h => congrArg (finish s) (startStep_of_not_may h),
    fun hrun hramp hk => congrArg (finish s) (stepSettled_of_ramped hrun hramp hk),
    fun hrun hramp hk => congrArg (finish s) (stepSettled_engine hrun hramp hk), fun hrun => ?_,
    fun n hfree hnext => congrArg (finish s) ((tokenGrant_of_free hfree).trans (grantNext_region hnext)),
    fun hfree hnext => congrArg (finish s) ((tokenGrant_of_free hfree).trans (grantNext_of_none hnext)),
    fun r h => congrArg (finish s) (tokenTimeout_of_held h)⟩
  have h := stepTimeout_of_running hrun
  refine ⟨fun hk => congrArg (finish s) (h.trans (if_pos hk)), fun hlo hhi => congrArg (finish s) (h.trans ?_),
    fun hk => congrArg (finish s) (h.trans ?_)⟩
  · rw [if_neg (by omega), if_pos hhi]
    rfl
  · rw [if_neg (by omega), if_neg (by omega)]
    rfl

end Sys2Proof.Machine
end

section
/-!
SUPPORT. The mailbox slots, the injection rings and the way over the line die, one equation per case (R23, R25, R375, R376, R378, R416).
-/
namespace Sys2Proof.Machine
open Sys2Proof

theorem onWrite_of_reaches {s : State} {r : Requester} {a : Nat} (k : State → State) (h : Reaches s r a true) : onWrite s r a k = k s := by
  obtain ⟨hcut, hperm, hsleep⟩ := h
  simp [onWrite, hcut, hperm, hsleep]

/-! ### Mailbox slots (R375, R376) -/

theorem cplRunning_iff (s : State) : cplRunning s = true ↔ cplState s = 2 := decide_eq_true_iff

theorem cplRunning_eq_false {s : State} (h : cplState s ≠ 2) : cplRunning s = false := decide_eq_false h

theorem mbxPost_free {s : State} {r : Requester} {k : Nat} (hown : mbxAllowed s r k = true) (hst : mbxState s k = 0) :
    mbxPost s r k = put s (F.CPL_MBX_STATE_state k) 1 := by
  simp [mbxPost, hown, hst]

theorem mbxPost_refused {s : State} {r : Requester} {k : Nat} (h : mbxAllowed s r k = false ∨ mbxState s k ≠ 0) :
    mbxPost s r k = inc s F.CPL_MBX_DROP_count := by
  rcases h with h | h <;> simp [mbxPost, h, mbxDropped]

theorem mbxAck_done {s : State} {r : Requester} {k : Nat} (hown : mbxAllowed s r k = true) (hst : mbxState s k = 3) :
    mbxAck s r k = put s (F.CPL_MBX_STATE_state k) 0 := by
  simp [mbxAck, hown, hst]

theorem mbxAck_refused {s : State} {r : Requester} {k : Nat} (h : mbxAllowed s r k = false ∨ mbxState s k ≠ 3) :
    mbxAck s r k = inc s F.CPL_MBX_DROP_count := by
  rcases h with h | h <;> simp [mbxAck, h, mbxDropped]

theorem mbxClaim_posted {s : State} {k : Nat} (hrun : cplState s = 2) (hst : mbxState s k = 1) :
    mbxClaim s k = put s (F.CPL_MBX_STATE_state k) 2 := by
  simp [mbxClaim, (cplRunning_iff s).2 hrun, hst]

theorem mbxClaim_of_not_running {s : State} (k : Nat) (h : cplState s ≠ 2) : mbxClaim s k = s := by
  simp [mbxClaim, cplRunning_eq_false h]

theorem mbxComplete_taken {s : State} {k : Nat} (hrun : cplState s = 2) (hst : mbxState s k = 2) :
    mbxComplete s k = mbxDone s k (get s (mbxResult k)) := by
  simp [mbxComplete, (cplRunning_iff s).2 hrun, hst]

theorem mbxComplete_of_not_running {s : State} (k : Nat) (h : cplState s ≠ 2) : mbxComplete s k = s := by
  simp [mbxComplete, cplRunning_eq_false h]

theorem mbxTimeout_posted {s : State} {k : Nat} (hst : mbxState s k = 1) :
    mbxTimeout s k = mbxDone (raiseGrey s F.CPL_EVENT_mbx_timeout) k 1 := if_pos hst

theorem mbxTimeout_of_not_posted {s : State} {k : Nat} (hst : mbxState s k ≠ 1) : mbxTimeout s k = s := if_neg hst

/-! ### Injection (R378) -/

/-- The state in which firmware of a running cluster has written a descriptor at the tail of ring `i` and its frame. -/
def descriptorWritten (s : State) (i : Nat) (desc frame : List Byte) : State :=
  firmwareWrite (firmwareWrite s (le desc 0 4) frame) (0xEC0000 + 0x4000 * i + 16 * get s (F.CPL_INJ_TAIL_index i)) (desc.take 16)

theorem inject_of_not_running {s : State} (i : Nat) (desc frame : List Byte) (h : cplState s ≠ 2) : inject s i desc frame = s := by
  simp [inject, cplRunning_eq_false h]

/-- The frame that a descriptor `d` of ring `i` names, as it stands in shared SRAM (R378). -/
def injected (u : State) (i : Nat) (d : List Byte) : PPkt :=
  { bytes := sramRead u (le d 0 4) (le d 4 2), ing := { kind := 2, raw := rawTime u }, src := 2, pipe := 4 + i % 4, re := bit (le d 6 1) 0 }

/-- What a valid descriptor of a running cluster does once it is consumed. -/
theorem inject_of_valid {s : State} {i : Nat} {desc frame : List Byte} (hrun : cplState s = 2) :
    let t := get s (F.CPL_INJ_TAIL_index i)
    let w := descriptorWritten s i desc frame
    let d := sramRead w (0xEC0000 + 0x4000 * i + 16 * t) 16
    let u := put w (F.CPL_INJ_TAIL_index i) ((t + 1) % 1024)
    get w (F.CPL_INJ_HEAD_index i) ≠ t → bit (le d 6 1) 7 = true →
    inject s i desc frame =
      if le d 4 2 < 14 ∨ 16384 < le d 4 2 ∨ 0xEC0000 < le d 0 4 + le d 4 2 then raiseGrey (cplDiscard u 1) F.CPL_EVENT_inj_bad
      else overLink (monIn u 5 0x19 [] (le d 4 2)) (i / 4) (.line (injected u i d) false)
        (fun v => lineFrame v (i / 4) (injected u i d) false) := by
  intro t w d u hhead hvalid
  have hw : cplRunning w = true := (cplRunning_iff s).2 hrun
  have hgo : (!cplRunning w || decide (t = get w (F.CPL_INJ_HEAD_index i)) || !bit (le d 6 1) 7) = false := by
    simp [hw, hhead.symm, hvalid]
  simp only [inject, (cplRunning_iff s).2 hrun, if_true]
  exact if_neg (Bool.eq_false_iff.1 hgo)

/-! ### Over the line die (R23, R25, R416, R457) -/

theorem overLink_of_closed {s : State} {n : Nat} (x : LinkItem) (go : State → State) (h : linkClosed s n = true ∨ isolated s 5 = true) :
    overLink s n x go = linkLost (linkDiscard s n) x 0 := by
  simp [overLink, h]

theorem overLink_of_full {s : State} {n : Nat} {x : LinkItem} (go : State → State) (hopen : linkClosed s n = false)
    (hctl : isolated s 5 = false) (h : 8 * 2 ^ 20 < linkBytes s n + x.size) :
    overLink s n x go = linkLost (pthDiscard s 0x62) x 0x62 := by
  rw [overLink, hopen, hctl, Bool.or_self, if_neg Bool.false_ne_true, if_pos h]

theorem overLink_of_room {s : State} {n : Nat} {x : LinkItem} (go : State → State) (hopen : linkClosed s n = false)
    (hctl : isolated s 5 = false) (h : linkBytes s n + x.size ≤ 8 * 2 ^ 20) :
    overLink s n x go = if regionEntering s n then { s with pth := { s.pth with hold := s.pth.hold ++ [(n, x)] } } else go s := by
  rw [overLink, hopen, hctl, Bool.or_self, if_neg Bool.false_ne_true, if_neg (Nat.not_lt.2 h)]

/-- Settles O48, from what each command does to a slot and a descriptor in each of its cases, and from the ways over the line die. -/
theorem mailboxAndInjection : Obligations.MailboxAndInjection := by
  intro s r k i desc frame
  refine ⟨fun hr hown hst => ?_, fun hr h => ?_, fun hr hown hst => ?_, fun hr h => ?_,
    fun hrun hst => congrArg (finish s) (mbxClaim_posted hrun hst), fun hrun hst => congrArg (finish s) (mbxComplete_taken hrun hst),
    fun h => ⟨congrArg (finish s) (mbxClaim_of_not_running k h), congrArg (finish s) (mbxComplete_of_not_running k h)⟩,
    fun hst => congrArg (finish s) (mbxTimeout_posted hst), fun hst => congrArg (finish s) (mbxTimeout_of_not_posted hst),
    fun h => congrArg (finish s) (inject_of_not_running i desc frame h), fun hrun hhead hvalid => ?_,
    fun _ _ go h => overLink_of_closed _ go h, fun _ _ go hopen hctl h => overLink_of_full go hopen hctl h,
    fun _ _ go hopen hctl h => overLink_of_room go hopen hctl h⟩
  · exact congrArg (finish s) ((onWrite_of_reaches _ hr).trans (mbxPost_free hown hst))
  · exact congrArg (finish s) ((onWrite_of_reaches _ hr).trans (mbxPost_refused h))
  · exact congrArg (finish s) ((onWrite_of_reaches _ hr).trans (mbxAck_done hown hst))
  · exact congrArg (finish s) ((onWrite_of_reaches _ hr).trans (mbxAck_refused h))
  · have hinject := inject_of_valid hrun hhead hvalid
    exact ⟨fun hlo hhi hoff => congrArg (finish s) (hinject.trans (if_neg (not_or.2
        ⟨Nat.not_lt.2 hlo, not_or.2 ⟨Nat.not_lt.2 hhi, Nat.not_lt.2 hoff⟩⟩))),
      fun hbad => congrArg (finish s) (hinject.trans (if_pos hbad))⟩

end Sys2Proof.Machine
end

section
/-!
SUPPORT. Fields by the words they lie in: what a put of one field leaves of a field in other words, and a field across the two halves of a
64-bit register (R7, R47).
-/
namespace Sys2Proof.Machine
open Sys2Proof

/-- The offsets of the words that field `f` lies in: one, or both halves of a 64-bit register (R47). -/
def fldWords (f : Fld) : List Nat := if f.lo + f.w ≤ 32 then [f.addr] else [f.addr, f.addr + 4]

theorem fldWords_one {f : Fld} (h : f.lo + f.w ≤ 32) : fldWords f = [f.addr] := if_pos h

theorem fldWords_two {f : Fld} (h : ¬ f.lo + f.w ≤ 32) : fldWords f = [f.addr, f.addr + 4] := if_neg h

theorem rdWord_put_off (s : State) {f : Fld} (v : Nat) {a : Nat} (h : a ∉ fldWords f) : rdWord (put s f v) a = rdWord s a := by
  by_cases hf : f.lo + f.w ≤ 32
  · rw [fldWords_one hf, List.mem_singleton] at h
    exact rdWord_put_ne_one s f v a hf h
  · simp only [fldWords_two hf, List.mem_cons, List.not_mem_nil, or_false, not_or] at h
    exact rdWord_put_ne s f v a h.1 h.2

/-- A field has the same value in states that agree on its words. -/
theorem get_eq_of_words {s t : State} {f : Fld} (h : ∀ a ∈ fldWords f, rdWord t a = rdWord s a) : get t f = get s f := by
  by_cases hf : f.lo + f.w ≤ 32
  · rw [get_of_le _ hf, get_of_le _ hf, h f.addr (by simp [fldWords_one hf])]
  · rw [get, get, if_neg hf, if_neg hf, h f.addr (by simp [fldWords_two hf]), h (f.addr + 4) (by simp [fldWords_two hf])]

theorem get_put_apart {f g : Fld} (s : State) (v : Nat) (h : ∀ a ∈ fldWords g, a ∉ fldWords f) : get (put s f v) g = get s g :=
  get_eq_of_words fun a ha => rdWord_put_off s v (h a ha)

theorem get_put_same_wide {f : Fld} (s : State) (v : Nat) (h32 : 32 < f.lo + f.w) (h64 : f.lo + f.w ≤ 64) :
    get (put s f v) f = v % 2 ^ f.w := by
  have hn : ¬ f.lo + f.w ≤ 32 := Nat.not_le.2 h32
  obtain ⟨x, hdef⟩ : ∃ x, x = setBits ((rdWord s f.addr).toNat + 2 ^ 32 * (rdWord s (f.addr + 4)).toNat) f.lo f.w v := ⟨_, rfl⟩
  have hx : x < 2 ^ 64 := hdef ▸ setBits_lt v (by omega) h64
  have hput : put s f v = wrWord (wrWord s f.addr (BitVec.ofNat 32 x)) (f.addr + 4) (BitVec.ofNat 32 (x / 2 ^ 32)) := by
    rw [put, if_neg hn, hdef]
  have hlo : (rdWord (put s f v) f.addr).toNat = x % 2 ^ 32 := by
    rw [hput, rdWord_wrWord_ne _ _ _ _ (by omega), rdWord_wrWord_same, BitVec.toNat_ofNat]
  have hhi : (rdWord (put s f v) (f.addr + 4)).toNat = x / 2 ^ 32 := by
    rw [hput, rdWord_wrWord_same, BitVec.toNat_ofNat, Nat.mod_eq_of_lt (by omega)]
  rw [get, if_neg hn, hlo, hhi, Nat.mod_add_div, hdef, bits_setBits_same]

theorem getB_putB_same {f : Fld} (s : State) (b : Bool) (h : f.lo + f.w ≤ 32) (hw : f.w = 1) : getB (putB s f b) f = b := by
  rw [getB, putB, get_put_same s _ h, hw]
  cases b <;> rfl

theorem getB_congr {s t : State} {f : Fld} (h : get s f = get t f) : getB s f = getB t f := by rw [getB, getB, h]

theorem getB_put_apart {f g : Fld} (s : State) (v : Nat) (h : ∀ a ∈ fldWords g, a ∉ fldWords f) : getB (put s f v) g = getB s g :=
  getB_congr (get_put_apart s v h)

theorem getB_putB_apart {f g : Fld} (s : State) (b : Bool) (h : ∀ a ∈ fldWords g, a ∉ fldWords f) : getB (putB s f b) g = getB s g :=
  getB_put_apart s _ h

theorem getB_put_disjoint {f g : Fld} (s : State) (v : Nat) (hf : f.lo + f.w ≤ 32) (hg : g.lo + g.w ≤ 32)
    (hd : g.addr ≠ f.addr ∨ g.lo + g.w ≤ f.lo ∨ f.lo + f.w ≤ g.lo) : getB (put s f v) g = getB s g :=
  getB_congr (get_put_disjoint s v hf hg hd)

theorem get_incSat_apart {f g : Fld} (s : State) (h : ∀ a ∈ fldWords g, a ∉ fldWords f) : get (incSat s f) g = get s g :=
  get_put_apart s _ h

theorem get_incSat_same {f : Fld} (s : State) (h : f.lo + f.w ≤ 32) : get (incSat s f) f = sat (2 ^ f.w - 1) (get s f + 1) := by
  have hw : 0 < 2 ^ f.w := Nat.two_pow_pos _
  have hle : sat (2 ^ f.w - 1) (get s f + 1) < 2 ^ f.w := by
    unfold sat
    split <;> omega
  rw [incSat, get_put_same s _ h, Nat.mod_eq_of_lt hle]

end Sys2Proof.Machine
end

section
/-!
SUPPORT. The end of a command: which words settling writes, and that the outputs agree with the state it leaves (R37, R107, R423, R455 to
R458).
-/
namespace Sys2Proof.Machine
open Sys2Proof

/-! ### What settling writes -/

/-- The words that `settle` may change: the status words, and the high half of the served residual. -/
def settledWords : List Nat := (F.TSU_RESID_r.addr + 4) :: settleWords

theorem rdWord_withTsu (s : State) (x : Tsu) (a : Nat) : rdWord { s with tsu := x } a = rdWord s a := rfl

section
variable {a : Nat} (ha : a ∉ settledWords)
include ha

theorem rdWord_put_settled (s : State) {f : Fld} (v : Nat) (hf : ∀ b ∈ fldWords f, b ∈ settledWords) :
    rdWord (put s f v) a = rdWord s a :=
  rdWord_put_off s v fun h => ha (hf a h)

theorem rdWord_settleTsu (s : State) : rdWord (settleTsu s) a = rdWord s a := by
  have hput : ∀ (t : State) (f : Fld) (v : Nat), (∀ b ∈ fldWords f, b ∈ settledWords) → rdWord (put t f v) a = rdWord t a :=
    fun t _ v => rdWord_put_settled ha t v
  unfold settleTsu
  extract_lets s₁ s₂ s₃ s₄ s₅
  calc rdWord { s₅ with tsu := _ } a
    _ = rdWord s₅ a := rdWord_withTsu s₅ _ a
    _ = rdWord s₄ a := hput s₄ _ _ (by decide)
    _ = rdWord s₃ a := hput s₃ _ _ (by decide)
    _ = rdWord s₂ a := hput s₂ _ _ (by decide)
    _ = rdWord s₁ a := hput s₁ _ _ (by decide)
    _ = rdWord s a := hput s _ _ (by decide)

theorem rdWord_settleFlt (s : State) : rdWord (settleFlt s) a = rdWord s a := rdWord_put_settled ha s _ (by decide)

theorem rdWord_settleAsh (s : State) : rdWord (settleAsh s) a = rdWord s a := by
  unfold settleAsh
  split
  · rfl
  · simp (disch := decide) only [putB, rdWord_put_settled ha]

end

theorem get_settleTsu {f : Fld} (s : State) (hf : ∀ a ∈ fldWords f, a ∉ settledWords) : get (settleTsu s) f = get s f :=
  get_eq_of_words fun a ha => rdWord_settleTsu (hf a ha) s

theorem get_settleFlt {f : Fld} (s : State) (hf : ∀ a ∈ fldWords f, a ∉ settledWords) : get (settleFlt s) f = get s f :=
  get_eq_of_words fun a ha => rdWord_settleFlt (hf a ha) s

theorem get_settleAsh {f : Fld} (s : State) (hf : F.ASH_STATUS_rx_a.addr ∉ fldWords f) : get (settleAsh s) f = get s f := by
  have hput : ∀ (t : State) (g : Fld) v, fldWords g = [F.ASH_STATUS_rx_a.addr] → get (put t g v) f = get t f := fun t g v hg =>
    get_put_apart t v fun a ha h => by
      rw [hg, List.mem_singleton] at h
      exact hf (h ▸ ha)
  unfold settleAsh
  split
  · rfl
  · exact (hput _ _ _ (by decide)).trans (hput _ _ _ (by decide))

/-- The state that `settle` has reached before the locks of ASH's receivers and the count of HELD groups. -/
def statusShown (s : State) : State :=
  putB (putB (putB (putB (settleFlt (settleTsu s)) F.LTU_STATUS_slewing (decide (get s F.LTU_SLEW_remain ≠ 0)))
    F.SAF_STATUS_laser_en s.pins.laserEn) F.SAF_STATUS_safe (getB s F.GLB_SAFE_safe)) F.PWR_STATUS_safe (getB s F.GLB_SAFE_safe)

theorem settle_regs (s : State) : ∃ n, (settle s).regs = (put (settleAsh (statusShown s)) F.EPC_HELD_COUNT_count n).regs := by
  unfold settle statusShown
  simp (disch := decide) only [getB, putB, get_put_apart, get_settleTsu, get_settleFlt, put_pins]
  exact ⟨_, rfl⟩

/-- Settling changes no word outside the status words and the high half of the served residual. -/
theorem rdWord_settle {a : Nat} (ha : a ∉ settledWords) (s : State) : rdWord (settle s) a = rdWord s a := by
  obtain ⟨_, h⟩ := settle_regs s
  rw [rdWord_congr h]
  simp (disch := decide) only [statusShown, putB, rdWord_put_settled ha, rdWord_settleTsu ha, rdWord_settleFlt ha, rdWord_settleAsh ha]

theorem get_settle {f : Fld} (s : State) (hf : ∀ a ∈ fldWords f, a ∉ settledWords) : get (settle s) f = get s f :=
  get_eq_of_words fun a ha => rdWord_settle (hf a ha) s

theorem get_settled {f : Fld} (s t : State) (hf : ∀ a ∈ fldWords f, a ∉ settledWords) : get (settled s t) f = get t f :=
  get_settle _ hf

/-! ### The outputs after settling -/

theorem get_settle_shown {f : Fld} (s : State) (hash : F.ASH_STATUS_rx_a.addr ∉ fldWords f)
    (hheld : ∀ a ∈ fldWords f, a ∉ fldWords F.EPC_HELD_COUNT_count) : get (settle s) f = get (statusShown s) f := by
  obtain ⟨n, h⟩ := settle_regs s
  rw [get_congr h, get_put_apart _ n hheld, get_settleAsh _ hash]

theorem getB_settle_laserEn (s : State) : getB (settle s) F.SAF_STATUS_laser_en = s.pins.laserEn := by
  rw [getB_congr (get_settle_shown s (by decide) (by decide)), statusShown, getB_putB_apart _ _ (by decide), putB,
    getB_put_disjoint _ _ (by decide) (by decide) (by decide), getB_putB_same _ _ (by decide) rfl]

theorem getB_settle_safSafe (s : State) : getB (settle s) F.SAF_STATUS_safe = getB s F.GLB_SAFE_safe := by
  rw [getB_congr (get_settle_shown s (by decide) (by decide)), statusShown, getB_putB_apart _ _ (by decide),
    getB_putB_same _ _ (by decide) rfl]

theorem getB_settle_pwrSafe (s : State) : getB (settle s) F.PWR_STATUS_safe = getB s F.GLB_SAFE_safe := by
  rw [getB_congr (get_settle_shown s (by decide) (by decide)), statusShown, getB_putB_same _ _ (by decide) rfl]

theorem getB_settle_slewing (s : State) : getB (settle s) F.LTU_STATUS_slewing = decide (get s F.LTU_SLEW_remain ≠ 0) := by
  rw [getB_congr (get_settle_shown s (by decide) (by decide)), statusShown, getB_putB_apart _ _ (by decide),
    getB_putB_apart _ _ (by decide), getB_putB_apart _ _ (by decide), getB_putB_same _ _ (by decide) rfl]

theorem fltState_congr {s t : State} (hflt : s.flt = t.flt) (hsafe : get s F.GLB_SAFE_safe = get t F.GLB_SAFE_safe)
    (hpwr : ∀ n < 4, get s (F.PWR_D_STATE_state n) = get t (F.PWR_D_STATE_state n)) (r : Nat) : fltState s r = fltState t r := by
  have hoff : (r < 4 ∧ get s (F.PWR_D_STATE_state r) = 3) = (r < 4 ∧ get t (F.PWR_D_STATE_state r) = 3) :=
    propext (and_congr_right fun h => by rw [hpwr r h])
  simp only [fltState, hflt, getB_congr hsafe, hoff]

theorem fltState_settleTsu (s : State) (r : Nat) : fltState (settleTsu s) r = fltState s r :=
  fltState_congr (settleTsu_flt s) (get_settleTsu s (by decide)) (fun _ h => get_settleTsu s (by decide +revert)) r

theorem fltState_settle (s : State) (r : Nat) : fltState (settle s) r = fltState s r :=
  fltState_congr (settle_flt s) (get_settle s (by decide)) (fun _ h => get_settle s (by decide +revert)) r

theorem fltState_le (s : State) (r : Nat) : fltState s r ≤ 4 := by
  unfold fltState
  dsimp only
  repeat' split
  all_goals decide

/-- What FLT_STATUS shows: three bits for each of the six regions. -/
def fltStates (s : State) : Nat := (List.range 6).foldl (fun v r => v + 2 ^ (3 * r) * fltState s r) 0

theorem fltStates_lt (s : State) : fltStates s < 2 ^ 18 := by
  have h0 := fltState_le s 0
  have h1 := fltState_le s 1
  have h2 := fltState_le s 2
  have h3 := fltState_le s 3
  have h4 := fltState_le s 4
  have h5 := fltState_le s 5
  simp only [fltStates, List.range, List.range.loop, List.foldl]
  omega

theorem get_settle_fltStatus (s : State) : get (settle s) F.FLT_STATUS_state = fltStates s := by
  have hshown : get (statusShown s) F.FLT_STATUS_state = get (settleFlt (settleTsu s)) F.FLT_STATUS_state := by
    simp (disch := decide) only [statusShown, putB, get_put_apart]
  rw [get_settle_shown s (by decide) (by decide), hshown, settleFlt, get_put_same _ _ (by decide)]
  simp only [fltState_settleTsu]
  exact Nat.mod_eq_of_lt (fltStates_lt s)

theorem settle_alertN (s : State) : (settle s).pins.alertN = !(getB s F.GLB_SAFE_safe || !s.pwr.warnSet.isEmpty) := by
  have hsafe : getB (settleFlt (settleTsu s)) F.GLB_SAFE_safe = getB s F.GLB_SAFE_safe :=
    getB_congr ((get_settleFlt _ (by decide)).trans (get_settleTsu _ (by decide)))
  have hash : ∀ t, getB (settleAsh t) F.GLB_SAFE_safe = getB t F.GLB_SAFE_safe := fun t => getB_congr (get_settleAsh t (by decide))
  have hpwr : (settleFlt (settleTsu s)).pwr = s.pwr := (put_pwr ..).trans (settleTsu_pwr s)
  simp (disch := decide) only [settle, getB_put_apart, getB_putB_apart, hash, hsafe, put_pwr, putB_pwr, settleAsh_pwr, hpwr]

theorem outputsSettled_settle (s : State) : OutputsSettled (settle s) := by
  have hsafe : getB (settle s) F.GLB_SAFE_safe = getB s F.GLB_SAFE_safe := getB_congr (get_settle s (by decide))
  obtain ⟨b, hpins⟩ := settle_pins s
  refine ⟨?_, ?_, ?_, ?_, ?_, ?_⟩
  · rw [getB_settle_laserEn, hpins]
  · rw [getB_settle_safSafe, hsafe]
  · rw [getB_settle_pwrSafe, hsafe]
  · rw [getB_settle_slewing, get_settle s (by decide)]
  · rw [get_settle_fltStatus]
    simp only [fltState_settle, fltStates]
  · rw [settle_alertN, hsafe, settle_pwr]

/-! ### Every step settles -/

theorem exec_finishes (c : Instr) (s : State) : ∃ t, exec c s = finish s t := by
  cases c <;> exact ⟨_, rfl⟩

/-- Every step, of a command or of the clock, ends in `finish`. -/
theorem step_finishes (s : State) : ∃ u t, step s = finish u t := by
  unfold step
  split
  · exact ⟨_, _, rfl⟩
  · exact ⟨_, exec_finishes _ _⟩

/-- Settles O4: a step ends in `finish`, which settles, and settling shows every output of the state it settles. -/
theorem stepSettlesOutputs : Obligations.StepSettlesOutputs := by
  intro s t ht
  obtain ⟨u, v, h⟩ := step_finishes s
  obtain rfl : settle { v with pending := u.pending } = t := Host.Outcome.next.inj (h.symm.trans ht)
  exact outputsSettled_settle _

/-! ### The high half of the served residual -/

/-- The state after reset with a served residual of −1, in 2⁻¹⁶ ns, that is being slewed away (R355). -/
def negativeResidual : State :=
  { State.reset with tsu := { State.reset.tsu with served := [{ at_ := 0, base := 0, r := -1, slew := 0, change := false }] } }

/-- Settling shows the residual in both halves of TSU_RESID, so a negative one fills the high half too. -/
theorem rdWord_settle_negativeResidual :
    rdWord (settle negativeResidual) (F.TSU_RESID_r.addr + 4) ≠ rdWord negativeResidual (F.TSU_RESID_r.addr + 4) := by
  decide +kernel

/-- Refutes O10: TSU_RESID is a 64-bit register, and `settleWords` lists its low half alone; with a residual of −1 settling writes its high
half as well. `rdWord_settle` says which words settling does leave. -/
theorem not_settleFrame : ¬ Obligations.SettleFrame := by
  intro h
  exact rdWord_settle_negativeResidual ((h negativeResidual).1 _ (by decide))

end Sys2Proof.Machine
end

section
/-!
SUPPORT. Line-time alarms: the checks of an arm in turn, the status word, and each case of the commands (R41 to R44).
-/
namespace Sys2Proof.Machine
open Sys2Proof

/-- The time fields that an arm refuses with RANGE (R43): a CW beyond the frame, or a timebase that is not defined. -/
abbrev ArmOutOfRange (s : State) (k : Nat) : Prop :=
  4999 < get s (F.LTU_ALM_CTRL_cw k) ∨ (200 ≤ k ∧ get s (F.LTU_ALM_CTRL_timebase k) = 3)

theorem armNow_of_outOfRange {s : State} {k : Nat} (h : ArmOutOfRange s k) : armNow s k = alarmRefused s k 7 := if_pos h

section
variable {s : State} {k : Nat} (h : ¬ ArmOutOfRange s k)
include h

theorem armNow_of_not_valid (hnow : baseNow s (alarmBase s k) = none) :
    armNow s k = alarmRefused s k (if alarmBase s k = 0 then 5 else 4) := by
  rw [armNow, if_neg h, hnow]
  rfl

theorem armNow_of_late {now : Nat} (hnow : baseNow s (alarmBase s k) = some now) (hlate : alarmAt s k < now + 2) :
    armNow s k = alarmRefused s k 1 := by
  rw [armNow, if_neg h, hnow]
  exact if_pos hlate

theorem armNow_of_ahead {now : Nat} (hnow : baseNow s (alarmBase s k) = some now) (hahead : now + 2 ≤ alarmAt s k) :
    armNow s k = put (putB (put s (F.LTU_ALM_STATUS_state k) 1) (F.LTU_ALM_STATUS_late k) false) (F.LTU_ALM_STATUS_result k) 0 := by
  rw [armNow, if_neg h, hnow]
  exact if_neg (Nat.not_lt.2 hahead)

end

theorem baseNow_module {s : State} (h : get s F.LTU_STATUS_lead = 0) : baseNow s 0 = none := by
  simp [baseNow, ltValid, h]

theorem pathOf_qn (q : Path) : pathOf (qn q) = q := by cases q <;> rfl

theorem baseNow_path {s : State} {q : Path} (h : pathLocked s q = false) : baseNow s (1 + qn q) = none := by
  rw [baseNow, if_neg (by omega), Nat.add_sub_cancel_left]
  dsimp only
  rw [pathOf_qn, h]
  rfl

/-! ### The status word of an alarm -/

/-- A put of the result, or of the late bit, keeps the state. -/
theorem alarmState_putStatus (s : State) (k : Nat) {lo w : Nat} (v : Nat) (hlo : 2 ≤ lo) (hw : lo + w ≤ 32) :
    alarmState (put s ⟨R.LTU_ALM_STATUS k, lo, w⟩ v) k = alarmState s k :=
  get_put_disjoint s v hw (show 0 + 2 ≤ 32 by decide) (.inr (.inl hlo))

theorem alarmState_putResult (s : State) (k c : Nat) : alarmState (put s (F.LTU_ALM_STATUS_result k) c) k = alarmState s k :=
  alarmState_putStatus s k c (by decide) (by decide)

theorem alarmState_putLate (s : State) (k : Nat) (b : Bool) : alarmState (putB s (F.LTU_ALM_STATUS_late k) b) k = alarmState s k :=
  alarmState_putStatus s k _ (by decide) (by decide)

theorem alarmState_putState (s : State) (k : Nat) {v : Nat} (hv : v < 4) : alarmState (put s (F.LTU_ALM_STATUS_state k) v) k = v :=
  (get_put_same s v (show 0 + 2 ≤ 32 by decide)).trans (Nat.mod_eq_of_lt hv)

theorem get_result_same (s : State) (k : Nat) {c : Nat} (hc : c < 8) :
    get (put s (F.LTU_ALM_STATUS_result k) c) (F.LTU_ALM_STATUS_result k) = c :=
  (get_put_same s c (show 4 + 3 ≤ 32 by decide)).trans (Nat.mod_eq_of_lt hc)

theorem alarmArmed_of_state_zero {s : State} {k : Nat} (h : alarmState s k = 0) : alarmArmed s k = false := by
  simp [alarmArmed, h]

theorem alarmRefused_of_idle {s : State} {k : Nat} (c : Nat) (h : alarmArmed s k = false) :
    alarmRefused s k c = put s (F.LTU_ALM_STATUS_result k) c := by
  simp [alarmRefused, alarmResult, h]

theorem alarmRefused_of_armed {s : State} {k : Nat} (c : Nat) (h : alarmArmed s k = true) :
    alarmRefused s k c = put (put s (F.LTU_ALM_STATUS_state k) 0) (F.LTU_ALM_STATUS_result k) c := by
  simp [alarmRefused, alarmResult, h]

theorem alarmArmed_alarmRefused (s : State) (k c : Nat) : alarmArmed (alarmRefused s k c) k = false := by
  cases h : alarmArmed s k
  · rw [alarmRefused_of_idle c h, ← h]
    simp only [alarmArmed, alarmState_putResult]
  · refine alarmArmed_of_state_zero ?_
    rw [alarmRefused_of_armed c h, alarmState_putResult, alarmState_putState _ _ (by decide)]

theorem get_result_alarmRefused (s : State) (k : Nat) {c : Nat} (hc : c < 8) :
    get (alarmRefused s k c) (F.LTU_ALM_STATUS_result k) = c :=
  get_result_same _ k hc

/-- Settles O15: each check of an arm in turn, and what the refusal and the arm write in the status word. -/
theorem alarmArmResult : Obligations.AlarmArmResult := by
  intro s k _
  refine ⟨armNow_of_outOfRange, fun h hbase hlead => ?_, fun q h hbase hlock => ?_, fun _ h hnow hlate => armNow_of_late h hnow hlate,
    fun c hc => ⟨alarmArmed_alarmRefused s k c, get_result_alarmRefused s k hc, alarmRefused_of_idle c, alarmRefused_of_armed c⟩,
    fun _ h hnow hahead => ?_⟩
  · rw [armNow_of_not_valid h (by rw [hbase, baseNow_module hlead]), if_pos hbase]
  · rw [armNow_of_not_valid h (by rw [hbase, baseNow_path hlock]), if_neg (by omega)]
  · rw [armNow_of_ahead h hnow hahead]
    refine ⟨rfl, ?_, get_result_same _ k (by decide)⟩
    rw [alarmState_putResult, alarmState_putLate, alarmState_putState _ _ (by decide)]


/-! ### Commands of a requester (R42, R43) -/

section
variable {s : State} {r : Requester} {k : Nat}

theorem alarmArm_class (ctrl : Word) (hr : Reaches s r (R.LTU_ALM_CTRL k) true) (h : alarmOpen k = false ∨ isP1 r = false) :
    alarmArm r k ctrl s = put s (F.LTU_ALM_STATUS_result k) 3 := by
  rw [alarmArm, onWrite_of_reaches _ hr]
  exact if_pos (by rcases h with h | h <;> simp [h])

/-- The time fields of alarm `k` as an arm writes them (R42). -/
def armWritten (s : State) (k : Nat) (ctrl : Word) : State :=
  let t := put (put s (F.LTU_ALM_CTRL_cw k) (bits ctrl.toNat 0 13)) (F.LTU_ALM_CTRL_period k) (bits ctrl.toNat 16 16)
  if 200 ≤ k then put t (F.LTU_ALM_CTRL_timebase k) (bits ctrl.toNat 13 2) else t

section
variable (hopen : alarmOpen k = true) (hp1 : isP1 r = true)
include hopen hp1

theorem alarmArm_locked (ctrl : Word) (hr : Reaches s r (R.LTU_ALM_CTRL k) true) (hst : alarmState s k = 2) :
    alarmArm r k ctrl s = put s (F.LTU_ALM_STATUS_result k) 2 := by
  rw [alarmArm, onWrite_of_reaches _ hr]
  simp [hopen, hp1, hst, alarmResult, almLocked]

theorem alarmArm_writes (ctrl : Word) (hr : Reaches s r (R.LTU_ALM_CTRL k) true) (hst : alarmState s k ≠ 2) :
    alarmArm r k ctrl s = armNow (armWritten s k ctrl) k := by
  rw [alarmArm, onWrite_of_reaches _ hr]
  simp [hopen, hp1, hst, armWritten]

theorem alarmDisarm_armed (hr : Reaches s r (R.LTU_ALM_STATUS k) true) (hst : alarmState s k = 1) :
    alarmDisarm r k s = put (put s (F.LTU_ALM_STATUS_state k) 0) (F.LTU_ALM_STATUS_result k) 0 := by
  rw [alarmDisarm, onWrite_of_reaches _ hr]
  simp [hopen, hp1, hst, disarm, alarmArmed, alarmResult, almOk]

theorem alarmDisarm_locked (hr : Reaches s r (R.LTU_ALM_STATUS k) true) (hst : alarmState s k = 2) :
    alarmDisarm r k s = put s (F.LTU_ALM_STATUS_result k) 2 := by
  rw [alarmDisarm, onWrite_of_reaches _ hr]
  simp [hopen, hp1, hst, alarmResult, almLocked]

end

end

/-! ### Firing (R43, R44) -/

theorem alarmFires_path {s : State} {k : Nat} (w : Nat) (h : alarmArmed s k = true) (hbase : alarmBase s k ≠ 0) :
    alarmFires s k w = firePath ((pathBefore s k).foldl (fun u j => stepFree (firePath u j (freeVal u % 2 ^ 16))) s) k w := by
  simp [alarmFires, h, hbase]

theorem alarmFires_module {s : State} {k : Nat} (w : Nat) (h : alarmArmed s k = true) (hbase : alarmBase s k = 0) :
    alarmFires s k w = dispatchTo s (fallsAt s k) false 4000256 := by
  simp [alarmFires, h, hbase]

/-- A general alarm that is not periodic reads FIRED, and shows nothing else. -/
theorem markFired_once {s : State} {k : Nat} (late : Bool) (hk : 200 ≤ k) (hp : get s (F.LTU_ALM_CTRL_period k) = 0) :
    markFired s k late = putB (put s (F.LTU_ALM_STATUS_state k) 3) (F.LTU_ALM_STATUS_late k) late := by
  have hsched : ¬ (168 ≤ k ∧ k < 200) := by omega
  simp only [markFired, hp, if_true, if_neg hsched]

theorem firePath_general {s : State} {k : Nat} (w : Nat) (hk : 200 ≤ k)
    (hp : get (reach s (alarmBase s k) (alarmAt s k)) (F.LTU_ALM_CTRL_period k) = 0) :
    firePath s k w = putB (put (reach s (alarmBase s k) (alarmAt s k)) (F.LTU_ALM_STATUS_state k) 3) (F.LTU_ALM_STATUS_late k) false := by
  rw [firePath, if_neg (by omega), markFired_once false hk hp]

theorem firePath_burst (s : State) {k : Nat} (w : Nat) (hk : k < 128) :
    firePath s k w = burstLaunch (markFired (reach s (alarmBase s k) (alarmAt s k)) k false) k w :=
  if_pos hk

theorem fireTogether_one (s : State) (k c : Nat) (late : Bool) :
    fireTogether s [k] c late = moduleAct (reach s 0 c) (markFired (reach s 0 c) k late) k c := rfl

/-- A dispatch in which one alarm is due, and none is once it has acted. -/
theorem dispatchTo_one {s : State} {k x c : Nat} {late : Bool} (fuel : Nat) (hdue : firstDue s c = some x) (hone : dueTogether s x = [k])
    (hnone : firstDue (fireTogether s [k] x late) c = none) : dispatchTo s c late (fuel + 2) = fireTogether s [k] x late := by
  rw [dispatchTo, hdue]
  dsimp only
  rw [hone, dispatchTo, hnone]

/-- Settles O16, from what an arm, a disarm and a firing do in each of their cases. -/
theorem alarmCommands : Obligations.AlarmCommands := by
  intro s r k ctrl uw
  refine ⟨fun hr hopen hp1 hst hk => ?_, fun hr hopen hp1 hst hk => ?_,
    fun hr h => congrArg (finish s) (alarmArm_class ctrl hr h),
    fun hr hopen hp1 hst => congrArg (finish s) (alarmArm_locked hopen hp1 ctrl hr hst),
    fun hr hopen hp1 hst => congrArg (finish s) (alarmDisarm_armed hopen hp1 hr hst),
    fun hr hopen hp1 hst => congrArg (finish s) (alarmDisarm_locked hopen hp1 hr hst),
    fun hst => congrArg (finish s) (if_pos hst),
    fun h hbase => congrArg (finish s) (alarmFires_path _ h hbase),
    fun j hj hp w => firePath_general w hj hp, fun j w hj => firePath_burst s w hj,
    fun h hbase hdue hone hnone => congrArg (finish s) ((alarmFires_module _ h hbase).trans ?_),
    fun h hbase => congrArg (finish s) (alarmFires_module _ h hbase)⟩
  · have hbase : armWritten s k ctrl = _ := if_neg (Nat.not_le.2 hk)
    rw [← hbase]
    exact congrArg (finish s) (alarmArm_writes hopen hp1 ctrl hr hst)
  · have hbase : armWritten s k ctrl = _ := if_pos hk
    rw [← hbase]
    exact congrArg (finish s) (alarmArm_writes hopen hp1 ctrl hr hst)
  · exact dispatchTo_one 4000254 hdue hone hnone

end Sys2Proof.Machine
end

section
/-!
SUPPORT. Module line time: the frame boundary, the pending changes of offset, freeze and lead path, and the end of a snapshot (R32 to R39,
R45).
-/
namespace Sys2Proof.Machine
open Sys2Proof

/-! ### The frame boundary (R32, R37, R38) -/

/-- What a frame boundary does beside the hold time where no slew is left. -/
def nextFrame (s : State) : State :=
  put (modLtu (setModule s (5000 * (modFn s + 1))) (fun l => { l with shortened := false })) F.LTU_FB_LFC_lfc (s.clk.lfc.toNat / 2 ^ 16)

theorem get_modLtu (s : State) (g : Ltu → Ltu) (f : Fld) : get (modLtu s g) f = get s f := rfl

/-- The boundary leaves every field outside module line time and LTU_FB_LFC. -/
theorem get_nextFrame_apart {f : Fld} (s : State) (hfn : ∀ a ∈ fldWords f, a ∉ fldWords F.LTU_FN_fn)
    (hcw : ∀ a ∈ fldWords f, a ∉ fldWords F.LTU_CW_cw) (hlfc : ∀ a ∈ fldWords f, a ∉ fldWords F.LTU_FB_LFC_lfc) :
    get (nextFrame s) f = get s f := by
  rw [nextFrame, get_put_apart _ _ hlfc, get_modLtu, setModule, get_put_apart _ _ hcw, get_put_apart _ _ hfn, get_modLtu]

theorem get_nextFrame_fn (s : State) : get (nextFrame s) F.LTU_FN_fn = (modFn s + 1) % 2 ^ 48 := by
  rw [nextFrame, get_put_apart _ _ (by decide), get_modLtu, setModule, get_put_apart _ _ (by decide),
    get_put_same_wide _ _ (by decide) (by decide), Nat.mul_div_cancel_left _ (by decide)]
  rfl

theorem get_nextFrame_cw (s : State) : get (nextFrame s) F.LTU_CW_cw = 0 := by
  rw [nextFrame, get_put_apart _ _ (by decide), get_modLtu, setModule, get_put_same _ _ (by decide), Nat.mul_mod_right, Nat.zero_mod]

theorem get_nextFrame_lfc (s : State) : get (nextFrame s) F.LTU_FB_LFC_lfc = s.clk.lfc.toNat / 2 ^ 16 := by
  rw [nextFrame, get_put_same_wide _ _ (by decide) (by decide)]
  exact Nat.mod_eq_of_lt (Nat.div_lt_of_lt_mul s.clk.lfc.isLt)

theorem nextFrame_ltu (s : State) : (nextFrame s).ltu = { s.ltu with sub := 0, shortened := false } := by
  simp [nextFrame, modLtu, setModule]

theorem nextFrame_clk (s : State) : (nextFrame s).clk = s.clk := by simp [nextFrame, modLtu, setModule]

theorem nextFrame_bank (s : State) : (nextFrame s).bank = s.bank := by simp [nextFrame, modLtu, setModule]

theorem frameBoundary_steady {s : State} (hlead : get s F.LTU_STATUS_lead ≠ 0) (hfrozen : getB s F.LTU_STATUS_frozen = false)
    (hslew : getI s F.LTU_SLEW_remain = 0) :
    frameBoundary s = if get s F.LTU_STATUS_lead = 3 then incSat (nextFrame s) F.LTU_HOLD_TIME_frames else nextFrame s := by
  have hkeep : ltuLead (nextFrame s) = get s F.LTU_STATUS_lead := get_nextFrame_apart s (by decide) (by decide) (by decide)
  have hruns : ¬ (ltuLead s = 0 ∨ getB s F.LTU_STATUS_frozen = true) := by simp [ltuLead, hlead, hfrozen]
  unfold frameBoundary
  rw [if_neg hruns]
  extract_lets remain by_ s₁ s₂ s₃ s₄
  have hby : by_ = 0 := if_pos hslew
  have h₃ : s₃ = s₂ := if_pos hby
  have h₂ : s₂ = modLtu s₁ (fun l => { l with shortened := false }) :=
    congrArg (fun i : Int => modLtu s₁ (fun l => { l with shortened := decide (i < 0) })) hby
  have hclk : s₃.clk = s.clk := by
    rw [h₃, h₂]
    simp [s₁, setModule, modLtu]
  have h₄ : s₄ = nextFrame s := by
    rw [nextFrame, ← hclk, ← h₂, ← h₃]
  rw [h₄, hkeep]

section
variable {s : State} (hlead : get s F.LTU_STATUS_lead ≠ 0) (hfrozen : getB s F.LTU_STATUS_frozen = false)
  (hslew : getI s F.LTU_SLEW_remain = 0)
include hlead hfrozen hslew

theorem get_frameBoundary {f : Fld} (hhold : ∀ a ∈ fldWords f, a ∉ fldWords F.LTU_HOLD_TIME_frames) :
    get (frameBoundary s) f = get (nextFrame s) f := by
  rw [frameBoundary_steady hlead hfrozen hslew]
  split
  · exact get_incSat_apart _ hhold
  · rfl

theorem get_frameBoundary_hold (h : get s F.LTU_STATUS_lead = 3) : get (frameBoundary s) F.LTU_HOLD_TIME_frames =
    sat (2 ^ F.LTU_HOLD_TIME_frames.w - 1) (get s F.LTU_HOLD_TIME_frames + 1) := by
  rw [frameBoundary_steady hlead hfrozen hslew, if_pos h, get_incSat_same _ (by decide),
    get_nextFrame_apart s (by decide) (by decide) (by decide)]

theorem get_frameBoundary_not_hold (h : get s F.LTU_STATUS_lead ≠ 3) :
    get (frameBoundary s) F.LTU_HOLD_TIME_frames = get s F.LTU_HOLD_TIME_frames := by
  rw [frameBoundary_steady hlead hfrozen hslew, if_neg h, get_nextFrame_apart s (by decide) (by decide) (by decide)]

theorem frameBoundary_fields : (frameBoundary s).clk = s.clk ∧ (frameBoundary s).bank = s.bank ∧
    (frameBoundary s).ltu = { s.ltu with sub := 0, shortened := false } := by
  rw [frameBoundary_steady hlead hfrozen hslew, ← nextFrame_clk s, ← nextFrame_bank s, ← nextFrame_ltu s]
  split
  · exact ⟨put_clk .., put_bank .., put_ltu ..⟩
  · exact ⟨rfl, rfl, rfl⟩

end

/-! ### Pending changes (R34, R36, R37, R39) -/

/-- The first frame from codeword count `c` on that starts a second under offset `o`, below 15,625 (R34). -/
def offsetFrame (o c : Nat) : Nat := (c + 4999) / 5000 + (o + 15625 - (c + 4999) / 5000 % 15625) % 15625

theorem offsetFrame_mod {o : Nat} (c : Nat) (ho : o < 15625) : offsetFrame o c % 15625 = o := by
  unfold offsetFrame
  omega

theorem le_offsetFrame (o c : Nat) : c ≤ 5000 * offsetFrame o c := by
  unfold offsetFrame
  omega

theorem offsetFrame_le {o c g : Nat} (hg : g % 15625 = o) (hc : c ≤ 5000 * g) : offsetFrame o c ≤ g := by
  unfold offsetFrame
  omega

theorem takeOffset_none {s : State} (h : s.ltu.pendingOffset = none) : takeOffset s = s := by simp [takeOffset, h]

theorem takeOffset_some {s : State} {o f : Nat} (h : s.ltu.pendingOffset = some o)
    (hf : offsetFrame o (cwCount (modFn s) (modCw s)) = f) : takeOffset s = raiseGrey (put (put (put (modLtu
      (put (reach s 0 (5000 * f)) F.LTU_SEC_OFFSET_offset o) (fun l => { l with pendingOffset := none }))
      (F.LTU_ALM_FN_fn 132) f) (F.LTU_ALM_CTRL_cw 132) 0) (F.LTU_ALM_STATUS_state 132) 2) F.LTU_EVENT_sec_change := by
  subst hf
  rw [takeOffset, h]
  rfl

theorem freezeEnd_some {s : State} {q : Path} (h : s.ltu.frozenFor = some q) :
    let u := modLtu (putB s F.LTU_STATUS_frozen false) (fun l => { l with frozenFor := none })
    freezeEnd s = measureOffset (reach u (1 + qn q) (cwCount (modFn u) (modCw u))) q := by
  rw [freezeEnd, h]

theorem takeLead_unlocked {s : State} {q : Path} (h : s.ltu.pendingLead = some q) (hlock : pathLocked s q = false) :
    takeLead s = modLtu s (fun l => { l with pendingLead := none }) := by
  simp [takeLead, h, hlock]

theorem takeLead_locked {s : State} {q : Path} (h : s.ltu.pendingLead = some q) (hlock : pathLocked s q = true) :
    let u := setLead (toPathBoundary s q) q
    takeLead s = if u.ltu.frozenFor.isSome then modLtu u (fun l => { l with frozenFor := some q }) else measureOffset u q := by
  simp [takeLead, h, hlock]

theorem leadRevert_none {s : State} (h : revertTo s = none) : leadRevert s = s := by simp [leadRevert, h]

theorem pathLocked_of_held {s : State} {q : Path} (h : 0 < heldFrames s q) : pathLocked s q = true := by
  by_contra hlock
  simp [heldFrames, hlock] at h

theorem leadRevert_held {s : State} {q : Path} (h : revertTo s = some q) (hlead : leadPath s = some (otherPath q))
    (hheld : 15625 ≤ heldFrames s q) : leadRevert s = takeLead (modLtu s (fun l => { l with pendingLead := some q })) := by
  simp [leadRevert, h, hlead, hheld]

/-! ### The end of a snapshot (R45) -/

/-- The state in which the captured bank is the readable one, and no region waits for its accounting to be read. -/
def snapShown (s : State) : State :=
  (List.range 4).foldl (fun s n => modPkt s n (fun p => { p with pol := ⟨false, p.pol.done⟩ }))
    { s with snap := s.snapNext, snapNext := [], ltu := { s.ltu with snapPending := none } }

theorem snapShown_eq (s : State) : ∃ x, snapShown s =
    { s with snap := s.snapNext, snapNext := [], ltu := { s.ltu with snapPending := none }, pkt := x } := ⟨_, rfl⟩

theorem snapComplete_some {s : State} {fn : Nat} (h : s.ltu.snapPending = some fn) :
    snapComplete s = put (inc (snapShown s) F.LTU_SNAP_SEQ_seq) F.LTU_SNAP_FN_fn fn := by
  rw [snapComplete, h]
  rfl

theorem snapComplete_fields {s : State} {fn : Nat} (h : s.ltu.snapPending = some fn) :
    (snapComplete s).snap = s.snapNext ∧ (snapComplete s).snapNext = [] ∧ (snapComplete s).ltu.snapPending = none := by
  obtain ⟨x, hx⟩ := snapShown_eq s
  rw [snapComplete_some h, hx, inc, addTo]
  exact ⟨(put_snap ..).trans (put_snap ..), (put_snapNext ..).trans (put_snapNext ..),
    congrArg Ltu.snapPending ((put_ltu ..).trans (put_ltu ..))⟩

theorem get_snapComplete_fn {s : State} {fn : Nat} (h : s.ltu.snapPending = some fn) :
    get (snapComplete s) F.LTU_SNAP_FN_fn = fn % 2 ^ F.LTU_SNAP_FN_fn.w := by
  rw [snapComplete_some h, get_put_same_wide _ _ (by decide) (by decide)]

theorem get_snapComplete_seq {s : State} {fn : Nat} (h : s.ltu.snapPending = some fn) :
    get (snapComplete s) F.LTU_SNAP_SEQ_seq = (get s F.LTU_SNAP_SEQ_seq + 1) % 2 ^ F.LTU_SNAP_SEQ_seq.w := by
  rw [snapComplete_some h, get_put_apart _ _ (by decide), inc, addTo, get_put_same _ _ (by decide)]
  rfl

/-- Settles O17: the frame boundary without a slew, then each pending change as its command takes it. -/
theorem lineTimeChanges : Obligations.LineTimeChanges := by
  intro s
  refine ⟨fun hlead hfrozen hslew => ?_, fun h => congrArg (finish s) (takeOffset_none h), fun o h ho => ?_,
    fun q h => congrArg (finish s) (freezeEnd_some h), fun q h hlock => congrArg (finish s) (takeLead_locked h hlock),
    fun q h hlock => congrArg (finish s) (takeLead_unlocked h hlock), fun q h hlead hheld => ?_,
    fun h => congrArg (finish s) (leadRevert_none h), fun fn h => ?_⟩
  · obtain ⟨hclk, hbank, hltu⟩ := frameBoundary_fields hlead hfrozen hslew
    have hfld : ∀ f : Fld, (∀ a ∈ fldWords f, a ∉ settledWords) → (∀ a ∈ fldWords f, a ∉ fldWords F.LTU_HOLD_TIME_frames) →
        get (settled s (frameBoundary s)) f = get (nextFrame s) f := fun _ hs hh =>
      (get_settled s _ hs).trans (get_frameBoundary hlead hfrozen hslew hh)
    have hsettled : (settled s (frameBoundary s)).ltu = { s.ltu with sub := 0, shortened := false } := (settle_ltu _).trans hltu
    refine ⟨_, rfl, (hfld _ (by decide) (by decide)).trans (get_nextFrame_fn s),
      (hfld _ (by decide) (by decide)).trans (get_nextFrame_cw s), congrArg Ltu.sub hsettled,
      (hfld _ (by decide) (by decide)).trans (get_nextFrame_lfc s),
      fun h => (get_settled s _ (by decide)).trans (get_frameBoundary_hold hlead hfrozen hslew h),
      fun h => (get_settled s _ (by decide)).trans (get_frameBoundary_not_hold hlead hfrozen hslew h),
      (settle_clk _).trans hclk, (settle_bank _).trans hbank, (congrArg Ltu.timeA hsettled :), (congrArg Ltu.timeB hsettled :)⟩
  · exact ⟨_, offsetFrame_mod _ ho, le_offsetFrame _ _, fun _ => offsetFrame_le, congrArg (finish s) (takeOffset_some h rfl)⟩
  · have hlock : pathLocked s q = true := pathLocked_of_held (by omega)
    have htake := takeLead_locked (s := modLtu s (fun l => { l with pendingLead := some q })) rfl (by cases q <;> exact hlock)
    exact congrArg (finish s) ((leadRevert_held h hlead hheld).trans htake)
  · obtain ⟨hsnap, hnext, hpending⟩ := snapComplete_fields h
    exact ⟨_, rfl, (settle_snap _).trans hsnap, (settle_snapNext _).trans hnext, (congrArg Ltu.snapPending (settle_ltu _)).trans hpending,
      (get_settled s _ (by decide)).trans (get_snapComplete_fn h), (get_settled s _ (by decide)).trans (get_snapComplete_seq h)⟩

end Sys2Proof.Machine
end

section
/-!
SUPPORT. The halves of a 64-bit register: what a read of each half shows, and what a write of each half of EPC_ARM_FN puts (R47).
-/
namespace Sys2Proof.Machine
open Sys2Proof

/-- Where a word shows what the register file holds, and a read of it does nothing else (R7). -/
structure ShownWord (a : Nat) : Prop where
  refresh_eq : ∀ s, refresh s a = s
  clearOnRead_eq : ∀ s, clearOnRead s a = s
  measured_eq : ∀ s, measured_ s a = none
  liveWord_eq : ∀ s r, liveWord s r a = (rdWord s a).toNat

theorem shownWord_fnLo : ShownWord 0x10008 := ⟨fun _ => rfl, fun _ => rfl, fun _ => rfl, fun _ _ => rfl⟩

theorem shownWord_fnHi : ShownWord 0x1000C := ⟨fun _ => rfl, fun _ => rfl, fun _ => rfl, fun _ _ => rfl⟩

/-- Whether the word at `a` is half `h`, 0 LO or 4 HI, of a 64-bit register (R47). -/
abbrev PairHalf (a h : Nat) : Prop := (regRowAt a).any (fun x => x.1.pair && x.2 == h) = true

theorem PairHalf.row {a h : Nat} (p : PairHalf a h) : ∃ row, regRowAt a = some (row, h) ∧ row.pair = true := by
  rw [PairHalf, Option.any_eq_true] at p
  obtain ⟨⟨row, j⟩, hrow, hp⟩ := p
  obtain ⟨hpair, hj⟩ := Bool.and_eq_true_iff.1 hp
  obtain rfl : j = h := eq_of_beq hj
  exact ⟨row, hrow, hpair⟩

theorem pairHalf_fnLo : PairHalf 0x10008 0 := by decide

theorem pairHalf_fnHi : PairHalf 0x1000C 4 := by decide

theorem pairHalf_armLo : PairHalf 0x2000C 0 := by decide

theorem pairHalf_armHi : PairHalf 0x20010 4 := by decide

theorem busRead_of_pairHalf {s : State} {r : Requester} {a h : Nat} (hr : Reaches s r a false) (hmbx : isMbxBody a = false)
    (p : PairHalf a h) (hw : ShownWord a) :
    busRead r a s = emit (readReg (accessed s a) r a h true).1 (.readData (readReg (accessed s a) r a h true).2) := by
  obtain ⟨hcut, hperm, hsleep⟩ := hr
  obtain ⟨row, hrow, hpair⟩ := p.row
  simp [busRead, hcut, hperm, hsleep, hmbx, hrow, hpair, hw.refresh_eq]

theorem readReg_lo {a : Nat} (lo : ShownWord a) (hi : ShownWord (a + 4)) (s : State) (r : Requester) :
    readReg s r a 0 true = (modShadow s r (fun x => { x with rd := some (a, rdWord s (a + 4)) }), (rdWord s a).toNat) := by
  simp [readReg, lo.measured_eq, lo.clearOnRead_eq, lo.liveWord_eq, hi.liveWord_eq]

theorem readReg_hi_shadowed {a : Nat} {w : Word} (hi : ShownWord (a + 4)) {s : State} {r : Requester}
    (hsh : (shadowOf s r).rd = some (a, w)) : readReg s r (a + 4) 4 true = (s, w.toNat) := by
  simp [readReg, hi.measured_eq, hi.clearOnRead_eq, hsh]

theorem readReg_hi_live {a : Nat} (hi : ShownWord (a + 4)) {s : State} {r : Requester}
    (hsh : ∀ x, (shadowOf s r).rd = some x → x.1 ≠ a) : readReg s r (a + 4) 4 true = (s, (rdWord s (a + 4)).toNat) := by
  cases h : (shadowOf s r).rd with
  | none => simp [readReg, hi.measured_eq, hi.clearOnRead_eq, hi.liveWord_eq, h]
  | some x =>
    have hne := hsh x h
    simp [readReg, hi.measured_eq, hi.clearOnRead_eq, hi.liveWord_eq, h, hne]

/-- Beside what records change, an access changes the store of packet regions alone, where it opens a clock gate (R413). -/
theorem unrecorded_accessed (s : State) (a : Nat) : ∃ x, unrecorded (accessed s a) = unrecorded { s with pkt := x } := by
  have hworked : ∀ n, ∃ x, unrecorded (worked s n) = unrecorded { s with pkt := x } := fun n => by
    unfold worked
    split <;> exact ⟨_, rfl⟩
  unfold accessed
  split
  · exact ⟨_, rfl⟩
  · dsimp only
    split
    · exact hworked _
    · simp only [unrecorded_monCount]
      exact hworked _

theorem accessed_shadows (s : State) (a : Nat) : (accessed s a).shadows = s.shadows := by
  obtain ⟨x, h⟩ := unrecorded_accessed s a
  exact (congrArg State.shadows h :)

theorem shadowOf_accessed (s : State) (a : Nat) (r : Requester) : shadowOf (accessed s a) r = shadowOf s r := by
  rw [shadowOf, accessed_shadows]
  rfl

theorem shadowOf_modShadow (s : State) (r : Requester) (f : Shadow → Shadow) : shadowOf (modShadow s r f) r = f (shadowOf s r) := by
  simp [shadowOf, modShadow, Tab.upd, Tab.getD]

theorem shadowOf_put (s : State) (f : Fld) (v : Nat) (r : Requester) : shadowOf (put s f v) r = shadowOf s r := by
  rw [shadowOf, put_shadows]
  rfl

theorem shadowOf_settled (s t : State) (r : Requester) : shadowOf (settled s t) r = shadowOf t r := by
  rw [shadowOf, settled, settle_shadows]
  rfl

/-! ### Writes of EPC_ARM_FN -/

theorem busWrite_of_pairHalf {s : State} {r : Requester} {a h : Nat} (v : Word) (hr : Reaches s r a true) (hring : ringAt a = none)
    (hmbx : isMbxBody a = false) (p : PairHalf a h) : busWrite r a v s = halfWrite (accessed s a) r a h v.toNat := by
  obtain ⟨row, hrow, hpair⟩ := p.row
  rw [busWrite_of_reaches hr hring]
  simp [writeHere, hmbx, hrow, hpair]

theorem wordWrite_of_plain {a : Nat} (hstaged : ∀ p0, stagedFields a p0 = []) (hgroup : groupOf a = none) (s : State) (r : Requester)
    (v : Nat) : wordWrite s r a v = plainWrite s r a v := by
  simp [wordWrite, stagedWrite, memberPart, hstaged, hgroup]

theorem wordWrite_armLo (s : State) (r : Requester) (v : Nat) : wordWrite s r 0x2000C v = put s ⟨0x2000C, 0, 32⟩ (bits v 0 32) := by
  rw [wordWrite_of_plain (by decide) rfl, plainWrite]
  cases isP0 s r <;> rfl

theorem wordWrite_armHi (s : State) (r : Requester) (v : Nat) : wordWrite s r 0x20010 v = put s ⟨0x20010, 0, 16⟩ (bits v 0 16) := by
  rw [wordWrite_of_plain (by decide) rfl, plainWrite]
  cases isP0 s r <;> rfl

/-- A write of EPC_ARM_FN through its HI half: both halves with a low half at hand, else HI alone. -/
theorem pairWrite_arm (s : State) (r : Requester) (lo : Option Nat) (hi : Nat) : pairWrite s r 0x2000C lo hi =
    put (lo.elim s fun w => put s ⟨0x2000C, 0, 32⟩ (bits w 0 32)) ⟨0x20010, 0, 16⟩ (bits hi 0 16) := by
  cases lo with
  | none => exact wordWrite_armHi s r hi
  | some w =>
    have hnow : pairWrite s r 0x2000C (some w) hi = wordWrite (wordWrite s r 0x2000C w) r 0x20010 hi :=
      congrArg (wordWrite · r 0x20010 hi) (if_pos (.inl (by decide)))
    rw [hnow, wordWrite_armLo, wordWrite_armHi]
    rfl

theorem get_armFn (s : State) (x : Nat) :
    get (put s ⟨0x20010, 0, 16⟩ x) F.EPC_ARM_FN_fn = (rdWord s 0x2000C).toNat + 2 ^ 32 * (x % 2 ^ 16) := by
  have hlo : rdWord (put s ⟨0x20010, 0, 16⟩ x) 0x2000C = rdWord s 0x2000C := rdWord_put_off s x (by decide)
  have hhi := bits_setBits_same (rdWord s 0x20010).toNat 0 16 x
  rw [← rdWord_put_same (f := ⟨0x20010, 0, 16⟩) s x (by decide)] at hhi
  have hget : ∀ t, get t F.EPC_ARM_FN_fn = bits ((rdWord t 0x2000C).toNat + 2 ^ 32 * (rdWord t 0x20010).toNat) 0 48 := fun _ => rfl
  have hlt := (rdWord s 0x2000C).isLt
  rw [hget, hlo]
  simp only [bits] at hhi ⊢
  omega

theorem rdWord_armLo (s : State) (w : Word) : rdWord (put s ⟨0x2000C, 0, 32⟩ (bits w.toNat 0 32)) 0x2000C = w := by
  have hput := rdWord_put_same (f := ⟨0x2000C, 0, 32⟩) s (bits w.toNat 0 32) (by decide)
  have hlt := w.isLt
  have hold := (rdWord s 0x2000C).isLt
  refine BitVec.eq_of_toNat_eq (hput.trans ?_)
  simp only [setBits, bits]
  omega

section
variable {s : State} {r : Requester} {a : Nat}

theorem halfWrite_hi_shadowed {w : Word} (v : Nat) (h : (shadowOf s r).wr = some (a, w)) :
    halfWrite s r (a + 4) 4 v = pairWrite (modShadow s r (fun x => { x with wr := none })) r a (some w.toNat) v := by
  simp [halfWrite, h]

theorem halfWrite_hi_alone (v : Nat) (h : ∀ x, (shadowOf s r).wr = some x → x.1 ≠ a) :
    halfWrite s r (a + 4) 4 v = pairWrite s r a none v := by
  cases hw : (shadowOf s r).wr with
  | none => simp [halfWrite, hw]
  | some x =>
    have hne := h x hw
    simp [halfWrite, hw, hne]

end

/-- Settles O14: the shadow that each half fills and takes, then EPC_ARM_FN as the two halves put it. -/
theorem sixtyFourBitPairs : Obligations.SixtyFourBitPairs := by
  intro s r v
  have hbits : bits v.toNat 0 16 % 2 ^ 16 = v.toNat % 2 ^ 16 := by
    rw [bits, pow_zero, Nat.div_one, Nat.mod_mod]
  refine ⟨fun hr => ?_, fun w hr hsh => ?_, fun hr hsh => ?_, fun hr => ?_, fun w hr hsh => ?_, fun hr hsh => ?_⟩
  · refine congrArg (finish s) ((busRead_of_pairHalf hr rfl pairHalf_fnLo shownWord_fnLo).trans ?_)
    rw [readReg_lo shownWord_fnLo shownWord_fnHi]
  · refine congrArg (finish s) ((busRead_of_pairHalf hr rfl pairHalf_fnHi shownWord_fnHi).trans ?_)
    rw [readReg_hi_shadowed shownWord_fnHi ((congrArg Shadow.rd (shadowOf_accessed ..)).trans hsh)]
  · refine congrArg (finish s) ((busRead_of_pairHalf hr rfl pairHalf_fnHi shownWord_fnHi).trans ?_)
    rw [readReg_hi_live shownWord_fnHi (shadowOf_accessed s _ r ▸ hsh)]
  · refine congrArg (finish s) ((busWrite_of_pairHalf v hr rfl rfl pairHalf_armLo).trans ?_)
    rw [halfWrite, BitVec.ofNat_toNat]
    rfl
  · have hwrite := (busWrite_of_pairHalf v hr rfl rfl pairHalf_armHi).trans
      ((halfWrite_hi_shadowed v.toNat ((congrArg Shadow.wr (shadowOf_accessed ..)).trans hsh)).trans (pairWrite_arm ..))
    refine ⟨_, congrArg (finish s) hwrite, (get_settled s _ (by decide)).trans ?_, ?_⟩
    · rw [get_armFn, hbits, Option.elim_some, rdWord_armLo]
    · exact congrArg Shadow.wr ((shadowOf_settled ..).trans ((shadowOf_put ..).trans ((shadowOf_put ..).trans (shadowOf_modShadow ..))))
  · have hwrite := (busWrite_of_pairHalf v hr rfl rfl pairHalf_armHi).trans
      ((halfWrite_hi_alone v.toNat (shadowOf_accessed s _ r ▸ hsh)).trans (pairWrite_arm ..))
    refine ⟨_, congrArg (finish s) hwrite, (get_settled s _ (by decide)).trans ?_⟩
    rw [get_armFn, hbits, Option.elim_none]

end Sys2Proof.Machine
end

section
/-!
SUPPORT. The table access port: when a command runs, waits or answers BUSY, and what each operation answers in each of its cases (R60,
R281, R293 to R295).
-/
namespace Sys2Proof.Machine
open Sys2Proof

/-! ### How a command of the port begins -/

/-- The state in which PRS_TA_CMD shows operation `op` on the bank that `staged` names. -/
def taShown (s : State) (n op : Nat) (staged : Bool) : State := putB (put s (F.PRS_TA_CMD_op n) op) (F.PRS_TA_CMD_bank n) staged

section
variable {s : State} {n op : Nat} {staged : Bool}

theorem taRun_of_waiting (h : (pkt s n).prs.taWait.isSome = true) : taRun s n op staged = put s (F.PRS_TA_RESULT_code n) taBusy :=
  if_pos h

theorem taRun_of_seeding (hwait : (pkt s n).prs.taWait = none) (hop : taWrites op = true) (hstaged : staged = true)
    (hmay : taMayWrite (taShown s n op staged) staged = true) (hseed : getB (taShown s n op staged) F.EPC_STATUS_seeding = true) :
    taRun s n op staged =
      putB (modPrs (taShown s n op staged) n (fun p => { p with taWait := some op })) (F.PRS_TA_RESULT_busy n) true := by
  subst hstaged
  have hst : epcState (taShown s n op true) = epcStaging := by simpa [taMayWrite] using hmay
  simp only [taShown] at hst hseed ⊢
  simp [taRun, hwait, hop, hst, hseed]

/-- A command that finds no write waiting runs, unless it writes the staged bank, may do so, and finds the seed copy running. -/
theorem taRun_of_free (hwait : (pkt s n).prs.taWait = none) (h : taWrites op = true → staged = true →
    taMayWrite (taShown s n op staged) staged = true → getB (taShown s n op staged) F.EPC_STATUS_seeding = false) :
    taRun s n op staged = taOp (taShown s n op staged) n op staged := by
  have hrun : (staged && taWrites op && decide (epcState (taShown s n op staged) = epcStaging) &&
      getB (taShown s n op staged) F.EPC_STATUS_seeding) = false := by
    rw [← Bool.not_eq_true]
    simp only [Bool.and_eq_true, decide_eq_true_eq]
    rintro ⟨⟨⟨hstaged, hop⟩, hst⟩, hseed⟩
    have hmay : taMayWrite (taShown s n op staged) staged = true := by simp [taMayWrite, hst]
    exact Bool.false_ne_true ((h hop hstaged hmay).symm.trans hseed)
  exact (if_neg (by simp [hwait])).trans (if_neg (Bool.eq_false_iff.1 hrun))

end

/-! ### The operations (R295) -/

section
variable {s : State} {n : Nat} {staged : Bool}

theorem taRead_outOfRange (h : taExact s n = true ∨ ternLen s n (taTbl s n) ≤ taIdx s n) : taRead s n staged = taResult s n taRange :=
  if_pos h

section
variable (hkind : taExact s n = false) (hidx : taIdx s n < ternLen s n (taTbl s n))
include hkind hidx

theorem taRead_entry {e : TernEnt} (h : Tab.find (taBank s staged).tern (ternKey n (taTbl s n) (taIdx s n)) = some e) :
    taRead s n staged = taResult (taShow s n e.key e.mask e.act true) n taOk := by
  simp [taRead, hkind, hidx, h]

theorem taRead_absent (h : Tab.find (taBank s staged).tern (ternKey n (taTbl s n) (taIdx s n)) = none) :
    taRead s n staged = taResult (taShow s n 0 0 0 false) n taAbsent := by
  simp [taRead, hkind, hidx, h]

theorem taWrite_entry (hmay : taMayWrite s staged = true) (hkey : taNum s n 0 16 < 2 ^ tableBits s n (taTbl s n))
    (hmask : taNum s n 16 16 < 2 ^ tableBits s n (taTbl s n)) :
    taWrite s n staged = taResult (taModBank s staged (fun b => { b with
      tern := Tab.set b.tern (ternKey n (taTbl s n) (taIdx s n))
        ⟨taNum s n 0 16, taNum s n 16 16, get s (F.PRS_TA_DATA_bits n 32) % 65536⟩ })) n taOk := by
  simp [taWrite, hmay, hkind, hidx, hkey, hmask]

theorem taDelete_entry (hmay : taMayWrite s staged = true)
    (h : (Tab.find (taBank s staged).tern (ternKey n (taTbl s n) (taIdx s n))).isSome = true) :
    taDelete s n staged = taResult (taModBank s staged (fun b => { b with
      tern := Tab.del b.tern (ternKey n (taTbl s n) (taIdx s n)) })) n taOk := by
  have hsome := Option.isSome_iff_ne_none.1 h
  simp [taDelete, hmay, hkind, hidx, hsome]

theorem taDelete_absent (hmay : taMayWrite s staged = true)
    (h : Tab.find (taBank s staged).tern (ternKey n (taTbl s n) (taIdx s n)) = none) :
    taDelete s n staged = taResult s n taAbsent := by
  simp [taDelete, hmay, hkind, hidx, h]

end

theorem taWrite_notStaging (hmay : taMayWrite s staged = false) : taWrite s n staged = taResult s n taNotStaging := by
  simp [taWrite, hmay]

theorem taInsert_notStaging (hmay : taMayWrite s staged = false) : taInsert s n staged = taResult s n taNotStaging := by
  simp [taInsert, hmay]

theorem taDelete_notStaging (hmay : taMayWrite s staged = false) : taDelete s n staged = taResult s n taNotStaging := by
  simp [taDelete, hmay]

theorem taActWrite_notStaging (hmay : taMayWrite s staged = false) : taActWrite s n staged = taResult s n taNotStaging := by
  simp [taActWrite, hmay]

theorem taInsert_outOfRange (hmay : taMayWrite s staged = true)
    (h : taExact s n = false ∨ 2 ^ tableBits s n (taTbl s n) ≤ taNum s n 0 16) : taInsert s n staged = taResult s n taRange := by
  rcases h with h | h <;> simp [taInsert, hmay, h]

theorem taInsert_exists (hmay : taMayWrite s staged = true) (hkind : taExact s n = true)
    (hkey : taNum s n 0 16 < 2 ^ tableBits s n (taTbl s n))
    (h : (lookup s n (taTbl s n) (taNum s n 0 16) (taTag s staged)).isSome = true) : taInsert s n staged = taResult s n taExists := by
  simp [taInsert, hmay, hkind, hkey, h]

theorem taInsert_new {t : State} {ok : Bool} (hmay : taMayWrite s staged = true) (hkind : taExact s n = true)
    (hkey : taNum s n 0 16 < 2 ^ tableBits s n (taTbl s n))
    (h : (lookup s n (taTbl s n) (taNum s n 0 16) (taTag s staged)).isSome = false)
    (hmod : taModExact s n staged (taTbl s n) (taNum s n 0 16) (some (get s (F.PRS_TA_DATA_bits n 32) % 65536)) = (t, ok)) :
    taInsert s n staged = taResult t n (if ok then taOk else taFull) := by
  simp [taInsert, hmay, hkind, hkey, h, hmod]

theorem taDelete_exact_absent (hmay : taMayWrite s staged = true) (hkind : taExact s n = true)
    (h : (lookup s n (taTbl s n) (taNum s n 0 16) (taTag s staged)).isNone = true) : taDelete s n staged = taResult s n taAbsent := by
  have hnone := Option.isNone_iff_eq_none.1 h
  simp [taDelete, hmay, hkind, hnone]

theorem taLookup_ternary_absent (hkind : taExact s n = false)
    (h : ternHit (taBank s staged) n (taTbl s n) (ternLen s n (taTbl s n)) (taNum s n 0 16) = none) :
    taLookup s n staged = taResult s n taAbsent := by
  simp [taLookup, hkind, h]

theorem taLookup_exact {i a : Nat} {x : ExSlot} (hkind : taExact s n = true)
    (hslot : exactSlot s n (taTbl s n) (taNum s n 0 16) = some (i, x)) (hact : x.act (taTag s staged) = some a) :
    taLookup s n staged = taResult (put (taShow s n (taNum s n 0 16) 0 a true) (F.PRS_TA_DATA_bits n 33) i) n taOk := by
  simp [taLookup, hkind, hslot, hact]

theorem taActRead_outOfRange (h : 65536 ≤ taIdx s n) : taActRead s n staged = taResult s n taRange := if_pos h

theorem taActRead_action (h : taIdx s n < 65536) :
    taActRead s n staged = taResult (taPut s n 0 4 (Tab.getD (taBank s staged).acts (65536 * n + taIdx s n) 0)) n taOk :=
  if_neg (Nat.not_le.2 h)

theorem taActWrite_action (hmay : taMayWrite s staged = true) (h : taIdx s n < 65536) :
    taActWrite s n staged = taResult (taModBank s staged (fun b => { b with
      acts := Tab.set b.acts (65536 * n + taIdx s n) (taNum s n 0 4) })) n taOk := by
  simp [taActWrite, hmay, h]

end

/-- Settles O59: which commands wait for the seed copy, then each operation in each of its cases. -/
theorem tableAccess : Obligations.TableAccess := by
  intro s r n staged e s' hr cmd ends key tern entry width runs waits seeding busy
  have ran : ∀ {op u}, taRun s n op staged = u →
      finish s (onWrite s r (R.PRS_TA_CMD n) (fun s => taRun s n op staged)) = .next (settled s u) :=
    fun h => congrArg (finish s) ((onWrite_of_reaches _ hr).trans h)
  refine ⟨fun hwait => ?_, fun hwait => ?_⟩
  · have hbusy : ∀ op, taRun s n op staged = put s (F.PRS_TA_RESULT_code n) 6 := fun _ => taRun_of_waiting hwait
    exact ⟨ran (hbusy 1), ran (hbusy 2), ran (hbusy 3), ran (hbusy 4), ran (hbusy 5), ran (hbusy 6), ran (hbusy 7)⟩
  have late : ∀ {op}, taWrites op = true → seeding op → finish s (onWrite s r (R.PRS_TA_CMD n) (fun s => taRun s n op staged)) =
      .next (waits op) := fun hop ⟨hstaged, hmay, hseed⟩ => ran (taRun_of_seeding hwait hop hstaged hmay hseed)
  have shows : ∀ {op u}, taWrites op = false → taOp (cmd op) n op staged = u → taRun s n op staged = u := fun hop h =>
    (taRun_of_free hwait fun hw => absurd (hop.symm.trans hw) Bool.false_ne_true).trans h
  have writes : ∀ {op u}, runs op → taOp (cmd op) n op staged = u → taRun s n op staged = u := fun hrun h =>
    (taRun_of_free hwait fun _ hstaged _ => hrun.2 hstaged).trans h
  have refused : ∀ {op u}, taMayWrite (cmd op) staged = false → taOp (cmd op) n op staged = u → taRun s n op staged = u :=
    fun hmay h => (taRun_of_free hwait fun _ _ hmay' => absurd (hmay.symm.trans hmay') Bool.false_ne_true).trans h
  refine ⟨late rfl, late rfl, late rfl, late rfl, fun h => ran (shows rfl (taRead_outOfRange h)),
    fun ⟨hkind, hidx⟩ he => ran (shows rfl (taRead_entry hkind hidx he)),
    fun ⟨hkind, hidx⟩ he => ran (shows rfl (taRead_absent hkind hidx he)), fun hmay => ran (refused hmay (taWrite_notStaging hmay)),
    fun hrun ⟨hkind, hidx⟩ hkey hmask => ran (writes hrun (taWrite_entry hkind hidx hrun.1 hkey hmask)),
    fun hrun h => ran (writes hrun (taInsert_outOfRange hrun.1 h)), fun hrun hkind hkey => ⟨fun h => ?_, fun h ok hmod => ?_⟩,
    fun hrun ⟨hkind, hidx⟩ he => ran (writes hrun (taDelete_entry hkind hidx hrun.1 he)),
    fun hrun ⟨hkind, hidx⟩ he => ran (writes hrun (taDelete_absent hkind hidx hrun.1 he)),
    fun hrun hkind h => ran (writes hrun (taDelete_exact_absent hrun.1 hkind h)),
    fun hkind h => ran (shows rfl (taLookup_ternary_absent hkind h)),
    fun hkind i x a hslot hact => ran (shows rfl (taLookup_exact hkind hslot hact)),
    fun h => ran (shows rfl (taActRead_outOfRange h)), fun h => ran (shows rfl (taActRead_action h)),
    fun hrun h => ran (writes hrun (taActWrite_action hrun.1 h)), fun hmay => ran (refused hmay (taActWrite_notStaging hmay))⟩
  · exact ran (writes hrun (taInsert_exists hrun.1 hkind hkey h))
  · exact ran (writes hrun (taInsert_new hrun.1 hkind hkey h hmod))

end Sys2Proof.Machine
end

section
/-!
SUPPORT. Agreement groups: a member's write, each answer of a seal, of its abandon, of its check and of the hold limit (R80 to R83).
-/
namespace Sys2Proof.Machine
open Sys2Proof

theorem onWriteP0_of_p0 {s : State} {r : Requester} {a : Nat} (k : State → State) (h : ReachesP0 s r a) : onWriteP0 s r a k = k s :=
  (onWrite_of_reaches _ h.1).trans (if_pos h.2)

theorem onWriteP0_below {s : State} {r : Requester} {a : Nat} (k : State → State) (h : Reaches s r a true) (hp0 : isP0 s r = false) :
    onWriteP0 s r a k = s :=
  (onWrite_of_reaches _ h).trans (if_neg (Bool.eq_false_iff.1 hp0))

section
variable {s : State} {r : Requester} {a : BitVec 28} {g : Nat} (v : Word)

theorem execGroupMemberWrite_open (hg : groupOf a.toNat = some g) (hp0 : groupP0 g = false) : execGroupMemberWrite r a v s =
    finish s (onWrite s r a.toNat (fun s => memberWrite s g a.toNat v.toNat)) := by
  simp [execGroupMemberWrite, hg, hp0]

theorem execGroupMemberWrite_p0 (hg : groupOf a.toNat = some g) (hp0 : groupP0 g = true) : execGroupMemberWrite r a v s =
    finish s (onWriteP0 s r a.toNat (fun s => memberWrite s g a.toNat v.toNat)) := by
  simp [execGroupMemberWrite, hg, hp0]

end

section
variable {s : State} {g : Nat}

theorem sealStart_held (r : Requester) (hst : groupState s g = 1) (hp0 : groupP0 g = false) : sealStart s r g = put s (sealState g) 2 := by
  simp [sealStart, hst, hp0]

theorem sealStart_idle (r : Requester) (hst : groupState s g = 0) : sealStart s r g = sealResult s g sealNotHeld 0 0 := by
  simp [sealStart, hst]

theorem sealAbandon_idle (hst : groupState s g = 0) : sealAbandon s g = sealResult s g sealNotHeld 0 0 := by
  simp [sealAbandon, hst]

theorem sealAbandon_held (hst : groupState s g = 1) : sealAbandon s g = sealResult (groupClear s g) g sealAbandoned 0 0 := by
  simp [sealAbandon, hst]

section
variable (hst : groupState s g = 2)
include hst

theorem sealDone_meets_commit (h : sealMeetsCommit s g = true) :
    sealDone s g = sealResult (put s (sealState g) 1) g sealEpochBusy 0 0 := by
  simp [sealDone, hst, h]

section
variable (hmeets : sealMeetsCommit s g = false)
include hmeets

theorem sealDone_fails {x : Nat × Nat × Nat} (h : groupVerdict s g ((groupMembers g).map (memberRead s g)) = some x) :
    sealDone s g = inc (sealResult (groupClear s g) g x.1 x.2.1 x.2.2) F.EPC_SEAL_FAIL_count := by
  rw [sealDone, if_neg (not_not.2 hst), if_neg (Bool.eq_false_iff.1 hmeets)]
  simp only [h]

theorem sealDone_passes (h : groupVerdict s g ((groupMembers g).map (memberRead s g)) = none) :
    sealDone s g = sealEffects (sealResult
      (((groupSt s g).getD {}).pend.foldl (fun x e => memberApply x (groupSec g) e.1 e.2.toNat) (groupClear s g))
      g sealOk 0 0) g (activeCfg s) := by
  rw [sealDone, if_neg (not_not.2 hst), if_neg (Bool.eq_false_iff.1 hmeets)]
  simp only [h]

end

end

theorem holdTimeout_held {p : Span} (hst : groupState s g = 1) (hp : spanAt g = some p) :
    holdTimeout s g = raiseFor (sealResult (groupClear s g) g sealTimeout 0 0) F.EPC_EVENT_hold_timeout .amber p.region 0
      (2 ^ 24 * p.blk + (g - p.base)) := by
  simp [holdTimeout, hst, hp]

end

/-- Settles O29: who may write a member and seal its group, then each answer of the group's state. -/
theorem agreementGroups : Obligations.AgreementGroups := by
  intro s r a v
  have sealed : ∀ {k : State → State} {u}, isSeal a.toNat = true → Reaches s r a.toNat true → k s = u →
      finish s (if isSeal a.toNat then onWrite s r a.toNat k else s) = .next (settled s u) := fun hseal hr h =>
    congrArg (finish s) ((if_pos hseal).trans ((onWrite_of_reaches _ hr).trans h))
  refine ⟨fun g hg hp0 hr => (execGroupMemberWrite_open v hg hp0).trans (congrArg (finish s) (onWrite_of_reaches _ hr)),
    fun g hg hp0 hr => (execGroupMemberWrite_p0 v hg hp0).trans (congrArg (finish s) (onWriteP0_of_p0 _ hr)),
    fun g hg hp0 hr hbelow => (execGroupMemberWrite_p0 v hg hp0).trans (congrArg (finish s) (onWriteP0_below _ hr hbelow)),
    fun hseal hr hst hp0 => sealed hseal hr (sealStart_held r hst hp0),
    fun hseal hr hst => ⟨sealed hseal hr (sealStart_idle r hst), sealed hseal hr (sealAbandon_idle hst)⟩,
    fun hseal hr hst => sealed hseal hr (sealAbandon_held hst), fun hst h => congrArg (finish s) (sealDone_meets_commit hst h),
    fun hst h => ⟨fun x hx => congrArg (finish s) (sealDone_fails hst h hx), fun hx => congrArg (finish s) (sealDone_passes hst h hx)⟩,
    fun p hst hp => congrArg (finish s) (holdTimeout_held hst hp)⟩

end Sys2Proof.Machine
end

section
/-!
SUPPORT. The end of an image load: each answer that ends it (R55 to R57).
-/
namespace Sys2Proof.Machine
open Sys2Proof

section
variable {s : State} {j : LoadJob} (b : List Byte) (hload : s.epc.load = some j)
include hload

theorem loadDone_abandoned (hlive : j.live = false) : loadDone s b = loadEnd s epcNotStaging 0 := by
  simp [loadDone, hload, hlive]

section
variable (hlive : j.live = true) (hst : epcState s = epcStaging) (hseed : getB s F.EPC_STATUS_seeding = false)
include hlive hst hseed

theorem loadDone_refused {x : Nat × Nat} {t : State} (h : loadImage s j.p0 b j.len = (some x, t)) :
    loadDone s b = loadEnd s x.1 x.2 := by
  simp [loadDone, hload, hlive, hst, hseed, h]

theorem loadDone_passed {t : State} (h : loadImage s j.p0 b j.len = (none, t)) : loadDone s b = loadEnd t epcOk 0 := by
  simp [loadDone, hload, hlive, hst, hseed, h]

end

end

/-- Settles O25: the two ends of a load, the live one by the outcome of the image's checks. -/
theorem imageLoadEnd : Obligations.ImageLoadEnd := by
  intro s b j hload hseed ended fails
  refine ⟨fun hlive hst => ?_, fun hlive => congrArg (finish s) (loadDone_abandoned b hload hlive)⟩
  rcases h : loadImage s j.p0 b j.len with ⟨_ | x, t⟩
  · exact congrArg (finish s) (loadDone_passed b hload hlive hst hseed h)
  · exact congrArg (finish s) (loadDone_refused b hload hlive hst hseed h)

end Sys2Proof.Machine
end

section
/-!
SUPPORT. Fields of a bank (R58): the fields of a register word do not overlap, and what a move of chosen fields from one bank into another
leaves in every field (R67).
-/
namespace Sys2Proof.Machine
open Sys2Proof

/-! ### The fields of a register -/

/-- Two fields of a register are one, or share no bit. -/
def FieldsApart (r : RegRow) : Prop := ∀ f ∈ r.fields, ∀ g ∈ r.fields, f = g ∨ g.lo + g.w ≤ f.lo ∨ f.lo + f.w ≤ g.lo

theorem fieldsApart_regRows : ∀ r ∈ regRows, FieldsApart r := by
  unfold FieldsApart
  decide +kernel

theorem mem_regRows_of_regRowAt {a h : Nat} {r : RegRow} (hrow : regRowAt a = some (r, h)) : r ∈ regRows := by
  obtain ⟨x, hx, hpart⟩ := List.exists_of_findSome?_eq_some hrow
  obtain ⟨_, _, hr⟩ := Option.map_eq_some_iff.1 hpart
  obtain rfl : x = r := congrArg Prod.fst hr
  exact hx

theorem wordFields_of_row {a : Nat} {r : RegRow} (hrow : regRowAt a = some (r, 0)) (sel : RegRow → FieldRow → Bool) :
    wordFields a sel = r.fields.filterMap (fun f =>
      if sel r f && decide (f.lo < min (f.lo + f.w) 32) then some (f.lo, min (f.lo + f.w) 32 - f.lo) else none) := by
  simp [wordFields, hrow]

theorem wordFields_fits {a : Nat} {sel : RegRow → FieldRow → Bool} {e : Nat × Nat} (he : e ∈ wordFields a sel) : e.1 + e.2 ≤ 32 := by
  unfold wordFields at he
  split at he
  · cases he
  · obtain ⟨f, -, hf⟩ := List.mem_filterMap.1 he
    dsimp only at hf
    split at hf
    · obtain rfl := Option.some.inj hf
      simp only [Bool.and_eq_true, decide_eq_true_eq] at *
      omega
    · cases hf

/-! ### Words taken by their fields -/

theorem setBits_bits (v lo w : Nat) : setBits v lo w (bits v lo w) = v := by
  have hinner : bits v lo w % 2 ^ w + 2 ^ w * (v / 2 ^ (lo + w)) = v / 2 ^ lo := by
    rw [bits, Nat.mod_mod, Nat.pow_add, ← Nat.div_div_eq_div_mul, Nat.mod_add_div]
  rw [← Nat.mod_add_div (setBits v lo w (bits v lo w)) (2 ^ lo), setBits_mod, setBits_div_lo, hinner, Nat.mod_add_div]

theorem mergeWord_self (fs : List (Nat × Nat)) (w : Word) : mergeWord fs w w = w := by
  unfold mergeWord
  refine List.foldlRecOn (motive := fun x => x = w) _ _ rfl fun x hx e _ => ?_
  rw [hx, setBits_bits, BitVec.ofNat_toNat, BitVec.setWidth_eq]

theorem toNat_mergeStep {e : Nat × Nat} (old : Word) (x : Nat) (he : e.1 + e.2 ≤ 32) :
    (BitVec.ofNat 32 (setBits old.toNat e.1 e.2 x)).toNat = setBits old.toNat e.1 e.2 x := by
  rw [BitVec.toNat_ofNat, Nat.mod_eq_of_lt (setBits_lt x old.isLt he)]

/-- Bits apart from every field that is taken stay as they were. -/
theorem bits_mergeWord_apart {fs : List (Nat × Nat)} (old new : Word) {lo w : Nat}
    (h : ∀ e ∈ fs, e.1 + e.2 ≤ 32 ∧ (lo + w ≤ e.1 ∨ e.1 + e.2 ≤ lo)) :
    bits (mergeWord fs old new).toNat lo w = bits old.toNat lo w := by
  unfold mergeWord
  refine List.foldlRecOn (motive := fun x : Word => bits x.toNat lo w = bits old.toNat lo w) _ _ rfl fun x hx e he => ?_
  rw [toNat_mergeStep x _ (h e he).1, bits_setBits_disjoint _ _ (h e he).2, hx]

/-- A field that is taken, beside fields that it does not overlap, has the other word's bits. -/
theorem bits_mergeWord_taken {fs : List (Nat × Nat)} (old new : Word) {lo w : Nat} (hmem : (lo, w) ∈ fs)
    (h : ∀ e ∈ fs, e.1 + e.2 ≤ 32 ∧ (e = (lo, w) ∨ lo + w ≤ e.1 ∨ e.1 + e.2 ≤ lo)) :
    bits (mergeWord fs old new).toNat lo w = bits new.toNat lo w := by
  induction fs generalizing old with
  | nil => cases hmem
  | cons e fs ih =>
    have hfs := fun d hd => h d (List.mem_cons_of_mem e hd)
    change bits (mergeWord fs _ new).toNat lo w = _
    by_cases hin : (lo, w) ∈ fs
    · exact ih _ hin hfs
    · obtain rfl : (lo, w) = e := (List.mem_cons.1 hmem).resolve_right hin
      rw [bits_mergeWord_apart _ _ fun d hd => ⟨(hfs d hd).1, (hfs d hd).2.resolve_left fun hd' => hin (hd' ▸ hd)⟩,
        toNat_mergeStep old _ (h _ hmem).1, bits_setBits_same, bits, Nat.mod_mod]

/-! ### Banks taken by their fields -/

theorem cfgWord_cfgPutWord_same (c : Cfg) (a : Nat) (v : Word) : cfgWord (cfgPutWord c a v) a = v := by
  unfold cfgWord cfgPutWord
  split
  · next h => simp [h]
  · simp

theorem cfgWord_cfgPutWord_ne (c : Cfg) {a b : Nat} (v : Word) (h : b ≠ a) : cfgWord (cfgPutWord c a v) b = cfgWord c b := by
  unfold cfgWord cfgPutWord
  split
  · simp [Tab.find_del_ne _ _ _ h]
  · simp [Tab.find_set_ne _ _ _ _ h]

theorem cfgWord_of_not_listed {c : Cfg} {a : Nat} (h : a ∉ c.regs.map (fun e => e.1)) : cfgWord c a = resetWord a := by
  have hnone : Tab.find c.regs a = none := by
    generalize c.regs = t at h
    induction t with
    | nil => rfl
    | cons e t ih =>
      simp only [List.map_cons, List.mem_cons, not_or] at h
      simp [Tab.find, Ne.symm h.1, ih h.2]
  simp [cfgWord, hnone]

/-- The word at `a` once a list of words has been taken: merged if it is listed, else as it was. -/
theorem cfgWord_takenWords (dst src c : Cfg) (sel : Nat → RegRow → FieldRow → Bool) (l : List Nat) (a : Nat) :
    cfgWord (l.foldl (fun c a =>
      let fs := wordFields a (sel a)
      if fs.isEmpty then c else cfgPutWord c a (mergeWord fs (cfgWord dst a) (cfgWord src a))) c) a =
      if a ∈ l ∧ wordFields a (sel a) ≠ [] then mergeWord (wordFields a (sel a)) (cfgWord dst a) (cfgWord src a) else cfgWord c a := by
  induction l generalizing c with
  | nil => simp
  | cons b l ih =>
    rw [List.foldl_cons, ih]
    by_cases hl : a ∈ l ∧ wordFields a (sel a) ≠ []
    · simp [hl]
    · rw [if_neg hl]
      by_cases hb : a = b
      · subst hb
        by_cases hfs : wordFields a (sel a) = []
        · simp [hfs]
        · simp [hfs, cfgWord_cfgPutWord_same]
      · have hbl : ¬ (a ∈ b :: l ∧ wordFields a (sel a) ≠ []) := by simpa [hb] using hl
        rw [if_neg hbl]
        dsimp only
        split
        · rfl
        · exact cfgWord_cfgPutWord_ne _ _ hb

/-- Every word of a bank that takes chosen fields is merged by those of its fields that are chosen. -/
theorem cfgWord_takeRegs (dst src : Cfg) (sel : Nat → RegRow → FieldRow → Bool) (a : Nat) :
    cfgWord (takeRegs dst src sel) a = mergeWord (wordFields a (sel a)) (cfgWord dst a) (cfgWord src a) := by
  rw [takeRegs, cfgWord_takenWords]
  split
  · rfl
  · next h =>
    rcases not_and_or.1 h with h | h
    · rw [List.mem_append, not_or] at h
      rw [cfgWord_of_not_listed h.1, cfgWord_of_not_listed h.2, mergeWord_self]
    · rw [not_not.1 h]
      rfl

theorem cfgGet_of_le (c : Cfg) {f : Fld} (h : f.lo + f.w ≤ 32) : cfgGet c f = bits (cfgWord c f.addr).toNat f.lo f.w := if_pos h

/-- A bank that takes chosen fields has each field of one word from the bank that the choice names. -/
theorem cfgGet_takeRegs (dst src : Cfg) (sel : Nat → RegRow → FieldRow → Bool) {a : Nat} {r : RegRow} {f : FieldRow}
    (hrow : regRowAt a = some (r, 0)) (hf : f ∈ r.fields) (hfit : f.lo + f.w ≤ 32) :
    cfgGet (takeRegs dst src sel) ⟨a, f.lo, f.w⟩ = cfgGet (if sel a r f then src else dst) ⟨a, f.lo, f.w⟩ := by
  have hapart : ∀ g ∈ r.fields, f = g ∨ g.lo + g.w ≤ f.lo ∨ f.lo + f.w ≤ g.lo :=
    fieldsApart_regRows r (mem_regRows_of_regRowAt hrow) f hf
  have hchosen : ∀ e ∈ wordFields a (sel a), e.1 + e.2 ≤ 32 ∧
      ∃ g ∈ r.fields, sel a r g = true ∧ e.1 = g.lo ∧ e.1 + e.2 = min (g.lo + g.w) 32 := by
    intro e he
    refine ⟨wordFields_fits he, ?_⟩
    rw [wordFields_of_row hrow] at he
    obtain ⟨g, hg, hge⟩ := List.mem_filterMap.1 he
    split at hge
    · next hsel =>
      obtain rfl := Option.some.inj hge
      simp only [Bool.and_eq_true, decide_eq_true_eq] at hsel
      exact ⟨g, hg, hsel.1, rfl, by dsimp only; omega⟩
    · cases hge
  rw [cfgGet_of_le _ hfit, cfgGet_of_le _ hfit, cfgWord_takeRegs]
  by_cases hsel : sel a r f = true
  · rw [if_pos hsel]
    by_cases hw : f.w = 0
    · simp [bits, hw, Nat.mod_one]
    · refine bits_mergeWord_taken _ _ ?_ fun e he => ?_
      · rw [wordFields_of_row hrow]
        refine List.mem_filterMap.2 ⟨f, hf, ?_⟩
        rw [if_pos (by simp [hsel]; omega), Nat.min_eq_left hfit, Nat.add_sub_cancel_left]
      · obtain ⟨hfits, g, hg, -, hlo, hhi⟩ := hchosen e he
        refine ⟨hfits, ?_⟩
        rcases hapart g hg with rfl | h | h
        · exact .inl (Prod.ext hlo (by dsimp only; omega))
        · exact .inr (.inr (by dsimp only; omega))
        · exact .inr (.inl (by dsimp only; omega))
  · rw [if_neg hsel]
    refine bits_mergeWord_apart _ _ fun e he => ?_
    obtain ⟨hfits, g, hg, hgsel, hlo, hhi⟩ := hchosen e he
    refine ⟨hfits, ?_⟩
    rcases hapart g hg with rfl | h | h
    · exact absurd hgsel hsel
    · exact .inr (by dsimp only; omega)
    · exact .inl (by dsimp only; omega)

theorem get_lt (s : State) (f : Fld) : get s f < 2 ^ f.w := by
  unfold get bits
  split <;> exact Nat.mod_lt _ (Nat.two_pow_pos _)

/-! ### The commit instant and the switch of a path (R67) -/

/-- The commit instant, with the commit's own registers brought up to date before the banks switch. -/
theorem commitInstant_eq (s : State) :
    let u := scopeEmpties s
    let v := put (inc (putB u F.EPC_STATUS_active_bank (!activeBank u)) F.EPC_COMMIT_COUNT_count) F.EPC_GEN_ACTIVE_gen
      (get u F.EPC_GEN_STAGED_gen)
    let fn := if get v F.LTU_STATUS_lead = 0 then 0 else modFn v
    commitInstant s = releaseAtInstant (put (switchBanks
      (modEpc (put v F.EPC_COMMIT_FN_fn fn) (fun e => { e with unready := e.quiesced, atTick := v.clk.ticks, nowCommit := false }))
      (get u F.EPC_LOADED_sections) fn) F.EPC_STATUS_state 3) := by
  intro u v fn
  have hgen : get (putB u F.EPC_STATUS_active_bank (!activeBank u)) F.EPC_GEN_STAGED_gen = get u F.EPC_GEN_STAGED_gen :=
    get_put_apart u _ (by decide)
  have hfn : (if ltValid v then modFn v else 0) = fn := by simp [fn, ltValid]
  have hticks : ticks (put v F.EPC_COMMIT_FN_fn fn) = v.clk.ticks := congrArg Clock.ticks (put_clk ..)
  rw [commitInstant]
  dsimp only
  rw [hgen, hfn, hticks]
  rfl

/-- Settles O28: the registers of the instant, then what the two moves of fields between the banks leave in each field. -/
theorem bankSwitch : Obligations.BankSwitch := by
  refine ⟨fun s => ?_, fun s m fn => rfl, fun s m fn => rfl, fun s q => ?_,
    fun m q shared dst src a r f hrow hf hfit => ⟨cfgGet_takeRegs dst src _ hrow hf hfit, cfgGet_takeRegs dst src _ hrow hf hfit⟩,
    fun s f => rfl⟩
  · intro u v fn
    refine ⟨?_, ?_, ?_, commitInstant_eq s⟩
    · simp (disch := decide) only [v, activeBank, inc, addTo, getB_put_apart, getB_putB_same]
    · exact (get_put_same _ _ (by decide)).trans (Nat.mod_eq_of_lt (get_lt u F.EPC_GEN_STAGED_gen))
    · rw [get_put_apart _ _ (by decide), inc, addTo, get_put_same _ _ (by decide), putB, get_put_apart _ _ (by decide)]
  · cases q <;> rfl

end Sys2Proof.Machine
end

section
/-!
SUPPORT. Changes that stay inside the register file, and those of them that the alarms of a commit make: which words an arm or a disarm
writes (R42, R66).
-/
namespace Sys2Proof.Machine
open Sys2Proof

/-- `t` differs from `s` in its register file alone. -/
def RegsOnly (s t : State) : Prop := t = { s with regs := t.regs }

protected theorem RegsOnly.refl (s : State) : RegsOnly s s := rfl

protected theorem RegsOnly.trans {s t u : State} (h : RegsOnly s t) (h' : RegsOnly t u) : RegsOnly s u := by
  rw [RegsOnly] at h h' ⊢
  rw [h', h]

theorem regsOnly_put (s : State) (f : Fld) (v : Nat) : RegsOnly s (put s f v) := by
  unfold put
  split <;> rfl

protected theorem RegsOnly.put {s t : State} (h : RegsOnly s t) (f : Fld) (v : Nat) : RegsOnly s (put t f v) := h.trans (regsOnly_put t f v)

protected theorem RegsOnly.foldl {α : Type} {g : State → α → State} (hg : ∀ s x, RegsOnly s (g s x)) (l : List α) (s : State) :
    RegsOnly s (l.foldl g s) :=
  List.foldlRecOn (motive := RegsOnly s) l g (.refl s) fun t ht x _ => ht.trans (hg t x)

section
variable {s t : State} (h : RegsOnly s t)
include h

theorem RegsOnly.epc_eq : t.epc = s.epc := (congrArg State.epc h :)
theorem RegsOnly.bank_eq : t.bank = s.bank := (congrArg State.bank h :)
theorem RegsOnly.other_eq : t.other = s.other := (congrArg State.other h :)

end

/-! ### The words of an alarm -/

theorem regsOnly_disarm (s : State) (k c : Nat) : RegsOnly s (disarm s k c) := by
  unfold disarm
  split
  · exact (regsOnly_put ..).put _ _
  · exact .refl s

/-- A put of a field of the status word of alarm `k` keeps every other word. -/
theorem rdWord_putStatus {k a : Nat} (h : a ≠ R.LTU_ALM_STATUS k) (s : State) (lo w v : Nat) (hw : lo + w ≤ 32) :
    rdWord (put s ⟨R.LTU_ALM_STATUS k, lo, w⟩ v) a = rdWord s a :=
  rdWord_put_ne_one s _ v a hw h

theorem rdWord_disarm (s : State) (k c : Nat) {a : Nat} (h : a ≠ R.LTU_ALM_STATUS k) : rdWord (disarm s k c) a = rdWord s a := by
  unfold disarm
  split
  · exact (rdWord_putStatus h _ 4 3 c (by decide)).trans (rdWord_putStatus h s 0 2 0 (by decide))
  · rfl

theorem alarmArmed_disarm_same (s : State) (k c : Nat) : alarmArmed (disarm s k c) k = false := by
  unfold disarm
  split
  · refine alarmArmed_of_state_zero ?_
    rw [alarmResult, alarmState_putResult, alarmState_putState _ _ (by decide)]
  · next h => exact Bool.eq_false_iff.2 h

theorem alarmState_congr {s t : State} {k : Nat} (h : rdWord t (R.LTU_ALM_STATUS k) = rdWord s (R.LTU_ALM_STATUS k)) :
    alarmState t k = alarmState s k :=
  get_eq_of_words fun a ha => by
    obtain rfl : a = R.LTU_ALM_STATUS k := List.mem_singleton.1 ha
    exact h

theorem alarmArmed_congr {s t : State} {k : Nat} (h : rdWord t (R.LTU_ALM_STATUS k) = rdWord s (R.LTU_ALM_STATUS k)) :
    alarmArmed t k = alarmArmed s k := by
  simp only [alarmArmed, alarmState_congr h]

theorem alarmArmed_disarm_ne (s : State) {j k : Nat} (c : Nat) (h : k ≠ j) : alarmArmed (disarm s j c) k = alarmArmed s k :=
  alarmArmed_congr (rdWord_disarm s j c (by simp only [R.LTU_ALM_STATUS]; omega))

/-- A list of alarms that are disarmed leaves none of them armed. -/
theorem alarmArmed_disarmed {l : List Nat} (s : State) (c : Nat) {k : Nat} (hk : k ∈ l) :
    alarmArmed (l.foldl (fun s k => disarm s k c) s) k = false := by
  have hkeep : ∀ (l : List Nat) s, alarmArmed s k = false → alarmArmed (l.foldl (fun s k => disarm s k c) s) k = false :=
    fun l s h => List.foldlRecOn (motive := fun t => alarmArmed t k = false) l _ h fun t ht j _ => by
      by_cases hj : k = j
      · exact hj ▸ alarmArmed_disarm_same t k c
      · exact (alarmArmed_disarm_ne t c hj).trans ht
  induction l generalizing s with
  | nil => cases hk
  | cons j l ih =>
    rcases List.mem_cons.1 hk with rfl | hk
    · exact hkeep l _ (alarmArmed_disarm_same s k c)
    · exact ih _ hk

theorem rdWord_disarmed {l : List Nat} (s : State) (c : Nat) {a : Nat} (h : ∀ k ∈ l, a ≠ R.LTU_ALM_STATUS k) :
    rdWord (l.foldl (fun s k => disarm s k c) s) a = rdWord s a :=
  List.foldlRecOn (motive := fun t => rdWord t a = rdWord s a) l _ rfl fun t ht k hk => (rdWord_disarm t k c (h k hk)).trans ht

section
variable {k a : Nat} (h : a ≠ R.LTU_ALM_STATUS k)
include h

theorem rdWord_alarmRefused (s : State) (c : Nat) : rdWord (alarmRefused s k c) a = rdWord s a := by
  have hres : ∀ t, rdWord (alarmResult t k c) a = rdWord t a := fun t => rdWord_putStatus h t 4 3 c (by decide)
  unfold alarmRefused
  split
  · exact (hres _).trans (rdWord_putStatus h s 0 2 0 (by decide))
  · exact hres s

theorem rdWord_armNow (s : State) : rdWord (armNow s k) a = rdWord s a := by
  unfold armNow
  split
  · exact rdWord_alarmRefused h s _
  · split
    · exact rdWord_alarmRefused h s _
    · split
      · exact rdWord_alarmRefused h s _
      · exact (rdWord_putStatus h _ 4 3 _ (by decide)).trans
          ((rdWord_putStatus h _ 8 1 _ (by decide)).trans (rdWord_putStatus h s 0 2 1 (by decide)))

end

/-- An arm of alarm `k` writes the four words of that alarm alone. -/
theorem rdWord_armAt (s : State) (k fn cw period : Nat) {a : Nat} (h : a < 0x11000 + 16 * k ∨ 0x11010 + 16 * k ≤ a) :
    rdWord (armAt s k fn cw period) a = rdWord s a := by
  have hstatus : a ≠ R.LTU_ALM_STATUS k := by simp only [R.LTU_ALM_STATUS]; omega
  have hctrl : ∀ t lo w v, lo + w ≤ 32 → rdWord (put t ⟨R.LTU_ALM_CTRL k, lo, w⟩ v) a = rdWord t a :=
    fun t _ _ v hw => rdWord_put_ne_one t _ v a hw (by simp only [R.LTU_ALM_CTRL]; omega)
  have hfn : rdWord (put s (F.LTU_ALM_FN_fn k) fn) a = rdWord s a :=
    rdWord_put_ne s _ fn a (by simp only [F.LTU_ALM_FN_fn, R.LTU_ALM_FN]; omega) (by simp only [F.LTU_ALM_FN_fn, R.LTU_ALM_FN]; omega)
  rw [armAt]
  exact (rdWord_armNow hstatus _).trans ((hctrl _ 16 16 period (by decide)).trans ((hctrl _ 0 13 cw (by decide)).trans hfn))

end Sys2Proof.Machine
end

section
/-!
SUPPORT. What moving line lanes and putting back a path's line values leave: the commit machinery, the staged bank, and the words of the
control region's first blocks (R76, R99 to R101).
-/
namespace Sys2Proof.Machine
open Sys2Proof

/-- From `s` to `t` the commit machinery, the staged bank and every word of GLB, LTU and EPC stay (R28). -/
structure CommitKept (s t : State) : Prop where
  epc : t.epc = s.epc
  other : t.other = s.other
  word : ∀ a < 0x30000, rdWord t a = rdWord s a

protected theorem CommitKept.refl (s : State) : CommitKept s s := ⟨rfl, rfl, fun _ _ => rfl⟩

protected theorem CommitKept.trans {s t u : State} (h : CommitKept s t) (h' : CommitKept t u) : CommitKept s u :=
  ⟨h'.epc.trans h.epc, h'.other.trans h.other, fun a ha => (h'.word a ha).trans (h.word a ha)⟩

protected theorem CommitKept.foldl {α : Type} {g : State → α → State} (hg : ∀ s x, CommitKept s (g s x)) (l : List α) (s : State) :
    CommitKept s (l.foldl g s) :=
  List.foldlRecOn (motive := CommitKept s) l g (.refl s) fun t ht x _ => ht.trans (hg t x)

/-- A put beyond the first three blocks. -/
theorem commitKept_put (s : State) {f : Fld} (v : Nat) (hf : 0x30000 ≤ f.addr) : CommitKept s (put s f v) :=
  ⟨put_epc .., put_other .., fun _ ha => rdWord_put_ne s f v _ (by omega) (by omega)⟩

protected theorem CommitKept.put {s t : State} (h : CommitKept s t) {f : Fld} (v : Nat) (hf : 0x30000 ≤ f.addr) :
    CommitKept s (put t f v) :=
  h.trans (commitKept_put t v hf)

theorem commitKept_raiseGrey (s : State) {f : Fld} (hw : f.lo + f.w ≤ 32) (hf : 0x30000 ≤ f.addr) : CommitKept s (raiseGrey s f) := by
  have h := unrecorded_raise s f .grey 0
  exact ⟨(congrArg State.epc h :), (congrArg State.other h :), fun a ha => rdWord_raise (.inl (by omega)) s _ _ hw (by omega)⟩

/-! ### Lanes -/

theorem le_lanePwr (p : Nat) : 0x30000 ≤ R.LNK_LANE_PWR p := by simp only [R.LNK_LANE_PWR]; omega

theorem le_opeStatus (e : Nat) : 0x30000 ≤ R.OPE_STATUS e := by simp only [R.OPE_STATUS]; omega

theorem commitKept_tokenRequest_engine (s : State) (e : Fin 8) : CommitKept s (tokenRequest s (.engine e)) := by
  have hjoin : CommitKept s (tokenJoin s (.engine e)) := ⟨rfl, rfl, fun _ _ => rfl⟩
  unfold tokenRequest
  split
  · exact .refl s
  · exact (hjoin.put (f := F.PWR_TOKEN_waiting) _ (by decide)).put (f := F.OPE_STATUS_token_wait e) _ (le_opeStatus e)

theorem commitKept_engineRequest (s : State) (e : Nat) : CommitKept s (engineRequest s e) := by
  unfold engineRequest
  split
  · exact commitKept_tokenRequest_engine s _
  · exact .refl s

theorem commitKept_laneStep (s : State) (p v : Nat) : CommitKept s (laneStep s p v) := by
  have hmod : CommitKept s (modLane s p (fun l => { l with step := some v })) := ⟨rfl, rfl, fun _ _ => rfl⟩
  exact (hmod.put _ (le_lanePwr p)).put _ (le_lanePwr p)

/-- A lane that is refused shows why, with the event of the first refusal. -/
theorem commitKept_refusal (s : State) (p why old : Nat) :
    CommitKept s (if old = 0 then raiseGrey (put (putB s (F.LNK_LANE_PWR_busy p) false) (F.LNK_LANE_PWR_refuse p) why)
      (F.LNK_LANE_EVENT_refuse p) else put (putB s (F.LNK_LANE_PWR_busy p) false) (F.LNK_LANE_PWR_refuse p) why) := by
  have hshown := (commitKept_put s (f := F.LNK_LANE_PWR_busy p) (b2n false) (le_lanePwr p)).put
    (f := F.LNK_LANE_PWR_refuse p) why (le_lanePwr p)
  have hevent : 0x30000 ≤ R.LNK_LANE_EVENT p := by simp only [R.LNK_LANE_EVENT]; omega
  split
  · exact hshown.trans (commitKept_raiseGrey _ (show 6 + 1 ≤ 32 by decide) hevent)
  · exact hshown

theorem commitKept_laneAdvance (s : State) (p : Nat) : CommitKept s (laneAdvance s p) := by
  unfold laneAdvance
  dsimp only
  split
  · exact .refl s
  · split
    · exact (commitKept_put s _ (le_lanePwr p)).put _ (le_lanePwr p)
    · split
      · generalize (if (laneSt s p).forceOff || (laneSt s p).fltHeld then 0 else refuseReason s p) = why
        split
        · exact commitKept_laneStep ..
        · exact commitKept_refusal ..
      · split
        · exact commitKept_laneStep ..
        · split
          · split
            · exact ((commitKept_engineRequest s _).put _ (le_lanePwr p)).put _ (le_lanePwr p)
            · exact .refl s
          · exact commitKept_laneStep ..

theorem commitKept_laneRetarget (s : State) (p v : Nat) : CommitKept s (laneRetarget s p v) :=
  (commitKept_put s v (le_lanePwr p)).trans (commitKept_laneAdvance _ p)

/-! ### Line values put back (R76) -/

/-- The line blocks lie beyond every word of the first blocks (R28). -/
theorem isLineReg_of_lt {a : Nat} (h : a < 0x30000) : isLineReg a = false := by
  have hspans : ∀ p ∈ spans, p.region = 4 → 0x100000 ≤ p.base := by decide
  have hregion : regionAt a = none := if_neg (by omega)
  unfold isLineReg spanAt
  rw [hregion]
  cases hp : spans.find? (fun p => decide (p.base ≤ a) && decide (a < p.base + p.size)) with
  | none => rfl
  | some p =>
    have hbase := List.find?_some hp
    simp only [Bool.and_eq_true, decide_eq_true_eq] at hbase
    refine decide_eq_false fun h4 => ?_
    have := hspans p (List.mem_of_find?_eq_some hp) h4
    omega

theorem wordFields_of_none {a : Nat} {sel : RegRow → FieldRow → Bool} (h : ∀ r f, sel r f = false) : wordFields a sel = [] := by
  unfold wordFields
  split
  · rfl
  · simp [h]

/-- A path's line values leave the words of the first three blocks. -/
theorem commitKept_takeLine (s : State) (m : Nat) (q : Path) (shared : Bool) (src : Cfg) :
    CommitKept s (setActive s (takeLine m q shared (activeCfg s) src)) := by
  refine ⟨rfl, rfl, fun a ha => ?_⟩
  change cfgWord (takeLine m q shared (activeCfg s) src) a = cfgWord (activeCfg s) a
  refine (cfgWord_takeRegs (activeCfg s) src _ a).trans ?_
  rw [wordFields_of_none fun r f => by simp [isLineReg_of_lt ha]]
  rfl

/-- Path `q` takes the active bank's line values again, unless it had not switched yet. -/
def lineBack (m : Nat) (s : State) (q : Path) (due : Bool) : State :=
  if due then s
  else
    let s := setActive s (takeLine m q true (activeCfg s) s.lineOld)
    if inSecs m 2 then (lanesOf q).foldl (fun s p => laneRetarget s p (Tab.getD s.bank.lineInit p 4)) s else s

theorem commitKept_lineBack (m : Nat) (s : State) (q : Path) (due : Bool) : CommitKept s (lineBack m s q due) := by
  unfold lineBack
  split
  · exact .refl s
  · have htake := commitKept_takeLine s m q true s.lineOld
    dsimp only
    split
    · exact htake.trans (.foldl (fun t p => commitKept_laneRetarget t p _) _ _)
    · exact htake

theorem unarm_of_not_early {s : State} (h : s.epc.early = false) : unarm s = setQuiesced s s.epc.unready := by
  have hearly : (setQuiesced s s.epc.unready).epc.early = false := (congrArg Epc.early (putB_epc ..)).trans h
  simp [unarm, hearly]

/-- A commit that a path had switched for ahead of the instant owes the line blocks nothing once it is given up. -/
theorem unarm_of_early {s : State} (h : s.epc.early = true) : ∃ u, CommitKept (setQuiesced s s.epc.unready) u ∧
    unarm s = { u with epc := { u.epc with early := false, lineDueA := false, lineDueB := false, owedA := 0, owedB := 0 } } := by
  have hearly : (setQuiesced s s.epc.unready).epc.early = true := (congrArg Epc.early (putB_epc ..)).trans h
  generalize hq : setQuiesced s s.epc.unready = t at hearly
  let m := t.epc.owedA ||| t.epc.owedB
  let w := lineBack m t .a t.epc.lineDueA
  refine ⟨lineBack m w .b t.epc.lineDueB, (commitKept_lineBack ..).trans (commitKept_lineBack ..), ?_⟩
  unfold unarm
  rw [hq]
  exact if_pos hearly

theorem setQuiesced_epc (s : State) (x : Scope) :
    (setQuiesced s x).epc = { s.epc with quiesced := x, unready := s.epc.unready.meet x } := putB_epc ..

theorem Scope.meet_self (x : Scope) : x.meet x = x := by simp [Scope.meet]

theorem setQuiesced_unready_epc (s : State) : (setQuiesced s s.epc.unready).epc = { s.epc with quiesced := s.epc.unready } := by
  rw [setQuiesced_epc, Scope.meet_self]

theorem rdWord_setQuiesced (s : State) (x : Scope) {a : Nat} (h : a ≠ R.EPC_STATUS) : rdWord (setQuiesced s x) a = rdWord s a :=
  rdWord_put_ne_one _ _ _ a (by decide) h

theorem rdWord_unarm (s : State) {a : Nat} (ha : a < 0x30000) (hne : a ≠ R.EPC_STATUS) : rdWord (unarm s) a = rdWord s a := by
  rw [← rdWord_setQuiesced s s.epc.unready hne]
  cases h : s.epc.early with
  | false => rw [unarm_of_not_early h]
  | true =>
    obtain ⟨u, hu, he⟩ := unarm_of_early h
    rw [he]
    exact hu.word a ha

theorem unarm_other (s : State) : (unarm s).other = s.other := by
  have hq : (setQuiesced s s.epc.unready).other = s.other := putB_other ..
  cases h : s.epc.early with
  | false => rw [unarm_of_not_early h, hq]
  | true =>
    obtain ⟨u, hu, he⟩ := unarm_of_early h
    rw [he, ← hq]
    exact hu.other

theorem unarm_epc_of_not_early {s : State} (h : s.epc.early = false) : (unarm s).epc = { s.epc with quiesced := s.epc.unready } := by
  rw [unarm_of_not_early h, setQuiesced_unready_epc]

theorem unarm_epc_of_early {s : State} (h : s.epc.early = true) : (unarm s).epc = { s.epc with
    quiesced := s.epc.unready, early := false, lineDueA := false, lineDueB := false, owedA := 0, owedB := 0 } := by
  obtain ⟨u, hu, he⟩ := unarm_of_early h
  rw [he, hu.epc, setQuiesced_unready_epc]

theorem unarm_bank_of_not_early {s : State} (h : s.epc.early = false) : (unarm s).bank = s.bank := by
  rw [unarm_of_not_early h]
  exact putB_bank ..

end Sys2Proof.Machine
end

section
/-!
SUPPORT. The registers of the commit controller, and a cancel in each state of a commit (R65, R76, R85).
-/
namespace Sys2Proof.Machine
open Sys2Proof

/-! ### State and result -/

theorem get_epcResult_apart {f : Fld} (s : State) (c d : Nat) (h : R.EPC_RESULT ∉ fldWords f) : get (epcResult s c d) f = get s f :=
  have hword : ∀ a ∈ fldWords f, a ∉ [R.EPC_RESULT] := fun _ ha h' => h (List.mem_singleton.1 h' ▸ ha)
  (get_put_apart _ d hword).trans (get_put_apart s c hword)

theorem epcState_epcResult (s : State) (c d : Nat) : epcState (epcResult s c d) = epcState s := get_epcResult_apart s c d (by decide)

theorem get_epcResult_code (s : State) {c : Nat} (d : Nat) (hc : c < 32) : get (epcResult s c d) F.EPC_RESULT_code = c := by
  rw [epcResult, get_put_disjoint _ _ (by decide) (by decide) (by decide), get_put_same _ _ (by decide)]
  exact Nat.mod_eq_of_lt hc

theorem epcState_setEpc (s : State) {v : Nat} (hv : v < 8) : epcState (setEpc s v) = v :=
  (get_put_same s v (by decide)).trans (Nat.mod_eq_of_lt hv)

theorem rdWord_epcResult (s : State) (c d : Nat) {a : Nat} (h : a ≠ R.EPC_RESULT) : rdWord (epcResult s c d) a = rdWord s a :=
  (rdWord_put_ne_one _ _ d a (by decide) h).trans (rdWord_put_ne_one s _ c a (by decide) h)

theorem rdWord_setEpc (s : State) (v : Nat) {a : Nat} (h : a ≠ R.EPC_STATUS) : rdWord (setEpc s v) a = rdWord s a :=
  rdWord_put_ne_one s _ v a (by decide) h

theorem regsOnly_epcResult (s : State) (c d : Nat) : RegsOnly s (epcResult s c d) := (regsOnly_put ..).put _ _

theorem rdWord_settled (s t : State) {a : Nat} (h : a ∉ settledWords) : rdWord (settled s t) a = rdWord t a := rdWord_settle h _

theorem alarmArmed_settled (s t : State) {k : Nat} (hk : k < 256) : alarmArmed (settled s t) k = alarmArmed t k :=
  have hwords : ∀ w ∈ settledWords, w < 0x1100c ∨ 0x1100c + 16 * 256 ≤ w := by decide
  alarmArmed_congr (rdWord_settled s t fun h => by
    have := hwords _ h
    simp only [R.LTU_ALM_STATUS] at this
    omega)

theorem settled_bank (s t : State) : (settled s t).bank = t.bank := settle_bank _

theorem settled_other (s t : State) : (settled s t).other = t.other := settle_other _

theorem settled_epc (s t : State) : (settled s t).epc = t.epc := settle_epc _

/-! ### A cancel (R65) -/

/-- The state in which the alarms of a commit are disarmed. -/
def commitDisarmed (s : State) : State := [128, 129, 130, 131].foldl (fun s k => disarm s k almOk) s

theorem regsOnly_commitDisarmed (s : State) : RegsOnly s (commitDisarmed s) := .foldl (fun t k => regsOnly_disarm t k almOk) _ s

theorem alarmArmed_commitDisarmed (s : State) {k : Nat} (hlo : 128 ≤ k) (hhi : k ≤ 131) : alarmArmed (commitDisarmed s) k = false :=
  alarmArmed_disarmed s almOk (by simp; omega)

/-- The state in which an armed commit is taken back (R65). -/
def commitCancelled (s : State) : State := epcResult (setEpc (unarm (commitDisarmed s)) epcStaging) epcOk 0

theorem rdWord_commitCancelled (s : State) {a : Nat} (ha : a < 0x30000) (hstatus : a ≠ R.EPC_STATUS) (hresult : a ≠ R.EPC_RESULT) :
    rdWord (commitCancelled s) a = rdWord (commitDisarmed s) a := by
  rw [commitCancelled, rdWord_epcResult _ _ _ hresult, rdWord_setEpc _ _ hstatus, rdWord_unarm _ ha hstatus]

theorem epcState_commitCancelled (s : State) : epcState (commitCancelled s) = epcStaging := by
  rw [commitCancelled, epcState_epcResult, epcState_setEpc _ (by decide)]

theorem alarmArmed_commitCancelled (s : State) {k : Nat} (hlo : 128 ≤ k) (hhi : k ≤ 131) : alarmArmed (commitCancelled s) k = false := by
  have hword : R.LTU_ALM_STATUS k = 0x1100c + 16 * k := rfl
  rw [alarmArmed_congr (rdWord_commitCancelled s (by omega) (by rw [hword, R.EPC_STATUS]; omega) (by rw [hword, R.EPC_RESULT]; omega)),
    alarmArmed_commitDisarmed s hlo hhi]

theorem commitCancelled_other (s : State) : (commitCancelled s).other = s.other := by
  rw [commitCancelled, (regsOnly_epcResult ..).other_eq, setEpc, put_other, unarm_other, (regsOnly_commitDisarmed s).other_eq]

theorem get_commitCancelled_loaded (s : State) : get (commitCancelled s) F.EPC_LOADED_sections = get s F.EPC_LOADED_sections := by
  refine get_eq_of_words fun a ha => ?_
  obtain rfl : a = R.EPC_LOADED := List.mem_singleton.1 ha
  rw [rdWord_commitCancelled s (by decide) (by decide) (by decide), commitDisarmed, rdWord_disarmed s almOk (by decide)]

theorem commitCancelled_epc (s : State) : (commitCancelled s).epc = (unarm (commitDisarmed s)).epc := by
  rw [commitCancelled, (regsOnly_epcResult ..).epc_eq, setEpc, put_epc]

theorem commitCancelled_epc_of_not_early {s : State} (h : s.epc.early = false) :
    (commitCancelled s).epc = { s.epc with quiesced := s.epc.unready } := by
  have hepc := (regsOnly_commitDisarmed s).epc_eq
  rw [commitCancelled_epc, unarm_epc_of_not_early (hepc ▸ h), hepc]

theorem commitCancelled_epc_of_early {s : State} (h : s.epc.early = true) : (commitCancelled s).epc = { s.epc with
    quiesced := s.epc.unready, early := false, lineDueA := false, lineDueB := false, owedA := 0, owedB := 0 } := by
  have hepc := (regsOnly_commitDisarmed s).epc_eq
  rw [commitCancelled_epc, unarm_epc_of_early (hepc ▸ h), hepc]

theorem commitCancelled_bank {s : State} (h : s.epc.early = false) : (commitCancelled s).bank = s.bank := by
  have hdisarmed := regsOnly_commitDisarmed s
  rw [commitCancelled, (regsOnly_epcResult ..).bank_eq, setEpc, put_bank, unarm_bank_of_not_early (hdisarmed.epc_eq ▸ h),
    hdisarmed.bank_eq]

theorem isStructural_iff (s : State) : isStructural s = true ↔ get s F.EPC_STRUCT_sections ≠ 0 := decide_eq_true_iff

section
variable {s : State}

theorem epcCancel_running (h : epcState s = epcCommitting ∨ epcState s = epcDraining) : epcCancel s = epcResult s epcLocked 0 := if_pos h

section
variable (hst : epcState s = epcArmed)
include hst

theorem not_running_of_armed : ¬ (epcState s = epcCommitting ∨ epcState s = epcDraining) := by
  rw [hst]
  decide

theorem epcCancel_begun (h : alarmState s 128 = 2 ∨ (get s F.EPC_STRUCT_sections ≠ 0 ∧ alarmState s 129 = 3)) :
    epcCancel s = epcResult s epcLocked 0 := by
  rw [epcCancel, if_neg (not_running_of_armed hst), if_neg (not_not.2 hst),
    if_pos (h.imp_right (And.imp_left (isStructural_iff s).2))]

theorem epcCancel_armed (hlock : alarmState s 128 ≠ 2) (hquiesce : ¬ (get s F.EPC_STRUCT_sections ≠ 0 ∧ alarmState s 129 = 3)) :
    epcCancel s = commitCancelled s := by
  rw [epcCancel, if_neg (not_running_of_armed hst), if_neg (not_not.2 hst),
    if_neg (not_or.2 ⟨hlock, fun h => hquiesce (h.imp_left (isStructural_iff s).1)⟩)]
  rfl

end

end

/-- Settles O23: a cancel in each state, and what the state that it leaves shows. -/
theorem commitCancel : Obligations.CommitCancel := by
  intro s r hr
  have answered : ∀ {t}, epcCancel s = t → Machine.exec (.epcCancel r) s = .next (settled s t) :=
    fun h => congrArg (finish s) ((onWrite_of_reaches _ hr).trans h)
  refine ⟨fun hst => answered (epcCancel_running hst), fun hst hlock hquiesce => ?_, fun hst h => answered (epcCancel_begun hst h)⟩
  refine ⟨_, answered (epcCancel_armed hst hlock hquiesce), ?_, ?_, fun k hlo hhi => ?_, ?_, ?_, fun hearly => ?_⟩
  · exact (get_settled s _ (by decide)).trans (epcState_commitCancelled s)
  · exact (get_settled s _ (by decide)).trans (get_epcResult_code _ 0 (by decide))
  · exact (alarmArmed_settled s _ (by omega)).trans (alarmArmed_commitCancelled s hlo hhi)
  · rw [settled_other, commitCancelled_other]
  · exact (get_settled s _ (by decide)).trans (get_commitCancelled_loaded s)
  · rw [settled_bank, commitCancelled_bank hearly]

end Sys2Proof.Machine
end

section
/-!
SUPPORT. The arm of a commit, its check and the immediate commit's, one equation per answer (R63, R64, R66, R77).
-/
namespace Sys2Proof.Machine
open Sys2Proof

section
variable {s : State} (hst : epcState s = epcStaging) (hcheck : s.epc.check = none)
include hst hcheck

theorem epcArm_outOfRange (hrange : armRange s = true) : epcArm s = armRefused s epcRange 0 := by
  simp [epcArm, hst, hcheck, hrange]

theorem epcArm_starts (hrange : armRange s = false) : epcArm s =
    checkStart s (.arm (get s F.EPC_ARM_FN_fn) (get s F.EPC_ARM_CTRL_q_lead) (get s F.EPC_ARM_CTRL_scope_timeout)) := by
  simp [epcArm, hst, hcheck, hrange]

theorem epcNow_timeValid (hlead : get s F.LTU_STATUS_lead ≠ 0) : epcNow s = epcResult s epcTimeValid 0 := by
  simp [epcNow, hst, hcheck, ltValid, hlead]

theorem epcNow_starts (hlead : get s F.LTU_STATUS_lead = 0) (hrange : armRange s = false) : epcNow s = checkStart s .now := by
  simp [epcNow, hst, hcheck, ltValid, hlead, hrange]

end

section
variable {s : State} {fn lead bound : Nat} (hcheck : s.epc.check = some (.arm fn lead bound))
include hcheck

theorem armDone_passes (h : firstBad [armCheck (checkEnd s), armTime (checkEnd s) fn lead] = none) :
    armDone s = epcResult (armAlarms (setEpc (checkEnd s) epcArmed) fn lead bound) epcOk 0 := by
  simp only [armDone, hcheck, h]

theorem armDone_fails {x : Nat × Nat} (h : firstBad [armCheck (checkEnd s), armTime (checkEnd s) fn lead] = some x) :
    armDone s = armRefused (checkEnd s) x.1 x.2 := by
  simp only [armDone, hcheck, h]

end

/-- Alarm 128 is armed without a change of the sections that are structural. -/
theorem isStructural_armAt (s : State) (fn : Nat) : isStructural (armAt s 128 fn 0 0) = isStructural s := by
  have h : get (armAt s 128 fn 0 0) F.EPC_STRUCT_sections = get s F.EPC_STRUCT_sections :=
    get_eq_of_words fun a ha => rdWord_armAt s 128 fn 0 0 (by
      obtain rfl : a = R.EPC_STRUCT := List.mem_singleton.1 ha
      decide)
  rw [isStructural, isStructural, h]

theorem armAlarms_structural {s : State} (fn lead bound : Nat) (h : get s F.EPC_STRUCT_sections ≠ 0) : armAlarms s fn lead bound =
    armAt (armAt (armAt (armAt s 128 fn 0 0) 129 (fn - lead) 0 0) 130 fn 1563 0) 131 (fn + bound) 0 0 := by
  have hstruct := (isStructural_armAt s fn).trans ((isStructural_iff s).2 h)
  simp [armAlarms, hstruct]

theorem armAlarms_plain {s : State} (fn lead bound : Nat) (h : get s F.EPC_STRUCT_sections = 0) : armAlarms s fn lead bound =
    armAt (armAt (armAt s 128 fn 0 0) 130 fn 1563 0) 131 (fn + bound) 0 0 := by
  have hplain : isStructural s = false := decide_eq_false (not_not.2 h)
  have hstruct := (isStructural_armAt s fn).trans hplain
  simp [armAlarms, hstruct]

/-- Settles O26: each answer of an arm and of an immediate commit, then the outcome of the check and its alarms. -/
theorem commitArm : Obligations.CommitArm := by
  intro s r
  have armed : ∀ {t}, Reaches s r R.EPC_CTRL true → epcArm s = t → Machine.exec (.epcArm r) s = .next (settled s t) :=
    fun hr h => congrArg (finish s) ((onWrite_of_reaches _ hr).trans h)
  have now : ∀ {t}, Reaches s r R.EPC_CTRL true → epcNow s = t → Machine.exec (.epcNow r) s = .next (settled s t) :=
    fun hr h => congrArg (finish s) ((onWrite_of_reaches _ hr).trans h)
  exact ⟨fun hr hst hcheck hrange => armed hr (epcArm_outOfRange hst hcheck hrange),
    fun hr hst hcheck hrange => armed hr (epcArm_starts hst hcheck hrange),
    fun fn lead bound hcheck => ⟨fun h => congrArg (finish s) (armDone_passes hcheck h),
      fun x h => congrArg (finish s) (armDone_fails hcheck h)⟩,
    fun u fn lead bound => ⟨armAlarms_structural fn lead bound, armAlarms_plain fn lead bound⟩,
    fun hr hst hcheck hlead => now hr (epcNow_timeValid hst hcheck hlead),
    fun hr hst hcheck hlead hrange => now hr (epcNow_starts hst hcheck hlead hrange)⟩

end Sys2Proof.Machine
end

section
/-!
SUPPORT. The phases of a commit, one equation per case: the switch of a path, the end of COMMITTING and of DRAINING, the bounds (R59, R67,
R73, R75, R77).
-/
namespace Sys2Proof.Machine
open Sys2Proof

section
variable {s : State}

theorem nowDone_passes (hcheck : s.epc.check = some .now) (h : armCheck (checkEnd s) = none) : nowDone s =
    modEpc (lineSwitch (lineSwitch (commitInstant (quiesceBegin (epcResult (checkEnd s) epcOk 0))) .a) .b)
      (fun e => { e with nowCommit := true, atFn := 0 }) := by
  simp only [nowDone, hcheck, h]

/-! ### The switch of a path's line blocks (R67) -/

theorem lineBankSwitch_unlocked {q : Path} (hlock : pathLocked s q = false) : lineBankSwitch s q = s := by
  simp [lineBankSwitch, hlock]

theorem lineBankSwitch_due {q : Path} (hdue : lineDue s q = true) (hlock : pathLocked s q = true) (hahead : runsAhead s q = false)
    (hearly : s.epc.early = false) : lineBankSwitch s q = lineSwitch (reach s (1 + qn q) (5000 * s.epc.atFn)) q := by
  simp [lineBankSwitch, hlock, hahead, hdue, hearly]

theorem lineBankSwitch_ahead {q : Path} (hlock : pathLocked s q = true) (hahead : runsAhead s q = true)
    (hswitched : hasSwitched s q = false) :
    let fn := get s (F.LTU_ALM_FN_fn 128)
    let u := if s.epc.early then s else lineBegin s (get s F.EPC_LOADED_sections) fn
    lineBankSwitch s q = lineSwitch (modEpc (reach u (1 + qn q) (5000 * fn)) (fun e => { e with early := true })) q := by
  simp [lineBankSwitch, hlock, hahead, hswitched]

/-! ### The ends of COMMITTING and of DRAINING (R59, R73) -/

theorem commitAck_ends (hst : epcState s = epcCommitting) (ha : waitsFor s .a = false) (hb : waitsFor s .b = false) :
    commitAck s = setEpc s epcDraining := by
  simp [commitAck, hst, ha, hb]

theorem commitAck_waits (h : waitsFor s .a = true ∨ waitsFor s .b = true) : commitAck s = s := by
  rcases h with h | h <;> simp [commitAck, h]

theorem drainDone_drained (hst : epcState s = epcDraining) (h : ∀ m, m < 4 → drains s m = false) :
    let w := sat 65535 (ticksCw (s.clk.ticks - s.epc.atTick))
    drainDone s = raiseGrey (setEpc (putMax (put s F.EPC_DRAIN_TIME_cw w) F.EPC_DRAIN_MAX_cw w) epcDone) F.EPC_EVENT_done := by
  have hall : (List.range 4).all (fun n => !drains s n) = true := List.all_eq_true.2 fun m hm => by simp [h m (List.mem_range.1 hm)]
  exact if_pos ⟨hst, hall⟩

theorem scopeReady_lane (k : Fin 128) (hst : epcState s ≠ epcArmed) : scopeReady s (.clientLane k) =
    setQuiesced s { s.epc.quiesced with lanes := setBits s.epc.quiesced.lanes k.val 1 0 } := if_neg hst

theorem scopeReady_region (n : PktRegion) (hst : epcState s ≠ epcArmed) : scopeReady s (.region n) =
    setQuiesced s { s.epc.quiesced with regions := setBits s.epc.quiesced.regions n.val 1 0 } := if_neg hst

end

/-- Settles O27, from each phase of a commit in each of its cases. -/
theorem commitPhases : Obligations.CommitPhases := by
  intro s q k n
  refine ⟨fun hcheck h => congrArg (finish s) (nowDone_passes hcheck h), fun h => congrArg (finish s) (if_pos h),
    fun h => congrArg (finish s) (if_pos h),
    fun hdue hlock hahead hearly => congrArg (finish s) (lineBankSwitch_due hdue hlock hahead hearly),
    fun hlock hahead hswitched => congrArg (finish s) (lineBankSwitch_ahead hlock hahead hswitched),
    fun hlock => congrArg (finish s) (lineBankSwitch_unlocked hlock), fun r hr hst hlock hquiesce => ?_,
    fun hst ha hb => congrArg (finish s) (commitAck_ends hst ha hb), fun _ h => congrArg (finish s) (commitAck_waits h),
    fun hst h => congrArg (finish s) (drainDone_drained hst h),
    fun hst => ⟨congrArg (finish s) (scopeReady_lane k hst), congrArg (finish s) (scopeReady_region n hst)⟩⟩
  refine ⟨settled s (commitCancelled s),
    congrArg (finish s) ((onWrite_of_reaches _ hr).trans (epcCancel_armed hst hlock hquiesce)), ?_⟩
  rw [settled_epc]
  cases hearly : s.epc.early with
  | false =>
    rw [commitCancelled_epc_of_not_early hearly]
    exact ⟨rfl, hearly, fun _ => rfl, fun h => absurd h Bool.false_ne_true⟩
  | true =>
    rw [commitCancelled_epc_of_early hearly]
    exact ⟨rfl, rfl, fun h => absurd h.symm Bool.false_ne_true, fun _ => ⟨rfl, rfl⟩⟩

end Sys2Proof.Machine
end

section
/-!
SUPPORT. The seed copy and the staged write (R60, R61): what the copy leaves, and what an access to a register leaves of the words of its
own block.
-/
namespace Sys2Proof.Machine
open Sys2Proof

/-! ### The seed copy (R60) -/

theorem pkt_modPkt (s : State) (n m : Nat) (f : PktSt → PktSt) : pkt (modPkt s n f) m = if m = n then f (pkt s n) else pkt s m := by
  unfold pkt modPkt Tab.upd Tab.getD
  split
  · next h => simp [h]
  · next h => simp [Tab.find_set_ne _ _ _ _ h]

theorem pkt_modEpc (s : State) (f : Epc → Epc) (n : Nat) : pkt (modEpc s f) n = pkt s n := rfl

theorem taWait_put (s : State) (f : Fld) (v n : Nat) : (pkt (put s f v) n).prs.taWait = (pkt s n).prs.taWait := by
  rw [pkt, put_pkt]
  rfl

/-- From `s` to `t` the commit machinery, the staged bank and the writes that wait at the table ports stay. -/
structure SeedKept (s t : State) : Prop where
  epc : t.epc = s.epc
  other : t.other = s.other
  taWait : ∀ n, (pkt t n).prs.taWait = (pkt s n).prs.taWait

protected theorem SeedKept.refl (s : State) : SeedKept s s := ⟨rfl, rfl, fun _ => rfl⟩

protected theorem SeedKept.trans {s t u : State} (h : SeedKept s t) (h' : SeedKept t u) : SeedKept s u :=
  ⟨h'.epc.trans h.epc, h'.other.trans h.other, fun n => (h'.taWait n).trans (h.taWait n)⟩

protected theorem SeedKept.foldl {α : Type} {g : State → α → State} (hg : ∀ s x, SeedKept s (g s x)) (l : List α) (s : State) :
    SeedKept s (l.foldl g s) :=
  List.foldlRecOn (motive := SeedKept s) l g (.refl s) fun t ht x _ => ht.trans (hg t x)

theorem seedKept_put (s : State) (f : Fld) (v : Nat) : SeedKept s (put s f v) := ⟨put_epc .., put_other .., taWait_put s f v⟩

theorem seedKept_setExact (s : State) (n : Nat) (ex : Tab ExSlot) : SeedKept s (setExact s n ex) := by
  have hmod : SeedKept s (modPrs s n (fun p => { p with exact := ex })) := by
    refine ⟨rfl, rfl, fun m => ?_⟩
    rw [modPrs, pkt_modPkt]
    split
    · next h => rw [h]
    · rfl
  rw [setExact, emUse]
  exact hmod.trans (seedKept_put ..)

/-- The staged bank as the seed copy finds it: the active one, with the line values of a path that has still to switch. -/
def seedBank (s : State) : Cfg :=
  let c := activeCfg s
  let shared := s.epc.lineDueA && s.epc.lineDueB
  let c := if s.epc.lineDueA then takeLine s.epc.owedA .a shared c s.lineCfg else c
  if s.epc.lineDueB then takeLine s.epc.owedB .b shared c s.lineCfg else c

theorem seedKept_seedCopy (s : State) : SeedKept { s with other := seedBank s } (seedCopy s) := by
  unfold seedCopy
  refine SeedKept.trans (SeedKept.foldl (fun t n => ?_) _ _) (seedKept_put ..)
  exact seedKept_setExact t n _

theorem seedCopy_other {s : State} (ha : s.epc.lineDueA = false) (hb : s.epc.lineDueB = false) : (seedCopy s).other = activeCfg s := by
  rw [(seedKept_seedCopy s).other]
  simp [seedBank, ha, hb]

/-- The state at the end of the seed copy, before the writes that waited. -/
def seedEnded (s : State) : State := modEpc (putB (seedCopy s) F.EPC_STATUS_seeding false) (fun e => { e with waiting := [] })

theorem seedDone_eq {s : State} (h : getB s F.EPC_STATUS_seeding = true) : seedDone s =
    (List.range 4).foldl taResume (s.epc.waiting.foldl (fun u e => stagedPut u e.1 e.2.1 e.2.2) (seedEnded s)) := by
  have hwaiting : (putB (seedCopy s) F.EPC_STATUS_seeding false).epc.waiting = s.epc.waiting := by
    rw [putB_epc, (seedKept_seedCopy s).epc]
  rw [seedDone, if_pos h]
  dsimp only
  rw [hwaiting]
  rfl

theorem foldl_eq_self {α β : Type} {g : β → α → β} {x : β} {l : List α} (h : ∀ a ∈ l, g x a = x) : l.foldl g x = x := by
  induction l with
  | nil => rfl
  | cons a l ih => rw [List.foldl_cons, h a (List.mem_cons_self ..), ih fun b hb => h b (List.mem_cons_of_mem a hb)]

theorem taResume_of_none {s : State} {n : Nat} (h : (pkt s n).prs.taWait = none) : taResume s n = s := by
  simp [taResume, h]

theorem seedDone_of_none_waiting {s : State} (h : getB s F.EPC_STATUS_seeding = true) (hwrites : s.epc.waiting = [])
    (hports : ∀ n, n < 4 → (pkt s n).prs.taWait = none) : seedDone s = seedEnded s := by
  have hended : ∀ n, (pkt (seedEnded s) n).prs.taWait = (pkt s n).prs.taWait := fun n => by
    rw [seedEnded, pkt_modEpc, putB, taWait_put, (seedKept_seedCopy s).taWait n]
    rfl
  rw [seedDone_eq h, hwrites, List.foldl_nil]
  exact foldl_eq_self fun n hn => taResume_of_none ((hended n).trans (hports n (List.mem_range.1 hn)))

/-! ### An access (R61) -/

theorem rdWord_accessed {a : Nat} (ha : OffRecord a) (s : State) (b : Nat) : rdWord (accessed s b) a = rdWord s a := by
  have hworked : ∀ n, rdWord (worked s n) a = rdWord s a := fun n => by
    unfold worked
    split <;> rfl
  unfold accessed
  split
  · rfl
  · dsimp only
    split
    · exact hworked _
    · rw [rdWord_monCount ha, rdWord_monCount ha, hworked]

theorem get_accessed {f : Fld} (s : State) (b : Nat) (h : ∀ a ∈ fldWords f, OffRecord a) : get (accessed s b) f = get s f :=
  get_eq_of_words fun a ha => rdWord_accessed (h a ha) s b

theorem accessed_bank (s : State) (a : Nat) : (accessed s a).bank = s.bank := by
  obtain ⟨x, h⟩ := unrecorded_accessed s a
  exact (congrArg State.bank h :)

/-! ### A write of TSU_UTC_OFF -/

theorem regRowAt_utcOff : regRowAt R.TSU_UTC_OFF = some (⟨0x80010, [], false, [⟨0, 16, .rw, .st, false, 14⟩]⟩, 0) := by
  decide +kernel

theorem stagedFields_utcOff (p0 : Bool) : stagedFields R.TSU_UTC_OFF p0 = [(0, 16, 14)] := by
  unfold stagedFields
  rw [regRowAt_utcOff]
  cases p0 <;> rfl

theorem plainWrite_utcOff (s : State) (r : Requester) (v : Nat) : plainWrite s r R.TSU_UTC_OFF v = s := by
  have hfields : nowFields R.TSU_UTC_OFF (isP0 s r) = [] := by
    unfold nowFields
    rw [regRowAt_utcOff]
    cases isP0 s r <;> rfl
  rw [plainWrite, hfields]
  rfl

theorem busAction_utcOff (s : State) (r : Requester) (v : Nat) : busAction s r R.TSU_UTC_OFF v = none := rfl

theorem busWrite_utcOff {s : State} {r : Requester} (v : Word) (hr : Reaches s r R.TSU_UTC_OFF true) :
    busWrite r R.TSU_UTC_OFF v s = stagedWrite (accessed s R.TSU_UTC_OFF) r R.TSU_UTC_OFF v := by
  have hmember : ∀ t, memberPart t r R.TSU_UTC_OFF v.toNat = t := fun _ => rfl
  rw [busWrite_of_reaches hr rfl, writeHere, if_neg (by decide), regRowAt_utcOff]
  dsimp only
  rw [if_neg Bool.false_ne_true, regWrite, busAction_utcOff, Option.getD_none, wordWrite, plainWrite_utcOff, hmember,
    BitVec.ofNat_toNat, BitVec.setWidth_eq]

theorem viewAt_utcOff (s : State) : viewAt s R.TSU_UTC_OFF = none := rfl

section
variable {s : State} (r : Requester) (v : Word)

theorem stagedWrite_utcOff_discarded (hst : epcState s ≠ epcStaging) :
    stagedWrite s r R.TSU_UTC_OFF v = addTo s F.EPC_ST_DISCARD_count 1 := by
  simp [stagedWrite, stagedFields_utcOff, hst]

theorem stagedWrite_utcOff_waits (hst : epcState s = epcStaging) (hseed : getB s F.EPC_STATUS_seeding = true) :
    stagedWrite s r R.TSU_UTC_OFF v = modEpc s (fun e => { e with waiting := e.waiting ++ [(R.TSU_UTC_OFF, none, v)] }) := by
  simp [stagedWrite, stagedFields_utcOff, hst, hseed, viewAt_utcOff]

/-- The staged write puts the field's bits into the staged bank and loads TIME. -/
theorem stagedWrite_utcOff_puts (hst : epcState s = epcStaging) (hseed : getB s F.EPC_STATUS_seeding = false) :
    stagedWrite s r R.TSU_UTC_OFF v = setLoaded (modOther s (fun c =>
      cfgPutWord c R.TSU_UTC_OFF (mergeWord [(0, 16)] (cfgWord c R.TSU_UTC_OFF) v))) 14 := by
  simp [stagedWrite, stagedFields_utcOff, hst, hseed, viewAt_utcOff, stagedPut]

end

theorem cfgGet_utcOff_put (c : Cfg) (v : Word) :
    cfgGet (cfgPutWord c R.TSU_UTC_OFF (mergeWord [(0, 16)] (cfgWord c R.TSU_UTC_OFF) v)) F.TSU_UTC_OFF_off = v.toNat % 2 ^ 16 := by
  have hfit : ∀ e ∈ [((0 : Nat), (16 : Nat))], e.1 + e.2 ≤ 32 ∧ (e = (0, 16) ∨ 0 + 16 ≤ e.1 ∨ e.1 + e.2 ≤ 0) := by decide
  have hmerge := bits_mergeWord_taken (cfgWord c R.TSU_UTC_OFF) v (List.mem_singleton.2 rfl) hfit
  rw [cfgGet_of_le _ (by decide)]
  refine (congrArg (fun w : Word => bits w.toNat 0 16) (cfgWord_cfgPutWord_same ..)).trans (hmerge.trans ?_)
  rw [bits, pow_zero, Nat.div_one]

/-- Section `i` counts as loaded once it is marked so (R57, R61). -/
theorem bit_setLoaded (s : State) {i : Nat} (hlo : 1 ≤ i) (hhi : i ≤ 18) :
    bit (get (setLoaded s i) F.EPC_LOADED_sections) (i - 1) = true := by
  have hbit : ∀ v j, bit v j = v.testBit j := fun v j => by
    rw [bit, Nat.testBit_eq_decide_div_mod_eq]
  have hi : i - 1 < 18 := by omega
  rw [setLoaded, get_put_same _ _ (by decide), hbit, Nat.testBit_mod_two_pow, Nat.testBit_or, Nat.testBit_two_pow_self]
  simp [F.EPC_LOADED_sections, hi]

end Sys2Proof.Machine
end

section
/-!
SUPPORT. A staging period (R55, R59 to R61): how it opens, loads and ends, and what a table write that waited does once it is given up.
-/
namespace Sys2Proof.Machine
open Sys2Proof

/-! ### Open -/

/-- The state in which a new staging period has nothing loaded and its seed copy runs. -/
def stagingSeeded (s : State) : State :=
  modEpc (putB (put (put (put s F.EPC_LOADED_sections 0) F.EPC_STRUCT_sections 0) F.EPC_QDROP_count 0) F.EPC_STATUS_seeding true)
    (fun e => { e with scopes := [], loaded := [], waiting := [] })

/-- The state that an open leaves (R59). -/
def stagingOpened (s : State) : State := epcResult (setEpc (stagingSeeded s) epcStaging) epcOk 0

theorem epcOpen_idle {s : State} (h : epcState s = epcIdle ∨ epcState s = epcDone) : epcOpen s = stagingOpened s := by
  have hne : epcState s ≠ epcStaging := by
    rcases h with h | h <;> rw [h] <;> decide
  exact (if_neg hne).trans (if_pos h)

theorem get_modEpc (s : State) (g : Epc → Epc) (f : Fld) : get (modEpc s g) f = get s f := rfl

theorem getB_modEpc (s : State) (g : Epc → Epc) (f : Fld) : getB (modEpc s g) f = getB s f := rfl

/-- An open touches neither bank. -/
theorem stagingOpened_stores (s : State) : (stagingOpened s).bank = s.bank ∧ (stagingOpened s).other = s.other ∧
    (stagingOpened s).epc = { s.epc with scopes := [], loaded := [], waiting := [] } := by
  simp [stagingOpened, stagingSeeded, epcResult, setEpc, modEpc]

theorem get_stagingOpened_loaded (s : State) : get (stagingOpened s) F.EPC_LOADED_sections = 0 := by
  rw [stagingOpened, get_epcResult_apart _ _ _ (by decide), setEpc, stagingSeeded]
  simp (disch := decide) only [get_put_apart, get_modEpc, putB, get_put_same]
  rfl

theorem get_stagingOpened_struct (s : State) : get (stagingOpened s) F.EPC_STRUCT_sections = 0 := by
  rw [stagingOpened, get_epcResult_apart _ _ _ (by decide), setEpc, stagingSeeded]
  simp (disch := decide) only [get_put_apart, get_modEpc, putB, get_put_same]
  rfl

theorem getB_stagingOpened_seeding (s : State) : getB (stagingOpened s) F.EPC_STATUS_seeding = true := by
  rw [stagingOpened, getB_congr (get_epcResult_apart _ _ _ (by decide)), setEpc,
    getB_put_disjoint _ _ (by decide) (by decide) (by decide), stagingSeeded, getB_modEpc, getB_putB_same _ _ (by decide) rfl]

/-! ### Load, acknowledge, and commands that a commit answers with BUSY -/

section
variable {s : State}

theorem epcLoad_staging (p0 : Bool) (hst : epcState s = epcStaging) (hload : s.epc.load = none) : epcLoad s p0 =
    putB (modEpc s (fun e => { e with load := some { p0 := p0, len := get s F.EPC_IMG_LEN_len } })) F.EPC_STATUS_load_busy true := by
  simp [epcLoad, hst, hload]

theorem epcAck_done (hst : epcState s = epcDone) : epcAck s = epcResult (setEpc s epcIdle) epcOk 0 := by
  simp [epcAck, hst]

section
variable (h : epcState s = epcCommitting ∨ epcState s = epcDraining)
include h

theorem outside_running : outside s = epcBusy := if_pos h

theorem epcState_ne_of_running {v : Nat} (hv : v ≠ 3) (hv' : v ≠ 4) : epcState s ≠ v := by
  rcases h with h | h <;> rw [h]
  · exact hv.symm
  · exact hv'.symm

theorem epcArm_running : epcArm s = epcResult s epcBusy 0 := by
  rw [epcArm, if_pos (epcState_ne_of_running h (by decide) (by decide)), outside_running h]

theorem epcNow_running : epcNow s = epcResult s epcBusy 0 := by
  rw [epcNow, if_pos (epcState_ne_of_running h (by decide) (by decide)), outside_running h]

theorem epcAbandon_running : epcAbandon s = epcResult s epcBusy 0 := by
  rw [epcAbandon, if_pos (epcState_ne_of_running h (by decide) (by decide)), outside_running h]

theorem epcAck_running : epcAck s = epcResult s epcBusy 0 := by
  rw [epcAck, if_pos (epcState_ne_of_running h (by decide) (by decide)), outside_running h]

theorem epcOpen_running : epcOpen s = epcResult s epcBusy 0 := by
  rw [epcOpen, if_neg (epcState_ne_of_running h (by decide) (by decide)),
    if_neg (not_or.2 ⟨epcState_ne_of_running h (by decide) (by decide), epcState_ne_of_running h (by decide) (by decide)⟩)]

end

end

/-! ### A table write whose staging period was given up (R295) -/

/-- From `s` to `t` the commit machinery, the active bank's tables and every word outside the packet regions stay. -/
structure PortKept (s t : State) : Prop where
  epc : t.epc = s.epc
  bank : t.bank = s.bank
  word : ∀ a < 0x1000000, rdWord t a = rdWord s a

protected theorem PortKept.refl (s : State) : PortKept s s := ⟨rfl, rfl, fun _ _ => rfl⟩

protected theorem PortKept.trans {s t u : State} (h : PortKept s t) (h' : PortKept t u) : PortKept s u :=
  ⟨h'.epc.trans h.epc, h'.bank.trans h.bank, fun a ha => (h'.word a ha).trans (h.word a ha)⟩

theorem PortKept.epcState_eq {s t : State} (h : PortKept s t) : epcState t = epcState s :=
  get_eq_of_words fun a ha => h.word a (by
    obtain rfl : a = R.EPC_STATUS := List.mem_singleton.1 ha
    decide)

/-- A put in a packet region. -/
protected theorem PortKept.put {s t : State} (h : PortKept s t) {f : Fld} (v : Nat) (hf : 0x1000000 ≤ f.addr) :
    PortKept s (put t f v) :=
  h.trans ⟨put_epc .., put_bank .., fun _ ha => rdWord_put_ne t f v _ (by omega) (by omega)⟩

theorem le_taResult (n : Nat) : 0x1000000 ≤ R.PRS_TA_RESULT n := by simp only [R.PRS_TA_RESULT]; omega

theorem le_taData (n w : Nat) : 0x1000000 ≤ R.PRS_TA_DATA n w := by simp only [R.PRS_TA_DATA]; omega

protected theorem PortKept.taResult {s t : State} (h : PortKept s t) (n code : Nat) : PortKept s (taResult t n code) :=
  (h.put (f := F.PRS_TA_RESULT_code n) _ (le_taResult n)).put (f := F.PRS_TA_RESULT_busy n) _ (le_taResult n)

protected theorem PortKept.taPut {s t : State} (h : PortKept s t) (n w k v : Nat) : PortKept s (taPut t n w k v) :=
  List.foldlRecOn (motive := PortKept s) _ _ h fun _ hu i _ => hu.put _ (le_taData n (w + i))

protected theorem PortKept.taShow {s t : State} (h : PortKept s t) (n key mask act : Nat) (valid : Bool) :
    PortKept s (taShow t n key mask act valid) :=
  ((h.taPut ..).taPut ..).put _ (le_taData n 32)

theorem portKept_taRead (s : State) (n : Nat) (staged : Bool) : PortKept s (taRead s n staged) := by
  unfold taRead
  dsimp only
  split
  · exact (PortKept.refl s).taResult ..
  · split
    · exact ((PortKept.refl s).taShow ..).taResult ..
    · exact ((PortKept.refl s).taShow ..).taResult ..

theorem portKept_taLookup (s : State) (n : Nat) (staged : Bool) : PortKept s (taLookup s n staged) := by
  unfold taLookup
  dsimp only
  generalize (if taExact s n = true then _ else _ : Option (Nat × Nat)) = hit
  cases hit with
  | none => exact (PortKept.refl s).taResult ..
  | some x => exact ((((PortKept.refl s).taShow ..).put _ (le_taData n 33)).taResult ..)

theorem portKept_taActRead (s : State) (n : Nat) (staged : Bool) : PortKept s (taActRead s n staged) := by
  unfold taActRead
  split
  · exact (PortKept.refl s).taResult ..
  · exact ((PortKept.refl s).taPut ..).taResult ..

/-- Outside STAGING an operation on the staged bank writes no table. -/
theorem portKept_taOp {s : State} (n op : Nat) (h : epcState s ≠ epcStaging) : PortKept s (taOp s n op true) := by
  have hmay : taMayWrite s true = false := by simp [taMayWrite, h]
  unfold taOp
  split
  · exact portKept_taRead ..
  · exact taWrite_notStaging (n := n) hmay ▸ (PortKept.refl s).taResult ..
  · exact taInsert_notStaging (n := n) hmay ▸ (PortKept.refl s).taResult ..
  · exact taDelete_notStaging (n := n) hmay ▸ (PortKept.refl s).taResult ..
  · exact portKept_taLookup ..
  · exact portKept_taActRead ..
  · exact taActWrite_notStaging (n := n) hmay ▸ (PortKept.refl s).taResult ..
  · exact .refl s

theorem portKept_taResume {s : State} (n : Nat) (h : epcState s ≠ epcStaging) : PortKept s (taResume s n) := by
  unfold taResume
  split
  · next op _ =>
    have hmod : PortKept s (modPrs s n (fun p => { p with taWait := none })) := ⟨rfl, rfl, fun _ _ => rfl⟩
    exact hmod.trans (portKept_taOp n op h)
  · exact .refl s

theorem portKept_resumed {s : State} (l : List Nat) (h : epcState s ≠ epcStaging) : PortKept s (l.foldl taResume s) :=
  List.foldlRecOn (motive := PortKept s) l taResume (.refl s) fun _ ht n _ => ht.trans (portKept_taResume n (ht.epcState_eq ▸ h))

/-! ### Abandon (R55, R59) -/

/-- The state in which the check, the seed copy, the waiting writes and the load of a staging period are given up. -/
def stagingDropped (s : State) : State :=
  modEpc (putB (checkEnd s) F.EPC_STATUS_seeding false) (fun e =>
    { e with waiting := [], load := e.load.map (fun j => { j with live := false }) })

/-- The state that an abandon leaves. -/
def stagingAbandoned (s : State) : State := epcResult ((List.range 4).foldl taResume (setEpc (stagingDropped s) epcIdle)) epcOk 0

theorem epcAbandon_staging {s : State} (hst : epcState s = epcStaging) : epcAbandon s = stagingAbandoned s := if_neg (not_not.2 hst)

theorem portKept_stagingResumed (s : State) :
    PortKept (setEpc (stagingDropped s) epcIdle) ((List.range 4).foldl taResume (setEpc (stagingDropped s) epcIdle)) :=
  portKept_resumed _ (by rw [epcState_setEpc _ (by decide)]; decide)

theorem get_stagingAbandoned {f : Fld} (s : State) (h : fldWords f = [R.EPC_STATUS]) :
    get (stagingAbandoned s) f = get (setEpc (stagingDropped s) epcIdle) f := by
  rw [stagingAbandoned, get_epcResult_apart _ _ _ (by rw [h]; decide)]
  refine get_eq_of_words fun a ha => (portKept_stagingResumed s).word a ?_
  rw [h, List.mem_singleton] at ha
  rw [ha]
  decide

theorem stagingAbandoned_epc (s : State) : (stagingAbandoned s).epc =
    { s.epc with check := none, waiting := [], load := s.epc.load.map (fun j => { j with live := false }) } := by
  rw [stagingAbandoned, (regsOnly_epcResult ..).epc_eq, (portKept_stagingResumed s).epc]
  simp [setEpc, stagingDropped, checkEnd, modEpc]

theorem stagingAbandoned_bank (s : State) : (stagingAbandoned s).bank = s.bank := by
  rw [stagingAbandoned, (regsOnly_epcResult ..).bank_eq, (portKept_stagingResumed s).bank]
  simp [setEpc, stagingDropped, checkEnd, modEpc]

theorem getB_stagingAbandoned_seeding (s : State) : getB (stagingAbandoned s) F.EPC_STATUS_seeding = false := by
  rw [getB_congr (get_stagingAbandoned s (by decide)), setEpc, getB_put_disjoint _ _ (by decide) (by decide) (by decide),
    stagingDropped, getB_modEpc, getB_putB_same _ _ (by decide) rfl]

theorem getB_stagingAbandoned_checking (s : State) : getB (stagingAbandoned s) F.EPC_STATUS_checking = false := by
  rw [getB_congr (get_stagingAbandoned s (by decide)), setEpc, getB_put_disjoint _ _ (by decide) (by decide) (by decide),
    stagingDropped, getB_modEpc, putB, getB_put_disjoint _ _ (by decide) (by decide) (by decide), checkEnd,
    getB_putB_same _ _ (by decide) rfl]

theorem epcState_stagingAbandoned (s : State) : epcState (stagingAbandoned s) = epcIdle :=
  (get_stagingAbandoned s (by decide)).trans (epcState_setEpc _ (by decide))

theorem getB_settled {f : Fld} (s t : State) (hf : ∀ a ∈ fldWords f, a ∉ settledWords) : getB (settled s t) f = getB t f :=
  getB_congr (get_settled s t hf)

/-- Settles O24: the seed copy and a staged write, then each command of a staging period. -/
theorem stagingPeriod : Obligations.StagingPeriod := by
  intro s r
  have ctrl : ∀ {k : State → State} {t}, Reaches s r R.EPC_CTRL true → k s = t →
      finish s (onWrite s r R.EPC_CTRL k) = .next (settled s t) := fun hr h =>
    congrArg (finish s) ((onWrite_of_reaches _ hr).trans h)
  refine ⟨fun hr hst => ⟨settled s (stagingOpened s), ctrl hr (epcOpen_idle hst), ?_⟩, fun h => congrArg (finish s) (seedDone_eq h),
    fun h hwrites hports => congrArg (finish s) (seedDone_of_none_waiting h hwrites hports), seedCopy_other, fun v hr => ?_,
    fun hr hst hload => congrArg (finish s) ((onWrite_of_reaches _ hr).trans (epcLoad_staging _ hst hload)),
    fun hr hst => ctrl hr (epcAck_done hst), fun hr hst => ⟨settled s (stagingAbandoned s), ctrl hr (epcAbandon_staging hst), ?_⟩,
    fun hr h => ⟨ctrl hr (epcArm_running h), ctrl hr (epcNow_running h), ctrl hr (epcAbandon_running h), ctrl hr (epcAck_running h),
      ctrl hr (epcOpen_running h)⟩⟩
  · obtain ⟨hbank, hother, hepc⟩ := stagingOpened_stores s
    rw [settled_bank, settled_other, settled_epc, hbank, hother, hepc]
    exact ⟨(get_settled s _ (by decide)).trans ((epcState_epcResult ..).trans (epcState_setEpc _ (by decide))),
      (get_settled s _ (by decide)).trans (get_stagingOpened_loaded s), (get_settled s _ (by decide)).trans (get_stagingOpened_struct s),
      (getB_settled s _ (by decide)).trans (getB_stagingOpened_seeding s),
      (get_settled s _ (by decide)).trans (get_epcResult_code _ 0 (by decide)), rfl, rfl, rfl, rfl⟩
  · have hstate : epcState (accessed s R.TSU_UTC_OFF) = epcState s := get_accessed s _ (by decide)
    have hseeding : getB (accessed s R.TSU_UTC_OFF) F.EPC_STATUS_seeding = getB s F.EPC_STATUS_seeding :=
      getB_congr (get_accessed s _ (by decide))
    have written : ∀ {t}, stagedWrite (accessed s R.TSU_UTC_OFF) r R.TSU_UTC_OFF v = t →
        Machine.exec (.stagedWrite r (BitVec.ofNat 28 R.TSU_UTC_OFF) v) s = .next (settled s t) :=
      fun h => congrArg (finish s) ((busWrite_utcOff v hr).trans h)
    refine ⟨fun hst => written (stagedWrite_utcOff_discarded r v (hstate ▸ hst)),
      fun hst hseed => written (stagedWrite_utcOff_waits r v (hstate.trans hst) (hseeding.trans hseed)), fun hst hseed =>
      ⟨_, written (stagedWrite_utcOff_puts r v (hstate.trans hst) (hseeding.trans hseed)), ?_, ?_, ?_, ?_⟩⟩
    · rw [settled_other, setLoaded, put_other]
      exact cfgGet_utcOff_put _ v
    · rw [get_settled s _ (by decide)]
      exact bit_setLoaded _ (i := 14) (by decide) (by decide)
    · rw [settled_bank, setLoaded, put_bank]
      exact accessed_bank s _
    · rw [get_settled s _ (by decide), setLoaded, get_put_apart _ _ (by decide)]
      exact get_accessed s _ (by decide)
  · rw [settled_bank, settled_epc, stagingAbandoned_epc, stagingAbandoned_bank]
    refine ⟨(get_settled s _ (by decide)).trans (epcState_stagingAbandoned s),
      (getB_settled s _ (by decide)).trans (getB_stagingAbandoned_seeding s),
      (getB_settled s _ (by decide)).trans (getB_stagingAbandoned_checking s), rfl, rfl, rfl, fun j hj => ?_⟩
    obtain ⟨i, -, rfl⟩ := Option.map_eq_some_iff.1 hj
    rfl

end Sys2Proof.Machine
end

section
/-!
SUPPORT. What an operation leaves of the privileges (R105, R387, R388, R390): P0 of the PF, the two ceilings and the access windows.
`Kept.f` says of the model's operation `f` that it leaves them within a set, in the order of the model's files; a set in which P0 may be given up
and a ceiling fall is `Falling`, one in which the windows may change `Switching`.
-/
set_option Elab.async false
namespace Sys2Proof.Machine
open Sys2Proof

/-- The PF's P0, the two ceilings and the access windows. -/
structure Privileges where
  p0 : Bool
  ceilA : Int
  ceilB : Int
  windows : Tab AcwWin

def privileges (s : State) : Privileges := ⟨s.hif.p0, s.saf.ceilA, s.saf.ceilB, s.bank.windows⟩

/-- The privileges of the state are within `P`. -/
def Kept (P : Set Privileges) (s : State) : Prop := privileges s ∈ P

/-- Giving P0 up and lowering a ceiling stay within the set. -/
class Falling (P : Set Privileges) : Prop where
  fall : ∀ p ∈ P, ∀ x a b, (x = true → p.p0 = true) → a ≤ p.ceilA → b ≤ p.ceilB → { p with p0 := x, ceilA := a, ceilB := b } ∈ P

/-- A change of the access windows stays within the set. -/
class Switching (P : Set Privileges) : Prop where
  switch : ∀ p ∈ P, ∀ w, { p with windows := w } ∈ P

/-- Giving P0 stays within the set. -/
class Granting (P : Set Privileges) : Prop where
  grant : ∀ p ∈ P, ∀ x, { p with p0 := x } ∈ P

/-- The privileges of a module that was reset (R105, R388, R390). -/
def resetPrivileges : Privileges := ⟨false, 215, 215, resetBank.windows⟩

/-- A module reset stays within the set. -/
class Resetting (P : Set Privileges) : Prop where
  reset : resetPrivileges ∈ P

variable {P : Set Privileges}

protected theorem Kept.wrWord {s : State} (h : Kept P s) {a : Nat} {v : Word} : Kept P (wrWord s a v) := h

protected theorem Kept.put {s : State} (h : Kept P s) {f : Fld} {v : Nat} : Kept P (put s f v) := by
  unfold put
  split <;> exact h

/-! ### Rules of the model's control structures -/

/-- A change that leaves the privileges as they were. -/
protected theorem Kept.upd {s t : State} (h : Kept P s) (e : privileges t = privileges s := by rfl) : Kept P t := by
  rw [Kept, e]
  exact h

protected theorem Kept.ite {s t : State} {c : Prop} [Decidable c] (h : Kept P s) (h' : Kept P t) : Kept P (if c then s else t) := by
  split
  · exact h
  · exact h'

protected theorem Kept.foldl {α : Type} {l : List α} {s : State} {g : State → α → State} (h : Kept P s)
    (hg : ∀ t x, Kept P t → Kept P (g t x)) : Kept P (l.foldl g s) := by
  induction l generalizing s with
  | nil => exact h
  | cons x l ih => exact ih (hg s x h)

protected theorem Kept.foldlFst {α β : Type} {l : List α} {p : State × β} {g : State × β → α → State × β} (h : Kept P p.1)
    (hg : ∀ p x, Kept P p.1 → Kept P (g p x).1) : Kept P (l.foldl g p).1 := by
  induction l generalizing p with
  | nil => exact h
  | cons x l ih => exact ih (hg p x h)

/-- A change that a condition asks for. -/
protected theorem Kept.when {s t : State} {c : Prop} [Decidable c] (h : Kept P s) (ht : Kept P s → Kept P t) :
    Kept P (if c then t else s) := Kept.ite (ht h) h

/-- A change that a condition saves. -/
protected theorem Kept.unless {s t : State} {c : Prop} [Decidable c] (h : Kept P s) (ht : Kept P s → Kept P t) :
    Kept P (if c then s else t) := Kept.ite h (ht h)

/-- A change elsewhere: P0, the governor and the windows are as before. -/
protected theorem Kept.elsewhere {s t : State} (h : Kept P s) (hp : t.hif.p0 = s.hif.p0 := by rfl) (hs : t.saf = s.saf := by rfl)
    (hw : t.bank.windows = s.bank.windows := by rfl) : Kept P t := h.upd (by rw [privileges, hp, hs, hw, privileges])

protected theorem Kept.updEpc {s : State} {y : Epc} (h : Kept P s) : Kept P { s with epc := y } := h
protected theorem Kept.updLtu {s : State} {y : Ltu} (h : Kept P s) : Kept P { s with ltu := y } := h
protected theorem Kept.updPins {s : State} {y : Pins} (h : Kept P s) : Kept P { s with pins := y } := h
protected theorem Kept.updTsu {s : State} {y : Tsu} (h : Kept P s) : Kept P { s with tsu := y } := h
protected theorem Kept.updRegs {s : State} {y : Tab Word} (h : Kept P s) : Kept P { s with regs := y } := h
protected theorem Kept.updBnd {s : State} {y : Bnd} (h : Kept P s) : Kept P { s with bnd := y } := h
protected theorem Kept.updFlash {s : State} {y : Flash} (h : Kept P s) : Kept P { s with flash := y } := h
protected theorem Kept.updUpb {s : State} {y : Upb} (h : Kept P s) : Kept P { s with upb := y } := h
protected theorem Kept.updLcy {s : State} {y : Lcy} (h : Kept P s) : Kept P { s with lcy := y } := h
protected theorem Kept.updPwr {s : State} {y : Pwr} (h : Kept P s) : Kept P { s with pwr := y } := h

protected theorem Kept.updSaf {s : State} {y : Saf} (h : Kept P s) (ha : y.ceilA = s.saf.ceilA := by rfl)
    (hb : y.ceilB = s.saf.ceilB := by rfl) : Kept P { s with saf := y } := h.upd (by rw [privileges, ha, hb, privileges])

/-- An optional result keeps the privileges within `P` where there is one. -/
def KeptOpt (P : Set Privileges) (o : Option State) : Prop := ∀ t, o = some t → Kept P t

protected theorem KeptOpt.none : KeptOpt P none := fun _ h => (Option.some_ne_none _ h.symm).elim

protected theorem Kept.some {s : State} (h : Kept P s) : KeptOpt P (some s) := by
  rintro t ⟨⟩
  exact h

protected theorem KeptOpt.ite {c : Prop} [Decidable c] {o o' : Option State} (h : KeptOpt P o) (h' : KeptOpt P o') :
    KeptOpt P (if c then o else o') := by
  split
  · exact h
  · exact h'

protected theorem KeptOpt.orElse {o o' : Option State} (h : KeptOpt P o) (h' : KeptOpt P o') : KeptOpt P (o.orElse fun _ => o') := by
  cases o with
  | none => exact h'
  | some t => exact h

protected theorem KeptOpt.getD {o : Option State} {s : State} (h : KeptOpt P o) (hs : Kept P s) : Kept P (o.getD s) := by
  cases o with
  | none => exact hs
  | some t => exact h t rfl

protected theorem KeptOpt.iteOf {c : Prop} [Decidable c] {o o' : Option State} (h : c → KeptOpt P o) (h' : KeptOpt P o') :
    KeptOpt P (if c then o else o') := by
  split
  · exact h ‹_›
  · exact h'

protected theorem KeptOpt.bind {o : Option State} {g : State → Option State} (h : KeptOpt P o) (hg : ∀ t, Kept P t → KeptOpt P (g t)) :
    KeptOpt P (o.bind g) := by
  cases o with
  | none => exact KeptOpt.none
  | some t => exact hg t (h t rfl)

protected theorem KeptOpt.foldl {α : Type} {l : List α} {o : Option State} {g : Option State → α → Option State} (h : KeptOpt P o)
    (hg : ∀ o x, KeptOpt P o → KeptOpt P (g o x)) : KeptOpt P (l.foldl g o) := by
  induction l generalizing o with
  | nil => exact h
  | cons x l ih => exact ih (hg o x h)

section

variable {s : State}
  {a arg1 block c cause cell code d fn fuel g i k key kind l len m n o off p region sid snr t u uw v : Nat}
  {mis staged up : Bool}
  {old : Cfg}
  {x : Fill}
  {e : FillEnv}
  {f : Fld}
  {excess : Int}
  {ids : List (Nat × Nat)}
  {b bs z : List Byte}
  {posts : List RxPost}
  {bad : Option StoreFail}
  {q : Path}
  {r : Requester}
  {w : Window}

/-! ### Ops -/

protected theorem Kept.putB {b : Bool} (h : Kept P s) : Kept P (putB s f b) := h.put
protected theorem Kept.putI {v : Int} (h : Kept P s) : Kept P (putI s f v) := h.put
protected theorem Kept.addTo (h : Kept P s) : Kept P (addTo s f n) := h.put
protected theorem Kept.inc (h : Kept P s) : Kept P (inc s f) := h.addTo
protected theorem Kept.incSat (h : Kept P s) : Kept P (incSat s f) := h.put
protected theorem Kept.putMax (h : Kept P s) : Kept P (putMax s f v) := Kept.ite h.put h

protected theorem Kept.forEach {α : Type} {l : List α} {f : State → α → State} (h : Kept P s)
    (hf : ∀ t x, Kept P t → Kept P (f t x)) : Kept P (forEach l f s) := h.foldl hf

protected theorem Kept.whenB {b : Bool} {f : State → State} (h : Kept P s) (hf : ∀ t, Kept P t → Kept P (f t)) : Kept P (whenB b f s) :=
  Kept.ite (hf s h) h

protected theorem Kept.emit {o : Output} (h : Kept P s) : Kept P (emit s o) := h
protected theorem Kept.stepFree (h : Kept P s) : Kept P (stepFree s) := h
protected theorem Kept.liveAdd (h : Kept P s) : Kept P (liveAdd s key n) := h
protected theorem Kept.livePut (h : Kept P s) : Kept P (livePut s key v) := h
protected theorem Kept.dropP0 [Falling P] (h : Kept P s) : Kept P (dropP0 s) :=
  Falling.fall _ h false _ _ (fun x => Bool.noConfusion x) (Int.le_refl _) (Int.le_refl _)

protected theorem Kept.modAct {f : Act → Act} (h : Kept P s) : Kept P (modAct s q f) := by
  cases q <;> grind [modAct, Kept, privileges]

protected theorem Kept.modLane {f : LaneSt → LaneSt} (h : Kept P s) : Kept P (modLane s p f) := h
protected theorem Kept.modEngine {e : Nat} {f : EngineSt → EngineSt} (h : Kept P s) : Kept P (modEngine s e f) := h
protected theorem Kept.modDfrLane {f : DfrLane → DfrLane} (h : Kept P s) : Kept P (modDfrLane s p f) := h
protected theorem Kept.modPkt {f : PktSt → PktSt} (h : Kept P s) : Kept P (modPkt s n f) := h

protected theorem Kept.setPathTime {t : LineTime} (h : Kept P s) : Kept P (setPathTime s q t) := by
  cases q <;> grind [setPathTime, Kept, privileges]

protected theorem Kept.settleTsu (h : Kept P s) : Kept P (settleTsu s) :=
  h.upd (by rw [privileges, settleTsu_hif, settleTsu_saf, settleTsu_bank, privileges])

protected theorem Kept.settleFlt (h : Kept P s) : Kept P (settleFlt s) := h.put
protected theorem Kept.settleAsh (h : Kept P s) : Kept P (settleAsh s) := Kept.ite h h.putB.putB
protected theorem Kept.settle (h : Kept P s) : Kept P (settle s) := h.settleTsu.settleFlt.putB.putB.putB.putB.settleAsh.put
protected theorem Kept.worked (h : Kept P s) : Kept P (worked s n) := Kept.ite h.modPkt h

/-! ### Events -/

protected theorem Kept.deliver {src : Nat} (h : Kept P s) : Kept P (deliver s src) := Kept.ite (Kept.ite h.upd h.emit) h
protected theorem Kept.deliverOwned {src owner : Nat} (h : Kept P s) : Kept P (deliverOwned s src owner) := Kept.ite h.deliver h

protected theorem Kept.updateIrq (h : Kept P s) : Kept P (updateIrq s a) := by
  grind [updateIrq, Kept.deliver, Kept, privileges]

protected theorem Kept.suppress (h : Kept P s) : Kept P (suppress s code) := h
protected theorem Kept.unsuppress (h : Kept P s) : Kept P (unsuppress s code) := h

protected theorem Kept.spend {v : Sev} (h : Kept P s) : Kept P (spend s code v) := by
  grind [spend, Kept, privileges]

protected theorem Kept.ctrBump (h : Kept P s) : Kept P (ctrBump s c n).1 := by
  grind [ctrBump, Kept.put]

protected theorem Kept.monBump (h : Kept P s) : Kept P (monBump s f) := by
  grind [monBump, Kept.ctrBump, Kept.foldl]

protected theorem Kept.refreshLog (h : Kept P s) : Kept P (refreshLog s) := by
  grind [refreshLog, Kept.put]

protected theorem Kept.countDrop {v : Sev} (h : Kept P s) : Kept P (countDrop s v) :=
  Kept.ite h.inc.monBump (Kept.ite h.inc.monBump.putB.spend.unsuppress.inc h.inc.monBump.putB.suppress).updateIrq

protected theorem Kept.dropAged (h : Kept P s) : Kept P (dropAged s) := h.upd.addTo
protected theorem Kept.seqUsed (h : Kept P s) : Kept P (seqUsed s) := h.put.dropAged.refreshLog

protected theorem Kept.jetPut {r : Rec} (h : Kept P s) : Kept P (jetPut s r).1 := by
  grind [jetPut, Kept, privileges]

protected theorem Kept.jetOnly {r : Rec} (h : Kept P s) : Kept P (jetOnly s r) := by
  grind [jetOnly, Kept.jetPut, Kept.seqUsed, Kept.countDrop]

protected theorem Kept.admitRec {r : Rec} (h : Kept P s) : Kept P (admitRec s r) := by
  have hj : Kept P (if decide (r.sev = .black) then jetPut s r else (s, false)).1 := by
    split
    · exact h.jetPut
    · exact h
  refine Kept.ite (Kept.ite h.jetOnly h.countDrop) (Kept.ite (Kept.ite h.jetOnly h.countDrop) (Kept.ite h.countDrop ?_))
  split
  · exact h.countDrop
  · exact hj.upd.seqUsed.whenB fun _ ht => ht.inc

protected theorem Kept.offerTo {v : Sev} {args : List Nat} {into : State → Rec → State} (h : Kept P s)
    (hf : ∀ t r, Kept P t → Kept P (into t r)) : Kept P (offerTo s code v region block cell args into) :=
  Kept.ite (hf _ _ h.spend.unsuppress) h.suppress

protected theorem Kept.offerArgs {v : Sev} {args : List Nat} (h : Kept P s) : Kept P (offerArgs s code v region block cell args) :=
  h.offerTo fun _ _ ht => ht.admitRec

protected theorem Kept.offer {v : Sev} {arg0 : Nat} (h : Kept P s) : Kept P (offer s code v region block cell arg0 arg1) := h.stepFree.offerArgs

protected theorem Kept.raiseWith {k : State → Nat → Nat → State} (h : Kept P s) (hk : ∀ t c y, Kept P t → Kept P (k t c y)) :
    Kept P (raiseWith s f k) := by
  unfold raiseWith
  split
  · exact h
  · exact Kept.ite h (hk _ _ _ h.putB).updateIrq

protected theorem Kept.raiseRec {v : Sev} (h : Kept P s) : Kept P (raiseRec s f v region cell arg1) := h.raiseWith fun _ _ _ ht => ht.offer

protected theorem Kept.ctrAdd (h : Kept P s) : Kept P (ctrAdd s c n) := by
  grind [ctrAdd, Kept.ctrBump, Kept.raiseRec, Kept.monBump]

protected theorem Kept.monCount {event : Nat} (h : Kept P s) : Kept P (monCount s region block event ids n) := h.foldl fun _ _ ht => ht.ctrAdd
protected theorem Kept.monIn {bytes : Nat} (h : Kept P s) : Kept P (monIn s region block ids bytes) := h.monCount.monCount
protected theorem Kept.monOut {bytes : Nat} (h : Kept P s) : Kept P (monOut s region block ids bytes) := h.monCount.monCount

protected theorem Kept.monEvent (h : Kept P s) : Kept P (monEvent s f ids) := by
  grind [monEvent, Kept.monCount]

protected theorem Kept.accessed (h : Kept P s) : Kept P (accessed s a) := by
  grind [accessed, Kept.worked, Kept.monCount]

protected theorem Kept.raiseFor {v : Sev} (h : Kept P s) : Kept P (raiseFor s f v region cell arg1) := h.monEvent.raiseRec

protected theorem Kept.raise {v : Sev} (h : Kept P s) : Kept P (raise s f v arg1) := by
  grind [raise, Kept.raiseFor]

protected theorem Kept.raiseGrey (h : Kept P s) : Kept P (raiseGrey s f) := h.raise

protected theorem Kept.raiseAt {v : Sev} (h : Kept P s) : Kept P (raiseAt s f v cell ids arg1) := by
  grind [raiseAt, Kept.raiseRec, Kept.monEvent]

protected theorem Kept.greyOf (h : Kept P s) : Kept P (greyOf s f ids) := h.raiseAt

protected theorem Kept.discardOf (h : Kept P s) : Kept P (discardOf s f code ids) := by
  grind [discardOf, Kept.inc, Kept.monCount]

protected theorem Kept.discard (h : Kept P s) : Kept P (discard s f code) := h.discardOf

/-! ### Access -/

protected theorem Kept.linkDiscard (h : Kept P s) : Kept P (linkDiscard s n) := Kept.ite h.upd.inc h
protected theorem Kept.deny {write : Bool} (h : Kept P s) : Kept P (deny s r a write) := Kept.ite h.inc h.inc.putB.put.put.raiseGrey

protected theorem Kept.onWrite {k : State → State} (h : Kept P s) (hk : ∀ t, Kept P t → Kept P (k t)) : Kept P (onWrite s r a k) :=
  Kept.ite h (Kept.ite (Kept.ite h (hk s h)) h.deny)

protected theorem Kept.onWriteP0 {k : State → State} (h : Kept P s) (hk : ∀ t, Kept P t → Kept P (k t)) : Kept P (onWriteP0 s r a k) :=
  h.onWrite fun t ht => Kept.ite (hk t ht) ht

/-! ### Tsu -/

protected theorem Kept.modDom {f : TsuDom → TsuDom} (h : Kept P s) : Kept P (modDom s d f) := h
protected theorem Kept.rebase (h : Kept P s) : Kept P (rebase s d) := h.modDom
protected theorem Kept.openSeg (h : Kept P s) : Kept P (openSeg s d) := h.modDom
protected theorem Kept.setDomState (h : Kept P s) : Kept P (setDomState s d v) := h.put.put
protected theorem Kept.pushPiece {base : Nat} {r : Int} {change : Bool} (h : Kept P s) : Kept P (pushPiece s base r change) := h

protected theorem Kept.servedUpdate (h : Kept P s) : Kept P (servedUpdate s) :=
  Kept.ite h.putB (Kept.ite (Kept.ite h h.putB.raiseGrey) h.pushPiece.put.putB.raiseGrey)

protected theorem Kept.localFree (h : Kept P s) : Kept P (localFree s) := Kept.ite h h.setDomState

protected theorem Kept.tsuCommit (h : Kept P s) : Kept P (tsuCommit s) := by
  grind [tsuCommit, Kept.localFree, Kept.servedUpdate, Kept.pushPiece]

protected theorem Kept.enterTracking (h : Kept P s) : Kept P (enterTracking s d) :=
  Kept.ite h (h.setDomState.raiseGrey.whenB fun _ ht => ht.servedUpdate)

protected theorem Kept.measured {p : Int} {last : Bool} (h : Kept P s) : Kept P (measured s d p last) :=
  (Kept.ite h.putI.inc.modDom.putI.modDom h.putI.inc.modDom).enterTracking

protected theorem Kept.tsuFrame (h : Kept P s) : Kept P (tsuFrame s q fn) := by
  grind [tsuFrame, Kept.putI, Kept.enterTracking, Kept.openSeg, Kept.modDom, Kept.measured, Kept, privileges]

protected theorem Kept.tsuAnnounced (h : Kept P s) : Kept P (tsuAnnounced s q) := h.putB
protected theorem Kept.tsuRenumbered (h : Kept P s) : Kept P (tsuRenumbered s q) := h.putB
protected theorem Kept.firmwareSteers (h : Kept P s) : Kept P (firmwareSteers s d) := Kept.ite h.enterTracking h

protected theorem Kept.tcCorrect {g : Ingress} {outTc : Bool} {xe : Nat} (h : Kept P s) : Kept P (tcCorrect s g outTc xe bs).1 := by
  grind [tcCorrect, Kept.raiseGrey, Kept.inc]

protected theorem Kept.tsqPush {g : Ingress} {outKind outId disp xe meta_ queue : Nat} (h : Kept P s) :
    Kept P (tsqPush s n g outKind outId disp xe meta_ queue bs) :=
  Kept.ite h.modPkt.inc.raiseGrey h.modPkt.put

protected theorem Kept.tsqEmpty (h : Kept P s) : Kept P (tsqEmpty s n) := h.modPkt.put
protected theorem Kept.tsqPop (h : Kept P s) : Kept P (tsqPop s n) := h.modPkt.put
protected theorem Kept.rateWrite {rho : Word} (h : Kept P s) : Kept P (rateWrite d rho s) := Kept.ite h.put h.rebase.put.openSeg.firmwareSteers
protected theorem Kept.stepWrite {ns : Word} (h : Kept P s) : Kept P (stepWrite d ns s) := Kept.ite h h.modDom.openSeg.firmwareSteers

protected theorem Kept.setWrite {v : Word} (h : Kept P s) : Kept P (setWrite d v s) :=
  Kept.ite ((Kept.ite h.put.modDom h.put.modDom.setDomState).openSeg.whenB fun _ ht => ht.servedUpdate) h.put

protected theorem Kept.convWrite {raw : Nat} (h : Kept P s) : Kept P (convWrite r raw d s) := by
  obtain ⟨u, hu⟩ := convWrite_eq r raw d s
  rw [hu]
  exact h.upd.stepFree

protected theorem Kept.latchWrite (h : Kept P s) : Kept P (latchWrite r s) := h

protected theorem Kept.residClear (h : Kept P s) : Kept P (residClear s) := by
  grind [residClear, Kept.pushPiece]

/-! ### Port -/

protected theorem Kept.modPort {f : PortSt → PortSt} (h : Kept P s) : Kept P (modPort s n l f) := h.modPkt
protected theorem Kept.statAdd (h : Kept P s) : Kept P (statAdd s n l i k) := Kept.ite h.livePut.put.raiseGrey h.livePut
protected theorem Kept.sizeAdd {base max : Nat} (h : Kept P s) : Kept P (sizeAdd s n l base max len) := Kept.ite h.statAdd h
protected theorem Kept.emitSet {os : Nat} (h : Kept P s) : Kept P (emitSet s n l os) := Kept.ite h.emit h
protected theorem Kept.showFault (h : Kept P s) : Kept P (showFault s n l) := Kept.ite h (Kept.ite h.modPort.emitSet h.modPort.emitSet)

protected theorem Kept.showTribFault (h : Kept P s) : Kept P (showTribFault s t) := by
  grind [showTribFault, Kept.showFault]

protected theorem Kept.sendStanding (h : Kept P s) : Kept P (sendStanding s n l) := Kept.ite h.emitSet h
protected theorem Kept.sendStandings (h : Kept P s) : Kept P (sendStandings s n) := h.foldl fun _ _ ht => ht.sendStanding
protected theorem Kept.showFaults (h : Kept P s) : Kept P (showFaults s n) := h.foldl fun _ _ ht => ht.showFault
protected theorem Kept.macControl {op : Nat} {params : List Byte} (h : Kept P s) : Kept P (macControl s n l op params) := h.emit.statAdd.statAdd
protected theorem Kept.sendPause {q : Nat} (h : Kept P s) : Kept P (sendPause s n l q) := h.macControl
protected theorem Kept.sendPfc {mask q : Nat} (h : Kept P s) : Kept P (sendPfc s n l mask q) := h.macControl

protected theorem Kept.sendReq {req q : Nat} (h : Kept P s) : Kept P (sendReq s n l req q) :=
  Kept.ite (Kept.ite (Kept.ite h.sendPause h).sendPfc (Kept.ite h.sendPause h)) h

protected theorem Kept.setReq {req : Nat} (h : Kept P s) : Kept P (setReq s n l req) := Kept.ite h h.modPort.put.sendReq.sendReq

/-! ### Conts -/

protected theorem Kept.dropDownTrib (h : Kept P s) : Kept P (dropDownTrib s t) := h.upd.showTribFault

protected theorem Kept.showTrib (h : Kept P s) : Kept P (showTrib s p t) := h.putB.putB.showTribFault

/-! ### Alarm -/

protected theorem Kept.alarmResult (h : Kept P s) : Kept P (alarmResult s k c) := h.put
protected theorem Kept.alarmRefused (h : Kept P s) : Kept P (alarmRefused s k c) := (Kept.ite h.put h).alarmResult

protected theorem Kept.armNow (h : Kept P s) : Kept P (armNow s k) := by
  grind [armNow, Kept.alarmRefused, Kept.alarmResult, Kept.putB, Kept.put]

protected theorem Kept.armAt {cw period : Nat} (h : Kept P s) : Kept P (armAt s k fn cw period) := h.put.put.put.armNow
protected theorem Kept.disarm (h : Kept P s) : Kept P (disarm s k c) := Kept.ite h.put.alarmResult h

protected theorem Kept.alarmArm {ctrl : Word} (h : Kept P s) : Kept P (alarmArm r k ctrl s) :=
  h.onWrite fun _ ht => Kept.ite ht.alarmResult (Kept.ite ht.alarmResult (Kept.ite ht.put.put.put ht.put.put).armNow)

protected theorem Kept.alarmDisarm (h : Kept P s) : Kept P (alarmDisarm r k s) :=
  h.onWrite fun _ ht => Kept.ite ht.alarmResult (Kept.ite ht.alarmResult ht.disarm)

protected theorem Kept.reach {b : Nat} (h : Kept P s) : Kept P (reach s b c) := by
  grind [reach, Kept.put, Kept.setPathTime]

/-! ### Banks -/

protected theorem Kept.setLoaded (h : Kept P s) : Kept P (setLoaded s i) := h.put
protected theorem Kept.modOther {f : Cfg → Cfg} (h : Kept P s) : Kept P (modOther s f) := h
protected theorem Kept.putOther (h : Kept P s) : Kept P (putOther s f v) := h.modOther
/-- The active bank after it took parts of another one: of the change of banks only the windows count. -/
protected theorem Kept.setActive [Switching P] {c : Cfg} (h : Kept P s) : Kept P (setActive s c) := Switching.switch _ h c.bank.windows

protected theorem Kept.modBanks {f : Bank → Bank} (h : Kept P s) (hf : ∀ b, (f b).windows = b.windows := by intro; rfl) :
    Kept P (modBanks s i f) := (Kept.ite h h.modOther).upd (by rw [modBanks, privileges, hf, privileges])

protected theorem Kept.modStaged {f : Bank → Bank} (h : Kept P s) : Kept P (modStaged s i f) := h.upd.setLoaded
protected theorem Kept.putExpert (h : Kept P s) : Kept P (putExpert s i f v) := (Kept.ite h h.putOther).put

/-! ### HifTx -/

protected theorem Kept.coalesce {src owner : Nat} (h : Kept P s) : Kept P (coalesce s src owner n) := Kept.ite h.upd.deliverOwned h
protected theorem Kept.advanceHead (h : Kept P s) : Kept P (advanceHead s t) := h.upd.put

protected theorem Kept.writeBack {r : TxRef} {ts status : Nat} {valid stale timedOut : Bool} (h : Kept P s) :
    Kept P (writeBack s r ts status valid stale timedOut) := by
  unfold writeBack
  split
  · exact h
  · exact Kept.ite h.upd h.emit.upd.advanceHead.coalesce

protected theorem Kept.fate {tx : Option TxRef} {status : Nat} {ts : Option (Nat × Bool)} (h : Kept P s) : Kept P (fate s tx status ts) := by
  unfold fate
  grind [Kept.writeBack]

/-! ### Bpm -/

protected theorem Kept.modBpm {f : Bpm → Bpm} (h : Kept P s) : Kept P (modBpm s n f) := h.modPkt
protected theorem Kept.backpressure (h : Kept P s) : Kept P (backpressure s n) := (h.foldl fun _ _ ht => ht.setReq).putB

protected theorem Kept.updateLevel (h : Kept P s) : Kept P (updateLevel s n t) := by
  grind [updateLevel, Kept.put, Kept.raise, Kept.backpressure]

protected theorem Kept.charge (h : Kept P s) : Kept P (charge s n o t k) := h.modBpm.put.putMax.updateLevel
protected theorem Kept.uncharge (h : Kept P s) : Kept P (uncharge s n o t k) := h.modBpm.put.updateLevel
protected theorem Kept.moveCharge (h : Kept P s) : Kept P (moveCharge s n o p t k) := h.modBpm.updateLevel
protected theorem Kept.spendTone (h : Kept P s) : Kept P (spendTone s n o len) := Kept.ite h.modBpm h

protected theorem Kept.pickCells (h : Kept P s) : Kept P (pickCells s n k).1 := by
  grind [pickCells, Kept.stepFree, Kept.foldl, Kept.foldlFst]

protected theorem Kept.newBuf {q : Option Nat} (h : Kept P s) : Kept P (newBuf s n o q bs).1 := by
  grind [newBuf, Kept.pickCells, Kept.modBpm, Kept.monIn, Kept.charge, Kept, privileges]

protected theorem Kept.alloc {q : Option Nat} (h : Kept P s) : Kept P (alloc s n o q bs).1 := by
  grind [alloc, Kept.newBuf, Kept.spendTone]

protected theorem Kept.bpmDiscard (h : Kept P s) : Kept P (bpmDiscard s n code) := h.discard
protected theorem Kept.bpmDrop {q : Nat} (h : Kept P s) : Kept P (bpmDrop s n q code) := h.discardOf

protected theorem Kept.unitRelease (h : Kept P s) : Kept P (unitRelease s n t u) := by
  grind [unitRelease, Kept.modBpm, Kept.uncharge, Kept, privileges]

protected theorem Kept.freeSpace {x : Buf} (h : Kept P s) : Kept P (freeSpace s n x) := by
  grind [freeSpace, Kept.uncharge, Kept.unitRelease, Kept.foldl]

protected theorem Kept.settleBuf {b : Nat} {x : Buf} (h : Kept P s) : Kept P (settleBuf s n b x) :=
  Kept.ite h.modBpm.modBpm.freeSpace.monOut (Kept.ite h.modBpm.modBpm.moveCharge h.modBpm)

protected theorem Kept.relQ {b : Nat} (h : Kept P s) : Kept P (relQ s n b) := by
  grind [relQ, Kept.settleBuf, Kept, privileges]

protected theorem Kept.relRet {b : Nat} (h : Kept P s) : Kept P (relRet s n b) := by
  grind [relRet, Kept.settleBuf, Kept, privileges]

protected theorem Kept.relPin {b : Nat} (h : Kept P s) : Kept P (relPin s n b) := by
  grind [relPin, Kept.settleBuf, Kept, privileges]

protected theorem Kept.takePin {b : Nat} (h : Kept P s) : KeptOpt P (takePin s n b) := by
  grind [takePin, Kept.settleBuf, Kept, privileges, KeptOpt]

protected theorem Kept.takeRet {b : Nat} (h : Kept P s) : KeptOpt P (takeRet s n b) := by
  grind [takeRet, Kept.settleBuf, Kept, privileges, KeptOpt]

protected theorem Kept.rewriteBuf {b : Nat} {x : Buf} (h : Kept P s) : Kept P (rewriteBuf s n b x bs) := Kept.ite h.modBpm.uncharge h.modBpm
protected theorem Kept.relEntry {f : QFrame} (h : Kept P s) : Kept P (relEntry s n f) := Kept.ite h.relPin h.relQ

protected theorem Kept.placeIn {list : Nat} (h : Kept P s) : Kept P (placeIn s n o t list bs fuel).1 := by
  induction fuel generalizing s bs with
  | zero => exact h
  | succ fuel ih => grind [placeIn, Kept.modBpm, Kept.stepFree, Kept.charge, Kept, privileges]

protected theorem Kept.demoteTo {b : Nat} (h : Kept P s) : KeptOpt P (demoteTo s n b t) := by
  grind [demoteTo, Kept.placeIn, Kept.addTo, Kept.modBpm, Kept.freeSpace, Kept, privileges, KeptOpt]

protected theorem Kept.promote {b : Nat} (h : Kept P s) : Kept P (promote s n b) := by
  unfold promote
  split
  · exact h
  split
  · exact h
  · exact Kept.ite h (h.pickCells.addTo.modBpm.charge.foldl fun _ _ ht => ht.unitRelease)

protected theorem Kept.scanBuf {b behind keep : Nat} (h : Kept P s) : Kept P (scanBuf s n b behind keep) := by
  have hd : ∀ t, KeptOpt P (demoteTo s n b t) := fun _ => h.demoteTo
  unfold scanBuf
  grind [KeptOpt, KeptOpt.getD]

protected theorem Kept.scanQueue {l : List QFrame} {behind : Nat} (h : Kept P s) : Kept P (scanQueue s n l behind) := by
  induction l generalizing s behind with
  | nil => exact h
  | cons y l ih => grind [scanQueue, Kept.scanBuf]

protected theorem Kept.hopResult {count : Nat} (h : Kept P s) : Kept P (hopResult s n code count) := h.put.putB.put

protected theorem Kept.freeRefused {ev : Fld} {named actual : Nat} (h : Kept P s) : Kept P (freeRefused s ev n named actual) := by
  grind [freeRefused, Kept.raiseWith, Kept.monEvent, Kept.offerArgs, Kept.modBpm, Kept.raiseAt, Kept, privileges]

protected theorem Kept.hopFree (h : Kept P s) : Kept P (hopFree s n) := by
  grind [hopFree, Kept.hopResult, Kept.freeRefused, Kept.settleBuf, Kept.bpmDiscard, Kept, privileges]

protected theorem Kept.hopAddref (h : Kept P s) : Kept P (hopAddref s n) := by
  have hp : ∀ b, KeptOpt P (takePin s n b) := fun _ => h.takePin
  unfold hopAddref
  grind [Kept.hopResult, Kept.raiseGrey, Kept.bpmDiscard, KeptOpt]

protected theorem Kept.hopRead (h : Kept P s) : Kept P (hopRead s n k) := by
  grind [hopRead, Kept.hopResult, Kept.raiseGrey, Kept.bpmDiscard, Kept.put, Kept.stepFree, Kept.foldl]

protected theorem Kept.ownerRestore (h : Kept P s) : Kept P (ownerRestore s n o) := h.modBpm

/-! ### Tmg -/

protected theorem Kept.modTmg {f : Tmg → Tmg} (h : Kept P s) : Kept P (modTmg s n f) := h.modPkt
protected theorem Kept.setQueue {q : Nat} {l : List QFrame} (h : Kept P s) : Kept P (setQueue s n q l) := h.modTmg
protected theorem Kept.setMeter {m : Meter} (h : Kept P s) : Kept P (setMeter s n k m) := h.modTmg
protected theorem Kept.offWheel (h : Kept P s) : Kept P (offWheel s n key) := h.modTmg

protected theorem Kept.meterApply (h : Kept P s) : Kept P (meterApply s n k) := by
  grind [meterApply, Kept.setMeter, Kept.modTmg, Kept.offWheel, Kept.foldl, Kept, privileges]

protected theorem Kept.onWheel {m : Meter} (h : Kept P s) : Kept P (onWheel s n key m) := h.modTmg

protected theorem Kept.chargeShaper {withFcs_ : Bool} (h : Kept P s) : Kept P (chargeShaper s n i key len withFcs_) := by
  grind [chargeShaper, Kept.setMeter, Kept.onWheel, Kept, privileges]

protected theorem Kept.refill (h : Kept P s) : Kept P (refill s n k) := by
  grind [refill, Kept.setMeter, Kept.offWheel, Kept.onWheel, Kept.foldl]

protected theorem Kept.frameLost {ing : Ingress} {ts : Bool} {tx : Option TxRef} {meta_ q : Nat} (h : Kept P s) :
    Kept P (frameLost s n ing ts tx meta_ q code bs) :=
  (Kept.ite h.tsqPush h).fate

protected theorem Kept.tmgDiscard {q : Nat} (h : Kept P s) : Kept P (tmgDiscard s n q code) := h.discardOf
protected theorem Kept.enqueueDrop {q : Nat} (h : Kept P s) : Kept P (enqueueDrop s n q code) := h.tmgDiscard.raiseAt
protected theorem Kept.append {q : Nat} {f : QFrame} (h : Kept P s) : Kept P (append s n q f) := h.setQueue.monIn

protected theorem Kept.allocRefused {r : RetryReq} (h : Kept P s) : Kept P (allocRefused s n o code ids r) :=
  Kept.ite (Kept.ite h.greyOf h).modBpm (Kept.ite h.greyOf h).discardOf.frameLost

protected theorem Kept.allocTo {q : Nat} {f : QFrame} {since : Option Nat} {who : Nat} (h : Kept P s) : Kept P (allocTo s n q f bs since who) := by
  grind [allocTo, Kept.alloc, Kept.append, Kept.allocRefused, Kept, privileges]

protected theorem Kept.modPrs {f : Prs → Prs} (h : Kept P s) : Kept P (modPrs s n f) := h.modPkt
protected theorem Kept.ingress {p : PPkt} (h : Kept P s) : Kept P (ingress s n p) := h.worked.modPrs

protected theorem Kept.injectTo {pipe : Nat} {tx : Option TxRef} {since : Option Nat} (h : Kept P s) : Kept P (injectTo s n pipe o tx bs since) := by
  grind [injectTo, Kept.alloc, Kept.ingress, Kept.allocRefused]

protected theorem Kept.enqueueFor {q : Nat} {f : QFrame} {who : Nat} (h : Kept P s) : Kept P (enqueueFor s n q f bs who) := by
  grind [enqueueFor, Kept.worked, Kept.frameLost, Kept.enqueueDrop, Kept.allocTo]

protected theorem Kept.enqueue {q : Nat} {f : QFrame} (h : Kept P s) : Kept P (enqueue s n q f bs) := h.enqueueFor

protected theorem Kept.enqueueOwned {q : Nat} {f : QFrame} {b : Nat} (h : Kept P s) : Kept P (enqueueOwned s n q f bs b) := by
  grind [enqueueOwned, Kept.frameLost, Kept.enqueueDrop, Kept.relQ, Kept.append, Kept.modBpm, Kept, privileges]

protected theorem Kept.enqueueShared {q : Nat} {f : QFrame} {b : Nat} (h : Kept P s) : Kept P (enqueueShared s n q f b) := by
  have hp : KeptOpt P (takePin s n b) := h.takePin
  grind [enqueueShared, Kept.enqueueDrop, Kept.greyOf, Kept.bpmDrop, Kept.append, KeptOpt]

protected theorem Kept.linkLost {x : LinkItem} (h : Kept P s) : Kept P (linkLost s x code) := by
  cases x <;> grind [linkLost, Kept.fate, Kept.frameLost]

protected theorem Kept.pthDiscard (h : Kept P s) : Kept P (pthDiscard s code) := h.discard

protected theorem Kept.overLink {x : LinkItem} {k : State → State} (h : Kept P s) (hk : ∀ t, Kept P t → Kept P (k t)) :
    Kept P (overLink s n x k) :=
  Kept.ite h.linkDiscard.linkLost (Kept.ite h.pthDiscard.linkLost (Kept.ite h.upd (hk s h)))

protected theorem Kept.enqueueAcross {r q : Nat} {f : QFrame} (h : Kept P s) : Kept P (enqueueAcross s r n q f bs) :=
  h.overLink fun _ ht => ht.enqueueFor

protected theorem Kept.dropHeld (h : Kept P s) : Kept P (dropHeld s n) := h.upd.foldl fun _ _ ht => ht.linkDiscard.linkLost
protected theorem Kept.emptied {ahead : Bool} (h : Kept P s) : Kept P (emptied s n ahead) := h.modTmg

protected theorem Kept.takeFrame {e : PickEnv} {c : Cand} (h : Kept P s) : Kept P (takeFrame s e c).1 := by
  unfold takeFrame
  split
  · exact h
  · refine Kept.monOut (Kept.foldl (Kept.ite (Kept.chargeShaper ?_) ?_) fun t m ht => ?_)
    · exact (h.setQueue.foldl fun _ _ ht => ht.modTmg).emptied
    · exact (h.setQueue.foldl fun _ _ ht => ht.modTmg).emptied
    · split
      · split
        · exact ht.chargeShaper
        · exact ht
      · exact ht

protected theorem Kept.poisonDrop {f : QFrame} (h : Kept P s) : Kept P (poisonDrop s n f) := h.relEntry.bpmDrop.frameLost.greyOf

protected theorem Kept.flushQueue {q : Nat} (h : Kept P s) : Kept P (flushQueue s n q) :=
  Kept.ite h (h.setQueue.foldl fun _ _ ht => ht.relEntry.tmgDiscard.frameLost).emptied.raiseAt

protected theorem Kept.retryClock (h : Kept P s) : Kept P (retryClock s n) := by
  grind [retryClock, Kept.modBpm, Kept.injectTo, Kept.allocTo, Kept.foldl, Kept, privileges, Kept.foldlFst]

protected theorem Kept.promotionDone {q b : Nat} (h : Kept P s) : Kept P (promotionDone s n q b) :=
  Kept.ite (h.setQueue.modBpm.foldl fun _ _ ht => ht.poisonDrop).emptied (Kept.ite h.promote.modBpm h.promote)

protected theorem Kept.scanRetained {l : List UpSeg} (h : Kept P s) : Kept P (scanRetained s n l) := by
  grind [scanRetained, Kept.scanBuf, Kept.foldl]

/-! ### Token -/

protected theorem Kept.tokenCount (h : Kept P s) : Kept P (tokenCount s) := h.put

protected theorem Kept.tokenWait {r : Ramp} {w : Bool} (h : Kept P s) : Kept P (tokenWait s r w) := by
  cases r <;> grind [tokenWait, Kept.putB, Kept.put, Kept.foldl]

protected theorem Kept.tokenJoin {r : Ramp} (h : Kept P s) : Kept P (tokenJoin s r) := h
protected theorem Kept.tokenRequest {r : Ramp} (h : Kept P s) : Kept P (tokenRequest s r) := Kept.ite h h.tokenJoin.tokenCount.tokenWait

protected theorem Kept.tokenTake (h : Kept P s) : Kept P (tokenTake s) := by
  unfold tokenTake
  split
  · exact h.upd.put.tokenCount.tokenWait
  · exact h

protected theorem Kept.tokenRelease {r : Ramp} (h : Kept P s) : Kept P (tokenRelease s r) :=
  Kept.ite h.upd.tokenCount.tokenWait.put h.upd.tokenCount.tokenWait

/-! ### FltReport -/

protected theorem Kept.modFlt {r : Nat} {f : FltRegion → FltRegion} (h : Kept P s) : Kept P (modFlt s r f) := h
protected theorem Kept.rpmFault (h : Kept P s) : Kept P (rpmFault s n kind block cell) := Kept.ite h.inc h.inc.put.put.putB.put.raiseGrey

protected theorem Kept.fltSafe {v : Sev} (h : Kept P s) : Kept P (fltSafe s f v region kind block cell) :=
  Kept.ite (h.stepFree.offerTo fun _ _ ht => ht.jetOnly) h

protected theorem Kept.fltRecord {v : Sev} (h : Kept P s) : Kept P (fltRecord s f v region kind block cell) := by
  refine Kept.ite h.fltSafe ?_
  extract_lets s1 s2 s3 s4
  have h2 : Kept P s2 := h.put.put.put.put.put
  have h3 : Kept P s3 := Kept.ite h2.rpmFault h2
  have h4 : Kept P s4 := Kept.ite h3.put.put h3
  exact Kept.ite h4.offer h4.raiseFor

protected theorem Kept.contained (h : Kept P s) : Kept P (contained s region block cell) := Kept.ite h.fltRecord h.fltRecord.modFlt
protected theorem Kept.endTransition (h : Kept P s) : Kept P (endTransition s n) := h.tokenRelease.putB.put.upd.dropHeld

protected theorem Kept.startF1 {r : Nat} {manual : Bool} (h : Kept P s) : Kept P (startF1 s r manual) :=
  have h1 : Kept P (modFlt s r fun f => { f with step := 1, at_ := ticks s, manual := manual }) := h.modFlt
  Kept.ite h1.endTransition.putB (Kept.ite h1.upd h1)

protected theorem Kept.isolate {r : Nat} {manual : Bool} (h : Kept P s) : Kept P (isolate s r manual) := Kept.ite h.startF1.startF1 h.startF1

protected theorem Kept.regionFault {r : Nat} (h : Kept P s) : Kept P (regionFault s r kind block cell) :=
  Kept.ite h.fltRecord h.fltRecord.isolate

/-! ### LaneBase -/

protected theorem Kept.laneStep (h : Kept P s) : Kept P (laneStep s p v) := h.modLane.putB.put

protected theorem Kept.engineRequest {e : Nat} (h : Kept P s) : Kept P (engineRequest s e) := by
  grind [engineRequest, Kept.tokenRequest]

protected theorem Kept.laneAdvance (h : Kept P s) : Kept P (laneAdvance s p) := by
  grind [laneAdvance, Kept.put, Kept.putB, Kept.laneStep, Kept.raiseGrey, Kept.engineRequest]

protected theorem Kept.laneRetarget (h : Kept P s) : Kept P (laneRetarget s p v) := h.put.laneAdvance
protected theorem Kept.laneForceOff (h : Kept P s) : Kept P (laneForceOff s p) := h.modLane.laneRetarget
protected theorem Kept.scopeLane (h : Kept P s) : Kept P (scopeLane s p) := Kept.ite h.fltRecord h.fltRecord.modLane.laneForceOff

/-! ### Light -/

protected theorem Kept.tapSettle (h : Kept P s) : Kept P (tapSettle s) := Kept.ite h.upd.emit h

protected theorem Kept.setCeil [Falling P] {v : Int} (h : Kept P s) (hv : v ≤ ceilOf s q) : Kept P (setCeil s q v) := by
  cases q
  · exact Falling.fall _ h s.hif.p0 v s.saf.ceilB id hv (Int.le_refl _)
  · exact Falling.fall _ h s.hif.p0 s.saf.ceilA v id (Int.le_refl _) hv

protected theorem Kept.showEnergy (h : Kept P s) : Kept P (showEnergy s q) := by
  cases q <;> grind [showEnergy, Kept.put]

protected theorem Kept.chargePath {bin : Nat} (h : Kept P s) : Kept P (chargePath s q p bin n) := h.upd.showEnergy
protected theorem Kept.keepBursts {k : Burst → Bool} (h : Kept P s) : Kept P (keepBursts s k) := h

protected theorem Kept.loseBurst {b : Burst} (h : Kept P s) : Kept P (loseBurst s b c) := by
  grind [loseBurst, Kept.keepBursts, Kept.inc, Kept.greyOf, Kept.foldl]

protected theorem Kept.armNext (h : Kept P s) : Kept P (armNext s p fuel) := by
  induction fuel generalizing s with
  | zero => exact h
  | succ fuel ih => grind [armNext, Kept.armAt, Kept.loseBurst]

protected theorem Kept.rearmLane (h : Kept P s) : Kept P (rearmLane s p) := by
  grind [rearmLane, Kept.disarm, Kept.armNext]

protected theorem Kept.queueBurst {b : Burst} (h : Kept P s) : Kept P (queueBurst s b) := h.monCount.upd.rearmLane
protected theorem Kept.downBursts (h : Kept P s) : Kept P (downBursts s p) := Kept.ite h (h.foldl fun _ _ ht => ht.loseBurst).rearmLane
protected theorem Kept.sendLight {b : Burst} (h : Kept P s) : Kept P (sendLight s b) := h.emit

protected theorem Kept.endBursts (h : Kept P s) : Kept P (endBursts s) := by
  grind [endBursts, Kept.sendLight, Kept.keepBursts, Kept.putB, Kept.foldl]

protected theorem Kept.cutBursts (h : Kept P s) : Kept P (cutBursts s) :=
  h.foldl fun _ _ ht => (Kept.ite (ht.foldl fun _ _ ht1 => ht1.put) (ht.foldl fun _ _ ht1 => ht1.put).sendLight).loseBurst.emit

protected theorem Kept.showDark (h : Kept P s) : Kept P (showDark s p) := Kept.ite h h.putB
protected theorem Kept.gatesChanged (h : Kept P s) : Kept P (gatesChanged s) := (h.cutBursts.foldl fun _ _ ht => ht.showDark).endBursts

protected theorem Kept.presentOne {b : Burst} (h : Kept P s) : Kept P (presentOne s b) := by
  refine Kept.ite h.chargePath.upd (Kept.rearmLane (Kept.loseBurst ?_))
  split
  · exact h.inc.raiseGrey
  · exact h.inc.raiseGrey

protected theorem Kept.presentBurst {b : Burst} (h : Kept P s) : Kept P (presentBurst s b fuel) := by
  induction fuel generalizing s b with
  | zero => grind [presentBurst,Kept.presentOne]
  | succ fuel ih => grind [presentBurst, Kept.presentOne, Kept.rearmLane, Kept.loseBurst]

protected theorem Kept.sentAlloc {b : Burst} {reps : List (Nat × Nat × Option Bool)} {ids : List Nat} (h : Kept P s) :
    Kept P (sentAlloc s b reps ids) := by
  grind [sentAlloc, Kept.put, Kept.putB, Kept.addTo, Kept.foldl]

protected theorem Kept.launchBurst {b : Burst} (h : Kept P s) : Kept P (launchBurst s b uw) :=
  Kept.ite h.loseBurst (Kept.ite h.loseBurst
    ((h.updUpb.inc.when Kept.sendLight).monOut.monCount.monCount.monCount.monCount.addTo.sentAlloc.updSaf.put.when Kept.inc).endBursts)

protected theorem Kept.burstLaunch (h : Kept P s) : Kept P (burstLaunch s p uw) := by
  grind [burstLaunch, Kept.presentBurst, Kept.launchBurst, Kept.rearmLane, Kept, privileges]

protected theorem Kept.safPresent (h : Kept P s) : Kept P (safPresent s p) := by
  grind [safPresent, Kept.reach, Kept.presentBurst, Kept.rearmLane, Kept.loseBurst]

/-! ### Defects -/

protected theorem Kept.markSecond (h : Kept P s) : Kept P (markSecond s p k) := h.livePut
protected theorem Kept.putReport {r : Option Nat} (h : Kept P s) : Kept P (putReport s p r) := h.foldl fun _ _ ht => ht.putB
protected theorem Kept.showTribs (h : Kept P s) : Kept P (showTribs s p) := h.foldl fun _ _ ht => ht.showTrib

protected theorem Kept.report (h : Kept P s) : Kept P (report s p) := by
  unfold report
  extract_lets old new active s1 s2 s3 s4 s5 s6
  have h4 : Kept P s4 := ((h.putB.unless Kept.markSecond).unless Kept.putReport).unless Kept.showTribs
  clear_value new old
  have h5 : Kept P s5 := by
    cases new with
    | some k => exact h4.when Kept.modDfrLane
    | none => exact h4
  have h6 : Kept P s6 := by
    cases old with
    | some k => exact h5.when Kept.raiseGrey
    | none => exact h5
  cases new with
  | some k => exact h6.markSecond.unless Kept.raiseGrey
  | none => exact h6

protected theorem Kept.hunt (h : Kept P s) : Kept P (hunt s p) := h.putB.put.modDfrLane
protected theorem Kept.freshLane (h : Kept P s) : Kept P (freshLane s p) := h.hunt.modDfrLane

protected theorem Kept.aprCheck (h : Kept P s) : Kept P (aprCheck s q) := by
  grind [aprCheck, Kept.putB, Kept.raiseGrey]

protected theorem Kept.unestablish (h : Kept P s) : Kept P (unestablish s p) := Kept.ite h.modLane h
protected theorem Kept.evalSd (h : Kept P s) : Kept P (evalSd s p) := Kept.ite h.modDfrLane h

/-! ### Groups -/

protected theorem Kept.sealResult {field rule : Nat} (h : Kept P s) : Kept P (sealResult s g code field rule) := h.put.put.put
protected theorem Kept.groupClear (h : Kept P s) : Kept P (groupClear s g) := h.upd.put

protected theorem Kept.supersede {secs : Nat} (h : Kept P s) : Kept P (supersede s secs) :=
  h.foldl fun _ _ ht => Kept.ite ht.groupClear.sealResult ht

/-! ### Prs -/

protected theorem Kept.searchAll {p : PPkt} {layers : List (Nat × Nat)} {lam : Nat} (h : Kept P s) : Kept P (searchAll s n p layers lam).1 := by
  grind [searchAll, Kept.liveAdd, Kept.foldl, Kept.foldlFst]

protected theorem Kept.sramWrite (h : Kept P s) : Kept P (sramWrite s off bs) := h

protected theorem Kept.slowDescriptor {p : PPkt} {b : Nat} {copy : Bool} (h : Kept P s) : Kept P (slowDescriptor s n p b code len copy) := by
  grind [slowDescriptor, Kept.sramWrite, Kept.put]

protected theorem Kept.slowSpend (h : Kept P s) : Kept P (slowSpend s n) := h.modPrs
protected theorem Kept.slowRefused {p : PPkt} (h : Kept P s) : Kept P (slowRefused s n p code) := Kept.ite h.greyOf h.raiseGrey
protected theorem Kept.passDone {p : PPkt} (h : Kept P s) : Kept P (passDone s n p) := h.inc
protected theorem Kept.dispCount {p : PPkt} (h : Kept P s) : Kept P (dispCount s n p code) := h.discardOf

protected theorem Kept.prsDrop {p : PPkt} (h : Kept P s) : Kept P (prsDrop s n p code) := by
  grind [prsDrop, Kept.relQ, Kept.frameLost, Kept.dispCount, Kept.passDone]

protected theorem Kept.crossDrop {p : PPkt} (h : Kept P s) : Kept P (crossDrop s n p) := by
  grind [crossDrop, Kept.relQ, Kept.frameLost, Kept.linkDiscard, Kept.passDone]

protected theorem Kept.toSlow {p : PPkt} {isReason : Bool} (h : Kept P s) : Kept P (toSlow s n p code isReason).1 := by
  have held {t : State} {b : Nat} (ht : Kept P t) : Kept P (match bufOf t n b with
      | some x => settleBuf t n b { x with refPin := x.refPin + 1, refQ := x.refQ - 1 }
      | none => t) := by
    split
    · exact ht.settleBuf
    · exact ht
  have alloced : Kept P (match p.buf with
      | some b => (slowSpend s n, Except.ok b)
      | none => alloc (slowSpend s n) n 0 none p.bytes).1 := by
    split
    · exact h.slowSpend
    · exact h.slowSpend.alloc
  unfold toSlow
  split
  · exact h.crossDrop
  split
  · exact h.slowRefused.prsDrop
  dsimp only
  split
  · exact alloced.passDone.bpmDiscard.frameLost
  · refine Kept.fate (Kept.when (Kept.ite ?_ ?_) Kept.tsqPush)
    · exact (held alloced).slowDescriptor.passDone
    · exact (held alloced).slowDescriptor.passDone.dispCount

protected theorem Kept.copyToSlow {p : PPkt} {b : Option Nat} {reason : Nat} (h : Kept P s) : Kept P (copyToSlow s n p b reason len) := by
  have hp : ∀ b, KeptOpt P (takePin (slowSpend s n) n b) := fun _ => h.slowSpend.takePin
  have ha : Kept P (alloc (slowSpend s n) n 0 none (p.bytes.take len)).1 := h.slowSpend.alloc
  grind [copyToSlow, Kept.linkDiscard, Kept.slowRefused, Kept.slowSpend, Kept.slowDescriptor, Kept.raiseGrey, Kept.bpmDiscard, Kept.settleBuf,
    KeptOpt]

protected theorem Kept.mirrorDue {p : PPkt} (h : Kept P s) : Kept P (mirrorDue s n p m).1 := by
  grind [mirrorDue, Kept.modPrs, Kept, privileges]

protected theorem Kept.mirrorCopy {p : PPkt} {b : Option Nat} {cls : Nat} (h : Kept P s) : Kept P (mirrorCopy s n p b m cls) := by
  grind [mirrorCopy, Kept.inc, Kept.copyToSlow, Kept.greyOf, Kept.enqueueAcross, Kept.enqueueShared, Kept.enqueue, Kept, privileges]

protected theorem Kept.makeCopies {p : PPkt} {l : List Copy} {b : Option Nat} {cls slow mir : Nat} (h : Kept P s) :
    Kept P (makeCopies s n p l b cls slow mir) := by
  induction l generalizing s slow mir with
  | nil => exact h
  | cons c l ih =>
    cases c with
    | slow r => exact Kept.ite (ih h.copyToSlow) (ih h.inc)
    | mirror m => grind [makeCopies, Kept.mirrorDue, Kept.mirrorCopy, Kept.inc]

protected theorem Kept.endWithCopies {p : PPkt} {l : List Copy} {k : State → State × Option Nat} (h : Kept P s)
    (hk : ∀ t, Kept P t → Kept P (k t).1) : Kept P (endWithCopies s n p l k) := by
  unfold endWithCopies
  split
  · exact hk _ h.makeCopies
  · exact (hk s h).makeCopies

protected theorem Kept.settlePkt {p : PPkt} (h : Kept P s) : Kept P (settlePkt s n p).1 := by
  grind [settlePkt, Kept.rewriteBuf, Kept.relQ, Kept, privileges]

protected theorem Kept.polCount (h : Kept P s) : Kept P (polCount s n a len) := Kept.ite h.liveAdd.liveAdd h

protected theorem Kept.police (h : Kept P s) : Kept P (police s n a len ids).1 := by
  grind [police, Kept.liveAdd, Kept.setMeter, Kept.greyOf, Kept.discardOf, Kept, privileges]

protected theorem Kept.recUse (h : Kept P s) : Kept P (recUse s n) := h.put.putMax
protected theorem Kept.recFull {full : Bool} (h : Kept P s) : Kept P (recFull s n k full) := h.modPrs.putB

protected theorem Kept.recirculate {p next : PPkt} (h : Kept P s) : Kept P (recirculate s n p next) :=
  Kept.ite h.prsDrop.recFull.greyOf h.modPrs.recUse

protected theorem Kept.recircEnd {p : PPkt} (h : Kept P s) : Kept P (recircEnd s n p a).1 := by
  grind [recircEnd, Kept.toSlow, Kept.prsDrop, Kept.recirculate, Kept, privileges]

protected theorem Kept.deliverPkt {p : PPkt} (h : Kept P s) : Kept P (deliverPkt s n p g).1 := by
  grind [deliverPkt, Kept.greyOf, Kept.prsDrop, Kept.monOut, Kept.passDone, Kept.relQ, Kept.enqueueAcross, Kept.enqueueOwned, Kept.enqueue]

protected theorem Kept.policeDrop {p : PPkt} (h : Kept P s) : Kept P (policeDrop s n p) := by
  grind [policeDrop, Kept.relQ, Kept.frameLost, Kept.passDone]

protected theorem Kept.applyAction {p : PPkt} {byDefault : Bool} {others : List Copy} (h : Kept P s) :
    Kept P (applyAction s n p a byDefault others) := by
  grind [applyAction, Kept.polCount, Kept.monIn, Kept.endWithCopies, Kept.prsDrop, Kept.police, Kept.whenB, Kept.monOut, Kept.policeDrop,
      Kept.recircEnd, Kept.toSlow, Kept.deliverPkt]

protected theorem Kept.pass {p : PPkt} (h : Kept P s) : Kept P (pass s n p) := by
  grind [pass, Kept.monIn, Kept.settlePkt, Kept.toSlow, Kept.greyOf, Kept.prsDrop, Kept.searchAll, Kept.applyAction, Kept, privileges]

protected theorem Kept.nextPacket (h : Kept P s) : Kept P (nextPacket s n k).1 := by
  grind [nextPacket, Kept.modPrs, Kept.recFull, Kept.recUse, Kept, privileges]

protected theorem Kept.drainPipe (h : Kept P s) : Kept P (drainPipe s n k fuel) := by
  induction fuel generalizing s with
  | zero => exact h
  | succ fuel ih => grind [drainPipe, Kept.nextPacket, Kept.pass]

protected theorem Kept.drainPipes (h : Kept P s) : Kept P (drainPipes s n) := h.foldl fun _ _ ht => ht.drainPipe

protected theorem Kept.firmwareMessage {p : PPkt} (h : Kept P s) : Kept P (firmwareMessage s n p) := by
  have ha : Kept P (alloc (slowSpend s n) n 0 none p.bytes).1 := h.slowSpend.alloc
  grind [firmwareMessage, Kept.dispCount, Kept.slowRefused, Kept.bpmDiscard, Kept.settleBuf, Kept.stepFree, Kept.slowDescriptor]

protected theorem Kept.lineFrame {p : PPkt} {fw : Bool} (h : Kept P s) : Kept P (lineFrame s n p fw) := Kept.ite h.firmwareMessage h.ingress

/-! ### Rings -/

protected theorem Kept.modHif {f : Hif → Hif} (h : Kept P s) (hf : ∀ x, (f x).p0 = x.p0 := by intro; rfl) : Kept P (modHif s f) :=
  h.upd (by rw [modHif, privileges, hf, privileges])

protected theorem Kept.hifDiscard (h : Kept P s) : Kept P (hifDiscard s code) := h.discard

protected theorem Kept.ringWrite {owner : Nat} {k : State → State} (h : Kept P s) (hk : ∀ t, Kept P t → Kept P (k t)) :
    Kept P (ringWrite s r a owner k) :=
  Kept.ite (h.onWrite fun t ht => Kept.ite ht (hk t ht)) h.deny

protected theorem Kept.releaseHolds (h : Kept P s) : Kept P (releaseHolds s t) := (h.modHif.foldl fun _ _ ht => ht.relPin).put
protected theorem Kept.stopTx (h : Kept P s) : Kept P (stopTx s t) := h.modHif.putB.put.put.put
protected theorem Kept.stopRx (h : Kept P s) : Kept P (stopRx s t) := h.releaseHolds.modHif.putB.put.put

protected theorem Kept.stopRingsOf (h : Kept P s) : Kept P (stopRingsOf s fn) :=
  h.foldl fun _ _ ht => Kept.ite (Kept.ite ht.stopTx ht).stopRx (Kept.ite ht.stopTx ht)

protected theorem Kept.takeDescriptor (h : Kept P s) : Kept P (takeDescriptor s t).1 := by
  grind [takeDescriptor, Kept.put, Kept.modHif, Kept, privileges]

protected theorem Kept.txRefused {ref : TxRef} (h : Kept P s) : Kept P (txRefused s ref c) :=
  (Kept.ite h.hifDiscard.raiseGrey h.hifDiscard).writeBack

protected theorem Kept.txDescriptor {d : TxDesc} (h : Kept P s) : Kept P (txDescriptor s t d) := by
  grind [txDescriptor, Kept.takeDescriptor, Kept.txRefused, Kept.monIn, Kept.inc, Kept.injectTo]

protected theorem Kept.rxWriteBack {d : List Byte} (h : Kept P s) : Kept P (rxWriteBack s t d) := h.emit.put.coalesce

protected theorem Kept.rxDeliver {f : QFrame} {post : RxPost} (h : Kept P s) : Kept P (rxDeliver s n t f post) := by
  have lost {u : State} {code : Nat} {ts : Bool} {bs : List Byte} (hu : Kept P u) :
      Kept P (frameLost (hifDiscard (relEntry u n f) code) n f.ing ts f.tx f.meta_ f.q code bs) := hu.relEntry.hifDiscard.frameLost
  generalize hu : rxDeliver s n t f post = u
  unfold rxDeliver at hu
  generalize descTime s f.ing.raw = z at hu
  obtain ⟨ts, stale⟩ := z
  subst hu
  refine Kept.ite h.relEntry.linkDiscard.frameLost (Kept.ite (lost h) (Kept.ite (lost h).rxWriteBack.raiseGrey ?_))
  dsimp only
  refine ((h.emit.rxWriteBack.inc.monOut.when Kept.tsqPush).when fun ht => (Kept.modHif ?_).put).relEntry.fate
  split
  · exact ht.takePin _ ‹_›
  · exact ht

protected theorem Kept.rxMessage {msg : List Byte} {post : RxPost} (h : Kept P s) : Kept P (rxMessage s t msg post) :=
  Kept.ite h.hifDiscard.rxWriteBack.raiseGrey h.emit.rxWriteBack.inc

protected theorem Kept.rxRelease (h : Kept P s) : Kept P (rxRelease s t i) := by
  grind [rxRelease, Kept.modHif, Kept.relPin, Kept.put, Kept, privileges]

protected theorem Kept.putWords {f : Nat → Fld} (h : Kept P s) : Kept P (putWords s f k bs) := h.foldl fun _ _ ht => ht.put
protected theorem Kept.p0Challenge (h : Kept P s) : Kept P (p0Challenge s) := Kept.ite h.put (Kept.ite h h.putWords.put.stepFree.modHif)
protected theorem Kept.p0Respond (h : Kept P s) : Kept P (p0Respond s) := h.modHif
protected theorem Kept.p0Verify [Granting P] (h : Kept P s) : Kept P (p0Verify s) :=
  have hv : Kept P (put (modHif s fun h => { h with verifying := false, nonceAt := none }) F.HIF_P0_CTRL_result 1) := h.modHif.put
  Kept.ite h (Kept.ite (Granting.grant _ hv true) h.modHif.put.modHif.raise)

protected theorem Kept.clearHif (h : Kept P s) : Kept P (execPerstNAssert.clearHif s) := h

/-! ### Cmc -/

protected theorem Kept.cmcDiscard (h : Kept P s) : Kept P (cmcDiscard s n l code) := h.discardOf

protected theorem Kept.mapRecord {frame : Bool} {r : List Byte} (h : Kept P s) : KeptOpt P (mapRecord s t frame r) := by
  grind [mapRecord, Kept, privileges, KeptOpt]

protected theorem Kept.tribOverrun (h : Kept P s) : Kept P (tribOverrun s n l) := h.cmcDiscard.statAdd.raiseGrey

protected theorem Kept.mapperHeld (h : Kept P s) : Kept P (mapperHeld s t) := by
  grind [mapperHeld, Kept.tribOverrun, Kept.foldl, Kept, privileges]

protected theorem Kept.mapOrderedSet (h : Kept P s) : Kept P (mapOrderedSet s n l) := by
  unfold mapOrderedSet
  split
  · exact h.mapRecord.getD h
  · exact h

protected theorem Kept.receivedSet {os : Nat} (h : Kept P s) : Kept P (receivedSet s n l os) :=
  Kept.ite h (Kept.ite h.modPort.mapOrderedSet h.modPort)

protected theorem Kept.setLink (h : Kept P s) : Kept P (setLink s n l v) :=
  Kept.ite (Kept.ite h.put.raiseGrey h.put).putB.putB.receivedSet.raiseGrey (Kept.ite h.put.raiseGrey h.put)

protected theorem Kept.laneDown (h : Kept P s) : Kept P (laneDown s n k) := h.putB.putB.putB
protected theorem Kept.portDown (h : Kept P s) : Kept P (portDown s n l) := (h.foldl fun _ _ ht => ht.laneDown).setLink

protected theorem Kept.streamDropped {ts : List Nat} {sealed : Bool} (h : Kept P s) : Kept P (streamDropped s n l ts sealed) :=
  ((h.foldl fun _ _ ht => (Kept.ite ht.put ht).upd).foldl fun _ _ ht => ht.cmcDiscard.statAdd).modPort

protected theorem Kept.portChanged {ts : List Nat} {sealed : Bool} (h : Kept P s) : Kept P (portChanged s n l ts sealed) := by
  refine Kept.portDown (Kept.streamDropped (Kept.put (Kept.put (Kept.put ?_))))
  split
  · exact h.modPort.cmcDiscard.statAdd.frameLost
  · exact h

protected theorem Kept.portsDown (h : Kept P s) : Kept P (portsDown s n) := h.foldl fun _ _ ht => Kept.ite ht ht.portDown
protected theorem Kept.pauseRx {q : Nat} (h : Kept P s) : Kept P (pauseRx s n l p q) := Kept.ite h.put (Kept.ite h h.put)

protected theorem Kept.macControlRx (h : Kept P s) : Kept P (macControlRx s n l bs) :=
  Kept.ite h.pauseRx (Kept.ite (h.foldl fun _ _ ht => Kept.ite ht.pauseRx ht) h)

protected theorem Kept.frameRx {pcs : Bool} (h : Kept P s) : Kept P (frameRx s n l bs pcs) :=
  have h0 {i k base max len : Nat} : Kept P (sizeAdd (statAdd s n l i k) n l base max len) := h.statAdd.sizeAdd
  Kept.ite h0.cmcDiscard.statAdd (Kept.ite h0.cmcDiscard.statAdd (Kept.ite h0.cmcDiscard.statAdd (Kept.ite h0.cmcDiscard.statAdd
    (Kept.ite h0.statAdd.macControlRx h0.statAdd.statAdd.statAdd.monIn.ingress))))

protected theorem Kept.txLost {f : QFrame} (h : Kept P s) : Kept P (txLost s n l f bs code i) := h.cmcDiscard.statAdd.frameLost

protected theorem Kept.frameTx {f : QFrame} (h : Kept P s) : Kept P (frameTx s n l f bs) := by
  refine Kept.ite h.txLost (Kept.ite h.txLost (Kept.ite h.txLost ?_))
  exact ((Kept.ite h.tcCorrect.emit.statAdd.raiseGrey h.tcCorrect.emit.statAdd.statAdd.statAdd).statAdd.monOut.when Kept.tsqPush).fate

protected theorem Kept.serveRoot {x : SNode} {post : RxPost} (h : Kept P s) : Kept P (serveRoot s n m x post) := by
  grind [serveRoot, Kept.takeFrame, Kept.poisonDrop, Kept.relEntry, Kept.modPort, Kept.rxDeliver, Kept, privileges]

protected theorem Kept.transparentRx {err : Bool} (h : Kept P s) : Kept P (transparentRx s n l bs err) := by
  unfold transparentRx
  extract_lets len s1 long data good s2
  have h1 : Kept P s1 := h.statAdd.sizeAdd
  have h2 : Kept P s2 :=
    Kept.ite h1.statAdd (Kept.ite h1.statAdd (Kept.ite h1.statAdd (Kept.ite h1.statAdd h1.statAdd.statAdd.statAdd)))
  split
  · exact h2
  split
  · exact h2.mapRecord _ ‹_›
  · exact h2.tribOverrun

protected theorem Kept.demapFrame {data : List Byte} {err hurt : Bool} (h : Kept P s) : Kept P (demapFrame s n l data err hurt) :=
  Kept.ite h.emit.sizeAdd.statAdd.raiseGrey (Kept.ite h.emit.sizeAdd h.emit.sizeAdd.statAdd.statAdd.statAdd)

protected theorem Kept.demap (h : Kept P s) : Kept P (demap s n l) := by
  grind [demap, Kept.modPort, Kept.inc, Kept.demapFrame, Kept.emitSet, Kept, privileges]

/-! ### TableAccess -/

protected theorem Kept.emUse (h : Kept P s) : Kept P (emUse s n) := h.put
protected theorem Kept.setExact {ex : Tab ExSlot} (h : Kept P s) : Kept P (setExact s n ex) := h.modPrs.emUse

protected theorem Kept.exactWrite {act : Option Nat} {active other : Bool} (h : Kept P s) : Kept P (exactWrite s n t key act active other).1 := by
  unfold exactWrite
  grind [Kept.setExact, Kept.stepFree, Kept.raiseGrey]

protected theorem Kept.wipeTable (h : Kept P s) : Kept P (wipeTable s n t) := h.upd.setExact
protected theorem Kept.clearTable (h : Kept P s) : Kept P (clearTable s n t) := h.wipeTable.raiseGrey
protected theorem Kept.taResult (h : Kept P s) : Kept P (taResult s n code) := h.put.putB
protected theorem Kept.taPut {w : Nat} (h : Kept P s) : Kept P (taPut s n w k v) := h.foldl fun _ _ ht => ht.put
protected theorem Kept.taShow {mask act : Nat} {valid : Bool} (h : Kept P s) : Kept P (taShow s n key mask act valid) := h.taPut.taPut.put
protected theorem Kept.taModBank {f : Bank → Bank} (h : Kept P s) (hf : ∀ b, (f b).windows = b.windows := by intro; rfl) :
    Kept P (taModBank s staged f) := Kept.ite h.modStaged (h.modBanks hf)

protected theorem Kept.taModExact {act : Option Nat} (h : Kept P s) : Kept P (taModExact s n staged t key act).1 := by
  grind [taModExact, Kept.exactWrite, Kept.setLoaded]

protected theorem Kept.taRead (h : Kept P s) : Kept P (taRead s n staged) := by
  grind [taRead, Kept.taResult, Kept.taShow]

protected theorem Kept.taWrite (h : Kept P s) : Kept P (taWrite s n staged) := Kept.ite h.taResult (Kept.ite h.taResult h.taModBank.taResult)

protected theorem Kept.taInsert (h : Kept P s) : Kept P (taInsert s n staged) := by
  grind [taInsert, Kept.taResult, Kept.taModExact]

protected theorem Kept.taDelete (h : Kept P s) : Kept P (taDelete s n staged) :=
  Kept.ite h.taResult (Kept.ite (Kept.ite h.taResult h.taModExact.taResult) (Kept.ite h.taResult (Kept.ite h.taResult h.taModBank.taResult)))

protected theorem Kept.taLookup (h : Kept P s) : Kept P (taLookup s n staged) := by
  grind [taLookup, Kept.taResult, Kept.put, Kept.taShow]

protected theorem Kept.taActRead (h : Kept P s) : Kept P (taActRead s n staged) := Kept.ite h.taResult h.taPut.taResult

protected theorem Kept.taActWrite (h : Kept P s) : Kept P (taActWrite s n staged) :=
  Kept.ite h.taResult (Kept.ite h.taResult h.taModBank.taResult)

protected theorem Kept.taOp {op : Nat} (h : Kept P s) : Kept P (taOp s n op staged) := by
  unfold taOp
  grind [Kept.taRead, Kept.taWrite, Kept.taInsert, Kept.taDelete, Kept.taLookup, Kept.taActRead, Kept.taActWrite]

protected theorem Kept.taRun {op : Nat} (h : Kept P s) : Kept P (taRun s n op staged) :=
  Kept.ite h.put (Kept.ite h.put.putB.modPrs.putB h.put.putB.taOp)

protected theorem Kept.taResume (h : Kept P s) : Kept P (taResume s n) := by
  grind [taResume, Kept.taOp, Kept.modPrs, Kept, privileges]

/-! ### CommitRegion -/

protected theorem Kept.commitPorts {sealed : Bool} (h : Kept P s) : Kept P (commitPorts s old n sealed) := by
  grind [commitPorts, Kept.showFault, Kept.portChanged, Kept.laneDown, Kept.sendStanding, Kept.foldl]

protected theorem Kept.newWeight {old new : Nat} (h : Kept P s) : Kept P (newWeight s n m key old new) := Kept.ite h h.modTmg

protected theorem Kept.newShaper {i : Option Nat} (h : Kept P s) : Kept P (newShaper s n key i) := by
  grind [newShaper, Kept.offWheel, Kept.onWheel]

protected theorem Kept.commitShapers (h : Kept P s) : Kept P (commitShapers s old n) :=
  (h.foldl fun _ _ ht => Kept.ite ht ht.newShaper).foldl fun _ _ ht => Kept.ite ht ht.newShaper

protected theorem Kept.commitQueues (h : Kept P s) : Kept P (commitQueues s old n) := by
  grind [commitQueues, Kept.flushQueue, Kept.modTmg, Kept.newWeight, Kept.emptied, Kept.foldl, Kept, privileges]

protected theorem Kept.commitNodes (h : Kept P s) : Kept P (commitNodes s old n) := by
  grind [commitNodes, Kept.newWeight, Kept.foldl]

protected theorem Kept.commitMeters (h : Kept P s) : Kept P (commitMeters s old n) := h.foldl fun _ _ ht => Kept.ite ht.meterApply ht
protected theorem Kept.clearOld (h : Kept P s) : Kept P (clearOld s n t) := h.modOther.setExact
protected theorem Kept.commitTables (h : Kept P s) : Kept P (commitTables s old m n) := h.foldl fun _ _ ht => Kept.ite ht.clearOld ht.wipeTable

protected theorem Kept.regionTakes (h : Kept P s) : Kept P (regionTakes s old m n) := by
  grind [regionTakes, Kept.commitPorts, Kept.commitNodes, Kept.commitQueues, Kept.raiseGrey, Kept.commitMeters, Kept.commitShapers,
      Kept.updateLevel, Kept.foldl]

protected theorem Kept.owe (h : Kept P s) : Kept P (owe s old m n) := h

protected theorem Kept.owedTaken (h : Kept P s) : Kept P (owedTaken s n) := by
  grind [owedTaken, Kept.regionTakes, Kept, privileges]

/-! ### Mem -/

protected theorem Kept.showChannel {d : Option Dimm} {used : Bool} (h : Kept P s) : Kept P (showChannel s n c d used) := by
  cases d
  · exact h.putB.putB.putB
  · exact h.putB.putB.put.putB.put.put

protected theorem Kept.memTrained {dimms : List (Option Dimm)} (h : Kept P s) : Kept P (memTrained s n dimms) := by
  grind [memTrained, Kept.putB, Kept.showChannel, Kept.put, Kept.raiseGrey, Kept.foldl]

protected theorem Kept.poisonBufs {p : Buf → Bool} (h : Kept P s) : Kept P (poisonBufs s n p) := h.modBpm
protected theorem Kept.quarantine (h : Kept P s) : Kept P (quarantine s n t k) := Kept.ite h.addTo.raise h.addTo

protected theorem Kept.poisonCell (h : Kept P s) : Kept P (poisonCell s n u) := by
  grind [poisonCell, Kept.modBpm, Kept.quarantine, Kept.poisonBufs, Kept.uncharge, Kept, privileges]

protected theorem Kept.poisonUnit (h : Kept P s) : Kept P (poisonUnit s n t u) := by
  grind [poisonUnit, Kept.uncharge, Kept.modBpm, Kept.quarantine, Kept.poisonBufs, Kept, privileges]

protected theorem Kept.uncorrectable (h : Kept P s) : Kept P (uncorrectable s n t u) := Kept.ite h.poisonCell h.poisonUnit

protected theorem Kept.channelFail (h : Kept P s) : Kept P (channelFail s n c) :=
  h.putB.putB.poisonBufs.putB.put.put.put.modBpm.put.updateLevel.raiseAt.contained

protected theorem Kept.channelError (h : Kept P s) : Kept P (channelError s n c) := Kept.ite h.modPkt.channelFail h.modPkt

protected theorem Kept.scrub {ce : Nat} {bad : Option Nat} {pct : Nat} {pass : Bool} (h : Kept P s) : Kept P (scrub s n t c ce bad pct pass) := by
  unfold scrub
  extract_lets _ s1 _ s2
  have h1 : Kept P s1 := h.unless fun h => h.addTo.monCount.unless fun h => Kept.ite h.addTo.raiseGrey h.addTo.raiseAt
  have h2 : Kept P s2 := h1.when fun h => h.put.when Kept.inc
  split
  · exact h2
  · exact h2.uncorrectable.unless fun h => Kept.ite h.inc.raiseGrey h.inc.raiseAt.channelError

/-! ### Retain -/

protected theorem Kept.modAid {f : AidProt → AidProt} (h : Kept P s) : Kept P (modAid s a f) := h
protected theorem Kept.showAid (h : Kept P s) : Kept P (showAid s a) := h.put.put.putB

/-! ### PwrRegion -/

protected theorem Kept.resetWords {where_ : Nat → Bool} {keep : Nat → RegRow → FieldRow → Bool} (h : Kept P s) : Kept P (resetWords s where_ keep) :=
  h.foldl fun _ _ ht => Kept.ite ht.wrWord ht

protected theorem Kept.resetLive {where_ : Nat → Bool} (h : Kept P s) : Kept P (resetLive s where_) := h
protected theorem Kept.dropRetained (h : Kept P s) : Kept P (dropRetained s n) := h.foldl fun _ _ ht => ht.modAid.showAid

protected theorem Kept.packetReset {retrain : Bool} (h : Kept P s) : Kept P (packetReset s n retrain) := by
  unfold packetReset
  extract_lets s1 s2 e s3 u s4 open_ s5 s6
  have h3 : Kept P s3 := h.resetWords.resetLive.updEpc
  have h4 : Kept P s4 := h3.upd
  have h6 : Kept P s6 := h4.modPkt.foldl fun _ _ ht => ht.when Kept.meterApply
  exact h6.dropRetained.tsqEmpty.showFaults

protected theorem Kept.pwrResult {step : Nat} (h : Kept P s) : Kept P (pwrResult s code block step) := h.put.put.put
protected theorem Kept.modRegionPwr {f : RegionPwr → RegionPwr} (h : Kept P s) : Kept P (modRegionPwr s n f) := h

protected theorem Kept.releaseHeld (h : Kept P s) : Kept P (releaseHeld s n) := by
  grind [releaseHeld, Kept.dropHeld, Kept.lineFrame, Kept.enqueueFor, Kept.foldl, Kept, privileges]

protected theorem Kept.entryStep (h : Kept P s) : Kept P (entryStep s n k) :=
  Kept.ite (Kept.ite h.put.putB h.put).dropHeld (Kept.ite h.put.putB h.put)

protected theorem Kept.pwrLast {aborted : Bool} {step : Nat} (h : Kept P s) : Kept P (pwrLast s n block aborted step) := h.put.putB.put

protected theorem Kept.entryUndo {step : Nat} (h : Kept P s) : Kept P (entryUndo s n code step) :=
  h.pwrResult.putB.put.put.putB.upd.inc.pwrLast.releaseHeld.portsDown.raiseGrey

protected theorem Kept.startEntry (h : Kept P s) : Kept P (startEntry s n t) := by
  grind [startEntry, Kept.pwrLast, Kept.inc, Kept.pwrResult, Kept.raiseGrey, Kept.modRegionPwr, Kept.putB, Kept.put, Kept.entryStep, Kept, privileges]

protected theorem Kept.startExit {k : ExitKind} (h : Kept P s) : Kept P (startExit s n k) := h.put.putB.put.modRegionPwr.tokenRequest
protected theorem Kept.releasePads (h : Kept P s) : Kept P (releasePads s n) := Kept.ite h.putB.portsDown.sendStandings h

protected theorem Kept.wake (h : Kept P s) : Kept P (wake s n) :=
  Kept.ite (Kept.ite h.modRegionPwr h) (Kept.ite h (Kept.ite h.put.portsDown (Kept.ite h.startExit (Kept.ite h.startExit h))))

protected theorem Kept.powerRequest (h : Kept P s) : Kept P (powerRequest s n t) := by
  grind [powerRequest, Kept.pwrResult, Kept.wake, Kept.startEntry, Kept.modRegionPwr, Kept, privileges]

protected theorem Kept.entryEnd (h : Kept P s) : Kept P (entryEnd s n) := by
  unfold entryEnd
  extract_lets t woken s1 s2 p s3 s4
  have h2 : Kept P s2 := h.pwrResult.put.putB.put
  have h4 : Kept P s4 := (h2.updPwr.when Kept.packetReset).releaseHeld
  exact h4.when Kept.wake

protected theorem Kept.entryDone (h : Kept P s) : Kept P (entryDone s n) :=
  Kept.ite h (Kept.ite h (Kept.ite (Kept.ite h.entryUndo h.entryEnd) (Kept.ite h.entryUndo h.entryStep)))

protected theorem Kept.exitEnd {kind : ExitKind} (h : Kept P s) : Kept P (exitEnd s n kind) := by
  unfold exitEnd
  extract_lets after s1 p s2 s3 f s4 s5
  have h1 : Kept P s1 := h.put.putB.put
  have h2 : Kept P s2 := h1.updPwr.owedTaken
  have h3 : Kept P s3 := (h2.when Kept.putB).portsDown.sendStandings
  have h5 : Kept P s5 := h3.when fun h3 => h3.put.modFlt
  clear_value after
  cases after with
  | some t => exact h5.powerRequest
  | none => exact h5

protected theorem Kept.exitDone (h : Kept P s) : Kept P (exitDone s n) := by
  grind [exitDone, Kept.exitEnd, Kept.tokenRelease, Kept.modRegionPwr, Kept, privileges]

protected theorem Kept.pwrRequest (h : Kept P s) : Kept P (pwrRequest r n t s) := by
  grind [pwrRequest, Kept.onWrite, Kept.inc, Kept.powerRequest, Kept.put]

protected theorem Kept.padRelease (h : Kept P s) : Kept P (padRelease r n s) := h.onWrite fun _ ht => ht.releasePads

protected theorem Kept.memoryTraining {dimms : List (Option Dimm)} (h : Kept P s) : Kept P (memoryTraining s n dimms) :=
  h.unless fun h => Kept.ite h.memTrained (h.when fun h => (h.memTrained.updPwr.put.put.when Kept.putB).when Kept.packetReset)

/-! ### Windows -/

protected theorem Kept.windowArm {w : Nat} (h : Kept P s) : Kept P (windowArm s w) := by
  grind [windowArm, Kept.disarm, Kept.put, Kept.armAt]

protected theorem Kept.windowRenumbered {w : Nat} (h : Kept P s) : Kept P (windowRenumbered s w) := Kept.ite h.windowArm h.put

protected theorem Kept.windowStart {w : Nat} (h : Kept P s) : Kept P (windowStart s w fn) :=
  ((h.foldl fun _ _ ht => ht.put).foldl fun _ _ ht => Kept.ite ht.modPkt ht).put.armAt

protected theorem Kept.windowEnd {w : Nat} (h : Kept P s) : Kept P (windowEnd s w) :=
  ((h.foldl fun _ _ ht => ht.put).put.foldl fun _ _ ht => ht.raiseGrey).raiseGrey

/-! ### EpcCommit -/

protected theorem Kept.epcResult {detail : Nat} (h : Kept P s) : Kept P (epcResult s code detail) := h.put.put
protected theorem Kept.setEpc (h : Kept P s) : Kept P (setEpc s v) := h.put
protected theorem Kept.setQuiesced {x : Scope} (h : Kept P s) : Kept P (setQuiesced s x) := h.upd.putB
protected theorem Kept.releaseChan (h : Kept P s) : Kept P (releaseChan s p) := h.setQuiesced
protected theorem Kept.quiesceBegin (h : Kept P s) : Kept P (quiesceBegin s) := h.setQuiesced.foldl fun _ _ ht => Kept.ite ht.dropHeld ht
protected theorem Kept.releaseAtInstant (h : Kept P s) : Kept P (releaseAtInstant s) := h.setQuiesced

protected theorem Kept.armSchedule (h : Kept P s) : Kept P (armSchedule s k) := by
  grind [armSchedule, Kept.put, Kept.disarm, Kept.raiseGrey, Kept.armAt]

protected theorem Kept.scheduleFire {old : State} (h : Kept P s) : Kept P (scheduleFire old s k) := Kept.ite h.pwrResult h.upd.powerRequest
protected theorem Kept.ringToZero (h : Kept P s) : Kept P (ringToZero s a) := h.foldl fun _ _ ht => Kept.ite ht.wrWord ht

protected theorem Kept.commitRings (h : Kept P s) : Kept P (commitRings s old) :=
  h.foldl fun _ _ ht => Kept.ite (Kept.ite ht.stopTx.ringToZero ht).stopRx.ringToZero (Kept.ite ht.stopTx.ringToZero ht)

protected theorem Kept.commitEffects (h : Kept P s) : Kept P (commitEffects s old m) :=
  (((((h.foldl fun _ _ ht => Kept.ite (ht.when Kept.commitTables).owe (ht.when Kept.commitTables).regionTakes).when Kept.tsuCommit).when
    fun ht => ht.foldl fun _ _ ht => ht.armSchedule).when fun ht => ht.foldl fun _ _ ht => ht.windowArm).when Kept.commitRings)

protected theorem Kept.lineBegin (h : Kept P s) : Kept P (lineBegin s m fn) := h

protected theorem Kept.switchBanks [Switching P] (h : Kept P s) : Kept P (switchBanks s m fn) :=
  (h.unless Kept.lineBegin).supersede.setActive.upd.commitEffects

protected theorem Kept.scopeEmpties (h : Kept P s) : Kept P (scopeEmpties s) := h.foldl fun _ _ ht => Kept.ite ht.drainPipes ht

protected theorem Kept.commitInstant [Switching P] (h : Kept P s) : Kept P (commitInstant s) := by
  unfold commitInstant
  extract_lets s1 m s2 s3 fn s4 e s5
  have h4 : Kept P s4 := h.scopeEmpties.putB.inc.put.put
  exact h4.updEpc.switchBanks.setEpc.releaseAtInstant

protected theorem Kept.drainBound (h : Kept P s) : Kept P (drainBound s) := Kept.ite (h.raiseGrey.foldl fun _ _ ht => ht.regionFault) h
protected theorem Kept.restartBound (h : Kept P s) : Kept P (restartBound s) := Kept.ite h (h.raiseGrey.foldl fun _ _ ht => ht.scopeLane)

protected theorem Kept.unarm [Switching P] (h : Kept P s) : Kept P (unarm s) :=
  have back {t : State} {due : Bool} {c : Cfg} {p : Prop} [Decidable p] {l : List Nat} (ht : Kept P t) :
      Kept P (if due then t else if p then l.foldl (fun s p => laneRetarget s p (Tab.getD s.bank.lineInit p 4)) (setActive t c)
        else setActive t c) :=
    ht.unless fun ht => ht.setActive.when fun ht => ht.foldl fun _ _ ht => ht.laneRetarget
  h.setQuiesced.when fun h => (back (back h)).updEpc

protected theorem Kept.epcReturned [Switching P] (h : Kept P s) : Kept P (epcReturned s) := Kept.ite h.unarm.setEpc.raiseGrey h

/-! ### AlarmActs -/

protected theorem Kept.snapComplete (h : Kept P s) : Kept P (snapComplete s) := by
  grind [snapComplete, Kept.modPkt, Kept.put, Kept.inc, Kept.foldl, Kept, privileges]

protected theorem Kept.latch {second : Bool} (h : Kept P s) : Kept P (latch s c second) :=
  (h.snapComplete.foldl fun _ _ ht => Kept.ite ht ht.raiseGrey)

protected theorem Kept.secondLatch (h : Kept P s) : Kept P (secondLatch s c) :=
  (h.foldl fun _ _ ht => ht.evalSd).latch.updLcy.foldl fun _ _ ht => ht.report

protected theorem Kept.progLatch {old : State} (h : Kept P s) : Kept P (progLatch old s c) := Kept.ite h (Kept.ite h.inc h.latch)

protected theorem Kept.moduleAct [Switching P] {old : State} (h : Kept P s) : Kept P (moduleAct old s k c) := by
  grind [moduleAct, Kept.commitInstant, Kept.quiesceBegin, Kept.drainBound, Kept.restartBound, Kept.secondLatch, Kept.progLatch, Kept.windowStart,
    Kept.windowEnd, Kept.scheduleFire]

protected theorem Kept.markFired {late : Bool} (h : Kept P s) : Kept P (markFired s k late) :=
  Kept.ite (Kept.ite h.put.putB h.put.putB.put.put).put (Kept.ite h.put.putB h.put.putB.put.put)

protected theorem Kept.fireTogether [Switching P] {l : List Nat} {late : Bool} (h : Kept P s) : Kept P (fireTogether s l c late) :=
  (h.reach.foldl fun _ _ ht => ht.markFired).foldl fun _ _ ht => ht.moduleAct

protected theorem Kept.dispatchTo [Switching P] {late : Bool} (h : Kept P s) : Kept P (dispatchTo s c late fuel) := by
  induction fuel generalizing s with
  | zero => exact h
  | succ fuel ih => grind [dispatchTo, Kept.fireTogether]

protected theorem Kept.stepTo [Switching P] (h : Kept P s) : Kept P (stepTo s c fuel) := h.dispatchTo.reach

/-! ### LcyBase -/

protected theorem Kept.modLcy {f : Lcy → Lcy} (h : Kept P s) : Kept P (modLcy s f) := h

protected theorem Kept.slotPut {key : Option (List Byte)} (h : Kept P s) : Kept P (slotPut s k key) :=
  Kept.ite (Kept.ite h.putB h).modLcy.putB.inc (Kept.ite h.putB h).modLcy.putB

protected theorem Kept.kstAnswer {c : KstCmd} (h : Kept P s) : Kept P (kstAnswer s c) := (Kept.ite h.slotPut h).put

protected theorem Kept.kstRun (h : Kept P s) : Kept P (kstRun s fuel) := by
  induction fuel generalizing s with
  | zero => exact h
  | succ fuel ih => grind [kstRun, Kept.modLcy, Kept.kstAnswer, Kept.slotPut, Kept, privileges]

protected theorem Kept.kstServe (h : Kept P s) : Kept P (kstServe s) := h.kstRun
protected theorem Kept.slotCommand {key : Option (List Byte)} (h : Kept P s) : Kept P (slotCommand s k key) := h.modLcy.kstServe
protected theorem Kept.slotDrained (h : Kept P s) : Kept P (slotDrained s k) := h.modLcy.putB.put.kstServe
protected theorem Kept.ctxBlank (h : Kept P s) : Kept P (ctxBlank s q up i) := h.wrWord.put.put.modLcy
protected theorem Kept.ctxClear (h : Kept P s) : Kept P (ctxClear s q up i) := h.ctxBlank.modLcy
protected theorem Kept.ctxEpoch (h : Kept P s) : Kept P (ctxEpoch s q up i fn) := h.ctxBlank.putB.put

protected theorem Kept.allCtx {f : State → Bool → Nat → State} (h : Kept P s) (hf : ∀ t up i, Kept P t → Kept P (f t up i)) :
    Kept P (allCtx s f) :=
  h.foldl fun _ _ ht => ht.foldl fun _ _ ht1 => hf _ _ _ ht1

protected theorem Kept.clearEpochs (h : Kept P s) : Kept P (clearEpochs s q) := (h.allCtx fun _ _ _ ht => ht.ctxClear).put
protected theorem Kept.t4Epochs (h : Kept P s) : Kept P (t4Epochs s q fn) := h.clearEpochs.ctxEpoch.ctxEpoch
protected theorem Kept.exhaust (h : Kept P s) : Kept P (exhaust s q up i) := h.putB.raiseGrey

protected theorem Kept.exhaustPath {old new : Nat} (h : Kept P s) : Kept P (exhaustPath s q old new) :=
  h.allCtx fun _ _ _ ht => Kept.ite ht.put.putB.modLcy.exhaust ht.put.putB.modLcy

protected theorem Kept.rekeyReq (h : Kept P s) : Kept P (rekeyReq s q up i) := h.modAct.modLcy

protected theorem Kept.ctxUse {group : Nat} (h : Kept P s) : Kept P (ctxUse s q up i group fn) :=
  Kept.ite h.put.modLcy.putB.raise.rekeyReq h.put.modLcy

protected theorem Kept.ctxRefused (h : Kept P s) : Kept P (ctxRefused s q up i fn) := by
  unfold ctxRefused
  split
  · exact h
  · split
    · exact h.exhaust
    · exact h

protected theorem Kept.cachePut {d : Derived} (h : Kept P s) : Kept P (cachePut s d) := by
  grind [cachePut, Kept.put, Kept.modLcy, Kept, privileges]

protected theorem Kept.lcyDiscard (h : Kept P s) : Kept P (lcyDiscard s ids code) := h.discardOf

/-! ### Ltu -/

protected theorem Kept.modLtu {f : Ltu → Ltu} (h : Kept P s) : Kept P (modLtu s f) := h

protected theorem Kept.showSlew (h : Kept P s) : Kept P (showSlew s) := by
  grind [showSlew, Kept.putI]

protected theorem Kept.setModule (h : Kept P s) : Kept P (setModule s c) := h.modLtu.put.put

protected theorem Kept.useAnn (h : Kept P s) : Kept P (useAnn s) := by
  grind [useAnn, Kept.raiseGrey, Kept.modLtu, Kept.putB, Kept, privileges]

protected theorem Kept.armSecond (h : Kept P s) : Kept P (armSecond s) := h.disarm.armAt

protected theorem Kept.updateRef (h : Kept P s) : Kept P (updateRef s q) := by
  cases q <;> grind [updateRef, Kept.modLtu, Kept.put, Kept, privileges]

protected theorem Kept.setLead (h : Kept P s) : Kept P (setLead s q) := (Kept.ite h.put.modLtu.put.raiseGrey h.put.modLtu.put).useAnn

protected theorem Kept.renumber [Switching P] (h : Kept P s) : Kept P (renumber s c) := by
  unfold renumber
  extract_lets old s1 armed s2 s3 e s4 s5 s6 s7 s8
  have h2 : Kept P s2 := h.setModule.foldl fun t k ht => by
    refine ht.disarm.when fun hd => ?_
    split
    · exact hd.loseBurst
    · exact hd
  have h5 : Kept P s5 := h2.epcReturned.modLtu.updEpc.putB.armSecond
  have h7 : Kept P s7 := (h5.foldl fun _ _ ht => ht.windowRenumbered).foldl fun _ _ ht => ht.rearmLane
  have h8 : Kept P s8 := by
    dsimp only [s8]
    split
    · exact h7.exhaustPath
    · exact h7
  exact h8.tsuRenumbered.tsuRenumbered.raise

protected theorem Kept.measureOffset [Switching P] (h : Kept P s) : Kept P (measureOffset s q) :=
  Kept.ite (Kept.ite h.renumber.putI.putI h.putI.showSlew) h.putI

protected theorem Kept.newLock (h : Kept P s) : Kept P (newLock s q) := h.modLtu
protected theorem Kept.noteFrame (h : Kept P s) : Kept P (noteFrame s q n fn) := h.modLtu
protected theorem Kept.enterHoldover (h : Kept P s) : Kept P (enterHoldover s q) := h.modLtu.putB.put.put.putI.raiseGrey

protected theorem Kept.pathLost (h : Kept P s) : Kept P (pathLost s q) := by
  grind [pathLost, Kept.updateRef, Kept.putB, Kept.disarm, Kept.modLtu, Kept.enterHoldover, Kept.foldl, Kept, privileges]

protected theorem Kept.reacquire [Switching P] (h : Kept P s) : Kept P (reacquire s q c) :=
  have hl : Kept P (setLead (raiseGrey s F.LTU_EVENT_hold_exit) q) := h.raiseGrey.setLead
  Kept.ite hl.measureOffset (Kept.ite hl.renumber.putI (Kept.ite hl.stepTo.setModule.raiseGrey.putI hl.modLtu.putB.raiseGrey))

protected theorem Kept.pathGained [Switching P] (h : Kept P s) : Kept P (pathGained s q c) := by
  unfold pathGained
  extract_lets s1 lead _ _ s2 s3
  have h1 : Kept P s1 := h.putB.updateRef.setPathTime.newLock
  have h3 : Kept P s3 := h1.measureOffset.when Kept.modLtu
  refine Kept.ite h1.setModule.putI.setLead.modLtu.armSecond (Kept.ite h1.reacquire ?_)
  split
  · exact h3
  · exact h3.modLtu.when Kept.modLtu

protected theorem Kept.ltuLocks (h : Kept P s) : Kept P (ltuLocks s q) := Kept.ite h.updateRef (Kept.ite h.pathLost h)

protected theorem Kept.ltuFrame [Switching P] (h : Kept P s) : Kept P (ltuFrame s p fn) := by
  grind [ltuFrame, Kept.updateRef, Kept.pathGained, Kept.noteFrame, Kept.setPathTime, Kept.reach, Kept.tsuFrame, Kept.measureOffset]

protected theorem Kept.frameBoundary (h : Kept P s) : Kept P (frameBoundary s) := by
  grind [frameBoundary, Kept.setModule, Kept.modLtu, Kept.showSlew, Kept.putI, Kept.put, Kept.incSat, Kept, privileges]

protected theorem Kept.toPathBoundary (h : Kept P s) : Kept P (toPathBoundary s q) := Kept.ite h h.setPathTime

protected theorem Kept.takeLead [Switching P] (h : Kept P s) : Kept P (takeLead s) := by
  grind [takeLead, Kept.modLtu, Kept.setLead, Kept.toPathBoundary, Kept.measureOffset, Kept, privileges]

protected theorem Kept.leadRevert [Switching P] (h : Kept P s) : Kept P (leadRevert s) := by
  grind [leadRevert, Kept.takeLead, Kept.modLtu, Kept, privileges]

protected theorem Kept.freezeEnd [Switching P] (h : Kept P s) : Kept P (freezeEnd s) := by
  grind [freezeEnd, Kept.modLtu, Kept.putB, Kept.reach, Kept.measureOffset, Kept, privileges]

protected theorem Kept.takeOffset (h : Kept P s) : Kept P (takeOffset s) := by
  unfold takeOffset
  split
  · exact h
  · exact h.reach.put.modLtu.put.put.put.raiseGrey

protected theorem Kept.announce {a : SecAnn} (h : Kept P s) : Kept P (announce s q a) := by
  unfold announce
  grind [Kept.put, Kept.modLtu, Kept.useAnn, Kept.tsuAnnounced, Kept, privileges]

/-! ### ActBase -/

protected theorem Kept.queueLcm {c : LcmClass} {typ : Nat} {body : List Byte} (h : Kept P s) : Kept P (queueLcm s q c typ body) := h.modAct

protected theorem Kept.putHome {valid : Bool} (h : Kept P s) : Kept P (putHome s q n valid) := by
  cases q <;> grind [putHome, Kept.putB, Kept.put]

protected theorem Kept.assignHome (h : Kept P s) : Kept P (assignHome s q n) := h.putHome.putB.modAct.updateRef

protected theorem Kept.showGasp (h : Kept P s) : Kept P (showGasp s q) := by
  cases q <;> grind [showGasp, Kept.putB]

protected theorem Kept.preloadGasp (h : Kept P s) : Kept P (preloadGasp s q) := by
  cases q <;> grind [preloadGasp, Kept, privileges]

protected theorem Kept.dropUpTrib (h : Kept P s) : Kept P (dropUpTrib s t) := h

protected theorem Kept.dropTribs (h : Kept P s) : Kept P (dropTribs s q) :=
  ((h.foldl fun _ _ ht => ht.dropDownTrib).foldl fun _ _ ht => ht.dropUpTrib)

protected theorem Kept.clearEqds (h : Kept P s) : Kept P (clearEqds s q) := h.foldl fun _ _ ht => Kept.ite ht ht.wrWord
protected theorem Kept.forgetSecrets (h : Kept P s) : Kept P (forgetSecrets s q) := h.modAct

protected theorem Kept.unregister (h : Kept P s) : Kept P (unregister s q) := by
  unfold unregister
  extract_lets s1 s2 s3 s4 s5 s6
  have h2 : Kept P s2 := h.wrWord.clearEqds.dropTribs
  have h3 : Kept P s3 := by
    cases q
    · exact h2.putB
    · exact h2.putB
  have h5 : Kept P s5 := h3.putB.putB.slotCommand.slotCommand
  exact h5.modAct.forgetSecrets.updateRef

protected theorem Kept.listen (h : Kept P s) : Kept P (listen s q) := by
  grind [listen, Kept.putHome]

protected theorem Kept.putAct {st : Nat} (h : Kept P s) : Kept P (putAct s q st) :=
  Kept.ite h (Kept.ite h.put.raiseGrey.preloadGasp.modAct h.put.raiseGrey).showGasp

protected theorem Kept.actReturn {st : Nat} (h : Kept P s) : Kept P (actReturn s q st cause) := by
  grind [actReturn, Kept.unregister, Kept.put, Kept.clearEpochs, Kept.putAct, Kept.forgetSecrets, Kept.modAct, Kept.listen, Kept, privileges]

protected theorem Kept.putHeld {y : Bool} (h : Kept P s) : Kept P (putHeld s q y) := by
  have hp : Kept P (putB s (F.ACT_HOLD_held (qn q)) y) := h.putB
  cases q
  · exact hp.upd
  · exact hp.upd

protected theorem Kept.actHold (h : Kept P s) : Kept P (actHold s q) := h.putHeld.put.forgetSecrets.putAct.raiseGrey
protected theorem Kept.actRelease (h : Kept P s) : Kept P (actRelease s q) := Kept.ite h.putHeld.actReturn h
protected theorem Kept.authFail (h : Kept P s) : Kept P (authFail s q) := h.actReturn.raise

protected theorem Kept.actDown (h : Kept P s) : Kept P (actDown s q) :=
  Kept.ite (Kept.ite h.putAct.listen h) (Kept.ite h.actReturn (Kept.ite h.putAct h))

protected theorem Kept.actDisabled (h : Kept P s) : Kept P (actDisabled s q) := Kept.ite h.actReturn h
protected theorem Kept.clearApr (h : Kept P s) : Kept P (clearApr s q) := h.putB

/-! ### Bnd -/

protected theorem Kept.dfrDiscard (h : Kept P s) : Kept P (dfrDiscard s ids code) := h.discardOf
protected theorem Kept.bndDiscard (h : Kept P s) : Kept P (bndDiscard s ids code) := h.discardOf
protected theorem Kept.fragDiscard (h : Kept P s) : Kept P (fragDiscard s ids code) := Kept.ite h.bndDiscard h.dfrDiscard
protected theorem Kept.showCtxs (h : Kept P s) : Kept P (showCtxs s) := h.put.put

protected theorem Kept.dfrReassemble {g : Seg} (h : Kept P s) : Kept P (dfrReassemble s g).1 := by
  grind [dfrReassemble, Kept.fragDiscard, Kept.showCtxs, Kept.foldl, Kept, privileges]

protected theorem Kept.bndReassemble {g : Seg} (h : Kept P s) : Kept P (bndReassemble s k g).1 := by
  grind [bndReassemble, Kept.fragDiscard, Kept.foldl, Kept, privileges]

protected theorem Kept.markGroup (h : Kept P s) : Kept P (markGroup s q k) := h
protected theorem Kept.markChain (h : Kept P s) : Kept P (markChain s q k sid code) := h

protected theorem Kept.bndReassembleAll {l : List Released} (h : Kept P s) : Kept P (bndReassembleAll s q k l).1 := by
  grind [bndReassembleAll, Kept.markGroup, Kept.markChain, Kept.bndReassemble, Kept.monOut, Kept.foldl, Kept.foldlFst]

protected theorem Kept.modGroup {f : BndGroup → BndGroup} (h : Kept P s) : Kept P (modGroup s q k f) := h

protected theorem Kept.showGroup (h : Kept P s) : Kept P (showGroup s q k) := by
  unfold showGroup
  grind [Kept.put, Kept.putB, Kept.putMax, Kept.foldl]

protected theorem Kept.groupAdvance (h : Kept P s) : Kept P (groupAdvance s q k v n) := h.put.putB.put

protected theorem Kept.bndRelease {first : List Seg} {rp : Nat} (h : Kept P s) : Kept P (bndRelease s q k first rp).1 := by
  grind [bndRelease, Kept.modGroup, Kept.showGroup, Kept.groupAdvance, Kept, privileges]

protected theorem Kept.bndLost {g : Seg} (h : Kept P s) : Kept P (bndLost s k g v code) := Kept.ite (Kept.ite h.modGroup h) h.markChain

protected theorem Kept.bndSkip (h : Kept P s) : Kept P (bndSkip s q k).1 := by
  grind [bndSkip, Kept.addTo, Kept.modGroup, Kept.bndRelease, Kept.raiseGrey, Kept, privileges]

protected theorem Kept.bndFlush (h : Kept P s) : Kept P (bndFlush s q k fuel).1 := by
  induction fuel generalizing s with
  | zero => exact h
  | succ fuel ih => grind [bndFlush, Kept.bndSkip]

protected theorem Kept.bndResync (h : Kept P s) : Kept P (bndResync s q k).1 := by
  have hb : Kept P (bndFlush s q k ((bndGroup s q k).buf.length + 1)).1 := h.bndFlush
  unfold bndResync
  generalize bndFlush s q k ((bndGroup s q k).buf.length + 1) = z at hb ⊢
  exact hb.modGroup.put.putB.inc.raiseGrey

protected theorem Kept.bndStray (h : Kept P s) : Kept P (bndStray s q k).1 := by
  grind [bndStray, Kept.modGroup, Kept.bndResync, Kept, privileges]

protected theorem Kept.bndLate {chan : Nat} {counted : Bool} (h : Kept P s) : Kept P (bndLate s q k chan counted).1 := by
  grind [bndLate, Kept.greyOf, Kept.bndDiscard, Kept.bndStray, Kept.inc]

protected theorem Kept.bndLag {at_ : Nat} (h : Kept P s) : Kept P (bndLag s q k v at_) := h.putMax.modGroup

protected theorem Kept.bndArrival {g : Seg} (h : Kept P s) : Kept P (bndArrival s k g v).1 := by
  have hg : Kept P (bndLag s g.path k v (cwCount g.fn g.cw)) := h.bndLag
  unfold bndArrival
  dsimp only
  split
  · exact h.modGroup.bndRelease
  split
  · exact h.bndLate
  split
  · exact hg.bndLate
  split
  · exact hg.modGroup.bndRelease
  split
  · exact hg.bndLate
  split
  · exact hg.bndDiscard.greyOf.bndStray
  · exact hg.modGroup.showGroup

protected theorem Kept.bndSegment {g : Seg} (h : Kept P s) : Kept P (bndSegment s g).1 := by
  grind [bndSegment, Kept.dfrReassemble, Kept.bndDiscard, Kept.bndArrival, Kept.bndReassembleAll]

protected theorem Kept.bondMember (h : Kept P s) : Kept P (bondMember s q k n up) := h.greyOf.queueLcm

protected theorem Kept.bndMembers (h : Kept P s) : Kept P (bndMembers s q k) :=
  Kept.ite h (h.put.put.foldl fun _ _ ht => Kept.ite ht ht.bondMember)

protected theorem Kept.bndUpdate (h : Kept P s) : Kept P (bndUpdate s q) := h.foldl fun _ _ ht => ht.bndMembers

/-! ### Pth -/

protected theorem Kept.deliverUnit {u : Unit_} (h : Kept P s) : Kept P (deliverUnit s u) := by
  grind [deliverUnit, Kept.dfrDiscard, Kept.overLink, Kept.monCount, Kept.lineFrame]

protected theorem Kept.modMerge {f : MergeGroup → MergeGroup} (h : Kept P s) : Kept P (modMerge s k f) := h
protected theorem Kept.showMerge (h : Kept P s) : Kept P (showMerge s k) := h.putB.putB.putB.put

protected theorem Kept.mergeOut {u : Unit_} (h : Kept P s) : Kept P (mergeOut s k u v) := by
  grind [mergeOut, Kept.put, Kept.putB, Kept.deliverUnit]

protected theorem Kept.mergeRun (h : Kept P s) : Kept P (mergeRun s k fuel) := by
  induction fuel generalizing s with
  | zero => exact h
  | succ fuel ih => grind [mergeRun, Kept.modMerge, Kept.mergeOut, Kept, privileges]

protected theorem Kept.mergeSkip (h : Kept P s) : Kept P (mergeSkip s k) := by
  grind [mergeSkip, Kept.addTo, Kept.modMerge, Kept.put, Kept.showMerge, Kept.mergeRun, Kept, privileges]

protected theorem Kept.closeGaps (h : Kept P s) : Kept P (closeGaps s k fuel) := by
  induction fuel generalizing s with
  | zero => exact h
  | succ fuel ih => grind [closeGaps, Kept.mergeSkip]

protected theorem Kept.mergeResync (h : Kept P s) : Kept P (mergeResync s k fuel) := by
  induction fuel generalizing s with
  | zero => exact h
  | succ fuel ih => grind [mergeResync, Kept.putB, Kept.put, Kept.showMerge, Kept.modMerge, Kept.mergeOut, Kept, privileges]

protected theorem Kept.fitStore (h : Kept P s) : Kept P (fitStore s fuel) := by
  induction fuel generalizing s with
  | zero => exact h
  | succ fuel ih => grind [fitStore, Kept.mergeSkip, Kept.raiseGrey, Kept.inc]

protected theorem Kept.mergeValue {u : Unit_} (h : Kept P s) : Kept P (mergeValue s k u v) := by
  unfold mergeValue
  extract_lets _ _ _ _ s1 s2 s3 s4 s5
  have h1 : Kept P s1 := h.modMerge
  have h2 : Kept P s2 := h1.pthDiscard.modMerge
  have h3 : Kept P s3 := h1.modMerge
  have h4 : Kept P s4 := h3.modMerge
  have h5 : Kept P s5 :=
    Kept.ite h3.mergeOut.mergeRun (Kept.ite (Kept.ite h3.pthDiscard h4.fitStore) (Kept.ite h3.pthDiscard h3.pthDiscard))
  exact Kept.ite (Kept.ite h2.mergeResync h2.closeGaps.showMerge) h5.closeGaps.showMerge

protected theorem Kept.pthUnit {u : Unit_} (h : Kept P s) : Kept P (pthUnit s u) := by
  grind [pthUnit, Kept.monCount, Kept.deliverUnit, Kept.pthDiscard, Kept.mergeValue]

protected theorem Kept.pthUnits {l : List Unit_} (h : Kept P s) : Kept P (pthUnits s l) := h.foldl fun _ _ ht => ht.pthUnit
protected theorem Kept.pthMerges (h : Kept P s) : Kept P (pthMerges s) := h.foldl fun _ _ ht => ht.closeGaps.showMerge
protected theorem Kept.releaseSegs {l : List UpSeg} (h : Kept P s) : Kept P (releaseSegs s l) := h.foldl fun _ _ ht => ht.relRet
protected theorem Kept.releaseRetained {gone : UpSeg → Bool} (h : Kept P s) : Kept P (releaseRetained s a gone) := h.releaseSegs.modAid.showAid
protected theorem Kept.setCopies {l : List UpSeg} (h : Kept P s) : Kept P (setCopies s a q l) := h.modAid.showAid
protected theorem Kept.dlDrop (h : Kept P s) : Kept P (dlDrop s a n) := Kept.ite h h.addTo.greyOf
protected theorem Kept.dropCopies {gone : UpSeg → Bool} (h : Kept P s) : Kept P (dropCopies s a q gone) := Kept.ite h.setCopies.dlDrop h
protected theorem Kept.expireCopies (h : Kept P s) : Kept P (expireCopies s) := h.foldl fun _ _ ht => ht.dropCopies.dropCopies
protected theorem Kept.restartSequences (h : Kept P s) : Kept P (restartSequences s) := h.foldl fun _ _ ht => Kept.ite ht ht.put.put.modAid

/-! ### Switch -/

protected theorem Kept.modPth {f : Pth → Pth} (h : Kept P s) : Kept P (modPth s f) := h

protected theorem Kept.startResend {resend : Bool} (h : Kept P s) : Kept P (startResend s resend) :=
  h.foldl fun _ _ ht => Kept.ite ht.modAid.showAid ht

protected theorem Kept.switchTo {resend : Bool} (h : Kept P s) : Kept P (switchTo s q resend cause) := by
  unfold switchTo
  extract_lets s1 s2 s3 s4 body s5 s6
  have h4 : Kept P s4 := h.modPth.put.putB.inc.put.put.put.raiseGrey
  have h6 : Kept P s6 := h4.queueLcm.queueLcm.startResend
  exact h6.when Kept.servedUpdate

protected theorem Kept.startHold (h : Kept P s) : Kept P (startHold s) := Kept.ite h h.modPth
protected theorem Kept.pthWaits {w : Path} {was : Bool} (h : Kept P s) : Kept P (pthWaits s w was) := (Kept.ite h h.raiseGrey).putB.put

protected theorem Kept.pthRest {w : Path} {was : Bool} (h : Kept P s) : Kept P (pthRest s w was) := by
  grind [pthRest, Kept.startHold, Kept.put, Kept.switchTo, Kept.pthWaits, Kept.modPth, Kept, privileges]

protected theorem Kept.pthEval (h : Kept P s) : Kept P (pthEval s) := by
  unfold pthEval
  extract_lets fa fb s1 out s2 was s3
  have h1 : Kept P s1 := h.putB.putB
  have h3 : Kept P s3 := (Kept.ite h1.modPth (h1.when fun h1 => h1.restartSequences.modPth)).putB
  split
  · exact h3.unless fun h3 => Kept.ite h3.switchTo (h3.when Kept.switchTo)
  · refine Kept.ite h3.put.modPth (Kept.ite h3.put ?_)
    dsimp only
    split
    · exact Kept.ite h3.modPth.switchTo h3.modPth.pthWaits
    · exact h3.modPth.pthRest

protected theorem Kept.pthRequest {x : PthWant} (h : Kept P s) : Kept P (pthRequest s x) := (Kept.ite h.modPth h).pthEval
protected theorem Kept.skewCheck (h : Kept P s) : Kept P (skewCheck s) := Kept.ite (Kept.ite h.putI.raiseGrey h.putI) h
protected theorem Kept.copiesCheck (h : Kept P s) : Kept P (copiesCheck s q) := Kept.ite h (h.foldl fun _ _ ht => ht.dropCopies)

protected theorem Kept.lineSettle (h : Kept P s) : Kept P (lineSettle s) := by
  unfold lineSettle
  extract_lets s1 s2 s3 s4 s5 s6
  have h4 : Kept P s4 := h.ltuLocks.ltuLocks.actDown.actDown.aprCheck.aprCheck.bndUpdate.bndUpdate
  have h6 : Kept P s6 := h4.pthMerges.skewCheck.copiesCheck.copiesCheck.pthEval
  exact (h6.foldl fun _ _ ht => ht.downBursts).gatesChanged

protected theorem Kept.switchApply (h : Kept P s) : Kept P (switchApply s) := by
  grind [switchApply, Kept.reach, Kept.modPth, Kept.lineSettle, Kept.pthRequest, Kept, privileges]

protected theorem Kept.holdoffExpire (h : Kept P s) : Kept P (holdoffExpire s) := by
  grind [holdoffExpire, Kept.lineSettle, Kept.pthRequest]

protected theorem Kept.wtrExpire (h : Kept P s) : Kept P (wtrExpire s) := Kept.ite h.switchTo.lineSettle h
protected theorem Kept.pthForce (h : Kept P s) : Kept P (pthForce r q s) := h.onWrite fun _ ht => Kept.ite ht ht.pthRequest.lineSettle
protected theorem Kept.pthLockout {on : Bool} (h : Kept P s) : Kept P (pthLockout r on s) := h.onWrite fun _ ht => ht.putB.lineSettle
protected theorem Kept.pthClear (h : Kept P s) : Kept P (pthClear r s) := h.onWrite fun _ ht => ht.putB.modPth.lineSettle

protected theorem Kept.retentionExpire (h : Kept P s) : Kept P (retentionExpire s a) := by
  grind [retentionExpire, Kept.greyOf, Kept.inc, Kept.releaseRetained]

protected theorem Kept.mergeWindowSkip (h : Kept P s) : Kept P (mergeWindowSkip s k) := Kept.ite h h.mergeSkip.closeGaps

protected theorem Kept.bndGapSkip (h : Kept P s) : Kept P (bndGapSkip s q k) := by
  grind [bndGapSkip, Kept.bndSkip, Kept.bndReassembleAll, Kept.pthUnits]

protected theorem Kept.reasmTimeout {bonded : Bool} (h : Kept P s) : Kept P (reasmTimeout s bonded q i sid) := by
  grind [reasmTimeout, Kept.showCtxs, Kept.fragDiscard, Kept, privileges]

/-! ### Lane -/

protected theorem Kept.showRxPwr {c : Int} (h : Kept P s) : Kept P (showRxPwr s p c) := h.put.putB
protected theorem Kept.firstRxPwr (h : Kept P s) : Kept P (firstRxPwr s p) := h.put.putB.stepFree
protected theorem Kept.showSnr (h : Kept P s) : Kept P (showSnr s p snr) := h.put
protected theorem Kept.laneChanged (h : Kept P s) : Kept P (laneChanged s p) := h.report.unestablish.lineSettle

protected theorem Kept.losAssert {pwr : Int} (h : Kept P s) : Kept P (losAssert s p pwr) :=
  Kept.ite h.showRxPwr.putB.modLane.raiseGrey.laneChanged h

protected theorem Kept.losClear {pwr : Int} (h : Kept P s) : Kept P (losClear s p pwr) := Kept.ite h.showRxPwr.putB.raiseGrey.laneChanged h

protected theorem Kept.lolAssert {slip : Bool} (h : Kept P s) : Kept P (lolAssert s p slip snr) :=
  h.when fun h => (h.showSnr.when fun h => h.inc.modLane.raiseGrey).unless fun h => h.putB.raiseGrey.laneChanged

protected theorem Kept.lolClear (h : Kept P s) : Kept P (lolClear s p snr) := Kept.ite h.showSnr.modLane.putB.raiseGrey.laneChanged h
protected theorem Kept.clockLock (h : Kept P s) : Kept P (clockLock s p) := Kept.ite h.modLane h
protected theorem Kept.adaptDone (h : Kept P s) : Kept P (adaptDone s p snr) := Kept.ite h.showSnr.putB h
protected theorem Kept.laneEstablished (h : Kept P s) : Kept P (laneEstablished s p) := Kept.ite h.modLane.lineSettle h
protected theorem Kept.showWave {err : Int} (h : Kept P s) : Kept P (showWave s p err) := h.putI

protected theorem Kept.waveFault {err : Int} (h : Kept P s) : Kept P (waveFault s p err) :=
  Kept.ite h.showWave.modLane.putB.raiseGrey.raiseGrey.lineSettle h

protected theorem Kept.waveRecover {err : Int} (h : Kept P s) : Kept P (waveRecover s p err) := Kept.ite h.showWave.modLane.putB.lineSettle h
protected theorem Kept.applySetpoint (h : Kept P s) : Kept P (applySetpoint s p) := Kept.ite h h.putI
protected theorem Kept.applyTemp (h : Kept P s) : Kept P (applyTemp s p) := h.put.modLane
protected theorem Kept.biasWritten (h : Kept P s) : Kept P (biasWritten s p v) := h.modLane

protected theorem Kept.trimRecompute {e : Nat} {temp : Int} (h : Kept P s) : Kept P (trimRecompute s e temp) :=
  Kept.ite (h.putI.putB.foldl fun _ _ ht => ht.applyTemp) h

protected theorem Kept.rxOffsetCal {offset : Int} (h : Kept P s) : Kept P (rxOffsetCal r p offset s) := h.onWrite fun _ ht => Kept.ite ht.putI ht
protected theorem Kept.chanCheck (h : Kept P s) : Kept P (chanCheck s p) := Kept.ite h.releaseChan h
protected theorem Kept.engineIdle {e : Nat} (h : Kept P s) : Kept P (engineIdle s e) := Kept.ite h.putB.putB h
protected theorem Kept.leftActive (h : Kept P s) : Kept P (leftActive s p) := h.put.put.putB.freshLane.unestablish

protected theorem Kept.enterState {old : Nat} (h : Kept P s) : Kept P (enterState s p old v) := by
  grind [enterState, Kept.modLane, Kept.putB, Kept, privileges]

protected theorem Kept.transitionDone (h : Kept P s) : Kept P (transitionDone s p) := by
  unfold transitionDone
  split
  · exact h
  extract_lets old s1 s2 s3 s4 s5 s6
  have h3 : Kept P s3 := h.modLane.put.enterState.when Kept.leftActive
  have h5 : Kept P s5 := (h3.when fun h3 => h3.freshLane.firstRxPwr).laneAdvance
  exact (h5.when Kept.engineIdle).chanCheck.report.lineSettle

protected theorem Kept.targetWrite (h : Kept P s) : Kept P (targetWrite r p v s) :=
  h.onWrite fun _ ht => Kept.ite ht ht.putExpert.modBanks.laneAdvance.chanCheck

protected theorem Kept.refuseCleared (h : Kept P s) : Kept P (refuseCleared s p) := Kept.ite h.laneAdvance.chanCheck h
protected theorem Kept.enginePut {e : Fin 8} (h : Kept P s) : Kept P (enginePut s e) := h.tokenRelease.modEngine.putB

protected theorem Kept.enginePower {e : Fin 8} (h : Kept P s) : Kept P (enginePower s e) :=
  Kept.ite (h.enginePut.foldl fun _ _ ht => ht.laneAdvance) h

protected theorem Kept.ceilWrite [Falling P] {v : Int} (h : Kept P s) : Kept P (ceilWrite r q v s) := h.onWriteP0 fun t ht => by
  split
  · exact ht.setCeil ‹_›
  · exact ht

protected theorem Kept.fuseTrip (h : Kept P s) : Kept P (fuseTrip q s) := by
  unfold fuseTrip
  grind [Kept.putB, Kept.lineSettle, Kept.raiseGrey]

protected theorem Kept.fuseClr {a b : Bool} (h : Kept P s) : Kept P (fuseClr r a b s) :=
  h.onWriteP0 fun _ ht => ((ht.whenB fun _ ht1 => ht1.putB).whenB fun _ ht1 => ht1.putB).lineSettle

protected theorem Kept.putKill {a b : Bool} (h : Kept P s) : Kept P (putKill s a b) := h.putB.putB.lineSettle
protected theorem Kept.safKill {a b : Bool} (h : Kept P s) : Kept P (safKill r a b s) := h.onWrite fun _ ht => ht.putKill
protected theorem Kept.laserLow (h : Kept P s) : Kept P (laserLow s) := (h.upd.tapSettle.putB.whenB fun _ ht => ht.raiseGrey).lineSettle
protected theorem Kept.laserHigh (h : Kept P s) : Kept P (laserHigh s) := h.upd.tapSettle.putB.lineSettle

/-! ### Grants -/

protected theorem Kept.applyEqds (h : Kept P s) : Kept P (applyEqds s q) := Kept.ite h (h.foldl fun _ _ ht => ht.put.putB).modAct.showGasp

protected theorem Kept.applyUpTribs (h : Kept P s) : Kept P (applyUpTribs s q) := by
  grind [applyUpTribs, Kept.dropUpTrib, Kept.wrWord, Kept.foldl, Kept, privileges]

protected theorem Kept.pathFrameDue (h : Kept P s) : Kept P (pathFrameDue s q) := h.applyEqds.applyUpTribs

protected theorem Kept.readAhead (h : Kept P s) : Kept P (readAhead s w a) := by
  grind [readAhead, Kept.modBpm, Kept.foldl, Kept, privileges]

protected theorem Kept.windowDecoded (h : Kept P s) : Kept P (windowDecoded s w) := by
  grind [windowDecoded, Kept.wake, Kept.readAhead]

protected theorem Kept.unused {r : Nat} (h : Kept P s) : Kept P (unused s q r k) := h.addTo

/-! ### Burst -/

protected theorem Kept.takeBsn (h : Kept P s) : Kept P (takeBsn s q).1 := by
  grind [takeBsn, Kept.inc]

protected theorem Kept.yieldTo {fine : Nat} (h : Kept P s) : Kept P (yieldTo s p a fine len) := h.foldl fun _ _ ht => ht.keepBursts.unused

protected theorem Kept.requestBurst {at_ eqd : Nat} {k : BurstKind} {tid plen : Nat} {slot : Option (List Byte)} (h : Kept P s) :
    Kept P (requestBurst s q n at_ eqd k tid len plen slot) := by
  unfold requestBurst
  grind [Kept.takeBsn, Kept.yieldTo, Kept.queueBurst]

protected theorem Kept.setGasp {v : Bool} (h : Kept P s) : Kept P (setGasp s q v) := by
  cases q <;> grind [setGasp, Kept, privileges]

protected theorem Kept.gaspSend {pos pre plen : Nat} (h : Kept P s) : Kept P (gaspSend s q pos len pre plen) := by
  have last {t : State} (ht : Kept P t) : Kept P (match q with
      | .a => putB (putB t F.ASH_LAST_sent_a true) F.GLB_SAFE_gasp_a true
      | .b => putB (putB t F.ASH_LAST_sent_b true) F.GLB_SAFE_gasp_b true) := by
    cases q
    · exact ht.putB.putB
    · exact ht.putB.putB
  refine h.unless fun h => Kept.endBursts (Kept.raiseGrey (last (Kept.updUpb (Kept.sendLight (Kept.inc ?_)))))
  exact h.setGasp.chargePath.takeBsn

protected theorem Kept.gaspTry {ws : List Window} (h : Kept P s) : Kept P (gaspTry s q ws) := by
  grind [gaspTry, Kept.gaspSend, Kept.foldl]

protected theorem Kept.gaspMap {grants : List (List Nat)} (h : Kept P s) : Kept P (gaspMap s q fn grants) := h.reach.gaspTry

protected theorem Kept.decodeMap (h : Kept P s) : Kept P (decodeMap s p) := by
  have decoded {t : State} {ws : List Window} (ht : Kept P t) : Kept P (if getB t F.GLB_SAFE_safe then
      (if laneChan p = 0 then gaspTry t (lanePath p) ws else t) else ws.foldl windowDecoded t) :=
    Kept.ite (ht.when Kept.gaspTry) (ht.foldl fun _ _ ht => ht.windowDecoded)
  unfold decodeMap
  split
  · exact h
  extract_lets q u s1 s2
  have h2 : Kept P s2 := h.updUpb.reach
  exact decoded ((h2.unless fun h => h.unused.greyOf).unless fun h => h.unused.greyOf).updUpb

/-! ### Act -/

protected theorem Kept.takeLcm {typ : Nat} {known : List Byte → Bool} {k : State → List Byte → State} (h : Kept P s)
    (hk : ∀ t b, Kept P t → Kept P (k t b)) : Kept P (takeLcm s q typ known k) := by
  unfold takeLcm
  split
  · exact h
  · exact Kept.ite h (Kept.ite (Kept.ite (hk _ _ h.modAct.inc) h.modAct.inc) h.modAct)

protected theorem Kept.queueFragments {typ : Nat} {data : List Byte} (h : Kept P s) : Kept P (queueFragments s q typ data) :=
  h.foldl fun _ _ ht => ht.queueLcm

protected theorem Kept.pathParams (h : Kept P s) : Kept P (pathParams s q b) :=
  (h.modAct.foldl fun _ _ ht => ht.put.put).when fun h => h.put.clearApr.modAct.putAct.lineSettle

protected theorem Kept.timeAnnounce (h : Kept P s) : Kept P (timeAnnounce s q b) := h.announce

protected theorem Kept.discovery {draw : Nat} (h : Kept P s) : Kept P (discovery s q draw b) :=
  Kept.ite h (Kept.ite h.modAct (Kept.ite h.raiseGrey h.modAct.requestBurst))

protected theorem Kept.unanswered {draw : Nat} (h : Kept P s) : Kept P (unanswered s q draw) := by
  grind [unanswered, Kept.put, Kept.modAct, Kept, privileges]

protected theorem Kept.takeTid (h : Kept P s) : Kept P (takeTid s q b) := h.put.put.modAct.assignHome

protected theorem Kept.assignTid (h : Kept P s) : Kept P (assignTid s q b) :=
  Kept.ite h (Kept.ite (Kept.ite h h.unregister.raiseGrey.takeTid.lineSettle) h.takeTid.putAct.lineSettle)

protected theorem Kept.rangeWindow (h : Kept P s) : Kept P (rangeWindow s q b) :=
  Kept.ite (Kept.ite h.applyEqds.raiseGrey h.applyEqds.requestBurst) h

protected theorem Kept.eqDelay (h : Kept P s) : Kept P (eqDelay s q b) := Kept.ite h.queueLcm.raiseGrey h.applyEqds.modAct.queueLcm
protected theorem Kept.certReq (h : Kept P s) : Kept P (certReq s q z) := Kept.ite h.queueFragments h
protected theorem Kept.fragDrop (h : Kept P s) : Kept P (fragDrop s q) := Kept.ite h.modAct.inc.raiseGrey h

protected theorem Kept.challenge {m : List Byte} (h : Kept P s) : Kept P (challenge s q m) :=
  Kept.ite h.forgetSecrets.authFail.lineSettle (Kept.ite h.forgetSecrets.authFail.lineSettle h.forgetSecrets.modAct)

protected theorem Kept.challengeFragment (h : Kept P s) : Kept P (challengeFragment s q b) := by
  grind [challengeFragment, Kept.fragDrop, Kept.challenge, Kept.modAct, Kept, privileges]

protected theorem Kept.respond (h : Kept P s) : Kept P (respond s q) := by
  grind [respond, Kept.stepFree, Kept.modAct, Kept.queueFragments, Kept, privileges]

protected theorem Kept.sendConfirm (h : Kept P s) : Kept P (sendConfirm s q) := by
  grind [sendConfirm, Kept.queueLcm, Kept.modAct, Kept, privileges]

protected theorem Kept.slotRetired (h : Kept P s) : Kept P (slotRetired s q k) := h.actReturn.offer.lineSettle

protected theorem Kept.keyConfirm (h : Kept P s) : Kept P (keyConfirm s q b) := by
  grind [keyConfirm, Kept.lineSettle, Kept.authFail, Kept.slotRetired, Kept.slotCommand, Kept.sendConfirm, Kept.modAct, Kept, privileges]

protected theorem Kept.enterT4 (h : Kept P s) : Kept P (enterT4 s q) := (h.foldl fun _ _ ht => ht.put).putAct
protected theorem Kept.registered (h : Kept P s) : Kept P (registered s q z) := Kept.ite h.put.t4Epochs.forgetSecrets.enterT4.lineSettle h
protected theorem Kept.homeAssign (h : Kept P s) : Kept P (homeAssign s q b) := h.modAct

protected theorem Kept.homeApply (h : Kept P s) : Kept P (homeApply s q) := by
  grind [homeApply, Kept.reach, Kept.lineSettle, Kept.assignHome, Kept.modAct, Kept, privileges]

protected theorem Kept.homeFallback (h : Kept P s) : Kept P (homeFallback s q) := by
  grind [homeFallback, Kept.putB, Kept.putHome, Kept.queueLcm, Kept.raiseGrey]

protected theorem Kept.tribAssign (h : Kept P s) : Kept P (tribAssign s q b) := Kept.ite h.modAct h.queueLcm.raiseGrey

protected theorem Kept.tribApply (h : Kept P s) : Kept P (tribApply s q t) := by
  unfold tribApply
  split
  · exact h
  extract_lets s1 s2
  have h2 : Kept P s2 := h.reach.modAct.dropDownTrib
  split
  · exact h2
  · exact h2.wrWord.showTribFault

protected theorem Kept.deactivate (h : Kept P s) : Kept P (deactivate s q z) := Kept.ite h.actReturn.lineSettle h
protected theorem Kept.holdPath (h : Kept P s) : Kept P (holdPath s q z) := Kept.ite h.actHold.lineSettle h
protected theorem Kept.releasePath (h : Kept P s) : Kept P (releasePath s q z) := h.actRelease.lineSettle
protected theorem Kept.resume (h : Kept P s) : Kept P (resume s q z) := Kept.ite h.clearApr.enterT4.lineSettle h
protected theorem Kept.to3Expire (h : Kept P s) : Kept P (to3Expire s q) := Kept.ite h.actReturn.lineSettle h
protected theorem Kept.to6Expire (h : Kept P s) : Kept P (to6Expire s q) := Kept.ite h.actReturn.lineSettle h
protected theorem Kept.skewReport (h : Kept P s) : Kept P (skewReport s q) := Kept.ite h.putI.modAct.queueLcm h

/-! ### Mch -/

protected theorem Kept.modMch {f : Mch → Mch} (h : Kept P s) : Kept P (modMch s f) := h
protected theorem Kept.showMch (h : Kept P s) : Kept P (showMch s) := h.put.put
protected theorem Kept.mchRxDrop (h : Kept P s) : Kept P (mchRxDrop s) := h.inc.raiseGrey
protected theorem Kept.mchPop (h : Kept P s) : Kept P (mchPop s) := h.modMch.showMch

protected theorem Kept.mchServe {fuel : Nat} (h : Kept P s) : Kept P (mchServe s posts fuel) := by
  induction fuel generalizing s posts with
  | zero => exact h
  | succ fuel ih =>
    unfold mchServe
    grind [Kept.mchPop, Kept.mchRxDrop, Kept.modMch, Kept.hifDiscard, Kept.inc, Kept.rxMessage]

protected theorem Kept.uartDone (h : Kept P s) : Kept P (uartDone s) := by
  grind [uartDone, Kept.mchPop, Kept.inc, Kept.emit, Kept.mchServe]

protected theorem Kept.mchMessage {msg : List Byte} (h : Kept P s) : Kept P (mchMessage s msg posts) :=
  Kept.ite h.mchRxDrop h.modMch.showMch.mchServe

protected theorem Kept.mchBad (h : Kept P s) : Kept P (mchBad s) := Kept.ite h.modMch.inc.raiseGrey h
protected theorem Kept.mchTakePath (h : Kept P s) : Kept P (mchTakePath s q) := Kept.ite h (Kept.ite h.put h.put.raiseGrey)

protected theorem Kept.mgtBlock {b : Option (List Byte)} (h : Kept P s) : Kept P (mgtBlock s q b posts) := by
  unfold mgtBlock
  grind [Kept.mchBad, Kept.mchTakePath, Kept.modMch, Kept.mchMessage, Kept, privileges]

protected theorem Kept.mchTxDrop (h : Kept P s) : Kept P (mchTxDrop s) := h.inc.raiseGrey
protected theorem Kept.mchEnqueue {msg : List Byte} (h : Kept P s) : Kept P (mchEnqueue s msg) := Kept.ite h.mchTxDrop h.modMch.showMch

protected theorem Kept.mchSlot {b : List Byte} {t : State} (h : Kept P s) : mchSlot s q = some (t, b) → Kept P t := by
  unfold mchSlot
  grind [Kept.modMch, Kept.inc, Kept.showMch]

protected theorem Kept.mgtDescriptor {d : TxDesc} (h : Kept P s) : Kept P (mgtDescriptor s t d) := by
  grind [mgtDescriptor, Kept.takeDescriptor, Kept.txRefused, Kept.writeBack, Kept.mchEnqueue]

/-! ### Lcy -/

protected theorem Kept.keyMismatch {c : Cfg} {e : Nat} (h : Kept P s) : Kept P (keyMismatch s c e q sid) :=
  Kept.ite h.inc.raiseFor.modLcy h.inc.raiseFor.modLcy.putB.inc.raiseFor.contained.lineSettle

protected theorem Kept.showEngine (h : Kept P s) : Kept P (showEngine s n) := h.put

protected theorem Kept.markLost {g : Seg} (h : Kept P s) : Kept P (markLost s g code) := by
  grind [markLost, Kept.bndLost, Kept, privileges]

protected theorem Kept.lcyPass {g : Seg} (h : Kept P s) : Kept P (lcyPass s g) := by
  grind [lcyPass, Kept.markLost, Kept.monOut, Kept.monIn, Kept.bndSegment, Kept.pthUnits]

protected theorem Kept.lcyOpen {w : LcyWait} (h : Kept P s) : Kept P (lcyOpen s w) := by
  grind [lcyOpen, Kept.lcyDiscard, Kept.lcyPass, Kept.keyMismatch, Kept, privileges]

protected theorem Kept.lcyKey {d : Derived} (h : Kept P s) : Kept P (lcyKey s d) := Kept.ite h.inc.cachePut (Kept.ite h h.modLcy.inc)

protected theorem Kept.lcyRelease {l : List LcyWait} {held : List Nat} (h : Kept P s) : Kept P (lcyRelease s l held) := by
  induction l generalizing s held with
  | nil => exact h
  | cons y l ih => grind [lcyRelease, Kept.showEngine, Kept.modLcy, Kept.lcyOpen, Kept, privileges]

protected theorem Kept.lcyEnter {w : LcyWait} (h : Kept P s) : Kept P (lcyEnter s w) := h.modLcy.showEngine.lcyRelease

protected theorem Kept.lcySegment {chan : Nat} {mismatch : Bool} (h : Kept P s) : Kept P (lcySegment s q chan mismatch) := by
  unfold lcySegment
  split
  · exact h
  extract_lets d s1 s2
  have h1 : Kept P s1 := h.upd
  refine Kept.ite h1.lcyEnter ?_
  split
  · exact (h1.monIn.when fun h => h.ctxRefused).lcyDiscard
  · exact (h1.monIn.when fun h => h.put).lcyEnter
  · exact h1.monIn.ctxUse.lcyKey.lcyEnter

protected theorem Kept.derivationDone (h : Kept P s) : Kept P (derivationDone s) := by
  grind [derivationDone, Kept.cachePut, Kept.modLcy, Kept.lcyRelease, Kept, privileges]

protected theorem Kept.rekey (h : Kept P s) : Kept P (rekey s q b) := Kept.ite h.queueLcm.raiseGrey h.queueLcm.put.putB.modLcy.raiseGrey

protected theorem Kept.epochStart (h : Kept P s) : Kept P (epochStart s q up i) :=
  Kept.ite (Kept.ite h.reach.ctxEpoch.modLcy.put h.reach.ctxEpoch.modLcy) h

protected theorem Kept.rekeyRepeat (h : Kept P s) : Kept P (rekeyRepeat s q up i) := by
  grind [rekeyRepeat, Kept.rekeyReq]

protected theorem Kept.engineRetest {e : Nat} (h : Kept P s) : Kept P (engineRetest r e s) := h.onWrite fun _ ht => ht.putB

protected theorem Kept.retestDone {e : Nat} {pass : Bool} (h : Kept P s) : Kept P (retestDone s e pass) :=
  Kept.ite (Kept.ite h.putB.putB.put.lineSettle h.putB) h

protected theorem Kept.kstCommand {write : Bool} (h : Kept P s) : Kept P (kstCommand s write) := h.modLcy.kstServe.foldl fun _ _ ht => ht.put
protected theorem Kept.keySlotDrained (h : Kept P s) : Kept P (keySlotDrained s k) := Kept.ite h h.slotDrained.sendConfirm.sendConfirm

/-! ### Fill -/

protected theorem Kept.upDiscard (h : Kept P s) : Kept P (upDiscard s e code) := (Kept.ite h.ctxRefused h).lcyDiscard
protected theorem Kept.tooShort (h : Kept P s) : Kept P (tooShort s e) := h.inc

protected theorem Kept.sealSeg {hdr payload : List Byte} (h : Kept P s) : Kept P (sealSeg s e sid o hdr payload).1 := by
  grind [sealSeg, Kept.inc, Kept.cachePut, Kept.ctxUse, Kept.modLcy, Kept.monOut, Kept.monIn, Kept, privileges]

protected theorem Kept.repeatLater {g : UpSeg} (h : Kept P s) : Kept P (repeatLater s e g) := h.modAid

protected theorem Kept.placeSeg {g : UpSeg} {sent : List Byte} (h : Kept P x.st) : Kept P (placeSeg e x g sent).st := by
  grind [placeSeg, Kept.inc, Kept.sealSeg, Kept.repeatLater, Kept.keyMismatch, Kept, privileges]

protected theorem Kept.sentBytes {frag : Nat} {ing : Ingress} {payload : List Byte} (h : Kept P x.st) :
    Kept P (sentBytes e x frag ing payload).1.st := by
  grind [sentBytes, Kept.tcCorrect, Kept, privileges]

protected theorem Kept.serveSegs {count : Bool} {l : List UpSeg} (h : Kept P x.st) : Kept P (serveSegs e count x l).1.st := by
  induction l generalizing x with
  | nil => exact h
  | cons g l ih =>
    unfold serveSegs
    split
    · exact ih h.releaseRetained
    split
    · exact h
    split
    · exact ih (Kept.ite h.upDiscard.releaseRetained h.upDiscard)
    · extract_lets g'
      split
      · exact h
      · exact h.tooShort
      · have hp : Kept P (placeSeg e (sentBytes e x g'.frag g'.ing g'.payload).1 g' (sentBytes e x g'.frag g'.ing g'.payload).2).st :=
          h.sentBytes.placeSeg
        cases count with
        | true => exact ih hp.inc
        | false => exact ih hp

protected theorem Kept.setRepeats {l : List UpSeg} (h : Kept P s) : Kept P (setRepeats s a q l) := h.modAid

protected theorem Kept.serveRepeats (h : Kept P x.st) : Kept P (serveRepeats e x).1.st := by
  grind [serveRepeats, Fill.on, Kept.serveSegs, Kept.setRepeats, Kept, privileges]

protected theorem Kept.serveCopies (h : Kept P x.st) : Kept P (serveCopies e x).1.st := by
  have hs : Kept P (serveSegs e false { x with st := setCopies (dropCopies x.st e.idx e.q (tooOld x.st)) e.idx e.q [] }
      (copiesOf (dropCopies x.st e.idx e.q (tooOld x.st)) e.idx e.q)).1.st := Kept.serveSegs h.dropCopies.setCopies
  exact hs.setCopies

protected theorem Kept.serveResend (h : Kept P x.st) : Kept P (serveResend e x).1.st := by
  grind [serveResend, Fill.on, Kept.serveSegs, Kept.showAid, Kept.modAid, Kept, privileges]

protected theorem Kept.protect {g : UpSeg} (h : Kept P s) : Kept P (protect s e g) := by
  refine Kept.ite (Kept.ite h.expireCopies.dlDrop h.expireCopies.setCopies) (h.when fun h => ?_)
  split
  · exact (h.takeRet _ ‹_›).modAid.showAid
  · exact h.raiseGrey

protected theorem Kept.placeNew {f : QFrame} {frag : Nat} {payload sent : List Byte} (h : Kept P x.st) :
    Kept P (placeNew e x f sid frag payload sent).st := by
  have ite {c : Prop} [Decidable c] {y z : Fill} (hy : Kept P y.st) (hz : Kept P z.st) : Kept P (if c then y else z).st := by
    split
    · exact hy
    · exact hz
  unfold placeNew
  extract_lets m g x1 x2 x3 x4 x5
  have h1 : Kept P x1.st := ite h (Kept.inc h)
  have h2 : Kept P x2.st := by clear_value x1; exact h1.monCount
  have h3 : Kept P x3.st := by clear_value x2; exact ite h2 h2.monIn.monOut
  have h4 : Kept P x4.st := by clear_value x3; exact ite h3 h3.monIn.monOut
  have h5 : Kept P x5.st := h4.placeSeg
  clear_value x5
  exact h5.protect

protected theorem Kept.frameLeaves {f : QFrame} (h : Kept P x.st) : Kept P (frameLeaves e x f bs).st := by
  grind [frameLeaves, Fill.on, Kept.tsqPush, Kept.fate, Kept, privileges]

protected theorem Kept.addRest {r : Remainder} (h : Kept P s) : Kept P (addRest s r) := h
protected theorem Kept.dropRest {r : Remainder} (h : Kept P s) : Kept P (dropRest s r) := h
protected theorem Kept.abandonRest {r : Remainder} (h : Kept P s) : Kept P (abandonRest s r) := h.dropRest.relEntry.inc.greyOf
protected theorem Kept.poisonRest {r : Remainder} (h : Kept P s) : Kept P (poisonRest s r) := h.dropRest.relEntry.bpmDrop.greyOf

protected theorem Kept.serveRests {l : List Remainder} (h : Kept P x.st) : Kept P (serveRests e x l).1.st := by
  induction l generalizing x with
  | nil => exact h
  | cons r l ih =>
    unfold serveRests
    extract_lets q sid enc k
    split
    · exact ih h
    split
    · exact ih h.abandonRest
    split
    · exact ih h.poisonRest
    split
    · exact ih h.dropRest.upDiscard.relEntry
    split
    · exact ih (Kept.placeNew (x := x.on fun s => dropRest s r) h.dropRest).relEntry
    · exact ih h.tooShort
    · split
      · exact ih h
      · exact Kept.placeNew (x := x.on fun s => addRest (dropRest s r) _) h.dropRest.addRest

protected theorem Kept.serveQueues {m : Nat} {root : SNode} {blocked : List Nat} (h : Kept P x.st) :
    Kept P (serveQueues e m root x blocked fuel).st := by
  induction fuel generalizing x blocked with
  | zero => exact h
  | succ fuel ih =>
    unfold serveQueues
    extract_lets env
    split
    · exact h
    · rename_i c _
      split
      · rename_i f sid _ _
        extract_lets taken bs enc y k
        have htaken : Kept P taken.st := h.takeFrame
        have hy : Kept P y.st := htaken.frameLeaves
        have hz : Kept P (sentBytes e y 0 f.ing bs).1.st := hy.sentBytes
        split
        · exact ih htaken.poisonDrop
        split
        · exact ih htaken.relEntry.upDiscard.frameLost
        split
        · exact ih (Kept.placeNew hz).relEntry
        · exact ih h.tooShort
        · split
          · exact ih h
          · exact Kept.placeNew (x := Fill.on _ _) hz.addRest
      · exact ih h

protected theorem Kept.useStreams {c : Cfg} (h : Kept P s) : Kept P (useStreams s c) := h

protected theorem Kept.serveNew (h : Kept P x.st) : Kept P (serveNew e x).st := by
  grind [serveNew, Fill.on, Kept.useStreams, Kept.serveRests, Kept.serveQueues, Kept.foldl, Kept, privileges]

protected theorem Kept.serveAid (h : Kept P x.st) : Kept P (serveAid e x).st := by
  grind [serveAid, Kept.serveRepeats, Kept.serveCopies, Kept.serveResend, Kept.serveNew]

protected theorem Kept.reportBlock {c : Cfg} (h : Kept P s) : Kept P (reportBlock s c q).1 := by
  grind [reportBlock, Kept, privileges]

protected theorem Kept.takeSlot (h : Kept P s) : Kept P (takeSlot s q).1 := by
  unfold takeSlot
  grind [Kept.modAct, Kept.mchSlot, Kept, privileges]

protected theorem Kept.lcmBlock (h : Kept P s) : Kept P (lcmBlock s q).1 := by
  grind [lcmBlock, Kept.takeSlot]

protected theorem Kept.servable {c : Cfg} {chan : Nat} (h : Kept P s) : Kept P (servable s c q chan a).1 := by
  grind [servable, Kept.inc, Kept.greyOf]

protected theorem Kept.readAheadLate {lane start : Nat} (h : Kept P s) : Kept P (readAheadLate s n lane start) :=
  Kept.ite h h.addTo.raiseGrey.modBpm

protected theorem Kept.fillAlloc {size : Nat} (h : Kept P x.st) : Kept P (fillAlloc e x w a off size).1.st := by
  have served {y : Fill} {g : FillEnv} {b : Bool} (hy : Kept P y.st) : Kept P (if b then serveAid g y else y).st := by
    split
    · exact hy.serveAid
    · exact hy
  have hs : Kept P (servable x.st e.cfg e.q e.chan a).1 := h.servable
  unfold fillAlloc
  exact ((served hs.worked.inc).readAheadLate.when Kept.inc).unless Kept.showAid

protected theorem Kept.fillWindow {size : Nat} (h : Kept P x.st) : Kept P (fillWindow e x w off size).1.st := by
  grind [fillWindow, Kept.fillAlloc]

protected theorem Kept.fillBurst {conts : List Window} (h : Kept P s) : Kept P (fillBurst s w conts mis) := by
  grind [fillBurst, Kept.takeBsn, Kept.lcmBlock, Kept.fillWindow, Kept.reportBlock, Kept.queueBurst, Kept.foldl]

protected theorem Kept.fillCont {b : Burst} {size : Nat} (h : Kept P s) : Kept P (fillCont s b w off size mis) := by
  unfold fillCont
  extract_lets q n e
  have hf : Kept P (fillWindow e { st := s, out := [], segs := [], mis := mis } w off size).1.st := Kept.fillWindow h
  exact hf.updUpb.when fun hu => hu.sentAlloc.when Kept.sendLight

protected theorem Kept.skipCont {b : Burst} (h : Kept P s) : Kept P (skipCont s b w) := Kept.ite h.upd.sendLight h

protected theorem Kept.contFill (h : Kept P s) : Kept P (contFill s w mis) := by
  grind [contFill, Kept.fillCont, Kept.unused, Kept.skipCont]

protected theorem Kept.firstFill (h : Kept P s) : Kept P (firstFill s w mis) := by
  unfold firstFill
  extract_lets p q conts drop len
  have dropped {t : State} {l : List Window} (ht : Kept P t) : Kept P (drop t l) := ht.upd
  have filled {t : State} {l : List Window} (ht : Kept P t) : Kept P
      (if get t (F.UPB_PRE_plen (qn q) w.pre) = 0 then greyOf (unused (drop t l) q 4 (1 + l.length)) F.UPB_EVENT_grant_bad [(4, p)]
       else fillBurst t w l mis) := Kept.ite (dropped ht).unused.greyOf ht.fillBurst
  split
  split
  · exact (dropped h).unused
  · exact filled (h.unless fun h => (dropped h).unused)

protected theorem Kept.fillWaiting (h : Kept P s) : Kept P (fillWaiting s w mis) := Kept.ite h.upd.contFill h.upd.firstFill
protected theorem Kept.noteEarly {k : BurstKind} {pos : Nat} (h : Kept P s) : Kept P (noteEarly s k p pos) := h

protected theorem Kept.fillContsFirst {g : Option (Path × Nat)} {p : Nat × Nat} (h : Kept P s) : Kept P (fillContsFirst s g p fuel) := by
  induction fuel generalizing s with
  | zero => exact h
  | succ fuel ih =>
    unfold fillContsFirst
    split
    · exact ih h.fillWaiting.noteEarly
    · exact h

protected theorem Kept.fillInOrder (h : Kept P s) : Kept P (fillInOrder s w mis) := h.fillContsFirst.fillWaiting

protected theorem Kept.fragAbandon (h : Kept P s) : Kept P (fragAbandon s a) := by
  grind [fragAbandon, Kept.abandonRest, Kept.reach]

/-! ### AlarmFire -/

protected theorem Kept.firePath (h : Kept P s) : Kept P (firePath s k uw) := Kept.ite h.reach.markFired.burstLaunch h.reach.markFired

protected theorem Kept.alarmFires [Switching P] (h : Kept P s) : Kept P (alarmFires s k uw) :=
  Kept.ite h (Kept.ite h.dispatchTo (h.foldl fun _ _ ht => ht.firePath.stepFree).firePath)

/-! ### Cpl -/

protected theorem Kept.modCpl {f : Cpl → Cpl} (h : Kept P s) : Kept P (modCpl s f) := h
protected theorem Kept.putPolSlot {b : Bool} {x : Option FwSlot} (h : Kept P s) : Kept P (putPolSlot s b x) := h.upd.put.put
protected theorem Kept.mbxDropped (h : Kept P s) : Kept P (mbxDropped s) := h.inc
protected theorem Kept.mbxDone (h : Kept P s) : Kept P (mbxDone s k v) := h.put.put.put.deliverOwned
protected theorem Kept.mbxPost (h : Kept P s) : Kept P (mbxPost s r k) := Kept.ite h.put h.mbxDropped
protected theorem Kept.mbxAck (h : Kept P s) : Kept P (mbxAck s r k) := Kept.ite h.put h.mbxDropped
protected theorem Kept.mbxClaim (h : Kept P s) : Kept P (mbxClaim s k) := Kept.ite h.put h
protected theorem Kept.mbxComplete (h : Kept P s) : Kept P (mbxComplete s k) := Kept.ite h.mbxDone h
protected theorem Kept.mbxTimeout (h : Kept P s) : Kept P (mbxTimeout s k) := Kept.ite h.raiseGrey.mbxDone h
protected theorem Kept.cplStop (h : Kept P s) : Kept P (cplStop s v) := h.putB.put.put.modCpl.foldl fun _ _ ht => Kept.ite ht.mbxDone ht
protected theorem Kept.cplReset (h : Kept P s) : Kept P (cplReset s cause v) := h.cplStop.inc.put
protected theorem Kept.cplBoot {b : Bool} (h : Kept P s) : Kept P (cplBoot s b) := h.put.putB

protected theorem Kept.coresReleased (h : Kept P s) : Kept P (coresReleased s) := by
  refine h.unless fun h => ?_
  dsimp only
  split
  · exact h.cplStop.raise
  · exact Kept.ite h.cplStop.raise h.sramWrite.put.putB.putB.put.modCpl

protected theorem Kept.cplRestart (h : Kept P s) : Kept P (cplRestart s r) := Kept.ite h (Kept.ite h.modCpl h).cplReset.cplBoot
protected theorem Kept.cplHalt (h : Kept P s) : Kept P (cplHalt s) := Kept.ite h.cplReset h

protected theorem Kept.trialConfirm (h : Kept P s) : Kept P (trialConfirm s) := by
  grind [trialConfirm, Kept.putB, Kept.putPolSlot, Kept.putMax, Kept, privileges]

protected theorem Kept.trialRevert (h : Kept P s) : Kept P (trialRevert s) := h.cplReset.putB.raiseGrey.cplBoot
protected theorem Kept.trialTimeout (h : Kept P s) : Kept P (trialTimeout s) := Kept.ite h.trialRevert h
protected theorem Kept.wdtKick (h : Kept P s) : Kept P (wdtKick s v) := h.modCpl

protected theorem Kept.wdtReset (h : Kept P s) : Kept P (wdtReset s) :=
  Kept.ite h.raiseGrey.modCpl.cplReset.raise (Kept.ite h.raiseGrey.modCpl.trialRevert h.raiseGrey.modCpl.cplReset.cplBoot)

protected theorem Kept.wdtExpire (h : Kept P s) : Kept P (wdtExpire s c) := Kept.ite h (Kept.ite h.modCpl h.wdtReset)
protected theorem Kept.cplDiscard (h : Kept P s) : Kept P (cplDiscard s k) := h.discard
protected theorem Kept.firmwareWrite (h : Kept P s) : Kept P (firmwareWrite s off bs) := h.sramWrite

protected theorem Kept.inject {desc frame : List Byte} (h : Kept P s) : Kept P (inject s i desc frame) := by
  grind [inject, Kept.firmwareWrite, Kept.put, Kept.raiseGrey, Kept.cplDiscard, Kept.overLink, Kept.monIn, Kept.lineFrame]

/-! ### Cal -/

protected theorem Kept.calLineLane {b : Option (List Byte)} (h : Kept P s) : Kept P (calLineLane s b p) :=
  h.modLane.put.put.put.put.applySetpoint.applyTemp

protected theorem Kept.calClientLane {b : Option (List Byte)} (h : Kept P s) : Kept P (calClientLane s b k) := h.put.put

protected theorem Kept.calLine (h : Kept P s) : Kept P (calLine s) :=
  ((h.foldl fun _ _ ht => ht.modEngine).foldl fun _ _ ht => ht.calLineLane).foldl fun _ _ ht => ht.putB

protected theorem Kept.calAsym {b : Option (List Byte)} (h : Kept P s) : Kept P (calAsym s b p) := h.put
protected theorem Kept.calClients (h : Kept P s) : Kept P (calClients s) := h.foldl fun _ _ ht => ht.calClientLane.calAsym
protected theorem Kept.calPut (h : Kept P s) : Kept P (calPut s b) := h.upd.putB
protected theorem Kept.calLoad (h : Kept P s) : Kept P (calLoad s) := h.upd.calLine.calClients.put.put.put.putB.putB.foldl fun _ _ ht => ht.offer

/-! ### Seal -/

protected theorem Kept.memberWrite (h : Kept P s) : Kept P (memberWrite s g a v) := Kept.ite h h.upd.put

protected theorem Kept.memberApply [Switching P] (h : Kept P s) : Kept P (memberApply s i a v) := by
  unfold memberApply
  split
  · exact Switching.switch _ (Kept.ite h h.modOther) _
  · exact h.foldl fun _ _ ht => ht.putExpert

protected theorem Kept.sealEffects (h : Kept P s) : Kept P (sealEffects s g old) := by
  grind [sealEffects, Kept.commitPorts, Kept.clearTable, Kept.meterApply, Kept.put, Kept.foldl]

protected theorem Kept.sealStart (h : Kept P s) : Kept P (sealStart s r g) := Kept.ite h (Kept.ite h.sealResult (Kept.ite h.sealResult h.put))
protected theorem Kept.sealAbandon (h : Kept P s) : Kept P (sealAbandon s g) := Kept.ite h (Kept.ite h.sealResult h.groupClear.sealResult)

protected theorem Kept.sealDone [Switching P] (h : Kept P s) : Kept P (sealDone s g) := by
  grind [sealDone, Kept.sealResult, Kept.put, Kept.inc, Kept.groupClear, Kept.memberApply, Kept.sealEffects, Kept.foldl]

protected theorem Kept.holdTimeout (h : Kept P s) : Kept P (holdTimeout s g) := by
  grind [holdTimeout, Kept.sealResult, Kept.groupClear, Kept.raiseFor]

/-! ### SecPacket -/

protected theorem Kept.rulesClear (h : Kept P s) : Kept P (rulesClear s n) := h.modOther.setExact

protected theorem Kept.rulesPut {b : List Byte} (h : Kept P s) : KeptOpt P (rulesPut s n b) :=
  h.rulesClear.modOther.some.foldl fun _ _ ho => ho.bind fun t ht => by
    have hl : Kept P (stagedLayout t) := ht.upd
    exact .ite hl.exactWrite.updRegs.emUse.some .none

/-! ### Image -/

protected theorem Kept.secApply {b : List Byte} (h : Kept P s) : KeptOpt P (secApply s i b) :=
  .ite (h.some.foldl fun _ _ ho => ho.bind fun _ ht => ht.rulesPut) h.modOther.some

protected theorem Kept.loadSections {es : List (Nat × List Byte)} (h : Kept P s) : Kept P (loadSections s es).2 := by
  induction es generalizing s with
  | nil => exact h
  | cons y es ih =>
    unfold loadSections
    split
    · split
      · exact ih (h.secApply _ ‹_›)
      · exact h
    · exact h

protected theorem Kept.markLoaded (h : Kept P s) : Kept P (markLoaded s b) := (h.foldl fun _ _ ht => ht.setLoaded.put.upd).put

protected theorem Kept.loadImage {p0 : Bool} (h : Kept P s) : Kept P (loadImage s p0 b len).2 := by
  unfold loadImage
  split
  · exact h
  have hl : Kept P (loadSections s ((imgEntries b).map fun e => (e.id, imgBody b e))).2 := h.loadSections
  split
  · exact h
  · rw [‹loadSections s _ = _›] at hl
    exact hl.markLoaded

/-! ### EpcCmd -/

protected theorem Kept.modEpc {f : Epc → Epc} (h : Kept P s) : Kept P (modEpc s f) := h
protected theorem Kept.seedCopy (h : Kept P s) : Kept P (seedCopy s) := (h.upd.foldl fun _ _ ht => ht.setExact).put

protected theorem Kept.stagedPut {v : Option View} {w : Word} (h : Kept P s) : Kept P (stagedPut s a v w) := by
  unfold stagedPut
  grind [Kept.modOther, Kept.setLoaded, Kept.foldl]

protected theorem Kept.stagedWrite {w : Word} (h : Kept P s) : Kept P (stagedWrite s r a w) :=
  Kept.ite h (Kept.ite h.addTo (Kept.ite h.modEpc h.stagedPut))

protected theorem Kept.epcOpen (h : Kept P s) : Kept P (epcOpen s) :=
  Kept.ite h.epcResult (Kept.ite h.put.put.put.putB.modEpc.setEpc.epcResult h.epcResult)

protected theorem Kept.seedDone (h : Kept P s) : Kept P (seedDone s) :=
  Kept.ite ((h.seedCopy.putB.modEpc.foldl fun _ _ ht => ht.stagedPut).foldl fun _ _ ht => ht.taResume) h

protected theorem Kept.epcLoad {p0 : Bool} (h : Kept P s) : Kept P (epcLoad s p0) := Kept.ite h.epcResult (Kept.ite h.epcResult h.modEpc.putB)

protected theorem Kept.loadEnd {detail : Nat} (h : Kept P s) : Kept P (loadEnd s code detail) :=
  Kept.ite h.modEpc.putB.epcResult h.modEpc.putB.epcResult.raise

protected theorem Kept.loadDone (h : Kept P s) : Kept P (loadDone s b) := by
  grind [loadDone, Kept.loadEnd, Kept.loadImage]

protected theorem Kept.armRefused {detail : Nat} (h : Kept P s) : Kept P (armRefused s code detail) := h.epcResult.raise
protected theorem Kept.checkStart {k : CheckKind} (h : Kept P s) : Kept P (checkStart s k) := h.modEpc.putB
protected theorem Kept.checkEnd (h : Kept P s) : Kept P (checkEnd s) := h.modEpc.putB

protected theorem Kept.epcArm (h : Kept P s) : Kept P (epcArm s) :=
  Kept.ite h.epcResult (Kept.ite h.epcResult (Kept.ite h.armRefused h.checkStart))

protected theorem Kept.armAlarms {lead bound : Nat} (h : Kept P s) : Kept P (armAlarms s fn lead bound) :=
  (Kept.ite h.armAt.armAt h.armAt).armAt.armAt

protected theorem Kept.armDone (h : Kept P s) : Kept P (armDone s) := by
  grind [armDone, Kept.checkEnd, Kept.armRefused, Kept.epcResult, Kept.armAlarms, Kept.setEpc]

protected theorem Kept.epcCancel [Switching P] (h : Kept P s) : Kept P (epcCancel s) :=
  Kept.ite h.epcResult (Kept.ite h.epcResult (Kept.ite h.epcResult (h.foldl fun _ _ ht => ht.disarm).unarm.setEpc.epcResult))

protected theorem Kept.epcAbandon (h : Kept P s) : Kept P (epcAbandon s) :=
  Kept.ite h.epcResult (h.checkEnd.putB.modEpc.setEpc.foldl fun _ _ ht => ht.taResume).epcResult

protected theorem Kept.epcAck (h : Kept P s) : Kept P (epcAck s) := Kept.ite h.epcResult h.setEpc.epcResult

protected theorem Kept.epcNow (h : Kept P s) : Kept P (epcNow s) :=
  Kept.ite h.epcResult (Kept.ite h.epcResult (Kept.ite h.epcResult (Kept.ite h.armRefused h.checkStart)))

protected theorem Kept.dropSids (h : Kept P s) : Kept P (dropSids s q) := (h.upd.foldl fun _ _ ht => ht.dfrDiscard).showCtxs

protected theorem Kept.dropGroup (h : Kept P s) : Kept P (dropGroup s q k) := by
  have hr : Kept P (pthUnits (bndReassembleAll (bndFlush s q k ((bndGroup s q k).buf.length + 1)).1 q k
      (bndFlush s q k ((bndGroup s q k).buf.length + 1)).2).1
      (bndReassembleAll (bndFlush s q k ((bndGroup s q k).buf.length + 1)).1 q k
      (bndFlush s q k ((bndGroup s q k).buf.length + 1)).2).2) := h.bndFlush.bndReassembleAll.pthUnits
  unfold dropGroup
  exact (hr.updBnd.foldl fun _ _ ht => ht.bndDiscard).put.putB.updBnd.showGroup

protected theorem Kept.pathsetSwitch {modes : List Nat} (h : Kept P s) : Kept P (pathsetSwitch s modes) := by
  grind [pathsetSwitch, Kept.mergeResync, Kept.releaseRetained, Kept.setCopies, Kept.fitStore, Kept.foldl]

protected theorem Kept.linemapLane (h : Kept P s) : Kept P (linemapLane s p) := (Kept.ite h.modLane h).laneRetarget.applySetpoint
protected theorem Kept.lineTakes [Switching P] (h : Kept P s) : Kept P (lineTakes s q) := h.setActive.modEpc

protected theorem Kept.lineEffects {old : State} (h : Kept P s) : Kept P (lineEffects old s q) := by
  unfold lineEffects
  extract_lets m s1 valid s2 s3 s4 s5
  have h1 : Kept P s1 := h.when fun h => h.dropSids
  have h2 : Kept P s2 := h1.when fun h =>
    (h.foldl fun _ _ ht => Kept.ite ht ht.put).foldl fun _ _ ht => Kept.ite ht ht.dropGroup
  have h3 : Kept P s3 := h2.when fun h => h.pathsetSwitch
  have h4 : Kept P s4 := h3.when fun h => h.foldl fun _ _ ht => ht.linemapLane
  have h5 : Kept P s5 := h4.actDisabled.foldl fun _ _ ht => ht.chanCheck
  exact h5.lineSettle

protected theorem Kept.lineSwitch [Switching P] (h : Kept P s) : Kept P (lineSwitch s q) := h.lineTakes.lineEffects

protected theorem Kept.lineBankSwitch [Switching P] (h : Kept P s) : Kept P (lineBankSwitch s q) :=
  Kept.ite h (Kept.ite (Kept.ite h h.lineBegin).reach.modEpc.lineSwitch (Kept.ite h.reach.lineSwitch h))

protected theorem Kept.nowDone [Switching P] (h : Kept P s) : Kept P (nowDone s) := by
  unfold nowDone
  split
  · extract_lets s1 s2
    have h1 : Kept P s1 := h.checkEnd
    split
    · exact h1.armRefused
    · exact h1.epcResult.quiesceBegin.commitInstant.lineSwitch.lineSwitch.modEpc
  · exact h

protected theorem Kept.commitAck (h : Kept P s) : Kept P (commitAck s) := Kept.ite h.setEpc h
protected theorem Kept.drainDone (h : Kept P s) : Kept P (drainDone s) := Kept.ite h.put.putMax.setEpc.raiseGrey h

protected theorem Kept.scopeReady {x : ScopeRes} (h : Kept P s) : Kept P (scopeReady s x) := by
  unfold scopeReady
  grind [Kept.setQuiesced, Kept.chanCheck, Kept, privileges]

protected theorem Kept.bootFailed (h : Kept P s) : Kept P (bootFailed s code) := h.upd.put.raise

protected theorem Kept.bootCommit [Switching P] (h : Kept P s) : Kept P (bootCommit s) := by
  unfold bootCommit
  extract_lets b len t
  have ht : Kept P t := Kept.putB h.upd
  have hl : Kept P (loadImage t true (b.take len) len).2 := ht.loadImage
  split
  · exact h.bootFailed
  · rw [‹loadImage t _ _ _ = _›] at hl
    exact hl.inc.put.put.putB.switchBanks.lineSwitch.lineSwitch.put.put.modEpc

protected theorem Kept.bootApply [Switching P] (h : Kept P s) : Kept P (bootApply s) := h.bootCommit

/-! ### Evr -/

protected theorem Kept.modEvr {f : Evr → Evr} (h : Kept P s) : Kept P (modEvr s f) := h
protected theorem Kept.flushAll (h : Kept P s) : Kept P (flushAll s) := h.modEvr.refreshLog
protected theorem Kept.storeFailed {f : StoreFail} (h : Kept P s) : Kept P (storeFailed s f) := (Kept.ite h.put.putB h.put.putB).offer.raise

protected theorem Kept.flushTick {fail : Option StoreFail} (h : Kept P s) : Kept P (flushTick s fail) := by
  unfold flushTick
  grind [Kept.storeFailed, Kept.flushAll]

protected theorem Kept.flushNow (h : Kept P s) : Kept P (flushNow s) := Kept.ite h h.flushAll
protected theorem Kept.modWin {f : LogWin → LogWin} (h : Kept P s) : Kept P (modWin s r f) := h.modEvr
protected theorem Kept.cursorWrite {c : Word} (h : Kept P s) : Kept P (cursorWrite s r c) := h.modWin
protected theorem Kept.windowCopied (h : Kept P s) : Kept P (windowCopied s r) := Kept.ite h h.modWin

protected theorem Kept.clrChallenge (h : Kept P s) : Kept P (clrChallenge s) :=
  Kept.ite h.put (Kept.ite h (Kept.ite h.put (h.stepFree.foldl fun _ _ ht => ht.put).put.modEvr))

protected theorem Kept.clrRespond (h : Kept P s) : Kept P (clrRespond s) := h.modEvr
protected theorem Kept.clearLog (h : Kept P s) : Kept P (clearLog s) := (Kept.ite h.stepFree.stepFree h).modEvr.inc.refreshLog.stepFree.offerArgs

protected theorem Kept.clrVerify (h : Kept P s) : Kept P (clrVerify s) :=
  Kept.ite h (Kept.ite h.modEvr.put.modEvr.clearLog.raiseGrey h.modEvr.put.modEvr.raise)

protected theorem Kept.refillBuckets (h : Kept P s) : Kept P (refillBuckets s) := h.modEvr
protected theorem Kept.rlCfgWrite {w : Word} (h : Kept P s) : Kept P (rlCfgWrite s w) := h.modBanks.modEvr
protected theorem Kept.opTimeSave (h : Kept P s) : Kept P (opTimeSave s) := h.modEvr
protected theorem Kept.counterWrite (h : Kept P s) : Kept P (counterWrite s c v) := Kept.ite h h.put

/-! ### Wrd -/

protected theorem Kept.modWrd {f : Wrd → Wrd} (h : Kept P s) : Kept P (modWrd s f) := h
protected theorem Kept.wrdEnd (h : Kept P s) : Kept P (wrdEnd s code) := Kept.ite h.put.putB.raiseGrey h.put.putB.raise
protected theorem Kept.wrdJob {j : WrdJob} (h : Kept P s) : Kept P (wrdJob s j) := h.modWrd.putB.put
protected theorem Kept.putWrdSlot {b : Bool} {x : Option FwSlot} (h : Kept P s) : Kept P (putWrdSlot s b x) := h

protected theorem Kept.policyWrite {b : Bool} {img : List Byte} (h : Kept P s) : Kept P (policyWrite s b img) :=
  Kept.ite h.wrdEnd (Kept.ite h.wrdEnd h.putPolSlot.wrdJob)

protected theorem Kept.wardenWrite {b : Bool} {img : List Byte} (h : Kept P s) : Kept P (wardenWrite s b img) :=
  Kept.ite h.wrdEnd (Kept.ite h.wrdEnd h.putWrdSlot.wrdJob)

protected theorem Kept.keyAdd {key : List Byte} (h : Kept P s) : Kept P (keyAdd s k key) :=
  Kept.ite h.wrdEnd (Kept.ite h.stepFree.wrdEnd h.upd.put.wrdEnd)

protected theorem Kept.keyRevoke (h : Kept P s) : Kept P (keyRevoke s k) := h.upd.put.put.wrdEnd
protected theorem Kept.calLock {open_ : Bool} (h : Kept P s) : Kept P (calLock s open_) := h.upd.putB
protected theorem Kept.calUnlock (h : Kept P s) : Kept P (calUnlock s) := Kept.ite h.calLock.wrdEnd h.calLock.wrdEnd
protected theorem Kept.calWrite (h : Kept P s) : Kept P (calWrite s b) := Kept.ite h.wrdEnd (Kept.ite h.wrdEnd h.calPut.wrdJob)
protected theorem Kept.calRead (h : Kept P s) : Kept P (calRead s) := h.emit.wrdEnd

protected theorem Kept.wrdRun {x : WrdReq} {p0 p1 : Bool} (h : Kept P s) : Kept P (wrdRun s x p0 p1) := by
  cases x <;> grind [wrdRun, Kept.wrdEnd, Kept.policyWrite, Kept.wardenWrite, Kept.keyAdd, Kept.keyRevoke, Kept.putB, Kept.calUnlock,
      Kept.calWrite, Kept.calRead]

protected theorem Kept.wrdCommand {x : WrdReq} (h : Kept P s) : Kept P (wrdCommand s r x) := by
  grind [wrdCommand, Kept.put, Kept.putB, Kept.raise, Kept.modWrd, Kept.wrdRun, Kept, privileges]

protected theorem Kept.policyDone {ok : Bool} (h : Kept P s) : Kept P (policyDone s ok) := by
  grind [policyDone, Kept.put, Kept.modWrd, Kept.wrdEnd, Kept.putPolSlot, Kept, privileges]

protected theorem Kept.wardenDone {ok : Bool} (h : Kept P s) : Kept P (wardenDone s ok) := by
  unfold wardenDone
  split
  · exact Kept.ite h.modWrd.put.putWrdSlot.updFlash.wrdEnd h.modWrd.put.wrdEnd
  · exact h

protected theorem Kept.calPartly {f : List Byte} (h : Kept P s) : Kept P (calPartly s f) := h.calPut.stepFree

protected theorem Kept.calDone {ok : Bool} (h : Kept P s) : Kept P (calDone s ok) := by
  grind [calDone, Kept.put, Kept.modWrd, Kept.calPut, Kept.calPartly, Kept.wrdEnd, Kept.calLock, Kept, privileges]

protected theorem Kept.jobCut (h : Kept P s) : Kept P (jobCut s) := by
  grind [jobCut, Kept.modWrd, Kept.calPartly, Kept, privileges]

protected theorem Kept.wardenStop [Falling P] (h : Kept P s) : Kept P (wardenStop s) := h.modWrd.jobCut.putB.dropP0

protected theorem Kept.confirmTrials (h : Kept P s) : Kept P (confirmTrials s) := by
  unfold confirmTrials
  extract_lets s1
  have h1 : Kept P s1 := h.trialConfirm
  split
  · exact h1
  · exact h1.putWrdSlot.updFlash

protected theorem Kept.wardenFails [Falling P] (h : Kept P s) : Kept P (wardenFails s) := by
  unfold wardenFails
  extract_lets trial b cut s1 s2
  have h2 : Kept P s2 := h.wardenStop.when fun h => h.wrdEnd
  exact h2.when fun h => h.modWrd.updFlash.raiseGrey

protected theorem Kept.wardenExpire [Falling P] (h : Kept P s) : Kept P (wardenExpire s) := Kept.ite h h.wardenFails.inc.raiseGrey
protected theorem Kept.trialDue [Falling P] (h : Kept P s) : Kept P (trialDue s) := Kept.ite h.wardenFails h.trialTimeout
protected theorem Kept.wardenRuns {b : Bool} (h : Kept P s) : Kept P (wardenRuns s b) := h.putB.putB.modWrd.put

protected theorem Kept.wardenRestart [Switching P] (h : Kept P s) : Kept P (wardenRestart s) := by
  unfold wardenRestart
  split
  · exact h
  split
  · exact h
  · extract_lets s1 s2 s3 s4
    have h2 : Kept P s2 := h.wardenRuns.when fun h => h.bootApply
    have h4 : Kept P s4 := h2.kstServe.sendConfirm.sendConfirm
    split
    · exact h4
    · exact h4.modWrd.putB.wrdRun

protected theorem Kept.wrdWrite {x : WrdReq} (h : Kept P s) : Kept P (wrdWrite s r x) := h.onWrite fun _ ht => ht.wrdCommand

/-! ### Resets -/

protected theorem Kept.cleared [Resetting P] (s : State) : Kept P (cleared s) := Resetting.reset

protected theorem Kept.powerOnRecord (h : Kept P s) : Kept P (powerOnRecord s cause) := h.put.offer
protected theorem Kept.setApr (h : Kept P s) : Kept P (setApr s) := h.putB.putB

protected theorem Kept.testStores (h : Kept P s) : Kept P (testStores s bad) := by
  unfold testStores
  grind [Kept.putB, Kept.storeFailed]

protected theorem Kept.moduleReset [Resetting P] (s : State) {cause : Nat} {bad : Option StoreFail} : Kept P (moduleReset s cause bad) := by
  unfold moduleReset
  extract_lets s1 keys empty hold s2 s3 s4 s5 s6
  have h2 : Kept P s2 := Kept.cleared _
  clear_value s2
  have h3 : Kept P s3 := h2.upd
  clear_value s3
  have h6 : Kept P s6 := (h3.foldl fun _ _ ht => Kept.ite ht ht.putB).setApr.refreshLog.putB.put
  exact h6.testStores.powerOnRecord

protected theorem Kept.powerOn [Resetting P] (s : State) : Kept P (powerOn s) := by
  unfold powerOn
  extract_lets log op s1 evr s2
  have h1 : Kept P s1 := Kept.cleared _
  have h2 : Kept P s2 := h1.upd
  exact h2.incSat.put.refreshLog.putB.putB.put.powerOnRecord

protected theorem Kept.startPaths (h : Kept P s) : Kept P (startPaths s cause) :=
  h.foldl fun _ _ ht => (Kept.ite ht.putB.putB.put ht.putB.putB).put.showGasp

protected theorem Kept.lineTakesBank [Switching P] (h : Kept P s) : Kept P (lineTakesBank s) :=
  Kept.ite h (h.foldl fun _ _ ht => Kept.ite ht.lineSwitch ht)
protected theorem Kept.giveBack (h : Kept P s) : Kept P (giveBack s) := (h.foldl fun _ _ ht => ht.releaseSegs).foldl fun _ _ ht => ht.relEntry

protected theorem Kept.lineReset [Switching P] (h : Kept P s) : Kept P (lineReset s) := by
  unfold lineReset
  extract_lets s1 s2 s3 s4 epc s5 s6 s7 s8
  have h2 : Kept P s2 := h.lineTakesBank.giveBack.foldl fun _ _ ht => ht.slotCommand.slotCommand
  have h4 : Kept P s4 := h2.resetWords.resetLive
  clear_value s4
  have h5 : Kept P s5 := h4.upd
  clear_value s5
  have h6 : Kept P s6 := h5.foldl fun _ _ ht => Kept.ite ht ht.slotDrained
  have h7 : Kept P s7 := h6.foldl fun _ _ ht => by
    split
    · exact ht.tokenRelease
    · exact ht
  have h8 : Kept P s8 := h7.foldl fun _ _ ht => ht.showTribFault
  exact h8.calLine.startPaths.lineSettle

protected theorem Kept.lanesStart (h : Kept P s) : Kept P (lanesStart s) := h.foldl fun _ _ ht => ht.laneRetarget
protected theorem Kept.linkDown [Falling P] (h : Kept P s) : Kept P (linkDown s) := (h.dropP0.foldl fun _ _ ht => ht.stopRingsOf).put.put.put

protected theorem Kept.controlReset [Falling P] [Switching P] (h : Kept P s) : Kept P (controlReset s) := by
  have lost {t : State} {resets : List Nat} (ht : Kept P (dropP0 t)) : Kept P { t with
      epc := { groups := t.epc.groups.filter fun e => !inRegionOf 5 e.1 }
      ltu := {}, hif := {}, tsu := {}, shadows := [], snapNext := [], cpl := { wdtResets := resets }, i2c := [] } := ht.elsewhere
  unfold controlReset
  extract_lets s1 resets n s2 s3 s4 s5 s6
  have h1 : Kept P s1 := (h.when fun h => h.unarm).linkDown.lineTakesBank
  have h4 : Kept P s4 := h1.resetWords.resetLive.put
  have h6 : Kept P s6 := (lost h4.dropP0).foldl fun _ _ ht => ht.put
  exact h6.put.calClients.cplBoot

/-! ### SafeState -/

protected theorem Kept.gaspStart (h : Kept P s) : Kept P (gaspStart s code) := h.putB.putB.put.putB.put.upd.foldl fun _ _ ht => ht.gaspTry
protected theorem Kept.safeRegion (h : Kept P s) : Kept P (safeRegion s n) := h.endTransition.putB.packetReset.put.put

protected theorem Kept.safeRegions [Falling P] (h : Kept P s) : Kept P (safeRegions s) := by
  have stopped {t : State} (ht : Kept P t) : Kept P { t with
      epc := {}, cpl := { t.cpl with kicked := 0 }
      pwr := { t.pwr with stepRunning := false, stopped := true, controlOn := false, lineOn := false } } := ht
  unfold safeRegions
  extract_lets s1 s2 s3 s4 s5 s6 s7 cpl pwr
  have h3 : Kept P s3 := (h.foldl fun _ _ ht => ht.safeRegion).linkDown.putB.put.put
  have h5 : Kept P s5 := h3.resetWords.resetWords
  have h7 : Kept P s7 := (h5.foldl fun _ _ ht => ht.tokenRelease).put
  exact stopped h7

protected theorem Kept.safeEnter [Falling P] (h : Kept P s) : Kept P (safeEnter s code) :=
  Kept.ite h h.put.put.putB.put.gatesChanged.putB.gaspStart.safeRegions

protected theorem Kept.thermalTrip [Falling P] (h : Kept P s) : Kept P (thermalTrip s) := h.putB.raiseGrey.upd.safeEnter

protected theorem Kept.inputCollapse [Falling P] {good : Bool} (h : Kept P s) : Kept P (inputCollapse s good) :=
  h.upd.putB.putB.raiseGrey.jobCut.opTimeSave.safeEnter

protected theorem Kept.aonLoss [Falling P] (h : Kept P s) : Kept P (aonLoss s) := h.fltRecord.safeEnter

protected theorem Kept.gaspGiveUp (h : Kept P s) : Kept P (gaspGiveUp s q) := by
  unfold gaspGiveUp
  grind [Kept.raiseGrey, Kept.setGasp]

protected theorem Kept.logClose (h : Kept P s) : Kept P (logClose s) := Kept.ite h h.offer.flushNow.modEvr.putB
protected theorem Kept.bankDischarge (h : Kept P s) : Kept P (bankDischarge s) := Kept.ite h.upd.setGasp.setGasp.putB h
protected theorem Kept.resetLow [Resetting P] (s : State) : Kept P (resetLow s bad) := (Kept.moduleReset s).upd.tapSettle

protected theorem Kept.holdRelease [Resetting P] (h : Kept P s) : Kept P (holdRelease s bad) := Kept.ite h (Kept.ite (Kept.moduleReset _) h.upd)

protected theorem Kept.powerGood [Resetting P] (h : Kept P s) : Kept P (powerGood s bad) := Kept.ite (Kept.moduleReset _) h.upd.putB.putB

/-! ### Startup -/

protected theorem Kept.modPwr {f : Pwr → Pwr} (h : Kept P s) : Kept P (modPwr s f) := h

protected theorem Kept.stepZero (h : Kept P s) : Kept P (stepZero s) := by
  grind [stepZero, Kept.calLoad, Kept.wardenRuns]

protected theorem Kept.startStep (h : Kept P s) : Kept P (startStep s) := by
  grind [startStep, Kept.modPwr, Kept.tokenRequest, Kept.stepZero, Kept, privileges]

protected theorem Kept.stepWork [Switching P] (h : Kept P s) : Kept P (stepWork s k) := by
  grind [stepWork, Kept.cplBoot, Kept.modPwr, Kept.bootApply, Kept.lineSettle, Kept.startPaths, Kept.sendStandings, Kept.owedTaken,
      Kept.put, Kept.enginePut, Kept, privileges]

protected theorem Kept.stepNext (h : Kept P s) : Kept P (stepNext s k) := Kept.ite h.modPwr h.modPwr.put.put

protected theorem Kept.stepRelease (h : Kept P s) : Kept P (stepRelease s k) := by
  grind [stepRelease, Kept.tokenRelease]

protected theorem Kept.stepSettled [Switching P] (h : Kept P s) : Kept P (stepSettled s) :=
  Kept.ite h (Kept.ite (h.stepRelease.stepWork.stepNext.foldl fun _ _ ht => ht.laneRetarget) h.stepRelease.stepWork.stepNext)

protected theorem Kept.stepTimeout [Falling P] (h : Kept P s) : Kept P (stepTimeout s) := by
  unfold stepTimeout
  extract_lets k s1 s2
  have h1 : Kept P s1 := h.stepRelease.putB.raise
  exact Kept.ite h (Kept.ite h1.modPwr.safeEnter (Kept.ite h1.modPwr.fltRecord.stepNext h1.modEngine.stepNext))

protected theorem Kept.tokenGrant_grantNext (h : Kept P s) : Kept P (tokenGrant.grantNext s) := by
  unfold tokenGrant.grantNext
  split
  · exact h
  · extract_lets rest pwr s1
    have h1 : Kept P s1 := h.updPwr.tokenTake
    split
    · exact h1.modEngine
    · exact h1

protected theorem Kept.tokenGrant (h : Kept P s) : Kept P (tokenGrant s) := by
  grind [tokenGrant, Kept.tokenGrant_grantNext, Kept.modPwr, Kept.tokenRelease, Kept, privileges]

protected theorem Kept.tokenTimeout (h : Kept P s) : Kept P (tokenTimeout s) := by
  grind [tokenTimeout, Kept.raiseGrey, Kept.put, Kept.modPwr, Kept, privileges]

protected theorem Kept.showTemp {x : Sensor} {t : Int} (h : Kept P s) : Kept P (showTemp s x t) := by
  cases x <;> grind [showTemp, Kept.putI]

protected theorem Kept.showLevels (h : Kept P s) : Kept P (showLevels s) := by
  unfold showLevels
  extract_lets hot s1 s2 s3 s4
  have h1 : Kept P s1 := h.foldl fun _ _ ht => by
    split
    · exact ht.putB.putB
    · exact ht
  exact h1.putB.putB.putB.put.foldl fun _ _ ht => ht.backpressure

protected theorem Kept.tempWarning {x : Sensor} {t : Int} (h : Kept P s) : Kept P (tempWarning s x t) :=
  Kept.ite h (Kept.ite h.showTemp.modPwr.showLevels.raise h.showTemp.modPwr.showLevels)

protected theorem Kept.tempThrottle {x : Sensor} {t : Int} (h : Kept P s) : Kept P (tempThrottle s x t) :=
  Kept.ite h (Kept.ite h.tempWarning.modPwr.showLevels.raise h.tempWarning.modPwr.showLevels)

protected theorem Kept.tempClear {x : Sensor} {t : Int} (h : Kept P s) : Kept P (tempClear s x t) := by
  grind [tempClear, Kept.showTemp, Kept.modPwr, Kept.showLevels, Kept, privileges]

/-! ### Faults -/

protected theorem Kept.modCovered {r : Nat} {f : FltRegion → FltRegion} (h : Kept P s) : Kept P (modCovered s r f) :=
  h.foldl fun _ _ ht => ht.modFlt

protected theorem Kept.startF2 {r : Nat} (h : Kept P s) : Kept P (startF2 s r) := h.modCovered.inc.put
protected theorem Kept.holdRegion {r : Nat} {v : Sev} (h : Kept P s) : Kept P (holdRegion s r v) := h.modCovered.raiseFor

protected theorem Kept.f1Done {r : Nat} (h : Kept P s) : Kept P (f1Done s r) :=
  Kept.ite h.startF2 (Kept.ite h.holdRegion (Kept.ite h.modCovered h.modFlt.startF2))

protected theorem Kept.f2Work [Falling P] [Switching P] {r : Nat} (h : Kept P s) : Kept P (f2Work s r) :=
  Kept.ite h.packetReset.put.put (Kept.ite h.lineReset (Kept.ite h.lineReset.controlReset h))

protected theorem Kept.f2Done [Falling P] [Switching P] {r : Nat} (h : Kept P s) : Kept P (f2Done s r) := by
  grind [f2Done, Kept.f2Work, Kept.holdRegion, Kept.modCovered, Kept.startExit, Kept.tokenRequest, Kept, privileges]

protected theorem Kept.f3Done {r : Nat} (h : Kept P s) : Kept P (f3Done s r) := by
  grind [f3Done, Kept.tokenRelease, Kept.put, Kept.modCovered, Kept.lanesStart, Kept.raiseGrey, Kept.foldl, Kept, privileges]

protected theorem Kept.regionStepDone [Falling P] [Switching P] {r : Nat} (h : Kept P s) : Kept P (regionStepDone s r) :=
  Kept.ite h (Kept.ite h.f1Done (Kept.ite h.f2Done (Kept.ite h.f3Done h)))

protected theorem Kept.restartHeld {r : Nat} (h : Kept P s) : Kept P (restartHeld s r) := Kept.ite h h.modCovered.startF2
protected theorem Kept.fltReset (h : Kept P s) : Kept P (fltReset r n s) := h.onWrite fun _ ht => Kept.ite ht.restartHeld ht

protected theorem Kept.linkFault (h : Kept P s) : Kept P (linkFault s region block cell) :=
  Kept.ite h.fltRecord (h.fltRecord.foldl fun _ _ ht => Kept.ite ht.put.put ht.put.put.isolate)

protected theorem Kept.faultReport_reportOnly (h : Kept P s) : Kept P (faultReport.reportOnly s region kind block cell) := h.fltRecord

protected theorem Kept.faultReport_regionReport (h : Kept P s) : Kept P (faultReport.regionReport s region kind block cell) :=
  Kept.ite h.faultReport_reportOnly h.regionFault

protected theorem Kept.faultReport [Falling P] (h : Kept P s) : Kept P (faultReport s region kind block cell) := by
  grind [faultReport, Kept.contained, Kept.scopeLane, Kept.faultReport_regionReport, Kept.linkFault, Kept.faultReport_reportOnly,
      Kept.fltRecord, Kept.safeEnter]

protected theorem Kept.hangDetect (h : Kept P s) : Kept P (hangDetect s region block cell) := Kept.ite h.regionFault h

protected theorem Kept.laneRetryTimeout (h : Kept P s) : Kept P (laneRetryTimeout s p) :=
  Kept.ite h (Kept.ite h.modLane h.modLane.contained.laneAdvance.chanCheck)

protected theorem Kept.heartbeatMiss (h : Kept P s) : Kept P (heartbeatMiss s) := Kept.ite h h.isolate

/-! ### Console -/

protected theorem Kept.conReply {status : Nat} {data : List Byte} (h : Kept P s) : Kept P (conReply s status data) :=
  (Kept.ite h.inc.inc h.inc).emit

protected theorem Kept.conCtl {k : State → State} (h : Kept P s) (hk : ∀ t, Kept P t → Kept P (k t)) : Kept P (conCtl s k) :=
  Kept.ite (hk s h) h.conReply

protected theorem Kept.conIdent (h : Kept P s) : Kept P (conIdent s) := h.conReply
protected theorem Kept.conStatus (h : Kept P s) : Kept P (conStatus s) := h.conReply
protected theorem Kept.conJet {j : Nat} (h : Kept P s) : Kept P (conJet s j) := Kept.ite h.conReply h.conReply
protected theorem Kept.conLog {seq : Nat} (h : Kept P s) : Kept P (conLog s seq) := h.conReply
protected theorem Kept.conLaserOff {mask : Nat} (h : Kept P s) : Kept P (conLaserOff s mask) := h.putKill.conReply
protected theorem Kept.conSafe [Falling P] (h : Kept P s) : Kept P (conSafe s) := h.conReply.safeEnter

protected theorem Kept.conRegionReset {r : Nat} (h : Kept P s) : Kept P (conRegionReset s r) :=
  h.conCtl fun _ ht => Kept.ite ht.conReply (Kept.ite ht.conReply (Kept.ite ht.conReply.restartHeld ht.conReply.isolate))

protected theorem Kept.conModuleReset [Resetting P] (h : Kept P s) : Kept P (conModuleReset s bad) := h.conCtl fun _ _ => Kept.moduleReset _

protected theorem Kept.i2cCommand {b : Nat} {w : Word} (h : Kept P s) : Kept P (i2cCommand s b w) :=
  Kept.ite h.put (Kept.ite h.put.put.put.stepFree.stepFree.emit.putB.upd h.put.put.put)

protected theorem Kept.i2cStore {b : Nat} (h : Kept P s) : Kept P (i2cStore s b bs) := h.foldl fun _ _ ht => ht.put
protected theorem Kept.i2cDone {b at_ : Nat} (h : Kept P s) : Kept P (i2cDone s b code at_ bs) := Kept.ite h h.putB.put.put.i2cStore
protected theorem Kept.gpioSettle (h : Kept P s) : Kept P (gpioSettle s) := h.put.foldl fun _ _ ht => Kept.ite ht.raiseGrey ht
protected theorem Kept.gpioEdge {level : Bool} (h : Kept P s) : Kept P (gpioEdge s k level) := h.upd.gpioSettle
protected theorem Kept.tapLoad {i : TapInstr} {resetN : Bool} (h : Kept P s) : Kept P (tapLoad s i resetN) := h.upd.tapSettle
protected theorem Kept.tapSample {vals : List Bool} (h : Kept P s) : Kept P (tapSample s vals) := h.tapLoad.upd.emit.stepFree

/-! ### RegRead -/

protected theorem Kept.refresh (h : Kept P s) : Kept P (refresh s a) :=
  Kept.ite h.showEnergy.showEnergy (Kept.ite h.pathFrameDue.pathFrameDue (Kept.ite h.put h))

protected theorem Kept.clearOnRead (h : Kept P s) : Kept P (clearOnRead s a) := h.foldl fun _ _ ht => ht.put
protected theorem Kept.modShadow {f : Shadow → Shadow} (h : Kept P s) : Kept P (modShadow s r f) := h

protected theorem Kept.readReg {y : Nat} {pair : Bool} (h : Kept P s) : Kept P (readReg s r a y pair).1 := by
  grind [readReg, Kept.clearOnRead, Kept.stepFree, Kept.modShadow, Kept, privileges]

protected theorem Kept.busRead (h : Kept P s) : Kept P (busRead r a s) := by
  grind [busRead, Kept.emit, Kept.deny, Kept.accessed, Kept.inc, Kept.readReg, Kept.refresh]

/-! ### RegWrite -/

protected theorem Kept.fieldWrite {f : Nat × Nat × Acc × Nat} (h : Kept P s) : Kept P (fieldWrite s a v f) := by
  grind [fieldWrite, Kept.put, Kept.putExpert]

protected theorem Kept.plainWrite (h : Kept P s) : Kept P (plainWrite s r a v) :=
  Kept.ite (h.foldl fun _ _ ht => ht.fieldWrite).updateIrq (h.foldl fun _ _ ht => ht.fieldWrite)

protected theorem Kept.memberPart (h : Kept P s) : Kept P (memberPart s r a v) := by
  grind [memberPart, Kept.memberWrite]

protected theorem Kept.wordWrite (h : Kept P s) : Kept P (wordWrite s r a v) := h.plainWrite.stagedWrite.memberPart

protected theorem Kept.selectWrite {ev : Fld} (h : Kept P s) : Kept P (selectWrite s r a v g ev) :=
  Kept.ite (Kept.ite h h.raiseGrey) h.plainWrite

protected theorem Kept.sealWrite (h : Kept P s) : Kept P (sealWrite s r a v) := Kept.ite h.sealAbandon (Kept.ite h.sealStart h)

protected theorem Kept.lineAction [Falling P] (h : Kept P s) : KeptOpt P (lineAction s r a v) := by
  have hp : Kept P (plainWrite s r a v) := h.plainWrite
  unfold lineAction
  extract_lets p s1 s2
  refine .ite h.targetWrite.some <| .ite (Kept.ite hp.rxOffsetCal.stepFree hp).some <| .ite hp.biasWritten.some <| .ite hp.applyTemp.some <|
    .ite h.safKill.some <| .ite h.ceilWrite.some <| .ite h.ceilWrite.some <| .ite h.fuseClr.some <|
    .ite (Kept.ite h.actRelease.lineSettle h).some <| .ite (Kept.some ?_) <| .ite (Kept.ite h.engineRetest h).some <|
    .ite (Kept.some (Kept.ite h ?_)) .none
  · split
    · exact h.pthLockout.pthForce
    · exact h.pthLockout.pthForce
    · exact h.pthLockout.pthClear
    · exact h.pthLockout
  · split
    · exact h.kstCommand
    · exact h.kstCommand
    · exact h

protected theorem Kept.consumeSlow {y : Nat} (h : Kept P s) : Kept P (consumeSlow s n y k) := h.foldl fun _ _ ht => ht.sramWrite

protected theorem Kept.cplAction (h : Kept P s) : KeptOpt P (cplAction s r a v) := by
  grind [cplAction, Kept.cplRestart, Kept.cplHalt, Kept.confirmTrials, Kept.wdtKick, Kept.mbxPost, Kept.mbxAck, Kept.cplDiscard,
      Kept.plainWrite, Kept.consumeSlow, Kept.stepFree, Kept.wrdCommand, KeptOpt]

protected theorem Kept.tsuAction (h : Kept P s) : KeptOpt P (tsuAction s r a v) := by
  grind [tsuAction, Kept.wordWrite, Kept.residClear, Kept.latchWrite, Kept.convWrite, Kept.rateWrite, Kept.stepWrite, Kept.setWrite,
      Kept.tsqPop, KeptOpt, KeptOpt.getD]

/-- A write of a control register; only a cancelled commit switches banks. -/
protected theorem Kept.controlAction [Falling P] (h : Kept P s) (hs : a ≠ R.EPC_CTRL ∨ Switching P) : KeptOpt P (controlAction s r a v) := by
  have hp : Kept P (plainWrite s r a v) := h.plainWrite
  unfold controlAction
  extract_lets k s1 s2 m
  refine .ite (Kept.ite h.alarmArm (Kept.ite h.alarmResult (Kept.ite h.alarmResult (Kept.ite h.put.put.put h.put.put)))).some <|
    .ite (Kept.ite h.alarmDisarm (Kept.ite h.alarmResult h)).some <| .iteOf (fun he => Kept.some ?_) <| .ite (Kept.ite h.epcLoad h).some <|
    .ite (Kept.some ?_) <| .ite (h.ringWrite fun t ht => ht.rxRelease).some <| .ite (Kept.some ?_) <|
    .ite (Kept.ite h.padRelease h).some <| .ite (Kept.ite h.flushNow h).some <| .ite h.cursorWrite.some <|
    .ite (Kept.some (Kept.ite h ?_)) <| .ite h.rlCfgWrite.some <| .ite (Kept.ite h.fltReset h).some <| .ite h.i2cCommand.some <|
    .ite hp.gpioSettle.some .none
  · have : Switching P := hs.resolve_left (absurd he)
    split
    · exact hp.epcOpen
    · exact hp.epcArm
    · exact hp.epcCancel
    · exact hp.epcAbandon
    · exact hp.epcAck
    · exact hp.epcNow
    · exact hp
  · split
    · exact h.p0Challenge
    · exact h.p0Respond
    · exact h.dropP0
    · exact h
  · split
    · exact h.inc
    · exact Kept.ite h.pwrRequest hp
  · split
    · exact h.clrChallenge
    · exact h.clrRespond
    · exact h

protected theorem Kept.packetAction (h : Kept P s) : KeptOpt P (packetAction s r n a v) := by
  grind [packetAction, Kept.taRun, Kept.plainWrite, Kept.modPkt, Kept.ownerRestore, Kept.hopFree, Kept.hopAddref, Kept.hopRead, Kept, privileges,
      KeptOpt]

protected theorem Kept.busAction [Falling P] (h : Kept P s) (hs : a ≠ R.EPC_CTRL ∨ Switching P) : KeptOpt P (busAction s r a v) := by
  unfold busAction
  refine KeptOpt.ite h.sealWrite.some ?_
  split
  · exact h.selectWrite.some
  · split
    · exact h.packetAction
    · exact h.lineAction.orElse (h.cplAction.orElse (h.tsuAction.orElse (h.controlAction hs)))

protected theorem Kept.regWrite [Falling P] (h : Kept P s) (hs : a ≠ R.EPC_CTRL ∨ Switching P) : Kept P (regWrite s r a v) :=
  (h.busAction hs).getD h.wordWrite

protected theorem Kept.pairWrite {lo : Option Nat} {hi : Nat} (h : Kept P s) : Kept P (pairWrite s r a lo hi) := by
  unfold pairWrite
  dsimp only
  split
  · exact h.counterWrite
  · refine Kept.ite h.convWrite (Kept.ite (Kept.ite h.alarmResult (Kept.ite h.alarmResult h.put)) (Kept.wordWrite ?_))
    split
    · exact Kept.ite h.wordWrite h
    · exact h

protected theorem Kept.halfWrite {y : Nat} (h : Kept P s) : Kept P (halfWrite s r a y v) := by
  grind [halfWrite, Kept.modShadow, Kept.pairWrite, Kept, privileges]

protected theorem Kept.mbxBodyWrite {v : Word} (h : Kept P s) : Kept P (mbxBodyWrite s r a v) := by
  cases r <;> grind [mbxBodyWrite, Kept.wrWord, Kept.mbxDropped]

protected theorem Kept.ringStops {x : Bool × Nat} {was : Bool} (h : Kept P s) : Kept P (ringStops s x was) :=
  Kept.ite (Kept.ite h.stopTx h) (Kept.ite h.stopRx h)

protected theorem Kept.writeHere [Falling P] {v : Word} (h : Kept P s) (hs : a ≠ R.EPC_CTRL ∨ Switching P) : Kept P (writeHere s r a v) := by
  unfold writeHere
  split
  · exact h.accessed.mbxBodyWrite
  split
  · exact h.inc
  · exact Kept.ite h.accessed.halfWrite (h.accessed.regWrite hs)

protected theorem Kept.busWrite [Falling P] {v : Word} (h : Kept P s) (hs : a ≠ R.EPC_CTRL ∨ Switching P) : Kept P (busWrite r a v s) := by
  unfold busWrite
  split
  · exact h
  split
  · exact h.ringWrite fun _ ht => (ht.writeHere hs).ringStops
  · exact h.onWrite fun _ ht => ht.writeHere hs

/-! ### Dfr -/

protected theorem Kept.delineate {f : DsFrame} (h : Kept P s) : Kept P (delineate s p f).1 := by
  grind [delineate, Kept.modDfrLane, Kept.put, Kept.hunt, Kept, privileges]

protected theorem Kept.mfHeader {f : DsFrame} (h : Kept P s) : Kept P (mfHeader s p f).1 := by
  grind [mfHeader, Kept.modDfrLane, Kept.putB, Kept, privileges]

protected theorem Kept.aisHeader {f : DsFrame} (h : Kept P s) : Kept P (aisHeader s p f) := Kept.ite h.modDfrLane h
protected theorem Kept.fecFrame {f : DsFrame} (h : Kept P s) : Kept P (fecFrame s p f) := h.modDfrLane
protected theorem Kept.secFrame {f : DsFrame} {missed : Bool} (h : Kept P s) : Kept P (secFrame s p f missed) := h.liveAdd.liveAdd.liveAdd

protected theorem Kept.lcmSlotRx {x : List Byte} (h : Kept P s) : Kept P (lcmSlotRx s q x) :=
  Kept.ite h.inc (Kept.ite h (Kept.ite (Kept.ite h.modAct h.inc) h))

protected theorem Kept.lcmSlots {uncorr : List Nat} {l : List (List Byte)} (h : Kept P s) : Kept P (lcmSlots s q uncorr n i l) := by
  induction l generalizing s i with
  | nil => exact h
  | cons y l ih => grind [lcmSlots, Kept.lcmSlotRx]

protected theorem Kept.lcmFrame {f : DsFrame} (h : Kept P s) : Kept P (lcmFrame s q f n) := h.addTo.lcmSlots
protected theorem Kept.mgtFrame {f : DsFrame} (h : Kept P s) : Kept P (mgtFrame s q f n posts) := (h.foldl fun _ _ ht => ht.mgtBlock).mchServe

protected theorem Kept.contFrame {f : DsFrame} (h : Kept P s) : Kept P (contFrame s p t f) := by
  unfold contFrame
  extract_lets n first bs
  generalize pointer _ _ _ _ = z
  obtain ⟨y, ptr, jc, ok⟩ := z
  dsimp -zeta only
  extract_lets s1 s2 s3 s4 s5 from_ data
  have h1 : Kept P s1 := h.elsewhere
  have h3 : Kept P s3 := h1.put.put
  have h4 : Kept P s4 := Kept.ite h3.inc (h3.when fun h => h.inc)
  have h5 : Kept P s5 := h4.showTrib
  split
  · exact h5
  · exact h5.unless fun h => h.modPort

protected theorem Kept.dfrOut {g : Seg} (h : Kept P s) : Kept P (dfrOut s g) := h

protected theorem Kept.segRx {e : AreaEnv} {g : Option (Seg × Bool)} (h : Kept P s) : Kept P (segRx s e g) := by
  unfold segRx
  grind [Kept.dfrOut, Kept.dfrDiscard, Kept.monIn, Kept.inc, Kept.monOut, Kept, privileges]

protected theorem Kept.payloadFrame {f : DsFrame} {stop : Nat} (h : Kept P s) : Kept P (payloadFrame s p f fn stop) :=
  h.foldl fun _ _ ht => ht.segRx

protected theorem Kept.deliverFrame {f : DsFrame} {stop : Nat} (h : Kept P s) : Kept P (deliverFrame s p f fn stop posts) :=
  (Kept.ite h.upd.lcmFrame.mgtFrame h.upd).payloadFrame

protected theorem Kept.processFrame [Switching P] {f : DsFrame} (h : Kept P s) : Kept P (processFrame s p f posts) := by
  have h0 : Kept P (mfHeader s p f).1 := h.mfHeader
  unfold processFrame
  extract_lets q ids
  generalize mfHeader s p f = z at h0 ⊢
  obtain ⟨s0, missed⟩ := z
  dsimp -zeta only at h0 ⊢
  extract_lets s1 s2 s3 s4 locked fn s5 s6 s7 s8 s9 hit s10 s11
  have h3 : Kept P s3 := h0.aisHeader.secFrame.monCount.monCount.monCount.monCount
  have h4 : Kept P s4 := h3.when fun h => h.modAct
  have h5 : Kept P s5 := Kept.ite h4.put (h4.when fun h => h.put)
  have h6 : Kept P s6 := h5.when fun h => h.putI
  have h7 : Kept P s7 := h6.report.unestablish
  have h9 : Kept P s9 := (h7.when fun h => h.ltuFrame.pathFrameDue).lineSettle
  have h10 : Kept P s10 := h9.foldl fun _ _ ht => ht.contFrame
  have h11 : Kept P s11 := Kept.ite (h10.unless fun h => h.deliverFrame) h9
  exact h11.fecFrame.report.unestablish.lineSettle

protected theorem Kept.downstreamFrame [Switching P] {f : DsFrame} (h : Kept P s) : Kept P (downstreamFrame s p f posts) := by
  grind [downstreamFrame, Kept.gaspMap, Kept.modDfrLane, Kept.delineate, Kept.raiseGrey, Kept.processFrame, Kept.lineSettle,
      Kept.unestablish, Kept.report, Kept, privileges]

/-! ### Upb -/

protected theorem Kept.upTribAssign (h : Kept P s) : Kept P (upTribAssign s q b) := Kept.ite h.upd h.queueLcm.greyOf

protected theorem Kept.buildContainer {rate : Nat} (h : Kept P s) : Kept P (buildContainer s t rate excess).1 := by
  grind [buildContainer, Kept.inc, Kept.putB, Kept.put, Kept, privileges]

protected theorem Kept.buildStanding {w : Nat} (h : Kept P s) : Kept P (buildStanding s q t fn w excess) := by
  grind [buildStanding, Kept.mapperHeld, Kept.unused, Kept.buildContainer, Kept.takeBsn, Kept.queueBurst]

protected theorem Kept.fillStanding {w : Nat} (h : Kept P s) : Kept P (fillStanding s q t fn w excess) := h.upd.buildStanding

protected theorem Kept.fillBefore (h : Kept P s) : Kept P (fillBefore s p c) :=
  h.foldl fun _ _ ht => (ht.foldl fun _ _ ht1 => ht1.fillInOrder.noteEarly).foldl fun _ _ ht1 => ht1.fillStanding.noteEarly

protected theorem Kept.dropNote {e : BurstKind × Nat × Nat} (h : Kept P s) : Kept P (dropNote s e) := h

protected theorem Kept.windowFill {start : Nat} (h : Kept P s) : Kept P (windowFill s p start mis) := by
  grind [windowFill, Kept.dropNote, Kept.fillBefore, Kept.fillInOrder, Kept.pathFrameDue, Kept.reach]

protected theorem Kept.standingBurst (h : Kept P s) : Kept P (standingBurst s t excess) := by
  unfold standingBurst
  extract_lets q
  split
  · exact h.dropNote.updUpb
  · exact h
  · exact h.fillBefore.reach.pathFrameDue.fillStanding

protected theorem Kept.ackEntry {aid : Nat} (h : Kept P s) : Kept P (ackEntry s q aid v) := by
  unfold ackEntry
  split
  · exact h
  · exact Kept.ite h (Kept.ite h.inc.greyOf (Kept.ite h h.put.modAid.releaseRetained))

protected theorem Kept.pathAck (h : Kept P s) : Kept P (pathAck s q b) := h.foldl fun _ _ ht => ht.ackEntry
protected theorem Kept.pathSwitchMsg {z : Path} (h : Kept P s) : Kept P (pathSwitchMsg s z b) := h.modPth

/-! ### Tick -/

protected theorem Kept.tickPath (h : Kept P s) : Kept P (tickPath s q) := Kept.ite h.setPathTime h

protected theorem Kept.tickModule (h : Kept P s) : Kept P (tickModule s) := by
  unfold tickModule
  split
  · exact h
  · exact h.put.updLtu

protected theorem Kept.residency (h : Kept P s) : Kept P (residency s) := (h.foldl fun _ _ ht => ht.inc).foldl fun _ _ ht => ht.inc
protected theorem Kept.holdGates (h : Kept P s) : Kept P (holdGates s) := h.foldl fun _ _ ht => Kept.ite ht.worked ht
protected theorem Kept.countCycles (h : Kept P s) : Kept P (countCycles s) := h.foldl fun _ _ ht => Kept.ite ht.ctrAdd ht

protected theorem Kept.tick (h : Kept P s) : Kept P (tick s) := by
  unfold tick
  extract_lets s1 s2 s3 s4 s5
  have h1 : Kept P s1 := h.elsewhere
  have h2 : Kept P s2 := h1.when fun h => h.residency
  have h4 : Kept P s4 := h2.tickPath.tickPath.tickModule.holdGates.countCycles.endBursts.uartDone.expireCopies
  have h5 : Kept P s5 := h4.when fun h => h.lineSettle
  exact h5.applyEqds.applyEqds.applyUpTribs.applyUpTribs

end

end Sys2Proof.Machine
end

section
/-!
SUPPORT. What every command and every step leave of the privileges (R105, R387, R388, R390), and the statement about them.
-/
set_option Elab.async false
namespace Sys2Proof.Machine
open Sys2Proof

variable {P : Set Privileges}

protected theorem Kept.exec_groupMemberWrite {s : State} {r : Requester} {a : BitVec 28} {v : Word} (h : Kept P s) :
    ∃ t, exec (.groupMemberWrite r a v) s = finish s t ∧ Kept P t := by
  refine ⟨_, rfl, ?_⟩
  split
  · split
    · exact h.onWriteP0 fun _ ht => ht.memberWrite
    · exact h.onWrite fun _ ht => ht.memberWrite
  · exact h

/-- The commands that can bring a module reset (R412). -/
def BringsReset (c : Instr) : Prop := c = .powerOn ∨
  ∃ bad, c = .resetNLow bad ∨ c = .consoleModuleReset bad ∨ c = .powerGoodRestored bad ∨ c = .thermalHoldRelease bad

/-- Every command's meaning ends in `finish`, with an effect that keeps the privileges within a set in which they may fall and the windows change,
and in which P0 may be given, or a reset module is, where the command is one of those that do so. -/
theorem exec_finishes_kept [Falling P] [Switching P] {s : State} (h : Kept P s) (c : Instr) (hg : c = .p0VerifyDone → Granting P)
    (hr : BringsReset c → Resetting P) : ∃ t, exec c s = finish s t ∧ Kept P t := by
  cases c with
  | resetNLow b =>
    have := hr (.inr ⟨b, .inl rfl⟩)
    exact ⟨_, rfl, Kept.resetLow s⟩
  | alarmArm _ _ _ => exact ⟨_, rfl, h.alarmArm⟩
  | alarmDisarm _ _ => exact ⟨_, rfl, h.alarmDisarm⟩
  | alarmLock _ => exact ⟨_, rfl, Kept.ite h.reach.put h⟩
  | alarmFire _ _ => exact ⟨_, rfl, h.alarmFires⟩
  | readLo64 _ _ => exact ⟨_, rfl, h.busRead⟩
  | writeLo64 _ _ _ => exact ⟨_, rfl, h.busWrite (.inr inferInstance)⟩
  | writeHi64 _ _ _ => exact ⟨_, rfl, h.busWrite (.inr inferInstance)⟩
  | downstreamFrame _ _ _ => exact ⟨_, rfl, h.downstreamFrame⟩
  | losAssert _ _ => exact ⟨_, rfl, h.losAssert⟩
  | losClear _ _ => exact ⟨_, rfl, h.losClear⟩
  | lolAssert _ _ _ => exact ⟨_, rfl, h.lolAssert⟩
  | lolClear _ _ => exact ⟨_, rfl, h.lolClear⟩
  | laneEstablished _ => exact ⟨_, rfl, h.laneEstablished⟩
  | clockLock _ => exact ⟨_, rfl, h.clockLock⟩
  | adaptationComplete _ _ => exact ⟨_, rfl, h.adaptDone⟩
  | wavelengthFault _ _ => exact ⟨_, rfl, h.waveFault⟩
  | wavelengthRecover _ _ => exact ⟨_, rfl, h.waveRecover⟩
  | laneTargetWrite _ _ _ => exact ⟨_, rfl, h.targetWrite⟩
  | laneTransitionDone _ => exact ⟨_, rfl, h.transitionDone⟩
  | laneRefuseCleared _ => exact ⟨_, rfl, h.refuseCleared⟩
  | enginePowered _ => exact ⟨_, rfl, h.enginePower⟩
  | trimRecompute _ _ => exact ⟨_, rfl, h.trimRecompute⟩
  | rxOffsetCal _ _ _ => exact ⟨_, rfl, h.rxOffsetCal⟩
  | safBurstPresent _ => exact ⟨_, rfl, h.safPresent⟩
  | safCeilWrite _ _ _ => exact ⟨_, rfl, h.ceilWrite⟩
  | fuseComparatorTrip _ => exact ⟨_, rfl, h.fuseTrip⟩
  | safFuseClr _ _ _ => exact ⟨_, rfl, h.fuseClr⟩
  | safKill _ _ _ => exact ⟨_, rfl, h.safKill⟩
  | reassemblyTimeout _ _ _ _ => exact ⟨_, rfl, h.reasmTimeout⟩
  | mchUartFrameRx bytes =>
    refine ⟨_, rfl, Kept.ite h ?_⟩
    split
    · exact h.mchTxDrop
    · exact h.mchEnqueue
  | spiWrite _ => exact ⟨_, rfl, Kept.ite h.mchEnqueue h⟩
  | pathParams _ => exact ⟨_, rfl, h.takeLcm fun _ _ ht => ht.pathParams⟩
  | timeAnnounce _ => exact ⟨_, rfl, h.takeLcm fun _ _ ht => ht.timeAnnounce⟩
  | discovery _ _ => exact ⟨_, rfl, h.takeLcm fun _ _ ht => ht.discovery⟩
  | announceUnanswered _ _ => exact ⟨_, rfl, h.unanswered⟩
  | assignTid _ => exact ⟨_, rfl, h.takeLcm fun _ _ ht => ht.assignTid⟩
  | rangeWindow _ => exact ⟨_, rfl, h.takeLcm fun _ _ ht => ht.rangeWindow⟩
  | eqDelay _ => exact ⟨_, rfl, h.takeLcm fun _ _ ht => ht.eqDelay⟩
  | certReq _ => exact ⟨_, rfl, Kept.ite h (h.takeLcm fun _ _ ht => ht.certReq)⟩
  | authChallenge _ => exact ⟨_, rfl, Kept.ite h (h.takeLcm fun _ _ ht => ht.challengeFragment)⟩
  | authResponseReady _ => exact ⟨_, rfl, h.respond⟩
  | keyConfirm _ => exact ⟨_, rfl, Kept.ite h (h.takeLcm fun _ _ ht => ht.keyConfirm)⟩
  | registered _ => exact ⟨_, rfl, Kept.ite h (h.takeLcm fun _ _ ht => ht.registered)⟩
  | homeAssign _ => exact ⟨_, rfl, h.takeLcm fun _ _ ht => ht.homeAssign⟩
  | homeAssignApply _ => exact ⟨_, rfl, h.homeApply⟩
  | tribAssign _ => exact ⟨_, rfl, h.takeLcm fun _ _ ht => ht.tribAssign⟩
  | tribAssignApply _ _ => exact ⟨_, rfl, h.tribApply⟩
  | deactivate _ => exact ⟨_, rfl, h.takeLcm fun _ _ ht => ht.deactivate⟩
  | hold _ => exact ⟨_, rfl, h.takeLcm fun _ _ ht => ht.holdPath⟩
  | release _ => exact ⟨_, rfl, h.takeLcm fun _ _ ht => ht.releasePath⟩
  | resume _ => exact ⟨_, rfl, h.takeLcm fun _ _ ht => ht.resume⟩
  | actHoldClr _ _ => exact ⟨_, rfl, h.onWriteP0 fun _ ht => ht.actRelease.lineSettle⟩
  | lcmFragmentTimeout _ => exact ⟨_, rfl, h.fragDrop⟩
  | to3Expire _ => exact ⟨_, rfl, h.to3Expire⟩
  | to6Expire _ => exact ⟨_, rfl, h.to6Expire⟩
  | homeFallback _ => exact ⟨_, rfl, h.homeFallback⟩
  | grantMapDecode _ => exact ⟨_, rfl, h.decodeMap⟩
  | windowFill _ _ _ => exact ⟨_, rfl, h.windowFill⟩
  | fragAbandon _ => exact ⟨_, rfl, h.fragAbandon⟩
  | upTribAssign _ => exact ⟨_, rfl, h.takeLcm fun _ _ ht => ht.upTribAssign⟩
  | standingBurst _ _ _ => exact ⟨_, rfl, h.standingBurst⟩
  | lcySegment _ _ _ => exact ⟨_, rfl, h.lcySegment⟩
  | bndGapSkip _ _ => exact ⟨_, rfl, h.bndGapSkip⟩
  | mergeWindowSkip _ => exact ⟨_, rfl, h.mergeWindowSkip⟩
  | pathAck _ => exact ⟨_, rfl, h.takeLcm fun _ _ ht => ht.pathAck⟩
  | pathSwitchMsg _ => exact ⟨_, rfl, h.takeLcm fun _ _ ht => ht.pathSwitchMsg⟩
  | pthForce _ _ => exact ⟨_, rfl, h.pthForce⟩
  | pthLockout _ _ => exact ⟨_, rfl, h.pthLockout⟩
  | pthClear _ => exact ⟨_, rfl, h.pthClear⟩
  | retentionExpire _ => exact ⟨_, rfl, h.retentionExpire⟩
  | engineRetest _ _ => exact ⟨_, rfl, h.engineRetest⟩
  | retestDone _ _ => exact ⟨_, rfl, h.retestDone⟩
  | rekey _ => exact ⟨_, rfl, h.takeLcm fun _ _ ht => ht.rekey⟩
  | rekeyEpochStart _ _ _ => exact ⟨_, rfl, h.epochStart⟩
  | rekeyReqRepeat _ _ _ => exact ⟨_, rfl, h.rekeyRepeat⟩
  | kstWrite _ => exact ⟨_, rfl, h.onWriteP0 fun _ ht => ht.kstCommand⟩
  | kstErase _ => exact ⟨_, rfl, h.onWriteP0 fun _ ht => ht.kstCommand⟩
  | keySlotDrained _ => exact ⟨_, rfl, h.keySlotDrained⟩
  | clientFrameRx _ _ _ _ _ _ => exact ⟨_, rfl, Kept.ite (Kept.ite h.statAdd.statAdd.inc h.statAdd.statAdd.frameRx) h⟩
  | clientFrameTx n l =>
    refine ⟨_, rfl, ?_⟩
    split
    · exact Kept.ite h h.modPort.frameTx
    · exact h
  | signalDetect _ _ => exact ⟨_, rfl, Kept.ite (h.foldl fun _ _ ht => ht.putB).setLink h⟩
  | laneAdaptDone _ _ _ => exact ⟨_, rfl, Kept.ite (h.foldl fun _ _ ht => ht.putB.putB.put).setLink h⟩
  | alignLock _ _ => exact ⟨_, rfl, Kept.ite h.setLink h⟩
  | alignLoss _ _ => exact ⟨_, rfl, Kept.ite h.setLink h⟩
  | signalLoss _ _ => exact ⟨_, rfl, Kept.ite h.portDown h⟩
  | faultOrderedSetRx _ _ _ =>
    exact ⟨_, rfl, Kept.ite h (Kept.ite (Kept.ite h.putB.putB.receivedSet (Kept.ite h.putB.putB.put.raiseGrey h.putB.putB).emitSet) h)⟩
  | faultClearTimeout _ _ => exact ⟨_, rfl, Kept.ite (Kept.ite h.putB.putB.put.emitSet h.putB.putB.put) (Kept.ite h.putB.putB.receivedSet h)⟩
  | pauseExpire _ _ _ => exact ⟨_, rfl, h.put⟩
  | pauseWatchdog _ _ _ => exact ⟨_, rfl, Kept.ite h.put.put.inc.raise h⟩
  | pauseRefresh _ _ => exact ⟨_, rfl, h.sendReq⟩
  | transparentFrameRx _ _ _ _ => exact ⟨_, rfl, Kept.ite (Kept.ite h.statAdd.statAdd.inc h.statAdd.statAdd.transparentRx) h⟩
  | orderedSetRepeat _ _ => exact ⟨_, rfl, Kept.ite h.mapOrderedSet h⟩
  | demapRecord _ _ => exact ⟨_, rfl, Kept.ite h.demap h⟩
  | orderedSetTimeout _ _ => exact ⟨_, rfl, Kept.ite h h.modPort.emitSet⟩
  | prsPass n k =>
    refine ⟨_, rfl, Kept.ite h ?_⟩
    have hn := h.nextPacket (n := n.val) (k := k.val)
    grind [Kept.pass]
  | allocRetry _ => exact ⟨_, rfl, Kept.ite h h.retryClock⟩
  | taRead _ _ _ => exact ⟨_, rfl, h.onWrite fun _ ht => ht.taRun⟩
  | taWrite _ _ _ => exact ⟨_, rfl, h.onWrite fun _ ht => ht.taRun⟩
  | taInsert _ _ _ => exact ⟨_, rfl, h.onWrite fun _ ht => ht.taRun⟩
  | taDelete _ _ _ => exact ⟨_, rfl, h.onWrite fun _ ht => ht.taRun⟩
  | taLookup _ _ _ => exact ⟨_, rfl, h.onWrite fun _ ht => ht.taRun⟩
  | taActRead _ _ _ => exact ⟨_, rfl, h.onWrite fun _ ht => ht.taRun⟩
  | taActWrite _ _ _ => exact ⟨_, rfl, h.onWrite fun _ ht => ht.taRun⟩
  | dequeue n m post =>
    refine ⟨_, rfl, Kept.ite h ?_⟩
    grind [Kept.serveRoot]
  | meterRefill _ _ _ => exact ⟨_, rfl, h.refill⟩
  | wheelRelease _ _ _ => exact ⟨_, rfl, h.offWheel⟩
  | polAccDone _ _ => exact ⟨_, rfl, h.onWrite fun _ ht => ht.modPkt⟩
  | demotionScan _ =>
    exact ⟨_, rfl, Kept.ite h (((h.foldl fun _ _ ht => ht.scanQueue).foldl fun _ _ ht => ht.scanRetained).emptied.whenB fun _ ht => ht.worked)⟩
  | promotionDone n q =>
    refine ⟨_, rfl, ?_⟩
    split
    · exact Kept.ite h h.worked.promotionDone
    · exact h
  | hopFree _ _ => exact ⟨_, rfl, h.onWrite fun _ ht => ht.put.hopFree⟩
  | hopAddref _ _ => exact ⟨_, rfl, h.onWrite fun _ ht => ht.put.hopAddref⟩
  | hopRead _ _ _ => exact ⟨_, rfl, h.onWrite fun _ ht => ht.put.put.hopRead⟩
  | ownerRestore _ _ _ => exact ⟨_, rfl, h.onWrite fun _ ht => Kept.ite ht.ownerRestore ht⟩
  | patrolScrub _ _ _ _ _ _ _ => exact ⟨_, rfl, Kept.ite h h.scrub⟩
  | memoryTrainingDone _ _ => exact ⟨_, rfl, h.memoryTraining⟩
  | tsuRateWrite _ _ _ => exact ⟨_, rfl, h.onWrite fun _ ht => ht.rateWrite⟩
  | tsuStepWrite _ _ _ => exact ⟨_, rfl, h.onWrite fun _ ht => ht.stepWrite⟩
  | tsuSet _ _ _ => exact ⟨_, rfl, h.onWrite fun _ ht => ht.setWrite⟩
  | domainHoldover _ => exact ⟨_, rfl, Kept.ite h.setDomState.raiseGrey h⟩
  | ppsInEdge _ => exact ⟨_, rfl, Kept.ite h.put.inc.raiseGrey.measured h.put.inc.raiseGrey⟩
  | tsuConvert _ _ _ => exact ⟨_, rfl, h.onWrite fun _ ht => ht.convWrite⟩
  | tsuLatch _ => exact ⟨_, rfl, h.onWrite fun _ ht => ht.latchWrite⟩
  | residClr _ => exact ⟨_, rfl, h.onWrite fun _ ht => ht.residClear⟩
  | ppsOutEdge k =>
    exact ⟨_, rfl, Kept.ite (Kept.ite h h.emit) h⟩
  | tsqPop _ _ => exact ⟨_, rfl, h.onWrite fun _ ht => ht.tsqPop⟩
  | policyWrite _ _ _ => exact ⟨_, rfl, h.wrdWrite⟩
  | policyWriteDone _ => exact ⟨_, rfl, h.policyDone⟩
  | wardenWrite _ _ _ => exact ⟨_, rfl, h.wrdWrite⟩
  | keyAdd _ _ _ => exact ⟨_, rfl, h.wrdWrite⟩
  | keyRevoke _ _ => exact ⟨_, rfl, h.wrdWrite⟩
  | setPref _ _ => exact ⟨_, rfl, h.wrdWrite⟩
  | clusterRestart _ => exact ⟨_, rfl, h.onWrite fun _ ht => ht.cplRestart⟩
  | clusterHalt _ => exact ⟨_, rfl, h.onWrite fun _ ht => ht.cplHalt⟩
  | trialConfirm _ => exact ⟨_, rfl, h.onWrite fun _ ht => ht.confirmTrials⟩
  | wdtKick _ _ => exact ⟨_, rfl, h.onWrite fun _ ht => ht.wdtKick⟩
  | clusterWdtExpire _ => exact ⟨_, rfl, h.wdtExpire⟩
  | mbxPost _ _ => exact ⟨_, rfl, h.onWrite fun _ ht => ht.mbxPost⟩
  | mbxClaim _ => exact ⟨_, rfl, h.mbxClaim⟩
  | mbxComplete _ => exact ⟨_, rfl, h.mbxComplete⟩
  | mbxAck _ _ => exact ⟨_, rfl, h.onWrite fun _ ht => ht.mbxAck⟩
  | mbxTimeout _ => exact ⟨_, rfl, h.mbxTimeout⟩
  | injectDescriptor _ _ _ => exact ⟨_, rfl, h.inject⟩
  | p0Challenge _ => exact ⟨_, rfl, h.onWrite fun _ ht => ht.p0Challenge⟩
  | p0Respond _ => exact ⟨_, rfl, h.onWrite fun _ ht => ht.p0Respond⟩
  | p0Drop _ => exact ⟨_, rfl, h.onWrite fun _ ht => ht.dropP0⟩
  | flr _ => exact ⟨_, rfl, (Kept.ite h.stopRingsOf.put.modHif.dropP0 h.stopRingsOf.put.modHif).raiseGrey⟩
  | flrComplete _ => exact ⟨_, rfl, h.put⟩
  | ringDisable r id =>
    refine ⟨_, rfl, ?_⟩
    split
    · exact h.ringWrite fun _ ht => ht.stopTx
    · exact h.ringWrite fun _ ht => ht.stopRx
  | txDescriptor _ _ => exact ⟨_, rfl, Kept.ite h (Kept.ite h.mgtDescriptor h.txDescriptor)⟩
  | writebackTimeout t k =>
    refine ⟨_, rfl, ?_⟩
    split
    · exact h.writeBack.raiseGrey
    · exact h
  | rxRelease _ _ _ => exact ⟨_, rfl, h.ringWrite fun _ ht => ht.rxRelease⟩
  | interruptCoalesceTimeout id =>
    refine ⟨_, rfl, ?_⟩
    split
    · exact h
    · exact Kept.ite h.modHif.deliverOwned h
  | pwrRequest _ _ _ => exact ⟨_, rfl, h.pwrRequest⟩
  | entryStepDone _ => exact ⟨_, rfl, h.entryDone⟩
  | entryDrainTimeout _ => exact ⟨_, rfl, Kept.ite h.entryUndo h⟩
  | exitStepDone _ => exact ⟨_, rfl, h.exitDone⟩
  | padRelease _ _ => exact ⟨_, rfl, h.padRelease⟩
  | tempWarning _ _ => exact ⟨_, rfl, h.tempWarning⟩
  | tempThrottle _ _ => exact ⟨_, rfl, h.tempThrottle⟩
  | tempClear _ _ => exact ⟨_, rfl, h.tempClear⟩
  | thermalTrip _ _ => exact ⟨_, rfl, Kept.ite h h.tempThrottle.thermalTrip⟩
  | inputCollapse _ => exact ⟨_, rfl, h.inputCollapse⟩
  | ashGaspGiveup _ => exact ⟨_, rfl, h.gaspGiveUp⟩
  | powerGoodRestored b =>
    have := hr (.inr ⟨b, .inr (.inr (.inl rfl))⟩)
    exact ⟨_, rfl, h.powerGood⟩
  | evrFlushTick _ => exact ⟨_, rfl, h.flushTick⟩
  | evrFlush _ => exact ⟨_, rfl, h.onWrite fun _ ht => ht.flushNow⟩
  | evrCursorWrite _ _ => exact ⟨_, rfl, h.onWrite fun _ ht => ht.cursorWrite⟩
  | windowCopyDone _ => exact ⟨_, rfl, h.windowCopied⟩
  | evrClrChallenge _ => exact ⟨_, rfl, h.onWrite fun _ ht => Kept.ite ht.clrChallenge ht⟩
  | evrClrRespond _ => exact ⟨_, rfl, h.onWrite fun _ ht => Kept.ite ht.clrRespond ht⟩
  | evrRlCfgWrite _ _ => exact ⟨_, rfl, h.onWrite fun _ ht => ht.rlCfgWrite⟩
  | counterWrite _ _ _ => exact ⟨_, rfl, h.onWrite fun _ ht => ht.counterWrite⟩
  | pmonFreeze _ _ => exact ⟨_, rfl, h.onWrite fun _ ht => ht.putB⟩
  | groupMemberWrite _ _ _ => exact h.exec_groupMemberWrite
  | sealAbandon _ _ => exact ⟨_, rfl, Kept.ite (h.onWrite fun _ ht => ht.sealAbandon) h⟩
  | sealCheckDone _ => exact ⟨_, rfl, h.sealDone⟩
  | groupHoldTimeout _ => exact ⟨_, rfl, h.holdTimeout⟩
  | epcOpen _ => exact ⟨_, rfl, h.onWrite fun _ ht => ht.epcOpen⟩
  | epcLoad _ => exact ⟨_, rfl, h.onWrite fun _ ht => ht.epcLoad⟩
  | imageLoadDone _ => exact ⟨_, rfl, h.loadDone⟩
  | stagedWrite _ _ _ => exact ⟨_, rfl, h.busWrite (.inr inferInstance)⟩
  | epcArm _ => exact ⟨_, rfl, h.onWrite fun _ ht => ht.epcArm⟩
  | epcCancel _ => exact ⟨_, rfl, h.onWrite fun _ ht => ht.epcCancel⟩
  | epcAbandon _ => exact ⟨_, rfl, h.onWrite fun _ ht => ht.epcAbandon⟩
  | epcAck _ => exact ⟨_, rfl, h.onWrite fun _ ht => ht.epcAck⟩
  | epcNow _ => exact ⟨_, rfl, h.onWrite fun _ ht => ht.epcNow⟩
  | lineBankSwitch _ => exact ⟨_, rfl, h.lineBankSwitch⟩
  | scopeReady _ => exact ⟨_, rfl, h.scopeReady⟩
  | faultReport _ _ _ _ => exact ⟨_, rfl, h.faultReport⟩
  | regionStepDone _ => exact ⟨_, rfl, h.regionStepDone⟩
  | hangDetect _ _ _ => exact ⟨_, rfl, h.hangDetect⟩
  | fltRegionReset _ _ => exact ⟨_, rfl, h.fltReset⟩
  | scopeLaneRetryTimeout _ => exact ⟨_, rfl, h.laneRetryTimeout⟩
  | consoleJetRead _ => exact ⟨_, rfl, h.conJet⟩
  | consoleLogRead _ => exact ⟨_, rfl, h.conLog⟩
  | consoleLaserOff _ => exact ⟨_, rfl, h.conLaserOff⟩
  | consoleRegionReset _ => exact ⟨_, rfl, h.conRegionReset⟩
  | consoleModuleReset b =>
    have := hr (.inr ⟨b, .inr (.inl rfl)⟩)
    exact ⟨_, rfl, h.conModuleReset⟩
  | calUnlock _ => exact ⟨_, rfl, h.wrdWrite⟩
  | calWrite _ _ => exact ⟨_, rfl, h.wrdWrite⟩
  | calSaveRx _ => exact ⟨_, rfl, h.wrdWrite⟩
  | calRead _ => exact ⟨_, rfl, h.wrdWrite⟩
  | i2cCommand _ _ _ => exact ⟨_, rfl, h.onWrite fun _ ht => ht.i2cCommand⟩
  | i2cDone _ _ _ _ => exact ⟨_, rfl, h.i2cDone⟩
  | gpioEdge _ _ => exact ⟨_, rfl, h.gpioEdge⟩
  | extest _ => exact ⟨_, rfl, h.tapLoad⟩
  | samplePreload _ => exact ⟨_, rfl, h.tapSample⟩
  | clamp _ => exact ⟨_, rfl, h.tapLoad⟩
  | highz _ => exact ⟨_, rfl, h.tapLoad⟩
  | extestPulse _ => exact ⟨_, rfl, h.tapLoad⟩
  | extestTrain _ => exact ⟨_, rfl, h.tapLoad⟩
  | registerWrite _ _ _ => exact ⟨_, rfl, h.busWrite (.inr inferInstance)⟩
  | registerRead _ _ => exact ⟨_, rfl, h.busRead⟩
  | pauseIgnoreEnd _ _ _ => exact ⟨_, rfl, h.put⟩
  | wardenWriteDone _ => exact ⟨_, rfl, h.wardenDone⟩
  | calWriteDone _ => exact ⟨_, rfl, h.calDone⟩
  | pcieLinkTrained _ _ => exact ⟨_, rfl, h.put.put.putB.updPins⟩
  | thermalHoldRelease b =>
    have := hr (.inr ⟨b, .inr (.inr (.inr rfl))⟩)
    exact ⟨_, rfl, h.holdRelease⟩
  | powerOn =>
    have := hr (.inl rfl)
    exact ⟨_, rfl, Kept.powerOn s⟩
  | startStep => exact ⟨_, rfl, h.startStep⟩
  | stepSettled => exact ⟨_, rfl, h.stepSettled⟩
  | stepSettleTimeout => exact ⟨_, rfl, h.stepTimeout⟩
  | tokenGrant => exact ⟨_, rfl, h.tokenGrant⟩
  | tokenTimeout => exact ⟨_, rfl, h.tokenTimeout⟩
  | moduleFrameBoundary => exact ⟨_, rfl, h.frameBoundary⟩
  | secOffsetChange => exact ⟨_, rfl, h.takeOffset⟩
  | snapshotComplete => exact ⟨_, rfl, h.snapComplete⟩
  | freezeEnd => exact ⟨_, rfl, h.freezeEnd⟩
  | leadPathChange => exact ⟨_, rfl, h.takeLead⟩
  | leadRevert => exact ⟨_, rfl, h.leadRevert⟩
  | laserEnLow => exact ⟨_, rfl, h.laserLow⟩
  | laserEnHigh => exact ⟨_, rfl, h.laserHigh⟩
  | spiStatus => exact ⟨_, rfl, h.emit⟩
  | spiRead => exact ⟨_, rfl, Kept.ite h.emit h.emit.inc.mchPop.mchServe⟩
  | skewReport => exact ⟨_, rfl, h.skewReport.skewReport⟩
  | keyDerivationDone => exact ⟨_, rfl, h.derivationDone⟩
  | pathSwitchApply => exact ⟨_, rfl, h.switchApply⟩
  | holdoffExpire => exact ⟨_, rfl, h.holdoffExpire⟩
  | wtrExpire => exact ⟨_, rfl, h.wtrExpire⟩
  | domainRebase => exact ⟨_, rfl, h.forEach fun _ _ ht => Kept.ite ht ht.rebase⟩
  | todMessage =>
    refine ⟨_, rfl, ?_⟩
    split
    · exact Kept.ite h.updTsu.emit h.updTsu
    · exact h
  | trialTimeout => exact ⟨_, rfl, h.trialDue⟩
  | wardenWdtExpire => exact ⟨_, rfl, h.wardenExpire⟩
  | perstNAssert => exact ⟨_, rfl, (h.dropP0.foldl fun _ _ ht => ht.stopRingsOf).put.put.put.updPins.modHif.clearHif.put⟩
  | p0VerifyDone =>
    have := hg rfl
    exact ⟨_, rfl, h.p0Verify⟩
  | p0LockoutExpire => exact ⟨_, rfl, h.modHif⟩
  | logClose => exact ⟨_, rfl, h.logClose⟩
  | bankDischarge => exact ⟨_, rfl, h.bankDischarge⟩
  | clrVerifyDone => exact ⟨_, rfl, h.clrVerify⟩
  | rateLimitRefill => exact ⟨_, rfl, h.refillBuckets⟩
  | opTimeTick => exact ⟨_, rfl, h.inc⟩
  | opTimeSave => exact ⟨_, rfl, h.opTimeSave⟩
  | seedCopyDone => exact ⟨_, rfl, h.seedDone⟩
  | armCheckDone => exact ⟨_, rfl, h.armDone⟩
  | nowCheckDone => exact ⟨_, rfl, h.nowDone⟩
  | nowDrainBound => exact ⟨_, rfl, Kept.ite h.drainBound h⟩
  | nowRestartBound => exact ⟨_, rfl, Kept.ite h.restartBound h⟩
  | commitAcknowledged => exact ⟨_, rfl, h.commitAck⟩
  | drainDone => exact ⟨_, rfl, h.drainDone⟩
  | heartbeatMiss => exact ⟨_, rfl, h.heartbeatMiss⟩
  | aonIntegrityLoss => exact ⟨_, rfl, h.aonLoss⟩
  | consoleIdent => exact ⟨_, rfl, h.conIdent⟩
  | consoleStatus => exact ⟨_, rfl, h.conStatus⟩
  | consoleSafeEnter => exact ⟨_, rfl, h.conSafe⟩
  | calUnlockExpire => exact ⟨_, rfl, Kept.ite h.calLock h⟩
  | idcode => exact ⟨_, rfl, h.tapLoad.emit⟩
  | bypass => exact ⟨_, rfl, h.tapLoad⟩
  | clrLockoutExpire => exact ⟨_, rfl, h.modEvr⟩
  | clusterCoresReleased => exact ⟨_, rfl, h.coresReleased⟩
  | wardenRestartDone => exact ⟨_, rfl, h.wardenRestart⟩
  | servedSlewEnd => exact ⟨_, rfl, h.residClear⟩
  -- The one command left is SEAL, whose name Lean reads as a keyword.
  | _ => exact ⟨_, rfl, Kept.ite (h.onWrite fun _ ht => ht.sealStart) h⟩

/-- What `finish` answers keeps the privileges as the command's effect does: `settle` only puts fields. -/
theorem kept_of_finish {s t u : State} (h : Kept P t) (hu : finish s t = .next u) : Kept P u := by
  obtain rfl : settle { t with pending := s.pending } = u := Host.Outcome.next.inj hu
  exact h.upd.settle

/-- What a command at the front of the queue leaves. -/
theorem kept_of_step [Falling P] [Switching P] {s t : State} {c : Instr} {rest : List Instr} (h : Kept P s) (hp : s.pending = c :: rest)
    (ht : step s = .next t) (hg : c = .p0VerifyDone → Granting P) (hr : BringsReset c → Resetting P) : Kept P t := by
  obtain ⟨u, hu, hk⟩ := exec_finishes_kept (s := { s with pending := rest }) h c hg hr
  simp only [step, hp, hu] at ht
  exact kept_of_finish hk ht

/-- What a core tick leaves. -/
theorem kept_of_idle_step {s t : State} (h : Kept P s) (hp : s.pending = []) (ht : step s = .next t) : Kept P t := by
  simp only [step, hp] at ht
  exact kept_of_finish h.tick ht

/-- What an access over the bus leaves, a write of EPC_CTRL apart: no commit switches the banks. -/
theorem kept_of_bus_access [Falling P] {s t : State} {r : Requester} {a : BitVec 28} {v : Word} {c : Instr} (h : Kept P s)
    (ha : a.toNat ≠ R.EPC_CTRL) (hc : c ∈ [Instr.registerRead r a, .registerWrite r a v, .readLo64 r a, .writeLo64 r a v, .writeHi64 r a v,
      .stagedWrite r a v, .groupMemberWrite r a v, .seal r a, .sealAbandon r a]) (ht : exec c s = .next t) : Kept P t := by
  have hw : Kept P (busWrite r a.toNat v s) := h.busWrite (.inl ha)
  simp only [List.mem_cons, List.not_mem_nil, or_false] at hc
  obtain rfl | rfl | rfl | rfl | rfl | rfl | rfl | rfl | rfl := hc
  · exact kept_of_finish h.busRead ht
  · exact kept_of_finish hw ht
  · exact kept_of_finish h.busRead ht
  · exact kept_of_finish hw ht
  · exact kept_of_finish hw ht
  · exact kept_of_finish hw ht
  · obtain ⟨u, hu, hk⟩ := h.exec_groupMemberWrite (r := r) (a := a) (v := v)
    exact kept_of_finish hk (hu.symm.trans ht)
  · exact kept_of_finish (Kept.ite (h.onWrite fun _ ht => ht.sealStart) h) ht
  · exact kept_of_finish (Kept.ite (h.onWrite fun _ ht => ht.sealAbandon) h) ht

/-! ### The sets of privileges -/

/-- P0 is held only if it was held in `s`. -/
def p0Of (s : State) : Set Privileges := { p | p.p0 = true → s.hif.p0 = true }

/-- Neither ceiling is above its value in `s`. -/
def ceilingsOf (s : State) : Set Privileges := { p | p.ceilA ≤ s.saf.ceilA ∧ p.ceilB ≤ s.saf.ceilB }

/-- The windows are those of `s`. -/
def windowsOf (s : State) : Set Privileges := { p | p.windows = s.bank.windows }

theorem falling_p0Of (s : State) : Falling (p0Of s) := ⟨fun _ hp _ _ _ hx _ _ h => hp (hx h)⟩
theorem switching_p0Of (s : State) : Switching (p0Of s) := ⟨fun _ hp _ => hp⟩
theorem resetting_p0Of (s : State) : Resetting (p0Of s) := ⟨fun h => nomatch h⟩

theorem falling_ceilingsOf (s : State) : Falling (ceilingsOf s) := ⟨fun _ ⟨hpa, hpb⟩ _ _ _ _ ha hb => ⟨ha.trans hpa, hb.trans hpb⟩⟩
theorem switching_ceilingsOf (s : State) : Switching (ceilingsOf s) := ⟨fun _ hp _ => hp⟩
theorem granting_ceilingsOf (s : State) : Granting (ceilingsOf s) := ⟨fun _ hp _ => hp⟩

theorem falling_windowsOf (s : State) : Falling (windowsOf s) := ⟨fun _ hp _ _ _ _ _ _ => hp⟩

theorem step_p0 {s t : State} {c : Instr} {rest : List Instr} (hp : s.pending = c :: rest) (ht : step s = .next t) (hc : c ≠ .p0VerifyDone)
    (h0 : t.hif.p0 = true) : s.hif.p0 = true := by
  have := falling_p0Of s
  have := switching_p0Of s
  have h : Kept (p0Of s) s := id
  exact kept_of_step h hp ht (fun e => absurd e hc) (fun _ => resetting_p0Of s) h0

theorem step_ceilings {s t : State} {c : Instr} {rest : List Instr} (hp : s.pending = c :: rest) (ht : step s = .next t)
    (hc : ¬ BringsReset c) : t.saf.ceilA ≤ s.saf.ceilA ∧ t.saf.ceilB ≤ s.saf.ceilB := by
  have := falling_ceilingsOf s
  have := switching_ceilingsOf s
  have h : Kept (ceilingsOf s) s := ⟨le_rfl, le_rfl⟩
  exact kept_of_step h hp ht (fun _ => granting_ceilingsOf s) (fun e => absurd e hc)

theorem idle_step_privileges {s t : State} (hp : s.pending = []) (ht : step s = .next t) : privileges t = privileges s :=
  kept_of_idle_step (P := {privileges s}) rfl hp ht

theorem bus_access_windows {s t : State} {r : Requester} {a : BitVec 28} {v : Word} {c : Instr} (ha : a.toNat ≠ R.EPC_CTRL)
    (hc : c ∈ [Instr.registerRead r a, .registerWrite r a v, .readLo64 r a, .writeLo64 r a v, .writeHi64 r a v,
      .stagedWrite r a v, .groupMemberWrite r a v, .seal r a, .sealAbandon r a]) (ht : exec c s = .next t) : t.bank.windows = s.bank.windows := by
  have := falling_windowsOf s
  have h : Kept (windowsOf s) s := rfl
  exact kept_of_bus_access h ha hc ht

/-- Settles O9: no operation of the model raises a ceiling or gives P0 but those of the named commands, and only the switch of the banks and a
group's application change an access window. -/
theorem stepKeepsPrivileges : Obligations.StepKeepsPrivileges := by
  unfold Obligations.StepKeepsPrivileges
  refine ⟨fun s t c rest hp ht => ⟨step_p0 hp ht, fun hon hreset => step_ceilings hp ht ?_⟩, fun s t hp ht => ?_,
    fun s t r a v c _ ha hc ht => bus_access_windows ha hc ht⟩
  · rintro (he | ⟨bad, he⟩)
    · exact hon he
    · obtain ⟨h1, h2, h3, h4⟩ := hreset bad
      tauto
  · have h := idle_step_privileges hp ht
    simp only [privileges, Privileges.mk.injEq] at h
    exact h

end Sys2Proof.Machine
end

section
/-!
SUPPORT. The line lanes' detectors, their way up, power states and trims (R93 to R102, R106), and the statements about them.
-/
namespace Sys2Proof.Machine
open Sys2Proof

section
variable {s : State} {p snr : Nat} {pwr err temp : Int} {r : Requester}

/-! ### LOS and LOL (R93, R94) -/

theorem losAssert_below (ha : laneActive s p = true) (hl : getB s (F.LNK_LANE_STATUS_los p) = false) (h : pwr < losAssertAt s p) :
    losAssert s p pwr = laneChanged (raiseGrey (modLane (putB (showRxPwr s p pwr) (F.LNK_LANE_STATUS_los p) true) p
      (fun x => { x with clockLocked := false })) (F.LNK_LANE_EVENT_los_set p)) p :=
  if_pos (by simp [ha, hl, h])

theorem losAssert_above (h : losAssertAt s p ≤ pwr) : losAssert s p pwr = s := if_neg (by simp [h])

theorem losClear_above (ha : laneActive s p = true) (hl : getB s (F.LNK_LANE_STATUS_los p) = true) (h : losClearAt s p < pwr) :
    losClear s p pwr = laneChanged (raiseGrey (putB (showRxPwr s p pwr) (F.LNK_LANE_STATUS_los p) false) (F.LNK_LANE_EVENT_los_clr p)) p :=
  if_pos (by simp [ha, hl, h])

theorem losClear_below (h : pwr ≤ losClearAt s p) : losClear s p pwr = s := if_neg (by simp [h])

theorem lolAssert_below (ha : laneActive s p = true) (hl : getB s (F.LNK_LANE_STATUS_lol p) = false) (h : snr < lolAssertAt s p)
    (hs : getB (showSnr s p snr) (F.LNK_LANE_STATUS_lol p) = false) :
    lolAssert s p false snr =
      laneChanged (raiseGrey (putB (showSnr s p snr) (F.LNK_LANE_STATUS_lol p) true) (F.LNK_LANE_EVENT_lol_set p)) p :=
  (if_pos (by simp [ha, hl, h])).trans (if_neg (Bool.eq_false_iff.1 hs))

theorem lolAssert_above (h : lolAssertAt s p ≤ snr) : lolAssert s p false snr = s := if_neg (by simp [h])

theorem lolClear_above (ha : laneActive s p = true) (hl : getB s (F.LNK_LANE_STATUS_lol p) = true) (h : lolClearAt s p < snr) :
    lolClear s p snr = laneChanged (raiseGrey (putB (modLane (showSnr s p snr) p (fun x => { x with clockLocked := true }))
      (F.LNK_LANE_STATUS_lol p) false) (F.LNK_LANE_EVENT_lol_clr p)) p :=
  if_pos (by simp [ha, hl, h])

theorem lolClear_below (h : snr ≤ lolClearAt s p) : lolClear s p snr = s := if_neg (by simp [h])

/-! ### A lane comes up (R93, R106) and its wavelength (R98) -/

theorem clockLock_lit (ha : laneActive s p = true) (hl : getB s (F.LNK_LANE_STATUS_los p) = false) :
    clockLock s p = modLane s p (fun x => { x with clockLocked := true }) := if_pos (by simp [ha, hl])

theorem adaptDone_locked (ha : laneActive s p = true) (hc : (laneSt s p).clockLocked = true)
    (hn : getB s (F.LNK_LANE_STATUS_adapted p) = false) :
    adaptDone s p snr = putB (put s (F.LNK_RX_SNR_snr p) (sat 65535 snr)) (F.LNK_LANE_STATUS_adapted p) true :=
  if_pos (by simp [ha, hc, hn])

theorem laneEstablished_clean (ha : laneActive s p = true) (hd : ((detected s p).take 3).any (fun b => b) = false) :
    laneEstablished s p = lineSettle (modLane s p (fun x => { x with established := true })) := if_pos (by simp only [ha, hd]; rfl)

theorem waveFault_beyond (ho : laneState s p ≠ 4) (h : err < -300 ∨ 300 < err) :
    waveFault s p err = lineSettle (raiseGrey (raiseGrey
      (putB (modLane (showWave s p err) p (fun x => { x with waveDark := true })) (F.LNK_LANE_STATUS_wave_ok p) false)
      (F.LNK_LANE_EVENT_wave_fault p)) ⟨R.OPE_EVENT (engineOf p), p % 16, 1⟩) := if_pos ⟨ho, h⟩

theorem waveFault_within (hl : -300 ≤ err) (hh : err ≤ 300) : waveFault s p err = s := if_neg (by omega)

theorem waveRecover_within (ho : laneState s p ≠ 4) (hl : -200 ≤ err) (hh : err ≤ 200) :
    waveRecover s p err = lineSettle
      (putB (modLane (showWave s p err) p (fun x => { x with waveDark := false })) (F.LNK_LANE_STATUS_wave_ok p) true) :=
  if_pos ⟨ho, hl, hh⟩

/-! ### Power states and trims (R99 to R102) -/

theorem targetWrite_known {v : Nat} (hr : Reaches s r (R.LNK_LANE_PWR p) true) (hv : v ≤ 4) :
    targetWrite r p v s = chanCheck (laneAdvance
      (modBanks (putExpert s 2 (F.LNK_LANE_PWR_target p) v) 2 (fun b => { b with lineInit := Tab.set b.lineInit p v })) p) p :=
  (onWrite_of_reaches _ hr).trans (if_neg (Nat.not_lt.2 hv))

theorem targetWrite_unknown {v : Nat} (hr : Reaches s r (R.LNK_LANE_PWR p) true) (hv : 4 < v) : targetWrite r p v s = s :=
  (onWrite_of_reaches _ hr).trans (if_pos hv)

theorem transitionDone_step {w : Nat} (hw : (laneSt s p).step = some w) :
    transitionDone s p =
      let u := enterState (put (modLane s p (fun x => { x with step := none, forceOff := x.forceOff && decide (w ≠ 4) }))
        (F.LNK_LANE_PWR_state p) w) p (laneState s p) w
      let u := if laneState s p = 0 then leftActive u p else u
      let u := laneAdvance (if w = 0 then firstRxPwr (freshLane u p) p else u) p
      lineSettle (report (chanCheck (if w = 4 then engineIdle u (engineOf p) else u) p) p) := by
  unfold transitionDone
  rw [hw]

theorem transitionDone_idle (hw : (laneSt s p).step = none) : transitionDone s p = s := by
  unfold transitionDone
  rw [hw]

theorem refuseCleared_active (ha : laneActive s p = true) : refuseCleared s p = chanCheck (laneAdvance s p) p := if_pos ha

theorem enginePower_settled {e : Fin 8} (hr : (engineSt s e).ramping = true) (hs : pastS7 s e = true) :
    enginePower s e = (lanesOfEngine e).foldl laneAdvance
      (putB (modEngine (tokenRelease s (.engine e)) e (fun x => { x with ramping := false })) (F.OPE_STATUS_powered e) true) :=
  if_pos (by simp [hr, hs])

theorem trimRecompute_powered {e : Nat} (hp : enginePowered s e = true) :
    trimRecompute s e temp = (lanesOfEngine e).foldl applyTemp
      (putB (putI s (F.OPE_TEMP_temp e) temp) (F.OPE_STATUS_temp_valid e) true) := if_pos hp

theorem rxOffsetCal_lit (hr : Reaches s r (R.LNK_RX_OFFSET p) true) (ha : laneActive s p = true)
    (hl : getB s (F.LNK_LANE_STATUS_los p) = false) : rxOffsetCal r p temp s = putI s (F.LNK_RX_OFFSET_offset p) temp :=
  (onWrite_of_reaches _ hr).trans (if_pos (by simp [ha, hl]))

end

/-- Settles O18, with the equations of the four detectors on either side of their thresholds. -/
theorem lightDetectors : Obligations.LightDetectors := by
  unfold Obligations.LightDetectors
  intro s l pwr snr ha
  refine ⟨fun hl h => congrArg (finish s) ?_, fun hl h => congrArg (finish s) ?_, fun hl h hs => congrArg (finish s) ?_,
    fun hl h => congrArg (finish s) ?_, fun h => congrArg (finish s) ?_, fun h => congrArg (finish s) ?_,
    fun h => congrArg (finish s) ?_, fun h => congrArg (finish s) ?_⟩
  · exact losAssert_below ha hl h
  · exact losClear_above ha hl h
  · exact lolAssert_below ha hl h hs
  · exact lolClear_above ha hl h
  · exact losAssert_above h
  · exact losClear_below h
  · exact lolAssert_above h
  · exact lolClear_below h

/-- Settles O19, with the equations of the lane's events where they take effect, and of a wavelength error that is no fault. -/
theorem laneComesUp : Obligations.LaneComesUp := by
  unfold Obligations.LaneComesUp
  intro s l snr err
  refine ⟨fun ha hl => congrArg (finish s) ?_, fun ha hc hn => congrArg (finish s) ?_, fun ha hd => congrArg (finish s) ?_,
    fun ho h => congrArg (finish s) ?_, fun ho h h' => congrArg (finish s) ?_, fun h h' => congrArg (finish s) ?_⟩
  · exact clockLock_lit ha hl
  · exact adaptDone_locked ha hc hn
  · exact laneEstablished_clean ha hd
  · exact waveFault_beyond ho h
  · exact waveRecover_within ho h h'
  · exact waveFault_within h h'

/-- Settles O20, with the equations of the power commands; a write is taken where it reaches its register. -/
theorem lanePower : Obligations.LanePower := by
  unfold Obligations.LanePower
  intro s r l e v t
  refine ⟨fun hr hv => congrArg (finish s) ?_, fun hv hr => congrArg (finish s) ?_, fun w hw => congrArg (finish s) ?_,
    fun hw => congrArg (finish s) ?_, fun ha => congrArg (finish s) ?_, fun hr hs => congrArg (finish s) ?_,
    fun hp => congrArg (finish s) ?_, fun hr ha hl => congrArg (finish s) ?_⟩
  · exact targetWrite_known hr hv
  · exact targetWrite_unknown hr hv
  · exact transitionDone_step hw
  · exact transitionDone_idle hw
  · exact refuseCleared_active ha
  · exact enginePower_settled hr hs
  · exact trimRecompute_powered hp
  · exact rxOffsetCal_lit hr ha hl

end Sys2Proof.Machine
end

section
/-!
SUPPORT. The safety governor (R103 to R107): ceilings, fuses, gates and the admission of a burst, and the statements about them.
-/
namespace Sys2Proof.Machine
open Sys2Proof

section
variable {s : State} {r : Requester} {q : Path}

/-! ### Ceilings, fuses and gates (R105, R107) -/

theorem ceilWrite_lower {v : Int} (h : ReachesP0 s r (ceilReg q)) (hv : v ≤ ceilOf s q) : ceilWrite r q v s = setCeil s q v :=
  (onWriteP0_of_p0 _ h).trans (if_pos hv)

theorem ceilWrite_refused {v : Int} (h : Reaches s r (ceilReg q) true) (hv : isP0 s r = false ∨ ceilOf s q < v) : ceilWrite r q v s = s := by
  rcases Bool.eq_false_or_eq_true (isP0 s r) with hp | hp
  · have hv := hv.resolve_left (by simp [hp])
    exact (onWriteP0_of_p0 _ ⟨h, hp⟩).trans (if_neg (Int.not_le.2 hv))
  · exact onWriteP0_below _ h hp

theorem fuseClr_of_p0 {x y : Bool} (h : ReachesP0 s r R.SAF_FUSE_CLR) :
    fuseClr r x y s = lineSettle (whenB y (fun s => putB s F.SAF_STATUS_fuse_b false) (whenB x (fun s => putB s F.SAF_STATUS_fuse_a false) s)) :=
  onWriteP0_of_p0 _ h

theorem laserLow_high (h : s.pins.laserEn = true) :
    laserLow s = lineSettle (raiseGrey
      (putB (tapSettle { s with pins := { s.pins with laserEn := false } }) F.SAF_STATUS_laser_en false) F.SAF_EVENT_laser_en_low) := by
  unfold laserLow
  rw [h]
  rfl

/-! ### The admission of a burst (R104) -/

theorem presentBurst_first {b : Burst} {n : Nat} (h : firstPresented (presentedBefore s b) = none) : presentBurst s b n = presentOne s b := by
  cases n with
  | zero => rfl
  | succ n => rw [presentBurst, h]

theorem presentBurst_after {b x : Burst} {n : Nat} (h : firstPresented (presentedBefore s b) = some x) :
    presentBurst s b (n + 1) =
      presentBurst (if mfLock s x.lane then presentOne s x else rearmLane (loseBurst s x lostDown) x.lane) b n := by
  rw [presentBurst, h]

theorem safPresent_some {p : Nat} {b : Burst} (h : earliest ((waitingBursts s p).filter (fun x => !x.admitted)) = some b) :
    safPresent s p =
      let u := reach s (1 + qn (lanePath p)) (b.alarm - 64)
      if mfLock u p then presentBurst u b u.upb.bursts.length else rearmLane (loseBurst u b lostDown) p := by
  unfold safPresent
  rw [h]

theorem presentOne_held_a {b : Burst} (hq : lanePath b.lane = .a)
    (h : withinBudget (windowEnergy s .a ((b.alarm + b.len - 1) / 125) + laneUw s b.lane * (b.len - b.guard + 1)) (ceilOf s .a) = false) :
    presentOne s b = rearmLane (loseBurst (raiseGrey (inc s F.SAF_HELD_A_count) F.SAF_EVENT_held_a) b lostHeld) b.lane := by
  unfold presentOne
  rw [hq]
  exact if_neg (Bool.eq_false_iff.1 h)

end

/-- Settles O21, with the equations of the governor's commands; only a P0 write reaches a ceiling or a fuse. -/
theorem safetyGovernor : Obligations.SafetyGovernor := by
  unfold Obligations.SafetyGovernor
  intro s r c x y
  refine ⟨fun h hc => congrArg (finish s) ?_, fun h hc => congrArg (finish s) ?_, fun h hc => congrArg (finish s) ?_,
    fun h hc => congrArg (finish s) ?_, rfl, rfl, fun h => ?_, fun h hp => congrArg (finish s) ?_, fun h => congrArg (finish s) ?_,
    fun h => congrArg (finish s) ?_, rfl⟩
  · exact ceilWrite_lower h hc
  · exact ceilWrite_lower h hc
  · exact ceilWrite_refused h hc
  · exact ceilWrite_refused h hc
  · exact ⟨congrArg (finish s) (fuseClr_of_p0 h), congrArg (finish s) (fuseClr_of_p0 h), congrArg (finish s) (fuseClr_of_p0 h)⟩
  · exact onWriteP0_below _ h hp
  · exact onWrite_of_reaches _ h
  · exact laserLow_high h

/-- Settles O22: the burst is presented on the state its time has reached, behind those that go before it. -/
theorem burstAdmission : Obligations.BurstAdmission := by
  unfold Obligations.BurstAdmission
  intro s l b hb u
  refine ⟨fun hm => congrArg (finish s) ?_, fun hm hf => congrArg (finish s) ?_, fun x n hx => presentBurst_after hx,
    fun hm => congrArg (finish s) ?_, fun hq hw => presentOne_held_a hq hw⟩
  · exact (safPresent_some hb).trans (if_pos hm)
  · exact (safPresent_some hb).trans ((if_pos hm).trans (presentBurst_first hf))
  · exact (safPresent_some hb).trans (if_neg (Bool.eq_false_iff.1 hm))

end Sys2Proof.Machine
end

section
/-!
SUPPORT. The console on MGT_UART1 (R461): the reply of each request, and the statement about them.
-/
namespace Sys2Proof.Machine
open Sys2Proof

section
variable {s : State} {j r : Nat}

/-! ### Replies -/

theorem conReply_served {status : Nat} (h : status ≠ conDenied) (d : List Byte) :
    conReply s status d = emit (inc s F.GLB_CON_COUNT_cmds) (.console (conFrame status d)) := by
  rw [conReply, if_neg h]

theorem conReply_ok (d : List Byte) : conReply s conOk d = emit (inc s F.GLB_CON_COUNT_cmds) (.console (conFrame 0 d)) :=
  conReply_served (by decide) d

theorem conReply_range : conReply s conRange [] = emit (inc s F.GLB_CON_COUNT_cmds) (.console (conFrame 3 [])) :=
  conReply_served (by decide) []

theorem conReply_denied (d : List Byte) : conReply s conDenied d =
    emit (inc (inc s F.GLB_CON_COUNT_cmds) F.GLB_CON_COUNT_denied) (.console (conFrame 1 d)) := by
  rw [conReply, if_pos rfl, conDenied]

theorem conCtl_denied (k : State → State) (h : getB s F.GLB_CON_CTRL_ctl_en = false) : conCtl s k =
    emit (inc (inc s F.GLB_CON_COUNT_cmds) F.GLB_CON_COUNT_denied) (.console (conFrame 1 [])) := by
  rw [conCtl, h, if_neg Bool.false_ne_true, conReply_denied]

theorem conCtl_allowed (k : State → State) (h : getB s F.GLB_CON_CTRL_ctl_en = true) : conCtl s k = k s := if_pos h

/-! ### Requests -/

theorem conJet_found {x : Rec} (hj : j ≤ 15) (h : nth s.evr.jet j = some x) : conJet s j = conReply s conOk (recBytes x) := by
  rw [conJet, if_neg (Nat.not_lt.2 hj), h]

theorem conJet_empty (hj : j ≤ 15) (h : nth s.evr.jet j = none) : conJet s j = conReply s conOk (List.replicate 64 0) := by
  rw [conJet, if_neg (Nat.not_lt.2 hj), h]

theorem conJet_beyond (hj : 15 < j) : conJet s j = conReply s conRange [] := if_pos hj

theorem conRegionReset_beyond (hctl : getB s F.GLB_CON_CTRL_ctl_en = true) (hr : 5 < r) :
    conRegionReset s r = conReply s conRange [] := (conCtl_allowed _ hctl).trans (if_pos hr)

theorem conRegionReset_running (hctl : getB s F.GLB_CON_CTRL_ctl_en = true) (hr : r ≤ 5) (hsafe : getB s F.GLB_SAFE_safe = false)
    (hstep : (fltRegion s r).step = 0) (hline : r = 4 → inFault s 5 = false) (hheld : (fltRegion (conReply s conOk []) r).held = false) :
    conRegionReset s r = isolate (conReply s conOk []) r true := by
  have hfree : ¬ (getB s F.GLB_SAFE_safe || decide ((fltRegion s r).step ≠ 0) || (decide (r = 4) && inFault s 5)) = true := by
    simpa [hsafe, hstep] using hline
  refine (conCtl_allowed _ hctl).trans ?_
  rw [if_neg (Nat.not_lt.2 hr), if_neg hfree]
  exact if_neg (Bool.eq_false_iff.1 hheld)

theorem conModuleReset_allowed (bad : Option StoreFail) (hctl : getB s F.GLB_CON_CTRL_ctl_en = true) :
    conModuleReset s bad = moduleReset (conReply s conOk []) 5 bad := conCtl_allowed _ hctl

theorem conModuleReset_inReset (bad : Option StoreFail) (hctl : getB s F.GLB_CON_CTRL_ctl_en = true) (hcold : s.pwr.thermalHold = false) :
    (conModuleReset s bad).pwr.inReset = false := by
  have hpwr : (conReply s conOk []).pwr = s.pwr := by
    rw [conReply_ok]
    exact put_pwr ..
  rw [conModuleReset_allowed bad hctl, moduleReset_pwr, (jobCut_pwr_pins _).1, hpwr]
  exact hcold

end

/-- Settles O41, from the reply of each request, and from what a module reset leaves. -/
theorem console : Obligations.Console := by
  unfold Obligations.Console
  intro s j m r q bad counted
  refine ⟨congrArg (finish s) (conReply_ok _), congrArg (finish s) (conReply_ok _), fun x hx hj => congrArg (finish s) ?_,
    fun hx hj => congrArg (finish s) ?_, fun hj => congrArg (finish s) ?_, congrArg (finish s) (conReply_ok _),
    ⟨_, congrArg (finish s) (conReply_ok _), rfl⟩, congrArg (fun t => finish s (safeEnter t 5)) (conReply_ok _),
    fun hctl => ⟨congrArg (finish s) (conCtl_denied _ hctl), congrArg (finish s) (conCtl_denied _ hctl)⟩, fun hctl => ?_, fun _ _ => rfl⟩
  · exact (conJet_found hj hx).trans (conReply_ok _)
  · exact (conJet_empty hj hx).trans (conReply_ok _)
  · exact (conJet_beyond hj).trans conReply_range
  · refine ⟨fun hr => congrArg (finish s) ((conRegionReset_beyond hctl hr).trans conReply_range),
      fun hr hsafe hstep hline hheld => congrArg (finish s) ?_, fun hcold => ⟨_, rfl, ?_⟩⟩
    · rw [← conReply_ok] at hheld ⊢
      exact conRegionReset_running hctl hr hsafe hstep hline hheld
    · have hreset : Restarted (conModuleReset s bad) := conModuleReset_allowed bad hctl ▸ restarted_moduleReset _ _ _
      obtain ⟨hclk, hepc, _, _, hbank⟩ := hreset.settled (s := s)
      refine ⟨hclk, hepc, hbank, ?_⟩
      rw [settle_pwr]
      exact conModuleReset_inReset bad hctl hcold

end Sys2Proof.Machine
end

section
/-!
SUPPORT. The I2C masters (R481, R482), the boundary-scan TAP (R480) and the management channel's ports (R134 to R137), and the statement
about them.
-/
namespace Sys2Proof.Machine
open Sys2Proof

section
variable {s : State} {b : Fin 4} {w : Word}

/-! ### I2C -/

/-- The state after a write of GLB_I2C_CMD has set its fields. -/
def i2cFields (s : State) (b : Nat) (w : Word) : State :=
  put (put (put s (F.GLB_I2C_CMD_addr b) w.toNat) (F.GLB_I2C_CMD_wlen b) (w.toNat / 2 ^ 8)) (F.GLB_I2C_CMD_rlen b) (w.toNat / 2 ^ 16)

/-- The state with a transaction of master `b` on its way. -/
def i2cSent (s : State) (b : Nat) (ws : List Byte) (rd : Nat) : State :=
  putB (emit (stepFree (stepFree s)) (.i2c b (get s (F.GLB_I2C_CMD_addr b)) ws rd (i2cSt s b).owesClear)) (F.GLB_I2C_RESULT_busy b) true

theorem getB_i2cFields_en (s : State) (b : Fin 4) (w : Word) :
    getB (i2cFields s b w) (F.GLB_I2C_CTRL_en b) = getB s (F.GLB_I2C_CTRL_en b) := by
  simp (disch := decide +revert) only [i2cFields, getB_put_apart]

theorem get_i2cFields_addr (s : State) (b : Fin 4) (w : Word) :
    get (i2cFields s b w) (F.GLB_I2C_CMD_addr b) = w.toNat % 2 ^ (F.GLB_I2C_CMD_addr b).w := by
  simp (disch := decide +revert) only [i2cFields, get_put_disjoint, get_put_same]

theorem i2cFields_outbox (s : State) (b : Nat) (w : Word) : (i2cFields s b w).outbox = s.outbox := by
  rw [i2cFields, put_outbox, put_outbox, put_outbox]

theorem i2cSt_i2cFields (s : State) (b : Nat) (w : Word) : i2cSt (i2cFields s b w) b = i2cSt s b := by
  rw [i2cSt, i2cSt, i2cFields, put_i2c, put_i2c, put_i2c]

theorem get_i2cSent_addr (s : State) (b : Fin 4) (ws : List Byte) (rd : Nat) :
    get (i2cSent s b ws rd) (F.GLB_I2C_CMD_addr b) = get s (F.GLB_I2C_CMD_addr b) :=
  get_put_apart _ _ (by decide +revert)

theorem getB_i2cSent_busy (s : State) (b : Fin 4) (ws : List Byte) (rd : Nat) :
    getB (i2cSent s b ws rd) (F.GLB_I2C_RESULT_busy b) = true :=
  getB_putB_same _ _ (by decide +revert) rfl

theorem i2cCommand_busy (h : getB s (F.GLB_I2C_RESULT_busy b) = true) :
    i2cCommand s b w = put s (F.GLB_I2C_RESULT_code b) 5 := if_pos h

theorem i2cCommand_idle (h : getB s (F.GLB_I2C_RESULT_busy b) = false) (hgo : bit w.toNat 31 = false) :
    i2cCommand s b w = i2cFields s b w :=
  (if_neg (Bool.eq_false_iff.1 h)).trans (if_neg (by simp [hgo]))

theorem i2cCommand_starts (h : getB s (F.GLB_I2C_RESULT_busy b) = false) (hgo : bit w.toNat 31 = true)
    (hen : getB s (F.GLB_I2C_CTRL_en b) = true) :
    ∃ ws rd i, i2cCommand s b w = { i2cSent (i2cFields s b w) b ws rd with i2c := i } := by
  have hstarts : (bit w.toNat 31 && getB (i2cFields s b w) (F.GLB_I2C_CTRL_en b)) = true := by rw [getB_i2cFields_en, hgo, hen]; rfl
  exact ⟨_, _, _, (if_neg (Bool.eq_false_iff.1 h)).trans (if_pos hstarts)⟩

theorem get_withI2c (s : State) (i : Tab I2c) (f : Fld) : get { s with i2c := i } f = get s f := rfl

theorem i2cAddr_unsettled (b : Fin 4) : ∀ a ∈ fldWords (F.GLB_I2C_CMD_addr b), a ∉ settledWords := by decide +revert

theorem i2cBusy_unsettled (b : Fin 4) : ∀ a ∈ fldWords (F.GLB_I2C_RESULT_busy b), a ∉ settledWords := by decide +revert

/-- What a started transaction leaves once the command has settled. -/
theorem settled_i2cSent {u c : State} {ws : List Byte} {rd : Nat} {i : Tab I2c} (hc : c = { i2cSent u b ws rd with i2c := i }) :
    getB (settled s c) (F.GLB_I2C_RESULT_busy b) = true ∧ get (settled s c) (F.GLB_I2C_CMD_addr b) = get u (F.GLB_I2C_CMD_addr b) ∧
      (settled s c).outbox = Output.i2c b (get u (F.GLB_I2C_CMD_addr b)) ws rd (i2cSt u b).owesClear :: u.outbox := by
  subst hc
  refine ⟨?_, ?_, ?_⟩
  · rw [getB_congr (get_settled _ _ (i2cBusy_unsettled b)), getB_congr (get_withI2c ..), getB_i2cSent_busy]
  · rw [get_settled _ _ (i2cAddr_unsettled b), get_withI2c, get_i2cSent_addr]
  · rw [settled, settle_outbox]
    exact putB_outbox ..

theorem i2cDone_busy {b code n : Nat} {bs : List Byte} (h : getB s (F.GLB_I2C_RESULT_busy b) = true) : i2cDone s b code n bs =
    i2cStore (put (put (putB s (F.GLB_I2C_RESULT_busy b) false) (F.GLB_I2C_RESULT_code b) code) (F.GLB_I2C_RESULT_done b) (n / 8)) b bs :=
  if_neg (by simp [h])

theorem i2cDone_idle {b code n : Nat} {bs : List Byte} (h : getB s (F.GLB_I2C_RESULT_busy b) = false) : i2cDone s b code n bs = s :=
  if_pos (by simp [h])

/-! ### TAP -/

/-- The state with instruction `i` loaded that acts as `a`, and RESET_N at a level. -/
def tapWith (s : State) (i a : TapInstr) (resetN : Bool) : State :=
  { s with tap := { s.tap with ir := i, acts := a }, pins := { s.pins with trstN := true, resetN := resetN } }

theorem tapSettle_held (hd : s.tap.ir.drives = true) (h : s.pins.resetN = true ∨ s.pins.laserEn = true) :
    tapSettle s = { s with tap := { s.tap with acts := .bypass } } := by
  have hacts : tapActs s = .bypass := if_pos (by simpa [hd] using h)
  simp [tapSettle, hacts, TapInstr.drives]

theorem tapSettle_drives (hd : s.tap.ir.drives = true) (hr : s.pins.resetN = false) (hl : s.pins.laserEn = false)
    (hnew : s.tap.acts ≠ s.tap.ir) : tapSettle s = emit { s with tap := { s.tap with acts := s.tap.ir } }
      (.boundary (if s.tap.ir = .highz then [] else s.tap.preload)) := by
  have hacts : tapActs s = s.tap.ir := if_neg (by simp [hr, hl])
  simp [tapSettle, hacts, hd, hnew]

theorem tapSettle_passive (hd : s.tap.ir.drives = false) : tapSettle s = { s with tap := { s.tap with acts := s.tap.ir } } := by
  have hacts : tapActs s = s.tap.ir := if_neg (by simp [hd])
  simp [tapSettle, hacts, hd]

theorem tapLoad_passive {i : TapInstr} (hd : i.drives = false) (level : Bool) : tapLoad s i level = tapWith s i i level :=
  tapSettle_passive hd

theorem tapLoad_held {i : TapInstr} {low : Bool} (hd : i.drives = true) (h : low = false ∨ s.pins.laserEn = true) :
    tapLoad s i (!low) = tapWith s i .bypass (!low) :=
  tapSettle_held hd (h.imp_left fun h => by simp [h])

theorem tapLoad_drives {i : TapInstr} (hd : i.drives = true) (hl : s.pins.laserEn = false) :
    tapLoad s i false = emit (tapWith s i i false) (.boundary (if i = .highz then [] else s.tap.preload)) :=
  tapSettle_drives hd rfl hl fun h => by cases h; cases hd

theorem tapSample_eq (vs : List Bool) : tapSample s vs = stepFree (emit { tapWith s .samplePreload .samplePreload s.pins.resetN with
    tap := { s.tap with ir := .samplePreload, acts := .samplePreload, preload := vs } } (.tdo (freeVal s))) := by
  rw [tapSample, tapLoad_passive rfl]
  rfl

/-! ### The management channel's ports -/

theorem mchEnqueue_fits {m : List Byte} (h : m ≠ [] ∧ m.length ≤ 4096 ∧ txBytes s + m.length ≤ 65536) :
    mchEnqueue s m = showMch (modMch s (fun x => { x with txBuf := x.txBuf ++ [m] })) := by
  obtain ⟨hne, hlen, hroom⟩ := h
  refine if_neg ?_
  simp [hne, hlen, hroom]

theorem mchEnqueue_misfit {m : List Byte} (h : ¬ (m ≠ [] ∧ m.length ≤ 4096 ∧ txBytes s + m.length ≤ 65536)) :
    mchEnqueue s m = mchTxDrop s := by
  refine if_pos ?_
  by_contra hfits
  simp only [List.isEmpty_iff, not_or, Nat.not_lt] at hfits
  exact h hfits

theorem mchUartFrameRx_message {bs m : List Byte} (hs : get s F.MCH_CTRL_sink = 1) (hm : uartMessage bs = some m) :
    execMchUartFrameRx bs s = finish s (mchEnqueue s m) := by
  rw [execMchUartFrameRx, if_neg (not_not.2 hs), hm]

theorem mchUartFrameRx_bad {bs : List Byte} (hs : get s F.MCH_CTRL_sink = 1) (hm : uartMessage bs = none) :
    execMchUartFrameRx bs s = finish s (mchTxDrop s) := by
  rw [execMchUartFrameRx, if_neg (not_not.2 hs), hm]

theorem spiRead_empty (h : spiHead s = []) : execSpiRead s = finish s (emit s (.spi (beBytes 2 0))) := by
  rw [execSpiRead, h]
  rfl

theorem spiRead_message {m : List Byte} (h : spiHead s = m) (hne : m ≠ []) :
    let v := mchPop (inc (emit s (.spi (beBytes 2 m.length ++ m))) F.MCH_RX_MSG_count)
    execSpiRead s = finish s (mchServe v [] (v.mch.rxBuf.length + 1)) := by
  subst h
  refine congrArg (finish s) (if_neg ?_)
  simpa using hne

end

/-- Settles O42, from what each command of the masters, the pins, the TAP and the ports does in each of its cases. -/
theorem managementPorts : Obligations.ManagementPorts := by
  unfold Obligations.ManagementPorts
  intro s r b w code n bs k x vs m fits entered dropped
  refine ⟨fun hr hb => congrArg (finish s) ?_, fun hr hb hgo => congrArg (finish s) ?_, fun hr hb hgo hen => ?_,
    fun hb => congrArg (finish s) (i2cDone_busy hb), fun hb => congrArg (finish s) (i2cDone_idle hb), rfl, ?_,
    tapSettle_held, tapSettle_drives, fun hs => congrArg (finish s) (if_pos hs), fun hs hm => mchUartFrameRx_bad hs hm,
    fun hs hm hf => ?_, fun hs hf => congrArg (finish s) ?_, fun hs hf => congrArg (finish s) ?_,
    fun hs => congrArg (finish s) (if_neg hs), rfl, spiRead_empty, fun hm hne => ⟨_, rfl, spiRead_message hm hne⟩⟩
  · exact (onWrite_of_reaches _ hr).trans (i2cCommand_busy hb)
  · exact (onWrite_of_reaches _ hr).trans (i2cCommand_idle hb hgo)
  · obtain ⟨ws, rd, i, hcmd⟩ := i2cCommand_starts hb hgo hen
    obtain ⟨hbusy, haddr, hout⟩ := settled_i2cSent (s := s) hcmd
    refine ⟨settled s (i2cCommand s b w), ws, rd, congrArg (finish s) (onWrite_of_reaches _ hr), hbusy,
      haddr.trans (get_i2cFields_addr s b w), ?_⟩
    rw [hout, haddr, i2cSt_i2cFields, i2cFields_outbox]
  · intro tap
    have htap : ∀ i a low, tap i a low = tapWith s i a (!low) := fun _ _ _ => rfl
    have hpassive : ∀ i : TapInstr, i.drives = false → tapLoad s i s.pins.resetN = tap i i (!s.pins.resetN) := fun i hd => by
      rw [tapLoad_passive hd, htap, Bool.not_not]
    have hdrives : ∀ i : TapInstr, i.drives = true → s.pins.laserEn = false →
        tapLoad s i (!true) = emit (tap i i true) (.boundary (if i = .highz then [] else s.tap.preload)) := fun i hd => tapLoad_drives hd
    have hheld : ∀ i : TapInstr, i.drives = true → x = false ∨ s.pins.laserEn = true → tapLoad s i (!x) = tap i .bypass x :=
      fun i hd => tapLoad_held hd
    refine ⟨congrArg (fun t => finish s (emit t (.tdo 0x26425B47))) (hpassive .idcode rfl), congrArg (finish s) (hpassive .bypass rfl),
      ⟨freeVal s, ?_⟩, fun hl => ?_, fun h => ?_⟩
    · refine congrArg (finish s) ?_
      rw [htap, Bool.not_not]
      exact tapSample_eq vs
    · exact ⟨congrArg (finish s) (hdrives .extest rfl hl), congrArg (finish s) (hdrives .clamp rfl hl),
        congrArg (finish s) (hdrives .highz rfl hl), congrArg (finish s) (hdrives .extestPulse rfl hl),
        congrArg (finish s) (hdrives .extestTrain rfl hl)⟩
    · exact ⟨congrArg (finish s) (hheld .extest rfl h), congrArg (finish s) (hheld .clamp rfl h), congrArg (finish s) (hheld .highz rfl h),
        congrArg (finish s) (hheld .extestPulse rfl h), congrArg (finish s) (hheld .extestTrain rfl h)⟩
  · exact (mchUartFrameRx_message hs hm).trans (congrArg (finish s) (mchEnqueue_fits hf))
  · exact (if_pos hs).trans (mchEnqueue_fits hf)
  · exact (if_pos hs).trans (mchEnqueue_misfit hf)

end Sys2Proof.Machine
end

section
/-!
SUPPORT. The host's transmit and receive rings (R396 to R405): a descriptor in each of its cases, and the statement about the rings.
-/
namespace Sys2Proof.Machine
open Sys2Proof

section
variable {s : State} {t : Nat} {d : TxDesc}

/-! ### Descriptors -/

theorem txDescriptor_refused {c : Nat} (h : txRefuse (takeDescriptor s t).1 t d = some c) :
    txDescriptor s t d = txRefused (takeDescriptor s t).1 (takeDescriptor s t).2 c := by
  simp only [txDescriptor, h]

theorem txDescriptor_taken (h : txRefuse (takeDescriptor s t).1 t d = none) :
    let bs := padTo 60 (d.bytes.take d.len ++ List.replicate (d.len - d.bytes.length) 0)
    let v := monIn (inc (takeDescriptor s t).1 (F.HIF_TX_FRAMES_count t)) 5 0x1A [] bs.length
    txDescriptor s t d =
      injectTo v (t / 16) (4 + t % 4) (get v (F.HIF_TX_CFG_owner t)) (some (takeDescriptor s t).2) bs none := by
  simp only [txDescriptor, h]

theorem mgtDescriptor_length (h : d.len = 0 ∨ 16384 < d.len) :
    mgtDescriptor s t d = txRefused (takeDescriptor s t).1 (takeDescriptor s t).2 0x79 := if_pos h

theorem mgtDescriptor_bad (hn : d.len ≠ 0) (hm : d.len ≤ 16384) (hb : d.bad = true) :
    mgtDescriptor s t d = txRefused (takeDescriptor s t).1 (takeDescriptor s t).2 0x7A :=
  (if_neg (by omega)).trans (if_pos hb)

theorem mgtDescriptor_message (hn : d.len ≠ 0) (hm : d.len ≤ 16384) (hb : d.bad = false) : mgtDescriptor s t d =
    writeBack (mchEnqueue (takeDescriptor s t).1 (d.bytes.take d.len ++ List.replicate (d.len - d.bytes.length) 0))
      (takeDescriptor s t).2 0 0 false false false :=
  (if_neg (by omega)).trans (if_neg (Bool.eq_false_iff.1 hb))

variable {n pipe o : Nat} {tx : Option TxRef} {bs : List Byte} {since : Option Nat} {w : State}

theorem injectTo_buffered {b : Nat} (h : alloc s n o none bs = (w, .ok b)) : injectTo s n pipe o tx bs since =
    ingress w n { bytes := bs, ing := { kind := 2, raw := rawTime w }, src := 2, pipe := pipe, buf := some b, tx := tx } := by
  rw [injectTo, h]

theorem injectTo_refused {c : Nat} (h : alloc s n o none bs = (w, .error c)) : injectTo s n pipe o tx bs since =
    allocRefused w n o c [] { since := since.getD w.clk.ticks, who := 1, queue := 0, bytes := bs, inject := some (pipe, o),
                              frame := { bid := 0, len := bs.length, tx := tx } } := by
  rw [injectTo, h]

/-! ### A descriptor of a ring that is ready -/

theorem execTxDescriptor_idle {i : Fin 64} (h : txReady s i = false) : execTxDescriptor i d s = finish s s :=
  congrArg (finish s) (if_pos (by simp [h]))

theorem execTxDescriptor_mgt {i : Fin 64} (h : txReady s i = true) (hm : mgtRing s i = true) :
    execTxDescriptor i d s = finish s (mgtDescriptor s i d) :=
  congrArg (finish s) ((if_neg (by simp [h])).trans (if_pos hm))

theorem execTxDescriptor_frame {i : Fin 64} (h : txReady s i = true) (hm : mgtRing s i = false) :
    execTxDescriptor i d s = finish s (txDescriptor s i d) :=
  congrArg (finish s) ((if_neg (by simp [h])).trans (if_neg (Bool.eq_false_iff.1 hm)))

/-! ### Writes of a ring's registers -/

variable {r : Requester} {a owner : Nat} {k : State → State}

theorem ringWrite_own (hr : Reaches s r a true) (ho : isP0 s r = true ∨ reqNum r = owner) (hf : inFlr s owner = false) :
    ringWrite s r a owner k = k s := by
  have hown : (isP0 s r || decide (reqNum r = owner)) = true := by simpa using ho
  exact (if_pos hown).trans ((onWrite_of_reaches _ hr).trans (if_neg (Bool.eq_false_iff.1 hf)))

theorem ringWrite_other (hp : isP0 s r = false) (ho : reqNum r ≠ owner) : ringWrite s r a owner k = deny s r a true :=
  if_neg (by simp [hp, ho])

theorem rxRelease_held {i : Nat} {h : RxHold} (hh : s.hif.held.find? (fun x => decide (x.ring = t) && decide (x.idx = i)) = some h) :
    let v := modHif s (fun x => { x with held := dropFirst (fun y => decide (y = h)) x.held })
    rxRelease s t i = relPin (put v (F.HIF_RX_HELD_count t) (get v (F.HIF_RX_HELD_count t) - 1)) h.region h.handle := by
  simp only [rxRelease, hh]

/-! ### Time-outs -/

theorem execWritebackTimeout_late {i : Fin 64} {j : Fin 65536} {f : TxFlight}
    (h : s.hif.inFlight.find? (fun f => decide (f.ring = i.val) && decide (f.idx = j.val) && !f.done && !f.dead) = some f) :
    execWritebackTimeout i j s = finish s (raiseGrey (writeBack s ⟨i, f.tag⟩ 0 0 false false true) F.HIF_EVENT_wb_timeout) := by
  rw [execWritebackTimeout, h]

theorem execWritebackTimeout_none {i : Fin 64} {j : Fin 65536} (h : s.hif.inFlight = []) :
    execWritebackTimeout i j s = finish s s := by
  rw [execWritebackTimeout, h]
  rfl

end

/-- Settles O49, from what each command does to a ring in each of its cases. -/
theorem hostRings : Obligations.HostRings := by
  unfold Obligations.HostRings
  intro s r t i d f h us idx u
  refine ⟨execTxDescriptor_idle, fun c hr hm hc => ?_, fun hr hm => ⟨fun hl => ?_, fun hn hl hb => ?_, fun hn hl hb => ?_⟩,
    fun hr hm hc => ⟨fun w b ha => ?_, fun w c ha => ?_⟩, execWritebackTimeout_late, execWritebackTimeout_none,
    fun _ hp ho => congrArg (finish s) (ringWrite_other hp ho),
    fun hr ho hf hh => ⟨_, rfl, congrArg (finish s) ((ringWrite_own hr ho hf).trans (rxRelease_held hh))⟩,
    fun hc hus => congrArg (finish s) (if_pos ⟨hc, hus⟩), rfl, fun hr ho hf => congrArg (finish s) (ringWrite_own hr ho hf),
    fun hr ho hf => congrArg (finish s) (ringWrite_own hr ho hf)⟩
  · exact (execTxDescriptor_frame hr hm).trans (congrArg (finish s) (txDescriptor_refused hc))
  · exact (execTxDescriptor_mgt hr hm).trans (congrArg (finish s) (mgtDescriptor_length hl))
  · exact (execTxDescriptor_mgt hr hm).trans (congrArg (finish s) (mgtDescriptor_bad hn hl hb))
  · exact (execTxDescriptor_mgt hr hm).trans (congrArg (finish s) (mgtDescriptor_message hn hl hb))
  · exact (execTxDescriptor_frame hr hm).trans (congrArg (finish s) ((txDescriptor_taken hc).trans (injectTo_buffered ha)))
  · exact (execTxDescriptor_frame hr hm).trans (congrArg (finish s) ((txDescriptor_taken hc).trans (injectTo_refused ha)))

end Sys2Proof.Machine
end

section
/-!
SUPPORT. A downstream message of the line control, taken from the front of its path (R140, R143).
-/
namespace Sys2Proof.Machine
open Sys2Proof

/-- The state in which the message in front has been taken and counted (R140). -/
def lcmTaken (s : State) (q : Path) (rest : List (List Byte)) : State :=
  inc (modAct s q (fun a => { a with inbox := rest })) (F.ACT_LCM_RX_count (qn q))

theorem takeLcm_taken {s : State} {q : Path} {x : List Byte} {rest : List (List Byte)} {typ : Nat} {known : List Byte → Bool}
    (op : State → List Byte → State) (hbox : (act s q).inbox = x :: rest)
    (htyp : be x 2 1 = typ) (hdest : lcmDestOk typ (be x 0 2) (tidOf s q) (actState s q) = true)
    (hknown : known (sub x 4 (be x 3 1)) = true)
    (hlsi : lcmLsiOk (modAct s q (fun a => { a with inbox := rest })) typ (sub x 4 (be x 3 1)) = true) :
    takeLcm s q typ known op = op (lcmTaken s q rest) (sub x 4 (be x 3 1)) := by
  have htid : tidOf (modAct s q (fun a => { a with inbox := rest })) q = tidOf s q := by cases q <;> rfl
  have hst : actState (modAct s q (fun a => { a with inbox := rest })) q = actState s q := by cases q <;> rfl
  simp [takeLcm, hbox, htyp, htid, hst, hdest, hlsi, hknown, lcmTaken]

end Sys2Proof.Machine
end

section
/-!
SUPPORT. An acknowledgement beyond the last value (R223): its event carries the AID, so a monitor counter that selects the AID counts it
(R445), and the statement about protection switching.
-/
namespace Sys2Proof.Machine
open Sys2Proof

/-- A PATH_ACK to TID 1 that acknowledges value 0 of AID 0. -/
def ackOfZero : List Byte := [0, 1, 0x21, 6, 0, 0, 0, 0, 0, 0]

/-- Path A in T4 as TID 1, AID 0 valid on it in mode 2 with nothing sent yet, and a PATH_ACK in front that runs ahead of it; counter 128 counts
the ack_bad events of AID 0 (R445). -/
def ackAhead : State :=
  let t := put (put State.reset (F.ACT_STATE_state 0) 4) (F.ACT_TID_tid 0) 1
  let t := put (putB t (F.UPB_AID_CFG_valid 0) true) (F.UPB_AID_CFG_paths 0) 1
  let t := putB (put t (F.PTH_AID_MODE_mode 0) 2) (ctrEn 128) true
  let select : CtrCfg := { src := 0x15 + 2 ^ 8 * (0x10 + F.PTH_EVENT_ack_bad.lo) + 2 ^ 16 * 3 + 2 ^ 24 * 0xFF, qval := 0, qmask := 0x1FF }
  { t with actA := { t.actA with inbox := [ackOfZero] }, bank := { t.bank with ctrs := [(128, select)] } }

/-- The state in which that message has been taken and counted. -/
def ackTaken : State := lcmTaken ackAhead .a []

/-- The message is a PATH_ACK for this terminal and its AID is AID 0 in mode 2; the value lies beyond the last one. -/
theorem ackAhead_taken :
    (act ackAhead .a).inbox = [ackOfZero] ∧ be ackOfZero 2 1 = 0x21 ∧
    lcmDestOk 0x21 (be ackOfZero 0 2) (tidOf ackAhead .a) (actState ackAhead .a) = true ∧
    aidIndex (activeCfg ackTaken) .a (be (sub ackOfZero 4 6) 0 2) = some 0 ∧ aidMode ackTaken 0 = 2 ∧
    0 < seqDist (be (sub ackOfZero 4 6) 2 4) ((get ackTaken (F.PTH_AID_NEXT_mseq 0) + 2 ^ 32 - 1) % 2 ^ 32) := by
  decide +kernel

/-- The command counts the event with its AID, so the counter shows it. -/
theorem pathAck_counts_aid :
    ∃ t, exec (.pathAck .a) ackAhead = .next t ∧ get t (ctrLive 128) = 1 :=
  ⟨_, rfl, by decide +kernel⟩

/-- The event without its AID is one that the counter does not select. -/
theorem raiseGrey_misses_aid :
    get (settled ackAhead (raiseGrey (inc ackTaken F.PTH_ACK_BAD_count) F.PTH_EVENT_ack_bad)) (ctrLive 128) = 0 := by
  decide +kernel

/-- Refutes O54: an acknowledgement beyond the last value raises ack_bad with its AID as the identifier of the event, and the statement has it
raised without one; a monitor counter that selects AID 0 (R445) counts the first and not the second. -/
theorem not_protectionSwitching : ¬ Obligations.ProtectionSwitching := by
  intro h
  obtain ⟨hbox, htyp, hdest, haid, hmode, hbeyond⟩ := ackAhead_taken
  obtain ⟨hack, -⟩ := h ackAhead .warden .a ackOfZero [] false 0
    { aid := 0, sid := 0, frag := 0, mseq := none, bseq := none, enc := false, payload := [], region := 0, handle := 0, at_ := 0, ing := {} }
    [] 0 0 0 0 { path := .a, idx := 0, sid := 0, bytes := [], fn := 0, mseq := none, count := 0, ptype := 0, raw := 0, mark := none } .a
    { target := .a, resend := false, cause := 0, prio := 0 }
  obtain ⟨-, hbad, -⟩ := hack ⟨hbox, htyp, hdest⟩ rfl 0 haid
  obtain ⟨t, hrun, hcount⟩ := pathAck_counts_aid
  have ht : t = settled ackAhead (raiseGrey (inc ackTaken F.PTH_ACK_BAD_count) F.PTH_EVENT_ack_bad) :=
    Host.Outcome.next.inj (hrun.symm.trans (hbad hmode hbeyond))
  rw [ht, raiseGrey_misses_aid] at hcount
  exact Nat.zero_ne_one hcount

end Sys2Proof.Machine
end

section
/-!
SUPPORT. Downstream frames, grant maps and upstream bursts (R113, R162 to R165, R176, R182, R186), one equation per case, and the statement
about them.
-/
namespace Sys2Proof.Machine
open Sys2Proof

section
variable {s : State} {p : Nat} {f : DsFrame} {posts : List RxPost}

/-! ### Delineation (R113) -/

theorem hdrMisrouted_of_good (h : hdrGood f p = true) : hdrMisrouted f p = false := by
  simp only [hdrGood, Bool.and_eq_true] at h
  simp [hdrMisrouted, h.2]

theorem delineate_found (hst : get s (F.DFR_CH_STATUS_delin p) = 0) (herr : f.syncErr ≤ 6) (hgood : hdrGood f p = true) :
    delineate s p f =
      (modDfrLane (put s (F.DFR_CH_STATUS_delin p) 1) p (fun d => { d with goodFn := some (hdrFn f.hdr) }), false) := by
  simp [delineate, hst, herr, hgood]

theorem delineate_presync (hst : get s (F.DFR_CH_STATUS_delin p) = 1) (herr : f.syncErr ≤ 6) :
    delineate s p f = (modDfrLane (put s (F.DFR_CH_STATUS_delin p) 2) p (fun d => { d with miss := 0 }), true) := by
  simp [delineate, hst, herr]

theorem delineate_sync (hst : get s (F.DFR_CH_STATUS_delin p) = 2) (herr : f.syncErr ≤ 6) :
    delineate s p f = (modDfrLane s p (fun d => { d with miss := 0 }), true) := by
  simp [delineate, hst, herr]

theorem delineate_lost (hst : get s (F.DFR_CH_STATUS_delin p) = 2) (herr : 6 < f.syncErr) (hmiss : 1 ≤ (dfrLane s p).miss) :
    delineate s p f = (hunt s p, false) := by
  have hmany : 2 ≤ (dfrLane s p).miss + 1 := by omega
  simp [delineate, hst, Nat.not_le.2 herr, hmany]

/-- MISROUTE rises where a header names another lane (R113). -/
def toldRoute (s : State) (p : Nat) (f : DsFrame) : State := if hdrMisrouted f p then raiseGrey s (F.DFR_CH_EVENT_misroute p) else s

theorem downstreamFrame_safe (hsafe : getB s F.GLB_SAFE_safe = true) (hchan : laneChan p ≠ 0) : downstreamFrame s p f posts = s :=
  (if_pos hsafe).trans (if_neg fun h => hchan h.1)

theorem downstreamFrame_off (hsafe : getB s F.GLB_SAFE_safe = false) (h : isolated s 4 = true ∨ laneActive s p = false) :
    downstreamFrame s p f posts = s :=
  (if_neg (Bool.eq_false_iff.1 hsafe)).trans (if_pos (by simpa using h))

section
variable (hsafe : getB s F.GLB_SAFE_safe = false) (hiso : isolated s 4 = false) (hact : laneActive s p = true)
  (hmerged : (dfrLane s p).merged = true)
include hsafe hiso hact hmerged

theorem downstreamFrame_merged {t : State} {run : Bool} (hd : delineate s p f = (t, run)) : downstreamFrame s p f posts =
    let u := if (run || decide (f.syncErr ≤ 6)) && hdrMisrouted f p then raiseGrey t (F.DFR_CH_EVENT_misroute p) else t
    if run then processFrame u p f posts else lineSettle (unestablish (report u p) p) := by
  simp [downstreamFrame, hsafe, hiso, hact, hmerged, hd]

theorem downstreamFrame_runs {t : State} (hd : delineate s p f = (t, true)) :
    downstreamFrame s p f posts = processFrame (toldRoute t p f) p f posts :=
  downstreamFrame_merged hsafe hiso hact hmerged hd

theorem downstreamFrame_stops {t : State} (hd : delineate s p f = (t, false)) (h : 6 < f.syncErr ∨ hdrGood f p = true) :
    downstreamFrame s p f posts = lineSettle (unestablish (report t p) p) := by
  have htold : ((false || decide (f.syncErr ≤ 6)) && hdrMisrouted f p) = false := by
    rcases h with h | h
    · simp [Nat.not_le.2 h]
    · simp [hdrMisrouted_of_good h]
  rw [downstreamFrame_merged hsafe hiso hact hmerged hd, htold]
  rfl

end

/-! ### Grant maps (R162 to R164) -/

theorem decodeMap_none (h : s.upb.maps.find? (fun m => decide (m.1 = p)) = none) : decodeMap s p = s := by
  rw [decodeMap, h]

theorem decodeMap_some {m : Nat × Nat × List (Option (List Nat))} (h : s.upb.maps.find? (fun m => decide (m.1 = p)) = some m) :
    decodeMap s p =
      let q := lanePath p
      let v := reach { s with upb := { s.upb with maps := s.upb.maps.erase m } } (1 + qn q) (5000 * m.2.1 + 60)
      let es := mapEntries m.2.2
      let v1 := if es.2 = 0 then v else greyOf (unused v q 6 es.2) F.UPB_EVENT_map_lost [(4, p)]
      let own := ownWindows v1 p (m.2.1 + 1) es.1
      let v2 := if own.2 = 0 then v1 else greyOf (unused v1 q 4 own.2) F.UPB_EVENT_grant_bad [(4, p)]
      let v3 := { v2 with upb := { v2.upb with windows := v2.upb.windows ++ own.1 } }
      if getB v3 F.GLB_SAFE_safe then (if laneChan p = 0 then gaspTry v3 q own.1 else v3) else own.1.foldl windowDecoded v3 := by
  rw [decodeMap, h]

/-! ### Windows (R165, R176) -/

variable {w : Window} {b : Burst} {start k : Nat} {mis : Bool}

/-- The continuations of the burst that window `w` begins. -/
def contsOf (s : State) (w : Window) : List Window := contChain s.upb.windows w s.upb.windows.length

/-- The state without the windows of a list. -/
def dropWindows (s : State) (l : List Window) : State :=
  { s with upb := { s.upb with windows := s.upb.windows.filter (fun x => !l.contains x) } }

/-- Why the burst of first window `w` cannot be filled. -/
def firstReason (s : State) (w : Window) : Option Nat :=
  let a := launchAt s (lanePath w.lane) (laneChan w.lane) (cwCount w.fn w.start) (eqdAt s (lanePath w.lane) (laneChan w.lane) w.fn)
  unusedReason s w.lane w.fn .granted w.idx.isNone a.1 a.2 ((w :: contsOf s w).foldl (fun k x => k + x.len) 0)

theorem firstFill_unused (h : firstReason s w = some k) :
    firstFill s w mis = unused (dropWindows s (contsOf s w)) (lanePath w.lane) k (1 + (contsOf s w).length) := by
  simp only [firstReason, contsOf] at h
  simp only [firstFill, h]
  rfl

section
variable (h : firstReason s w = none) (hst : actState s (lanePath w.lane) ≠ 3)
include h hst

theorem firstFill_whole : firstFill s w mis =
    if get s (F.UPB_PRE_plen (qn (lanePath w.lane)) w.pre) = 0 then
      greyOf (unused (dropWindows s (contsOf s w)) (lanePath w.lane) 4 (1 + (contsOf s w).length)) F.UPB_EVENT_grant_bad [(4, w.lane)]
    else fillBurst s w (contsOf s w) mis := by
  simp only [firstReason, contsOf] at h
  simp only [firstFill, h, if_neg hst, if_true]
  rfl

theorem firstFill_filled (hp : get s (F.UPB_PRE_plen (qn (lanePath w.lane)) w.pre) ≠ 0) :
    firstFill s w mis = fillBurst s w (contsOf s w) mis := (firstFill_whole h hst).trans (if_neg hp)

theorem firstFill_noPreamble (hp : get s (F.UPB_PRE_plen (qn (lanePath w.lane)) w.pre) = 0) : firstFill s w mis =
    greyOf (unused (dropWindows s (contsOf s w)) (lanePath w.lane) 4 (1 + (contsOf s w).length)) F.UPB_EVENT_grant_bad [(4, w.lane)] :=
  (firstFill_whole h hst).trans (if_pos hp)

end

theorem contFill_lost (h : burstOfCont s w = none) : contFill s w mis = s := by
  rw [burstOfCont] at h
  rw [contFill, h]

theorem contFill_filled {c : Nat × Nat × Nat} (h : burstOfCont s w = some b)
    (hr : unusedReason s w.lane w.fn .granted w.idx.isNone 0 0 0 = none)
    (hc : b.conts.find? (fun c => decide (c.1 = w.start)) = some c) : contFill s w mis = fillCont s b w c.2.1 c.2.2 mis := by
  rw [burstOfCont] at h
  simp only [contFill, h, hr, hc]

theorem contFill_unused (h : burstOfCont s w = some b) (hr : unusedReason s w.lane w.fn .granted w.idx.isNone 0 0 0 = some k) :
    contFill s w mis = unused (skipCont s b w) (lanePath w.lane) k 1 := by
  rw [burstOfCont] at h
  simp only [contFill, h, hr]

/-- The state without window `w`, which is being filled. -/
def takeWindow (s : State) (w : Window) : State :=
  { s with upb := { s.upb with windows := s.upb.windows.filter (fun x => decide (x ≠ w)) } }

theorem fillWaiting_first (h : w.cont = false) : fillWaiting s w mis = firstFill (takeWindow s w) w mis :=
  if_neg (Bool.eq_false_iff.1 h)

theorem fillWaiting_cont (h : w.cont = true) : fillWaiting s w mis = contFill (takeWindow s w) w mis := if_pos h

theorem windowFill_noted {e : BurstKind × Nat × Nat}
    (h : earlyNote s .granted (fun l pos => decide (l = p) && decide (pos % 5000 = start)) = some e) :
    windowFill s p start mis = dropNote s e := by
  rw [windowFill, h]

/-- The state at window `w`'s fill point, with what R176 and R202 put before it filled. -/
def atFillPoint (s : State) (p : Nat) (w : Window) : State :=
  let due := pathFrameDue (reach (fillBefore s p (cwCount w.fn w.start)) (1 + qn (lanePath p)) (cwCount w.fn w.start - 800)) (lanePath p)
  fillContsFirst due (windowGroup due w) (burstPlace due w) due.upb.windows.length

section
variable (h : earlyNote s .granted (fun l pos => decide (l = p) && decide (pos % 5000 = start)) = none)
include h

theorem windowFill_none (hw : windowAt s p start = none) : windowFill s p start mis = s := by
  rw [windowFill, h, hw]

theorem windowFill_some (hw : windowAt s p start = some w) :
    windowFill s p start mis = fillWaiting (atFillPoint s p w) w mis := by
  rw [windowFill, h, hw]
  rfl

end

/-! ### Remainders (R182) -/

theorem fragAbandon_some {r : Remainder} {a : Nat} (h : s.upb.rests.find? (fun r => decide (r.idx = a)) = some r) : fragAbandon s a =
    abandonRest (reach s (1 + qn (lanePath r.lane)) (5000 * (r.fn + get s F.UPB_CTRL_frag_to + 1) - 800)) r := by
  rw [fragAbandon, h]

theorem fragAbandon_none {a : Nat} (h : s.upb.rests = []) : fragAbandon s a = s := by
  rw [fragAbandon, h]
  rfl

/-! ### Upstream containers (R186) -/

variable {q : Path} {body : List Byte}

theorem upTribAssign_refused (h : upTribReason s q (be body 0 1) (be body 1 1) (be body 2 2) (be body 4 1) ≠ 0) :
    upTribAssign s q body = greyOf (queueLcm s q .act 0xA0 (beBytes 1 (be body 0 1) ++
      beBytes 1 (upTribReason s q (be body 0 1) (be body 1 1) (be body 2 2) (be body 4 1)))) F.UPB_EVENT_trib_nack (chanIds q (be body 1 1)) :=
  if_neg h

theorem upTribAssign_waits (h : upTribReason s q (be body 0 1) (be body 1 1) (be body 2 2) (be body 4 1) = 0) :
    upTribAssign s q body = { s with upb := { s.upb with
      pendTrib := s.upb.pendTrib.filter (fun p => decide (p.2.t ≠ be body 0 1) || decide (p.2.applyFn < be body 5 6)) ++ [(q, ⟨be body 0 1,
        if be body 4 1 = 0xFF then none else some (tribWord q (be body 1 1) (be body 2 2) (be body 4 1)), be body 5 6⟩)] } } :=
  if_pos h

/-! ### Standing bursts (R186) -/

variable {t fn cfg : Nat} {excess : Int}

/-- Why the standing burst of container `t` cannot be built. -/
def standReason (s : State) (q : Path) (t fn cfg : Nat) : Option Nat :=
  let n := bits cfg 13 6
  let a := launchAt s q n (cwCount fn (bits cfg 0 13)) (eqdAt s q n fn)
  unusedReason s (laneOf q n) fn (.standing t) false a.1 a.2 (standLen s q cfg)

theorem buildStanding_unused (h : standReason s q t fn cfg = some k) :
    buildStanding s q t fn cfg excess = mapperHeld (unused s q k 1) t := by
  simp only [standReason] at h
  simp only [buildStanding, h]

theorem buildStanding_built (h : standReason s q t fn cfg = none) :
    buildStanding s q t fn cfg excess =
      let n := bits cfg 13 6
      let pos := cwCount fn (bits cfg 0 13)
      let a := launchAt s q n pos (eqdAt s q n fn)
      let c := buildContainer s t (bits cfg 20 1) excess
      let y := takeBsn c.1 q
      queueBurst y.1 {
        kind := .standing t, lane := laneOf q n, pos := pos, guard := (act s q).minGuard, len := standLen s q cfg,
        pre := get y.1 (F.UPB_PRE_kind (qn q) 0), plen := 2441, alarm := a.1, fine := a.2, bsn := y.2, segs := [], acts := 0, reps := [],
        wins := 1, mgmt := false, info := burstHeader (tidOf y.1 q) n (qn q) false false false true y.2 (fn % 2 ^ 32) ++
          fit (5140 * contCodewords (bits cfg 20 1) / 8) c.2 } := by
  simp only [standReason] at h
  simp only [buildStanding, h]

theorem standingBurst_noted {e : BurstKind × Nat × Nat} (h : earlyNote s (.standing t) (fun _ _ => true) = some e) :
    standingBurst s t excess =
      let v := dropNote s e
      { v with upb := { v.upb with tribs := Tab.upd v.upb.tribs t {} (fun y => { y with excess := y.excess + excess }) } } := by
  rw [standingBurst, h]

theorem standingBurst_none (h : earlyNote s (.standing t) (fun _ _ => true) = none) (hn : nextStand s (standPath s t) t = none) :
    standingBurst s t excess = s := by
  simp only [standingBurst, h, hn]

/-- The state at the fill point of container `t`'s standing window, with its frame noted. -/
def atStandPoint (s : State) (q : Path) (t fn cfg : Nat) : State :=
  let pos := cwCount fn (bits cfg 0 13)
  let v := pathFrameDue (reach (fillBefore s (laneOf q (bits cfg 13 6)) pos) (1 + qn q) (pos - 800)) q
  { v with upb := { v.upb with tribs := Tab.upd v.upb.tribs t {} (fun y => { y with lastFn := some fn }) } }

theorem standingBurst_some (h : earlyNote s (.standing t) (fun _ _ => true) = none)
    (hn : nextStand s (standPath s t) t = some (fn, cfg)) : standingBurst s t excess =
      buildStanding (atStandPoint s (standPath s t) t fn cfg) (standPath s t) t fn cfg excess := by
  simp only [standingBurst, h, hn]
  rfl

end

/-- Settles O56, from the equation of each command in each of its cases. -/
theorem lineTraffic : Obligations.LineTraffic := by
  unfold Obligations.LineTraffic
  intro s q x rest l f posts m start mis aid rem t exc dfc w b u told took
  refine ⟨fun hs h => congrArg (finish s) (downstreamFrame_off hs h), fun hs hc => congrArg (finish s) (downstreamFrame_safe hs hc),
    fun hs hi ha hm => ⟨fun hst herr hg => congrArg (finish s) ?_, fun hst herr => congrArg (finish s) ?_,
      fun hst herr => congrArg (finish s) ?_, fun hst herr hmiss => congrArg (finish s) ?_⟩,
    fun h => congrArg (finish s) (decodeMap_none h), fun h => congrArg (finish s) (decodeMap_some h), ?_⟩
  · exact downstreamFrame_stops hs hi ha hm (delineate_found hst herr hg) (.inr hg)
  · exact downstreamFrame_runs hs hi ha hm (delineate_presync hst herr)
  · exact downstreamFrame_runs hs hi ha hm (delineate_sync hst herr)
  · exact downstreamFrame_stops hs hi ha hm (delineate_lost hst herr hmiss) (.inl herr)
  intro early
  refine ⟨fun e he => congrArg (finish s) (windowFill_noted he), fun he hw => congrArg (finish s) (windowFill_none he hw), fun he hw => ?_,
    fun h => congrArg (finish s) (fragAbandon_some h), fun h => congrArg (finish s) (fragAbandon_none h),
    fun ⟨hbox, htyp, hdest⟩ hknown hr => congrArg (finish s) ?_, fun ⟨hbox, htyp, hdest⟩ hknown hr => congrArg (finish s) ?_, ?_⟩
  · intro p n due v0 v conts alone at_ why later burst
    have hfill : windowFill s l start mis = fillWaiting v0 w mis := windowFill_some he hw
    have hfirst : w.cont = false → windowFill s l start mis = firstFill v w mis := fun hc => hfill.trans (fillWaiting_first hc)
    have hcont : w.cont = true → windowFill s l start mis = contFill v w mis := fun hc => hfill.trans (fillWaiting_cont hc)
    clear_value v
    refine ⟨fun k hc hk => congrArg (finish s) ((hfirst hc).trans ?_), fun hc hk hst hp => congrArg (finish s) ((hfirst hc).trans ?_),
      fun hc hk hst hp => congrArg (finish s) ((hfirst hc).trans ?_), fun hc hb => congrArg (finish s) ((hcont hc).trans ?_),
      fun y c hc hb hl hcs => congrArg (finish s) ((hcont hc).trans ?_), fun y k hc hb hl => congrArg (finish s) ((hcont hc).trans ?_)⟩
    · exact firstFill_unused hk
    · exact firstFill_filled hk hst hp
    · exact firstFill_noPreamble hk hst hp
    · exact contFill_lost hb
    · exact contFill_filled hb hl hcs
    · exact contFill_unused hb hl
  · exact (takeLcm_taken _ hbox htyp hdest hknown rfl).trans (upTribAssign_refused hr)
  · exact (takeLcm_taken _ hbox htyp hdest hknown rfl).trans (upTribAssign_waits hr)
  intro before
  refine ⟨fun e he => ⟨_, rfl, congrArg (finish s) (standingBurst_noted he)⟩, fun he hn => congrArg (finish s) (standingBurst_none he hn),
    fun fn cfg he hn => ⟨fun k hk => congrArg (finish s) ?_, fun hk => congrArg (finish s) ?_⟩⟩
  · exact (standingBurst_some he hn).trans (buildStanding_unused hk)
  · exact (standingBurst_some he hn).trans (buildStanding_built hk)

end Sys2Proof.Machine
end

section
/-!
SUPPORT. The line control messages that bring a path through activation (R140, R143 to R158, R167), one equation per case of each message, and
the statement about them.
-/
namespace Sys2Proof.Machine
open Sys2Proof

/-! ### A message of the command's type in front (R143, R144) -/

@[simp] theorem modAct_regs (s : State) (q : Path) (f : Act → Act) : (modAct s q f).regs = s.regs := by cases q <;> rfl

theorem get_modAct (s : State) (q : Path) (f : Act → Act) (g : Fld) : get (modAct s q f) g = get s g :=
  get_congr (modAct_regs s q f) g

theorem tidOf_modAct (s : State) (q p : Path) (f : Act → Act) : tidOf (modAct s q f) p = tidOf s p := get_modAct ..

theorem actState_modAct (s : State) (q p : Path) (f : Act → Act) : actState (modAct s q f) p = actState s p := get_modAct ..

theorem lcmLsiOk_modAct (s : State) (q : Path) (f : Act → Act) (typ : Nat) (b : List Byte) :
    lcmLsiOk (modAct s q f) typ b = lcmLsiOk s typ b := by
  simp only [lcmLsiOk, get_modAct]

section
variable {s t : State} {q : Path} {x : List Byte} {rest : List (List Byte)} {typ : Nat} {known : List Byte → Bool}
  {op : State → List Byte → State} (hbox : (act s q).inbox = x :: rest)
include hbox

theorem takeLcm_otherType (h : be x 2 1 ≠ typ) : takeLcm s q typ known op = s := by
  rw [takeLcm, hbox]
  exact if_pos h

theorem takeLcm_otherDest (htyp : be x 2 1 = typ) (hdest : lcmDestOk typ (be x 0 2) (tidOf s q) (actState s q) = false) :
    takeLcm s q typ known op = modAct s q (fun a => { a with inbox := rest }) := by
  simp [takeLcm, hbox, htyp, tidOf_modAct, actState_modAct, hdest]

section
variable (hmine : be x 2 1 = typ ∧ lcmDestOk typ (be x 0 2) (tidOf s q) (actState s q) = true ∧
  lcmLsiOk s typ (sub x 4 (be x 3 1)) = true)
include hmine

theorem takeLcm_unknown (hbad : known (sub x 4 (be x 3 1)) = false) :
    takeLcm s q typ known op = inc (modAct s q (fun a => { a with inbox := rest })) (F.ACT_LCM_UNKNOWN_count (qn q)) := by
  obtain ⟨htyp, hdest, hlsi⟩ := hmine
  simp [takeLcm, hbox, htyp, tidOf_modAct, actState_modAct, hdest, lcmLsiOk_modAct, hlsi, hbad]

/-- The command of a message in front that is the terminal's own and known ends in what the message does once it is counted. -/
theorem finish_takeLcm (hknown : known (sub x 4 (be x 3 1)) = true) (ht : op (lcmTaken s q rest) (sub x 4 (be x 3 1)) = t) :
    finish s (takeLcm s q typ known op) = .next (settled s t) := by
  obtain ⟨htyp, hdest, hlsi⟩ := hmine
  rw [takeLcm_taken op hbox htyp hdest hknown ((lcmLsiOk_modAct s q _ typ _).trans hlsi), ht]
  rfl

/-- While the warden runs, a message of registration in front is taken like any other (R380). -/
theorem finish_takeLcm_up (hup : s.wrd.down = false) (hknown : known (sub x 4 (be x 3 1)) = true)
    (ht : op (lcmTaken s q rest) (sub x 4 (be x 3 1)) = t) :
    finish s (if s.wrd.down then s else takeLcm s q typ known op) = .next (settled s t) :=
  (congrArg (finish s) (if_neg (Bool.eq_false_iff.1 hup))).trans (finish_takeLcm hbox hmine hknown ht)

end
end

section
variable {s : State} {q : Path} {b : List Byte}

/-! ### PATH_PARAMS (R140, R144, R167) -/

/-- The parameters of a PATH_PARAMS are taken. -/
def paramsTaken (s : State) (q : Path) (b : List Byte) : State :=
  (List.range 4).foldl (fun s i => put (put s (F.UPB_PRE_plen (qn q) i) (preLen b i)) (F.UPB_PRE_kind (qn q) i) (preKind b i))
    (modAct s q (fun a => { a with discOpen := bit (be b 0 1) 0, hubSig := bit (be b 0 1) 1, minGuard := be b 1 1 }))

theorem pathParams_stays (h : actState (paramsTaken s q b) q ≠ 1) : pathParams s q b = paramsTaken s q b :=
  if_neg fun hc => h hc.1

theorem pathParams_discovers (hst : actState (paramsTaken s q b) q = 1) (hopen : (act (paramsTaken s q b) q).discOpen = true)
    (hen : getB (paramsTaken s q b) (F.ACT_CTRL_enable (qn q)) = true) :
    pathParams s q b = lineSettle (putAct (modAct (clearApr (put (paramsTaken s q b) (F.ACT_ANN_COUNT_n (qn q)) 0) q) q
      (fun a => { a with skip := 0, announces := [] })) q 2) :=
  if_pos ⟨hst, hopen, hen⟩

/-! ### DISCOVERY (R148, R149) -/

section
variable {draw : Nat} (hopen : (act s q).discOpen = true) (hchan : be b 0 1 = homeInUse s q)
include hopen hchan

theorem discovery_not_ignored : ¬((!(act s q).discOpen) = true ∨ be b 0 1 ≠ homeInUse s q) := by simp [hopen, hchan]

theorem discovery_skips (hskip : 0 < (act s q).skip) :
    discovery s q draw b = modAct s q (fun a => { a with skip := a.skip - 1 }) :=
  (if_neg (discovery_not_ignored hopen hchan)).trans (if_pos hskip)

theorem discovery_announces (hskip : (act s q).skip = 0) (hlen : discoveryLen ≤ be b 9 2) :
    discovery s q draw b =
      let v := modAct s q (fun a => { a with announces := a.announces ++ [be b 11 1] })
      requestBurst v q (be b 0 1) (cwCount (be b 1 6) (be b 7 2) + draw % (be b 9 2 - discoveryLen + 1)) 0 .discovery 0xFFFE discoveryLen 27200
        (some (upSlot v q 0x80 (beBytes 8 (get s F.ACT_LSI_lsi) ++ beBytes 2 0x6425 ++ beBytes 1 0xB0 ++ beBytes 1 (qn q) ++
          beBytes 1 (get s (F.ACT_ANN_COUNT_n (qn q)))))) :=
  (if_neg (discovery_not_ignored hopen hchan)).trans ((if_neg (Nat.not_lt.2 hskip.le)).trans (if_neg (Nat.not_lt.2 hlen)))

end

/-! ### ASSIGN_TID (R149) -/

theorem assignTid_first (hzero : be b 8 2 ≠ 0) (hnone : be b 8 2 ≠ 0xFFFE) (hall : be b 8 2 ≠ 0xFFFF) (hst : actState s q ≠ 3) :
    assignTid s q b = lineSettle (putAct (takeTid s q b) q 3) :=
  (if_neg (by simp [hzero, hnone, hall])).trans (if_neg hst)

/-! ### RANGE_WINDOW and EQ_DELAY (R150, R151) -/

/-- Where the light of a ranging burst is off again, in units from the start of the window that `b` gives (R97, R150). -/
def rangingEnd (s : State) (q : Path) (b : List Byte) : Nat := eqdAt s q (be b 0 1) (be b 1 6) + 43520 * rangingLen - 16 + 13600

theorem rangeWindow_short (hst : actState s q = 3 ∨ actState s q = 4) (h : 43520 * be b 9 2 < rangingEnd (applyEqds s q) q b) :
    rangeWindow s q b = raiseGrey (applyEqds s q) (F.ACT_EVENT_range_fit (qn q)) :=
  (if_pos hst).trans (if_pos h)

theorem rangeWindow_filled (hst : actState s q = 3 ∨ actState s q = 4) (h : rangingEnd (applyEqds s q) q b ≤ 43520 * be b 9 2) :
    rangeWindow s q b = requestBurst (applyEqds s q) q (be b 0 1) (cwCount (be b 1 6) (be b 7 2))
      (eqdAt (applyEqds s q) q (be b 0 1) (be b 1 6)) .ranging (tidOf (applyEqds s q) q) rangingLen 10880 none :=
  (if_pos hst).trans (if_neg (Nat.not_lt.2 h))

/-- The answer RANGE carries the delay that stands in the register (R151 is silent; log entry 61). -/
theorem eqDelay_outOfRange (h : 680000000 < be b 1 4) : eqDelay s q b = raiseGrey
    (queueLcm s q .act 0x81 (beBytes 1 (be b 0 1) ++ beBytes 1 1 ++ beBytes 4 (get s (F.ACT_EQD_eqd (qn q) (be b 0 1)))))
    (F.ACT_EVENT_eqd_range (qn q)) :=
  if_pos h

/-- The delay waits with the path; no register but those of delays that are due is written. -/
theorem eqDelay_acknowledged (h : be b 1 4 ≤ 680000000) : ∃ w,
    eqDelay s q b = queueLcm w q .act 0x81 (beBytes 1 (be b 0 1) ++ beBytes 1 0 ++ beBytes 4 (be b 1 4)) ∧
    w.regs = (applyEqds s q).regs :=
  ⟨_, if_neg (Nat.not_lt.2 h), modAct_regs _ q _⟩

/-! ### TRIB_ASSIGN (R157) -/

theorem tribAssign_refused (h : tribReason s q (be b 0 1) (be b 1 1) (be b 2 2) (be b 4 1) ≠ 0) :
    tribAssign s q b = raiseGrey (queueLcm s q .act 0x87 (beBytes 1 (be b 0 1) ++
      beBytes 1 (tribReason s q (be b 0 1) (be b 1 1) (be b 2 2) (be b 4 1)))) (F.ACT_EVENT_trib_nack (qn q)) :=
  if_neg h

theorem tribAssign_waits (h : tribReason s q (be b 0 1) (be b 1 1) (be b 2 2) (be b 4 1) = 0) :
    tribAssign s q b = modAct s q (fun a => { a with
      pendTrib := a.pendTrib.filter (fun p => decide (p.t ≠ be b 0 1)) ++ [⟨be b 0 1,
        if be b 4 1 = 0xFF then none else some (tribWord q (be b 1 1) (be b 2 2) (be b 4 1)), be b 5 6⟩] }) :=
  if_pos h

/-! ### Orders of the hub (R140, R158) -/

theorem deactivate_returns (h : actState s q = 2 ∨ actState s q = 3 ∨ actState s q = 4) :
    deactivate s q b = lineSettle (actReturn s q 1 4) :=
  if_pos h

theorem holdPath_holds (hlo : 1 ≤ actState s q) (hhi : actState s q ≤ 4) : holdPath s q b = lineSettle (actHold s q) :=
  if_pos ⟨hlo, hhi⟩

theorem resume_locked (hst : actState s q = 6) (hlock : pathLocked s q = true) :
    resume s q b = lineSettle (enterT4 (clearApr s q) q) :=
  if_pos ⟨hst, hlock⟩

end

/-- Settles O52, from what each message does to the state in which it has been taken. -/
theorem activationMessages : Obligations.ActivationMessages := by
  unfold Obligations.ActivationMessages
  intro s q x rest draw hbox b v u st takes
  refine ⟨fun h => congrArg (finish s) (takeLcm_otherType hbox h), fun htyp h => congrArg (finish s) (takeLcm_otherDest hbox htyp h),
    fun h hbad => congrArg (finish s) (takeLcm_unknown hbox h hbad), ?_, fun h => finish_takeLcm hbox h rfl rfl,
    fun h ho hc hs => finish_takeLcm hbox h rfl (discovery_skips ho hc hs),
    fun h ho hc hs hl => finish_takeLcm hbox h rfl (discovery_announces ho hc hs hl),
    fun h hk h0 h1 h2 hst => finish_takeLcm hbox h hk (assignTid_first h0 h1 h2 hst),
    fun h hk hst hfit => finish_takeLcm hbox h hk (rangeWindow_short hst hfit),
    fun h hk hst hfit => finish_takeLcm hbox h hk (rangeWindow_filled hst hfit),
    fun h hk hd => finish_takeLcm hbox h hk (eqDelay_outOfRange hd), ?_,
    fun h hk => finish_takeLcm hbox h hk rfl,
    fun h hk hr => finish_takeLcm hbox h hk (tribAssign_refused hr),
    fun h hk hr => finish_takeLcm hbox h hk (tribAssign_waits hr),
    fun h hst => finish_takeLcm hbox h rfl (deactivate_returns hst),
    fun h hlo hhi => finish_takeLcm hbox h rfl (holdPath_holds hlo hhi), fun h => finish_takeLcm hbox h rfl rfl,
    fun h hst hl => finish_takeLcm hbox h rfl (resume_locked hst hl)⟩
  · rintro w rfl h hok
    exact ⟨fun hst => finish_takeLcm hbox h hok (pathParams_stays hst),
      fun hst ho he => finish_takeLcm hbox h hok (pathParams_discovers hst ho he)⟩
  · intro h hk hd
    obtain ⟨w, hw, hregs⟩ := eqDelay_acknowledged (s := u) (q := q) hd
    exact ⟨w, finish_takeLcm hbox h hk hw, hregs⟩

end Sys2Proof.Machine
end

section
/-!
SUPPORT. Registration and the timers of activation (R140, R146, R148, R151, R153 to R158), one equation per case of each command, and the
statement about them.
-/
namespace Sys2Proof.Machine
open Sys2Proof

section
variable {s : State} {q : Path} {b : List Byte}

/-! ### The certificate and the end of registration (R140, R153) -/

theorem certReq_answered (hst : actState s q = 3) : certReq s q b = queueFragments s q 0x82 (s.flash.cert.take 1080) := if_pos hst

theorem registered_enters (hst : actState s q = 3) : registered s q b =
    lineSettle (enterT4 (forgetSecrets
      (t4Epochs (put s (F.ACT_REG_FN_fn (qn q)) (pathTime s q).fn) q (pathTime s q).fn) q) q) :=
  if_pos hst

/-! ### The challenge and its answer (R146, R153) -/

theorem fragDrop_none (h : (act s q).frag = none) : fragDrop s q = s := if_neg (by simp [h])

theorem fragDrop_some (h : (act s q).frag.isSome = true) : fragDrop s q = raiseGrey
    (inc (modAct s q (fun a => { a with frag := none })) (F.ACT_LCM_UNKNOWN_count (qn q))) (F.ACT_EVENT_frag_drop (qn q)) :=
  if_pos h

theorem fragData_one (data : List Byte) : fragData [(0, data)] 1 = data := by simp [fragData, Tab.getD, Tab.find]

section
variable (hst : actState s q = 3) (hfirst : be b 0 1 = 0) (hnone : (act s q).frag = none)
include hst hfirst hnone

theorem challengeFragment_whole (hn : be b 1 1 = 1) :
    challengeFragment s q b = challenge (modAct s q (fun a => { a with frag := none })) q (b.drop 2) := by
  simp [challengeFragment, hst, hfirst, fragDrop_none hnone, hnone, hn, Tab.set, fragData_one]

theorem challengeFragment_first (hlo : 2 ≤ be b 1 1) (hhi : be b 1 1 ≤ 20) (hlen : b.length = 56) :
    challengeFragment s q b = modAct s q (fun a => { a with frag := some ⟨be b 1 1, [(0, b.drop 2)]⟩ }) := by
  have hcount : ¬(be b 1 1 = 0 ∨ 20 < be b 1 1) := by omega
  have hmore : be b 1 1 ≠ 1 := by omega
  simp [challengeFragment, hst, hfirst, fragDrop_none hnone, hnone, Tab.set, hlen, hmore.symm, not_or.1 hcount]

end

theorem respond_unasked (h : (act s q).challenge = none) : respond s q = s := by rw [respond, h]

/-- The answer draws the ephemeral key and the signature's random value, and keeps what it sends and derives. -/
theorem respond_answers {m : List Byte} (hm : (act s q).challenge = some m) (hresp : (act s q).response = none)
    (hst : actState s q = 3) (hup : s.wrd.down = false) : ∃ key sig keys, respond s q =
      queueFragments (modAct (stepFree (stepFree s)) q (fun a => { a with response := some (key ++ sig), derived := some keys })) q
        0x83 (key ++ sig) := by
  simp only [respond, hm]
  exact ⟨_, _, _, if_neg (by simp [hresp, hst, hup])⟩

/-! ### The confirmation (R153) -/

/-- A confirmation before the keys are derived fails the registration (log entry 166). -/
theorem keyConfirm_underived (hst : actState s q = 3) (h : (act s q).derived = none) : keyConfirm s q b = lineSettle (authFail s q) := by
  simp [keyConfirm, hst, h]

/-- The digest of the challenge and its answer, which both confirmations prove (R153). -/
def transcript (s : State) (q : Path) : List Byte := Config.sha384 ((act s q).challenge.getD [] ++ (act s q).response.getD [])

section
variable {d : List Byte} (hst : actState s q = 3) (h : (act s q).derived = some d)
include hst h

theorem keyConfirm_wrong (hb : b ≠ fit 16 (Config.cmac256 (d.drop 64) (beBytes 1 1 ++ transcript s q))) :
    keyConfirm s q b = lineSettle (authFail s q) := by
  simp only [keyConfirm, hst, h, ne_eq, not_true_eq_false, if_false]
  exact if_pos hb

theorem keyConfirm_right (hb : b = fit 16 (Config.cmac256 (d.drop 64) (beBytes 1 1 ++ transcript s q)))
    (hdown : slotGen s (rootSlot s q false) ≠ 0xFFFFFFFF) (hup : slotGen s (rootSlot s q true) ≠ 0xFFFFFFFF) :
    keyConfirm s q b = sendConfirm
      (modAct (slotCommand (slotCommand s (rootSlot s q false) (some (sub d 0 32))) (rootSlot s q true) (some (sub d 32 32))) q
        (fun a => { a with confirmTag := some (Config.cmac256 (d.drop 64) (beBytes 1 2 ++ transcript s q)) })) q := by
  simp only [keyConfirm, hst, h, hdown, hup, ne_eq, not_true_eq_false, if_false]
  exact if_neg (not_not.2 hb)

end

/-! ### What waits for its frame or its time (R148, R151, R155, R157) -/

theorem unanswered_backsOff {draw most : Nat} {late : List Nat} (h : (act s q).announces = most :: late) (hst : actState s q = 2) :
    unanswered s q draw =
      let k := sat 15 (get s (F.ACT_ANN_COUNT_n (qn q)) + 1)
      modAct (put s (F.ACT_ANN_COUNT_n (qn q)) k) q
        (fun a => { a with announces := late, skip := draw % min (2 ^ k) (max 1 most) }) := by
  rw [unanswered, h]
  exact if_pos hst

theorem homeApply_some {n fn : Nat} (h : (act s q).pendHome = some (n, fn)) : homeApply s q =
    lineSettle (assignHome (modAct (reach s (1 + qn q) (5000 * fn)) q (fun a => { a with pendHome := none })) q n) := by
  rw [homeApply, h]

theorem homeApply_none (h : (act s q).pendHome = none) : homeApply s q = s := by rw [homeApply, h]

/-- Path time reaches the frame of assignment `p`, and the container that stood in its place is gone (R157). -/
def tribReached (s : State) (q : Path) (p : PendTrib) (t : Nat) : State :=
  dropDownTrib (modAct (reach s (1 + qn q) (5000 * p.applyFn)) q (fun a => { a with pendTrib := a.pendTrib.erase p })) t

section
variable {t : Nat} {p : PendTrib} (h : (act s q).pendTrib.find? (fun p => decide (p.t = t)) = some p)
include h

theorem tribApply_removes (hcfg : p.cfg = none) : tribApply s q t = tribReached s q p t := by
  simp only [tribApply, h, hcfg, tribReached]

theorem tribApply_assigns {w : Nat} (hcfg : p.cfg = some w) :
    tribApply s q t = showTribFault (wrWord (tribReached s q p t) (R.DFR_TRIB_CFG t) (BitVec.ofNat 32 w)) t := by
  simp only [tribApply, h, hcfg, tribReached]

end

theorem to3Expire_returns (h : actState s q = 3) : to3Expire s q = lineSettle (actReturn s q 1 2) := if_pos h

theorem to3Expire_past (h : actState s q ≠ 3) : to3Expire s q = s := if_neg h

theorem to6Expire_returns (h : actState s q = 6) :
    to6Expire s q = lineSettle (actReturn s q (if pathLocked s q then 1 else 0) 3) := if_pos h

theorem to6Expire_past (h : actState s q ≠ 6) : to6Expire s q = s := if_neg h

theorem homeFallback_found {n : Nat} (hst : actState s q = 3 ∨ actState s q = 4)
    (hbad : hardDefect s (laneOf q (homeInUse s q)) = true) (hn : fallbackChan s q = some n) :
    homeFallback s q = queueLcm (raiseGrey
      (putB (putHome s q n true) (F.ACT_STATE_home_fallback (qn q)) true) (F.ACT_EVENT_home_fallback (qn q)))
      q .act 0x86 (beBytes 1 (homeInUse s q) ++ beBytes 1 n) := by
  rw [homeFallback, if_pos ⟨hst, hbad⟩, hn]

/-! ### Skew reports (R156) -/

theorem skewReport_disabled (h : getB s (F.ACT_CTRL_skew_en (qn q)) = false) : skewReport s q = s := if_neg (by simp [h])

theorem skewReport_inactive (h : actState s q ≠ 4) : skewReport s q = s := if_neg fun hc => h hc.1

/-- The report of skew `d` on path `q` is queued and remembered. -/
def skewSent (s : State) (q : Path) (d : Int) : State :=
  queueLcm (modAct (putI s (F.ACT_LAST_SKEW_skew (qn q)) d) q (fun a => { a with skewFn := some (modFn s) }))
    q .act 0x85 (beBytes 4 (ofSigned 32 d) ++ beBytes 6 (modFn s))

theorem modFn_skewNoted (s : State) (q : Path) (d : Int) (f : Act → Act) :
    modFn (modAct (putI s (F.ACT_LAST_SKEW_skew (qn q)) d) q f) = modFn s :=
  (get_modAct ..).trans (get_put_apart s _ (by cases q <;> decide))

theorem skewReport_due (hst : actState s q = 4) (hen : getB s (F.ACT_CTRL_skew_en (qn q)) = true) (ha : pathLocked s .a = true)
    (hb : pathLocked s .b = true) (hdue : skewDue s q (sat32 (pathSkew s)) = true) :
    skewReport s q = skewSent s q (sat32 (pathSkew s)) := by
  rw [skewReport, if_pos ⟨hst, hen, ha, hb, hdue⟩]
  simp only [modFn_skewNoted, skewSent]

theorem actState_skewSent (s : State) (d : Int) : actState (skewSent s .a d) .b = actState s .b := by
  rw [skewSent, queueLcm, actState_modAct, actState_modAct]
  exact get_put_apart _ _ (by decide)

end

/-- Settles O53, from the equation of each command in each of its cases. -/
theorem activationTimers : Obligations.ActivationTimers := by
  unfold Obligations.ActivationTimers
  intro s r q x rest draw n t p b u took
  refine ⟨fun ⟨hbox, htyp, hdest⟩ hup hst => finish_takeLcm_up hbox ⟨htyp, hdest, rfl⟩ hup rfl (certReq_answered hst),
    fun hdown => ?_,
    fun ⟨hbox, htyp, hdest⟩ hup hst hi hf hn =>
      finish_takeLcm_up hbox ⟨htyp, hdest, rfl⟩ hup rfl (challengeFragment_whole hst hi hf hn),
    fun ⟨hbox, htyp, hdest⟩ hup hst hi hf hlo hhi hl =>
      finish_takeLcm_up hbox ⟨htyp, hdest, rfl⟩ hup rfl (challengeFragment_first hst hi hf hlo hhi hl),
    fun h => congrArg (finish s) (respond_unasked h), fun m hm hresp hst hup => ?_,
    fun ⟨hbox, htyp, hdest⟩ hup hst hd => finish_takeLcm_up hbox ⟨htyp, hdest, rfl⟩ hup rfl (keyConfirm_underived hst hd),
    fun d ⟨hbox, htyp, hdest⟩ hup hst hd hgd hgu => finish_takeLcm_up hbox ⟨htyp, hdest, rfl⟩ hup rfl ?_,
    fun ⟨hbox, htyp, hdest⟩ hup hst => finish_takeLcm_up hbox ⟨htyp, hdest, rfl⟩ hup rfl (registered_enters hst),
    fun most late h hst => congrArg (finish s) (unanswered_backsOff h hst), fun h => congrArg (finish s) (homeApply_some h),
    fun h => congrArg (finish s) (homeApply_none h), fun h => congrArg (finish s) ?_,
    fun h => congrArg (finish s) (onWriteP0_of_p0 _ h), fun h => congrArg (finish s) (fragDrop_some h),
    fun h => congrArg (finish s) (to3Expire_returns h), fun h => congrArg (finish s) (to3Expire_past h),
    fun h => congrArg (finish s) (to6Expire_returns h), fun h => congrArg (finish s) (to6Expire_past h),
    fun hst hbad hn => congrArg (finish s) (homeFallback_found hst hbad hn), fun ha hb => congrArg (finish s) ?_,
    fun hst hen ha hb hdue hother => congrArg (finish s) ?_⟩
  · have hwaits {op : State} : finish s (if s.wrd.down then s else op) = .next (settled s s) := congrArg (finish s) (if_pos hdown)
    exact ⟨hwaits, hwaits, hwaits, hwaits⟩
  · obtain ⟨key, sig, keys, h⟩ := respond_answers hm hresp hst hup
    exact ⟨_, key, sig, keys, congrArg (finish s) h, rfl⟩
  · split
    next hb => exact keyConfirm_right hst hd hb hgd hgu
    next hb => exact keyConfirm_wrong hst hd hb
  · cases hcfg : p.cfg with
    | none => exact tribApply_removes h hcfg
    | some w => exact tribApply_assigns h hcfg
  · rw [skewReport_disabled (q := .a) ha, skewReport_disabled (q := .b) hb]
  · have hquiet : actState (skewSent s .a (sat32 (pathSkew s))) .b ≠ 4 := (actState_skewSent s _).trans_ne hother
    rw [skewReport_due (q := .a) hst hen ha hb hdue, skewReport_inactive hquiet]
    rfl

end Sys2Proof.Machine
end

section
/-!
SUPPORT. The line cipher and the key store (R233, R234, R240 to R247), one equation per case of each command, and the statement about them.
-/
namespace Sys2Proof.Machine
open Sys2Proof

/-! ### Segments and derivations (R240, R241, R247) -/

/-- Segment `g` of a channel has left DFR and is counted into its engine. -/
def segTaken (s : State) (q : Path) (chan : Nat) (g : Seg) : State :=
  monIn { s with dfr := { s.dfr with out := s.dfr.out.erase g } } 4 0x16 [(4, 64 * qn q + chan)] (segBytes g)

section
variable {s : State} {q : Path} {chan : Nat} {mis : Bool}

theorem lcySegment_none (h : s.dfr.out.find? (fun g => decide (g.path = q) && decide (g.chan = chan)) = none) :
    lcySegment s q chan mis = s := by
  rw [lcySegment, h]

section
variable {g : Seg} (h : s.dfr.out.find? (fun g => decide (g.path = q) && decide (g.chan = chan)) = some g) (hg : g.lost = none)
include h hg

/-- Only the counter's refusal, code 0x52, also marks the context. -/
theorem lcySegment_refused {code : Nat} (hd : lcyDecide (segTaken s q chan g) g = .error code) (hcode : code ≠ 0x52) :
    lcySegment s q chan mis = lcyDiscard (segTaken s q chan g) (chanIds q chan) code := by
  rw [segTaken] at hd
  simp [lcySegment, h, hg, hd, hcode, segTaken]

theorem lcySegment_clear (hd : lcyDecide (segTaken s q chan g) g = .ok (none, false)) :
    lcySegment s q chan mis = lcyEnter (segTaken s q chan g) ⟨g, none, false⟩ := by
  rw [segTaken] at hd
  simp [lcySegment, h, hg, hd, segTaken]

/-- A segment that captures the context of group `k` joins its engine with the key and IV of that context. -/
theorem lcySegment_keyed {k : Nat} (hd : lcyDecide (segTaken s q chan g) g = .ok (some k, false)) :
    lcySegment s q chan mis =
      let v := segTaken s q chan g
      let d := derivedAt v q false g.keyIdx k g.fn
      lcyEnter (lcyKey (ctxUse v q false g.keyIdx k g.fn) d)
        ⟨g, some (d, (keyOf v d).1, segIv (keyOf v d).2 chan (g.fn - d.epoch) g.offset), mis⟩ := by
  rw [segTaken] at hd
  simp [lcySegment, h, hg, hd, segTaken]

end

theorem derivationDone_none (h : s.lcy.deriving_ = []) : derivationDone s = s := by rw [derivationDone, h]

theorem derivationDone_some {d : Derived} {ds : List Derived} (h : s.lcy.deriving_ = d :: ds) :
    derivationDone s =
      let w := cachePut (modLcy s (fun l => { l with deriving_ := ds })) d
      if w.lcy.cache.contains d then lcyRelease w w.lcy.waiting [] else s := by
  rw [derivationDone, h]

end

/-! ### The test of a failed engine (R234) -/

section
variable {s : State} {e : Nat}

theorem retestDone_idle {pass : Bool} (h : getB s (F.LCY_ENG_STATUS_retest_busy e) = false) : retestDone s e pass = s :=
  if_neg (Bool.eq_false_iff.1 h)

section
variable (h : getB s (F.LCY_ENG_STATUS_retest_busy e) = true)
include h

theorem retestDone_fails : retestDone s e false = putB s (F.LCY_ENG_STATUS_retest_busy e) false :=
  (if_pos h).trans (if_neg fun hc => Bool.false_ne_true hc.1)

theorem retestDone_passes (hf : engineFailed (putB s (F.LCY_ENG_STATUS_retest_busy e) false) e = true) :
    retestDone s e true =
      let w := putB s (F.LCY_ENG_STATUS_retest_busy e) false
      lineSettle (put (putB w (F.LCY_ENG_STATUS_failed e) false) F.LCY_STATUS_failed (get w F.LCY_STATUS_failed - 1)) :=
  (if_pos h).trans (if_pos ⟨rfl, hf⟩)

end
end

/-! ### Rekeying (R243, R244) -/

section
variable {s t : State} (h : s.regs = t.regs)
include h

theorem wrWord_regs_congr (a : Nat) (v : Word) : (wrWord s a v).regs = (wrWord t a v).regs := by
  dsimp only [wrWord]
  rw [h]

/-- What a write puts into the register file depends on the register file alone. -/
theorem put_regs_congr (f : Fld) (v : Nat) : (put s f v).regs = (put t f v).regs := by
  simp only [put, rdWord_congr h]
  split
  · exact wrWord_regs_congr h _ _
  · exact wrWord_regs_congr (wrWord_regs_congr h _ _) _ _

end

section
variable {s : State} {q : Path} {b : List Byte}

/-- An epoch less than two frames ahead is refused, and REKEY_ACK says so. -/
theorem rekey_refused (h : be b 2 6 < (pathTime s q).fn + 2) : rekey s q b = raiseGrey
    (queueLcm s q .lcy 0xA4 (beBytes 1 (b2n (decide (be b 0 1 = 1))) ++ beBytes 1 (be b 1 1) ++ beBytes 1 1 ++ beBytes 6 (be b 2 6)))
    F.LCY_EVENT_rekey_refused := by
  simp [rekey, h, b2n]

/-- A downstream epoch within the limits is noted in the context's registers and in no other. -/
theorem rekey_noted (hlo : (pathTime s q).fn + 2 ≤ be b 2 6) (hhi : be b 2 6 ≤ (pathTime s q).fn + 15625) (hdown : be b 0 1 = 0) :
    ∃ w, rekey s q b = raiseGrey w F.LCY_EVENT_rekey ∧
      w.regs = (putB (put s (F.LCY_CTX_NEXT_fn (qn q) 0 (be b 1 1)) (be b 2 6)) (F.LCY_CTX_STATE_next_valid (qn q) 0 (be b 1 1)) true).regs := by
  have hfar : ¬ be b 2 6 < (pathTime s q).fn + 2 := Nat.not_lt.2 hlo
  have hnear : ¬ (pathTime s q).fn + 15625 < be b 2 6 := Nat.not_lt.2 hhi
  simp only [rekey, hfar, hnear, hdown, dirNum, b2n, decide_false, Bool.false_or, Bool.false_and, if_false, Nat.zero_ne_one, Bool.false_eq_true]
  exact ⟨_, rfl, put_regs_congr (put_regs_congr (modAct_regs s q _) _ _) _ _⟩

variable {up : Bool} {i : Nat}

theorem epochStart_none (h : getB s (F.LCY_CTX_STATE_next_valid (qn q) (dirNum up) i) = false) : epochStart s q up i = s :=
  if_neg (Bool.eq_false_iff.1 h)

theorem epochStart_pending (h : getB s (F.LCY_CTX_STATE_next_valid (qn q) (dirNum up) i) = true) :
    epochStart s q up i =
      let fn := get s (F.LCY_CTX_NEXT_fn (qn q) (dirNum up) i)
      let w := reach s (1 + qn q) (5000 * fn)
      let old := if ctxValid w q up i then
          some (get w (F.LCY_CTX_EPOCH_fn (qn q) (dirNum up) i), getB w (F.LCY_CTX_STATE_exhausted (qn q) (dirNum up) i)) else none
      let y := modLcy (ctxEpoch w q up i fn) (fun l => { l with prevEpoch := Tab.put l.prevEpoch (ctxKey q up i) old })
      if up then put y (F.LCY_TX_IDX_idx (qn q)) i else y :=
  if_pos h

section
variable {f : Nat} (h : Tab.find s.lcy.reqFn (ctxKey q up i) = some f)
include h

theorem rekeyRepeat_due (hdue : f + 15625 ≤ (pathTime s q).fn) : rekeyRepeat s q up i = rekeyReq s q up i := by
  rw [rekeyRepeat, h]
  exact if_pos hdue

theorem rekeyRepeat_early (hearly : (pathTime s q).fn < f + 15625) : rekeyRepeat s q up i = s := by
  rw [rekeyRepeat, h]
  exact if_neg (Nat.not_le.2 hearly)

end
end

/-! ### The queue of the key store (R245, R246, R380) -/

theorem slotPut_cmds (s : State) (k : Nat) (key : Option (List Byte)) : (slotPut s k key).lcy.cmds = s.lcy.cmds := by
  unfold slotPut
  dsimp only
  split <;> split <;> simp [inc, addTo, modLcy]

section
variable {s : State} {c : KstCmd}

theorem kstAnswer_busy (h : slotIdle s c.slot = false) : kstAnswer s c = put s F.KST_RESULT_code 1 := by simp [kstAnswer, h]

theorem kstAnswer_retired (h : slotIdle s c.slot = true) (hr : kstRetired s c = true) : kstAnswer s c = put s F.KST_RESULT_code 2 := by
  simp [kstAnswer, h, hr]

theorem kstAnswer_done (h : slotIdle s c.slot = true) (hr : kstRetired s c = false) :
    kstAnswer s c = put (slotPut s c.slot c.key) F.KST_RESULT_code 0 := by
  simp [kstAnswer, h, hr]

theorem kstAnswer_cmds (s : State) (c : KstCmd) : (kstAnswer s c).lcy.cmds = s.lcy.cmds := by
  cases hidle : slotIdle s c.slot with
  | false => rw [kstAnswer_busy hidle, put_lcy]
  | true =>
    cases hretired : kstRetired s c with
    | false => rw [kstAnswer_done hidle hretired, put_lcy, slotPut_cmds]
    | true => rw [kstAnswer_retired hidle hretired, put_lcy]

end

theorem kstRun_empty {s : State} {fuel : Nat} (h : s.lcy.cmds = []) : kstRun s fuel = s := by
  cases fuel with
  | zero => rfl
  | succ fuel => rw [kstRun, h]

theorem kstServe_down {s : State} (h : s.wrd.down = true) : kstServe s = s := by
  rw [kstServe, kstRun]
  split
  · rfl
  · simp [h]

/-- A command of the host joins the queue. -/
def kstQueued (s : State) (c : KstCmd) : State := modLcy s (fun l => { l with cmds := l.cmds ++ [c] })

/-- A command of the host that comes to an empty queue while the warden runs is answered at once. -/
theorem kstServe_kstQueued {s : State} {c : KstCmd} (hhost : c.host = true) (hup : s.wrd.down = false) (hempty : s.lcy.cmds = []) :
    kstServe (kstQueued s c) = kstAnswer s c := by
  have hqueue : (kstQueued s c).lcy.cmds = [c] := congrArg (· ++ [c]) hempty
  have htaken : modLcy (kstQueued s c) (fun l => { l with cmds := [] }) = s := by
    simp only [kstQueued, modLcy, ← hempty]
  have hgo : ¬ (((kstQueued s c).wrd.down || (!c.host && !slotIdle (kstQueued s c) c.slot)) = true) := by
    simp [kstQueued, modLcy, hup, hhost]
  rw [kstServe, kstRun, hqueue]
  dsimp only
  rw [if_neg hgo, if_pos hhost, htaken]
  exact kstRun_empty ((kstAnswer_cmds s c).trans hempty)

/-- The command that a write or an erase of KST_CMD gives. -/
def kstCmdOf (s : State) (write : Bool) : KstCmd := ⟨get s F.KST_SEL_slot, if write then some (kstKey s) else none, true⟩

/-- KST_KEY reads as zero. -/
def kstKeyCleared (s : State) : State := (List.range 8).foldl (fun s w => put s (F.KST_KEY_bits w) 0) s

section
variable {s : State} {write : Bool}

theorem kstCommand_waits (hdown : s.wrd.down = true) :
    kstCommand s write = kstKeyCleared (kstQueued s (kstCmdOf s write)) :=
  congrArg kstKeyCleared (kstServe_down hdown)

/-- A command of the host that the key store answers at once leaves KST_KEY cleared. -/
theorem kstCommand_answered {t : State} (hturn : s.wrd.down = false ∧ s.lcy.cmds = []) (ht : kstAnswer s (kstCmdOf s write) = t) :
    kstCommand s write = kstKeyCleared t :=
  congrArg kstKeyCleared ((kstServe_kstQueued rfl hturn.1 hturn.2).trans ht)

theorem kstRetired_write_iff : kstRetired s (kstCmdOf s true) = true ↔ slotGen s (get s F.KST_SEL_slot) = 0xFFFFFFFF := by
  simp [kstRetired, kstCmdOf]

theorem kstRetired_erase : kstRetired s (kstCmdOf s false) = false := rfl

end

/-! ### A slot has drained (R246) -/

section
variable {s : State} {k : Nat}

theorem keySlotDrained_idle (h : slotIdle s k = true) : keySlotDrained s k = s := if_pos (by simp [h])

theorem keySlotDrained_unused (h : slotIdle s k = false) (hnone : capturedKeys s = []) :
    keySlotDrained s k = sendConfirm (sendConfirm (slotDrained s k) .a) .b :=
  if_neg (by simp [h, hnone])

end

/-- Settles O55, from the equation of each command in each of its cases. -/
theorem lineCipher : Obligations.LineCipher := by
  unfold Obligations.LineCipher
  intro s r q x rest chan mis pass up e i slot g b u took v next
  refine ⟨fun h => congrArg (finish s) (lcySegment_none h),
    fun code h hg hd hcode => congrArg (finish s) (lcySegment_refused h hg hd hcode),
    fun h hg hd => congrArg (finish s) (lcySegment_clear h hg hd),
    fun k h hg hd => congrArg (finish s) (lcySegment_keyed h hg hd),
    fun h => congrArg (finish s) (derivationDone_none h), fun d ds h => ⟨_, rfl, congrArg (finish s) (derivationDone_some h)⟩,
    fun h => congrArg (finish s) (onWrite_of_reaches _ h),
    fun h => ⟨congrArg (finish s) (retestDone_fails h), fun hf => congrArg (finish s) (retestDone_passes h hf)⟩,
    fun h => congrArg (finish s) (retestDone_idle h),
    fun ⟨hbox, htyp, hdest⟩ hb hsoon => finish_takeLcm hbox ⟨htyp, hdest, rfl⟩ hb (rekey_refused hsoon),
    fun ⟨hbox, htyp, hdest⟩ hb hlo hhi hdown => ?_,
    fun h => congrArg (finish s) (epochStart_none h), fun h => congrArg (finish s) (epochStart_pending h),
    fun f h => ⟨fun hdue => congrArg (finish s) (rekeyRepeat_due h hdue), fun hearly => congrArg (finish s) (rekeyRepeat_early h hearly)⟩,
    fun hreach => ?_,
    fun h => congrArg (finish s) (keySlotDrained_idle h), fun h hnone => congrArg (finish s) (keySlotDrained_unused h hnone)⟩
  · obtain ⟨w, hw, hregs⟩ := rekey_noted (s := u) (q := q) hlo hhi hdown
    exact ⟨w, finish_takeLcm hbox ⟨htyp, hdest, rfl⟩ hb hw, hregs⟩
  · intro k cleared waits turn free
    have hrun {write : Bool} {t : State} (h : kstCommand s write = t) :
        finish s (onWriteP0 s r R.KST_CMD (fun s => kstCommand s write)) = .next (settled s t) :=
      congrArg (finish s) ((onWriteP0_of_p0 _ hreach).trans h)
    refine ⟨fun hdown => ⟨hrun (kstCommand_waits hdown), hrun (kstCommand_waits hdown)⟩,
      fun hbusy hturn => ⟨hrun (kstCommand_answered hturn (kstAnswer_busy hbusy)), hrun (kstCommand_answered hturn (kstAnswer_busy hbusy))⟩,
      fun ⟨hidle, hturn⟩ hgen => hrun (kstCommand_answered hturn (kstAnswer_retired hidle (kstRetired_write_iff.2 hgen))),
      fun ⟨hidle, hturn⟩ hgen => hrun (kstCommand_answered hturn (kstAnswer_done hidle ?_)),
      fun ⟨hidle, hturn⟩ => hrun (kstCommand_answered hturn (kstAnswer_done hidle kstRetired_erase))⟩
    exact Bool.eq_false_iff.2 (mt kstRetired_write_iff.1 hgen)

end Sys2Proof.Machine
end

section
/-!
SUPPORT. The client ports' links and flow control (R256 to R258, R263 to R265), and the statement about them.
-/
namespace Sys2Proof.Machine
open Sys2Proof

/-! ### The end of a command with one condition -/

section
variable {s t u : State} {c : Prop} [Decidable c]

theorem finish_of_pos (h : c) : finish s (if c then t else u) = .next (settled s t) := congrArg (finish s) (if_pos h)

theorem finish_of_neg (h : ¬ c) : finish s (if c then t else u) = .next (settled s u) := congrArg (finish s) (if_neg h)

end

section
variable {s : State} {n : PktRegion} {l : Fin 32}

/-! ### Signal (R258) -/

theorem signalDetect_adapts (hport : isPort s n l = true) (hlink : portLink s n l = 0) (hrun : lanesRun s n = true)
    (hlanes : (portLanes s n l).all (fun k => bit (get s (F.CMC_LANE_EN_en n)) k) = true) :
    execSignalDetect n l s = .next (settled s
      (setLink ((portLanes s n l).foldl (fun s k => putB s (F.CMC_LANE_STATUS_sig n k) true) s) n l 1)) :=
  finish_of_pos (by rw [hport, hrun, hlanes, decide_eq_true hlink]; rfl)

theorem signalDetect_past (hlink : portLink s n l ≠ 0) : execSignalDetect n l s = .next (settled s s) :=
  finish_of_neg (by simp [hlink])

/-! ### Fault ordered sets (R256, R258) -/

/-- The two fault bits of a port show what its last ordered set with the data bytes `d` says. -/
def faultShown (s : State) (n l d : Nat) : State :=
  putB (putB s (F.CMC_PORT_STATUS_rx_lf n l) (decide (d = 1))) (F.CMC_PORT_STATUS_rx_rf n l) (decide (d = 2))

section
variable {d : BitVec 24}

theorem faultSetRx_answers (hlink : 3 ≤ portLink s n l) (heth : isEth s n l = true) (hclear : isTransparent s n l = false)
    (hd : d.toNat = 1 ∨ d.toNat = 2) : execFaultOrderedSetRx n l d s =
      let u := faultShown s n l d.toNat
      let t := if portLink s n l = 3 then raiseGrey (put u (F.CMC_PORT_STATUS_link n l) 4) (F.CMC_PORT_EVENT_fault n l) else u
      .next (settled s (emitSet t n l (if d.toNat = 2 then 0 else 0x200))) := by
  have hfault : (decide (d.toNat = localFault) || decide (d.toNat = remoteFault)) = true :=
    Bool.or_eq_true_iff.2 (hd.imp decide_eq_true decide_eq_true)
  refine congrArg (finish s) ((if_neg (Nat.not_lt.2 hlink)).trans ((if_pos (.inr ⟨heth, hfault⟩)).trans ?_))
  exact if_neg (Bool.eq_false_iff.1 hclear)

theorem faultSetRx_ignored (hclear : isTransparent s n l = false) (hlf : d.toNat ≠ 1) (hrf : d.toNat ≠ 2) :
    execFaultOrderedSetRx n l d s = .next (settled s s) := by
  have hother : ¬(isTransparent s n l = true ∨
      (isEth s n l = true ∧ (decide (d.toNat = localFault) || decide (d.toNat = remoteFault)) = true)) := by
    simp [hclear, localFault, remoteFault, hlf, hrf]
  by_cases hlink : portLink s n l < 3
  · exact finish_of_pos hlink
  · exact congrArg (finish s) ((if_neg hlink).trans (if_neg hother))

theorem faultSetRx_maps (hlink : 3 ≤ portLink s n l) (hclear : isTransparent s n l = true) :
    execFaultOrderedSetRx n l d s = .next (settled s (receivedSet (faultShown s n l d.toNat) n l (256 * d.toNat))) :=
  congrArg (finish s) ((if_neg (Nat.not_lt.2 hlink)).trans ((if_pos (.inl hclear)).trans (if_pos hclear)))

end

/-! ### The absence of faults (R258) -/

theorem faultClear_maps (hlink : portLink s n l ≠ 4) (hclear : isTransparent s n l = true) :
    execFaultClearTimeout n l s = .next (settled s (receivedSet
      (putB (putB s (F.CMC_PORT_STATUS_rx_lf n l) false) (F.CMC_PORT_STATUS_rx_rf n l) false) n l 0)) :=
  congrArg (finish s) ((if_neg hlink).trans (if_pos hclear))

theorem faultClear_past (hlink : portLink s n l ≠ 4) (hclear : isTransparent s n l = false) :
    execFaultClearTimeout n l s = .next (settled s s) :=
  congrArg (finish s) ((if_neg hlink).trans (if_neg (Bool.eq_false_iff.1 hclear)))

end

/-- Settles O57, from the conditions of each event: where they hold it does its change, elsewhere nothing. -/
theorem clientLinks : Obligations.ClientLinks := by
  unfold Obligations.ClientLinks
  intro s n l p snr d link paused broken shown clear
  exact ⟨signalDetect_adapts, signalDetect_past,
    fun h => finish_of_pos h, fun h => finish_of_neg h,
    fun h => finish_of_pos h, fun h => finish_of_neg h,
    fun h => finish_of_pos h, fun h => finish_of_neg (Nat.not_le.2 h),
    fun h => finish_of_pos h, fun h => finish_of_neg (not_not.2 h),
    fun h => finish_of_pos h, fun hlink hclear hd heth => faultSetRx_answers hlink heth hclear hd, faultSetRx_ignored, faultSetRx_maps,
    fun v os => rfl,
    fun h => finish_of_pos h, faultClear_maps, faultClear_past,
    rfl, fun h => finish_of_pos h, fun h => finish_of_neg (Bool.eq_false_iff.1 h), rfl, rfl⟩

end Sys2Proof.Machine
end

section
/-!
SUPPORT. The client ports' frames (R254 to R257, R260, R261): one equation per case of each command, and the statement about them.
-/
namespace Sys2Proof.Machine
open Sys2Proof

/-! ### Received Ethernet frames (R260) -/

section
variable {s : State} {n l : Nat} {bs : List Byte}

/-- A received frame is counted, whatever becomes of it: its octets, and its size where that is valid. -/
def rxSized (s : State) (n l : Nat) (bs : List Byte) : State :=
  sizeAdd (statAdd s n l 2 (min bs.length (get s (F.CMC_PORT_MAC_maxlen n l) + 1))) n l 11 (get s (F.CMC_PORT_MAC_maxlen n l)) bs.length

theorem frameRx_pcs : frameRx s n l bs true = statAdd (cmcDiscard (rxSized s n l bs) n l 4) n l 10 1 := rfl

theorem frameRx_runt (h : bs.length < 64) : frameRx s n l bs false = statAdd (cmcDiscard (rxSized s n l bs) n l 1) n l 8 1 :=
  if_pos h

theorem frameRx_oversize (hmin : 64 ≤ bs.length) (h : get s (F.CMC_PORT_MAC_maxlen n l) < bs.length) :
    frameRx s n l bs false = statAdd (cmcDiscard (rxSized s n l bs) n l 2) n l 9 1 :=
  (if_neg (Nat.not_lt.2 hmin)).trans (if_pos h)

/-- The last four bytes of a frame are its FCS. -/
def fcsGood (bs : List Byte) : Bool := decide (beNat (bs.drop (bs.length - 4)).reverse = fcs (bs.take (bs.length - 4)))

section
variable (hlegal : 64 ≤ bs.length ∧ bs.length ≤ get s (F.CMC_PORT_MAC_maxlen n l))
include hlegal

theorem frameRx_badFcs (hfcs : fcsGood bs = false) : frameRx s n l bs false = statAdd (cmcDiscard (rxSized s n l bs) n l 3) n l 7 1 := by
  obtain ⟨hmin, hmax⟩ := hlegal
  refine (if_neg (Nat.not_lt.2 hmin)).trans ((if_neg (Nat.not_lt.2 hmax)).trans (if_pos ?_))
  exact congrArg not hfcs

/-- A frame without a fault is taken by the port, or counted and sent into its pipeline. -/
theorem frameRx_good (hfcs : fcsGood bs = true) : frameRx s n l bs false =
    if be bs 12 2 = 0x8808 then macControlRx (statAdd (rxSized s n l bs) n l 6 1) n l bs
    else
      let v := monIn (statAdd (statAdd (statAdd (rxSized s n l bs) n l 0 1) n l 1 bs.length) n l (3 + castOf bs) 1) n 0x20
        [(1, 32 * n + l)] bs.length
      ingress v n {
        bytes := bs.take (bs.length - 4), src := 0, port := l, pipe := l / 8,
        ing := { kind := 0, id := 32 * n + l, raw := clientRxRaw v (32 * n + l), tc := getB v (F.TSU_PORT_CFG_tc_en (32 * n + l)) } } := by
  obtain ⟨hmin, hmax⟩ := hlegal
  refine (if_neg (Nat.not_lt.2 hmin)).trans ((if_neg (Nat.not_lt.2 hmax)).trans (if_neg ?_))
  exact ne_true_of_eq_false (congrArg not hfcs)

end
end

section
variable {s : State} {n : PktRegion} {l : Fin 32} {bs : List Byte} {pcs : Bool} {corr uncorr : Nat}

/-- The port has counted the FEC codewords of what it receives. -/
def fecCounted (s : State) (n l corr uncorr : Nat) : State := statAdd (statAdd s n l 21 corr) n l 22 uncorr

theorem clientFrameRx_ignored (h : ¬(portLink s n l = 3 ∧ lanesRun s n = true) ∨ isEth s n l = false) :
    execClientFrameRx n l bs pcs corr uncorr s = .next (settled s s) := by
  refine finish_of_neg fun hc => ?_
  simp only [Bool.and_eq_true, decide_eq_true_eq] at hc
  obtain ⟨⟨heth, hlink⟩, hrun⟩ := hc
  exact h.elim (· ⟨hlink, hrun⟩) (Bool.eq_false_iff.1 · heth)

section
variable (heth : isEth s n l = true) (hup : portLink s n l = 3 ∧ lanesRun s n = true)
include heth hup

theorem clientFrameRx_counted : execClientFrameRx n l bs pcs corr uncorr s =
    let t := fecCounted s n l corr uncorr
    finish s (if portQuiesced t n l || bit t.epc.quiesced.regions n then inc t F.EPC_QDROP_count
      else frameRx t n l bs (pcs || decide (uncorr ≠ 0))) := by
  obtain ⟨hlink, hrun⟩ := hup
  exact congrArg (finish s) (if_pos (by rw [heth, hrun, decide_eq_true hlink]; rfl))

theorem clientFrameRx_quiesced (hq : portQuiesced (fecCounted s n l corr uncorr) n l = true ∨
      bit (fecCounted s n l corr uncorr).epc.quiesced.regions n = true) :
    execClientFrameRx n l bs pcs corr uncorr s = .next (settled s (inc (fecCounted s n l corr uncorr) F.EPC_QDROP_count)) :=
  (clientFrameRx_counted heth hup).trans (finish_of_pos (Bool.or_eq_true_iff.2 hq))

variable (hport : portQuiesced (fecCounted s n l corr uncorr) n l = false)
  (hregion : bit (fecCounted s n l corr uncorr).epc.quiesced.regions n = false)
include hport hregion

theorem clientFrameRx_taken {err : Bool} {t : State} (herr : (pcs || decide (uncorr ≠ 0)) = err)
    (ht : frameRx (fecCounted s n l corr uncorr) n l bs err = t) :
    execClientFrameRx n l bs pcs corr uncorr s = .next (settled s t) := by
  subst herr ht
  exact (clientFrameRx_counted heth hup).trans (finish_of_neg (by simp [hport, hregion]))

end
end

/-! ### Transmitted Ethernet frames (R261) -/

section
variable {s : State} {n : PktRegion} {l : Fin 32}

theorem clientFrameTx_idle (h : (portSt s n l).tx = none) : execClientFrameTx n l s = .next (settled s s) := by
  rw [execClientFrameTx, h]
  rfl

variable {f : QFrame} {bs : List Byte} (htx : (portSt s n l).tx = some (f, bs))
include htx

theorem clientFrameTx_waits (h : portQuiesced s n l = true ∨ isEth s n l = false ∨ regionStopped s n = true) :
    execClientFrameTx n l s = .next (settled s s) := by
  rw [execClientFrameTx, htx]
  exact finish_of_pos (by simpa using h)

theorem clientFrameTx_taken (hq : portQuiesced s n l = false) (heth : isEth s n l = true) (hrun : regionStopped s n = false)
    {t : State} (ht : frameTx (modPort s n l (fun p => { p with tx := none })) n l f bs = t) :
    execClientFrameTx n l s = .next (settled s t) := by
  rw [execClientFrameTx, htx, ← ht]
  exact finish_of_neg (by simp [hq, heth, hrun])

end

theorem tcCorrect_unstamped {s : State} {g : Ingress} {tc : Bool} {x : Nat} {bs : List Byte} (h : g.ptp = none) :
    tcCorrect s g tc x bs = (s, bs) := by
  rw [tcCorrect, h]

theorem padTo_of_le {k : Nat} {bs : List Byte} (h : k ≤ bs.length) : padTo k bs = bs := by
  simp [padTo, Nat.sub_eq_zero_of_le h]

section
variable {s : State} {n l : Nat} {f : QFrame} {bs : List Byte}

theorem frameTx_short (hlen : bs.length < 60) (hpad : getB s (F.CMC_PORT_MAC_pad_en n l) = false) :
    frameTx s n l f bs = txLost s n l f bs 0x06 30 :=
  if_pos ⟨hlen, congrArg not hpad⟩

section
variable (hlen : 60 ≤ bs.length)
include hlen

theorem frameTx_long (hmax : get s (F.CMC_PORT_MAC_maxlen n l) < bs.length + 4) :
    frameTx s n l f bs = txLost s n l f bs 0x05 29 := by
  rw [frameTx, if_neg (fun h => Nat.not_lt.2 hlen h.1), padTo_of_le hlen]
  exact if_pos hmax

variable (hmax : bs.length + 4 ≤ get s (F.CMC_PORT_MAC_maxlen n l))
include hmax

theorem frameTx_unlinked (hlink : portLink s n l ≠ 3) : frameTx s n l f bs = txLost s n l f bs 0x07 32 := by
  rw [frameTx, if_neg (fun h => Nat.not_lt.2 hlen h.1), padTo_of_le hlen]
  exact (if_neg (Nat.not_lt.2 hmax)).trans (if_pos hlink)

/-- A plain frame, with no PTP header, timestamp or fate to tell, leaves with its FCS. -/
theorem frameTx_sent (hlink : portLink s n l = 3) (herr : f.errored = false) (hts : f.ts = false) (hptp : f.ing.ptp = none)
    (hfate : f.tx = none) : frameTx s n l f bs =
      let v := statAdd (statAdd (statAdd (emit s (.clientFrame n l (withFcs bs false) false)) n l 23 1) n l 24 (bs.length + 4)) n l
        (25 + castOf bs) 1
      let w := monOut (statAdd v n l (33 + sizeBucket (bs.length + 4)) 1) n 0x20 [(1, 32 * n + l)] (bs.length + 4)
      fate w none 0 (some (descTime w (clientTxRaw s (32 * n + l)))) := by
  rw [frameTx, if_neg (fun h => Nat.not_lt.2 hlen h.1), padTo_of_le hlen]
  refine (if_neg (Nat.not_lt.2 hmax)).trans ((if_neg (not_not.2 hlink)).trans ?_)
  simp only [tcCorrect_unstamped hptp, herr, hts, hfate, if_false, Bool.false_eq_true]

end
end

/-! ### What a transparent port receives (R256) -/

section
variable {s : State} {n : PktRegion} {l : Fin 32} {bs : List Byte} {e : LaneErr}

section
variable (hclear : isTransparent s n l = true) (hup : portLink s n l = 3 ∧ lanesRun s n = true)
include hclear hup

theorem transparentFrameRx_counted : execTransparentFrameRx n l bs e s =
    let t := fecCounted s n l e.corr e.uncorr
    finish s (if portQuiesced t n l then inc t F.EPC_QDROP_count else transparentRx t n l bs (e.pcs || decide (e.uncorr ≠ 0))) := by
  obtain ⟨hlink, hrun⟩ := hup
  exact congrArg (finish s) (if_pos (by rw [hclear, hrun, decide_eq_true hlink]; rfl))

theorem transparentFrameRx_maps (hq : portQuiesced (fecCounted s n l e.corr e.uncorr) n l = false) :
    execTransparentFrameRx n l bs e s =
      .next (settled s (transparentRx (fecCounted s n l e.corr e.uncorr) n l bs (e.pcs || decide (e.uncorr ≠ 0)))) :=
  (transparentFrameRx_counted hclear hup).trans (finish_of_neg (Bool.eq_false_iff.1 hq))

theorem transparentFrameRx_quiesced (hq : portQuiesced (fecCounted s n l e.corr e.uncorr) n l = true) :
    execTransparentFrameRx n l bs e s = .next (settled s (inc (fecCounted s n l e.corr e.uncorr) F.EPC_QDROP_count)) :=
  (transparentFrameRx_counted hclear hup).trans (finish_of_pos hq)

end

theorem orderedSetRepeat_maps (hclear : isTransparent s n l = true) (hset : (portSt s n l).osRx ≠ 0) :
    execOrderedSetRepeat n l s = .next (settled s (mapOrderedSet s n l)) :=
  finish_of_pos (by rw [hclear, decide_eq_true hset]; rfl)

theorem transparentOnly (h : isTransparent s n l = false) : execTransparentFrameRx n l bs e s = .next (settled s s) ∧
    execOrderedSetRepeat n l s = .next (settled s s) ∧ execDemapRecord n l s = .next (settled s s) :=
  ⟨finish_of_neg (by simp [h]), finish_of_neg (by simp [h]), finish_of_neg (by simp [h])⟩

end

/-! ### What a transparent port demaps (R257) -/

section
variable {s : State} {n l : Nat}

/-- The bytes of a port's downstream stream that have not been demapped. -/
def demapBytes (s : State) (n l : Nat) : List Byte := (portSt s n l).demap.map (fun e => e.1)

/-- The demapper is past the next `k` bytes of its stream. -/
def demapPast (s : State) (n l k : Nat) : State := modPort s n l (fun p => { p with demap := (portSt s n l).demap.drop k })

/-- A frame record with the header after it leaves the stream whole, and its frame goes out unless the port or the lane keeps it. -/
def demapFrameRecord (s : State) (n l : Nat) : State :=
  let h := demapBytes s n l
  let past := demapPast s n l (8 + recLen h)
  if portQuiesced s n l then inc past F.EPC_QDROP_count
  else if !laneDrives s n l then past
  else demapFrame past n l ((h.drop 8).take (recLen h)) (bit (be h 0 7) 38)
    (((portSt s n l).demap.take (8 + recLen h)).any (fun e => e.2) || !hdrGood8 (h.drop (8 + recLen h)))

theorem demap_short (h : (portSt s n l).demap.length < 8) : demap s n l = s := if_pos (by rwa [List.length_map])

section
variable (hgood : hdrGood8 (demapBytes s n l) = true)
include hgood

/-- Behind a good header the record's kind decides. -/
theorem demap_headed : demap s n l =
    let h := demapBytes s n l
    let os := be h 0 7 % 2 ^ 32
    if recKind h = 1 then
      if (h.drop (8 + recLen h)).length < 8 then s else demapFrameRecord s n l
    else if recKind h = 2 then emitSet (modPort (demapPast s n l 8) n l (fun p => { p with osTx := os })) n l os
    else demapPast s n l 8 := by
  have hlen : ¬ (demapBytes s n l).length < 8 := by
    simp only [hdrGood8, Bool.and_eq_true, decide_eq_true_eq] at hgood
    exact Nat.not_lt.2 hgood.1
  exact (if_neg hlen).trans (if_neg (ne_true_of_eq_false (congrArg not hgood)))

theorem demap_orderedSet (hkind : recKind (demapBytes s n l) = 2) : demap s n l =
    let os := be (demapBytes s n l) 0 7 % 2 ^ 32
    emitSet (modPort (demapPast s n l 8) n l (fun p => { p with osTx := os })) n l os :=
  (demap_headed hgood).trans ((if_neg (by simp [hkind])).trans (if_pos hkind))

theorem demap_otherKind (hframe : recKind (demapBytes s n l) ≠ 1) (hset : recKind (demapBytes s n l) ≠ 2) :
    demap s n l = demapPast s n l 8 :=
  (demap_headed hgood).trans ((if_neg hframe).trans (if_neg hset))

section
variable (hkind : recKind (demapBytes s n l) = 1)
include hkind

theorem demap_incomplete (h : (demapBytes s n l).length < 8 + recLen (demapBytes s n l) + 8) : demap s n l = s :=
  (demap_headed hgood).trans ((if_pos hkind).trans (if_pos (by rw [List.length_drop]; omega)))

variable (hnext : 8 + recLen (demapBytes s n l) + 8 ≤ (demapBytes s n l).length)
include hnext

theorem demap_frame : demap s n l = demapFrameRecord s n l :=
  (demap_headed hgood).trans ((if_pos hkind).trans (if_neg (by rw [List.length_drop]; omega)))

theorem demap_quiesced (hq : portQuiesced s n l = true) :
    demap s n l = inc (demapPast s n l (8 + recLen (demapBytes s n l))) F.EPC_QDROP_count :=
  (demap_frame hgood hkind hnext).trans (if_pos hq)

theorem demap_undriven (hq : portQuiesced s n l = false) (hd : laneDrives s n l = false) :
    demap s n l = demapPast s n l (8 + recLen (demapBytes s n l)) :=
  (demap_frame hgood hkind hnext).trans ((if_neg (Bool.eq_false_iff.1 hq)).trans (if_pos (congrArg not hd)))

theorem demap_transmits (hq : portQuiesced s n l = false) (hd : laneDrives s n l = true) : demap s n l =
    let h := demapBytes s n l
    demapFrame (demapPast s n l (8 + recLen h)) n l ((h.drop 8).take (recLen h)) (bit (be h 0 7) 38)
      (((portSt s n l).demap.take (8 + recLen h)).any (fun e => e.2) || !hdrGood8 (h.drop (8 + recLen h))) :=
  (demap_frame hgood hkind hnext).trans
    ((if_neg (Bool.eq_false_iff.1 hq)).trans (if_neg (ne_true_of_eq_false (congrArg not hd))))

end
end
end

theorem demapRecord_stopped {s : State} {n : PktRegion} {l : Fin 32} (hstop : regionStopped s n = true) :
    execDemapRecord n l s = .next (settled s s) :=
  finish_of_neg (by simp [hstop])

section
variable {s : State} {n : PktRegion} {l : Fin 32} (hclear : isTransparent s n l = true)
include hclear

theorem demapRecord_runs (hrun : regionStopped s n = false) {t : State} (ht : demap s n l = t) :
    execDemapRecord n l s = .next (settled s t) :=
  ht ▸ finish_of_pos (by simp [hclear, hrun])

theorem demapRecord_short (h : (portSt s n l).demap.length < 8) : execDemapRecord n l s = .next (settled s s) := by
  cases hstop : regionStopped s n with
  | false => exact demapRecord_runs hclear hstop (demap_short h)
  | true => exact demapRecord_stopped hstop

end

/-- Settles O58, from the conditions of each command and what becomes of a frame in each of its cases. -/
theorem clientFrames : Obligations.ClientFrames := by
  unfold Obligations.ClientFrames
  intro s n l bs pcs corr uncorr f fb up t c sized good legal sent
  refine ⟨clientFrameRx_ignored, clientFrameRx_quiesced, fun heth hup hq hr => ?_, clientFrameTx_idle, clientFrameTx_waits,
    fun htx hq he hr hlen hpad => clientFrameTx_taken htx hq he hr (frameTx_short hlen hpad),
    fun htx hq he hr hlen hmax => clientFrameTx_taken htx hq he hr (frameTx_long hlen hmax),
    fun htx hq he hr hlen hmax hlink => clientFrameTx_taken htx hq he hr (frameTx_unlinked hlen hmax hlink),
    fun htx hq he hr hlen hmax hlink herr hts hptp hfate => clientFrameTx_taken htx hq he hr (frameTx_sent hlen hmax hlink herr hts hptp hfate),
    transparentFrameRx_maps (e := ⟨pcs, corr, uncorr⟩), transparentFrameRx_quiesced (e := ⟨pcs, corr, uncorr⟩), transparentOnly,
    orderedSetRepeat_maps, demapRecord_short, fun _ => demapRecord_stopped, fun hclear hrun => ?_,
    fun h => finish_of_pos h, fun h => finish_of_neg h⟩
  · have hhurt (h : pcs = true ∨ uncorr ≠ 0) : (pcs || decide (uncorr ≠ 0)) = true := by simpa using h
    have hwhole (hp : pcs = false) (hu : uncorr = 0) : (pcs || decide (uncorr ≠ 0)) = false := by simp [hp, hu]
    have hrx {err : Bool} {v : State} : (pcs || decide (uncorr ≠ 0)) = err → frameRx t n l bs err = v →
        execClientFrameRx n l bs pcs corr uncorr s = .next (settled s v) :=
      clientFrameRx_taken heth hup hq hr
    exact ⟨fun h => hrx (hhurt h) frameRx_pcs, fun hp hu hlen => hrx (hwhole hp hu) (frameRx_runt hlen),
      fun hp hu hmin hmax => hrx (hwhole hp hu) (frameRx_oversize hmin hmax),
      fun hp hu hl hg => hrx (hwhole hp hu) (frameRx_badFcs hl (decide_eq_false hg)),
      fun hp hu hl hg hm => hrx (hwhole hp hu) ((frameRx_good hl (decide_eq_true hg)).trans (if_pos hm)),
      fun hp hu hl hg hm => hrx (hwhole hp hu) ((frameRx_good hl (decide_eq_true hg)).trans (if_neg hm))⟩
  · intro st h os k past hgood
    have hrec {v : State} : demap s n l = v → execDemapRecord n l s = .next (settled s v) := demapRecord_runs hclear hrun
    exact ⟨fun hk => hrec (demap_orderedSet hgood hk), fun hk hn => hrec (demap_incomplete hgood hk hn),
      fun hk hn hq => hrec (demap_quiesced hgood hk hn hq), fun hk hn hq hd => hrec (demap_undriven hgood hk hn hq hd),
      fun hk hn hq hd => hrec (demap_transmits hgood hk hn hq hd), fun h1 h2 => hrec (demap_otherKind hgood h1 h2)⟩

end Sys2Proof.Machine
end

section
/-!
SUPPORT. A clock of a packet region's tier-0 arbiter in which no request waits (R330), and the statement about the region's services.
-/
namespace Sys2Proof.Machine
open Sys2Proof

/-- With no request waiting, the clock takes nothing from the region's store, but writes it back as it read it. -/
theorem retryClock_nil {s : State} {n : Nat} (h : (pkt s n).bpm.retry = []) : retryClock s n = modPkt s n id := by
  have hstore : { pkt s n with bpm := { (pkt s n).bpm with retry := [] } } = pkt s n := by rw [← h]
  have hwrite : modBpm s n (fun p => { p with retry := [] }) = modPkt s n id :=
    congrArg (fun x => { s with pkt := Tab.set s.pkt n x }) hstore
  simp [retryClock, h, hwrite]

theorem allocRetry_idle {s : State} {n : PktRegion} (hrun : regionStopped s n = false) (h : (pkt s n).bpm.retry = []) :
    exec (.allocRetry n) s = .next (settled s (modPkt s n id)) :=
  congrArg (finish s) ((if_neg (Bool.eq_false_iff.1 hrun)).trans (retryClock_nil h))

/-- After that clock the table of the regions' stores lists the region, whether or not it did before. -/
theorem allocRetry_idle_pkt {s t : State} {n : PktRegion} (hrun : regionStopped s n = false) (h : (pkt s n).bpm.retry = [])
    (ht : exec (.allocRetry n) s = .next t) : Tab.find t.pkt n = some (pkt s n) := by
  obtain rfl : settled s (modPkt s n id) = t := Host.Outcome.next.inj ((allocRetry_idle hrun h).symm.trans ht)
  rw [settled, settle_pkt]
  exact Tab.find_set_same s.pkt n (pkt s n)

/-- The state after reset with packet region 0 awake; the region's store is at its default, so the table of stores does not list it. -/
def freshlyAwake : State := put State.reset (F.PWR_D_STATE_state 0) 0

theorem freshlyAwake_runs : regionStopped freshlyAwake 0 = false := by decide +kernel

theorem freshlyAwake_pkt : freshlyAwake.pkt = [] := put_pkt State.reset (F.PWR_D_STATE_state 0) 0

theorem freshlyAwake_retry : (pkt freshlyAwake 0).bpm.retry = [] := by
  rw [pkt, freshlyAwake_pkt]
  rfl

/-- Refutes O60: the statement has ALLOC_RETRY leave a region's state as it is when no request waits, also where the region works. The clock
of the arbiter writes the region's store back, so in a state that does not list the store (`freshlyAwake`) it lists it at its default, and the
two states differ. -/
theorem not_packetServices : ¬ Obligations.PacketServices := by
  intro h
  obtain ⟨-, -, -, hidle, -⟩ := h freshlyAwake .warden 0 0 0 ⟨0, 0, false⟩ false false 0 0 0 0
    { since := 0, who := 0, queue := 0, frame := { bid := 0, len := 0 }, bytes := [] } ⟨{}, 0⟩
    { parent := none, kind := 0, level := 0, weighted := false, rank := 0, weight := 1, shaper := none, target := 0 }
  have hlisted := allocRetry_idle_pkt freshlyAwake_runs freshlyAwake_retry (hidle freshlyAwake_retry)
  have hunlisted : (settled freshlyAwake freshlyAwake).pkt = [] := (settle_pkt _).trans freshlyAwake_pkt
  rw [hunlisted] at hlisted
  exact Option.some_ne_none _ hlisted.symm

end Sys2Proof.Machine
end

section
/-!
SUPPORT. The steps of a packet region's entry and exit, its pads and the training of its memories (R336, R411, R416 to R419), and the
statement about them.
-/
namespace Sys2Proof.Machine
open Sys2Proof

section
variable {s : State} {n : Nat}

/-! ### Entry (R416, R417) -/

/-- The step that follows the running entry step: an entry into IDLE goes from E1 to E3. -/
def nextEntry (s : State) (n : Nat) : Nat := if get s (F.PWR_D_STATE_target n) = 1 then 3 else regionStep s n + 1

theorem nextEntry_deep (ht : get s (F.PWR_D_STATE_target n) ≠ 1) : nextEntry s n = regionStep s n + 1 := if_neg ht

theorem nextEntry_first (hk : regionStep s n = 1) : nextEntry s n = if get s (F.PWR_D_STATE_target n) = 1 then 3 else 2 := by
  rw [nextEntry, hk]

/-- Whether the end of the running step ends the entry: E3 of an entry into IDLE, E5 of any other. -/
def EntryEnds (s : State) (n : Nat) : Prop := regionStep s n = 5 ∨ (get s (F.PWR_D_STATE_target n) = 1 ∧ regionStep s n = 3)

theorem not_entryEnds_first (hk : regionStep s n = 1) : ¬ EntryEnds s n := by
  rw [EntryEnds]
  omega

theorem not_entryEnds_deep (hk : regionStep s n ≤ 4) (ht : get s (F.PWR_D_STATE_target n) ≠ 1) : ¬ EntryEnds s n := by
  rw [EntryEnds]
  omega

/-- Whether the running step is E1 and has not drained. -/
def E1Holds (s : State) (n : Nat) : Prop := regionStep s n = 1 ∧ (pipesHold s n ∨ (pkt s n).bpm.want ≠ [])

theorem not_e1Holds_later (hk : regionStep s n ≠ 1) : ¬ E1Holds s n := fun h => hk h.1

theorem not_e1Holds_drained (hpipes : pipesHold s n = false) (hwant : (pkt s n).bpm.want = []) : ¬ E1Holds s n := by
  simp [E1Holds, hpipes, hwant]

theorem inEntry_of_step (hbusy : regionBusy s n = true) (hlo : 1 ≤ regionStep s n) (hhi : regionStep s n ≤ 5) :
    ¬ (!regionBusy s n || decide (regionStep s n = 0) || decide (5 < regionStep s n)) = true := by
  simp [hbusy, Nat.one_le_iff_ne_zero.1 hlo, hhi]

theorem entryDone_undrained (hbusy : regionBusy s n = true) (h : E1Holds s n) : entryDone s n = s :=
  (if_neg (inEntry_of_step hbusy h.1.ge (h.1.le.trans (by decide)))).trans (if_pos h)

theorem entryDone_drained (hbusy : regionBusy s n = true) (hlo : 1 ≤ regionStep s n) (hhi : regionStep s n ≤ 5) (h : ¬ E1Holds s n) :
    entryDone s n =
      if regionStep s n = 5 ∨ (get s (F.PWR_D_STATE_target n) = 1 ∧ regionStep s n = 3) then
        (if get s (F.PWR_D_STATE_target n) = 1 ∧ (regionPwr s n).wake then entryUndo s n pwrAborted (regionStep s n) else entryEnd s n)
      else if (regionPwr s n).wake then entryUndo s n pwrAborted (nextEntry s n)
      else entryStep s n (nextEntry s n) :=
  (if_neg (inEntry_of_step hbusy hlo hhi)).trans (if_neg h)

/-- A drained step that does not end the entry begins the next, or with a wake undoes the entry. -/
theorem entryDone_goes_on (hbusy : regionBusy s n = true) (hlo : 1 ≤ regionStep s n) (hhi : regionStep s n ≤ 5) (h : ¬ E1Holds s n)
    (hend : ¬ EntryEnds s n) :
    ((regionPwr s n).wake = false → entryDone s n = entryStep s n (nextEntry s n)) ∧
    ((regionPwr s n).wake = true → entryDone s n = entryUndo s n 3 (nextEntry s n)) := by
  have hdone := (entryDone_drained hbusy hlo hhi h).trans (if_neg hend)
  exact ⟨fun hwake => hdone.trans (if_neg (Bool.eq_false_iff.1 hwake)), fun hwake => hdone.trans (if_pos hwake)⟩

theorem entryDone_idle (hbusy : regionBusy s n = true) (hk : regionStep s n = 3) (ht : get s (F.PWR_D_STATE_target n) = 1) :
    ((regionPwr s n).wake = false → entryDone s n = entryEnd s n) ∧
    ((regionPwr s n).wake = true → entryDone s n = entryUndo s n 3 3) := by
  have hdone := (entryDone_drained hbusy (by omega) (by omega) (not_e1Holds_later (by omega))).trans (if_pos (.inr ⟨ht, hk⟩))
  rw [hk] at hdone
  exact ⟨fun hwake => hdone.trans (if_neg fun h => Bool.eq_false_iff.1 hwake h.2), fun hwake => hdone.trans (if_pos ⟨ht, hwake⟩)⟩

theorem entryDone_last (hbusy : regionBusy s n = true) (hk : regionStep s n = 5) (ht : get s (F.PWR_D_STATE_target n) ≠ 1) :
    entryDone s n = entryEnd s n :=
  ((entryDone_drained hbusy (by omega) hk.le (not_e1Holds_later (by omega))).trans (if_pos (.inl hk))).trans (if_neg fun h => ht h.1)

/-! ### Exit (R418) -/

section
variable {kind : ExitKind} {k : Nat}

theorem exitDone_ramped (hexit : (regionPwr s n).exit = some (kind, 1)) (hramp : ramps s (regionRamp n) = true) :
    exitDone s n = modRegionPwr (tokenRelease s (regionRamp n)) n (fun p => { p with exit := some (kind, nextExit kind 1) }) := by
  simp [exitDone, hexit, hramp]

theorem exitDone_last (hexit : (regionPwr s n).exit = some (kind, 5)) : exitDone s n = exitEnd s n kind := by
  simp [exitDone, hexit]

theorem exitDone_between (hexit : (regionPwr s n).exit = some (kind, k)) (hlo : 2 ≤ k) (h3 : k ≠ 3) (h5 : k ≠ 5) :
    exitDone s n = modRegionPwr s n (fun p => { p with exit := some (kind, nextExit kind k) }) := by
  have h1 : k ≠ 1 := by omega
  simp [exitDone, hexit, h1, h3, h5]

end

/-! ### Pads (R419) -/

theorem releasePads_latched (hon : regionState s n = 0) (hpads : getB s (F.PWR_D_STATE_pads n) = true) :
    releasePads s n = sendStandings (portsDown (putB s (F.PWR_D_STATE_pads n) false) n) n := if_pos ⟨hon, hpads⟩

theorem releasePads_of_none (h : regionState s n ≠ 0 ∨ getB s (F.PWR_D_STATE_pads n) = false) : releasePads s n = s :=
  if_neg fun ⟨hon, hpads⟩ => h.elim (· hon) fun hoff => Bool.eq_false_iff.1 hoff hpads

/-! ### Memory training (R336, R411) -/

section
variable {d : List (Option Dimm)}

theorem memoryTraining_trained (h : getB s (F.MEM_STATUS_hbm_ready n) = true) : memoryTraining s n d = s := if_pos h

theorem memoryTraining_in_exit (h : getB s (F.MEM_STATUS_hbm_ready n) = false) (hexit : (regionPwr s n).exit = some (.fromOff, 3)) :
    memoryTraining s n d = memTrained s n d :=
  (if_neg (Bool.eq_false_iff.1 h)).trans (if_pos (decide_eq_true hexit))

theorem memoryTraining_outside_exit (h : getB s (F.MEM_STATUS_hbm_ready n) = false) (hexit : (regionPwr s n).exit ≠ some (.fromOff, 3)) :
    memoryTraining s n d =
      if regionState s n = 0 then
        let u := memTrained s n d
        let t := if bit u.pwr.initTaken n then 0 else Tab.getD u.bank.pwrInit n 0
        let v := put (put { u with pwr := { u.pwr with initTaken := setBits u.pwr.initTaken n 1 1 } } (F.PWR_D_STATE_state n) t)
          (F.PWR_D_STATE_target n) t
        let w := if 2 ≤ t then putB v (F.PWR_D_STATE_pads n) true else v
        if t = 3 then packetReset w n true else w
      else s :=
  (if_neg (Bool.eq_false_iff.1 h)).trans (if_neg (by simp [hexit]))

end
end

/-- Settles O36, from what the end of each step, a write and the training do in each of their cases. -/
theorem powerSteps : Obligations.PowerSteps := by
  unfold Obligations.PowerSteps
  intro s r n d
  refine ⟨fun hbusy hlo hhi ht => ?_, fun hbusy hk h => congrArg (finish s) ?_, fun hbusy hk hpipes hwant => ?_,
    fun hbusy hk ht => ?_, fun hbusy hk ht => congrArg (finish s) ?_, fun hbusy hk => ?_,
    fun kind k hexit hlo h3 h5 => congrArg (finish s) ?_, fun kind hexit hramp => congrArg (finish s) ?_,
    fun kind hexit => congrArg (finish s) ?_, fun hr hon hpads => congrArg (finish s) ?_, fun hr h => congrArg (finish s) ?_,
    fun h hexit => congrArg (finish s) ?_, fun h hexit hon => congrArg (finish s) ?_, fun h hexit hoff => congrArg (finish s) ?_,
    fun h => congrArg (finish s) ?_⟩
  · have hgo := entryDone_goes_on hbusy (by omega) (by omega) (not_e1Holds_later (by omega)) (not_entryEnds_deep hhi ht)
    rw [nextEntry_deep ht] at hgo
    exact hgo.imp (congrArg (finish s) ∘ ·) (congrArg (finish s) ∘ ·)
  · exact entryDone_undrained hbusy ⟨hk, h⟩
  · have hgo := entryDone_goes_on hbusy hk.ge (by omega) (not_e1Holds_drained hpipes hwant) (not_entryEnds_first hk)
    rw [nextEntry_first hk] at hgo
    exact hgo.imp (congrArg (finish s) ∘ ·) (congrArg (finish s) ∘ ·)
  · exact (entryDone_idle hbusy hk ht).imp (congrArg (finish s) ∘ ·) (congrArg (finish s) ∘ ·)
  · exact entryDone_last hbusy hk ht
  · exact finish_of_pos (by simp [hbusy, hk])
  · exact exitDone_between hexit hlo h3 h5
  · exact exitDone_ramped hexit hramp
  · exact exitDone_last hexit
  · exact (onWrite_of_reaches _ hr).trans (releasePads_latched hon hpads)
  · exact (onWrite_of_reaches _ hr).trans (releasePads_of_none h)
  · exact memoryTraining_in_exit h hexit
  · exact (memoryTraining_outside_exit h hexit).trans (if_pos hon)
  · exact (memoryTraining_outside_exit h hexit).trans (if_neg hoff)
  · exact memoryTraining_trained h

end Sys2Proof.Machine
end

section
/-!
SUPPORT. Fault reports, the retry of a lane and the patrol scrub, one equation per case (R337, R338, R451, R452, R454, R457, R462), and the
statement about them.
-/
namespace Sys2Proof.Machine
open Sys2Proof

section
variable {s : State} {region kind block cell : Nat}

/-! ### Reports (R451, R462) -/

theorem faultReport_contained : faultReport s region 1 block cell = contained s region block cell := rfl

theorem faultReport_general (hk : kind = 2 ∨ kind = 3 ∨ kind = 4) :
    faultReport s region kind block cell = faultReport.regionReport s region kind block cell := by
  rcases hk with rfl | rfl | rfl <;> rfl

theorem faultReport_lane (h : cell < 128) : faultReport s 4 5 block cell = scopeLane s cell :=
  (if_neg (by decide)).trans ((if_pos rfl).trans (if_pos ⟨rfl, h⟩))

theorem faultReport_scope_elsewhere (h : region ≠ 4) :
    faultReport s region 5 block cell = faultReport.regionReport s region 5 block cell :=
  (if_neg (by decide)).trans ((if_pos rfl).trans (if_neg fun hline => h hline.1))

theorem faultReport_die_link (h : region < 4) : faultReport s region 6 block cell = linkFault s region block cell := if_pos h

theorem faultReport_other_link (h : 4 ≤ region) :
    faultReport s region 6 block cell = fltRecord s F.FLT_EVENT_region_fault .crimson region 6 block cell := if_neg (Nat.not_lt.2 h)

theorem faultReport_aon :
    faultReport s region 8 block cell = safeEnter (fltRecord s F.FLT_EVENT_region_fault .black 6 8 block cell) 4 := by
  simp [faultReport, fltContained, fltScope, fltLink, fltStartup, fltAon]

theorem regionReport_region (h : region ≤ 5) : faultReport.regionReport s region kind block cell = regionFault s region kind block cell :=
  if_neg (Nat.not_lt.2 h)

theorem regionReport_aon :
    faultReport.regionReport s 6 kind block cell = fltRecord s F.FLT_EVENT_region_fault .crimson 6 kind block cell := rfl

/-- What is only recorded: a report of the AON, and one of a link that no packet region has. -/
theorem faultReport_recorded
    (h : ((kind = 2 ∨ kind = 3 ∨ kind = 4) ∧ region = 6) ∨ (kind = 5 ∧ region = 6) ∨ (kind = 6 ∧ 4 ≤ region)) :
    faultReport s region kind block cell = fltRecord s F.FLT_EVENT_region_fault .crimson region kind block cell := by
  rcases h with ⟨hk, rfl⟩ | ⟨rfl, rfl⟩ | ⟨rfl, hr⟩
  · exact (faultReport_general hk).trans regionReport_aon
  · exact (faultReport_scope_elsewhere (by decide)).trans regionReport_aon
  · exact faultReport_other_link hr

section
variable {u : State} (hu : u = fltRecord s F.FLT_EVENT_region_fault .crimson region kind block cell)
include hu

theorem regionFault_unhandled (h : getB u F.GLB_SAFE_safe = true ∨ inFault u region = true) :
    regionFault s region kind block cell = u := by
  subst hu
  exact if_pos (Bool.or_eq_true _ _ ▸ h)

theorem regionFault_handled (hsafe : getB u F.GLB_SAFE_safe = false) (hfault : inFault u region = false) :
    regionFault s region kind block cell = isolate u region false := by
  subst hu
  exact if_neg (by simp [hsafe, hfault])

end

/-! ### Hangs and missed heartbeats (R452, R457) -/

theorem hangDetect_working (h : hangWork s region block = true) : hangDetect s region block cell = regionFault s region 3 block cell :=
  if_pos h

theorem hangDetect_idle (h : hangWork s region block = false) : hangDetect s region block cell = s := if_neg (Bool.eq_false_iff.1 h)

theorem heartbeatMiss_running (hsafe : getB s F.GLB_SAFE_safe = false) (hfault : inFault s 5 = false) :
    heartbeatMiss s = isolate s 5 false := if_neg (by simp [hsafe, hfault])

end

/-! ### The retry of a lane (R454) -/

section
variable {s : State} {p : Nat}

theorem laneRetryTimeout_retried (h : (laneSt s p).fltRetry = true) :
    laneRetryTimeout s p =
      let u := modLane s p (fun x => { x with fltRetry := false, forceOff := false, fltHeld := !chanReady s p })
      if chanReady s p then u else chanCheck (laneAdvance (contained u 4 0x10 p) p) p := if_neg (by simp [h])

theorem laneRetryTimeout_ready (h : (laneSt s p).fltRetry = true) (hready : chanReady s p = true) :
    laneRetryTimeout s p = modLane s p (fun x => { x with fltRetry := false, forceOff := false, fltHeld := false }) := by
  rw [laneRetryTimeout_retried h, hready]
  rfl

theorem laneRetryTimeout_unready (h : (laneSt s p).fltRetry = true) (hready : chanReady s p = false) :
    laneRetryTimeout s p = chanCheck (laneAdvance (contained
      (modLane s p (fun x => { x with fltRetry := false, forceOff := false, fltHeld := true })) 4 0x10 p) p) p := by
  rw [laneRetryTimeout_retried h, hready]
  rfl

end

/-! ### Patrol scrub (R337, R338) -/

section
variable {s : State} {n t c ce u pct : Nat} {bad : Option Nat} {pass : Bool}

/-- The corrected errors counted for the region, whatever the tier. -/
def ceCounted (s : State) (n ce : Nat) : State := monCount (addTo s (F.RPM_CE_COUNT_count n) ce) n 0x25 0x07 [] ce

/-- What a scrub of tier `t` counts of the errors that it corrected. -/
def scrubCorrected (s : State) (n t c ce : Nat) : State :=
  if ce = 0 then s
  else if t = 0 then ceCounted s n ce
  else if t = 1 then raiseGrey (addTo (ceCounted s n ce) (F.MEM_HBM_CE_count n) ce) (F.MEM_EVENT_hbm_ce n)
  else raiseAt (addTo (ceCounted s n ce) (F.MEM_CH_CE_count n c) ce) (F.MEM_EVENT_ch_ce n) .grey c [] 0

/-- The progress that a scrub of tier 2 shows. -/
def scrubShown (s : State) (n t c pct : Nat) (pass : Bool) : State :=
  if t = 2 then (if pass then inc (put s (F.MEM_CH_SCRUB_pct n c) pct) (F.MEM_CH_SCRUB_passes n c) else put s (F.MEM_CH_SCRUB_pct n c) pct)
  else s

/-- What becomes of unit `u`, struck by an uncorrectable error. -/
def scrubStruck (s : State) (n t c u : Nat) : State :=
  if t = 0 then uncorrectable s n t u
  else if t = 1 then raiseGrey (inc (uncorrectable s n t u) (F.MEM_HBM_UE_count n)) (F.MEM_EVENT_hbm_ue n)
  else channelError (raiseAt (inc (uncorrectable s n t u) (F.MEM_CH_UE_count n c)) (F.MEM_EVENT_ch_ue n) .grey c [] 0) n c

theorem scrub_clean : scrub s n t c ce none pct pass = scrubShown (scrubCorrected s n t c ce) n t c pct pass := rfl

theorem scrub_struck :
    scrub s n t c ce (some u) pct pass = scrubStruck (scrubShown (scrubCorrected s n t c ce) n t c pct pass) n t c u := rfl

theorem scrubCorrected_none : scrubCorrected s n t c 0 = s := rfl

theorem scrubCorrected_tier0 (h : ce ≠ 0) : scrubCorrected s n 0 c ce = ceCounted s n ce := if_neg h

theorem scrubCorrected_tier1 (h : ce ≠ 0) :
    scrubCorrected s n 1 c ce = raiseGrey (addTo (ceCounted s n ce) (F.MEM_HBM_CE_count n) ce) (F.MEM_EVENT_hbm_ce n) := if_neg h

theorem scrubCorrected_tier2 (h : ce ≠ 0) :
    scrubCorrected s n 2 c ce = raiseAt (addTo (ceCounted s n ce) (F.MEM_CH_CE_count n c) ce) (F.MEM_EVENT_ch_ce n) .grey c [] 0 :=
  if_neg h

theorem scrubShown_above (h : t ≠ 2) : scrubShown s n t c pct pass = s := if_neg h

theorem scrub_clean_above (h : t ≠ 2) : scrub s n t c ce none pct pass = scrubCorrected s n t c ce :=
  scrub_clean.trans (scrubShown_above h)

theorem patrolScrub_awake {n : PktRegion} {t : Fin 3} {c : Fin 4} {pct : Fin 101} {v : State} (hrun : regionStopped s n = false)
    (h : scrub s n t c ce bad pct pass = v) : exec (.patrolScrub n t c ce bad pct pass) s = .next (settled s v) :=
  congrArg (finish s) ((if_neg (Bool.eq_false_iff.1 hrun)).trans h)

end

/-- Settles O37, from the equation of each report in each of its cases, then those of the retry and of the scrub by tier. -/
theorem faultHandling : Obligations.FaultHandling := by
  unfold Obligations.FaultHandling
  refine ⟨fun s b c l => ?_, fun s n c ce u pct pass hrun => ?_⟩
  · refine ⟨fun r => congrArg (finish s) ?_, fun r k hk hr => congrArg (finish s) ?_, fun hc => congrArg (finish s) ?_,
      fun r hr => congrArg (finish s) ?_, fun r => congrArg (finish s) ?_, fun r k h => congrArg (finish s) ?_,
      fun r hw => congrArg (finish s) ?_, fun r hw => congrArg (finish s) ?_, fun r k => ?_,
      fun hsafe hfault => congrArg (finish s) ?_, fun h hready => congrArg (finish s) ?_, fun h hready => congrArg (finish s) ?_⟩
    · exact faultReport_contained
    · exact (faultReport_general (by simpa [Fin.ext_iff] using hk)).trans (regionReport_region hr)
    · exact faultReport_lane hc
    · exact faultReport_die_link hr
    · exact faultReport_aon
    · exact faultReport_recorded (by simpa [Fin.ext_iff] using h)
    · exact hangDetect_working hw
    · exact hangDetect_idle hw
    · exact ⟨regionFault_unhandled rfl, regionFault_handled rfl⟩
    · exact heartbeatMiss_running hsafe hfault
    · exact laneRetryTimeout_ready h hready
    · exact laneRetryTimeout_unready h hready
  · refine ⟨patrolScrub_awake hrun ?_, fun hce => patrolScrub_awake hrun ?_, fun hce => patrolScrub_awake hrun ?_,
      patrolScrub_awake hrun ?_, fun hce => patrolScrub_awake hrun ?_, patrolScrub_awake hrun ?_, patrolScrub_awake hrun ?_⟩
    · exact scrub_clean
    · exact (scrub_clean_above (by decide)).trans (scrubCorrected_tier0 hce)
    · exact (scrub_clean_above (by decide)).trans (scrubCorrected_tier1 hce)
    · exact scrub_clean
    · exact scrub_clean.trans (congrArg (put · (F.MEM_CH_SCRUB_pct n c) pct) (scrubCorrected_tier2 hce))
    · exact scrub_struck
    · exact scrub_struck

end Sys2Proof.Machine
end

section
/-!
SUPPORT. The step and the queue: the command at the front runs, and every command completes (95_what_each_step_holds.md).
-/
namespace Sys2Proof.Machine
open Sys2Proof

/-- Settles O1, by the step's own equation at a queue that is not empty. -/
theorem stepRunsFrontCommand : Obligations.StepRunsFrontCommand := by
  unfold Obligations.StepRunsFrontCommand
  intro c rest s h
  rw [step, h]

/-- Settles O3: each command ends in `settle`, which leaves the queue alone. -/
theorem everyCommandCompletes : Obligations.EveryCommandCompletes := by
  unfold Obligations.EveryCommandCompletes
  intro c s
  obtain ⟨t, h⟩ := exec_finishes c s
  exact ⟨_, h, settle_pending _⟩

end Sys2Proof.Machine
end

section
/-!
SUPPORT. The network time domains: the writes that steer them, and what a set gives a domain (R345 to R349, R353, R354).
-/
namespace Sys2Proof.Machine
open Sys2Proof

theorem dom_modDom (s : State) (d : Nat) (f : TsuDom → TsuDom) : dom (modDom s d f) d = f (dom s d) := by
  simp [dom, modDom, Tab.upd, Tab.getD]

/-- A rebase leaves the domain's value at its own instant (R347). -/
theorem domValue_rebase (s : State) (d : Nat) : domValue (rebase s d) d (rawAbs s) = domValue s d (rawAbs s) := by
  have hrho : rhoOf (rebase s d) d = rhoOf s d := rfl
  rw [domValue, hrho, rebase, dom_modDom]
  simp [runOn]

section
variable {s : State} {d : Nat}

theorem rateWrite_set {w : Word} (h : domState s d ≠ 0) :
    rateWrite d w s = firmwareSteers (openSeg (put (rebase s d) (F.TSU_D_RATE_rho d) w.toNat) d) d := if_neg h

theorem rateWrite_unset {w : Word} (h : domState s d = 0) : rateWrite d w s = put s (F.TSU_D_RATE_rho d) w.toNat := if_pos h

theorem stepWrite_set {w : Word} (h : domState s d ≠ 0) :
    stepWrite d w s = firmwareSteers (openSeg (modDom s d (fun x => { x with off := x.off + w.toInt * 2 ^ 32 })) d) d := if_neg h

theorem stepWrite_unset {w : Word} (h : domState s d = 0) : stepWrite d w s = s := if_pos h

end

/-! ### A set with go (R348, R349) -/

/-- The state in which the nanoseconds of a set have been kept. -/
def nsKept (s : State) (d : Nat) (w : Word) : State := put s (F.TSU_D_SET_NS_ns d) (bits w.toNat 0 30)

/-- The value that a set gives, in 2⁻³² ns. -/
def setValue (s : State) (d : Nat) (w : Word) : Int :=
  ((get s (F.TSU_D_SET_SEC_sec d) * 1000000000 + bits w.toNat 0 30 : Nat) : Int) * 2 ^ 32

/-- The state in which the domain has taken the value, before its state follows. -/
def valueTaken (s : State) (d : Nat) (w : Word) : State :=
  modDom (nsKept s d w) d (fun x => { x with off := setValue s d w, anchor := rawAbs s })

theorem setWrite_hold {s : State} {d : Nat} {w : Word} (h : bit w.toNat 31 = false) : setWrite d w s = nsKept s d w :=
  if_neg (Bool.eq_false_iff.1 h)

theorem get_nsKept_same (s : State) (d : Nat) (w : Word) : get (nsKept s d w) (F.TSU_D_SET_NS_ns d) = bits w.toNat 0 30 := by
  rw [nsKept, get_put_same _ _ (show 0 + 30 ≤ 32 by decide)]
  exact Nat.mod_mod _ _

/-- The kept nanoseconds change no field but their own word's. -/
theorem get_nsKept {s : State} {d : Nat} {w : Word} {f : Fld} (h : ∀ a ∈ fldWords f, a ≠ R.TSU_D_SET_NS d) :
    get (nsKept s d w) f = get s f :=
  get_put_apart s _ fun a ha hf => h a ha (List.mem_singleton.1 hf)

theorem rawAbs_nsKept (s : State) (d : Nat) (w : Word) : rawAbs (nsKept s d w) = rawAbs s := by
  rw [rawAbs, nsKept, put_clk, rawAbs]

theorem setWrite_go {s : State} {d : Nat} {w : Word} (h : bit w.toNat 31 = true) : setWrite d w s =
    let u := valueTaken s d w
    whenB (decide (domState (nsKept s d w) d = 0)) servedUpdate
      (openSeg (if domState (nsKept s d w) d = 2 ∧ hasRef u d = true then u else setDomState u d 1) d) := by
  have hval : (((get (nsKept s d w) (F.TSU_D_SET_SEC_sec d) * 1000000000 + get (nsKept s d w) (F.TSU_D_SET_NS_ns d)) * 2 ^ 32 : Nat) : Int) =
      setValue s d w := by
    have hsec : get (nsKept s d w) (F.TSU_D_SET_SEC_sec d) = get s (F.TSU_D_SET_SEC_sec d) :=
      get_nsKept fun a ha => by
        simp [fldWords, F.TSU_D_SET_SEC_sec, R.TSU_D_SET_SEC] at ha
        simp only [R.TSU_D_SET_NS]
        omega
    rw [get_nsKept_same, hsec, setValue]
    push_cast
    rfl
  have htaken : valueTaken s d w = modDom (nsKept s d w) d (fun x => { x with
      off := (((get (nsKept s d w) (F.TSU_D_SET_SEC_sec d) * 1000000000 + get (nsKept s d w) (F.TSU_D_SET_NS_ns d)) * 2 ^ 32 : Nat) : Int)
      anchor := rawAbs (nsKept s d w) }) := by
    rw [hval, rawAbs_nsKept, valueTaken]
  rw [htaken]
  exact if_pos h

/-- The domains' own states stand in their first words. -/
theorem domState_of_lt {d : Nat} (s : State) (h : d < 3) : domState s d = get s (F.TSU_D_STATE_state d) := if_pos h

theorem fldWords_domState (d : Nat) : fldWords (F.TSU_D_STATE_state d) = [R.TSU_D_STATE d] := fldWords_one (show 0 + 2 ≤ 32 by decide)

theorem domState_nsKept {s : State} {d : Nat} {w : Word} (h : d < 3) : domState (nsKept s d w) d = domState s d := by
  rw [domState_of_lt _ h, domState_of_lt _ h]
  refine get_nsKept fun a ha => ?_
  rw [fldWords_domState, List.mem_singleton] at ha
  simp only [ha, R.TSU_D_STATE, R.TSU_D_SET_NS]
  omega

/-- A field below the words of the domains, or above them, is not their nanoseconds. -/
theorem get_nsKept_outside {s : State} {d : Nat} {w : Word} {f : Fld} (hd : d < 3) (hf : f.lo + f.w ≤ 32)
    (h : f.addr < 0x80100 ∨ 0x80200 ≤ f.addr) : get (nsKept s d w) f = get s f := by
  refine get_nsKept fun a ha => ?_
  rw [fldWords_one hf, List.mem_singleton] at ha
  simp only [ha, R.TSU_D_SET_NS]
  omega

theorem measOk_nsKept {s : State} {d : Nat} {w : Word} (hd : d < 3) (q : Path) : measOk (nsKept s d w) q = measOk s q := by
  have hann : annOf (nsKept s d w) q = annOf s q := by cases q <;> simp [annOf, nsKept]
  have hlock : pathLocked (nsKept s d w) q = pathLocked s q := by
    cases q
    · exact getB_congr (get_nsKept_outside hd (by decide) (.inl (by decide)))
    · exact getB_congr (get_nsKept_outside hd (by decide) (.inl (by decide)))
  have href : refChan (nsKept s d w) q = refChan s q := by
    unfold refChan
    rw [hlock]
    cases q <;> simp [nsKept]
  have hteq : get (nsKept s d w) (F.TSU_D_TEQ_teq (qn q)) = get s (F.TSU_D_TEQ_teq (qn q)) := by
    refine get_nsKept fun a ha => ?_
    rw [fldWords_one (show 0 + 32 ≤ 32 by decide), List.mem_singleton] at ha
    simp only [ha, F.TSU_D_TEQ_teq, R.TSU_D_TEQ, R.TSU_D_SET_NS]
    omega
  have hranged : ∀ n, getB (nsKept s d w) (F.ACT_EQD_ranged (qn q) n) = getB s (F.ACT_EQD_ranged (qn q) n) := fun n =>
    getB_congr (get_nsKept_outside hd (show 31 + 1 ≤ 32 by decide) (.inr (by simp only [F.ACT_EQD_ranged, R.ACT_EQD]; omega)))
  simp only [measOk, hann, href, hteq, hranged]

theorem hasRef_modDom (s : State) (d e : Nat) (f : TsuDom → TsuDom) : hasRef (modDom s d f) e = hasRef s e := rfl

theorem hasRef_valueTaken {s : State} {d : Nat} {w : Word} (hd : d < 3) : hasRef (valueTaken s d w) d = hasRef s d := by
  have hsrc : get (nsKept s d w) F.TSU_CTRL_local_src = get s F.TSU_CTRL_local_src :=
    get_nsKept_outside hd (by decide) (.inl (by decide))
  rw [valueTaken, hasRef_modDom]
  simp only [hasRef, measOk_nsKept hd, hsrc]

/-- What a change of the served base leaves of the domains: their values, and their states. -/
structure DomainsKept (s t : State) : Prop where
  doms : t.tsu.doms = s.tsu.doms
  word : ∀ d < 3, rdWord t (R.TSU_D_STATE d) = rdWord s (R.TSU_D_STATE d)

theorem domainsKept_put (s : State) {f : Fld} (v : Nat) (hf : f.lo + f.w ≤ 32) (h : f.addr < 0x80100) : DomainsKept s (put s f v) where
  doms := congrArg Tsu.doms (put_tsu s f v)
  word _ _ := rdWord_put_ne_one s f v _ hf (by simp only [R.TSU_D_STATE]; omega)

theorem domainsKept_raiseGrey (s : State) {f : Fld} (hf : f.lo + f.w ≤ 32) (h : f.addr < 0x80100) : DomainsKept s (raiseGrey s f) where
  doms := (congrArg (fun t => t.tsu.doms) (unrecorded_raise s f .grey 0) :)
  word _ _ := rdWord_raise (by simp only [OffRecord, R.TSU_D_STATE]; omega) s .grey 0 hf (by simp only [R.TSU_D_STATE]; omega)

protected theorem DomainsKept.trans {s t u : State} (h : DomainsKept s t) (h' : DomainsKept t u) : DomainsKept s u where
  doms := h'.doms.trans h.doms
  word d hd := (h'.word d hd).trans (h.word d hd)

theorem domainsKept_pushPiece (s : State) (base : Nat) (r : Int) (change : Bool) : DomainsKept s (pushPiece s base r change) where
  doms := rfl
  word _ _ := rfl

theorem domainsKept_servedUpdate (s : State) : DomainsKept s (servedUpdate s) := by
  have hput : ∀ (t : State) (v : Nat), DomainsKept t (put t F.TSU_STATUS_base_pending v) := fun t v =>
    domainsKept_put t v (by decide) (by decide)
  unfold servedUpdate
  extract_lets t b d step r s₁
  split
  · exact hput s _
  · split
    · split
      · exact ⟨rfl, fun _ _ => rfl⟩
      · exact (hput s _).trans (domainsKept_raiseGrey _ (by decide) (by decide))
    · have hbase : DomainsKept s s₁ :=
        ((domainsKept_pushPiece s t r true).trans (domainsKept_put _ t (by decide) (by decide))).trans (hput _ _)
      exact hbase.trans (domainsKept_raiseGrey s₁ (by decide) (by decide))

section
variable {s t : State} {d : Nat}

theorem DomainsKept.dom_eq (h : DomainsKept s t) : dom t d = dom s d := by rw [dom, h.doms, dom]

theorem DomainsKept.domState_eq (h : DomainsKept s t) (hd : d < 3) : domState t d = domState s d := by
  have hword := h.word d hd
  rw [domState_of_lt _ hd, domState_of_lt _ hd, get_of_le _ (show 0 + 2 ≤ 32 by decide), get_of_le _ (show 0 + 2 ≤ 32 by decide)]
  exact congrArg (fun x : Word => bits x.toNat 0 2) hword

theorem domainsKept_whenB (b : Bool) : DomainsKept s (whenB b servedUpdate s) := by
  cases b
  · exact ⟨rfl, fun _ _ => rfl⟩
  · exact domainsKept_servedUpdate s

end

theorem dom_setDomState (s : State) (d v e : Nat) : dom (setDomState s d v) e = dom s e := by
  simp [dom, setDomState]

theorem stField_word (d : Nat) : (stField d).lo + (stField d).w ≤ 32 ∧ (stField d).addr = R.TSU_STATUS := by
  unfold stField
  split
  · decide
  · split <;> decide

theorem domState_setDomState (s : State) {d v : Nat} (hd : d < 3) (hv : v < 4) : domState (setDomState s d v) d = v := by
  obtain ⟨hw, ha⟩ := stField_word d
  rw [domState_of_lt _ hd, setDomState, get_put_disjoint _ _ hw (show 0 + 2 ≤ 32 by decide)
    (.inl (by simp only [ha, F.TSU_D_STATE_state, R.TSU_D_STATE, R.TSU_STATUS]; omega)), get_put_same _ _ (show 0 + 2 ≤ 32 by decide)]
  exact Nat.mod_eq_of_lt hv

/-- The value, the anchor and the state that a set with go gives its domain. -/
theorem setWrite_go_domain {s : State} {d : Nat} {w : Word} (hd : d < 3) (h : bit w.toNat 31 = true) :
    (dom (setWrite d w s) d).anchor = rawAbs s ∧ (dom (setWrite d w s) d).off = setValue s d w ∧
    domState (setWrite d w s) d = if domState s d = 2 ∧ hasRef s d = true then 2 else 1 := by
  have hgo := setWrite_go (s := s) (d := d) h
  dsimp only at hgo
  rw [domState_nsKept hd, hasRef_valueTaken hd] at hgo
  have htaken : dom (valueTaken s d w) d = { dom (nsKept s d w) d with off := setValue s d w, anchor := rawAbs s } := dom_modDom ..
  obtain ⟨u, hu⟩ : ∃ u, u = if domState s d = 2 ∧ hasRef s d = true then valueTaken s d w else setDomState (valueTaken s d w) d 1 :=
    ⟨_, rfl⟩
  have hdom : dom u d = dom (valueTaken s d w) d := by
    rw [hu]
    split
    · rfl
    · exact dom_setDomState ..
  have hstate : domState u d = if domState s d = 2 ∧ hasRef s d = true then 2 else 1 := by
    rw [hu]
    split
    · next hfollows => exact (domState_nsKept hd).trans hfollows.1
    · exact domState_setDomState _ hd (by decide)
  have hkept := domainsKept_whenB (s := openSeg u d) (decide (domState s d = 0))
  rw [hgo, ← hu, hkept.dom_eq, hkept.domState_eq hd, openSeg, dom_modDom, hdom, htaken]
  exact ⟨rfl, rfl, hstate⟩

/-- A conversion keeps the raw value, the domain, the result and its stale mark for the requester (R354).
The definition is opened on a variable: on the term itself the kernel would run the conversion. -/
theorem convWrite_kept (s : State) (r : Requester) (raw d : Nat) : convWrite r raw d s = stepFree { s with tsu := { s.tsu with
    conv := Tab.set s.tsu.conv (reqNum r) ⟨raw, d, (convert s d raw).2, (convert s d raw).1⟩ } } := by
  have key : ∀ f t, f = @convWrite → t = f r raw d s → t = stepFree { s with tsu := { s.tsu with
      conv := Tab.set s.tsu.conv (reqNum r) ⟨raw, d, (convert s d raw).2, (convert s d raw).1⟩ } } := by
    intro f t hf ht
    delta convWrite at hf
    subst hf
    beta_reduce at ht
    generalize convert s d raw = x at ht ⊢
    obtain ⟨v, st⟩ := x
    exact ht
  exact key _ _ rfl rfl

/-- Settles O43, from what each write does to a domain that is set or UNSET, and from what a set with go gives it. -/
theorem timeDomains : Obligations.TimeDomains := by
  unfold Obligations.TimeDomains
  intro s r d w raw k
  refine ⟨fun hr h => congrArg (finish s) ?_, fun hr h => congrArg (finish s) ?_, fun hr h => congrArg (finish s) ?_,
    fun hr h => congrArg (finish s) ?_, fun hr h => congrArg (finish s) ?_, fun hr h => ⟨setWrite d w s, congrArg (finish s) ?_, ?_⟩, rfl,
    domValue_rebase s, finish_of_pos, finish_of_neg, fun hr => congrArg (finish s) ?_, fun hr => congrArg (finish s) ?_⟩
  · exact (onWrite_of_reaches _ hr).trans (rateWrite_set h)
  · exact (onWrite_of_reaches _ hr).trans (rateWrite_unset h)
  · exact (onWrite_of_reaches _ hr).trans (stepWrite_set h)
  · exact (onWrite_of_reaches _ hr).trans (stepWrite_unset h)
  · exact (onWrite_of_reaches _ hr).trans (setWrite_hold h)
  · exact onWrite_of_reaches _ hr
  · exact setWrite_go_domain d.isLt h
  · exact (onWrite_of_reaches _ hr).trans (convWrite_kept ..)
  · exact onWrite_of_reaches _ hr

end Sys2Proof.Machine
end

section
/-!
SUPPORT. Numbers as bytes, the served slew, the edges of the time pins and the time-of-day message (R353, R355, R361, R364).
-/
namespace Sys2Proof.Machine
open Sys2Proof

/-! ### Numbers as bytes (R10, R48) -/

theorem length_leBytes (n v : Nat) : (leBytes n v).length = n := by
  induction n generalizing v with
  | zero => rfl
  | succ n ih => rw [leBytes, List.length_cons, ih]

theorem length_beBytes (n v : Nat) : (beBytes n v).length = n := by rw [beBytes, List.length_reverse, length_leBytes]

theorem leNat_leBytes (n v : Nat) : leNat (leBytes n v) = v % 2 ^ (8 * n) := by
  induction n generalizing v with
  | zero => exact (Nat.mod_one v).symm
  | succ n ih =>
    rw [leBytes, leNat, ih, BitVec.toNat_ofNat, Nat.mul_succ, Nat.add_comm (8 * n), Nat.pow_add, Nat.mod_mul]

theorem beNat_append_singleton (l : List Byte) (b : Byte) : beNat (l ++ [b]) = beNat l * 256 + b.toNat := by
  simp [beNat, List.foldl_append]

theorem beNat_reverse (l : List Byte) : beNat l.reverse = leNat l := by
  induction l with
  | nil => rfl
  | cons b l ih => rw [List.reverse_cons, beNat_append_singleton, ih, leNat]; omega

theorem beNat_beBytes (n v : Nat) : beNat (beBytes n v) = v % 2 ^ (8 * n) := by rw [beBytes, beNat_reverse, leNat_leBytes]

/-! ### The time-of-day message (R364) -/

/-- The first twelve bytes of the message: its mark, the second, and what it says of the domain. -/
def todBody (s : State) (sec : Nat) : List Byte :=
  let d := get s (F.TSU_PPS_CFG_dom 0)
  [0xC5, 0x3A] ++ beBytes 6 sec ++ beBytes 2 (get s F.TSU_UTC_OFF_off) ++ beBytes 1 (domState s d + 4 * get s F.TSU_STATUS_slewing) ++
    beBytes 1 d

theorem todBytes_eq (s : State) (sec : Nat) : todBytes s sec = todBody s sec ++ leBytes 4 (crc32c (todBody s sec)) := rfl

theorem length_todBody (s : State) (sec : Nat) : (todBody s sec).length = 12 := by simp [todBody, length_beBytes]

theorem take_todBytes (s : State) (sec : Nat) : (todBytes s sec).take 12 = todBody s sec := by
  rw [todBytes_eq, ← length_todBody s sec, List.take_left]

theorem drop_todBytes (s : State) (sec : Nat) : (todBytes s sec).drop 12 = leBytes 4 (crc32c (todBody s sec)) := by
  rw [todBytes_eq, ← length_todBody s sec, List.drop_left]

theorem todBytes_second (s : State) (sec : Nat) : ((todBytes s sec).drop 2).take 6 = beBytes 6 sec := by
  rw [todBytes_eq, todBody]
  simp [length_beBytes]

/-! ### The served slew and the edges (R353, R355, R361) -/

section
variable {s : State}

theorem residClear_piece {p : SrvPiece} {l : List SrvPiece} (h : s.tsu.served = p :: l) : residClear s = pushPiece s p.base 0 false := by
  rw [residClear, h]

theorem residClear_none (h : s.tsu.served = []) : residClear s = s := by rw [residClear, h]

theorem ppsOutEdge_silent {k : Fin 2} (h : ppsRuns s k = false) : execPpsOutEdge k s = .next (settled s s) :=
  finish_of_neg (Bool.eq_false_iff.1 h)

theorem ppsOutEdge_one (h : ppsRuns s 1 = true) : execPpsOutEdge 1 s =
    .next (settled s (emit s (.pps 1 (!getB s (F.TSU_PPS_CFG_invert 1)) (get s (F.TSU_PPS_CFG_width 1))))) :=
  finish_of_pos h

/-- The whole second that an edge of PPS_OUT_0 begins: the one nearest to the domain's value plus the advance (R361). -/
def ppsSecond (s : State) : Nat :=
  let d := get s (F.TSU_PPS_CFG_dom 0)
  secOf ((if d < 3 then domValue s d (rawAbs s) else servedNow s) + getI s (F.TSU_PPS_DELAY_delay 0) * 2 ^ 28 + 500000000 * 2 ^ 32)

theorem ppsOutEdge_zero (h : ppsRuns s 0 = true) : execPpsOutEdge 0 s =
    .next (settled s { emit s (.pps 0 (!getB s (F.TSU_PPS_CFG_invert 0)) (get s (F.TSU_PPS_CFG_width 0))) with
      tsu := { s.tsu with pps0 := some (ppsSecond s) } }) :=
  finish_of_pos h

/-- An edge that is no measurement of LOCAL is stamped, counted and raised, and nothing else. -/
theorem ppsInEdge_stamped {k : Fin 2} {u : State}
    (hu : u = raiseGrey (inc (put s (F.TSU_PPSIN_LFC_raw k) (rawTime s)) (F.TSU_PPSIN_COUNT_count k))
      (if k.val = 0 then F.TSU_EVENT_ppsin_0 else F.TSU_EVENT_ppsin_1))
    (hsrc : get u F.TSU_CTRL_local_src ≠ k.val + 1) : execPpsInEdge k s = .next (settled s u) := by
  subst hu
  exact finish_of_neg fun h => hsrc h.1

theorem todMessage_due {sec : Nat} (h : s.tsu.pps0 = some sec) (hen : getB s F.TSU_CTRL_tod_en = true) : execTodMessage s =
    .next (settled s (emit { s with tsu := { s.tsu with pps0 := none } } (.tod (todBytes s sec)))) := by
  rw [execTodMessage, h]
  exact finish_of_pos hen

theorem todMessage_not_due (h : s.tsu.pps0 = none) : execTodMessage s = .next (settled s s) := by
  rw [execTodMessage, h]
  rfl

end

/-- Settles O44, from the equation of each pin's command, and from the lengths of the message's parts. -/
theorem timePins : Obligations.TimePins := by
  unfold Obligations.TimePins
  refine ⟨fun s r k => ⟨fun p l h => ⟨congrArg (finish s) (residClear_piece h), fun hr => congrArg (finish s) ?_⟩,
    fun h => congrArg (finish s) (residClear_none h), ppsOutEdge_silent, ppsOutEdge_one, fun h => ⟨_, ppsOutEdge_zero h⟩,
    fun _ => ppsInEdge_stamped, fun _ => todMessage_due, todMessage_not_due⟩, fun s sec => ⟨?_, ?_, ?_, ?_⟩⟩
  · exact (onWrite_of_reaches _ hr).trans (residClear_piece h)
  · rw [todBytes_eq, List.length_append, length_todBody, length_leBytes]
  · rfl
  · rw [todBytes_second, beNat_beBytes]
  · rw [drop_todBytes, take_todBytes, leNat_leBytes]

end Sys2Proof.Machine
end

section
/-!
SUPPORT. The commands of the warden (R370, R371, R373, R466).
-/
namespace Sys2Proof.Machine
open Sys2Proof

/-- The state in which WRD_CMD holds the op, slot and key of a command. -/
def cmdSet (s : State) (x : WrdReq) : State :=
  let s := put s F.WRD_CMD_op x.fields.1
  let s := match x.fields.2.1 with
    | some b => putB s F.WRD_CMD_slot b
    | none => s
  match x.fields.2.2 with
  | some k => put s F.WRD_CMD_key k
  | none => s

/-- What the warden does for a command that its requester may give. -/
def cmdDone (s : State) (x : WrdReq) : State := match x with
  | .policyWrite b img => policyWrite s b img
  | .wardenWrite b img => wardenWrite s b img
  | .keyAdd k key => keyAdd s k key
  | .keyRevoke k => keyRevoke s k
  | .setPref b => wrdEnd (putB s F.WRD_STATUS_boot_pref b) wrdOk
  | .calUnlock => calUnlock s
  | .calWrite f => calWrite s f
  | .calSaveRx => calWrite s (calWithRx s)
  | .calRead => calRead s

section
variable {s u : State} {x : WrdReq} {r : Requester} (hu : cmdSet s x = u)
include hu

theorem wrdCommand_busy (hbusy : getB u F.WRD_RESULT_busy = true) : wrdCommand s r x =
    raise (put u F.WRD_RESULT_code wrdBusy) F.WRD_EVENT_cmd_fail .grey wrdBusy := by
  subst hu
  exact if_pos hbusy

theorem wrdCommand_runs (hbusy : getB u F.WRD_RESULT_busy = false) (hdown : u.wrd.down = false) :
    wrdCommand s r x = wrdRun u x (isP0 u r) (isP1 r) := by
  subst hu
  exact (if_neg (Bool.eq_false_iff.1 hbusy)).trans (if_neg (Bool.eq_false_iff.1 hdown))

theorem wrdCommand_p0 (hbusy : getB u F.WRD_RESULT_busy = false) (hdown : u.wrd.down = false) (hp0 : isP0 u r = true) :
    wrdCommand s r x = cmdDone u x := by
  rw [wrdCommand_runs hu hbusy hdown, hp0]
  exact if_neg (by simp)

theorem wrdCommand_p1 (hx : x.p0 = false) (hbusy : getB u F.WRD_RESULT_busy = false) (hdown : u.wrd.down = false)
    (hp1 : isP1 r = true) : wrdCommand s r x = cmdDone u x := by
  rw [wrdCommand_runs hu hbusy hdown, hp1]
  exact if_neg (by simp [hx])

theorem wrdCommand_below_p0 (hx : x.p0 = true) (hbusy : getB u F.WRD_RESULT_busy = false) (hdown : u.wrd.down = false)
    (hp0 : isP0 u r = false) : wrdCommand s r x = wrdEnd u wrdPriv := by
  rw [wrdCommand_runs hu hbusy hdown, hp0]
  exact if_pos (by simp [hx])

end

section
variable {s : State} {k : Nat} {key b : List Byte}

theorem keyAdd_revoked (h : bit (get s F.WRD_KEYS_revoked) k = true) : keyAdd s k key = wrdEnd s wrdKeyRevoked := if_pos h

theorem keyAdd_empty (hrevoked : bit (get s F.WRD_KEYS_revoked) k = false) (hvalid : bit (get s F.WRD_KEYS_valid) k = false) :
    keyAdd s k key = wrdEnd (put { s with flash := { s.flash with polKeys := Tab.set s.flash.polKeys k (key.take 97) } }
      F.WRD_KEYS_valid (setBits (get s F.WRD_KEYS_valid) k 1 1)) wrdOk :=
  (if_neg (Bool.eq_false_iff.1 hrevoked)).trans (if_neg (Bool.eq_false_iff.1 hvalid))

theorem keyRevoke_ends (s : State) (k : Nat) : ∃ u, keyRevoke s k = wrdEnd u wrdOk ∧ u.flash.polKeys = Tab.del s.flash.polKeys k ∧
    get u F.WRD_KEYS_revoked = setBits (get s F.WRD_KEYS_revoked) k 1 1 % 16 := by
  refine ⟨_, rfl, ?_, ?_⟩
  · rw [put_flash, put_flash]
  · rw [get_put_same _ _ (by decide), get_put_disjoint _ _ (by decide) (by decide) (by decide)]
    rfl

theorem calUnlock_own (h : get s F.WRD_LEN_len = get s F.ACT_LSI_lsi % 2 ^ 24) : calUnlock s = wrdEnd (calLock s true) wrdOk := if_pos h

theorem calUnlock_other (h : get s F.WRD_LEN_len ≠ get s F.ACT_LSI_lsi % 2 ^ 24) : calUnlock s = wrdEnd (calLock s false) wrdLocked :=
  if_neg h

theorem calWrite_locked (h : s.cal.unlocked = false) : calWrite s b = wrdEnd s wrdLocked := if_pos (by rw [h]; rfl)

theorem calWrite_unlocked (h : s.cal.unlocked = true) : calWrite s b =
    let f := (b ++ List.replicate calBytes 0xFF).take calBytes
    if calCheck s f ≠ 0 then wrdEnd s wrdBadCal else wrdJob (calPut s []) (.cal f) := if_neg (by simp [h])

end

/-- Settles O45, from the levels that the commands ask and from what each does at its level. -/
theorem wardenCommands : Obligations.WardenCommands := by
  unfold Obligations.WardenCommands
  intro s r b img key k hr slotted keyed plain free cal
  have hslot : ∀ op, (slotted op).wrd = s.wrd := fun op => by simp [slotted]
  have hkey : ∀ op, (keyed op).wrd = s.wrd ∧ (keyed op).flash = s.flash := fun op => by simp [keyed]
  have hplain : ∀ op, (plain op).wrd = s.wrd ∧ (plain op).cal = s.cal := fun op => by simp [plain]
  have hdown : ∀ {u : State}, u.wrd = s.wrd → free u → u.wrd.down = false := fun h hfree => h ▸ hfree.2
  have reach : ∀ x {t}, wrdCommand s r x = t → finish s (wrdWrite s r x) = .next (settled s t) := fun x t h =>
    congrArg (finish s) ((onWrite_of_reaches _ hr).trans h)
  refine ⟨fun h => ?_, fun h hp => ?_, fun h hp => ?_, fun h hp => ?_, fun h hp => ?_, fun h hp hrev => ?_, fun h hp hrev hval => ?_,
    fun h hp => ?_, fun h hp hown => ?_, fun h hp hother => ?_, fun h hp hlock => ?_, fun h hp hlock => ?_, fun h hp hlock => ?_,
    fun h hp => ?_⟩
  · exact reach (.setPref b) (wrdCommand_busy rfl h)
  · exact reach (.setPref b) (wrdCommand_p1 (u := slotted 5) rfl rfl h.1 (hdown (hslot 5) h) hp)
  · exact reach (.policyWrite b img) (wrdCommand_p1 (u := slotted 1) rfl rfl h.1 (hdown (hslot 1) h) hp)
  · exact reach (.wardenWrite b img) (wrdCommand_below_p0 (u := slotted 2) rfl rfl h.1 (hdown (hslot 2) h) hp)
  · exact reach (.wardenWrite b img) (wrdCommand_p0 (u := slotted 2) rfl h.1 (hdown (hslot 2) h) hp)
  · exact reach (.keyAdd k key) ((wrdCommand_p0 (u := keyed 3) rfl h.1 (hdown (hkey 3).1 h) hp).trans (keyAdd_revoked hrev))
  · have hadd := keyAdd_empty (key := key) hrev hval
    rw [(hkey 3).2] at hadd
    exact reach (.keyAdd k key) ((wrdCommand_p0 (u := keyed 3) rfl h.1 (hdown (hkey 3).1 h) hp).trans hadd)
  · obtain ⟨u, hu, hdel, hrev⟩ := keyRevoke_ends (keyed 4) k
    rw [(hkey 4).2] at hdel
    exact ⟨u, reach (.keyRevoke k) ((wrdCommand_p0 (u := keyed 4) rfl h.1 (hdown (hkey 4).1 h) hp).trans hu), hdel, hrev⟩
  · exact reach .calUnlock ((wrdCommand_p0 (u := plain 6) rfl h.1 (hdown (hplain 6).1 h) hp).trans (calUnlock_own hown))
  · exact reach .calUnlock ((wrdCommand_p0 (u := plain 6) rfl h.1 (hdown (hplain 6).1 h) hp).trans (calUnlock_other hother))
  · have hwrite := calWrite_locked (s := plain 7) (b := img) ((hplain 7).2 ▸ hlock)
    exact reach (.calWrite img) ((wrdCommand_p0 (u := plain 7) rfl h.1 (hdown (hplain 7).1 h) hp).trans hwrite)
  · have hwrite := calWrite_unlocked (s := plain 7) (b := img) ((hplain 7).2 ▸ hlock)
    exact reach (.calWrite img) ((wrdCommand_p0 (u := plain 7) rfl h.1 (hdown (hplain 7).1 h) hp).trans hwrite)
  · have hwrite := calWrite_unlocked (s := plain 8) (b := calWithRx (plain 8)) ((hplain 8).2 ▸ hlock)
    exact reach .calSaveRx ((wrdCommand_p0 (u := plain 8) rfl h.1 (hdown (hplain 8).1 h) hp).trans hwrite)
  · exact reach .calRead (wrdCommand_p1 (u := plain 9) rfl rfl h.1 (hdown (hplain 9).1 h) hp)

end Sys2Proof.Machine
end

section
/-!
SUPPORT. The policy cluster: its start and stop, its trials and its watchdog, one equation per case (R371 to R373, R380, R381).
-/
namespace Sys2Proof.Machine
open Sys2Proof

section
variable {s : State} {f : FwSlot} {r : Requester} {c v : Nat}

/-! ### Start and stop (R372) -/

theorem cplRestart_working (h : cplState s ≠ 4) : cplRestart s r = cplBoot (cplReset s 2 0) (bootPref s) := by
  have hnot : ¬ (cplState s = cplFailed ∧ (!isP1 r) = true) := fun hf => h hf.1
  have hkeep : (if cplState s = cplFailed then modCpl s (fun c => { c with wdtResets := [] }) else s) = s := if_neg h
  rw [cplRestart, if_neg hnot, hkeep]
  rfl

theorem cplRestart_failed_below_p1 (h : cplState s = 4) (hp : isP1 r = false) : cplRestart s r = s := if_pos ⟨h, by rw [hp]; rfl⟩

theorem cplHalt_started (h : cplState s = 1 ∨ cplState s = 2) : cplHalt s = cplReset s 3 3 := if_pos h

theorem cplHalt_stopped (h1 : cplState s ≠ 1) (h2 : cplState s ≠ 2) : cplHalt s = s := if_neg fun h => h.elim h1 h2

/-- The slot that the cores may boot: the one that CPL_STATUS names, or where it does not verify the other (R372). -/
def bootSlot (s : State) : Bool := if slotBoots s (getB s F.CPL_STATUS_slot) then getB s F.CPL_STATUS_slot else !getB s F.CPL_STATUS_slot

/-- The cluster runs the image of `f` from slot `b` (R372). -/
def coresRun (s : State) (b : Bool) (f : FwSlot) : State :=
  modCpl (put (putB (putB (put (sramWrite s 0 (sub f.bytes (le f.bytes 0x18 4) (le f.bytes 0x1C 4))) F.CPL_STATUS_state 2)
    F.CPL_STATUS_slot b) F.CPL_STATUS_trial f.trial) F.CPL_STATUS_cores_up 0xFF) (fun x => { x with kicked := 0, startedAt := ticks s })

section
variable (h : cplState s = 1) (hdown : s.wrd.down = false)
include h hdown

theorem not_coresHeld : ¬ (cplState s ≠ cplBooting ∨ s.wrd.down = true) :=
  fun hn => hn.elim (· h) fun hd => Bool.false_ne_true (hdown.symm.trans hd)

theorem coresReleased_empty (hslot : polSlot s (bootSlot s) = none) :
    coresReleased s = raise (cplStop s 4) F.CPL_EVENT_failed .black 0 := by
  rw [coresReleased, if_neg (not_coresHeld h hdown)]
  extract_lets want b
  rw [show polSlot s b = none from hslot]
  rfl

theorem coresReleased_image (hslot : polSlot s (bootSlot s) = some f) : coresReleased s =
    if slotBoots s (bootSlot s) then coresRun s (bootSlot s) f else raise (cplStop s 4) F.CPL_EVENT_failed .black 0 := by
  rw [coresReleased, if_neg (not_coresHeld h hdown)]
  extract_lets want b
  rw [show polSlot s b = some f from hslot, show bootSlot s = b from rfl]
  cases slotBoots s b
  · rfl
  · simp only [coresRun, ticks, putB, put_clk]
    rfl

end

/-! ### Trials (R373) -/

theorem wardenTrial_congr {t : State} (hdown : t.wrd.down = s.wrd.down) (hslot : ∀ b, wrdSlot t b = wrdSlot s b)
    (hrun : getB t F.WRD_STATUS_wslot = getB s F.WRD_STATUS_wslot) : wardenTrial t = wardenTrial s := by
  rw [wardenTrial, hdown, hslot, hrun, wardenTrial]

/-- The cluster's trial slot with its confirmation. -/
def trialConfirmed (s : State) (f : FwSlot) : State :=
  putMax (putB (putPolSlot s (getB s F.CPL_STATUS_slot) (some { f with trial := false })) F.CPL_STATUS_trial false) F.WRD_MIN_SVN_svn f.svn

theorem trialConfirm_running (hrun : cplState s = 2) (htrial : getB s F.CPL_STATUS_trial = true)
    (hslot : polSlot s (getB s F.CPL_STATUS_slot) = some f) : trialConfirm s = trialConfirmed s f := by
  rw [trialConfirm, (cplRunning_iff s).2 hrun, htrial]
  extract_lets b
  rw [show polSlot s b = some f from hslot]
  rfl

theorem wrdSlot_congr {t : State} (h : t.flash.wrdA = s.flash.wrdA) (h' : t.flash.wrdB = s.flash.wrdB) (b : Bool) :
    wrdSlot t b = wrdSlot s b := by rw [wrdSlot, h, h', wrdSlot]

theorem wardenTrial_put {g : Fld} (h : ∀ a ∈ fldWords F.WRD_STATUS_wslot, a ∉ fldWords g) : wardenTrial (put s g v) = wardenTrial s :=
  wardenTrial_congr (by rw [put_wrd]) (wrdSlot_congr (by rw [put_flash]) (by rw [put_flash])) (getB_put_apart s v h)

/-- A policy slot is not one of the warden's. -/
theorem wardenTrial_putPolSlot (s : State) (b : Bool) (x : Option FwSlot) : wardenTrial (putPolSlot s b x) = wardenTrial s := by
  cases b
  · rw [putPolSlot, wardenTrial_put (by decide), wardenTrial_put (by decide)]
    exact wardenTrial_congr rfl (wrdSlot_congr rfl rfl) rfl
  · rw [putPolSlot, wardenTrial_put (by decide), wardenTrial_put (by decide)]
    exact wardenTrial_congr rfl (wrdSlot_congr rfl rfl) rfl

theorem wardenTrial_trialConfirmed (s : State) (f : FwSlot) : wardenTrial (trialConfirmed s f) = wardenTrial s := by
  rw [trialConfirmed, putMax]
  split
  · rw [wardenTrial_put (by decide), putB, wardenTrial_put (by decide), wardenTrial_putPolSlot]
  · rw [putB, wardenTrial_put (by decide), wardenTrial_putPolSlot]

theorem confirmTrials_cluster (hwarden : wardenTrial s = none) (hrun : cplState s = 2) (htrial : getB s F.CPL_STATUS_trial = true)
    (hslot : polSlot s (getB s F.CPL_STATUS_slot) = some f) : confirmTrials s = trialConfirmed s f := by
  rw [confirmTrials, trialConfirm_running hrun htrial hslot, wardenTrial_trialConfirmed, hwarden]

theorem trialDue_cluster (hwarden : wardenTrial s = none) : trialDue s = trialTimeout s := by
  rw [trialDue, hwarden]
  rfl

theorem trialTimeout_running (hrun : cplState s = 2) (htrial : getB s F.CPL_STATUS_trial = true) : trialTimeout s = trialRevert s :=
  if_pos (by rw [(cplRunning_iff s).2 hrun, htrial]; rfl)

theorem trialTimeout_of_no_trial (htrial : getB s F.CPL_STATUS_trial = false) : trialTimeout s = s :=
  if_neg (by rw [htrial, Bool.and_false]; exact Bool.false_ne_true)

/-! ### The watchdog (R380) -/

theorem wdtExpire_stopped (h : cplState s ≠ 2) : wdtExpire s c = s := if_pos (by rw [cplRunning_eq_false h]; rfl)

theorem wdtExpire_watched (hrun : cplState s = 2) (hmask : bit (get s F.CPL_WDT_core_mask) c = true) : wdtExpire s c =
    if bit s.cpl.kicked c then modCpl s (fun x => { x with kicked := setBits x.kicked c 1 0 }) else wdtReset s :=
  if_neg (by simp [(cplRunning_iff s).2 hrun, hmask])

end

/-- Settles O47, from what each command of the cluster does in each of its cases. -/
theorem policyCluster : Obligations.PolicyCluster := by
  unfold Obligations.PolicyCluster
  intro s r v c f slot
  refine ⟨fun hr => ⟨fun h => congrArg (finish s) ?_, fun h hp => congrArg (finish s) ?_, fun h => congrArg (finish s) ?_,
    fun h1 h2 => congrArg (finish s) ?_, fun hwarden hrun htrial hslot => congrArg (finish s) ?_⟩,
    fun hwarden hrun htrial => congrArg (finish s) ?_, fun hwarden htrial => congrArg (finish s) ?_, fun h hdown => 
      ⟨fun hslot => congrArg (finish s) (coresReleased_empty h hdown hslot), fun hslot => congrArg (finish s) (coresReleased_image h hdown hslot)⟩,
    fun hr => congrArg (finish s) ?_, fun hrun hmask hkick => congrArg (finish s) ?_,
    fun hrun hmask hkick => congrArg (finish s) ?_, fun h => congrArg (finish s) (wdtExpire_stopped h)⟩
  · exact (onWrite_of_reaches _ hr).trans (cplRestart_working h)
  · exact (onWrite_of_reaches _ hr).trans (cplRestart_failed_below_p1 h hp)
  · exact (onWrite_of_reaches _ hr).trans (cplHalt_started h)
  · exact (onWrite_of_reaches _ hr).trans (cplHalt_stopped h1 h2)
  · exact (onWrite_of_reaches _ hr).trans (confirmTrials_cluster hwarden hrun htrial hslot)
  · exact (trialDue_cluster hwarden).trans (trialTimeout_running hrun htrial)
  · exact (trialDue_cluster hwarden).trans (trialTimeout_of_no_trial htrial)
  · exact onWrite_of_reaches _ hr
  · exact (wdtExpire_watched hrun hmask).trans (if_pos hkick)
  · exact (wdtExpire_watched hrun hmask).trans (if_neg (Bool.eq_false_iff.1 hkick))

end Sys2Proof.Machine
end

section
/-!
SUPPORT. The temperature levels of a sensor, one equation per band of its reading (R423).
-/
namespace Sys2Proof.Machine
open Sys2Proof

section
variable {s : State} {x : Sensor} {t : Int}

/-- A sensor joins the warnings: its reading and the levels shown. -/
def warned (s : State) (x : Sensor) (t : Int) : State :=
  showLevels (modPwr (showTemp s x t) (fun p => { p with warnSet := addSensor p.warnSet x }))

theorem tempWarning_below (h : t < 1000) : tempWarning s x t = s := if_pos h

theorem tempWarning_new (h : 1000 ≤ t) (hx : s.pwr.warnSet.contains x = false) :
    tempWarning s x t = raise (warned s x t) F.PWR_EVENT_warn .amber (sensorNo x) :=
  (if_neg (Int.not_lt.2 h)).trans (if_pos (by rw [hx]; rfl))

theorem tempWarning_again (h : 1000 ≤ t) (hx : s.pwr.warnSet.contains x = true) : tempWarning s x t = warned s x t :=
  (if_neg (Int.not_lt.2 h)).trans (if_neg (by rw [hx]; exact Bool.false_ne_true))

theorem tempThrottle_new (h : 1050 ≤ t) (hx : (tempWarning s x t).pwr.throttleSet.contains x = false) :
    tempThrottle s x t = raise (showLevels
      (modPwr (tempWarning s x t) (fun p => { p with throttleSet := addSensor p.throttleSet x }))) F.PWR_EVENT_throttle .crimson (sensorNo x) :=
  (if_neg (Int.not_lt.2 h)).trans (if_pos (by rw [hx]; rfl))

/-- The sensor's throttle ends. -/
def coolThrottle (s : State) (x : Sensor) : State :=
  modPwr s (fun p => { p with throttleSet := p.throttleSet.filter (fun y => decide (y ≠ x)) })

/-- The sensor's warning ends. -/
def coolWarning (s : State) (x : Sensor) : State :=
  modPwr s (fun p => { p with warnSet := p.warnSet.filter (fun y => decide (y ≠ x)) })

theorem tempClear_eq : tempClear s x t =
    let u := if t < 1020 then coolThrottle (showTemp s x t) x else showTemp s x t
    showLevels (if t < 970 then coolWarning u x else u) := rfl

theorem tempClear_cold (h : t < 970) : tempClear s x t = showLevels (coolWarning (coolThrottle (showTemp s x t) x) x) := by
  have hthrottle : t < 1020 := by omega
  simp only [tempClear_eq, if_pos h, if_pos hthrottle]

theorem tempClear_cool (hw : 970 ≤ t) (h : t < 1020) : tempClear s x t = showLevels (coolThrottle (showTemp s x t) x) := by
  simp only [tempClear_eq, if_neg (Int.not_lt.2 hw), if_pos h]

theorem tempClear_hot (h : 1020 ≤ t) : tempClear s x t = showLevels (showTemp s x t) := by
  have hwarning : ¬ t < 970 := by omega
  simp only [tempClear_eq, if_neg hwarning, if_neg (Int.not_lt.2 h)]

end

/-- Settles O34, from the equation of each command in each band of the reading. -/
theorem temperature : Obligations.Temperature := by
  unfold Obligations.Temperature
  intro s x t
  refine ⟨fun h hx => congrArg (finish s) ?_, fun h hx => congrArg (finish s) ?_, fun h => congrArg (finish s) ?_,
    fun h hx => congrArg (finish s) ?_, fun h => congrArg (finish s) ?_, fun hw h => congrArg (finish s) ?_,
    fun h => congrArg (finish s) ?_⟩
  · exact tempWarning_new h hx
  · exact tempWarning_again h hx
  · exact tempWarning_below h
  · exact tempThrottle_new h hx
  · exact tempClear_cold h
  · exact tempClear_cool hw h
  · exact tempClear_hot h

end Sys2Proof.Machine
end

section
/-!
SUPPORT. The entry into the safe state, what enters it, and what ends in it (R412, R424 to R426, R435, R458, R459).
-/
namespace Sys2Proof.Machine
open Sys2Proof

section
variable {s : State} {x : Sensor} {t : Int} {q : Path}

/-! ### Entry (R458, R459) -/

theorem safeEnter_again {c : Nat} (h : getB s F.GLB_SAFE_safe = true) : safeEnter s c = s := if_pos h

theorem safeEnter_first {c : Nat} (h : getB s F.GLB_SAFE_safe = false) : safeEnter s c = safeRegions (gaspStart (putB (gatesChanged
    (put (putB (put (put s F.GLB_LAST_SAFE_cause c) F.GLB_LAST_SAFE_FN_fn (if ltValid s then modFn s else 0)) F.GLB_SAFE_safe true)
      F.GLB_SAFE_cause c)) F.GLB_SAFE_lasers_dark true) c) := if_neg (Bool.eq_false_iff.1 h)

/-- The state of a thermal trip in which the module enters the safe state. -/
def tripped (s : State) : State :=
  let u := raiseGrey (putB s F.PWR_STATUS_trip true) F.PWR_EVENT_trip
  { u with pins := { u.pins with thermTripN := u.pins.thermTripN && getB u F.GLB_SAFE_safe }, pwr := { u.pwr with thermalHold := true } }

theorem execThermalTrip_hot (h : 1150 ≤ t) : execThermalTrip x t s = finish s (safeEnter (tripped (tempThrottle s x t)) 1) :=
  congrArg (finish s) (if_neg (Int.not_lt.2 h))

theorem execThermalTrip_below (h : t < 1150) : execThermalTrip x t s = finish s s := congrArg (finish s) (if_pos h)

/-! ### In the safe state (R425, R426, R435) -/

theorem gaspGiveUp_wanted (h : gaspWanted s q = true) : gaspGiveUp s q =
    raiseGrey (setGasp s q false) (match (generalizing := false) q with
      | .a => F.ASH_EVENT_miss_a
      | .b => F.ASH_EVENT_miss_b) := if_pos h

theorem gaspGiveUp_unwanted (h : gaspWanted s q = false) : gaspGiveUp s q = s := if_neg (Bool.eq_false_iff.1 h)

theorem logClose_safe (hsafe : getB s F.GLB_SAFE_safe = true) (hopen : s.evr.closed = false) :
    logClose s = putB (modEvr (flushNow (offer s 0x0523 .black 6 0x05 0 (rdWord s R.ASH_LAST).toNat 0))
      (fun e => { e with closed := true })) F.GLB_SAFE_log_closed true := if_neg (by simp [hsafe, hopen])

theorem logClose_elsewhere (h : getB s F.GLB_SAFE_safe = false ∨ s.evr.closed = true) : logClose s = s :=
  if_pos (by rcases h with h | h <;> simp [h])

theorem bankDischarge_failed (h : getB s F.PWR_STATUS_input_fail = true) :
    bankDischarge s = putB (setGasp (setGasp { s with pwr := { s.pwr with bankEmpty := true } } .a false) .b false) F.ASH_STATUS_vash_ok false :=
  if_pos h

theorem bankDischarge_powered (h : getB s F.PWR_STATUS_input_fail = false) : bankDischarge s = s := if_neg (Bool.eq_false_iff.1 h)

/-! ### What the entry leaves (R458) -/

theorem getB_tripped : getB (tripped s) F.GLB_SAFE_safe =
    getB (raiseGrey (putB s F.PWR_STATUS_trip true) F.PWR_EVENT_trip) F.GLB_SAFE_safe := rfl

theorem safeRegions_epc : (safeRegions s).epc = {} := rfl

theorem safeRegions_pwr : (safeRegions s).pwr.stopped = true ∧ (safeRegions s).pwr.controlOn = false ∧ (safeRegions s).pwr.lineOn = false :=
  ⟨rfl, rfl, rfl⟩

theorem settled_pwr (s t : State) : (settled s t).pwr = t.pwr := settle_pwr _

/-- The first entry into the safe state stops the sequence, empties the commit machinery and takes the control and line regions' power. -/
theorem settled_safeEnter (s : State) {u : State} {c : Nat} (h : getB u F.GLB_SAFE_safe = false) :
    ∃ t, finish s (safeEnter u c) = .next t ∧ t.epc = {} ∧ t.pwr.stopped = true ∧ t.pwr.controlOn = false ∧ t.pwr.lineOn = false := by
  refine ⟨settled s (safeEnter u c), rfl, ?_⟩
  rw [settled_epc, settled_pwr, safeEnter_first h]
  exact ⟨safeRegions_epc, safeRegions_pwr⟩

end

/-- Settles O31, from the two cases of the entry and the entry of each cause. -/
theorem safeStateEntry : Obligations.SafeStateEntry := by
  unfold Obligations.SafeStateEntry
  intro s x t good
  refine ⟨fun c h => safeEnter_again h, fun c h => safeEnter_first h, fun h => ⟨_, rfl, ?_⟩, fun h => ?_, rfl, rfl⟩
  · exact execThermalTrip_hot h
  · exact execThermalTrip_below h

/-- Settles O32, from the equation of each command in each case; the three entries from what `safeRegions` leaves. -/
theorem safeStateEnd : Obligations.SafeStateEnd := by
  unfold Obligations.SafeStateEnd
  intro s
  refine ⟨fun h => congrArg (finish s) (gaspGiveUp_wanted h), fun h => congrArg (finish s) (gaspGiveUp_wanted h),
    fun hsafe hopen => congrArg (finish s) (logClose_safe hsafe hopen), fun h => congrArg (finish s) (logClose_elsewhere h),
    fun h => congrArg (finish s) (bankDischarge_failed h), fun h => congrArg (finish s) (bankDischarge_powered h),
    fun h => congrArg (finish s) (gaspGiveUp_unwanted h), fun h => congrArg (finish s) (gaspGiveUp_unwanted h), fun x c h hopen => ?_,
    fun good h => ?_, fun h => ?_⟩
  · obtain ⟨t, ht, hleft⟩ := settled_safeEnter s (c := 1) (getB_tripped.trans hopen)
    exact ⟨t, (execThermalTrip_hot h).trans ht, hleft⟩
  · exact settled_safeEnter s h
  · exact settled_safeEnter s h

end Sys2Proof.Machine
end

section
/-!
SUPPORT. Requests for a packet region's power state, by PWR_REQ and by the power schedule (R414, R417, R418, R430).
-/
namespace Sys2Proof.Machine
open Sys2Proof

section
variable {s : State} {n t : Nat}

/-! ### What a request reads (R413) -/

/-- A put outside PWR_D_STATE's state field leaves the region's state. -/
theorem regionState_put (s : State) (n : Nat) {f : Fld} (v : Nat) (hf : f.lo + f.w ≤ 32) (h : f.addr ≠ R.PWR_D_STATE n ∨ 2 ≤ f.lo) :
    regionState (put s f v) n = regionState s n :=
  get_put_disjoint s v hf (by simp [F.PWR_D_STATE_state]) (h.imp Ne.symm .inl)

theorem regionState_putB (s : State) (n : Nat) {f : Fld} (b : Bool) (hf : f.lo + f.w ≤ 32) (h : f.addr ≠ R.PWR_D_STATE n ∨ 2 ≤ f.lo) :
    regionState (putB s f b) n = regionState s n := regionState_put s n _ hf h

theorem regionState_modRegionPwr (s : State) (n m : Nat) (f : RegionPwr → RegionPwr) :
    regionState (modRegionPwr s m f) n = regionState s n := rfl

theorem resultWord_ne (n : Nat) : R.PWR_REQ_RESULT ≠ R.PWR_D_STATE n := by simp only [R.PWR_REQ_RESULT, R.PWR_D_STATE]; omega

theorem tokenWord_ne (n : Nat) : R.PWR_TOKEN ≠ R.PWR_D_STATE n := by simp only [R.PWR_TOKEN, R.PWR_D_STATE]; omega

theorem regionState_pwrResult (s : State) (n code block step : Nat) : regionState (pwrResult s code block step) n = regionState s n := by
  unfold pwrResult
  rw [regionState_put _ _ _ (by decide) (.inl (resultWord_ne n)), regionState_put _ _ _ (by decide) (.inl (resultWord_ne n)),
    regionState_put _ _ _ (by decide) (.inl (resultWord_ne n))]

theorem regionBusy_put_result (s : State) (n : Nat) {f : Fld} (v : Nat) (hf : f.lo + f.w ≤ 32) (h : f.addr = R.PWR_REQ_RESULT) :
    regionBusy (put s f v) n = regionBusy s n :=
  getB_put_disjoint s v hf (by simp [F.PWR_D_STATE_busy]) (.inl (h ▸ (resultWord_ne n).symm))

theorem regionBusy_pwrResult (s : State) (n code block step : Nat) : regionBusy (pwrResult s code block step) n = regionBusy s n := by
  unfold pwrResult
  rw [regionBusy_put_result _ _ _ (by decide) rfl, regionBusy_put_result _ _ _ (by decide) rfl, regionBusy_put_result _ _ _ (by decide) rfl]

theorem inFault_pwrResult (s : State) (n code block step : Nat) : inFault (pwrResult s code block step) n = inFault s n := by
  have hflt : (pwrResult s code block step).flt = s.flt := by simp only [pwrResult, put_flt]
  rw [inFault, inFault, fltRegion, fltRegion, hflt]

theorem regionState_tokenRequest (s : State) (n : PktRegion) : regionState (tokenRequest s (.region n)) n = regionState s n := by
  unfold tokenRequest
  split
  · rfl
  · exact (regionState_put _ n.val _ (by simp [F.PWR_D_STATE_token_wait]) (.inr (by simp [F.PWR_D_STATE_token_wait]))).trans
      (regionState_put (tokenJoin s (.region n)) n.val _ (by decide) (.inl (tokenWord_ne n.val)))

/-- The beginning of an exit leaves the state the region is in. -/
theorem regionState_startExit (s : State) (n : PktRegion) (k : ExitKind) : regionState (startExit s n k) n = regionState s n := by
  have hramp : regionRamp n.val = .region n := dif_pos n.isLt
  unfold startExit
  rw [hramp, regionState_tokenRequest, regionState_modRegionPwr,
    regionState_put _ _ _ (by simp [F.PWR_D_STATE_step]) (.inr (by simp [F.PWR_D_STATE_step])),
    regionState_putB _ _ _ (by simp [F.PWR_D_STATE_busy]) (.inr (by simp [F.PWR_D_STATE_busy])),
    regionState_put _ _ _ (by simp [F.PWR_D_STATE_target]) (.inr (by simp [F.PWR_D_STATE_target]))]

/-! ### A wake of a region in no transition (R417, R418) -/

theorem wake_idle (hbusy : regionBusy s n = false) (hf : inFault s n = false) (hs : regionState s n = 1) :
    wake s n = portsDown (put s (F.PWR_D_STATE_state n) 0) n := by
  simp [wake, hbusy, hf, hs]

theorem wake_on (hbusy : regionBusy s n = false) (hs : regionState s n = 0) : wake s n = s := by
  simp [wake, hbusy, hs]

theorem wake_asleep (hbusy : regionBusy s n = false) (hf : inFault s n = false) (hlo : 2 ≤ regionState s n) (hhi : regionState s n ≤ 3) :
    wake s n = startExit s n (if regionState s n = 2 then .fromDim else .fromOff) := by
  obtain hs | hs : regionState s n = 2 ∨ regionState s n = 3 := by omega
  · simp [wake, hbusy, hf, hs]
  · simp [wake, hbusy, hf, hs]

theorem inFault_of_powerFixed (h : powerFixed s n = false) : inFault s n = false := by
  simp only [powerFixed, Bool.or_eq_false_iff] at h
  exact h.1.1

/-! ### The cases of a request (R414) -/

/-- Whether target `t` is ON or in the region's allow mask. -/
def Permitted (s : State) (n t : Nat) : Prop := t = 0 ∨ bit (get s (F.PWR_D_CFG_allow n)) (t - 1) = true

/-- A request that goes on past its checks: it answers OK and wakes the region. -/
def requestGoesOn (s : State) (n t : Nat) : State :=
  let u := wake (pwrResult s 0 0 0) n
  if t = 0 then u
  else if regionState u n = 0 then startEntry u n t
  else modRegionPwr u n (fun p => { p with after := some t })

theorem not_forbidden (h : Permitted s n t) : ¬ (t ≠ 0 ∧ (!bit (get s (F.PWR_D_CFG_allow n)) (t - 1)) = true) := by
  rcases h with h | h <;> simp [h]

theorem powerRequest_forbidden (ht : t ≠ 0) (h : bit (get s (F.PWR_D_CFG_allow n)) (t - 1) = false) :
    powerRequest s n t = pwrResult s 4 0 0 := if_pos ⟨ht, by rw [h]; rfl⟩

theorem powerRequest_busy (ht : t ≠ 0) (h : Permitted s n t) (hbusy : regionBusy s n = true) : powerRequest s n t = pwrResult s 1 0 0 :=
  (if_neg (not_forbidden h)).trans ((if_pos hbusy).trans (if_neg ht))

theorem powerRequest_busy_on (hbusy : regionBusy s n = true) : powerRequest s n 0 = wake s n :=
  (if_neg (not_forbidden (.inl rfl))).trans ((if_pos hbusy).trans (if_pos rfl))

theorem powerRequest_there (h : Permitted s n t) (hbusy : regionBusy s n = false) (hs : regionState s n = t) :
    powerRequest s n t = pwrResult s 0 0 0 :=
  (if_neg (not_forbidden h)).trans ((if_neg (Bool.eq_false_iff.1 hbusy)).trans (if_pos hs))

theorem powerRequest_fixed (h : Permitted s n t) (hbusy : regionBusy s n = false) (hs : regionState s n ≠ t) (hf : powerFixed s n = true) :
    powerRequest s n t = pwrResult s 1 0 0 :=
  (if_neg (not_forbidden h)).trans ((if_neg (Bool.eq_false_iff.1 hbusy)).trans ((if_neg hs).trans (if_pos hf)))

theorem powerRequest_free (h : Permitted s n t) (hbusy : regionBusy s n = false) (hs : regionState s n ≠ t) (hf : powerFixed s n = false) :
    powerRequest s n t = requestGoesOn s n t :=
  (if_neg (not_forbidden h)).trans ((if_neg (Bool.eq_false_iff.1 hbusy)).trans ((if_neg hs).trans (if_neg (Bool.eq_false_iff.1 hf))))

/-! ### How a request goes on, by the region's state -/

theorem requestGoesOn_on (ht : t ≠ 0) (hbusy : regionBusy s n = false) (hs : regionState s n = 0) :
    requestGoesOn s n t = startEntry (pwrResult s 0 0 0) n t := by
  have hs' := (regionState_pwrResult s n 0 0 0).trans hs
  simp only [requestGoesOn, wake_on ((regionBusy_pwrResult s n 0 0 0).trans hbusy) hs', if_neg ht, if_pos hs']

/-- The wake of a region in IDLE that answers OK. -/
def idleWoken (s : State) (n : Nat) : State := portsDown (put (pwrResult s 0 0 0) (F.PWR_D_STATE_state n) 0) n

theorem wake_pwrResult_idle (hbusy : regionBusy s n = false) (hf : inFault s n = false) (hs : regionState s n = 1) :
    wake (pwrResult s 0 0 0) n = idleWoken s n :=
  wake_idle ((regionBusy_pwrResult s n 0 0 0).trans hbusy) ((inFault_pwrResult s n 0 0 0).trans hf) ((regionState_pwrResult s n 0 0 0).trans hs)

theorem wake_pwrResult_asleep (hbusy : regionBusy s n = false) (hf : inFault s n = false) (hlo : 2 ≤ regionState s n)
    (hhi : regionState s n ≤ 3) :
    wake (pwrResult s 0 0 0) n = startExit (pwrResult s 0 0 0) n (if regionState s n = 2 then .fromDim else .fromOff) := by
  have hs := regionState_pwrResult s n 0 0 0
  rw [wake_asleep ((regionBusy_pwrResult s n 0 0 0).trans hbusy) ((inFault_pwrResult s n 0 0 0).trans hf) (hs ▸ hlo) (hs ▸ hhi), hs]

theorem requestGoesOn_for_on : requestGoesOn s n 0 = wake (pwrResult s 0 0 0) n := by
  simp only [requestGoesOn, if_true]

theorem requestGoesOn_idle (ht : t ≠ 0) (hbusy : regionBusy s n = false) (hf : inFault s n = false) (hs : regionState s n = 1)
    (hw : regionState (idleWoken s n) n = 0) : requestGoesOn s n t = startEntry (idleWoken s n) n t := by
  simp only [requestGoesOn, wake_pwrResult_idle hbusy hf hs, if_neg ht, if_pos hw]

theorem requestGoesOn_asleep {n : PktRegion} (ht : t ≠ 0) (hbusy : regionBusy s n = false) (hf : inFault s n = false)
    (hlo : 2 ≤ regionState s n) (hhi : regionState s n ≤ 3) :
    requestGoesOn s n t = modRegionPwr (startExit (pwrResult s 0 0 0) n (if regionState s n = 2 then .fromDim else .fromOff)) n
      (fun p => { p with after := some t }) := by
  have hstays : regionState (startExit (pwrResult s 0 0 0) n (if regionState s n = 2 then .fromDim else .fromOff)) n ≠ 0 := by
    rw [regionState_startExit, regionState_pwrResult]
    omega
  simp only [requestGoesOn, wake_pwrResult_asleep hbusy hf hlo hhi, if_neg ht, if_neg hstays]

/-! ### The two ways a request comes (R414, R430) -/

theorem pwrRequest_of_fn {i : Fin 16} {n t : Nat} (h : Reaches s (.fn i) R.PWR_REQ true) :
    pwrRequest (.fn i) n t s = inc s F.PWR_REQ_DENY_count := onWrite_of_reaches _ h

theorem pwrRequest_of_other {r : Requester} {n t : Nat} (h : Reaches s r R.PWR_REQ true) (hr : ∀ i, r ≠ .fn i) :
    pwrRequest r n t s = powerRequest (put (put s F.PWR_REQ_domain n) F.PWR_REQ_target t) n t := by
  refine (onWrite_of_reaches _ h).trans ?_
  cases r with
  | fn i => exact absurd rfl (hr i)
  | _ => rfl

theorem moduleAct_schedule (old s : State) (k : Fin 32) (c : Nat) : moduleAct old s (168 + k.val) c = scheduleFire old s k.val := by
  unfold moduleAct
  rw [if_neg (by omega), if_neg (by omega), if_neg (by omega), if_neg (by omega), if_neg (by omega), if_neg (by omega), if_neg (by omega),
    if_pos (by omega), Nat.add_sub_cancel_left]

/-- A schedule entry that fires shows state 2. -/
theorem get_markFired_schedule (s : State) (k : Fin 32) (late : Bool) :
    get (markFired s (168 + k.val) late) (F.PWR_SCHED_CTRL_state k.val) = 2 := by
  simp only [markFired]
  rw [if_pos (by omega), Nat.add_sub_cancel_left]
  exact get_put_same _ _ (by simp [F.PWR_SCHED_CTRL_state])

end

/-- Settles O35: a request by its checks in their order, and one that passes them by the state the region is in. -/
theorem powerRequestAnswers : Obligations.PowerRequest := by
  unfold Obligations.PowerRequest
  refine ⟨fun s r n t hr => ⟨?_, fun h => congrArg (finish s) (pwrRequest_of_other hr h)⟩, fun old s k c late => ?_, fun u n t => ?_⟩
  · rintro i rfl
    exact congrArg (finish s) (pwrRequest_of_fn hr)
  · refine ⟨get_markFired_schedule s k late, fun ht h => ?_, fun h => ?_⟩
    · exact (moduleAct_schedule ..).trans (if_pos ⟨ht, h⟩)
    · exact (moduleAct_schedule ..).trans (if_neg fun hboth => h.elim hboth.1 (· hboth.2))
  · refine ⟨fun ht h => powerRequest_forbidden ht h, fun ht h hb => powerRequest_busy ht (.inr h) hb, fun ht hb => ?_,
      fun ok hb hs => powerRequest_there ok hb hs, fun ok hb hs hf => powerRequest_fixed ok hb hs hf, fun ht h hb hf hs => ?_,
      fun ht hb hf hs => ?_, fun ht h hb hf hs hw => ?_, fun ht hb hf hlo hhi => ?_, fun ht h hb hf hlo hhi hne => ?_⟩
    · rw [ht]; exact powerRequest_busy_on hb
    · exact (powerRequest_free (.inr h) hb (by omega) hf).trans (requestGoesOn_on ht hb hs)
    · rw [ht, powerRequest_free (.inl rfl) hb (by omega) hf, requestGoesOn_for_on]
      exact wake_pwrResult_idle hb (inFault_of_powerFixed hf) hs
    · exact (powerRequest_free (.inr h) hb (by omega) hf).trans (requestGoesOn_idle (by omega) hb (inFault_of_powerFixed hf) hs hw)
    · rw [ht, powerRequest_free (.inl rfl) hb (by omega) hf, requestGoesOn_for_on]
      exact wake_pwrResult_asleep hb (inFault_of_powerFixed hf) hlo hhi
    · exact (powerRequest_free (.inr h) hb hne hf).trans (requestGoesOn_asleep ht hb (inFault_of_powerFixed hf) hlo hhi)

end Sys2Proof.Machine
end

section
/-!
SUPPORT. The steps of a region's handling and the restart of a HELD region, one equation per case (R455 to R457).
-/
namespace Sys2Proof.Machine
open Sys2Proof

section
variable {s : State} {r : Nat} {x : Requester}

/-! ### F1 and F2 (R455, R456) -/

theorem f1Done_ordered (h : (fltRegion s r).manual = true) : f1Done s r = startF2 s r := if_pos h

theorem f1Done_held (h : (fltRegion s r).manual = false) (hauto : bit (get s F.FLT_CTRL_auto_reset) r = false) :
    f1Done s r = holdRegion s r .grey :=
  (if_neg (Bool.eq_false_iff.1 h)).trans (if_pos (by rw [hauto]; rfl))

/-- An automatic reset is allowed or not by the count of those of the last 600 s. -/
theorem f1Done_automatic (h : (fltRegion s r).manual = false) (hauto : bit (get s F.FLT_CTRL_auto_reset) r = true) :
    f1Done s r = if max 1 (get s F.FLT_CTRL_reset_limit) ≤ (recentResets s r).length then
        modCovered s r (fun f => { f with step := 2, overLimit := true })
      else startF2 (modFlt s r (fun f => { f with resets := ticks s :: recentResets s r })) r :=
  (if_neg (Bool.eq_false_iff.1 h)).trans (if_neg (by rw [hauto]; exact Bool.false_ne_true))

theorem f2Done_over_limit (h : (fltRegion (f2Work s r) r).overLimit = true) : f2Done s r = holdRegion (f2Work s r) r .black := if_pos h

theorem f2Done_packet (h : (fltRegion (f2Work s r) r).overLimit = false) (hr : r < 4) :
    f2Done s r = startExit (modCovered (f2Work s r) r (fun f => { f with step := 3 })) r .restart :=
  (if_neg (Bool.eq_false_iff.1 h)).trans (if_pos hr)

/-! ### The steps in their order -/

/-- Whether the region's own handling goes on: not in the safe state, and not within the control region's reset (R457). -/
theorem handling_goes_on (hsafe : getB s F.GLB_SAFE_safe = false) (hctl : r = 4 → inFault s 5 = false) :
    (getB s F.GLB_SAFE_safe || (decide (r = 4) && inFault s 5)) = false := by
  by_cases hr : r = 4
  · simp [hsafe, hctl hr]
  · simp [hsafe, hr]

theorem regionStepDone_eq (hsafe : getB s F.GLB_SAFE_safe = false) (hctl : r = 4 → inFault s 5 = false) :
    regionStepDone s r = if (fltRegion s r).step = 1 then f1Done s r else if (fltRegion s r).step = 2 then f2Done s r
      else if (fltRegion s r).step = 3 then f3Done s r else s :=
  if_neg (Bool.eq_false_iff.1 (handling_goes_on hsafe hctl))

/-! ### The restart of a HELD region (R456) -/

theorem restartHeld_held (hsafe : getB s F.GLB_SAFE_safe = false) (hctl : r = 4 → inFault s 5 = false) (h : (fltRegion s r).held = true) :
    restartHeld s r = startF2 (modCovered s r (fun f => { f with resets := [], overLimit := false, manual := true })) r := by
  have hgoes := handling_goes_on hsafe hctl
  simp only [Bool.or_eq_false_iff] at hgoes
  refine if_neg (Bool.eq_false_iff.1 ?_)
  rw [h, hgoes.1, hgoes.2]
  rfl

theorem restartHeld_other (h : (fltRegion s r).held = false) : restartHeld s r = s := if_pos (by simp [h])

theorem fltReset_ordered (hr : Reaches s x (R.FLT_R_CTRL r) true) (hp : isP1 x = true) : fltReset x r s = restartHeld s r :=
  (onWrite_of_reaches _ hr).trans (if_pos hp)

theorem fltReset_below (hr : Reaches s x (R.FLT_R_CTRL r) true) (hp : isP1 x = false) : fltReset x r s = s :=
  (onWrite_of_reaches _ hr).trans (if_neg (Bool.eq_false_iff.1 hp))

/-- An order below P1, or of a region that is not HELD, changes nothing. -/
theorem fltReset_void (hr : Reaches s x (R.FLT_R_CTRL r) true) (h : isP1 x = false ∨ (fltRegion s r).held = false) : fltReset x r s = s := by
  rcases Bool.eq_false_or_eq_true (isP1 x) with hp | hp
  · exact (fltReset_ordered hr hp).trans (restartHeld_other (h.resolve_left (by rw [hp]; exact Bool.noConfusion)))
  · exact fltReset_below hr hp

end

/-- Settles O38, from the equation of the step that ends and of the order in each case. -/
theorem regionReset : Obligations.RegionReset := by
  unfold Obligations.RegionReset
  intro s r x hsafe hctl f past
  have hstep := regionStepDone_eq hsafe hctl
  have hF1 (h : f.step = 1) : regionStepDone s r = f1Done s r := hstep.trans (if_pos h)
  have hF2 (h : f.step = 2) : regionStepDone s r = f2Done s r :=
    hstep.trans ((if_neg (by rw [h]; decide)).trans (if_pos h))
  refine ⟨fun h hm => congrArg (finish s) ?_, fun h hm ha => congrArg (finish s) ?_, fun h hm ha hl => congrArg (finish s) ?_,
    fun h hm ha hl => congrArg (finish s) ?_, fun h ho => congrArg (finish s) ?_, fun h ho hr => congrArg (finish s) ?_,
    fun h => congrArg (finish s) ?_, fun hr hp hh => congrArg (finish s) ?_, fun hr hv => congrArg (finish s) ?_⟩
  · exact (hF1 h).trans (f1Done_ordered hm)
  · exact (hF1 h).trans (f1Done_held hm ha)
  · exact (hF1 h).trans ((f1Done_automatic hm ha).trans (if_neg (Nat.not_le.2 hl)))
  · exact (hF1 h).trans ((f1Done_automatic hm ha).trans (if_pos hl))
  · exact (hF2 h).trans (f2Done_over_limit ho)
  · exact (hF2 h).trans (f2Done_packet ho hr)
  · rw [show (fltRegion s r).step = 0 from h] at hstep
    exact hstep
  · exact (fltReset_ordered hr hp).trans (restartHeld_held hsafe hctl hh)
  · exact fltReset_void hr hv

end Sys2Proof.Machine
end

section
/-!
SUPPORT. The event recorder: flush, reading windows, rate limits, and where a record goes (R433, R436 to R440, R442, R443).
-/
namespace Sys2Proof.Machine
open Sys2Proof

section
variable {s : State} {r : Requester} {x : Rec}

/-! ### Flush, windows, limits (R436, R439, R440, R443) -/

theorem flushNow_open (hstore : getB s F.EVR_STATUS_store = false) (hopen : s.evr.closed = false) : flushNow s = flushAll s :=
  if_neg (by simp [hstore, hopen])

theorem flushNow_failed (h : getB s F.EVR_STATUS_store = true) : flushNow s = s := if_pos (by rw [h]; rfl)

theorem windowCopied_empty (h : (logWin s r).busy = true) (hl : recordsFrom s (logWin s r).cursor 64 = []) : windowCopied s r =
    modWin s r (fun w => { w with busy := false, recs := [], gen := get s F.EVR_GEN_gen, gap := false }) := by
  simp [windowCopied, h, hl]

theorem windowCopied_some {m : List Rec} (h : (logWin s r).busy = true) (hl : recordsFrom s (logWin s r).cursor 64 = x :: m) :
    windowCopied s r = modWin s r (fun w => { w with
      busy := false, recs := x :: m, gen := get s F.EVR_GEN_gen, gap := decide (x.seq % 2 ^ 32 ≠ (logWin s r).cursor % 2 ^ 32) }) := by
  simp [windowCopied, h, hl]

/-! ### The seq that a record uses (R431, R432) -/

theorem refreshLog_evr (s : State) : (refreshLog s).evr = s.evr := by
  simp only [refreshLog]
  split <;> simp only [put_evr]

theorem dropAged_log (s : State) : (dropAged s).evr.log =
    s.evr.log.filter (fun x => decide ((get s F.EVR_SEQ_NEXT_seq + 2 ^ 32 - x.seq % 2 ^ 32) % 2 ^ 32 < 2 ^ 30)) := by
  rw [dropAged, addTo, put_evr]

theorem dropAged_jet (s : State) : (dropAged s).evr.jet = s.evr.jet := by rw [dropAged, addTo, put_evr]

theorem seqUsed_log (s : State) : (seqUsed s).evr.log = (dropAged (put s F.EVR_SEQ_NEXT_seq (get s F.EVR_SEQ_NEXT_seq + 1))).evr.log := by
  rw [seqUsed, refreshLog_evr]

theorem seqUsed_jet (s : State) : (seqUsed s).evr.jet = s.evr.jet := by rw [seqUsed, refreshLog_evr, dropAged_jet, put_evr]

/-- Ageing goes by the log and the seq put alone. -/
theorem dropAged_log_congr {t : State} (v : Nat) (h : t.evr.log = s.evr.log) :
    (dropAged (put t F.EVR_SEQ_NEXT_seq v)).evr.log = (dropAged (put s F.EVR_SEQ_NEXT_seq v)).evr.log := by
  rw [dropAged_log, dropAged_log, get_put_same _ _ (by decide), get_put_same _ _ (by decide), put_evr, put_evr, h]

/-! ### Where a record goes (R425, R436, R437, R442) -/

theorem makeRoom_of_lt {cap : Nat} {v : Sev} {l : List Rec} (h : l.length < cap) : makeRoom cap v l = some (l, false) := if_pos h

/-- Jet with a record added. -/
def jetted (s : State) (x : Rec) : State := { s with evr := { s.evr with jet := s.evr.jet ++ [{ x with jet := true }] } }

/-- The log with a record added. -/
def logged (s : State) (x : Rec) : State := { s with evr := { s.evr with log := s.evr.log ++ [x] } }

theorem jetPut_of_lt (h : s.evr.jet.length < 16) : jetPut s x = (jetted s x, true) := by
  rw [jetPut, makeRoom_of_lt h]
  rfl

theorem jetOnly_of_lt (h : s.evr.jet.length < 16) : jetOnly s x = seqUsed (jetted s x) := by
  rw [jetOnly, jetPut_of_lt h]

section
variable (hstore : getB s F.EVR_STATUS_store = false)
include hstore

theorem admitRec_closed_black (hc : s.evr.closed = true) (hb : x.sev = .black) : admitRec s x = jetOnly s x :=
  (if_neg (Bool.eq_false_iff.1 hstore)).trans ((if_pos hc).trans (if_pos hb))

theorem admitRec_closed_other (hc : s.evr.closed = true) (hb : x.sev ≠ .black) : admitRec s x = countDrop s x.sev :=
  (if_neg (Bool.eq_false_iff.1 hstore)).trans ((if_pos hc).trans (if_neg hb))

theorem admitRec_unflushed_full (hc : s.evr.closed = false) (h : 65536 ≤ (s.evr.log.filter (fun y => !y.flushed)).length) :
    admitRec s x = countDrop s x.sev :=
  (if_neg (Bool.eq_false_iff.1 hstore)).trans ((if_neg (Bool.eq_false_iff.1 hc)).trans (if_pos h))

theorem admitRec_room (hc : s.evr.closed = false) (h : (s.evr.log.filter (fun y => !y.flushed)).length < 65536)
    (hroom : s.evr.log.length < 262144) (hb : x.sev ≠ .black) : admitRec s x = seqUsed (logged s { x with jet := false }) := by
  rw [admitRec, if_neg (Bool.eq_false_iff.1 hstore), if_neg (Bool.eq_false_iff.1 hc), if_neg (Nat.not_le.2 h), makeRoom_of_lt hroom]
  simp [hb, whenB, logged]

theorem admitRec_room_black (hc : s.evr.closed = false) (h : (s.evr.log.filter (fun y => !y.flushed)).length < 65536)
    (hroom : s.evr.log.length < 262144) (hb : x.sev = .black) (hj : s.evr.jet.length < 16) :
    admitRec s x = seqUsed (logged (jetted s x) { x with jet := true }) := by
  rw [admitRec, if_neg (Bool.eq_false_iff.1 hstore), if_neg (Bool.eq_false_iff.1 hc), if_neg (Nat.not_le.2 h), makeRoom_of_lt hroom]
  simp [hb, whenB, logged, jetted, jetPut_of_lt hj]

end

end

/-- Settles O39: the commands by their equations; a record by where `admitRec` puts it, and the log by what its seq drops. -/
theorem eventRecorder : Obligations.EventRecorder := by
  unfold Obligations.EventRecorder
  refine ⟨fun s r c w f => ?_, fun s r hstore => ?_⟩
  · refine ⟨fun hstore hopen => ⟨congrArg (finish s) ?_, fun hr => congrArg (finish s) ?_⟩, fun h => congrArg (finish s) ?_, rfl,
      fun hr => congrArg (finish s) (onWrite_of_reaches _ hr), fun h => ⟨fun hl => congrArg (finish s) ?_, fun x m hl => congrArg (finish s) ?_⟩,
      rfl, rfl, fun hr => congrArg (finish s) (onWrite_of_reaches _ hr), rfl, rfl⟩
    · exact flushNow_open hstore hopen
    · exact (onWrite_of_reaches _ hr).trans (flushNow_open hstore hopen)
    · exact flushNow_failed h
    · exact windowCopied_empty h hl
    · exact windowCopied_some h hl
  · refine ⟨dropAged_log, fun hc hb hj => ?_, fun hc hb => admitRec_closed_other hstore hc hb,
      fun hc h => admitRec_unflushed_full hstore hc h, fun hc hroom hb => ?_, fun hc hroom hb hj => ?_⟩
    · rw [admitRec_closed_black hstore hc hb, jetOnly_of_lt hj, seqUsed_jet, seqUsed_log]
      exact ⟨rfl, dropAged_log_congr _ rfl⟩
    · rw [admitRec_room hstore hc hroom.1 hroom.2 hb, seqUsed_jet, seqUsed_log]
      exact ⟨dropAged_log_congr _ rfl, rfl⟩
    · rw [admitRec_room_black hstore hc hroom.1 hroom.2 hb hj, seqUsed_jet, seqUsed_log]
      exact ⟨dropAged_log_congr _ rfl, rfl⟩

end Sys2Proof.Machine
end

section
/-!
SUPPORT. The authorised clear of the log and the writes of counters, one equation per case (R441, R446, R447).
-/
namespace Sys2Proof.Machine
open Sys2Proof

section
variable {s : State} {r : Requester}

/-! ### Challenge and response (R441) -/

/-- The state that an accepted challenge leaves: a fresh nonce shown and its time noted. -/
def clrChallenged (s : State) : State :=
  let u := putWords (stepFree s) F.EVR_CLR_NONCE_bits 8 (freeBytes s 32)
  modEvr (put u F.EVR_CLR_CTRL_result 0) (fun e => { e with nonceAt := some (ticks u) })

theorem clrChallenge_locked (h : s.evr.locked = true) : clrChallenge s = put s F.EVR_CLR_CTRL_result 3 := if_pos h

theorem clrChallenge_open (h : s.evr.locked = false) (hdown : s.wrd.down = false)
    (hupto : seqAfter (get s F.EVR_SEQ_NEXT_seq) (get s F.EVR_CLR_UPTO_seq) = true) : clrChallenge s = clrChallenged s :=
  (if_neg (Bool.eq_false_iff.1 h)).trans ((if_neg (Bool.eq_false_iff.1 hdown)).trans (if_neg (by rw [hupto]; exact Bool.false_ne_true)))

theorem modEvr_free (s : State) (f : Evr → Evr) : (modEvr s f).free = s.free := rfl

theorem get_modEvr (s : State) (f : Evr → Evr) (g : Fld) : get (modEvr s f) g = get s g := rfl

theorem putWords_free (s : State) (f : Nat → Fld) (k : Nat) (bs : List Byte) : (putWords s f k bs).free = s.free :=
  List.foldlRecOn (motive := fun t => t.free = s.free) (List.range k) _ rfl fun t ht w _ => (put_free t (f w) _).trans ht

/-- A challenge shows result 0 and uses one free value. -/
theorem clrChallenged_shows (s : State) : (clrChallenged s).evr.nonceAt.isSome = true ∧ get (clrChallenged s) F.EVR_CLR_CTRL_result = 0 ∧
    (clrChallenged s).free = s.free + 1 := by
  unfold clrChallenged
  rw [get_modEvr, get_put_same _ _ (by decide), modEvr_free, put_free, putWords_free]
  exact ⟨rfl, rfl, rfl⟩

/-- An order of EVR_CLR_CTRL acts at P1 alone. -/
theorem clrOrder_p1 {g : State → State} (hr : Reaches s r R.EVR_CLR_CTRL true) (hp : isP1 r = true) :
    onWrite s r R.EVR_CLR_CTRL (fun s => if isP1 r then g s else s) = g s :=
  (onWrite_of_reaches _ hr).trans (if_pos hp)

theorem clrOrder_below {g : State → State} (hr : Reaches s r R.EVR_CLR_CTRL true) (hp : isP1 r = false) :
    onWrite s r R.EVR_CLR_CTRL (fun s => if isP1 r then g s else s) = s :=
  (onWrite_of_reaches _ hr).trans (if_neg (Bool.eq_false_iff.1 hp))

/-! ### The check (R441) -/

/-- The state after a clear's check has used its nonce. -/
def clrChecked (s : State) : State := modEvr s (fun e => { e with verifying := false, nonceAt := none })

def clrPassed (s : State) : State :=
  raiseGrey (clearLog (modEvr (put (clrChecked s) F.EVR_CLR_CTRL_result 1) (fun e => { e with fails := 0 }))) F.EVR_EVENT_cleared

def clrFailed (s : State) : State := raise (modEvr (put (clrChecked s) F.EVR_CLR_CTRL_result 2) (fun e => { e with
  fails := (s.evr.fails + 1) % 3, locked := s.evr.locked || decide (3 ≤ s.evr.fails + 1) })) F.EVR_EVENT_clr_fail .amber 0

/-- Whether a clear's nonce of the last 10 s stands. -/
def clrFresh (s : State) : Bool := match s.evr.nonceAt with
  | some t => decide (s.clk.ticks - t ≤ usTicks 10000000)
  | none => false

theorem clrVerify_checks (h : s.evr.verifying = true) (hdown : s.wrd.down = false) : clrVerify s =
    if clrFresh s && Config.ecdsaVerify s.flash.rootKey (clrMessage s) (arrayBytes s F.EVR_CLR_SIG_bits 24) then clrPassed s else clrFailed s := by
  have hlocked : (put (clrChecked s) F.EVR_CLR_CTRL_result 2).evr.locked = s.evr.locked := by rw [put_evr]; rfl
  have hfailed : clrFailed s = raise (modEvr (put (clrChecked s) F.EVR_CLR_CTRL_result 2) (fun e => { e with
      fails := (s.evr.fails + 1) % 3, locked := e.locked || decide (3 ≤ s.evr.fails + 1) })) F.EVR_EVENT_clr_fail .amber 0 := by
    simp only [clrFailed, modEvr, hlocked]
  rw [hfailed]
  exact if_neg (by simp [h, hdown])

theorem clrFresh_none (h : s.evr.nonceAt = none) : clrFresh s = false := by rw [clrFresh, h]

theorem clrFresh_some {t : Nat} (h : s.evr.nonceAt = some t) (ht : s.clk.ticks - t ≤ usTicks 10000000) : clrFresh s = true := by
  rw [clrFresh, h]
  exact decide_eq_true ht

theorem clrVerify_stale (h : s.evr.verifying = true) (hdown : s.wrd.down = false) (hn : s.evr.nonceAt = none) : clrVerify s = clrFailed s := by
  rw [clrVerify_checks h hdown, clrFresh_none hn]
  rfl

theorem clrVerify_fresh {t : Nat} (h : s.evr.verifying = true) (hdown : s.wrd.down = false) (hn : s.evr.nonceAt = some t)
    (ht : s.clk.ticks - t ≤ usTicks 10000000) : clrVerify s =
      if Config.ecdsaVerify s.flash.rootKey (clrMessage s) (arrayBytes s F.EVR_CLR_SIG_bits 24) then clrPassed s else clrFailed s := by
  rw [clrVerify_checks h hdown, clrFresh_some hn ht, Bool.true_and]

end

/-- Settles O40, from the equation of each order, check and write in each case. -/
theorem logClear : Obligations.LogClear := by
  unfold Obligations.LogClear
  intro s r c v on
  refine ⟨fun hr hp h => congrArg (finish s) ?_, fun hr hp h hdown hupto => ?_, fun hr hp => ⟨?_, ?_⟩, fun hr hp => congrArg (finish s) ?_,
    fun h hdown => ⟨fun hn => congrArg (finish s) ?_, fun t hn ht => congrArg (finish s) ?_⟩, rfl, fun hr he => congrArg (finish s) ?_,
    fun hr he => congrArg (finish s) ?_, fun hr => congrArg (finish s) (onWrite_of_reaches _ hr)⟩
  · exact (clrOrder_p1 hr hp).trans (clrChallenge_locked h)
  · exact ⟨clrChallenged s, congrArg (finish s) ((clrOrder_p1 hr hp).trans (clrChallenge_open h hdown hupto)), clrChallenged_shows s⟩
  · exact congrArg (finish s) (clrOrder_below hr hp)
  · exact congrArg (finish s) (clrOrder_below hr hp)
  · exact clrOrder_p1 hr hp
  · exact clrVerify_stale h hdown hn
  · exact clrVerify_fresh h hdown hn ht
  · exact (onWrite_of_reaches _ hr).trans (if_neg (Bool.eq_false_iff.1 he))
  · exact (onWrite_of_reaches _ hr).trans (if_pos he)

end Sys2Proof.Machine
end

section
/-!
SUPPORT. What takes P0 away from the PF, and what it may access without it (R386, R388).
-/
namespace Sys2Proof.Machine
open Sys2Proof

/-- The privileges in which the PF does not hold P0. -/
def noP0 : Set Privileges := { p | p.p0 = false }

section
variable {s : State}

theorem kept_noP0_dropP0 (s : State) : Kept noP0 (dropP0 s) := rfl

/-- Every ring stopped, P0 given up (R385). -/
def ringsStopped (s : State) : State := (List.range 16).foldl stopRingsOf (dropP0 s)

/-- No PCIe link. -/
def linkGone (s : State) : State := put (put (put s F.HIF_LINK_speed 0) F.HIF_LINK_width 0) F.HIF_LINK_flit 0

/-- PERST_N low: the challenge, the interrupt table and what it holds pending go. -/
def hostForgotten (s : State) : State := modHif { s with pins := { s.pins with perstN := false } } (fun h => { h with
  nonceAt := none, verifying := false, table := [], pba := [], raised := [] })

/-- The state that PERST_N leaves, before it settles (R385). -/
def perstEnd (s : State) : State := put (execPerstNAssert.clearHif (hostForgotten (linkGone (ringsStopped s)))) F.HIF_FLR_STATUS_fn 0

theorem execPerstNAssert_eq (s : State) : execPerstNAssert s = .next (settled s (perstEnd s)) := rfl

theorem kept_noP0_ringsStopped (s : State) : Kept noP0 (ringsStopped s) := (kept_noP0_dropP0 s).foldl fun _ _ h => h.stopRingsOf

theorem kept_noP0_linkGone (h : Kept noP0 s) : Kept noP0 (linkGone s) := h.put.put.put

theorem kept_noP0_hostForgotten (h : Kept noP0 s) : Kept noP0 (hostForgotten s) := h.updPins.modHif

theorem kept_noP0_perstEnd (s : State) : Kept noP0 (perstEnd s) :=
  (kept_noP0_hostForgotten (kept_noP0_linkGone (kept_noP0_ringsStopped s))).clearHif.put

theorem p0_of_kept (h : Kept noP0 s) : s.hif.p0 = false := h

theorem perstEnd_p0 (s : State) : (perstEnd s).hif.p0 = false := p0_of_kept (kept_noP0_perstEnd s)

/-- The state that an FLR leaves, before it settles (R403). -/
def flrEnd (s : State) (fn : Fin 16) : State :=
  let t := put (stopRingsOf s fn.val) F.HIF_FLR_STATUS_fn (get s F.HIF_FLR_STATUS_fn ||| 2 ^ fn.val)
  let t := modHif t (fun h => { h with
    table := h.table.filter (fun e => decide (e.1 / 128 ≠ fn.val)), pba := h.pba.filter (fun v => decide (v / 128 ≠ fn.val)) })
  raiseGrey (if fn.val = 0 then dropP0 t else t) F.HIF_EVENT_flr

theorem execFlr_eq (s : State) (fn : Fin 16) : execFlr fn s = .next (settled s (flrEnd s fn)) := rfl

theorem flrEnd_p0 (s : State) : (flrEnd s 0).hif.p0 = false := (Kept.raiseGrey (kept_noP0_dropP0 _) :)

theorem wardenStop_p0 (s : State) : (wardenStop s).hif.p0 = false := rfl

theorem wardenFails_p0 (s : State) : Kept noP0 (wardenFails s) := by
  have hstop : Kept noP0 (wardenStop s) := wardenStop_p0 s
  have hend : Kept noP0 (if s.wrd.job.isSome then wrdEnd (wardenStop s) wrdFlashFail else wardenStop s) := Kept.ite hstop.wrdEnd hstop
  exact Kept.ite (Kept.raiseGrey (Kept.upd hend)) hend

theorem wardenExpire_p0 (h : s.wrd.down = false) : (wardenExpire s).hif.p0 = false := by
  rw [wardenExpire, if_neg (Bool.eq_false_iff.1 h)]
  exact (wardenFails_p0 s).inc.raiseGrey

theorem moduleReset_p0 (s : State) (c : Nat) (bad : Option StoreFail) : (moduleReset s c bad).hif.p0 = false :=
  (congrArg (fun t => t.hif.p0) (unrecorded_moduleReset s c bad) :)

theorem resetLow_p0 (s : State) (bad : Option StoreFail) : (resetLow s bad).hif.p0 = false := by
  have hreset : Kept noP0 (moduleReset s 2 bad) := moduleReset_p0 s 2 bad
  exact hreset.upd.tapSettle

/-- Without P0 the PF's accesses go by the windows alone (R386, R389). -/
theorem pf_without_p0 {t : State} (h : t.hif.p0 = false) : t.hif.p0 = false ∧ isP0 t (.fn 0) = false ∧ isP1 (.fn 0) = true ∧
    ∀ a w, permitted t (.fn 0) a w = t.bank.windows.any (fun e => windowPermits e.2 (reqIndex (.fn 0)) a w) := by
  have hp : isP0 t (.fn 0) = false := by rw [isP0, h, Bool.and_false]
  exact ⟨h, hp, rfl, fun a w => by rw [permitted, hp, Bool.false_or]⟩

theorem settled_p0 {u : State} (s : State) (h : u.hif.p0 = false) : (settled s u).hif.p0 = false := (congrArg Hif.p0 (settle_hif _)).trans h

theorem next_p0 {u t : State} (h : finish s u = .next t) (hu : u.hif.p0 = false) : t.hif.p0 = false := by
  cases h
  exact settled_p0 s hu

end

/-- Settles O51: each of the cases leaves P0 not held, and without it the windows alone decide. -/
theorem pfLosesP0 : Obligations.PfLosesP0 := by
  unfold Obligations.PfLosesP0
  intro s t r bad cause hcase
  refine pf_without_p0 ?_
  obtain ⟨hr, h⟩ | h | h | h | rfl | h | ⟨hdown, h⟩ | rfl := hcase
  · exact next_p0 h ((congrArg (fun u => u.hif.p0) (onWrite_of_reaches dropP0 hr)).trans (dropP0_p0 s))
  · exact next_p0 ((execFlr_eq s 0).symm.trans h) (flrEnd_p0 s)
  · exact next_p0 ((execPerstNAssert_eq s).symm.trans h) (perstEnd_p0 s)
  · exact next_p0 h (resetLow_p0 s bad)
  · exact moduleReset_p0 s cause bad
  · obtain ⟨-, -, -, -, -, -, -, hp⟩ := powerOn_fields s
    exact next_p0 h hp
  · exact next_p0 h (wardenExpire_p0 hdown)
  · exact wardenStop_p0 s

end Sys2Proof.Machine
end

section
/-!
SUPPORT. What an operation leaves of the clock, the warden's state, the commit machinery and the active bank. `Fixed.f` says of the model's
operation `f` that it leaves them within a set, as `Kept.f` does of the privileges; for a core tick, a reset of the link and the boot commit.
A set in which the commit machinery and the active bank may change is `Recommitting`.
-/
set_option Elab.async false
namespace Sys2Proof.Machine
open Sys2Proof

/-- The clock, the warden, the commit machinery and the active bank. -/
structure Fixture where
  clk : Clock
  wrd : Wrd
  epc : Epc
  bank : Bank

def fixture (s : State) : Fixture := ⟨s.clk, s.wrd, s.epc, s.bank⟩

/-- The fixture of the state is within `P`. -/
def Fixed (P : Set Fixture) (s : State) : Prop := fixture s ∈ P

/-- A change of the commit machinery and of the active bank stays within the set. -/
class Recommitting (P : Set Fixture) : Prop where
  recommit : ∀ p ∈ P, ∀ e b, { p with epc := e, bank := b } ∈ P

variable {P : Set Fixture}

protected theorem Fixed.put {s : State} (h : Fixed P s) {f : Fld} {v : Nat} : Fixed P (put s f v) := by
  unfold put
  split <;> exact h

/-- A change that leaves the fixture as it was. -/
protected theorem Fixed.upd {s t : State} (h : Fixed P s) (e : fixture t = fixture s := by rfl) : Fixed P t := by
  rw [Fixed, e]
  exact h

protected theorem Fixed.ite {s t : State} {c : Prop} [Decidable c] (h : Fixed P s) (h' : Fixed P t) : Fixed P (if c then s else t) := by
  split
  · exact h
  · exact h'

protected theorem Fixed.foldl {α : Type} {l : List α} {s : State} {g : State → α → State} (h : Fixed P s)
    (hg : ∀ t x, Fixed P t → Fixed P (g t x)) : Fixed P (l.foldl g s) := by
  induction l generalizing s with
  | nil => exact h
  | cons x l ih => exact ih (hg s x h)

protected theorem Fixed.foldlFst {α β : Type} {l : List α} {p : State × β} {g : State × β → α → State × β} (h : Fixed P p.1)
    (hg : ∀ p x, Fixed P p.1 → Fixed P (g p x).1) : Fixed P (l.foldl g p).1 := by
  induction l generalizing p with
  | nil => exact h
  | cons x l ih => exact ih (hg p x h)

/-- A change that a condition asks for. -/
protected theorem Fixed.when {s t : State} {c : Prop} [Decidable c] (h : Fixed P s) (ht : Fixed P s → Fixed P t) :
    Fixed P (if c then t else s) := Fixed.ite (ht h) h

/-- A change that a condition saves. -/
protected theorem Fixed.unless {s t : State} {c : Prop} [Decidable c] (h : Fixed P s) (ht : Fixed P s → Fixed P t) :
    Fixed P (if c then s else t) := Fixed.ite h (ht h)

protected theorem Fixed.wrWord {s : State} (h : Fixed P s) {a : Nat} {v : Word} : Fixed P (wrWord s a v) := h
protected theorem Fixed.updRegs {s : State} {y : Tab Word} (h : Fixed P s) : Fixed P { s with regs := y } := h
protected theorem Fixed.updLtu {s : State} {y : Ltu} (h : Fixed P s) : Fixed P { s with ltu := y } := h
protected theorem Fixed.updBnd {s : State} {y : Bnd} (h : Fixed P s) : Fixed P { s with bnd := y } := h
protected theorem Fixed.updHif {s : State} {y : Hif} (h : Fixed P s) : Fixed P { s with hif := y } := h

/-- A change of the commit machinery or of the active bank. -/
protected theorem Fixed.recommit [Recommitting P] {s t : State} (h : Fixed P s) (hc : t.clk = s.clk := by rfl)
    (hw : t.wrd = s.wrd := by rfl) : Fixed P t := by
  have ht : fixture t = { fixture s with epc := t.epc, bank := t.bank } := by rw [fixture, hc, hw, fixture]
  exact Set.mem_of_eq_of_mem ht (Recommitting.recommit _ h t.epc t.bank)

/-- An optional result keeps the fixture within `P` where there is one. -/
def FixedOpt (P : Set Fixture) (o : Option State) : Prop := ∀ t, o = some t → Fixed P t

protected theorem FixedOpt.none : FixedOpt P none := fun _ h => (Option.some_ne_none _ h.symm).elim

protected theorem Fixed.some {s : State} (h : Fixed P s) : FixedOpt P (some s) := by
  rintro t ⟨⟩
  exact h

protected theorem FixedOpt.ite {c : Prop} [Decidable c] {o o' : Option State} (h : FixedOpt P o) (h' : FixedOpt P o') :
    FixedOpt P (if c then o else o') := by
  split
  · exact h
  · exact h'

protected theorem FixedOpt.getD {o : Option State} {s : State} (h : FixedOpt P o) (hs : Fixed P s) : Fixed P (o.getD s) := by
  cases o with
  | none => exact hs
  | some t => exact h t rfl

protected theorem FixedOpt.bind {o : Option State} {g : State → Option State} (h : FixedOpt P o) (hg : ∀ t, Fixed P t → FixedOpt P (g t)) :
    FixedOpt P (o.bind g) := by
  cases o with
  | none => exact FixedOpt.none
  | some t => exact hg t (h t rfl)

protected theorem FixedOpt.foldl {α : Type} {l : List α} {o : Option State} {g : Option State → α → Option State} (h : FixedOpt P o)
    (hg : ∀ o x, FixedOpt P o → FixedOpt P (g o x)) : FixedOpt P (l.foldl g o) := by
  induction l generalizing o with
  | nil => exact h
  | cons x l ih => exact ih (hg o x h)

section
variable {s : State}
  {a arg1 block c cause cell code d fn fuel g i k key kind l len m n o off p region sid snr t u uw v : Nat}
  {mis staged up : Bool}
  {old : Cfg}
  {x : Fill}
  {e : FillEnv}
  {f : Fld}
  {excess : Int}
  {ids : List (Nat × Nat)}
  {b bs z : List Byte}
  {posts : List RxPost}
  {bad : Option StoreFail}
  {q : Path}
  {r : Requester}
  {w : Window}

/-! ### Ops -/

protected theorem Fixed.putB {b : Bool} (h : Fixed P s) : Fixed P (putB s f b) := h.put
protected theorem Fixed.putI {v : Int} (h : Fixed P s) : Fixed P (putI s f v) := h.put
protected theorem Fixed.addTo (h : Fixed P s) : Fixed P (addTo s f n) := h.put
protected theorem Fixed.inc (h : Fixed P s) : Fixed P (inc s f) := h.addTo
protected theorem Fixed.putMax (h : Fixed P s) : Fixed P (putMax s f v) := Fixed.ite h.put h

protected theorem Fixed.whenB {b : Bool} {f : State → State} (h : Fixed P s) (hf : ∀ t, Fixed P t → Fixed P (f t)) : Fixed P (whenB b f s) :=
  Fixed.ite (hf s h) h

protected theorem Fixed.emit {o : Output} (h : Fixed P s) : Fixed P (emit s o) := h
protected theorem Fixed.stepFree (h : Fixed P s) : Fixed P (stepFree s) := h
protected theorem Fixed.livePut (h : Fixed P s) : Fixed P (livePut s key v) := h

protected theorem Fixed.modAct {f : Act → Act} (h : Fixed P s) : Fixed P (modAct s q f) := by
  cases q <;> grind [modAct, Fixed, fixture]

protected theorem Fixed.modLane {f : LaneSt → LaneSt} (h : Fixed P s) : Fixed P (modLane s p f) := h
protected theorem Fixed.modPkt {f : PktSt → PktSt} (h : Fixed P s) : Fixed P (modPkt s n f) := h

protected theorem Fixed.setPathTime {t : LineTime} (h : Fixed P s) : Fixed P (setPathTime s q t) := by
  cases q <;> grind [setPathTime, Fixed, fixture]

protected theorem Fixed.worked (h : Fixed P s) : Fixed P (worked s n) := Fixed.ite h.modPkt h

/-! ### Events -/

protected theorem Fixed.deliver {src : Nat} (h : Fixed P s) : Fixed P (deliver s src) := Fixed.ite (Fixed.ite h.upd h.emit) h
protected theorem Fixed.deliverOwned {src owner : Nat} (h : Fixed P s) : Fixed P (deliverOwned s src owner) := Fixed.ite h.deliver h

protected theorem Fixed.updateIrq (h : Fixed P s) : Fixed P (updateIrq s a) := by
  grind [updateIrq, Fixed.deliver, Fixed, fixture]

protected theorem Fixed.suppress (h : Fixed P s) : Fixed P (suppress s code) := h
protected theorem Fixed.unsuppress (h : Fixed P s) : Fixed P (unsuppress s code) := h

protected theorem Fixed.spend {v : Sev} (h : Fixed P s) : Fixed P (spend s code v) := by
  grind [spend, Fixed, fixture]

protected theorem Fixed.ctrBump (h : Fixed P s) : Fixed P (ctrBump s c n).1 := by
  grind [ctrBump, Fixed.put]

protected theorem Fixed.monBump (h : Fixed P s) : Fixed P (monBump s f) := by
  grind [monBump, Fixed.ctrBump, Fixed.foldl]

protected theorem Fixed.refreshLog (h : Fixed P s) : Fixed P (refreshLog s) := by
  grind [refreshLog, Fixed.put]

protected theorem Fixed.countDrop {v : Sev} (h : Fixed P s) : Fixed P (countDrop s v) :=
  Fixed.ite h.inc.monBump (Fixed.ite h.inc.monBump.putB.spend.unsuppress.inc h.inc.monBump.putB.suppress).updateIrq

protected theorem Fixed.dropAged (h : Fixed P s) : Fixed P (dropAged s) := h.upd.addTo
protected theorem Fixed.seqUsed (h : Fixed P s) : Fixed P (seqUsed s) := h.put.dropAged.refreshLog

protected theorem Fixed.jetPut {r : Rec} (h : Fixed P s) : Fixed P (jetPut s r).1 := by
  grind [jetPut, Fixed, fixture]

protected theorem Fixed.jetOnly {r : Rec} (h : Fixed P s) : Fixed P (jetOnly s r) := by
  grind [jetOnly, Fixed.jetPut, Fixed.seqUsed, Fixed.countDrop]

protected theorem Fixed.admitRec {r : Rec} (h : Fixed P s) : Fixed P (admitRec s r) := by
  have hj : Fixed P (if decide (r.sev = .black) then jetPut s r else (s, false)).1 := by
    split
    · exact h.jetPut
    · exact h
  refine Fixed.ite (Fixed.ite h.jetOnly h.countDrop) (Fixed.ite (Fixed.ite h.jetOnly h.countDrop) (Fixed.ite h.countDrop ?_))
  split
  · exact h.countDrop
  · exact hj.upd.seqUsed.whenB fun _ ht => ht.inc

protected theorem Fixed.offerTo {v : Sev} {args : List Nat} {into : State → Rec → State} (h : Fixed P s)
    (hf : ∀ t r, Fixed P t → Fixed P (into t r)) : Fixed P (offerTo s code v region block cell args into) :=
  Fixed.ite (hf _ _ h.spend.unsuppress) h.suppress

protected theorem Fixed.offerArgs {v : Sev} {args : List Nat} (h : Fixed P s) : Fixed P (offerArgs s code v region block cell args) :=
  h.offerTo fun _ _ ht => ht.admitRec

protected theorem Fixed.offer {v : Sev} {arg0 : Nat} (h : Fixed P s) : Fixed P (offer s code v region block cell arg0 arg1) := h.stepFree.offerArgs

protected theorem Fixed.raiseWith {k : State → Nat → Nat → State} (h : Fixed P s) (hk : ∀ t c y, Fixed P t → Fixed P (k t c y)) :
    Fixed P (raiseWith s f k) := by
  unfold raiseWith
  split
  · exact h
  · exact Fixed.ite h (hk _ _ _ h.putB).updateIrq

protected theorem Fixed.raiseRec {v : Sev} (h : Fixed P s) : Fixed P (raiseRec s f v region cell arg1) := h.raiseWith fun _ _ _ ht => ht.offer

protected theorem Fixed.ctrAdd (h : Fixed P s) : Fixed P (ctrAdd s c n) := by
  grind [ctrAdd, Fixed.ctrBump, Fixed.raiseRec, Fixed.monBump]

protected theorem Fixed.monCount {event : Nat} (h : Fixed P s) : Fixed P (monCount s region block event ids n) := h.foldl fun _ _ ht => ht.ctrAdd
protected theorem Fixed.monIn {bytes : Nat} (h : Fixed P s) : Fixed P (monIn s region block ids bytes) := h.monCount.monCount
protected theorem Fixed.monOut {bytes : Nat} (h : Fixed P s) : Fixed P (monOut s region block ids bytes) := h.monCount.monCount

protected theorem Fixed.monEvent (h : Fixed P s) : Fixed P (monEvent s f ids) := by
  grind [monEvent, Fixed.monCount]

protected theorem Fixed.raiseFor {v : Sev} (h : Fixed P s) : Fixed P (raiseFor s f v region cell arg1) := h.monEvent.raiseRec

protected theorem Fixed.raise {v : Sev} (h : Fixed P s) : Fixed P (raise s f v arg1) := by
  grind [raise, Fixed.raiseFor]

protected theorem Fixed.raiseGrey (h : Fixed P s) : Fixed P (raiseGrey s f) := h.raise

protected theorem Fixed.raiseAt {v : Sev} (h : Fixed P s) : Fixed P (raiseAt s f v cell ids arg1) := by
  grind [raiseAt, Fixed.raiseRec, Fixed.monEvent]

protected theorem Fixed.greyOf (h : Fixed P s) : Fixed P (greyOf s f ids) := h.raiseAt

protected theorem Fixed.discardOf (h : Fixed P s) : Fixed P (discardOf s f code ids) := by
  grind [discardOf, Fixed.inc, Fixed.monCount]

protected theorem Fixed.discard (h : Fixed P s) : Fixed P (discard s f code) := h.discardOf

/-! ### Access -/

protected theorem Fixed.linkDiscard (h : Fixed P s) : Fixed P (linkDiscard s n) := Fixed.ite h.upd.inc h

/-! ### Tsu -/

protected theorem Fixed.setDomState (h : Fixed P s) : Fixed P (setDomState s d v) := h.put.put
protected theorem Fixed.pushPiece {base : Nat} {r : Int} {change : Bool} (h : Fixed P s) : Fixed P (pushPiece s base r change) := h

protected theorem Fixed.servedUpdate (h : Fixed P s) : Fixed P (servedUpdate s) :=
  Fixed.ite h.putB (Fixed.ite (Fixed.ite h h.putB.raiseGrey) h.pushPiece.put.putB.raiseGrey)

protected theorem Fixed.localFree (h : Fixed P s) : Fixed P (localFree s) := Fixed.ite h h.setDomState

protected theorem Fixed.tsuCommit (h : Fixed P s) : Fixed P (tsuCommit s) := by
  grind [tsuCommit, Fixed.localFree, Fixed.servedUpdate, Fixed.pushPiece]

protected theorem Fixed.tsqPush {g : Ingress} {outKind outId disp xe meta_ queue : Nat} (h : Fixed P s) :
    Fixed P (tsqPush s n g outKind outId disp xe meta_ queue bs) :=
  Fixed.ite h.modPkt.inc.raiseGrey h.modPkt.put

/-! ### Port -/

protected theorem Fixed.modPort {f : PortSt → PortSt} (h : Fixed P s) : Fixed P (modPort s n l f) := h.modPkt
protected theorem Fixed.statAdd (h : Fixed P s) : Fixed P (statAdd s n l i k) := Fixed.ite h.livePut.put.raiseGrey h.livePut
protected theorem Fixed.emitSet {os : Nat} (h : Fixed P s) : Fixed P (emitSet s n l os) := Fixed.ite h.emit h
protected theorem Fixed.showFault (h : Fixed P s) : Fixed P (showFault s n l) := Fixed.ite h (Fixed.ite h.modPort.emitSet h.modPort.emitSet)

protected theorem Fixed.showTribFault (h : Fixed P s) : Fixed P (showTribFault s t) := by
  grind [showTribFault, Fixed.showFault]

protected theorem Fixed.sendStanding (h : Fixed P s) : Fixed P (sendStanding s n l) := Fixed.ite h.emitSet h
protected theorem Fixed.macControl {op : Nat} {params : List Byte} (h : Fixed P s) : Fixed P (macControl s n l op params) := h.emit.statAdd.statAdd
protected theorem Fixed.sendPause {q : Nat} (h : Fixed P s) : Fixed P (sendPause s n l q) := h.macControl
protected theorem Fixed.sendPfc {mask q : Nat} (h : Fixed P s) : Fixed P (sendPfc s n l mask q) := h.macControl

protected theorem Fixed.sendReq {req q : Nat} (h : Fixed P s) : Fixed P (sendReq s n l req q) :=
  Fixed.ite (Fixed.ite (Fixed.ite h.sendPause h).sendPfc (Fixed.ite h.sendPause h)) h

protected theorem Fixed.setReq {req : Nat} (h : Fixed P s) : Fixed P (setReq s n l req) := Fixed.ite h h.modPort.put.sendReq.sendReq

/-! ### Conts -/

protected theorem Fixed.dropDownTrib (h : Fixed P s) : Fixed P (dropDownTrib s t) := h.upd.showTribFault

/-! ### Alarm -/

protected theorem Fixed.alarmResult (h : Fixed P s) : Fixed P (alarmResult s k c) := h.put
protected theorem Fixed.alarmRefused (h : Fixed P s) : Fixed P (alarmRefused s k c) := (Fixed.ite h.put h).alarmResult

protected theorem Fixed.armNow (h : Fixed P s) : Fixed P (armNow s k) := by
  grind [armNow, Fixed.alarmRefused, Fixed.alarmResult, Fixed.putB, Fixed.put]

protected theorem Fixed.armAt {cw period : Nat} (h : Fixed P s) : Fixed P (armAt s k fn cw period) := h.put.put.put.armNow
protected theorem Fixed.disarm (h : Fixed P s) : Fixed P (disarm s k c) := Fixed.ite h.put.alarmResult h

/-! ### Banks -/

protected theorem Fixed.setLoaded (h : Fixed P s) : Fixed P (setLoaded s i) := h.put
protected theorem Fixed.modOther {f : Cfg → Cfg} (h : Fixed P s) : Fixed P (modOther s f) := h

/-! ### HifTx -/

protected theorem Fixed.coalesce {src owner : Nat} (h : Fixed P s) : Fixed P (coalesce s src owner n) := Fixed.ite h.upd.deliverOwned h
protected theorem Fixed.advanceHead (h : Fixed P s) : Fixed P (advanceHead s t) := h.upd.put

protected theorem Fixed.writeBack {r : TxRef} {ts status : Nat} {valid stale timedOut : Bool} (h : Fixed P s) :
    Fixed P (writeBack s r ts status valid stale timedOut) := by
  unfold writeBack
  split
  · exact h
  · exact Fixed.ite h.updHif h.emit.updHif.advanceHead.coalesce

protected theorem Fixed.fate {tx : Option TxRef} {status : Nat} {ts : Option (Nat × Bool)} (h : Fixed P s) : Fixed P (fate s tx status ts) := by
  unfold fate
  grind [Fixed.writeBack]

/-! ### Bpm -/

protected theorem Fixed.modBpm {f : Bpm → Bpm} (h : Fixed P s) : Fixed P (modBpm s n f) := h.modPkt
protected theorem Fixed.backpressure (h : Fixed P s) : Fixed P (backpressure s n) := (h.foldl fun _ _ ht => ht.setReq).putB

protected theorem Fixed.updateLevel (h : Fixed P s) : Fixed P (updateLevel s n t) := by
  grind [updateLevel, Fixed.put, Fixed.raise, Fixed.backpressure]

protected theorem Fixed.charge (h : Fixed P s) : Fixed P (charge s n o t k) := h.modBpm.put.putMax.updateLevel
protected theorem Fixed.uncharge (h : Fixed P s) : Fixed P (uncharge s n o t k) := h.modBpm.put.updateLevel
protected theorem Fixed.moveCharge (h : Fixed P s) : Fixed P (moveCharge s n o p t k) := h.modBpm.updateLevel
protected theorem Fixed.spendTone (h : Fixed P s) : Fixed P (spendTone s n o len) := Fixed.ite h.modBpm h

protected theorem Fixed.pickCells (h : Fixed P s) : Fixed P (pickCells s n k).1 := by
  grind [pickCells, Fixed.stepFree, Fixed.foldl, Fixed.foldlFst]

protected theorem Fixed.newBuf {q : Option Nat} (h : Fixed P s) : Fixed P (newBuf s n o q bs).1 := by
  grind [newBuf, Fixed.pickCells, Fixed.modBpm, Fixed.monIn, Fixed.charge, Fixed, fixture]

protected theorem Fixed.alloc {q : Option Nat} (h : Fixed P s) : Fixed P (alloc s n o q bs).1 := by
  grind [alloc, Fixed.newBuf, Fixed.spendTone]

protected theorem Fixed.bpmDiscard (h : Fixed P s) : Fixed P (bpmDiscard s n code) := h.discard

protected theorem Fixed.unitRelease (h : Fixed P s) : Fixed P (unitRelease s n t u) := by
  grind [unitRelease, Fixed.modBpm, Fixed.uncharge, Fixed, fixture]

protected theorem Fixed.freeSpace {x : Buf} (h : Fixed P s) : Fixed P (freeSpace s n x) := by
  grind [freeSpace, Fixed.uncharge, Fixed.unitRelease, Fixed.foldl]

protected theorem Fixed.settleBuf {b : Nat} {x : Buf} (h : Fixed P s) : Fixed P (settleBuf s n b x) :=
  Fixed.ite h.modBpm.modBpm.freeSpace.monOut (Fixed.ite h.modBpm.modBpm.moveCharge h.modBpm)

protected theorem Fixed.relQ {b : Nat} (h : Fixed P s) : Fixed P (relQ s n b) := by
  grind [relQ, Fixed.settleBuf, Fixed, fixture]

protected theorem Fixed.relRet {b : Nat} (h : Fixed P s) : Fixed P (relRet s n b) := by
  grind [relRet, Fixed.settleBuf, Fixed, fixture]

protected theorem Fixed.relPin {b : Nat} (h : Fixed P s) : Fixed P (relPin s n b) := by
  grind [relPin, Fixed.settleBuf, Fixed, fixture]

protected theorem Fixed.relEntry {f : QFrame} (h : Fixed P s) : Fixed P (relEntry s n f) := Fixed.ite h.relPin h.relQ

/-! ### Tmg -/

protected theorem Fixed.modTmg {f : Tmg → Tmg} (h : Fixed P s) : Fixed P (modTmg s n f) := h.modPkt
protected theorem Fixed.setQueue {q : Nat} {l : List QFrame} (h : Fixed P s) : Fixed P (setQueue s n q l) := h.modTmg
protected theorem Fixed.setMeter {m : Meter} (h : Fixed P s) : Fixed P (setMeter s n k m) := h.modTmg
protected theorem Fixed.offWheel (h : Fixed P s) : Fixed P (offWheel s n key) := h.modTmg

protected theorem Fixed.meterApply (h : Fixed P s) : Fixed P (meterApply s n k) := by
  grind [meterApply, Fixed.setMeter, Fixed.modTmg, Fixed.offWheel, Fixed.foldl, Fixed, fixture]

protected theorem Fixed.onWheel {m : Meter} (h : Fixed P s) : Fixed P (onWheel s n key m) := h.modTmg

protected theorem Fixed.frameLost {ing : Ingress} {ts : Bool} {tx : Option TxRef} {meta_ q : Nat} (h : Fixed P s) :
    Fixed P (frameLost s n ing ts tx meta_ q code bs) :=
  (Fixed.ite h.tsqPush h).fate

protected theorem Fixed.tmgDiscard {q : Nat} (h : Fixed P s) : Fixed P (tmgDiscard s n q code) := h.discardOf
protected theorem Fixed.modPrs {f : Prs → Prs} (h : Fixed P s) : Fixed P (modPrs s n f) := h.modPkt
protected theorem Fixed.ingress {p : PPkt} (h : Fixed P s) : Fixed P (ingress s n p) := h.worked.modPrs

protected theorem Fixed.linkLost {x : LinkItem} (h : Fixed P s) : Fixed P (linkLost s x code) := by
  cases x <;> grind [linkLost, Fixed.fate, Fixed.frameLost]

protected theorem Fixed.pthDiscard (h : Fixed P s) : Fixed P (pthDiscard s code) := h.discard

protected theorem Fixed.overLink {x : LinkItem} {k : State → State} (h : Fixed P s) (hk : ∀ t, Fixed P t → Fixed P (k t)) :
    Fixed P (overLink s n x k) :=
  Fixed.ite h.linkDiscard.linkLost (Fixed.ite h.pthDiscard.linkLost (Fixed.ite h.upd (hk s h)))

protected theorem Fixed.emptied {ahead : Bool} (h : Fixed P s) : Fixed P (emptied s n ahead) := h.modTmg

protected theorem Fixed.flushQueue {q : Nat} (h : Fixed P s) : Fixed P (flushQueue s n q) :=
  Fixed.ite h (h.setQueue.foldl fun _ _ ht => ht.relEntry.tmgDiscard.frameLost).emptied.raiseAt

/-! ### Token -/

protected theorem Fixed.tokenCount (h : Fixed P s) : Fixed P (tokenCount s) := h.put

protected theorem Fixed.tokenWait {r : Ramp} {w : Bool} (h : Fixed P s) : Fixed P (tokenWait s r w) := by
  cases r <;> grind [tokenWait, Fixed.putB, Fixed.put, Fixed.foldl]

protected theorem Fixed.tokenJoin {r : Ramp} (h : Fixed P s) : Fixed P (tokenJoin s r) := h
protected theorem Fixed.tokenRequest {r : Ramp} (h : Fixed P s) : Fixed P (tokenRequest s r) := Fixed.ite h h.tokenJoin.tokenCount.tokenWait

/-! ### LaneBase -/

protected theorem Fixed.laneStep (h : Fixed P s) : Fixed P (laneStep s p v) := h.modLane.putB.put

protected theorem Fixed.engineRequest {e : Nat} (h : Fixed P s) : Fixed P (engineRequest s e) := by
  grind [engineRequest, Fixed.tokenRequest]

protected theorem Fixed.laneAdvance (h : Fixed P s) : Fixed P (laneAdvance s p) := by
  grind [laneAdvance, Fixed.put, Fixed.putB, Fixed.laneStep, Fixed.raiseGrey, Fixed.engineRequest]

protected theorem Fixed.laneRetarget (h : Fixed P s) : Fixed P (laneRetarget s p v) := h.put.laneAdvance

/-! ### Light -/

protected theorem Fixed.keepBursts {k : Burst → Bool} (h : Fixed P s) : Fixed P (keepBursts s k) := h

protected theorem Fixed.loseBurst {b : Burst} (h : Fixed P s) : Fixed P (loseBurst s b c) := by
  grind [loseBurst, Fixed.keepBursts, Fixed.inc, Fixed.greyOf, Fixed.foldl]

protected theorem Fixed.armNext (h : Fixed P s) : Fixed P (armNext s p fuel) := by
  induction fuel generalizing s with
  | zero => exact h
  | succ fuel ih => grind [armNext, Fixed.armAt, Fixed.loseBurst]

protected theorem Fixed.rearmLane (h : Fixed P s) : Fixed P (rearmLane s p) := by
  grind [rearmLane, Fixed.disarm, Fixed.armNext]

protected theorem Fixed.downBursts (h : Fixed P s) : Fixed P (downBursts s p) := Fixed.ite h (h.foldl fun _ _ ht => ht.loseBurst).rearmLane
protected theorem Fixed.sendLight {b : Burst} (h : Fixed P s) : Fixed P (sendLight s b) := h.emit

protected theorem Fixed.endBursts (h : Fixed P s) : Fixed P (endBursts s) := by
  grind [endBursts, Fixed.sendLight, Fixed.keepBursts, Fixed.putB, Fixed.foldl]

protected theorem Fixed.cutBursts (h : Fixed P s) : Fixed P (cutBursts s) :=
  h.foldl fun _ _ ht => (Fixed.ite (ht.foldl fun _ _ ht1 => ht1.put) (ht.foldl fun _ _ ht1 => ht1.put).sendLight).loseBurst.emit

protected theorem Fixed.showDark (h : Fixed P s) : Fixed P (showDark s p) := Fixed.ite h h.putB
protected theorem Fixed.gatesChanged (h : Fixed P s) : Fixed P (gatesChanged s) := (h.cutBursts.foldl fun _ _ ht => ht.showDark).endBursts

/-! ### Defects -/

protected theorem Fixed.aprCheck (h : Fixed P s) : Fixed P (aprCheck s q) := by
  grind [aprCheck, Fixed.putB, Fixed.raiseGrey]

/-! ### Groups -/

protected theorem Fixed.sealResult {field rule : Nat} (h : Fixed P s) : Fixed P (sealResult s g code field rule) := h.put.put.put

/-! ### Prs -/

protected theorem Fixed.sramWrite (h : Fixed P s) : Fixed P (sramWrite s off bs) := h

protected theorem Fixed.slowDescriptor {p : PPkt} {b : Nat} {copy : Bool} (h : Fixed P s) : Fixed P (slowDescriptor s n p b code len copy) := by
  grind [slowDescriptor, Fixed.sramWrite, Fixed.put]

protected theorem Fixed.slowSpend (h : Fixed P s) : Fixed P (slowSpend s n) := h.modPrs
protected theorem Fixed.slowRefused {p : PPkt} (h : Fixed P s) : Fixed P (slowRefused s n p code) := Fixed.ite h.greyOf h.raiseGrey
protected theorem Fixed.dispCount {p : PPkt} (h : Fixed P s) : Fixed P (dispCount s n p code) := h.discardOf

protected theorem Fixed.firmwareMessage {p : PPkt} (h : Fixed P s) : Fixed P (firmwareMessage s n p) := by
  have ha : Fixed P (alloc (slowSpend s n) n 0 none p.bytes).1 := h.slowSpend.alloc
  grind [firmwareMessage, Fixed.dispCount, Fixed.slowRefused, Fixed.bpmDiscard, Fixed.settleBuf, Fixed.stepFree, Fixed.slowDescriptor]

protected theorem Fixed.lineFrame {p : PPkt} {fw : Bool} (h : Fixed P s) : Fixed P (lineFrame s n p fw) := Fixed.ite h.firmwareMessage h.ingress

/-! ### Rings -/

protected theorem Fixed.modHif {f : Hif → Hif} (h : Fixed P s) : Fixed P (modHif s f) := h
protected theorem Fixed.hifDiscard (h : Fixed P s) : Fixed P (hifDiscard s code) := h.discard
protected theorem Fixed.releaseHolds (h : Fixed P s) : Fixed P (releaseHolds s t) := (h.modHif.foldl fun _ _ ht => ht.relPin).put
protected theorem Fixed.stopTx (h : Fixed P s) : Fixed P (stopTx s t) := h.modHif.putB.put.put.put
protected theorem Fixed.stopRx (h : Fixed P s) : Fixed P (stopRx s t) := h.releaseHolds.modHif.putB.put.put

protected theorem Fixed.stopRingsOf (h : Fixed P s) : Fixed P (stopRingsOf s fn) :=
  h.foldl fun _ _ ht => Fixed.ite (Fixed.ite ht.stopTx ht).stopRx (Fixed.ite ht.stopTx ht)

protected theorem Fixed.rxWriteBack {d : List Byte} (h : Fixed P s) : Fixed P (rxWriteBack s t d) := h.emit.put.coalesce

protected theorem Fixed.rxMessage {msg : List Byte} {post : RxPost} (h : Fixed P s) : Fixed P (rxMessage s t msg post) :=
  Fixed.ite h.hifDiscard.rxWriteBack.raiseGrey h.emit.rxWriteBack.inc

/-! ### Cmc -/

protected theorem Fixed.cmcDiscard (h : Fixed P s) : Fixed P (cmcDiscard s n l code) := h.discardOf

protected theorem Fixed.mapRecord {frame : Bool} {r : List Byte} (h : Fixed P s) : FixedOpt P (mapRecord s t frame r) := by
  grind [mapRecord, Fixed, fixture, FixedOpt]

protected theorem Fixed.mapOrderedSet (h : Fixed P s) : Fixed P (mapOrderedSet s n l) := by
  unfold mapOrderedSet
  split
  · exact h.mapRecord.getD h
  · exact h

protected theorem Fixed.receivedSet {os : Nat} (h : Fixed P s) : Fixed P (receivedSet s n l os) :=
  Fixed.ite h (Fixed.ite h.modPort.mapOrderedSet h.modPort)

protected theorem Fixed.setLink (h : Fixed P s) : Fixed P (setLink s n l v) :=
  Fixed.ite (Fixed.ite h.put.raiseGrey h.put).putB.putB.receivedSet.raiseGrey (Fixed.ite h.put.raiseGrey h.put)

protected theorem Fixed.laneDown (h : Fixed P s) : Fixed P (laneDown s n k) := h.putB.putB.putB
protected theorem Fixed.portDown (h : Fixed P s) : Fixed P (portDown s n l) := (h.foldl fun _ _ ht => ht.laneDown).setLink

protected theorem Fixed.streamDropped {ts : List Nat} {sealed : Bool} (h : Fixed P s) : Fixed P (streamDropped s n l ts sealed) :=
  ((h.foldl fun _ _ ht => (Fixed.ite ht.put ht).upd).foldl fun _ _ ht => ht.cmcDiscard.statAdd).modPort

protected theorem Fixed.portChanged {ts : List Nat} {sealed : Bool} (h : Fixed P s) : Fixed P (portChanged s n l ts sealed) := by
  refine Fixed.portDown (Fixed.streamDropped (Fixed.put (Fixed.put (Fixed.put ?_))))
  split
  · exact h.modPort.cmcDiscard.statAdd.frameLost
  · exact h

/-! ### TableAccess -/

protected theorem Fixed.emUse (h : Fixed P s) : Fixed P (emUse s n) := h.put
protected theorem Fixed.setExact {ex : Tab ExSlot} (h : Fixed P s) : Fixed P (setExact s n ex) := h.modPrs.emUse

protected theorem Fixed.exactWrite {act : Option Nat} {active other : Bool} (h : Fixed P s) : Fixed P (exactWrite s n t key act active other).1 := by
  unfold exactWrite
  grind [Fixed.setExact, Fixed.stepFree, Fixed.raiseGrey]

/-! ### CommitRegion -/

protected theorem Fixed.commitPorts {sealed : Bool} (h : Fixed P s) : Fixed P (commitPorts s old n sealed) := by
  grind [commitPorts, Fixed.showFault, Fixed.portChanged, Fixed.laneDown, Fixed.sendStanding, Fixed.foldl]

protected theorem Fixed.newWeight {old new : Nat} (h : Fixed P s) : Fixed P (newWeight s n m key old new) := Fixed.ite h h.modTmg

protected theorem Fixed.newShaper {i : Option Nat} (h : Fixed P s) : Fixed P (newShaper s n key i) := by
  grind [newShaper, Fixed.offWheel, Fixed.onWheel]

protected theorem Fixed.commitShapers (h : Fixed P s) : Fixed P (commitShapers s old n) :=
  (h.foldl fun _ _ ht => Fixed.ite ht ht.newShaper).foldl fun _ _ ht => Fixed.ite ht ht.newShaper

protected theorem Fixed.commitQueues (h : Fixed P s) : Fixed P (commitQueues s old n) := by
  grind [commitQueues, Fixed.flushQueue, Fixed.modTmg, Fixed.newWeight, Fixed.emptied, Fixed.foldl, Fixed, fixture]

protected theorem Fixed.commitNodes (h : Fixed P s) : Fixed P (commitNodes s old n) := by
  grind [commitNodes, Fixed.newWeight, Fixed.foldl]

protected theorem Fixed.commitMeters (h : Fixed P s) : Fixed P (commitMeters s old n) := h.foldl fun _ _ ht => Fixed.ite ht.meterApply ht
protected theorem Fixed.clearOld (h : Fixed P s) : Fixed P (clearOld s n t) := h.modOther.setExact

protected theorem Fixed.regionTakes (h : Fixed P s) : Fixed P (regionTakes s old m n) := by
  grind [regionTakes, Fixed.commitPorts, Fixed.commitNodes, Fixed.commitQueues, Fixed.raiseGrey, Fixed.commitMeters, Fixed.commitShapers,
      Fixed.updateLevel, Fixed.foldl]

protected theorem Fixed.owe (h : Fixed P s) : Fixed P (owe s old m n) := h

/-! ### Retain -/

protected theorem Fixed.modAid {f : AidProt → AidProt} (h : Fixed P s) : Fixed P (modAid s a f) := h
protected theorem Fixed.showAid (h : Fixed P s) : Fixed P (showAid s a) := h.put.put.putB

/-! ### Windows -/

protected theorem Fixed.windowArm {w : Nat} (h : Fixed P s) : Fixed P (windowArm s w) := by
  grind [windowArm, Fixed.disarm, Fixed.put, Fixed.armAt]

/-! ### EpcCommit -/

protected theorem Fixed.armSchedule (h : Fixed P s) : Fixed P (armSchedule s k) := by
  grind [armSchedule, Fixed.put, Fixed.disarm, Fixed.raiseGrey, Fixed.armAt]

protected theorem Fixed.ringToZero (h : Fixed P s) : Fixed P (ringToZero s a) := h.foldl fun _ _ ht => Fixed.ite ht.wrWord ht

protected theorem Fixed.commitRings (h : Fixed P s) : Fixed P (commitRings s old) :=
  h.foldl fun _ _ ht => Fixed.ite (Fixed.ite ht.stopTx.ringToZero ht).stopRx.ringToZero (Fixed.ite ht.stopTx.ringToZero ht)

/-! ### LcyBase -/

protected theorem Fixed.modLcy {f : Lcy → Lcy} (h : Fixed P s) : Fixed P (modLcy s f) := h

protected theorem Fixed.slotPut {key : Option (List Byte)} (h : Fixed P s) : Fixed P (slotPut s k key) :=
  Fixed.ite (Fixed.ite h.putB h).modLcy.putB.inc (Fixed.ite h.putB h).modLcy.putB

protected theorem Fixed.kstAnswer {c : KstCmd} (h : Fixed P s) : Fixed P (kstAnswer s c) := (Fixed.ite h.slotPut h).put

protected theorem Fixed.kstRun (h : Fixed P s) : Fixed P (kstRun s fuel) := by
  induction fuel generalizing s with
  | zero => exact h
  | succ fuel ih => grind [kstRun, Fixed.modLcy, Fixed.kstAnswer, Fixed.slotPut, Fixed, fixture]

protected theorem Fixed.kstServe (h : Fixed P s) : Fixed P (kstServe s) := h.kstRun
protected theorem Fixed.slotCommand {key : Option (List Byte)} (h : Fixed P s) : Fixed P (slotCommand s k key) := h.modLcy.kstServe
protected theorem Fixed.ctxBlank (h : Fixed P s) : Fixed P (ctxBlank s q up i) := h.wrWord.put.put.modLcy
protected theorem Fixed.ctxClear (h : Fixed P s) : Fixed P (ctxClear s q up i) := h.ctxBlank.modLcy

protected theorem Fixed.allCtx {f : State → Bool → Nat → State} (h : Fixed P s) (hf : ∀ t up i, Fixed P t → Fixed P (f t up i)) :
    Fixed P (allCtx s f) :=
  h.foldl fun _ _ ht => ht.foldl fun _ _ ht1 => hf _ _ _ ht1

protected theorem Fixed.clearEpochs (h : Fixed P s) : Fixed P (clearEpochs s q) := (h.allCtx fun _ _ _ ht => ht.ctxClear).put

/-! ### Ltu -/

protected theorem Fixed.modLtu {f : Ltu → Ltu} (h : Fixed P s) : Fixed P (modLtu s f) := h

protected theorem Fixed.updateRef (h : Fixed P s) : Fixed P (updateRef s q) := by
  cases q <;> grind [updateRef, Fixed.modLtu, Fixed.put, Fixed, fixture]

protected theorem Fixed.enterHoldover (h : Fixed P s) : Fixed P (enterHoldover s q) := h.modLtu.putB.put.put.putI.raiseGrey

protected theorem Fixed.pathLost (h : Fixed P s) : Fixed P (pathLost s q) := by
  grind [pathLost, Fixed.updateRef, Fixed.putB, Fixed.disarm, Fixed.modLtu, Fixed.enterHoldover, Fixed.foldl, Fixed, fixture]

protected theorem Fixed.ltuLocks (h : Fixed P s) : Fixed P (ltuLocks s q) := Fixed.ite h.updateRef (Fixed.ite h.pathLost h)

/-! ### ActBase -/

protected theorem Fixed.queueLcm {c : LcmClass} {typ : Nat} {body : List Byte} (h : Fixed P s) : Fixed P (queueLcm s q c typ body) := h.modAct

protected theorem Fixed.putHome {valid : Bool} (h : Fixed P s) : Fixed P (putHome s q n valid) := by
  cases q <;> grind [putHome, Fixed.putB, Fixed.put]

protected theorem Fixed.showGasp (h : Fixed P s) : Fixed P (showGasp s q) := by
  cases q <;> grind [showGasp, Fixed.putB]

protected theorem Fixed.preloadGasp (h : Fixed P s) : Fixed P (preloadGasp s q) := by
  cases q <;> grind [preloadGasp, Fixed, fixture]

protected theorem Fixed.dropUpTrib (h : Fixed P s) : Fixed P (dropUpTrib s t) := h

protected theorem Fixed.dropTribs (h : Fixed P s) : Fixed P (dropTribs s q) :=
  ((h.foldl fun _ _ ht => ht.dropDownTrib).foldl fun _ _ ht => ht.dropUpTrib)

protected theorem Fixed.clearEqds (h : Fixed P s) : Fixed P (clearEqds s q) := h.foldl fun _ _ ht => Fixed.ite ht ht.wrWord
protected theorem Fixed.forgetSecrets (h : Fixed P s) : Fixed P (forgetSecrets s q) := h.modAct

protected theorem Fixed.unregister (h : Fixed P s) : Fixed P (unregister s q) := by
  unfold unregister
  extract_lets s1 s2 s3 s4 s5 s6
  have h2 : Fixed P s2 := h.wrWord.clearEqds.dropTribs
  have h3 : Fixed P s3 := by
    cases q
    · exact h2.putB
    · exact h2.putB
  have h5 : Fixed P s5 := h3.putB.putB.slotCommand.slotCommand
  exact h5.modAct.forgetSecrets.updateRef

protected theorem Fixed.listen (h : Fixed P s) : Fixed P (listen s q) := by
  grind [listen, Fixed.putHome]

protected theorem Fixed.putAct {st : Nat} (h : Fixed P s) : Fixed P (putAct s q st) :=
  Fixed.ite h (Fixed.ite h.put.raiseGrey.preloadGasp.modAct h.put.raiseGrey).showGasp

protected theorem Fixed.actReturn {st : Nat} (h : Fixed P s) : Fixed P (actReturn s q st cause) := by
  grind [actReturn, Fixed.unregister, Fixed.put, Fixed.clearEpochs, Fixed.putAct, Fixed.forgetSecrets, Fixed.modAct, Fixed.listen, Fixed, fixture]

protected theorem Fixed.actDown (h : Fixed P s) : Fixed P (actDown s q) :=
  Fixed.ite (Fixed.ite h.putAct.listen h) (Fixed.ite h.actReturn (Fixed.ite h.putAct h))

protected theorem Fixed.actDisabled (h : Fixed P s) : Fixed P (actDisabled s q) := Fixed.ite h.actReturn h

/-! ### Bnd -/

protected theorem Fixed.dfrDiscard (h : Fixed P s) : Fixed P (dfrDiscard s ids code) := h.discardOf
protected theorem Fixed.bndDiscard (h : Fixed P s) : Fixed P (bndDiscard s ids code) := h.discardOf
protected theorem Fixed.fragDiscard (h : Fixed P s) : Fixed P (fragDiscard s ids code) := Fixed.ite h.bndDiscard h.dfrDiscard
protected theorem Fixed.showCtxs (h : Fixed P s) : Fixed P (showCtxs s) := h.put.put

protected theorem Fixed.bndReassemble {g : Seg} (h : Fixed P s) : Fixed P (bndReassemble s k g).1 := by
  grind [bndReassemble, Fixed.fragDiscard, Fixed.foldl, Fixed, fixture]

protected theorem Fixed.markGroup (h : Fixed P s) : Fixed P (markGroup s q k) := h
protected theorem Fixed.markChain (h : Fixed P s) : Fixed P (markChain s q k sid code) := h

protected theorem Fixed.bndReassembleAll {l : List Released} (h : Fixed P s) : Fixed P (bndReassembleAll s q k l).1 := by
  grind [bndReassembleAll, Fixed.markGroup, Fixed.markChain, Fixed.bndReassemble, Fixed.monOut, Fixed.foldl, Fixed.foldlFst]

protected theorem Fixed.modGroup {f : BndGroup → BndGroup} (h : Fixed P s) : Fixed P (modGroup s q k f) := h

protected theorem Fixed.showGroup (h : Fixed P s) : Fixed P (showGroup s q k) := by
  unfold showGroup
  grind [Fixed.put, Fixed.putB, Fixed.putMax, Fixed.foldl]

protected theorem Fixed.groupAdvance (h : Fixed P s) : Fixed P (groupAdvance s q k v n) := h.put.putB.put

protected theorem Fixed.bndRelease {first : List Seg} {rp : Nat} (h : Fixed P s) : Fixed P (bndRelease s q k first rp).1 := by
  grind [bndRelease, Fixed.modGroup, Fixed.showGroup, Fixed.groupAdvance, Fixed, fixture]

protected theorem Fixed.bndSkip (h : Fixed P s) : Fixed P (bndSkip s q k).1 := by
  grind [bndSkip, Fixed.addTo, Fixed.modGroup, Fixed.bndRelease, Fixed.raiseGrey, Fixed, fixture]

protected theorem Fixed.bndFlush (h : Fixed P s) : Fixed P (bndFlush s q k fuel).1 := by
  induction fuel generalizing s with
  | zero => exact h
  | succ fuel ih => grind [bndFlush, Fixed.bndSkip]

protected theorem Fixed.bondMember (h : Fixed P s) : Fixed P (bondMember s q k n up) := h.greyOf.queueLcm

protected theorem Fixed.bndMembers (h : Fixed P s) : Fixed P (bndMembers s q k) :=
  Fixed.ite h (h.put.put.foldl fun _ _ ht => Fixed.ite ht ht.bondMember)

protected theorem Fixed.bndUpdate (h : Fixed P s) : Fixed P (bndUpdate s q) := h.foldl fun _ _ ht => ht.bndMembers

/-! ### Pth -/

protected theorem Fixed.deliverUnit {u : Unit_} (h : Fixed P s) : Fixed P (deliverUnit s u) := by
  grind [deliverUnit, Fixed.dfrDiscard, Fixed.overLink, Fixed.monCount, Fixed.lineFrame]

protected theorem Fixed.modMerge {f : MergeGroup → MergeGroup} (h : Fixed P s) : Fixed P (modMerge s k f) := h
protected theorem Fixed.showMerge (h : Fixed P s) : Fixed P (showMerge s k) := h.putB.putB.putB.put

protected theorem Fixed.mergeOut {u : Unit_} (h : Fixed P s) : Fixed P (mergeOut s k u v) := by
  grind [mergeOut, Fixed.put, Fixed.putB, Fixed.deliverUnit]

protected theorem Fixed.mergeRun (h : Fixed P s) : Fixed P (mergeRun s k fuel) := by
  induction fuel generalizing s with
  | zero => exact h
  | succ fuel ih => grind [mergeRun, Fixed.modMerge, Fixed.mergeOut, Fixed, fixture]

protected theorem Fixed.mergeSkip (h : Fixed P s) : Fixed P (mergeSkip s k) := by
  grind [mergeSkip, Fixed.addTo, Fixed.modMerge, Fixed.put, Fixed.showMerge, Fixed.mergeRun, Fixed, fixture]

protected theorem Fixed.closeGaps (h : Fixed P s) : Fixed P (closeGaps s k fuel) := by
  induction fuel generalizing s with
  | zero => exact h
  | succ fuel ih => grind [closeGaps, Fixed.mergeSkip]

protected theorem Fixed.mergeResync (h : Fixed P s) : Fixed P (mergeResync s k fuel) := by
  induction fuel generalizing s with
  | zero => exact h
  | succ fuel ih => grind [mergeResync, Fixed.putB, Fixed.put, Fixed.showMerge, Fixed.modMerge, Fixed.mergeOut, Fixed, fixture]

protected theorem Fixed.fitStore (h : Fixed P s) : Fixed P (fitStore s fuel) := by
  induction fuel generalizing s with
  | zero => exact h
  | succ fuel ih => grind [fitStore, Fixed.mergeSkip, Fixed.raiseGrey, Fixed.inc]

protected theorem Fixed.mergeValue {u : Unit_} (h : Fixed P s) : Fixed P (mergeValue s k u v) := by
  unfold mergeValue
  extract_lets _ _ _ _ s1 s2 s3 s4 s5
  have h1 : Fixed P s1 := h.modMerge
  have h2 : Fixed P s2 := h1.pthDiscard.modMerge
  have h3 : Fixed P s3 := h1.modMerge
  have h4 : Fixed P s4 := h3.modMerge
  have h5 : Fixed P s5 :=
    Fixed.ite h3.mergeOut.mergeRun (Fixed.ite (Fixed.ite h3.pthDiscard h4.fitStore) (Fixed.ite h3.pthDiscard h3.pthDiscard))
  exact Fixed.ite (Fixed.ite h2.mergeResync h2.closeGaps.showMerge) h5.closeGaps.showMerge

protected theorem Fixed.pthUnit {u : Unit_} (h : Fixed P s) : Fixed P (pthUnit s u) := by
  grind [pthUnit, Fixed.monCount, Fixed.deliverUnit, Fixed.pthDiscard, Fixed.mergeValue]

protected theorem Fixed.pthUnits {l : List Unit_} (h : Fixed P s) : Fixed P (pthUnits s l) := h.foldl fun _ _ ht => ht.pthUnit
protected theorem Fixed.pthMerges (h : Fixed P s) : Fixed P (pthMerges s) := h.foldl fun _ _ ht => ht.closeGaps.showMerge
protected theorem Fixed.releaseSegs {l : List UpSeg} (h : Fixed P s) : Fixed P (releaseSegs s l) := h.foldl fun _ _ ht => ht.relRet
protected theorem Fixed.releaseRetained {gone : UpSeg → Bool} (h : Fixed P s) : Fixed P (releaseRetained s a gone) := h.releaseSegs.modAid.showAid
protected theorem Fixed.setCopies {l : List UpSeg} (h : Fixed P s) : Fixed P (setCopies s a q l) := h.modAid.showAid
protected theorem Fixed.dlDrop (h : Fixed P s) : Fixed P (dlDrop s a n) := Fixed.ite h h.addTo.greyOf
protected theorem Fixed.dropCopies {gone : UpSeg → Bool} (h : Fixed P s) : Fixed P (dropCopies s a q gone) := Fixed.ite h.setCopies.dlDrop h
protected theorem Fixed.expireCopies (h : Fixed P s) : Fixed P (expireCopies s) := h.foldl fun _ _ ht => ht.dropCopies.dropCopies
protected theorem Fixed.restartSequences (h : Fixed P s) : Fixed P (restartSequences s) := h.foldl fun _ _ ht => Fixed.ite ht ht.put.put.modAid

/-! ### Switch -/

protected theorem Fixed.modPth {f : Pth → Pth} (h : Fixed P s) : Fixed P (modPth s f) := h

protected theorem Fixed.startResend {resend : Bool} (h : Fixed P s) : Fixed P (startResend s resend) :=
  h.foldl fun _ _ ht => Fixed.ite ht.modAid.showAid ht

protected theorem Fixed.switchTo {resend : Bool} (h : Fixed P s) : Fixed P (switchTo s q resend cause) := by
  unfold switchTo
  extract_lets s1 s2 s3 s4 body s5 s6
  have h4 : Fixed P s4 := h.modPth.put.putB.inc.put.put.put.raiseGrey
  have h6 : Fixed P s6 := h4.queueLcm.queueLcm.startResend
  exact h6.when Fixed.servedUpdate

protected theorem Fixed.startHold (h : Fixed P s) : Fixed P (startHold s) := Fixed.ite h h.modPth
protected theorem Fixed.pthWaits {w : Path} {was : Bool} (h : Fixed P s) : Fixed P (pthWaits s w was) := (Fixed.ite h h.raiseGrey).putB.put

protected theorem Fixed.pthRest {w : Path} {was : Bool} (h : Fixed P s) : Fixed P (pthRest s w was) := by
  grind [pthRest, Fixed.startHold, Fixed.put, Fixed.switchTo, Fixed.pthWaits, Fixed.modPth, Fixed, fixture]

protected theorem Fixed.pthEval (h : Fixed P s) : Fixed P (pthEval s) := by
  unfold pthEval
  extract_lets fa fb s1 out s2 was s3
  have h1 : Fixed P s1 := h.putB.putB
  have h3 : Fixed P s3 := (Fixed.ite h1.modPth (h1.when fun h1 => h1.restartSequences.modPth)).putB
  split
  · exact h3.unless fun h3 => Fixed.ite h3.switchTo (h3.when Fixed.switchTo)
  · refine Fixed.ite h3.put.modPth (Fixed.ite h3.put ?_)
    dsimp only
    split
    · exact Fixed.ite h3.modPth.switchTo h3.modPth.pthWaits
    · exact h3.modPth.pthRest

protected theorem Fixed.skewCheck (h : Fixed P s) : Fixed P (skewCheck s) := Fixed.ite (Fixed.ite h.putI.raiseGrey h.putI) h
protected theorem Fixed.copiesCheck (h : Fixed P s) : Fixed P (copiesCheck s q) := Fixed.ite h (h.foldl fun _ _ ht => ht.dropCopies)

protected theorem Fixed.lineSettle (h : Fixed P s) : Fixed P (lineSettle s) := by
  unfold lineSettle
  extract_lets s1 s2 s3 s4 s5 s6
  have h4 : Fixed P s4 := h.ltuLocks.ltuLocks.actDown.actDown.aprCheck.aprCheck.bndUpdate.bndUpdate
  have h6 : Fixed P s6 := h4.pthMerges.skewCheck.copiesCheck.copiesCheck.pthEval
  exact (h6.foldl fun _ _ ht => ht.downBursts).gatesChanged

/-! ### Lane -/

protected theorem Fixed.applySetpoint (h : Fixed P s) : Fixed P (applySetpoint s p) := Fixed.ite h h.putI

/-! ### Grants -/

protected theorem Fixed.applyEqds (h : Fixed P s) : Fixed P (applyEqds s q) := Fixed.ite h (h.foldl fun _ _ ht => ht.put.putB).modAct.showGasp

protected theorem Fixed.applyUpTribs (h : Fixed P s) : Fixed P (applyUpTribs s q) := by
  grind [applyUpTribs, Fixed.dropUpTrib, Fixed.wrWord, Fixed.foldl, Fixed, fixture]

/-! ### Act -/

protected theorem Fixed.sendConfirm (h : Fixed P s) : Fixed P (sendConfirm s q) := by
  grind [sendConfirm, Fixed.queueLcm, Fixed.modAct, Fixed, fixture]

/-! ### Mch -/

protected theorem Fixed.modMch {f : Mch → Mch} (h : Fixed P s) : Fixed P (modMch s f) := h
protected theorem Fixed.showMch (h : Fixed P s) : Fixed P (showMch s) := h.put.put
protected theorem Fixed.mchRxDrop (h : Fixed P s) : Fixed P (mchRxDrop s) := h.inc.raiseGrey
protected theorem Fixed.mchPop (h : Fixed P s) : Fixed P (mchPop s) := h.modMch.showMch

protected theorem Fixed.mchServe {fuel : Nat} (h : Fixed P s) : Fixed P (mchServe s posts fuel) := by
  induction fuel generalizing s posts with
  | zero => exact h
  | succ fuel ih =>
    unfold mchServe
    grind [Fixed.mchPop, Fixed.mchRxDrop, Fixed.modMch, Fixed.hifDiscard, Fixed.inc, Fixed.rxMessage]

protected theorem Fixed.uartDone (h : Fixed P s) : Fixed P (uartDone s) := by
  grind [uartDone, Fixed.mchPop, Fixed.inc, Fixed.emit, Fixed.mchServe]

/-! ### SecPacket -/

protected theorem Fixed.rulesClear (h : Fixed P s) : Fixed P (rulesClear s n) := h.modOther.setExact

protected theorem Fixed.rulesPut {b : List Byte} (h : Fixed P s) : FixedOpt P (rulesPut s n b) :=
  h.rulesClear.modOther.some.foldl fun _ _ ho => ho.bind fun t ht => by
    have hl : Fixed P (stagedLayout t) := ht.upd
    exact .ite hl.exactWrite.updRegs.emUse.some .none

/-! ### Image -/

protected theorem Fixed.secApply {b : List Byte} (h : Fixed P s) : FixedOpt P (secApply s i b) :=
  .ite (h.some.foldl fun _ _ ho => ho.bind fun _ ht => ht.rulesPut) h.modOther.some

protected theorem Fixed.loadSections {es : List (Nat × List Byte)} (h : Fixed P s) : Fixed P (loadSections s es).2 := by
  induction es generalizing s with
  | nil => exact h
  | cons y es ih =>
    unfold loadSections
    split
    · split
      · exact ih (h.secApply _ ‹_›)
      · exact h
    · exact h

/-! ### EpcCmd -/

protected theorem Fixed.dropSids (h : Fixed P s) : Fixed P (dropSids s q) := (h.upd.foldl fun _ _ ht => ht.dfrDiscard).showCtxs

protected theorem Fixed.dropGroup (h : Fixed P s) : Fixed P (dropGroup s q k) := by
  have hr : Fixed P (pthUnits (bndReassembleAll (bndFlush s q k ((bndGroup s q k).buf.length + 1)).1 q k
      (bndFlush s q k ((bndGroup s q k).buf.length + 1)).2).1
      (bndReassembleAll (bndFlush s q k ((bndGroup s q k).buf.length + 1)).1 q k
      (bndFlush s q k ((bndGroup s q k).buf.length + 1)).2).2) := h.bndFlush.bndReassembleAll.pthUnits
  unfold dropGroup
  exact (hr.updBnd.foldl fun _ _ ht => ht.bndDiscard).put.putB.updBnd.showGroup

protected theorem Fixed.pathsetSwitch {modes : List Nat} (h : Fixed P s) : Fixed P (pathsetSwitch s modes) := by
  grind [pathsetSwitch, Fixed.mergeResync, Fixed.releaseRetained, Fixed.setCopies, Fixed.fitStore, Fixed.foldl]

protected theorem Fixed.linemapLane (h : Fixed P s) : Fixed P (linemapLane s p) := (Fixed.ite h.modLane h).laneRetarget.applySetpoint

/-! ### Tick -/

protected theorem Fixed.tickPath (h : Fixed P s) : Fixed P (tickPath s q) := Fixed.ite h.setPathTime h

protected theorem Fixed.tickModule (h : Fixed P s) : Fixed P (tickModule s) := by
  unfold tickModule
  split
  · exact h
  · exact h.put.updLtu

protected theorem Fixed.residency (h : Fixed P s) : Fixed P (residency s) := (h.foldl fun _ _ ht => ht.inc).foldl fun _ _ ht => ht.inc
protected theorem Fixed.holdGates (h : Fixed P s) : Fixed P (holdGates s) := h.foldl fun _ _ ht => Fixed.ite ht.worked ht
protected theorem Fixed.countCycles (h : Fixed P s) : Fixed P (countCycles s) := h.foldl fun _ _ ht => Fixed.ite ht.ctrAdd ht

/-- A core tick changes the clock and no more of the fixture. -/
protected theorem Fixed.tick (h : Fixed P { s with clk := s.clk.tick }) : Fixed P (tick s) := by
  unfold tick
  extract_lets s1 s2 s3 s4 s5
  have h2 : Fixed P s2 := Fixed.when h fun h => h.residency
  have h4 : Fixed P s4 := h2.tickPath.tickPath.tickModule.holdGates.countCycles.endBursts.uartDone.expireCopies
  have h5 : Fixed P s5 := h4.when fun h => h.lineSettle
  exact h5.applyEqds.applyEqds.applyUpTribs.applyUpTribs

end

section
variable {s : State}
  {a arg1 block c cause cell code d fn fuel g i k key kind l len m n o off p region sid snr t u uw v : Nat}
  {mis staged up : Bool}
  {old : Cfg}
  {x : Fill}
  {e : FillEnv}
  {f : Fld}
  {excess : Int}
  {ids : List (Nat × Nat)}
  {b bs z : List Byte}
  {posts : List RxPost}
  {bad : Option StoreFail}
  {q : Path}
  {r : Requester}
  {w : Window}
variable [Recommitting P]

/-! ### Banks -/

protected theorem Fixed.setActive {c : Cfg} (h : Fixed P s) : Fixed P (setActive s c) := h.recommit

/-! ### Groups -/

protected theorem Fixed.groupClear (h : Fixed P s) : Fixed P (groupClear s g) := h.recommit.put

protected theorem Fixed.supersede {secs : Nat} (h : Fixed P s) : Fixed P (supersede s secs) :=
  h.foldl fun _ _ ht => Fixed.ite ht.groupClear.sealResult ht

/-! ### TableAccess -/

protected theorem Fixed.wipeTable (h : Fixed P s) : Fixed P (wipeTable s n t) := h.recommit.setExact

/-! ### CommitRegion -/

protected theorem Fixed.commitTables (h : Fixed P s) : Fixed P (commitTables s old m n) := h.foldl fun _ _ ht => Fixed.ite ht.clearOld ht.wipeTable

/-! ### EpcCommit -/

protected theorem Fixed.setQuiesced {x : Scope} (h : Fixed P s) : Fixed P (setQuiesced s x) := h.recommit.putB
protected theorem Fixed.releaseChan (h : Fixed P s) : Fixed P (releaseChan s p) := h.setQuiesced

protected theorem Fixed.commitEffects (h : Fixed P s) : Fixed P (commitEffects s old m) :=
  (((((h.foldl fun _ _ ht => Fixed.ite (ht.when Fixed.commitTables).owe (ht.when Fixed.commitTables).regionTakes).when Fixed.tsuCommit).when
    fun ht => ht.foldl fun _ _ ht => ht.armSchedule).when fun ht => ht.foldl fun _ _ ht => ht.windowArm).when Fixed.commitRings)

protected theorem Fixed.lineBegin (h : Fixed P s) : Fixed P (lineBegin s m fn) := h.recommit

protected theorem Fixed.switchBanks (h : Fixed P s) : Fixed P (switchBanks s m fn) := by
  unfold switchBanks
  extract_lets s1 old new s2 s3 kept epc s4
  have h3 : Fixed P s3 := (h.unless Fixed.lineBegin).supersede.setActive
  have h4 : Fixed P s4 := h3.recommit
  exact h4.commitEffects

/-! ### Lane -/

protected theorem Fixed.chanCheck (h : Fixed P s) : Fixed P (chanCheck s p) := Fixed.ite h.releaseChan h

/-! ### Image -/

protected theorem Fixed.markLoaded (h : Fixed P s) : Fixed P (markLoaded s b) := (h.foldl fun _ _ ht => ht.setLoaded.put.recommit).put

protected theorem Fixed.loadImage {p0 : Bool} (h : Fixed P s) : Fixed P (loadImage s p0 b len).2 := by
  unfold loadImage
  split
  · exact h
  have hl : Fixed P (loadSections s ((imgEntries b).map fun e => (e.id, imgBody b e))).2 := h.loadSections
  split
  · exact h
  · rw [‹loadSections s _ = _›] at hl
    exact hl.markLoaded

/-! ### EpcCmd -/

protected theorem Fixed.modEpc {f : Epc → Epc} (h : Fixed P s) : Fixed P (modEpc s f) := h.recommit
protected theorem Fixed.lineTakes (h : Fixed P s) : Fixed P (lineTakes s q) := h.setActive.modEpc

protected theorem Fixed.lineEffects {old : State} (h : Fixed P s) : Fixed P (lineEffects old s q) := by
  unfold lineEffects
  extract_lets m s1 valid s2 s3 s4 s5
  have h1 : Fixed P s1 := h.when fun h => h.dropSids
  have h2 : Fixed P s2 := h1.when fun h =>
    (h.foldl fun _ _ ht => Fixed.ite ht ht.put).foldl fun _ _ ht => Fixed.ite ht ht.dropGroup
  have h3 : Fixed P s3 := h2.when fun h => h.pathsetSwitch
  have h4 : Fixed P s4 := h3.when fun h => h.foldl fun _ _ ht => ht.linemapLane
  have h5 : Fixed P s5 := h4.actDisabled.foldl fun _ _ ht => ht.chanCheck
  exact h5.lineSettle

protected theorem Fixed.lineSwitch (h : Fixed P s) : Fixed P (lineSwitch s q) := h.lineTakes.lineEffects
protected theorem Fixed.bootFailed (h : Fixed P s) : Fixed P (bootFailed s code) := h.recommit.put.raise

protected theorem Fixed.bootCommit (h : Fixed P s) : Fixed P (bootCommit s) := by
  unfold bootCommit
  extract_lets b len t
  have ht : Fixed P t := Fixed.putB h.upd
  have hl : Fixed P (loadImage t true (b.take len) len).2 := ht.loadImage
  split
  · exact h.bootFailed
  · rw [‹loadImage t _ _ _ = _›] at hl
    exact hl.inc.put.put.putB.switchBanks.lineSwitch.lineSwitch.put.put.modEpc

protected theorem Fixed.bootApply (h : Fixed P s) : Fixed P (bootApply s) := h.bootCommit

end

/-! ### An idle step -/

theorem clk_of_fixed {s t : State} (h : Fixed {fixture t} s) : s.clk = t.clk := congrArg Fixture.clk (Set.mem_singleton_iff.1 h)

theorem tick_clk (s : State) : (tick s).clk = s.clk.tick :=
  clk_of_fixed (t := { s with clk := s.clk.tick }) (Fixed.tick (P := {fixture { s with clk := s.clk.tick }}) rfl)

theorem settled_clk (s t : State) : (settled s t).clk = t.clk := settle_clk _

theorem settled_pending (s t : State) : (settled s t).pending = s.pending := settle_pending _

theorem step_of_empty {s : State} (h : s.pending = []) : step s = .next (settled s (tick s)) := by
  rw [step, h]
  rfl

/-- Settles O2: with an empty queue a step is a core tick, whose operations leave the clock that it set. -/
theorem idleStepIsCoreTick : Obligations.IdleStepIsCoreTick := by
  unfold Obligations.IdleStepIsCoreTick
  intro s h
  refine ⟨settled s (tick s), step_of_empty h, (settled_pending s _).trans h, ?_, ?_⟩
  · rw [settled_clk, tick_clk]
    rfl
  · rw [settled_clk, tick_clk]
    rfl

end Sys2Proof.Machine
end

section
/-!
SUPPORT. P0 of the PF, function-level reset and PERST_N (R383, R385, R387, R388, R403).
-/
namespace Sys2Proof.Machine
open Sys2Proof

section
variable {s : State}

/-! ### Challenge and response (R387) -/

theorem p0Challenge_locked (h : s.hif.locked = true) : p0Challenge s = put s F.HIF_P0_CTRL_result 3 := if_pos h

theorem p0Challenge_open (h : s.hif.locked = false) (hdown : s.wrd.down = false) : p0Challenge s =
    let u := putWords s F.HIF_P0_NONCE_bits 8 (freeBytes s 32)
    modHif (stepFree (put u F.HIF_P0_CTRL_result 0)) (fun h => { h with nonceAt := some u.clk.ticks }) :=
  (if_neg (Bool.eq_false_iff.1 h)).trans (if_neg (Bool.eq_false_iff.1 hdown))

theorem p0Verify_idle (h : s.hif.verifying = false) : p0Verify s = s := if_pos (by rw [h]; rfl)

/-- The state after a response's check has used its nonce. -/
def p0Checked (s : State) : State := modHif s (fun h => { h with verifying := false, nonceAt := none })

def p0Passed (s : State) : State := modHif (put (p0Checked s) F.HIF_P0_CTRL_result 1) (fun h => { h with fails := 0, p0 := true })

def p0Failed (s : State) : State := raise (modHif (put (p0Checked s) F.HIF_P0_CTRL_result 2) (fun h => { h with
  fails := (s.hif.fails + 1) % 3, locked := s.hif.locked || decide (3 ≤ s.hif.fails + 1) })) F.HIF_EVENT_p0_fail .amber 0

/-- Whether a nonce of the last 10 s stands. -/
def p0Fresh (s : State) : Bool := match s.hif.nonceAt with
  | some t => decide (s.clk.ticks - t ≤ usTicks 10000000)
  | none => false

theorem p0Verify_checks (h : s.hif.verifying = true) (hdown : s.wrd.down = false) : p0Verify s =
    if p0Fresh s && Config.ecdsaVerify s.flash.rootKey (p0Message s) (wordsBytes s F.HIF_P0_SIG_bits 24) then p0Passed s else p0Failed s := by
  have hlocked : (put (p0Checked s) F.HIF_P0_CTRL_result 2).hif.locked = s.hif.locked := by rw [put_hif]; rfl
  have hfailed : p0Failed s = raise (modHif (put (p0Checked s) F.HIF_P0_CTRL_result 2) (fun h => { h with
      fails := (s.hif.fails + 1) % 3, locked := h.locked || decide (3 ≤ s.hif.fails + 1) })) F.HIF_EVENT_p0_fail .amber 0 := by
    simp only [p0Failed, modHif, hlocked]
  rw [hfailed]
  exact if_neg (by simp [h, hdown])

theorem p0Fresh_none (h : s.hif.nonceAt = none) : p0Fresh s = false := by rw [p0Fresh, h]

theorem p0Fresh_some {t : Nat} (h : s.hif.nonceAt = some t) (ht : s.clk.ticks - t ≤ usTicks 10000000) : p0Fresh s = true := by
  rw [p0Fresh, h]
  exact decide_eq_true ht

theorem p0Verify_stale (h : s.hif.verifying = true) (hdown : s.wrd.down = false) (hn : s.hif.nonceAt = none) : p0Verify s = p0Failed s := by
  rw [p0Verify_checks h hdown, p0Fresh_none hn]
  rfl

theorem p0Verify_fresh {t : Nat} (h : s.hif.verifying = true) (hdown : s.wrd.down = false) (hn : s.hif.nonceAt = some t)
    (ht : s.clk.ticks - t ≤ usTicks 10000000) : p0Verify s =
      if Config.ecdsaVerify s.flash.rootKey (p0Message s) (wordsBytes s F.HIF_P0_SIG_bits 24) then p0Passed s else p0Failed s := by
  rw [p0Verify_checks h hdown, p0Fresh_some hn ht, Bool.true_and]

end

/-! ### PERST_N (R385) -/

theorem settled_perstN (s t : State) : (settled s t).pins.perstN = t.pins.perstN := by
  obtain ⟨b, hb⟩ := settle_pins { t with pending := s.pending }
  rw [settled, hb]

theorem settled_hif (s t : State) : (settled s t).hif = t.hif := settle_hif _

theorem bank_of_fixed {s t : State} (h : Fixed {fixture t} s) : s.bank = t.bank := congrArg Fixture.bank (Set.mem_singleton_iff.1 h)

theorem epc_of_fixed {s t : State} (h : Fixed {fixture t} s) : s.epc = t.epc := congrArg Fixture.epc (Set.mem_singleton_iff.1 h)

/-- PERST_N leaves the bank and the commit machinery: stopped rings and a lost link touch neither. -/
theorem fixed_ringsStopped (s : State) : Fixed {fixture s} (ringsStopped s) :=
  Fixed.foldl (s := dropP0 s) (rfl : fixture (dropP0 s) = fixture s) fun _ _ h => h.stopRingsOf

theorem fixed_linkGone {P : Set Fixture} {s : State} (h : Fixed P s) : Fixed P (linkGone s) := h.put.put.put

theorem fixed_hostForgotten {P : Set Fixture} {s : State} (h : Fixed P s) : Fixed P (hostForgotten s) := h

theorem fixed_clearHif {P : Set Fixture} {s : State} (h : Fixed P s) : Fixed P (execPerstNAssert.clearHif s) := h.updRegs

theorem fixed_perstEnd (s : State) : Fixed {fixture s} (perstEnd s) :=
  (fixed_clearHif (fixed_hostForgotten (fixed_linkGone (fixed_ringsStopped s)))).put

theorem perstEnd_perstN (s : State) : (perstEnd s).pins.perstN = false := by
  rw [perstEnd, put_pins]
  rfl

theorem perstEnd_nonceAt (s : State) : (perstEnd s).hif.nonceAt = none := by
  rw [perstEnd, put_hif]
  rfl

theorem get_perstEnd_flr (s : State) : get (perstEnd s) F.HIF_FLR_STATUS_fn = 0 := by
  rw [perstEnd, get_put_same _ _ (by decide)]
  rfl

/-! ### The trained link (R383) -/

/-- The link's speed and width shown. -/
def linkShown (s : State) (speed : Fin 7) (width : Fin 17) : State := put (put s F.HIF_LINK_speed speed.val) F.HIF_LINK_width width.val

/-- The state that the trained link leaves, before it settles. -/
def linkTrained (s : State) (speed : Fin 7) (width : Fin 17) : State :=
  { putB (linkShown s speed width) F.HIF_LINK_flit (decide (speed.val = 6)) with pins := { s.pins with perstN := true } }

theorem execPcieLinkTrained_eq (s : State) (speed : Fin 7) (width : Fin 17) :
    execPcieLinkTrained speed width s = .next (settled s (linkTrained s speed width)) := rfl

theorem get_withPins (s : State) (p : Pins) (f : Fld) : get { s with pins := p } f = get s f := rfl

theorem get_linkTrained_speed (s : State) (speed : Fin 7) (width : Fin 17) : get (linkTrained s speed width) F.HIF_LINK_speed = speed.val := by
  rw [linkTrained, get_withPins, putB, get_put_disjoint _ _ (by decide) (by decide) (by decide), linkShown,
    get_put_disjoint _ _ (by decide) (by decide) (by decide), get_put_same _ _ (by decide)]
  exact Nat.mod_eq_of_lt (Nat.lt_of_lt_of_le speed.isLt (by decide))

theorem get_linkTrained_width (s : State) (speed : Fin 7) (width : Fin 17) : get (linkTrained s speed width) F.HIF_LINK_width = width.val := by
  rw [linkTrained, get_withPins, putB, get_put_disjoint _ _ (by decide) (by decide) (by decide), linkShown, get_put_same _ _ (by decide)]
  exact Nat.mod_eq_of_lt (Nat.lt_of_lt_of_le width.isLt (by decide))

/-- Settles O50: the orders and the check by their equations; PERST_N and the link by what they leave. -/
theorem hostLevelZero : Obligations.HostLevelZero := by
  unfold Obligations.HostLevelZero
  intro s r fn speed width
  refine ⟨fun hr => ⟨fun h => congrArg (finish s) ?_, fun h hdown => ⟨_, rfl, congrArg (finish s) ?_⟩, congrArg (finish s) ?_,
    congrArg (finish s) ?_⟩, fun h => congrArg (finish s) (p0Verify_idle h),
    fun h hdown => ⟨fun hn => congrArg (finish s) ?_, fun t hn ht => congrArg (finish s) ?_⟩, rfl, ⟨_, rfl, rfl⟩, rfl,
    ⟨settled s (perstEnd s), execPerstNAssert_eq s, ?_⟩,
    ⟨settled s (linkTrained s speed width), execPcieLinkTrained_eq s speed width, ?_⟩⟩
  · exact (onWrite_of_reaches _ hr).trans (p0Challenge_locked h)
  · exact (onWrite_of_reaches _ hr).trans (p0Challenge_open h hdown)
  · exact onWrite_of_reaches _ hr
  · exact onWrite_of_reaches _ hr
  · exact p0Verify_stale h hdown hn
  · exact p0Verify_fresh h hdown hn ht
  · rw [settled_hif, settled_perstN, settled_bank, settled_epc]
    exact ⟨perstEnd_p0 s, (get_settled s _ (by decide)).trans (get_perstEnd_flr s), perstEnd_perstN s, perstEnd_nonceAt s,
      bank_of_fixed (fixed_perstEnd s), epc_of_fixed (fixed_perstEnd s)⟩
  · rw [settled_perstN]
    exact ⟨(get_settled s _ (by decide)).trans (get_linkTrained_speed s speed width),
      (get_settled s _ (by decide)).trans (get_linkTrained_width s speed width), rfl⟩

end Sys2Proof.Machine
end

section
/-!
SUPPORT. How the warden's work ends: its flash writes, its trial, its watchdog and its restart (R371, R373, R380, R466).
-/
namespace Sys2Proof.Machine
open Sys2Proof

section
variable {s : State} {b : Bool} {img : List Byte} {f : FwSlot}

/-! ### The ends of the flash writes (R371, R373, R466) -/

/-- A flash write's job is over. -/
def jobDone (s : State) : State := put (modWrd s (fun w => { w with job := none })) F.WRD_RESULT_pct 100

theorem policyDone_good (h : s.wrd.job = some (.policy b img)) :
    policyDone s true = wrdEnd (putPolSlot (jobDone s) b (some (fwSlot img))) 0 := by
  rw [policyDone, h]
  exact if_pos rfl

theorem policyDone_bad (h : s.wrd.job = some (.policy b img)) : policyDone s false = wrdEnd (jobDone s) 7 := by
  rw [policyDone, h]
  exact if_neg Bool.false_ne_true

/-- A written warden slot, which is preferred from now on. -/
def wardenWritten (s : State) (b : Bool) (x : FwSlot) : State :=
  { putWrdSlot s b (some x) with flash := { (putWrdSlot s b (some x)).flash with wrdPref := b } }

theorem wardenDone_good (h : s.wrd.job = some (.warden b img)) :
    wardenDone s true = wrdEnd (wardenWritten (jobDone s) b (fwSlot img)) 0 := by
  rw [wardenDone, h]
  exact if_pos rfl

theorem wardenDone_bad (h : s.wrd.job = some (.warden b img)) : wardenDone s false = wrdEnd (jobDone s) 7 := by
  rw [wardenDone, h]
  exact if_neg Bool.false_ne_true

theorem wardenWritten_regs (s : State) (b : Bool) (x : FwSlot) : (wardenWritten s b x).regs = s.regs := rfl

theorem wrdSlot_wardenWritten (s : State) (b : Bool) (x : FwSlot) : wrdSlot (wardenWritten s b x) b = some x := by
  cases b <;> rfl

theorem calDone_good (h : s.wrd.job = some (.cal img)) : calDone s true = wrdEnd (calLock (calPut (jobDone s) img) false) 0 := by
  rw [calDone, h]
  rfl

theorem calDone_bad (h : s.wrd.job = some (.cal img)) : calDone s false = wrdEnd (calLock (calPartly (jobDone s) img) false) 7 := by
  rw [calDone, h]
  rfl

theorem calPut_cal (s : State) (b : List Byte) : (calPut s b).flash.cal = b := by
  rw [calPut, putB_flash]

theorem policyDone_none (ok : Bool) (h : s.wrd.job = none) : policyDone s ok = s := by rw [policyDone, h]

theorem wardenDone_none (ok : Bool) (h : s.wrd.job = none) : wardenDone s ok = s := by rw [wardenDone, h]

theorem calDone_none (ok : Bool) (h : s.wrd.job = none) : calDone s ok = s := by rw [calDone, h]

/-! ### The warden's trial (R373) -/

theorem trialDue_warden (h : wardenTrial s = some f) (hc : getB s F.CPL_STATUS_trial = false) : trialDue s = wardenFails s :=
  if_pos (by simp [h, hc])

theorem trialConfirm_of_no_trial (hc : getB s F.CPL_STATUS_trial = false) : trialConfirm s = s :=
  if_neg (by rw [hc, Bool.and_false]; exact Bool.false_ne_true)

theorem putWrdSlot_floor (s : State) (b : Bool) (x : Option FwSlot) : (putWrdSlot s b x).flash.wrdFloor = s.flash.wrdFloor := by
  cases b <;> rfl

/-- The warden's trial slot with its confirmation. -/
def wardenConfirmed (s : State) (f : FwSlot) : State := putWrdSlot s (getB s F.WRD_STATUS_wslot) (some { f with trial := false })

theorem confirmTrials_warden (h : wardenTrial s = some f) (hc : getB s F.CPL_STATUS_trial = false) : confirmTrials s =
    { wardenConfirmed s f with flash := { (wardenConfirmed s f).flash with wrdFloor := max s.flash.wrdFloor f.svn } } := by
  rw [confirmTrials, trialConfirm_of_no_trial hc, h, ← putWrdSlot_floor s (getB s F.WRD_STATUS_wslot) (some { f with trial := false })]
  rfl

/-! ### The watchdog (R380) -/

/-- The fixtures in which the warden is down with no job. -/
def wardenOff : Set Fixture := { p | p.wrd.down = true ∧ p.wrd.job = none }

theorem jobCut_wrd (s : State) : (jobCut s).wrd = { s.wrd with job := none } := by
  unfold jobCut
  split
  case h_1 h => rw [← h]
  case h_2 j h =>
    cases j with
    | cal g =>
      change (put _ _ _).wrd = _
      rw [put_wrd]
      rfl
    | policy _ _ => rfl
    | warden _ _ => rfl

theorem off_of_fixed (h : Fixed wardenOff s) : s.wrd.down = true ∧ s.wrd.job = none := h

theorem fixed_wardenStop (s : State) : Fixed wardenOff (wardenStop s) := by
  have hcut : Fixed wardenOff (jobCut (modWrd s (fun w => { w with down := true }))) := by
    change (jobCut _).wrd.down = true ∧ (jobCut _).wrd.job = none
    rw [jobCut_wrd]
    exact ⟨rfl, rfl⟩
  exact hcut.putB.upd

protected theorem Fixed.wrdEnd {P : Set Fixture} {c : Nat} (h : Fixed P s) : Fixed P (wrdEnd s c) :=
  Fixed.ite h.put.putB.raiseGrey h.put.putB.raise

/-- A reset of the warden's core, with the end of the command that ran. -/
def wardenCut (s : State) : State := if s.wrd.job.isSome then wrdEnd (wardenStop s) wrdFlashFail else wardenStop s

/-- The trial of an image given up for slot `b`. -/
def wardenReverts (s : State) (b : Bool) : State :=
  raiseGrey { modWrd s (fun w => { w with slot := some b }) with flash := { s.flash with wrdPref := b } } F.CPL_EVENT_trial_revert

theorem wardenFails_eq (s : State) : wardenFails s =
    if (wardenTrial s).isSome then wardenReverts (wardenCut s) (!getB s F.WRD_STATUS_wslot) else wardenCut s := rfl

theorem fixed_wardenFails (s : State) : Fixed wardenOff (wardenFails s) := by
  have hcut : Fixed wardenOff (wardenCut s) := Fixed.ite (fixed_wardenStop s).wrdEnd (fixed_wardenStop s)
  obtain ⟨hdown, hjob⟩ := off_of_fixed hcut
  rw [wardenFails_eq]
  exact Fixed.ite (Fixed.raiseGrey ⟨hdown, hjob⟩) hcut

theorem wardenExpire_up (h : s.wrd.down = false) :
    wardenExpire s = raiseGrey (inc (wardenFails s) F.WRD_RESETS_count) F.WRD_EVENT_wdt := if_neg (Bool.eq_false_iff.1 h)

theorem wardenExpire_down (h : s.wrd.down = true) : wardenExpire s = s := if_pos h

theorem fixed_wardenExpire (h : s.wrd.down = false) : Fixed wardenOff (wardenExpire s) := by
  rw [wardenExpire_up h]
  exact (fixed_wardenFails s).inc.raiseGrey

/-- Words of the recorder and the monitors apart, the end of a command and a reset of the warden's core write no WRD_STATUS. -/
theorem offRecord_wrdStatus : OffRecord R.WRD_STATUS := by decide

theorem status_wrdEnd (s : State) (c : Nat) : rdWord (wrdEnd s c) R.WRD_STATUS = rdWord s R.WRD_STATUS := by
  have hput : rdWord (putB (put s F.WRD_RESULT_code c) F.WRD_RESULT_busy false) R.WRD_STATUS = rdWord s R.WRD_STATUS :=
    (rdWord_put_ne_one _ _ _ _ (by decide) (by decide)).trans (rdWord_put_ne_one _ _ _ _ (by decide) (by decide))
  unfold wrdEnd
  split
  · exact (rdWord_raise offRecord_wrdStatus _ _ _ (by decide) (by decide)).trans hput
  · exact (rdWord_raise offRecord_wrdStatus _ _ _ (by decide) (by decide)).trans hput

theorem status_wardenCut (s : State) : rdWord (wardenCut s) R.WRD_STATUS = rdWord (wardenStop s) R.WRD_STATUS := by
  unfold wardenCut
  split
  · exact status_wrdEnd ..
  · rfl

theorem status_wardenFails (s : State) : rdWord (wardenFails s) R.WRD_STATUS = rdWord (wardenStop s) R.WRD_STATUS := by
  rw [wardenFails_eq]
  split
  · exact (rdWord_raise offRecord_wrdStatus _ _ _ (by decide) (by decide)).trans (status_wardenCut s)
  · exact status_wardenCut s

theorem status_wardenExpire (h : s.wrd.down = false) : rdWord (wardenExpire s) R.WRD_STATUS = rdWord (wardenStop s) R.WRD_STATUS := by
  rw [wardenExpire_up h]
  exact (rdWord_raise offRecord_wrdStatus _ _ _ (by decide) (by decide)).trans
    ((rdWord_put_ne_one _ _ _ _ (by decide) (by decide)).trans (status_wardenFails s))

theorem getB_wardenStop_running (s : State) : getB (wardenStop s) F.WRD_STATUS_running = false :=
  getB_putB_same (jobCut (modWrd s (fun w => { w with down := true }))) false (by decide) (by decide)

theorem getB_wardenExpire_running (h : s.wrd.down = false) : getB (wardenExpire s) F.WRD_STATUS_running = false := by
  refine (getB_congr (get_eq_of_words fun a ha => ?_)).trans (getB_wardenStop_running s)
  rw [fldWords_one (by decide), List.mem_singleton] at ha
  rw [ha]
  exact status_wardenExpire h

/-! ### The restart (R380, R409) -/

/-- The fixtures with one warden's state. -/
def wardenIs (w : Wrd) : Set Fixture := { p | p.wrd = w }

theorem recommitting_wardenIs (w : Wrd) : Recommitting (wardenIs w) := ⟨fun _ hp _ _ => hp⟩

theorem wrd_of_fixed {w : Wrd} (h : Fixed (wardenIs w) s) : s.wrd = w := h

/-- What the warden does first when it runs again: the boot commit that waited, the key commands, the confirmations of activation. -/
def wardenResumes (s : State) : State :=
  sendConfirm (sendConfirm (kstServe (if s.pwr.controlOn && !s.pwr.booted then bootApply s else s)) .a) .b

theorem wardenResumes_wrd (s : State) : (wardenResumes s).wrd = s.wrd := by
  have := recommitting_wardenIs s.wrd
  have h : Fixed (wardenIs s.wrd) s := (rfl : s.wrd = s.wrd)
  exact wrd_of_fixed (h.when Fixed.bootApply).kstServe.sendConfirm.sendConfirm

theorem wardenRuns_wrd (s : State) (b : Bool) :
    (wardenRuns s b).wrd = { s.wrd with down := false, slot := some b, startedAt := s.clk.ticks } := by
  have hput : (putB (putB s F.WRD_STATUS_running true) F.WRD_STATUS_wslot b).wrd = s.wrd := by rw [putB_wrd, putB_wrd]
  have hclk : (putB (putB s F.WRD_STATUS_running true) F.WRD_STATUS_wslot b).clk = s.clk := by rw [putB_clk, putB_clk]
  rw [wardenRuns, put_wrd, modWrd, hput, ticks, hclk]

theorem wardenRestart_up (h : s.wrd.down = false) : wardenRestart s = s := if_pos (by rw [h]; rfl)

theorem wardenRestart_none (hdown : s.wrd.down = true) (h : wardenPick s (wardenNext s) = none) : wardenRestart s = s := by
  rw [wardenRestart, hdown, h]
  rfl

theorem wardenRestart_some (hdown : s.wrd.down = true) (hw : s.wrd.waiting = none) (h : wardenPick s (wardenNext s) = some b) :
    wardenRestart s = wardenResumes (wardenRuns s b) := by
  have hwaits : (wardenResumes (wardenRuns s b)).wrd.waiting = none := by rw [wardenResumes_wrd, wardenRuns_wrd]; exact hw
  refine (if_neg (by rw [hdown]; decide)).trans ?_
  rw [h]
  change (match (wardenResumes (wardenRuns s b)).wrd.waiting with
    | none => wardenResumes (wardenRuns s b)
    | some (x, p0, p1) => wrdRun (putB (modWrd (wardenResumes (wardenRuns s b)) (fun w => { w with waiting := none })) F.WRD_RESULT_busy false)
        x p0 p1) = _
  rw [hwaits]

theorem wardenRestart_down (hdown : s.wrd.down = true) (hw : s.wrd.waiting = none) :
    (wardenRestart s).wrd.down = (wardenPick s (wardenNext s)).isNone := by
  cases h : wardenPick s (wardenNext s) with
  | none => rw [wardenRestart_none hdown h, hdown]; rfl
  | some b => rw [wardenRestart_some hdown hw h, wardenResumes_wrd, wardenRuns_wrd]; rfl

theorem settled_wrd (s t : State) : (settled s t).wrd = t.wrd := settle_wrd _

end

/-- Settles O46: the writes' ends and the trial by their equations; the watchdog and the restart by what they leave of the warden. -/
theorem wardenWorkEnds : Obligations.WardenWorkEnds := by
  unfold Obligations.WardenWorkEnds
  intro s r b img f
  refine ⟨fun h => ⟨congrArg (finish s) (policyDone_good h), congrArg (finish s) (policyDone_bad h)⟩,
    fun h => ⟨⟨wardenWritten (jobDone s) b (fwSlot img), congrArg (finish s) (wardenDone_good h), wrdSlot_wardenWritten .., rfl,
      wardenWritten_regs ..⟩,
      congrArg (finish s) (wardenDone_bad h)⟩,
    fun h => ⟨⟨calPut (jobDone s) img, congrArg (finish s) (calDone_good h), calPut_cal ..⟩,
      ⟨calPartly (jobDone s) img, congrArg (finish s) (calDone_bad h)⟩⟩,
    fun h => ⟨congrArg (finish s) (policyDone_none b h), congrArg (finish s) (wardenDone_none b h), congrArg (finish s) (calDone_none b h)⟩,
    fun h => congrArg (finish s) (if_pos h), fun h => congrArg (finish s) (if_neg (Bool.eq_false_iff.1 h)),
    fun h hc => ⟨congrArg (finish s) (trialDue_warden h hc),
      fun hr => congrArg (finish s) ((onWrite_of_reaches _ hr).trans (confirmTrials_warden h hc))⟩,
    fun h => congrArg (finish s) (wardenExpire_down h), fun h => ⟨settled s (wardenExpire s), rfl, ?_⟩,
    fun h => congrArg (finish s) (wardenRestart_up h), fun h => ⟨settled s (wardenRestart s), rfl, fun hw => ?_⟩⟩
  · obtain ⟨hdown, hjob⟩ := off_of_fixed (fixed_wardenExpire h)
    rw [settled_wrd, settled_hif]
    exact ⟨hdown, hjob, wardenExpire_p0 h, (getB_settled s _ (by decide)).trans (getB_wardenExpire_running h)⟩
  · rw [settled_wrd]
    exact wardenRestart_down h hw

end Sys2Proof.Machine
end
